-- ==== Sys2Proof/Word.lean ====
section
/-! DEFINITION. The byte type of the model. -/

namespace Sys2Proof

/-- One byte of a packet, a record or an addressed buffer. -/
abbrev Byte := BitVec 8

end Sys2Proof
end

