-- ==== Sys2Proof/Syntax.lean ====
section
/-! DEFINITION. The commands of the block: one constructor of `Instr` per row of the table of operations and events,
with the row's operands: for an opcode of the host, the header of its packet and its decoded parameter field; for an
input or a message from outside, what arrives; for a row the part runs of itself, the object it runs on. -/

namespace Sys2Proof

/-- Which link carried a command (R40, R43): SPI, an open Ethernet session, or the Ethernet port
before a session is open (ETH_HELLO). -/
inductive LinkId where
  | spi
  | eth (i : Fin 2)
  | ethOpen (peer slot : Nat)
  deriving DecidableEq, Repr

/-- The header fields of a command packet that its checks and its reply use (R31, Table CMD-1). -/
structure Hdr where
  link    : LinkId := .spi
  seq     : Nat := 0
  flags   : BitVec 8 := 0
  txn     : Nat := 0
  version : Nat := 1
  crc     : BitVec 32 := 0
  deriving DecidableEq, Repr

/-- An entry of PARAM_READ: ID and instance (R63). -/
structure PRef where
  id   : Nat
  inst : Nat
  deriving DecidableEq, Repr

/-- An entry of a parameter write: ID, instance, value length and value (R63). -/
structure PEntry where
  id   : Nat
  inst : Nat
  len  : Nat
  val  : List Byte
  deriving DecidableEq, Repr

/-- An action record of TXN_STAGE (Table TXN-3). -/
structure ActRec where
  type   : Nat
  object : Nat
  node   : Nat := 0xFF
  value  : List Byte
  deriving DecidableEq, Repr

/-- The jobs of the ten slots (R18, Table ARC-3). -/
inductive SlotJob where
  | edge
  | session (k : Fin 8)
  | setpoints (k : Fin 8)
  | pool
  | hostPackets
  | port (k : Fin 8)
  | siteModem
  | meterSlot (m : Fin 9)
  | meterCommit
  | garnetOutputs
  | garnetSupervise (k : Fin 8)
  | garnetGlobal
  | garnetCompare
  | switchBank
  deriving DecidableEq, Repr

/-- The pilot states of Table OUT-3, in code order. -/
inductive PilotSt where
  | a | b | c | d | e | f | invalid | diode
  deriving DecidableEq, Repr

/-- The requests of a vehicle session (Table VLK-9). -/
inductive ReqKind where
  | sessionSetup | authorization | paymentDetails | serviceDiscovery | chargeParameter | cableCheck
  | preCharge | powerStart | currentDemand | chargingStatus | powerStop | weldingDetection
  | meteringReceipt | certificate
  deriving DecidableEq, Repr

/-- How a vehicle request is answered (R249). -/
inductive Answer where
  | ok | ongoing | finished | failed
  deriving DecidableEq, Repr

/-- Content that arrives in parts and is discarded after a gap (R260, R317, R516). -/
inductive PartsOf where
  | schedule (k : Fin 8)
  | certResp (k : Fin 8)
  | certLoad (slot : Fin 8)
  deriving DecidableEq, Repr

/-- A pilot plateau pair of outlet k at the ADC (R156); mV. -/
structure PilotSample where
  k    : Fin 8
  high : Int
  low  : Option Int := none
  deriving DecidableEq, Repr

/-- A PLC frame of the site link as received (R443, R444, R446): source, destination, the node it was sent to on this hop,
hop count, payload type, counter and body; whether its CRC holds after FEC, and whether it carries the site identifier and
authenticates under the site key. -/
structure PlcFrame where
  src     : Nat
  dst     : Nat
  via     : Nat
  hops    : Nat := 0
  type    : Nat
  counter : Nat
  body    : List Byte := []
  crcOk   : Bool := true
  macOk   : Bool := true
  deriving DecidableEq, Repr

/-- A beacon as received (R451, R452): its root, site frame, relay's hop count, profile and announced raise; the local frame
nearest to its arrival less 200 µs, the frame-edge error measured, ns; whether it passes its CRC and the site key, and whether
its correlation peak is at least 70 % of the expected one. -/
structure Beacon where
  root     : Nat
  site     : Nat
  hop      : Nat
  at_      : Nat
  error    : Int
  profile  : Nat := 1
  raising  : Option (Nat × Nat) := none
  macOk    : Bool := true
  peakOk   : Bool := true
  deriving DecidableEq, Repr

/-- A card's answer to a poll (R478, R479). -/
structure CardAnswer where
  tech    : Nat
  uid     : List Byte
  info    : List Byte := []
  crcOk   : Bool := true
  sigOk   : Option Bool := none
  deriving DecidableEq, Repr

/-- The stamps of a switch-bank channel (R416, R417): mA, °C; whether the sample lay in an on-phase. -/
structure AuxSample where
  n       : Fin 12
  mA      : Nat := 0
  temp    : Int := 25
  onPhase : Bool := true
  deriving DecidableEq, Repr

/-- Everything stamped at step 1 of a frame edge (R20, R21), and what the frame that has ended measured. An input that
is not listed keeps its last stamp. -/
structure EdgeIn where
  /-- Main input, mV (R144). -/
  vmain      : Option Nat := none
  /-- Length of the frame just ended, in CK_GNT cycles (R17) and CK_MTR cycles (R16). -/
  gntCycles  : Nat := 12500
  mtrCycles  : Nat := 25000
  /-- Onyx's health word and the command cores' heartbeat were present (R13). -/
  health     : Bool := true
  heartbeat  : Bool := true
  /-- Error patterns reaching stored queue words: queue, record, word, pattern (R73). -/
  flips      : List (Fin 4 × Nat × Nat × BitVec 39) := []
  /-- Error patterns reaching bytes of the display's memories: Opal memory or frame memory, address, pattern (R508). -/
  dspFlips   : List (Bool × Nat × Byte) := []
  /-- VLCD, mV (R501). -/
  vlcd       : Option Nat := none
  /-- Legal time that has passed in Onyx since the last edge, ticks (R305). -/
  legalTicks : Nat := 0
  pilots     : List PilotSample := []
  gPilots    : List PilotSample := []
  /-- Proximity resistances, Ω (none: open) (R159). -/
  prox       : List (Fin 8 × Option Nat) := []
  /-- VBANK, mV, and the channels of the switch bank (R430, R416). -/
  vbank      : Option Nat := none
  aux        : List AuxSample := []
  /-- Frame averages of the modulator inputs, in counts of full scale 2 ^ 23 (R204, R263). -/
  mods       : List (Fin 48 × Int) := []
  /-- The module's temperature sensor, 0.1 °C (R286). -/
  temp       : Option Int := none
  /-- Error counts of the CAN FD ports: port, transmit, receive (Table POL-8). -/
  canErr     : List (Fin 2 × Nat × Nat) := []
  /-- Levels at the safe-input pads A and B and at the feedback pads (R380, R387); high is true. -/
  si         : List (Fin 16 × Bool × Bool) := []
  cfb        : List (Fin 32 × Bool) := []
  /-- Channels whose test-pulse sample of the frame that has ended read high (R382); channel B is true. -/
  noLow      : List (Fin 16 × Bool) := []
  /-- Pilot drivers whose output disagreed with their command (R392). -/
  driverBad  : List (Fin 8) := []
  /-- Residual-current samples, mA (R347); excitation outside its limits: outlet, 1 open or 2 short (R353); test windings
  found open. -/
  rdc        : List (Fin 8 × Rat) := []
  exc        : List (Fin 8 × Nat) := []
  winding    : List (Fin 8) := []
  /-- Pole voltages of the coupling networks to PE, V (R354). -/
  poles      : List (Fin 8 × Rat × Rat) := []
  deriving DecidableEq, Repr

/-- The commands: first those with a packet header, then those with other operands, then those without, each group in
the order of the table. Each constructor is documented by its row: mnemonic and rule. -/
inductive Instr where
  /-- NOP (R57). -/
  | nop (h : Hdr)
  /-- IDENTIFY (R587). -/
  | identify (h : Hdr)
  /-- LINK_INFO (R587). -/
  | linkInfo (h : Hdr) (flags : Nat)
  /-- ETH_HELLO (R44). -/
  | ethHello (h : Hdr) (slot : Nat) (nonce : List Byte)
  /-- ETH_CLOSE (R57). -/
  | ethClose (h : Hdr)
  /-- FRAME_READ (R587). -/
  | frameRead (h : Hdr)
  /-- PSK_SET (R58). -/
  | pskSet (h : Hdr) (slot : Nat) (key : List Byte)
  /-- PSK_CLEAR (R58). -/
  | pskClear (h : Hdr) (slot : Nat)
  /-- RESET (R58). -/
  | reset (h : Hdr) (reason : Nat)
  /-- PARAM_READ (R64). -/
  | paramRead (h : Hdr) (count : Nat) (entries : List PRef)
  /-- PARAM_WRITE (R66). -/
  | paramWrite (h : Hdr) (count : Nat) (entries : List PEntry)
  /-- PARAM_INFO (R588). -/
  | paramInfo (h : Hdr) (id : Nat)
  /-- PARAM_LIST (R57). -/
  | paramList (h : Hdr) (area page : Nat)
  /-- PARAM_WRITE_X (R68). -/
  | paramWriteX (h : Hdr) (count : Nat) (entries : List PEntry)
  /-- PARAM_DEFAULT_X (R57). -/
  | paramDefaultX (h : Hdr) (area : Nat)
  /-- QUEUE_READ (R76). -/
  | queueRead (h : Hdr) (queue words : Nat)
  /-- QUEUE_DROP (R77). -/
  | queueDrop (h : Hdr) (queue : Nat)
  /-- QUEUE_STATUS (R79). -/
  | queueStatus (h : Hdr) (queue flags : Nat)
  /-- TXN_OPEN (R83). -/
  | txnOpen (h : Hdr)
  /-- TXN_STAGE (R87). -/
  | txnStage (h : Hdr) (count : Nat) (acts : List ActRec)
  /-- TXN_CHECK (R93). -/
  | txnCheck (h : Hdr)
  /-- TXN_COMMIT (R95). -/
  | txnCommit (h : Hdr) (mode frame : Nat)
  /-- TXN_ABORT (R99). -/
  | txnAbort (h : Hdr)
  /-- TXN_QUERY (R86). -/
  | txnQuery (h : Hdr)
  /-- TXN_LIST (R86). -/
  | txnList (h : Hdr)
  /-- OUT_START (R168). -/
  | outStart (h : Hdr) (outlet profile limImp limExp cur : Nat) (session : List Byte)
  /-- OUT_STOP (R171). -/
  | outStop (h : Hdr) (outlet reason : Nat)
  /-- OUT_LIMIT (R170). -/
  | outLimit (h : Hdr) (outlet limImp limExp cur : Nat)
  /-- OUT_DENY (R172). -/
  | outDeny (h : Hdr) (outlet reason : Nat)
  /-- OUT_STATUS (R173). -/
  | outStatus (h : Hdr) (outlet : Nat)
  /-- OUT_PILOT_X (R174). -/
  | outPilotX (h : Hdr) (outlet mode duty : Nat)
  /-- POL_ASSIGN (R221). -/
  | polAssign (h : Hdr) (outlet mask : Nat)
  /-- POL_STATUS (R230). -/
  | polStatus (h : Hdr)
  /-- POL_PROFILE_INFO (R229). -/
  | polProfileInfo (h : Hdr) (slot : Nat)
  /-- POL_PROFILE_LOAD_X (R209). -/
  | polProfileLoadX (h : Hdr) (slot offset : Nat) (data : List Byte)
  /-- POL_PG_CLEAR_X (R215). -/
  | polPgClearX (h : Hdr) (group reason : Nat)
  /-- VLK_STATUS (R261). -/
  | vlkStatus (h : Hdr) (outlet : Nat)
  /-- VLK_SCHEDULE (R260). -/
  | vlkSchedule (h : Hdr) (outlet part total : Nat) (data : List Byte)
  /-- VLK_CERT_RESP (R260). -/
  | vlkCertResp (h : Hdr) (outlet part total status : Nat) (data : List Byte)
  /-- VLK_STATS_CLEAR (R260). -/
  | vlkStatsClear (h : Hdr) (outlet : Nat)
  /-- VLK_KEYGEN_X (R259). -/
  | vlkKeygenX (h : Hdr) (slot curve : Nat)
  /-- VLK_CERT_LOAD_X (R259). -/
  | vlkCertLoadX (h : Hdr) (slot part total : Nat) (data : List Byte)
  /-- VLK_KEY_CLEAR_X (R260). -/
  | vlkKeyClearX (h : Hdr) (slot : Nat)
  /-- VLK_LOOPBACK_X (R260). -/
  | vlkLoopbackX (h : Hdr) (outlet : Nat)
  /-- MTR_READ (R300). -/
  | mtrRead (h : Hdr) (slot : Nat)
  /-- MTR_HARM (R299). -/
  | mtrHarm (h : Hdr) (slot channel : Nat)
  /-- MTR_CAL_INFO (R299). -/
  | mtrCalInfo (h : Hdr) (slot : Nat)
  /-- MTR_CAL_OPEN_X (R294). -/
  | mtrCalOpenX (h : Hdr) (slot band : Nat)
  /-- MTR_CAL_MEASURE_X (R296). -/
  | mtrCalMeasureX (h : Hdr) (slot count : Nat)
  /-- MTR_CAL_RESULT_X (R296). -/
  | mtrCalResultX (h : Hdr) (slot : Nat)
  /-- MTR_CAL_SEAL_X (R297). -/
  | mtrCalSealX (h : Hdr) (slot : Nat)
  /-- MTR_CAL_CLOSE_X (R297). -/
  | mtrCalCloseX (h : Hdr) (slot : Nat)
  /-- LEG_READ (R343). -/
  | legRead (h : Hdr) (slot count : Nat) (codes : List Nat)
  /-- LEG_READING (R332). -/
  | legReading (h : Hdr) (slot kind curve : Nat)
  /-- LEG_READING_GET (R338). -/
  | legReadingGet (h : Hdr) (counter : Nat)
  /-- LEG_CLOCK_SET (R308). -/
  | legClockSet (h : Hdr) (mode : Nat) (value : Int)
  /-- LEG_CLOCK_READ (R343). -/
  | legClockRead (h : Hdr)
  /-- LEG_TARIFF_SET (R320). -/
  | legTariffSet (h : Hdr) (tariff hold mode frame : Nat)
  /-- LEG_TARIFF_INFO (R343). -/
  | legTariffInfo (h : Hdr)
  /-- LEG_LOG_READ (R343). -/
  | legLogRead (h : Hdr) (area count first : Nat)
  /-- LEG_PROFILE_READ (R343). -/
  | legProfileRead (h : Hdr) (slot count first : Nat)
  /-- LEG_INFO (R343). -/
  | legInfo (h : Hdr)
  /-- LEG_TZ_SET (R343). -/
  | legTzSet (h : Hdr) (offset : Int)
  /-- LEG_TARIFF_LOAD_X (R317). -/
  | legTariffLoadX (h : Hdr) (slot offset : Nat) (data : List Byte)
  /-- LEG_ACCESS_X (R339). -/
  | legAccessX (h : Hdr) (action : Nat)
  /-- LEG_CFG_STAGE_X (R340). -/
  | legCfgStageX (h : Hdr) (count : Nat) (entries : List PEntry)
  /-- LEG_CFG_SEAL_X (R340). -/
  | legCfgSealX (h : Hdr)
  /-- LEG_CFG_DISCARD_X (R340). -/
  | legCfgDiscardX (h : Hdr)
  /-- EFI_STATUS (R373). -/
  | efiStatus (h : Hdr) (outlet : Nat)
  /-- EFI_RDC_TEST (R372). -/
  | efiRdcTest (h : Hdr) (outlet : Nat)
  /-- EFI_IMD_TEST_X (R372). -/
  | efiImdTestX (h : Hdr) (port : Nat)
  /-- SAF_CD_ENABLE (R395). -/
  | safCdEnable (h : Hdr) (cd action : Nat)
  /-- SAF_BRAKE_TEST (R397). -/
  | safBrakeTest (h : Hdr) (cd : Nat)
  /-- SAF_STATUS (R410). -/
  | safStatus (h : Hdr)
  /-- SAF_WHY (R409). -/
  | safWhy (h : Hdr) (object : Nat)
  /-- SAF_RESET (R402). -/
  | safReset (h : Hdr) (mask : Nat)
  /-- SAF_INFO (R409). -/
  | safInfo (h : Hdr)
  /-- SAF_CFG_STAGE_X (R408). -/
  | safCfgStageX (h : Hdr) (count : Nat) (entries : List PEntry)
  /-- SAF_CFG_VERIFY_X (R408). -/
  | safCfgVerifyX (h : Hdr)
  /-- SAF_CFG_COMMIT_X (R408). -/
  | safCfgCommitX (h : Hdr) (signature : Nat)
  /-- SAF_CFG_DISCARD_X (R408). -/
  | safCfgDiscardX (h : Hdr)
  /-- AUX_SET (R437). -/
  | auxSet (h : Hdr) (channel mode duty : Nat)
  /-- AUX_STATUS (R438). -/
  | auxStatus (h : Hdr)
  /-- AUX_CLEAR (R427). -/
  | auxClear (h : Hdr) (channel reason : Nat)
  /-- SLK_STATUS (R471). -/
  | slkStatus (h : Hdr)
  /-- SLK_NODES (R471). -/
  | slkNodes (h : Hdr) (page : Nat)
  /-- SLK_SEND (R471). -/
  | slkSend (h : Hdr) (dest flags : Nat) (data : List Byte)
  /-- SLK_SCHED (R461). -/
  | slkSched (h : Hdr) (type siteC group : Nat) (body : List Byte)
  /-- SLK_SCHED_CANCEL (R463). -/
  | slkSchedCancel (h : Hdr) (num : Nat)
  /-- SLK_SCHED_LIST (R471). -/
  | slkSchedList (h : Hdr)
  /-- SLK_KEY_SET_X (R445). -/
  | slkKeySetX (h : Hdr) (key : List Byte)
  /-- SLK_TONEMAP_X (R471). -/
  | slkTonemapX (h : Hdr) (node action : Nat)
  /-- NFC_STATUS (R496). -/
  | nfcStatus (h : Hdr)
  /-- NFC_RD_POLL (R496). -/
  | nfcRdPoll (h : Hdr)
  /-- NFC_RD_XCHG (R480). -/
  | nfcRdXchg (h : Hdr) (handle len : Nat) (data : List Byte)
  /-- NFC_RD_RELEASE (R478). -/
  | nfcRdRelease (h : Hdr) (handle : Nat)
  /-- NFC_TAG_READ (R496). -/
  | nfcTagRead (h : Hdr) (file offset len : Nat)
  /-- NFC_TAG_WRITE (R489). -/
  | nfcTagWrite (h : Hdr) (file offset len : Nat) (data : List Byte)
  /-- NFC_INFO (R496). -/
  | nfcInfo (h : Hdr)
  /-- NFC_SIG_LOAD_X (R481). -/
  | nfcSigLoadX (h : Hdr) (slot : Nat) (profile : List Byte)
  /-- NFC_LP_CAL_X (R483). -/
  | nfcLpCalX (h : Hdr)
  /-- DSP_STATUS (R517). -/
  | dspStatus (h : Hdr)
  /-- DSP_WRITE (R505). -/
  | dspWrite (h : Hdr) (row count : Nat) (data : List Byte)
  /-- DSP_READ (R516). -/
  | dspRead (h : Hdr) (row count : Nat)
  /-- DSP_SHOW_CHECK (R511). -/
  | dspShowCheck (h : Hdr)
  /-- DSP_MAP_LOAD_X (R516). -/
  | dspMapLoadX (h : Hdr) (chunk : Nat) (data : List Byte)
  /-- FLT_STATUS (R536). -/
  | fltStatus (h : Hdr)
  /-- FLT_LOG_READ (R535). -/
  | fltLogRead (h : Hdr) (first count : Nat)
  /-- FLT_RETURN_X (R529). -/
  | fltReturnX (h : Hdr) (kind number : Nat) (reason : List Byte)
  /-- FLT_RETIRE_X (R529). -/
  | fltRetireX (h : Hdr) (kind number : Nat) (reason : List Byte)
  /-- UPD_STATUS (R558). -/
  | updStatus (h : Hdr)
  /-- UPD_OPEN_X (R545). -/
  | updOpenX (h : Hdr) (region flags length identity : Nat)
  /-- UPD_WRITE_X (R546). -/
  | updWriteX (h : Hdr) (region len offset : Nat) (data : List Byte) (bad : Option Nat)
  /-- UPD_FINISH_X (R548). -/
  | updFinishX (h : Hdr) (region : Nat)
  /-- UPD_SCHEDULE_X (R551). -/
  | updScheduleX (h : Hdr) (mask mode frame : Nat)
  /-- UPD_CANCEL_X (R551). -/
  | updCancelX (h : Hdr)
  /-- UPD_ABANDON_X (R549). -/
  | updAbandonX (h : Hdr) (region : Nat)
  /-- UPD_SITE_SEND_X (R550). -/
  | updSiteSendX (h : Hdr) (region group : Nat)
  /-- FRAME_TICK (R20). -/
  | frameTick (e : EdgeIn)
  /-- SYS_PARTNER_LOST (R13). -/
  | sysPartnerLost (beat : Bool)
  /-- SYS_SLOT_OVRUN (R19). -/
  | sysSlotOvrun (job : SlotJob)
  /-- WRITE_PACKET (R40). -/
  | writePacket (bytes : List Byte)
  /-- READ_REPLY (R41). -/
  | readReply (count : Nat)
  /-- DATAGRAM_RECEIVED (R43). -/
  | datagramReceived (peer : Nat) (bytes : List Byte)
  /-- ETH_SESSION_TIMEOUT (R47). -/
  | ethSessionTimeout (i : Fin 2)
  /-- TXN_IDLE_TIMEOUT (R84). -/
  | txnIdleTimeout (n : Nat)
  /-- FINAL_CHECK (R96). -/
  | finalCheck (n : Nat)
  /-- TXN_COMMITTED (R97). -/
  | txnCommitted (n : Nat)
  /-- TXN_ROLLBACK (R102). -/
  | txnRollback (n : Nat)
  /-- ROLLBACK_PHASE_1 (R103). -/
  | rollbackPhase1 (n : Nat)
  /-- ROLLBACK_PHASE_2 (R103). -/
  | rollbackPhase2 (n : Nat)
  /-- SETPOINT_CURRENT_RESTORE (R103). -/
  | setpointCurrentRestore (n : Nat)
  /-- STXN_PREPARE_RESEND (R113). -/
  | stxnPrepareResend (n : Nat)
  /-- STXN_PREPARE_RECEIVED (R113). -/
  | stxnPrepareReceived (source number siteC : Nat) (acts : List ActRec)
  /-- STXN_VOTE_DEADLINE (R113). -/
  | stxnVoteDeadline (n : Nat)
  /-- STXN_ABORT_RESEND (R113). -/
  | stxnAbortResend (n : Nat)
  /-- STXN_ABORT_RECEIVED (R113). -/
  | stxnAbortReceived (source number : Nat)
  /-- STXN_APPLY (R114). -/
  | stxnApply (source number : Nat)
  /-- STXN_OUTCOME_REPORT (R113). -/
  | stxnOutcomeReport (source number : Nat) (applied : Bool)
  /-- STXN_DONE (R115). -/
  | stxnDone (n : Nat)
  /-- POWER_ON (R568). -/
  | powerOn (vmain ticks cell : Nat)
  /-- MAIN_INPUT_LOW (R147). -/
  | mainInputLow (vmain : Nat)
  /-- RST_N (R577). -/
  | rstN (ns : Nat)
  /-- GARNET_UP (R123). -/
  | garnetUp (ok : Bool) (test : Nat) (fb : List Bool)
  /-- ONYX_UP (R124). -/
  | onyxUp (ok : Bool) (test : Nat)
  /-- IMAGE_VERIFIED (R542). -/
  | imageVerified (sigOk : Bool)
  /-- LOOPBACK_SELF_TEST (R135). -/
  | loopbackSelfTest (port : Fin 8) (ok : Bool) (exchange snr : Nat)
  /-- CELL_MONITOR (R137). -/
  | cellMonitor (mV : Nat)
  /-- TAMPER_SAMPLE (R138). -/
  | tamperSample (open0 open1 : Bool)
  /-- POWER_FAIL_DETECTED (R144). -/
  | powerFailDetected (e : EdgeIn)
  /-- PILOT_STATE_ACCEPTED (R157). -/
  | pilotStateAccepted (k : Fin 8)
  /-- PROXIMITY_ACCEPTED (R159). -/
  | proximityAccepted (k : Fin 8)
  /-- AUTH_TIMEOUT (R163). -/
  | authTimeout (k : Fin 8)
  /-- DEFERRAL_TIMEOUT (R192). -/
  | deferralTimeout (k : Fin 8)
  /-- BASIC_FALLBACK (R163). -/
  | basicFallback (k : Fin 8)
  /-- CABLE_CHECK_TIMEOUT (R163). -/
  | cableCheckTimeout (k : Fin 8)
  /-- PRECHARGE_COMPLETE (R182). -/
  | prechargeComplete (k : Fin 8)
  /-- PRECHARGE_TIMEOUT (R163). -/
  | prechargeTimeout (k : Fin 8)
  /-- AC_STOP_TIMEOUT (R179). -/
  | acStopTimeout (k : Fin 8)
  /-- OUT_OVERCURRENT (R180). -/
  | outOvercurrent (k : Fin 8)
  /-- STOP_OPENING (R185). -/
  | stopOpening (k : Fin 8)
  /-- OUT_STOP_LOAD (R185). -/
  | outStopLoad (k : Fin 8)
  /-- WELD_CHECK_DISCHARGED (R186). -/
  | weldCheckDischarged (k : Fin 8)
  /-- OUT_DISCHARGE (R186). -/
  | outDischarge (k : Fin 8)
  /-- WELD_CHECK_EVALUATION (R186). -/
  | weldCheckEvaluation (k : Fin 8)
  /-- FAULT_HOLD_END (R161). -/
  | faultHoldEnd (k : Fin 8)
  /-- STATUS_FRAME_RECEIVED (R207). -/
  | statusFrameReceived (port : Fin 2) (id : Nat) (data : List Byte)
  /-- PG_DEVIATION_FAIL (R214). -/
  | pgDeviationFail (g : Fin 16)
  /-- POL_PG_LOST (R214). -/
  | polPgLost (g : Fin 16)
  /-- GROUP_RECOVERY (R215). -/
  | groupRecovery (g : Fin 16)
  /-- SETPOINT_FRAME_SEND (R206). -/
  | setpointFrameSend (g : Fin 16)
  /-- POL_CAN_BUSOFF (R208). -/
  | polCanBusoff (port : Fin 2) (tec rec : Nat)
  /-- POL_CAN_RECOVER (R208). -/
  | polCanRecover (port : Fin 2)
  /-- MOVE_RAMP_DOWN_END (R222). -/
  | moveRampDownEnd (m : Fin 4)
  /-- BUS_MATCH (R222). -/
  | busMatch (m : Fin 4)
  /-- BUS_MATCH_TIMEOUT (R223). -/
  | busMatchTimeout (m : Fin 4)
  /-- MOVE_TAKE_UP_END (R222). -/
  | moveTakeUpEnd (m : Fin 4)
  /-- TIE_FEEDBACK (R225). -/
  | tieFeedback (t : Fin 8)
  /-- PREAMBLE_DETECTED (R236). -/
  | preambleDetected (k : Fin 8) (at_ : Rat)
  /-- FRAME_CONTROL_DECODED (R236). -/
  | frameControlDecoded (k : Fin 8) (own : Bool) (lenUs rifs : Rat) (at_ : Rat)
  /-- PAYLOAD_DECODED (R237). -/
  | payloadDecoded (k : Fin 8) (ok : Bool) (at_ : Rat)
  /-- VLK_LANE_MISS (R239). -/
  | vlkLaneMiss (k : Fin 8) (at_ : Rat)
  /-- SACK_SENT (R238). -/
  | sackSent (k : Fin 8) (at_ : Rat)
  /-- CM_SLAC_PARM_REQ (R240). -/
  | cmSlacParmReq (k : Fin 8) (runId : Nat)
  /-- M_SOUND (R240). -/
  | mSound (k : Fin 8) (runId attenuation : Nat)
  /-- CM_SLAC_MATCH_REQ (R240). -/
  | cmSlacMatchReq (k : Fin 8) (runId : Nat)
  /-- CM_VALIDATE_REQ (R240). -/
  | cmValidateReq (k : Fin 8) (runId : Nat)
  /-- VLK_SLAC_RETRY (R241). -/
  | vlkSlacRetry (k : Fin 8)
  /-- VLK_SLAC_MATCHED (R241). -/
  | vlkSlacMatched (k : Fin 8)
  /-- VLK_LINK_LOST (R246). -/
  | vlkLinkLost (k : Fin 8) (cause : Nat)
  /-- SLAC_INIT_TIMEOUT (R241). -/
  | slacInitTimeout (k : Fin 8)
  /-- SLAC_JOIN_TIMEOUT (R241). -/
  | slacJoinTimeout (k : Fin 8)
  /-- SETUP_TIMEOUT (R246). -/
  | setupTimeout (k : Fin 8)
  /-- SEQUENCE_TIMEOUT (R249). -/
  | sequenceTimeout (k : Fin 8)
  /-- RESUME_TIMEOUT (R242). -/
  | resumeTimeout (k : Fin 8)
  /-- SDP_REQUEST (R243). -/
  | sdpRequest (k : Fin 8) (tls : Bool)
  /-- TCP_CONNECTION (R243). -/
  | tcpConnection (k : Fin 8)
  /-- TCP_RESET (R246). -/
  | tcpReset (k : Fin 8)
  /-- CLIENT_HELLO (R245). -/
  | clientHello (k : Fin 8) (v13 acceptable : Bool)
  /-- TLS_HANDSHAKE_COMPLETE (R245). -/
  | tlsHandshakeComplete (k : Fin 8) (ok : Bool) (alert : Nat)
  /-- SUPPORTED_APP_PROTOCOL_REQ (R244). -/
  | supportedAppProtocolReq (k : Fin 8) (offers : List (Nat × Nat))
  /-- T1S_PLCA_RUNNING (R241). -/
  | t1sPlcaRunning (port : Fin 2)
  /-- T1S_LINK_LOSS (R235). -/
  | t1sLinkLoss (port : Fin 2) (collision : Bool)
  /-- SESSION_SETUP_REQ (R249). -/
  | sessionSetupReq (k : Fin 8) (evccid sessionId : Nat)
  /-- AUTHORIZATION_REQ (R249). -/
  | authorizationReq (k : Fin 8) (payment : Nat) (sigOk : Bool)
  /-- PAYMENT_DETAILS_REQ (R255). -/
  | paymentDetailsReq (k : Fin 8) (emaid : List Byte) (chain : List Byte) (leafKey : Nat)
  /-- SERVICE_DISCOVERY_REQ (R249). -/
  | serviceDiscoveryReq (k : Fin 8)
  /-- CHARGE_PARAMETER_DISCOVERY_REQ (R249). -/
  | chargeParameterDiscoveryReq (k : Fin 8) (energy departure vMax maxI maxP maxDis : Nat) (bpt : Bool)
  /-- CABLE_CHECK_REQ (R249). -/
  | cableCheckReq (k : Fin 8)
  /-- PRE_CHARGE_REQ (R249). -/
  | preChargeReq (k : Fin 8) (target : Nat)
  /-- POWER_DELIVERY_REQ_START (R249). -/
  | powerDeliveryReqStart (k : Fin 8)
  /-- CURRENT_DEMAND_REQ (R249). -/
  | currentDemandReq (k : Fin 8) (target : Nat) (current : Int) (soc : Nat)
  /-- CHARGING_STATUS_REQ (R249). -/
  | chargingStatusReq (k : Fin 8) (maxI : Option Nat) (soc : Nat)
  /-- POWER_DELIVERY_REQ_STOP (R249). -/
  | powerDeliveryReqStop (k : Fin 8) (pause sessionStop : Bool)
  /-- WELDING_DETECTION_REQ (R249). -/
  | weldingDetectionReq (k : Fin 8)
  /-- METERING_RECEIPT_REQ (R249). -/
  | meteringReceiptReq (k : Fin 8) (sigOk : Bool) (receipt : List Byte)
  /-- CERTIFICATE_INSTALLATION_REQ (R254). -/
  | certificateInstallationReq (k : Fin 8) (update : Bool) (body : List Byte)
  /-- RESPONSE_HANDOFF (R248). -/
  | responseHandoff (k : Fin 8)
  /-- VLK_HOST_WAIT (R254). -/
  | vlkHostWait (k : Fin 8)
  /-- VEHICLE_STATUS_RECORD (R253). -/
  | vehicleStatusRecord (k : Fin 8)
  /-- PART_SEQUENCE_TIMEOUT (R260). -/
  | partSequenceTimeout (of : PartsOf)
  /-- MTR_MOD_FAULT (R268). -/
  | mtrModFault (n : Fin 48) (cause : Nat)
  /-- MTR_MOD_OK (R268). -/
  | mtrModOk (n : Fin 48)
  /-- ZERO_CROSSING (R284). -/
  | zeroCrossing (m : Fin 9)
  /-- MTR_ZC_LOST (R285). -/
  | mtrZcLost (m : Fin 9)
  /-- SETTLE_BOUNDARY (R287). -/
  | settleBoundary (m : Fin 9)
  /-- PULSE_OUTPUT (R289). -/
  | pulseOutput (m : Fin 9)
  /-- HARMONICS_REFRESH (R280). -/
  | harmonicsRefresh (m : Fin 9)
  /-- MTR_CAL_DONE (R296). -/
  | mtrCalDone (m : Fin 9)
  /-- CHECK_VALUE_RECOMPUTE (R303). -/
  | checkValueRecompute (value : List Byte)
  /-- READING_SNAPSHOT (R332). -/
  | readingSnapshot (counter : Nat)
  /-- LEG_READING_READY (R333). -/
  | legReadingReady (counter : Nat)
  /-- SEAL_N (R339). -/
  | sealN (high : Bool)
  /-- EFI_RDC_TRIP (R348). -/
  | efiRdcTrip (k : Fin 8)
  /-- RDC_OFFSET_MEASURE (R350). -/
  | rdcOffsetMeasure (k : Fin 8)
  /-- RDC_SELF_TEST_END (R351). -/
  | rdcSelfTestEnd (k : Fin 8)
  /-- EFI_RDC_FAULT (R353). -/
  | efiRdcFault (k : Fin 8)
  /-- PORT_ASSIGNMENT (R357). -/
  | portAssignment (p : Fin 4)
  /-- SLICE_READBACK_FAIL (R365). -/
  | sliceReadbackFail (p : Fin 4)
  /-- INSULATION_RESULT (R356). -/
  | insulationResult (p : Fin 4) (kOhm : Nat)
  /-- SLICE_END (R358). -/
  | sliceEnd (p : Fin 4)
  /-- IMD_STALE_TRIP (R361). -/
  | imdStaleTrip (k : Fin 8)
  /-- BALANCE_TRIP (R362). -/
  | balanceTrip (k : Fin 8)
  /-- EFI_COUPLING_FAULT (R363). -/
  | efiCouplingFault (k : Fin 8)
  /-- REFERENCE_TEST (R365). -/
  | referenceTest (p : Fin 4) (ok : Bool)
  /-- PE_MEASUREMENT (R366). -/
  | peMeasurement (k : Fin 8) (mOhm : Nat)
  /-- SAFE_INPUT_ACCEPTED (R380). -/
  | safeInputAccepted (i : Fin 16) (b : Bool)
  /-- SAFE_INPUT_DISCREPANCY (R381). -/
  | safeInputDiscrepancy (i : Fin 16)
  /-- TEST_PULSE_MISSING (R382). -/
  | testPulseMissing (i : Fin 16) (b : Bool)
  /-- OUTPUT_TEST (R385). -/
  | outputTest (out : Fin 36) (kind : Nat)
  /-- SO_OVERCURRENT (R386). -/
  | soOvercurrent (so : Fin 32)
  /-- CONTACTOR_FEEDBACK (R387). -/
  | contactorFeedback (so : Fin 32)
  /-- GARNET_STOP (R377). -/
  | garnetStop (cause : Nat)
  /-- SAF_CP_LOSS (R393). -/
  | safCpLoss (k : Fin 8)
  /-- BRAKE_RELEASE (R395). -/
  | brakeRelease (c : Fin 2)
  /-- SS1_TIMEOUT (R396). -/
  | ss1Timeout (c : Fin 2)
  /-- BRAKE_TEST_WINDOW_START (R397). -/
  | brakeTestWindowStart (c : Fin 2)
  /-- BRAKE_TEST_END (R398). -/
  | brakeTestEnd (c : Fin 2)
  /-- SAF_BRAKE_DUE (R399). -/
  | safBrakeDue (c : Fin 2)
  /-- SCFG_N (R408). -/
  | scfgN (high : Bool)
  /-- SHORT_CIRCUIT (R414). -/
  | shortCircuit (n : Fin 12)
  /-- THERMAL_TRIP (R415). -/
  | thermalTrip (n : Fin 12)
  /-- THERMAL_LATCH_CLEAR (R415). -/
  | thermalLatchClear (n : Fin 12)
  /-- OVERCURRENT_TRIP (R416). -/
  | overcurrentTrip (n : Fin 12)
  /-- AUX_OPEN_LOAD (R417). -/
  | auxOpenLoad (n : Fin 12)
  /-- AUX_LOAD_OK (R417). -/
  | auxLoadOk (n : Fin 12)
  /-- BLANKING_END (R421). -/
  | blankingEnd (n : Fin 12)
  /-- RETRY_DELAY_END (R425). -/
  | retryDelayEnd (n : Fin 12)
  /-- RETRY_WINDOW_END (R426). -/
  | retryWindowEnd (n : Fin 12)
  /-- AUX_CTRL_FAULT (R436). -/
  | auxCtrlFault (check : Nat)
  /-- PLC_FRAME_RECEIVED (R444). -/
  | plcFrameReceived (f : PlcFrame)
  /-- SLK_NODE (R446). -/
  | slkNode (addr : Nat)
  /-- PLC_RETRANSMIT (R448). -/
  | plcRetransmit (dest : Nat)
  /-- TONE_MAP_REFRESH (R449). -/
  | toneMapRefresh (addr : Nat)
  /-- BEACON_RELAY (R451). -/
  | beaconRelay (hop : Nat)
  /-- BEACON_RECEIVED (R452). -/
  | beaconReceived (b : Beacon)
  /-- SCHED_DISTRIBUTE (R462). -/
  | schedDistribute (num : Nat)
  /-- SCHED_ACK_DEADLINE (R462). -/
  | schedAckDeadline (num : Nat)
  /-- SCHED_ACTION_RECEIVED (R464). -/
  | schedActionReceived (source num type siteC group : Nat) (body : List Byte)
  /-- SCHED_ACTION_APPLY (R461). -/
  | schedActionApply (source num : Nat)
  /-- SCHED_CANCEL_RECEIVED (R463). -/
  | schedCancelReceived (source num : Nat)
  /-- SCHED_OUTCOME (R464). -/
  | schedOutcome (num : Nat)
  /-- WAKE_REQUEST_SEND (R466). -/
  | wakeRequestSend (dest : Nat)
  /-- LP_PING (R482). -/
  | lpPing (re im : Rat)
  /-- LP_CALIBRATION (R483). -/
  | lpCalibration (re im : Rat)
  /-- POLL (R478). -/
  | poll (found : List CardAnswer)
  /-- CARD_SELECTED (R479). -/
  | cardSelected (c : CardAnswer)
  /-- PRESENCE_CHECK (R478). -/
  | presenceCheck (handle : Nat) (present : Bool)
  /-- HANDLE_IDLE_TIMEOUT (R478). -/
  | handleIdleTimeout (handle : Nat)
  /-- EXCHANGE_ANSWER (R480). -/
  | exchangeAnswer (status : Nat) (data : List Byte)
  /-- NFC_FIELD (R474). -/
  | nfcField (on : Bool)
  /-- TAG_FRAME_RECEIVED (R487). -/
  | tagFrameReceived (frame : List Byte)
  /-- FLT_FENCE (R522). -/
  | fltFence (d : Fin 12)
  /-- FLT_RETURN (R524). -/
  | fltReturn (d : Fin 12)
  /-- FLT_SELFCHECK (R538). -/
  | fltSelfcheck (d : Fin 12) (check : Nat)
  /-- SITE_BLOCK_RECEIVED (R550). -/
  | siteBlockReceived (source number offset : Nat) (data : List Byte)
  /-- UPDATE_ACT_RECEIVED (R553). -/
  | updateActReceived (source num siteC identity : Nat)
  /-- TIE_WELD_CLEARED (R226). -/
  | tieWeldCleared (t : Fin 8)
  /-- READ_STATUS (R578). -/
  | readStatus
  /-- LINK_SYNC (R51). -/
  | linkSync
  /-- LINK_READY (R51). -/
  | linkReady
  /-- PACKET_ADMISSION (R42). -/
  | packetAdmission
  /-- CMD_HOST_LOST (R52). -/
  | cmdHostLost
  /-- PARAM_PERSIST (R121). -/
  | paramPersist
  /-- RESET_RELEASE (R58). -/
  | resetRelease
  /-- COARSE_SERVICE (R126). -/
  | coarseService
  /-- FULL_SERVICE (R130). -/
  | fullService
  /-- POWER_DOWN_OPEN (R146). -/
  | powerDownOpen
  /-- POWER_FAIL_WRITE_SET (R326). -/
  | powerFailWriteSet
  /-- TAIL_RECORD (R326). -/
  | tailRecord
  /-- POWER_FAIL_RECOVERY (R147). -/
  | powerFailRecovery
  /-- DEFERRED_ADMISSION (R192). -/
  | deferredAdmission
  /-- FLT_MTR_ENGINE (R533). -/
  | fltMtrEngine
  /-- MTR_ENGINE_RESTART (R533). -/
  | mtrEngineRestart
  /-- LEG_INTERVAL (R313). -/
  | legInterval
  /-- LEG_TARIFF (R318). -/
  | legTariff
  /-- SLEW_COMPLETE (R309). -/
  | slewComplete
  /-- FOLD_END (R312). -/
  | foldEnd
  /-- PERSIST_WRITE_SET (R326). -/
  | persistWriteSet
  /-- SIGNATURE_START (R333). -/
  | signatureStart
  /-- ACCESS_TIMEOUT (R339). -/
  | accessTimeout
  /-- TARIFF_SELECTION_APPLY (R320). -/
  | tariffSelectionApply
  /-- QUEUED_START (R422). -/
  | queuedStart
  /-- AUX_UV (R430). -/
  | auxUv
  /-- AUX_UV_OK (R431). -/
  | auxUvOk
  /-- ADDR_CONFLICT_END (R447). -/
  | addrConflictEnd
  /-- HELLO_SEND (R446). -/
  | helloSend
  /-- BEACON_SEND (R451). -/
  | beaconSend
  /-- HOLDOVER_START (R453). -/
  | holdoverStart
  /-- HOLDOVER_EXPIRY (R453). -/
  | holdoverExpiry
  /-- ROOT_ELECTION (R457). -/
  | rootElection
  /-- ROOT_TAKEOVER (R457). -/
  | rootTakeover
  /-- SLK_PROFILE (R459). -/
  | slkProfile
  /-- PHONE_UPDATE_BINARY (R489). -/
  | phoneUpdateBinary
  /-- TAG_START (R490). -/
  | tagStart
  /-- NFC_TAG_DONE (R489). -/
  | nfcTagDone
  /-- FD_RELEASE (R493). -/
  | fdRelease
  /-- LEGAL_COMPOSITION (R507). -/
  | legalComposition
  /-- DSP_CRC_OK (R509). -/
  | dspCrcOk
  /-- DSP_BIAS_FAULT (R501). -/
  | dspBiasFault
  /-- CHECK_SCREEN_END (R511). -/
  | checkScreenEnd
  /-- MAP_CHUNK_TIMEOUT (R516). -/
  | mapChunkTimeout
  /-- FENCE_BUILD (R522). -/
  | fenceBuild
  /-- RETIREMENT_RECORD (R528). -/
  | retirementRecord
  /-- LOCKSTEP_MISMATCH (R531). -/
  | lockstepMismatch
  /-- FLT_AGATE (R532). -/
  | fltAgate
  /-- SITE_BLOCK_SEND (R550). -/
  | siteBlockSend
  /-- UPD_ACTIVATION (R552). -/
  | updActivation
  /-- ACTIVATION_WAIT_EXPIRY (R552). -/
  | activationWaitExpiry
  /-- VIO_LOW (R566). -/
  | vioLow
  /-- PILOT_SUPPLY_FAULT (R567). -/
  | pilotSupplyFault
  /-- PILOT_SUPPLY_OK (R567). -/
  | pilotSupplyOk
  /-- VIO_RESTORED (R566). -/
  | vioRestored
  /-- AGATE_UNITS_RESTARTED (R532). -/
  | agateUnitsRestarted
  deriving DecidableEq, Repr

end Sys2Proof
end

