-- ==== Sys2Proof/Decode.lean ====
section
/-! DEFINITION. Words that spell commands: the table of operations and events gives its rows no bits, so no word spells one. The
bytes of host packets are read in Machine/Host.lean, where packets are admitted. -/

namespace Sys2Proof

/-- The command that a table word spells: none, since no row of the table has an encoding. -/
def decodeTableWord (_nbits _w : Nat) : Option Instr := none

end Sys2Proof
end

