-- ==== Sys2Proof/Config.lean ====
section
/-! DEFINITION. What one part has of its own (numbers programmed at manufacture, versions) and the free values: constants
without a body, so that no proof can rest on a value the spec does not give. -/

namespace Sys2Proof.Config

/-- The 8-byte serial number (R587). -/
opaque serial : BitVec 64

/-- The hardware revision (R587). -/
opaque hwRev : BitVec 8

/-- Garnet's firmware versions, cores A and B (R409, R587). -/
opaque garnetVersion : Bool → BitVec 32

/-- The check value of the installed Onyx firmware (R303). -/
opaque onyxCheck : BitVec 64

/-- Onyx's public key on a curve, 65 bytes (R335). -/
opaque onyxPublicKey : Nat → Nat → BitVec 8

/-- Bytes that a random source, a private key or an algorithm kept outside this model supplies, by the draw counter. -/
opaque freeByte : Nat → Nat → BitVec 8

/-- A number the spec leaves open, by the draw counter. -/
opaque freeNat : Nat → Nat

/-- A truth value the spec leaves open, by the draw counter. -/
opaque freeBool : Nat → Bool

/-- A signature of Onyx over a record with the key of a curve (R335): byte `i` for a message, by the draw counter. -/
opaque signature : Nat → List (BitVec 8) → Nat → BitVec 8

/-- A public key made for a vehicle-link key slot (R259), by curve and key number. -/
opaque vlkPublicKey : Nat → Nat → Nat → BitVec 8

/-- Whether a signature verifies (R481, R542): key, message, signature. -/
opaque verifies : Nat → List (BitVec 8) → List (BitVec 8) → Bool

/-- Whether a schedule or a signed response body decodes as EXI (R260). -/
opaque exiOk : List (BitVec 8) → Bool

/-- Whether a certificate chain holds the public key of a slot's private key in its leaf and is signed in order (R259):
curve, key number, chain. -/
opaque chainOk : Nat → Nat → List (BitVec 8) → Bool

/-- The tag's originality file (Table NFC-3): UID, reserved bytes and signature, and the public key that verifies it. -/
opaque tagFile : Nat → BitVec 8
opaque tagPublicKey : Nat → BitVec 8

/-- The factory amplitude of the antenna's response (R483). -/
opaque antennaAmp : Rat

/-- The square root the metrology engine and its replies use for effective values (R276). -/
opaque sqrtRat : Rat → Rat

/-- How a measured value is rounded to the unit of a reply field. -/
opaque roundUnit : Rat → Int

/-- The fractional delay that corrects phase (R276): channel, samples, angle. -/
opaque fracDelay : List Rat → Rat → Rat

/-- What a 32-bit float that is no finite number stands for, by its pattern. -/
opaque f32Special : Nat → Rat

/-- The 32-bit float pattern that stands for a rational. -/
opaque f32Of : Rat → Nat

/-- Whether a value half-way between two integers rounds up. -/
opaque tieUp : Rat → Bool

/-- Harmonic orders of a window of samples (R280): slot, channel, order, frame. -/
opaque harmonic : Nat → Nat → Nat → Nat → Nat

/-- The 6 × 8 characters of the legal rows (R506): the pixels of a row of a character, the leftmost in bit 5. -/
opaque glyphRow : Char → Nat → BitVec 8

/-- The words in which the legal rows name a total (R506). -/
opaque totalText : List Char

end Sys2Proof.Config
end

