-- ==== Sys2Proof/Machine/State.lean ====
section
/-! DEFINITION. The state of the part: every register, queue, buffer, counter, mode, timer and pin the spec gives it, as
plain data, and the state after reset. -/

namespace Sys2Proof.Machine

open Host (Cell)

/-- One stored 39-bit queue word (R73): 32 data bits and the error pattern that has reached its
39 stored bits (data and SECDED check bits). -/
structure QWord where
  data : BitVec 32
  flip : BitVec 39 := 0
  deriving DecidableEq, Repr

/-- A queue record: four words (R73, Table CMD-13). -/
structure QRec where
  w0 : QWord
  w1 : QWord
  w2 : QWord
  w3 : QWord
  deriving DecidableEq, Repr

/-- A host-read queue (Table CMD-12): its unread records in order, the read position within the
first of them (R76), PSEQ (R74), the pending LOST mark (R75) and the counts of R79. -/
structure Queue where
  recs        : List QRec := []
  pos         : Nat := 0
  pseq        : Nat := 0
  lostMark    : Bool := false
  corrected   : Nat := 0
  uncorrected : Nat := 0
  lost        : Nat := 0
  deriving DecidableEq, Repr

/-- A reply packet (R31, R34): status, detail, free slots, frame and result. -/
structure Reply where
  link   : LinkId
  seq    : Nat
  opcode : Nat
  flags  : BitVec 8
  txn    : Nat
  cls    : Nat
  slots  : Nat
  detail : Nat
  frame  : Nat
  result : List Byte
  deriving DecidableEq, Repr

/-- A retained command of a sequence window (R39); no reply while it still executes. -/
structure Retained where
  seq   : Nat
  crc   : BitVec 32
  reply : Option Reply
  deriving DecidableEq, Repr

/-- An accepted host command that takes effect at the next edge (R23). -/
structure DueCmd where
  h       : Hdr
  cmd     : Instr
  opcode  : Nat
  frame   : Nat
  cls     : Nat
  detail  : Nat
  res     : Option (List Byte)
  discard : Bool := false
  deriving DecidableEq, Repr

/-- A packet that has arrived whole and waits for admission (R42). -/
structure WaitPkt where
  link  : LinkId
  bytes : List Byte
  deriving DecidableEq, Repr

/-- The link counters of LINK_INFO (Table CMD-18), u32 and saturating. -/
structure LinkCounters where
  spiAdmitted : Nat := 0
  spiSync     : Nat := 0
  spiLength   : Nat := 0
  spiNoSlot   : Nat := 0
  spiNotReady : Nat := 0
  ethAccepted : Nat := 0
  ethBad      : Nat := 0
  ethTag      : Nat := 0
  ethCounter  : Nat := 0
  ethUnknown  : Nat := 0
  deriving DecidableEq, Repr

/-- An open Ethernet session (R44 to R48). -/
structure EthSession where
  sid      : Nat
  slot     : Nat
  key      : List Byte
  rxHigh   : Nat
  rxSeen   : List Nat
  txNext   : Nat
  lastRx   : Nat
  peer     : Nat
  window   : List Retained
  deriving DecidableEq, Repr

/-- CMD_AUTH_FAIL reporting of one key slot (R46). -/
structure AuthFail where
  count    : Nat := 0
  lastSent : Option Nat := none
  deriving DecidableEq, Repr

/-- The host links: SPI (R40 to R42, R50, R51), Ethernet sessions (R43 to R49) and the key store. `tail` counts the replies at
the end of the FIFO that were sent before replies of the same frame that the model has not formed yet, `noted` the packets of a
frame that are counted and not yet executed. -/
structure LinkSt where
  ready       : Bool := false
  code        : Nat := 1
  syncAt      : Option Nat := none
  replies     : List Reply := []
  tail        : Nat := 0
  window      : List Retained := []
  waiting     : List WaitPkt := []
  admitFrame  : Nat := 0
  admitCount  : Nat := 0
  lastAdmit   : Nat := 0
  hostLost    : Bool := false
  counters    : LinkCounters := {}
  psk         : Vector (Option (List Byte)) 4
  sessions    : Vector (Option EthSession) 2
  authFail    : Vector AuthFail 4
  spiOut      : List Byte := []
  closeDue    : Bool := false
  noted       : Nat := 0
  deriving DecidableEq, Repr

/-- The states of Table TXN-1. -/
inductive TxnState where
  | open | checked | pending | applying | rollingBack
  deriving DecidableEq, Repr

/-- The outcome codes of TXN_LIST (R86). -/
inductive TxnOutcome where
  | none | confirmed | rolledBack | undoIncomplete | refused | aborted
  deriving DecidableEq, Repr

/-- An action of Table TXN-4, its object already checked. -/
inductive Action where
  | param (id inst : Nat) (value : Nat)
  | contactor (so : Fin 32) (close : Bool)
  | pgSetpoint (pg : Fin 16) (mV : Nat) (mA : Int)
  | tie (t : Fin 8) (close : Bool)
  | aux (ch : Fin 12) (mode duty : Nat)
  | tariffTable (slot : Nat)
  | powerLimit (obj : Fin 9) (imp exp : Nat)
  deriving DecidableEq, Repr

/-- Where the reversal of one action stands (R103 to R106). -/
inductive Reversal where
  | notDue | waiting | driven (expiry : Nat) | confirmed | left | unreversed
  deriving DecidableEq, Repr

/-- One staged action with its window (R100), undo entry (R101) and reversal. -/
structure TxnAction where
  act       : Action
  node      : Nat := 0xFF
  confirmed : Bool := false
  window    : Option Nat := none
  since     : Nat := 0
  undo      : Option Action := none
  reversal  : Reversal := .notDue
  deriving DecidableEq, Repr

/-- Which function built an internal transaction (R107). -/
inductive Purpose where
  | host
  | energise (k : Fin 8)
  | openOutlet (k : Fin 8) (reason : Nat)
  | precharge (k : Fin 8)
  | params (k : Fin 8)
  | fence (d : Nat)
  | powerDown
  | move (m : Fin 4)
  | tieBack (t : Fin 8)
  | aux
  | site (coordinator number : Nat)
  | sched
  | loader (k : Fin 8)
  deriving DecidableEq, Repr

/-- The failing check of a run of the catalogue (Tables TXN-5 and TXN-6). -/
structure CheckResult where
  check    : Nat := 0
  index    : Nat := 0xFF
  other    : Nat := 0
  measured : Int := 0
  cls      : Nat := 0
  detail   : Nat := 0
  deriving DecidableEq, Repr

/-- The coordinator's book on one remote node of a site transaction (Table TXN-7). -/
structure NodeBook where
  node    : Nat
  vote    : Option Bool := none
  acked   : Bool := false
  report  : Option Bool := none
  deriving DecidableEq, Repr

/-- A transaction, host (1 to 239) or internal (240 to 255). -/
structure Txn where
  num         : Nat
  purpose     : Purpose := .host
  state       : TxnState := .open
  actions     : List TxnAction := []
  lastNamed   : Nat := 0
  commitFrame : Option Nat := none
  siteFrame   : Option Nat := none
  finalCheck  : Option CheckResult := none
  expiryE     : Nat := 0
  phase1      : Bool := false
  phase2      : Option Nat := none
  underLoad   : Bool := false
  forced      : Bool := false
  nodes       : List NodeBook := []
  lastSend    : Nat := 0
  decided     : Option Bool := none
  deriving DecidableEq, Repr

/-- A site transaction held as a participant (R113, R114). -/
structure SitePart where
  coordinator : Nat
  number      : Nat
  siteC       : Nat
  actions     : List Action
  vote        : Bool
  internal    : Nat
  aborted     : Bool := false
  fenced      : Bool := false
  deriving DecidableEq, Repr

/-- Current setpoints of a reversed transaction that wait for their edge (R103): they have their voltage already. -/
structure Restore where
  num : Nat
  at_ : Option Nat := none
  sps : List (Fin 16 × Int)
  deriving DecidableEq, Repr

/-- The transaction engine (R82, R83, R86): the transactions not ended, and the last 16 ended; the site transactions held as
participant, and the books of those this post coordinated and that have ended before their reports are in (R113). -/
structure TxnSt where
  lastNum : Nat := 0
  txns    : List Txn := []
  ended   : List (Nat × TxnOutcome) := []
  parts   : List SitePart := []
  restores : List Restore := []
  books    : List Txn := []
  deriving DecidableEq, Repr

/-- The service levels (R126, R130, R132): none before coarse service. -/
inductive Service where
  | bringUp | coarse | full | loader
  deriving DecidableEq, Repr

/-- A tamper record of the retention store (R138, R139). -/
structure TamperRec where
  loop   : Nat
  time   : Nat
  logged : Bool := false
  told   : Bool := false
  deriving DecidableEq, Repr

/-- Beryl, the vault domain (R136 to R139): RTC and legal-time counters, retention store. -/
structure BerylSt where
  rtc         : Rat := 0
  legalTime   : Nat := 0
  resetSource : Nat := 1
  vaultLost   : Bool := false
  tamper      : List TamperRec := []
  user        : Nat := 0
  cell        : Nat := 3000
  deriving DecidableEq, Repr

/-- Bring-up, reset, watch state and power fail (chapter 04), and the frame-edge book (chapter 01). -/
structure SysSt where
  service       : Service := .bringUp
  garnetUp      : Bool := false
  garnetFailed  : Bool := false
  onyxUp        : Bool := false
  onyxFailed    : Bool := false
  imageValid    : Option Bool := none
  loopDone      : Bool := false
  loopFails     : Vector Nat 8
  loopPass      : Nat := 0
  fullFrame     : Option Nat := none
  resetSource   : Nat := 1
  resetReason   : Nat := 0
  inReset       : Bool := false
  resetDue      : Option Nat := none
  powerFail     : Option Nat := none
  pfRecoverFrom : Option Nat := none
  vmain         : Nat := 12000
  vioLow        : Bool := false
  cellLow       : Bool := false
  wakeCause     : Option Nat := none
  onyxMissing   : Nat := 0
  beatMissing   : Nat := 0
  partnerLost   : Bool := false
  tickDev       : Bool := false
  frameCycles   : Nat := 3125
  trim          : Int := 0
  coresHalted   : Bool := false
  skips         : List SlotJob := []
  toPersist     : Option (List (Nat × Nat)) := none
  deriving DecidableEq, Repr

/-- The session states of Table OUT-5, in code order. -/
inductive Sess where
  | unavailable | idle | connected | linking | authorising | deferred | parameters
  | cableCheck | precharge | ready | energising | charging | paused | stopping | weldCheck
  | ended | fault
  deriving DecidableEq, Repr

/-- What drives pilot k (R154); duty in units of 0.01 %. -/
inductive PilotOut where
  | static12 | stateF | pwm (duty : Nat) | highZ
  deriving DecidableEq, Repr

/-- A session transition decided in frame N, to take effect at step 6 of frame N+1 (R162). -/
structure Pend where
  dest         : Sess
  reason     : Option Nat := none
  hostReason : Nat := 0
  pause      : Bool := false
  limitPause : Bool := false
  frame      : Nat
  deriving DecidableEq, Repr

/-- What the vehicle has asked for over its link (chapters 05 and 07); mV and mA. -/
structure VehicleReq where
  vMax      : Nat := 0
  target    : Nat := 0
  asked     : Bool := false
  current   : Int := 0
  maxI      : Option Nat := none
  maxDis    : Nat := 0
  start     : Bool := false
  authStep  : Bool := false
  bpt       : Bool := false
  deriving DecidableEq, Repr

/-- The stamped control values of an outlet's meter slot (R156, R173, R180, R185 to R187). -/
structure OutMeas where
  v     : Int := 0
  i     : Int := 0
  d     : Int := 0
  phase : List Nat := []
  rms   : List Nat := []
  ok    : Bool := true
  dOk   : Bool := true
  deriving DecidableEq, Repr

/-- The timers of a session, each the frame at which it expires (R24). -/
structure OutTimers where
  auth      : Option Nat := none
  defer     : Option Nat := none
  fallback  : Option Nat := none
  cable     : Option Nat := none
  pre       : Option Nat := none
  acStop    : Option Nat := none
  dcStop    : Option Nat := none
  discharge : Option Nat := none
  weld      : Option Nat := none
  faultHold : Option Nat := none
  deriving DecidableEq, Repr

/-- The pilot and proximity inputs of an outlet with their filters (R156 to R160). -/
structure PilotIn where
  stamped   : PilotSt := .f
  count     : Nat := 0
  accepted  : PilotSt := .f
  lowBad    : Bool := false
  diodeRun  : Nat := 0
  diode     : Bool := false
  ohms      : Option Nat := none
  proxCand  : Nat := 0xFF
  proxRun   : Nat := 0
  rating    : Nat := 0xFF
  proxFault : Bool := false
  deriving DecidableEq, Repr

/-- The power-budget claim of an outlet (R191 to R193), watts: held from admission in frame `since`; the cuts in force;
a deferred start by its frame and its position; the old claim that stands while a raised one waits. -/
structure Claim where
  held  : Bool := false
  imp   : Nat := 0
  exp   : Nat := 0
  cut   : Option Nat := none
  cutE  : Option Nat := none
  since : Nat := 0
  fresh : Nat := 0
  start : Option Nat := none
  pos   : Nat := 0
  wait  : Option (Nat × Nat) := none
  deriving DecidableEq, Repr

/-- What a start asked for (Table OUT-11). -/
structure StartReq where
  profile : Nat
  imp     : Nat
  exp     : Nat
  cur     : Nat
  session : List Byte
  deriving DecidableEq, Repr

/-- One outlet and its session (chapter 05). -/
structure Outlet where
  st         : Sess := .unavailable
  entered    : Nat := 0
  reason     : Nat := 0
  hostReason : Nat := 0
  pend       : Option Pend := none
  out        : PilotOut := .stateF
  outNext    : Option PilotOut := none
  forced     : Option PilotOut := none
  pilot      : PilotIn := {}
  timers     : OutTimers := {}
  claim      : Claim := {}
  veh        : VehicleReq := {}
  meas       : OutMeas := {}
  origin     : Sess := .idle
  pause      : Bool := false
  limitPause : Bool := false
  basicOnly  : Bool := false
  preRun     : Nat := 0
  preFlag    : Bool := false
  spMv       : Nat := 0
  spMa       : Int := 0
  weldStep   : Nat := 0
  stopBuilt  : Bool := false
  effImp     : Nat := 0
  effExp     : Nat := 0
  graceEnd   : Nat := 0
  ovcRun     : Nat := 0
  noGroup    : Bool := false
  auxOn      : Bool := false
  req        : Option StartReq := none
  welded     : Bool := false
  deriving DecidableEq, Repr

/-- The power-group states of Table POL-4, in code order. -/
inductive PgState where
  | unconfigured | absent | ready | active | derated | failed
  deriving DecidableEq, Repr

/-- A power group (R213 to R219); mV and mA. -/
structure PowerGroup where
  st       : PgState := .unconfigured
  spMv     : Nat := 0
  spMa     : Int := 0
  hostSp   : Bool := false
  f3       : Int := 0
  f4       : Int := 0
  f5       : Int := 0
  f6       : Int := 0
  f7       : Nat := 0
  lastOk   : Option Nat := none
  absentAt : Option Nat := none
  devRun   : Nat := 0
  recovRun : Nat := 0
  ramp     : Option Nat := none
  lastSend : Option Nat := none
  changed  : Bool := false
  sendNow  : Bool := false
  alive    : Nat := 0
  deriving DecidableEq, Repr

/-- A tie contactor (R200, R201, R225, R226). -/
structure TieSt where
  cmd       : Bool := false
  fb        : Bool := false
  welded    : Bool := false
  openSince : Option Nat := none
  deriving DecidableEq, Repr

/-- A CAN FD port (R205, R208, Table POL-8). -/
structure CanPort where
  state     : Nat := 0
  tec       : Nat := 0
  rxErr     : Nat := 0
  unmatched : Nat := 0
  deriving DecidableEq, Repr

/-- The phases of a move (Table POL-5). -/
inductive MovePhase where
  | rampDown | tieOpen | match | tieClose | takeUp
  deriving DecidableEq, Repr

/-- A running move (R221 to R223); no target on a release. -/
structure Move where
  target   : Option (Fin 8)
  groups   : List (Fin 16)
  old      : List Nat
  close    : List (Fin 8)
  opens    : List (Fin 8)
  phase    : MovePhase
  start    : Nat
  begun    : Bool := false
  matched  : Nat := 0
  deriving DecidableEq, Repr

/-- A profile load in progress: the chunks written so far (R209). -/
structure Chunks where
  got : List (Nat × List Byte) := []
  deriving DecidableEq, Repr

/-- The power pool (chapter 06). -/
structure PoolSt where
  groups   : Vector PowerGroup 16
  ties     : Vector TieSt 8
  ports    : Vector CanPort 2
  busV     : Vector (Option Int) 8
  tieI     : Vector (Option Int) 8
  profiles : Vector (Option (List Byte)) 4
  loads    : Vector Chunks 4
  moves    : Vector (Option Move) 4
  deriving DecidableEq, Repr

/-- The link states of Table VLK-5, in code order. -/
inductive VState where
  | off | waitSlac | matching | sdp | tls | app | session | closed
  deriving DecidableEq, Repr

/-- A frame being received on an HPGP port (R236, R237); times in µs. -/
structure RxFrame where
  ts      : Rat
  len     : Option Rat := none
  rifs    : Rat := 140
  lane    : Option (Fin 4) := none
  claimed : Rat := 0
  done    : Bool := false
  deriving DecidableEq, Repr

/-- The selective acknowledgement a port's transmit sequencer holds (R238). -/
inductive Sack where
  | none | allFailed | result (ok : Bool)
  deriving DecidableEq, Repr

/-- The matching of a port (R240, R241). -/
structure Slac where
  runId    : Nat := 0
  sounds   : List Nat := []
  nmk      : Nat := 0
  fails    : Nat := 0
  valid    : Bool := false
  toggles  : Nat := 0
  meanAtt  : Nat := 0
  deriving DecidableEq, Repr

/-- The timers of a link, each the frame at which it expires (R241, R246, R249, R254). -/
structure VTimers where
  init   : Option Nat := none
  match_ : Option Nat := none
  join   : Option Nat := none
  setup  : Option Nat := none
  seq    : Option Nat := none
  resume : Option Nat := none
  host   : Option Nat := none
  deriving DecidableEq, Repr

/-- A stamped vehicle request that awaits the handoff of its response (R247, R248). -/
structure PendReq where
  kind    : ReqKind
  frame   : Nat
  handoff : Option Nat := none
  answer  : Answer := .ok
  stop    : Bool := false
  deriving DecidableEq, Repr

/-- Host content arriving in parts (Table VLK-12). -/
structure Parts where
  total : Nat := 0
  got   : List (Nat × List Byte) := []
  last  : Nat := 0
  broken : Bool := false
  deriving DecidableEq, Repr

/-- What the fields of a prepared response depend on (R252). -/
structure PrepBasis where
  st  : Sess
  imp : Nat
  exp : Nat
  par : List (Nat × Nat)
  deriving DecidableEq, Repr

/-- One outlet's vehicle link (chapter 07). -/
structure VPort where
  st        : VState := .off
  entered   : Nat := 0
  proto     : Nat := 0
  tls       : Nat := 0
  cause     : Nat := 0
  evccid    : Nat := 0
  sessionId : Nat := 0
  slac      : Slac := {}
  timers    : VTimers := {}
  tcp       : Bool := false
  sdpDone   : Bool := false
  wantTls   : Bool := false
  offTls    : Bool := false
  tlsVer    : Nat := 0
  keySlot   : Nat := 0xFF
  down      : Bool := false
  stopped   : Bool := false
  rx        : Option RxFrame := none
  sack      : Sack := .none
  req       : Option PendReq := none
  predicted : Option ReqKind := none
  basis     : Option PrepBasis := none
  lastReq   : Option ReqKind := none
  payment   : Nat := 0
  emaid     : List Byte := []
  challenge : Nat := 0
  leafKey   : Nat := 0
  schedule  : Option (List Byte) := none
  schedPart : Parts := {}
  certResp  : Option (Nat × List Byte) := none
  certPart  : Parts := {}
  awaiting  : Option Nat := none
  lastRec   : Nat := 0
  soc       : Nat := 0
  ccAsked   : Bool := false
  denied    : Bool := false
  pauseReq  : Bool := false
  decoded   : Nat := 0
  misses    : Nat := 0
  missSince : Nat := 0
  missSent  : Option Nat := none
  failed    : Nat := 0
  raUses    : Nat := 0
  raDrops   : Nat := 0
  loopFail  : Bool := false
  lastPilot : PilotSt := .f
  deriving DecidableEq, Repr

/-- A 10BASE-T1S port (R235). -/
structure T1S where
  plca : Bool := false
  deriving DecidableEq, Repr

/-- A vehicle-link key slot (R259): its curve and key, and its certificate chain. -/
structure KeySlot where
  curve : Nat := 0
  key   : Option Nat := none
  chain : Option (List Byte) := none
  parts : Parts := {}
  deriving DecidableEq, Repr

/-- The vehicle links, Agate's decode lanes (R236, R237) and the key store. -/
structure VlkSt where
  ports     : Vector VPort 8
  t1s       : Vector T1S 2
  lanes     : Vector (Option (Fin 8)) 4
  now       : Rat := 0
  tlsQueue  : List (Fin 8) := []
  keys      : Vector KeySlot 8
  keygen    : Option (Nat × Nat) := none
  restartBy : Option Nat := none
  loopTest  : Option (Fin 8 × Nat) := none
  deriving DecidableEq, Repr

/-- A modulator input (R268): the causes flagged, the fault-free run and the last sample. -/
structure MtrInput where
  faulted : Option Nat := none
  goodRun : Nat := 80
  until_  : Nat := 0
  raw     : Int := 0
  fresh   : Bool := false
  deriving DecidableEq, Repr

/-- One frame of a slot in the provisional pipeline and its trailing window (R267, R276, R278). -/
structure PipeRec where
  frame   : Nat
  raw     : List Int
  squash  : List Bool
  bad     : List Bool
  band    : Nat
  mode    : Nat
  excess    : Bool := false
  tempBad : Bool := false
  cycles  : Nat
  deriving DecidableEq, Repr

/-- A committed record (Table MTR-5), energies in W·s. -/
structure MtrRec where
  slot    : Nat
  frame   : Nat
  eP      : Rat
  eQ      : Rat
  eS      : Rat
  quad    : Nat
  loss    : Rat
  valid   : Nat
  coarse  : Bool
  test    : Bool
  noLoad  : Bool
  excess    : Bool
  tempBad : Bool
  band    : Nat
  digest  : List Byte
  deriving DecidableEq, Repr

/-- A gap of squashed samples (R273). -/
structure Gap where
  elements : Nat
  cause    : Nat
  input    : Nat
  first    : Nat
  last     : Nat
  open_    : Bool := true
  deriving DecidableEq, Repr

/-- A measurement of calibration state (R296, Table MTR-9). -/
structure CalMeas where
  count   : Nat
  start   : Option Nat := none
  endAt   : Option Nat := none
  cycles  : Nat := 0
  frames  : Nat := 0
  squash  : Nat := 0
  sums    : List Rat := []
  temp    : Rat := 0
  tempOut : Bool := false
  status  : Nat := 0
  running : Bool := true
  deriving DecidableEq, Repr

/-- A pulse generator (R289, R290): carried energy, edges waiting and the last edge, in µs. -/
structure PulseGen where
  carry   : Rat := 0
  edges   : List Nat := []
  last    : Option Nat := none
  excess    : Bool := false
  satSent : Option Nat := none
  deriving DecidableEq, Repr

/-- A meter slot (R269 to R290, R294 to R297). -/
structure MeterSlot where
  mode     : Nat := 0
  band     : Nat := 3
  pendBand : Option (Nat × Nat) := none
  pendMode : Option (Nat × Nat) := none
  hist     : List PipeRec := []
  gaps     : List Gap := []
  cand     : Option Nat := none
  lastZc   : Option Nat := none
  zcPhases : List Rat := []
  zcLost   : Bool := false
  freq     : Option Rat := none
  freqOut  : Bool := false
  temps    : List (Option Rat) := []
  tempBad  : Bool := false
  harm     : List (List Nat) := []
  harmAt   : Option Nat := none
  pulse    : PulseGen := {}
  calBand  : Option Nat := none
  closing  : Bool := false
  meas     : Option CalMeas := none
  measOk   : Bool := false
  digest   : List Byte := []
  deriving DecidableEq, Repr

/-- The metrology engine and the metrology seal store (chapter 08, R293, R533). -/
structure MtrSt where
  inputs   : Vector MtrInput 48
  slots    : Vector MeterSlot 9
  pending  : Option (List (Nat × Nat)) := none
  cycles   : Nat := 25000
  temp     : Int := 250
  down     : Bool := false
  deriving DecidableEq, Repr

/-- An energy register: whole units of 0.1 mWh and the remainder carried forward (R323). -/
structure Reg where
  units : Nat := 0
  rem   : Rat := 0
  deriving DecidableEq, Repr

/-- A maximum-demand register: watts and interval number (Table LEG-2). -/
structure MaxDemand where
  watts    : Nat := 0
  interval : Nat := 0
  deriving DecidableEq, Repr

/-- The registers of one meter slot (Table LEG-2); totals of tariffed quantities are their sums. -/
structure SlotRegs where
  aImp : Vector Reg 16
  aExp : Vector Reg 16
  vQ1  : Vector Reg 16
  vQ2  : Vector Reg 16
  vQ3  : Vector Reg 16
  vQ4  : Vector Reg 16
  sImp : Reg := {}
  sExp : Reg := {}
  lImp : Reg := {}
  lExp : Reg := {}
  cImp : Reg := {}
  cExp : Reg := {}
  dImp : Reg := {}
  dExp : Reg := {}
  mImp : Vector MaxDemand 17
  mExp : Vector MaxDemand 17
  deriving DecidableEq, Repr

/-- The running segment and interval of one slot (R315). -/
structure SegBook where
  segImp  : Rat := 0
  segExp  : Rat := 0
  intImp  : Rat := 0
  intExp  : Rat := 0
  squashed : Nat := 0
  coarse  : Bool := false
  gap     : Bool := false
  deriving DecidableEq, Repr

/-- What Onyx persists with its registers (Table LEG-3, kind Persist): the running interval and segment with the frame and
the legal time at which they began, the tariffs in force since, the tariff in force and the legal time. -/
structure OnyxLive where
  regs      : Vector SlotRegs 9
  books     : Vector SegBook 9
  highWater : Rat := 0
  interval  : Nat := 0
  segment   : Nat := 0
  segFrame  : Nat := 0
  segStart  : Nat := 0
  intStart  : Nat := 0
  segFlags  : Nat := 0
  tariffs   : List Nat := [0]
  segTars   : List Nat := [0]
  tariff    : Nat := 0
  legal     : Nat := 0
  deriving DecidableEq, Repr

/-- A segment closed at the edge of frame `frame`, while samples of frames before it are still to commit (R26, R315). -/
structure Closing where
  frame    : Nat
  books    : Vector SegBook 9
  interval : Nat
  segment  : Nat
  flags    : Nat
  tars     : List Nat
  first    : Nat
  last     : Nat
  ends     : Bool
  duration : Nat
  tariffs  : List Nat
  deriving DecidableEq, Repr

/-- The book of a power fail detected at frame P (R328, Table LEG-3): the times of P, the input in units of 10 mV, whether
an interval closed or a tariff switched at P, what the write set and the tail record hold, and what has been written. -/
structure PfBook where
  frame : Nat
  legal : Nat
  wall  : Option Int
  vmain : Nat
  edge  : Bool := false
  snap  : Option OnyxLive := none
  done  : Bool := false
  tail  : Option (OnyxLive × Nat) := none
  ended : Bool := false
  deriving DecidableEq, Repr

/-- A logbook entry (R331). -/
structure LogEntry where
  seq   : Nat
  type  : Nat
  slot  : Nat
  flags : Nat
  legal : Nat
  wall  : Option Int
  data  : List Byte
  deriving DecidableEq, Repr

/-- A load-profile record (Table LEG-5). -/
structure ProfRec where
  interval : Nat
  segment  : Nat
  flags    : Nat
  tarMask  : Nat
  first    : Nat
  last     : Nat
  imp      : Nat
  exp      : Nat
  squashed : Nat
  demImp   : Nat
  demExp   : Nat
  deriving DecidableEq, Repr

/-- A reading requested and not yet signed (R332, R333): the tariff and the session of its stamp frame, the times of the
frame after it, and the snapshot. -/
structure PendReading where
  counter : Nat
  slot    : Fin 9
  kind    : Nat
  curve   : Nat
  frame   : Nat
  tariff  : Nat
  session : Nat
  legal   : Nat := 0
  wall    : Int := 0
  tz      : Nat := 0
  snap    : Option (List Byte) := none
  start   : Option Nat := none
  restart : Bool := false
  deriving DecidableEq, Repr

/-- The span book of a signed reading (R337): the STATUS bits seen since it was taken. -/
structure Span where
  counter : Nat
  slot    : Nat
  kind    : Nat
  session : Nat
  bits    : Nat := 0
  deriving DecidableEq, Repr

/-- Onyx (chapter 09). -/
structure OnyxSt where
  live       : OnyxLive
  saved      : OnyxLive
  closings   : List Closing := []
  counter    : Nat := 1
  legal      : Nat := 0
  wall       : Rat := 0
  wallValid  : Bool := false
  slew       : Rat := 0
  slewing    : Bool := false
  fold       : Option Nat := none
  hold       : Bool := false
  overTable  : Option Nat := none
  tarFrom    : Nat := 0
  jump       : Option Nat := none
  tables     : Vector (Option (List Byte)) 4
  loads      : Vector Chunks 4
  selects    : List (Nat × Nat × Nat) := []
  tarLog     : List (Nat × Nat) := []
  events     : List LogEntry := []
  audit      : List LogEntry := []
  logSeq     : Nat := 0
  profiles   : Vector (List ProfRec) 9
  profBase   : Vector Nat 9
  pending    : List PendReading := []
  savedPend  : List PendReading := []
  records    : List (Nat × List Byte) := []
  starts     : List Nat := []
  spans      : List Span := []
  ever       : Vector Nat 9
  access     : Option Nat := none
  sealHigh   : Bool := true
  staged     : Option (List (Nat × Nat × Nat)) := none
  digest     : Vector (List Byte) 9
  pendDigest : Vector (Option (List Byte)) 9
  mismatch   : Vector Bool 9
  gapCount   : Vector Nat 9
  lastFrame  : Nat := 0
  lastDigest : Vector (List Byte) 9
  acceptFrom : Nat := 0
  pf         : Option PfBook := none
  stop       : Nat := 1
  checkAt    : Nat := 0
  checkBad   : Bool := false
  deriving DecidableEq, Repr

/-- RDC-DD channel k (R346 to R353); residuals in mA. -/
structure RdcSt where
  win     : List Rat := []
  dc      : Rat := 0
  offset  : Rat := 0
  run1    : Nat := 0
  run2    : Nat := 0
  run3    : Nat := 0
  excRun  : Nat := 0
  excKind : Nat := 0
  winding : Bool := false
  tripped : Option Nat := none
  fault   : Bool := false
  faultA  : Bool := false
  testEnd : Option Nat := none
  passed  : Bool := false
  failed  : Bool := false
  lastTest : Rat := 0
  nextOfs : Nat := 0
  zeroed  : Bool := false
  deriving DecidableEq, Repr

/-- Insulation monitoring of an outlet (R354 to R364); results in kΩ. -/
structure ImdSt where
  port     : Option (Fin 4) := none
  request  : Option Nat := none
  head     : Bool := false
  lastEnd  : Nat := 0
  result   : Option (Nat × Nat) := none
  cc       : List Nat := []
  vref     : Nat := 0
  tripped  : Bool := false
  warned   : Bool := false
  status   : Nat := 0
  base     : Nat := 0
  poles    : List (Rat × Rat) := []
  balRun   : Nat := 0
  estimate : Option Rat := none
  coupRun  : Nat := 0
  coupling : Bool := false
  coupV    : Rat := 0
  coupSum  : Rat := 0
  deriving DecidableEq, Repr

/-- The PE continuity check of an outlet (R366, R367); mΩ. -/
structure PeSt where
  next   : Nat := 0
  bad    : Nat := 0
  good   : Nat := 0
  failed : Bool := false
  known  : Bool := false
  last   : Nat := 0
  deriving DecidableEq, Repr

/-- An insulation measurement port (R356 to R358, R365). -/
structure ImPort where
  outlet   : Option (Fin 8) := none
  start    : Nat := 0
  cable    : Bool := false
  results  : Nat := 0
  faulty   : Bool := false
  testing  : Bool := false
  nextTest : Nat := 0
  freeAt   : Nat := 0
  deriving DecidableEq, Repr

/-- Earth-fault and insulation monitoring (chapter 10). -/
structure EfiSt where
  rdc   : Vector RdcSt 8
  imd   : Vector ImdSt 8
  pe    : Vector PeSt 8
  ports : Vector ImPort 4
  deriving DecidableEq, Repr

/-- Garnet's state codes (Table SAF-13). -/
inductive GState where
  | starting | selfTestFailed | run | stop
  deriving DecidableEq, Repr

/-- A filtered level: last stamp, run of equal stamps, accepted level and its frame (R380). -/
structure Filt where
  stamp    : Bool := false
  run      : Nat := 0
  accepted : Bool := false
  since    : Nat := 0
  deriving DecidableEq, Repr

/-- A safe input (R378 to R383, R401). -/
structure SafeIn where
  a         : Filt := {}
  b         : Filt := {}
  discBy    : Option Nat := none
  missA     : Nat := 0
  missB     : Nat := 0
  faulted   : Bool := false
  sawBoth   : Bool := false
  demand    : Bool := false
  latch     : Bool := false
  faultLatch : Bool := false
  pressed   : Option Nat := none
  deriving DecidableEq, Repr

/-- A safe output with its contactor feedback (R384 to R389). -/
structure SafeOut where
  driven    : Bool := false
  granted   : Bool := false
  fb        : Filt := {}
  fault     : Option Nat := none
  testOk    : Bool := false
  contact   : Bool := false
  offAt     : Option Nat := none
  testNext  : Nat := 0
  deriving DecidableEq, Repr

/-- The states of Table SAF-6, in code order. -/
inductive CdState where
  | unused | stopped | enabling | enabled | ss1 | brakeTest | faulted
  deriving DecidableEq, Repr

/-- A running brake test (R397, R398). -/
structure BrakeTest where
  winAt  : Nat
  winEnd : Nat
  p0     : Option Int := none
  reached : Bool := false
  lastSt : Nat := 0
  torque : Nat := 0
  started : Bool := false
  result : Option Nat := none
  disp : Nat := 0
  alive : Nat := 0
  deriving DecidableEq, Repr

/-- A connection device (R394 to R399). -/
structure CdSt where
  st       : CdState := .unused
  next     : Option (CdState × Nat) := none
  brkAt    : Option Nat := none
  ss1End   : Option Nat := none
  cdstop   : Bool := false
  test     : Option BrakeTest := none
  due      : Bool := true
  failed   : Bool := false
  lastPass : Option Nat := none
  deriving DecidableEq, Repr

/-- Garnet's own pilot supervision of an outlet (R392, R393). -/
structure GPilot where
  cls     : PilotSt := .f
  lossRun : Nat := 0
  bRun    : Nat := 0
  disRun  : Nat := 0
  deriving DecidableEq, Repr

/-- Garnet, the safety island (chapter 11). -/
structure GarnetSt where
  st        : GState := .starting
  inputs    : Vector SafeIn 16
  outs      : Vector SafeOut 32
  cds       : Vector CdSt 2
  pilots    : Vector GPilot 8
  partner   : Bool := false
  partnerOk : Nat := 0
  tickDev   : Bool := false
  tickOk    : Nat := 0
  pfStamp   : Bool := false
  scfgHigh  : Bool := true
  staged    : Option (List (Nat × Nat × Nat)) := none
  verified  : Option Nat := none
  committed : Option (List (Nat × Nat)) := none
  newCfg    : Bool := false
  trips     : Vector (Option Nat) 8
  evNext    : List (Nat × Nat × Nat × Nat) := []
  cdFault   : Vector (Option Nat) 4
  cdTestOk  : Vector Bool 4
  deriving DecidableEq, Repr

/-- The channel states of Table AUX-2, in code order. -/
inductive AuxState where
  | off | queued | blanking | on | tripped | locked | bankOff
  deriving DecidableEq, Repr

/-- A switch-bank channel (chapter 12); mA, °C, 0.1 %, µs. -/
structure AuxCh where
  st       : AuxState := .off
  mode     : Nat := 0
  duty     : Nat := 1000
  newDuty  : Option Nat := none
  retries  : Nat := 3
  latch    : Bool := false
  open_    : Bool := false
  clamp    : Bool := false
  cause    : Nat := 0
  current  : Nat := 0
  temp     : Int := 25
  claim    : Nat := 0
  blankEnd : Option Nat := none
  retryAt  : Option Nat := none
  lastTrip : Option Nat := none
  winLen   : Nat := 0
  after    : Bool := false
  startAt  : Nat := 0
  turnOn   : Bool := false
  reported : AuxState := .off
  retryN   : Nat := 3
  retryDly : Nat := 800
  perAt    : Nat := 0
  ocRun    : Nat := 0
  olRun    : Nat := 0
  okRun    : Nat := 0
  tOn      : Nat := 0
  phase    : Bool := false
  deriving DecidableEq, Repr

/-- The auxiliary switch bank: supply in mV, its last eight stamps and its state. -/
structure AuxSt where
  ch     : Vector AuxCh 12
  vbank  : Nat := 0
  vhist  : List Nat := []
  uv     : Nat := 0
  okRun  : Nat := 0
  okAt   : Option Nat := none
  fenced : Bool := false
  held   : Bool := true
  deriving DecidableEq, Repr

/-- The alignment states of Table SLK-1, in code order. -/
inductive AlignState where
  | off | searching | acquiring | aligned | holdover | root
  deriving DecidableEq, Repr

/-- An entry of the node table with its tone map (R446, R449). -/
structure SiteNode where
  addr    : Nat
  serial  : Nat := 0
  profile : Nat := 1
  align   : Nat := 0
  hop     : Nat := 0xFF
  watch   : Bool := false
  boot    : Nat := 0
  links   : List (Nat × Nat) := []
  last    : Nat := 0
  mask    : Nat := 0
  modul   : Nat := 0
  rate    : Nat := 0
  mapAt   : Option Nat := none
  fails   : Nat := 0
  robust  : Bool := true
  deriving DecidableEq, Repr

/-- A unicast PLC frame awaiting its acknowledgement (R448). -/
structure PlcPend where
  via     : Nat
  dest    : Nat
  type    : Nat
  body    : List Byte
  msg     : Option Nat := none
  sent    : Nat := 1
  nextAt  : Nat
  deriving DecidableEq, Repr

/-- A scheduled action held as distributor (Table SLK-4). -/
structure SchedDist where
  num    : Nat
  type   : Nat
  siteC  : Nat
  group  : Nat
  body   : List Byte
  state  : Nat
  acks   : List Nat := []
  lastTx : Nat := 0
  cancel : List Nat := []
  applied : List Nat := []
  refused : List Nat := []
  missing : List Nat := []
  deriving DecidableEq, Repr

/-- A scheduled action held as member (R462, R464), with the steps it has applied. -/
structure SchedMember where
  source : Nat
  num    : Nat
  type   : Nat
  siteC  : Nat
  group  : Nat
  body   : List Byte
  localF : Nat
  steps  : Nat := 0
  deriving DecidableEq, Repr

/-- A wake request being sent (R466), with the message it carries. -/
structure WakeReq where
  dest   : Nat
  until_ : Nat
  lastTx : Nat := 0
  msg    : Option (Nat × List Byte) := none
  deriving DecidableEq, Repr

/-- The accepted counters of one source (R444). -/
structure PlcSource where
  addr : Nat
  high : Nat
  seen : List Nat := []
  deriving DecidableEq, Repr

/-- The site link (chapter 13); errors in ns, the rate in 0.001 ppm. -/
structure SlkSt where
  align    : AlignState := .off
  offset   : Option Int := none
  root     : Nat := 0xFF
  hop      : Nat := 0xFF
  running  : Nat := 0
  raising  : Option (Nat × Nat) := none
  error    : Int := 0
  rate     : Int := 0
  phase    : Int := 0
  since    : Nat := 0
  lastOk   : Nat := 0
  lastBcn  : Option Nat := none
  nodes    : List SiteNode := []
  pend     : List PlcPend := []
  sources  : List PlcSource := []
  txCount  : Nat := 0
  rejected : Nat := 0
  rejSince : Nat := 0
  rejSent  : Option Nat := none
  failed   : Nat := 0
  conflict : Option Nat := none
  helloAt  : Nat := 0
  msgNext  : Nat := 1
  dist     : List SchedDist := []
  member   : List SchedMember := []
  actNext  : Nat := 1
  wakes    : List WakeReq := []
  heard    : Option (Nat × Nat) := none
  key      : Option (List Byte) := none
  boot     : Nat := 0
  deriving DecidableEq, Repr

/-- An open card handle (R478). -/
structure Handle where
  tech    : Nat
  uid     : List Byte
  lastUse : Nat
  checkAt : Nat
  deriving DecidableEq, Repr

/-- An exchange in progress (R480). -/
structure Xchg where
  num    : Nat
  handle : Nat
  data   : List Byte
  deriving DecidableEq, Repr

/-- A shadow block of tag memory with its commit word, which is set or clear (R489): a write to the NDEF file. -/
structure TagWrite where
  off  : Nat
  data : List Byte
  seq  : Nat
  crc  : BitVec 32
  set  : Bool
  deriving DecidableEq, Repr

/-- The contactless block (chapter 14); the NDEF file is an addressed buffer of 6,144 bytes, of which a byte that is not
listed reads 0. -/
structure NfcSt where
  field     : Bool := false
  extField  : Bool := false
  polling   : Bool := false
  pollByLp  : Bool := false
  pollFound : Nat := 0
  handles   : Vector (Option Handle) 8
  xchg      : Option Xchg := none
  xchgNext  : Nat := 1
  recent    : List (List Byte × Nat) := []
  profiles  : Vector (Option (List Byte)) 4
  detuning  : Nat := 0
  detected  : Option Nat := none
  detFlag   : Bool := false
  refRe     : Rat := 0
  refIm     : Rat := 0
  antFault  : Bool := false
  calDue    : Nat := 0
  calReq    : Bool := false
  pollAt    : Nat := 0
  fd        : Bool := false
  fdLp      : Bool := false
  mem       : List Cell
  seqNext   : Nat := 1
  shadowH   : Option TagWrite := none
  hostBusy  : Bool := false
  shadowF   : Option TagWrite := none
  phoneWait : Option (Nat × List Byte) := none
  pcb       : Byte := 2
  phoneCnt  : Nat := 0
  offWrites : Option (Nat × Nat × Nat) := none
  rollQ     : List (Nat × Nat) := []
  isoState  : Nat := 0
  app       : Bool := false
  file      : Nat := 0
  deriving DecidableEq, Repr

/-- A composition of the legal rows waiting for its tick (R507): the frame it was made in; the item, or the check-value
screen, new when it answers a request. -/
structure Composition where
  rows  : List Byte
  opal  : List Byte
  crc   : Nat
  crcO  : Nat
  at_   : Nat
  item  : Nat
  check : Bool := false
  fresh : Bool := false
  deriving DecidableEq, Repr

/-- The legal display (chapter 15): frame memory, Opal memory and uniformity map are addressed buffers; a byte not listed
reads 0 (clear). `okF` and `okO` are the checks of the two memories as they stand. -/
structure DspSt where
  drive     : Nat := 0
  mem       : List Cell := []
  opal      : List Cell := []
  map       : List Cell := []
  mapValid  : Bool := false
  mapNext   : Option (List Byte) := none
  mapLoad   : Parts := {}
  crc       : Nat := 0
  crcO      : Nat := 0
  okF       : Bool := true
  okO       : Bool := true
  composed  : Nat := 0
  shown     : Bool := false
  next      : Option Composition := none
  wantComp  : Bool := false
  waitComp  : Bool := false
  blank     : Bool := false
  blankFrom : Nat := 0
  okRun     : Nat := 0
  miss      : List Nat := []
  showReq   : Option Nat := none
  checkOn   : Bool := false
  checkEnd  : Option Nat := none
  item      : Nat := 0
  target    : Nat := 12500
  vlcd      : Nat := 12500
  biasRun   : Nat := 0
  settle    : Nat := 0
  deriving DecidableEq, Repr

/-- A fence of class T with its legal time (R525). -/
structure FenceCount where
  legal : Nat
  cause : Nat
  deriving DecidableEq, Repr

/-- A fault waiting for its fence transaction (R522): the frame N of its event. -/
structure PendFault where
  cause     : Nat
  permanent : Bool
  frame     : Nat
  counted   : Bool := true
  byCmd     : Bool := false
  built     : Option Nat := none
  deriving DecidableEq, Repr

/-- A fence domain (R522 to R526): state 0 in service, 1 fenced, 2 retired; the overruns of R19 and the last frame in which
its self-check failed. -/
structure Domain where
  state   : Nat := 0
  cause   : Nat := 0
  changed : Nat := 0
  retAt   : Option Nat := none
  counts  : List FenceCount := []
  fault   : Option PendFault := none
  overs   : List Nat := []
  selfAt  : Option Nat := none
  reason  : List Byte := []
  deriving DecidableEq, Repr

/-- A retired object or one with failures counted (R527). -/
structure ObjFault where
  kind    : Nat
  number  : Nat
  fails   : List Nat := []
  retired : Option Nat := none
  deriving DecidableEq, Repr

/-- A record of the retirement log (Table FLT-7), with the frame by which both copies are written. -/
structure RetRec where
  seq    : Nat
  kind   : Nat
  number : Nat
  action : Nat
  cause  : Nat
  legal  : Nat
  reason : List Byte
  by_    : Option Nat := none
  deriving DecidableEq, Repr

/-- What the retirement store of the flash holds: the cause of each retired domain with its reason, the fence counts, and
the objects (R525, R528). -/
structure FltFlash where
  retired : Vector (Option (Nat × List Byte)) 12
  counts  : Vector (List FenceCount) 12
  objs    : List ObjFault := []
  deriving DecidableEq, Repr

/-- Faults and containment (chapter 16). -/
structure FltSt where
  domains   : Vector Domain 12
  flash     : FltFlash
  objs      : List ObjFault := []
  log       : List RetRec := []
  nextSeq   : Nat := 0
  agateRuns : List Nat := []
  agate     : Nat := 0
  restarts  : List Nat := []
  mtrRestart : Option Nat := none
  mtrFenced : Bool := false
  deriving DecidableEq, Repr

/-- The states of Table UPD-3, in code order. -/
inductive RegState where
  | valid | open | written | scheduled | blank
  deriving DecidableEq, Repr

/-- An update region (R540 to R549): its image so far as written 16-byte units by offset, the read-back
failures by unit, and the share last told in UPD_PROGRESS. -/
structure Region where
  st       : RegState := .valid
  site     : Bool := false
  identity : Nat := 0
  length   : Nat := 0
  units    : List (Nat × List Byte) := []
  fails    : List (Nat × Nat) := []
  due      : Option Nat := none
  finishAt : Option Nat := none
  told     : Nat := 0
  deriving DecidableEq, Repr

/-- A site transfer sent from this node (R550). -/
structure SiteSend where
  number  : Nat
  group   : Nat
  next    : Nat := 0
  lastTx  : Nat := 0
  repair  : List Nat := []
  done    : List Nat := []
  missed  : List (Nat × Nat) := []
  told    : Nat := 0
  deriving DecidableEq, Repr

/-- The firmware update (chapter 17): regions, activation schedule, images in use. -/
structure UpdSt where
  regions   : Vector Region 2
  mask      : Nat := 0
  due       : Option Nat := none
  deferred  : Bool := false
  resetBy   : Option Nat := none
  activated : Option Nat := none
  send      : Option SiteSend := none
  recv      : Option (Nat × Nat) := none
  sendNext  : Nat := 1
  version   : Nat := 0x01000000
  identity  : Nat := 0
  floor     : Nat := 0
  loader    : Nat := 0x01000000
  bootCause : Nat := 0
  deriving DecidableEq, Repr

/-- What leaves the part in the current frame: datagrams, SPI bytes, notifications, CAN FD frames, site-link frames,
vehicle responses and acknowledgements, pulse edges, and frames to a card or phone. -/
inductive Out where
  | spi (bytes : List Byte)
  | datagram (peer : Nat) (bytes : List Byte)
  | can (port : Nat) (id : Nat) (data : List Byte)
  | plc (via dest type counter : Nat) (body : List Byte)
  | vehicle (k : Nat) (kind : ReqKind) (answer : Answer) (fields : List Int)
  | slac (k msg : Nat) (fields : List Nat)
  | sack (k : Nat) (ok : Bool)
  | tcp (k code : Nat)
  | beacon (root site hop : Nat) (error : Int) (profile : Nat) (raising : Option (Nat × Nat))
  | pulse (m at_ : Nat)
  | card (data : List Byte)
  | phone (cycles : Nat) (data : List Byte)
  deriving DecidableEq, Repr

/-- The state of the part. -/
structure State where
  /-- The commands that are waiting, first in first out. -/
  pending   : List Instr
  /-- The frame number (R15). -/
  frame     : Nat
  /-- Parameter values in force, by ID * 256 + instance; an unlisted instance has its default (R62, R63). -/
  params    : List (Nat × Nat)
  /-- Parameter values persisted to flash (R121). -/
  persisted : List (Nat × Nat)
  queues    : Vector Queue 4
  due       : List DueCmd
  outbox    : List Out
  /-- The model's own counter behind the free values of Config. -/
  rnd       : Nat
  sys       : SysSt
  beryl     : BerylSt
  link      : LinkSt
  txn       : TxnSt
  outlets   : Vector Outlet 8
  pool      : PoolSt
  vlk       : VlkSt
  mtr       : MtrSt
  onyx      : OnyxSt
  efi       : EfiSt
  garnet    : GarnetSt
  aux       : AuxSt
  slk       : SlkSt
  nfc       : NfcSt
  dsp       : DspSt
  flt       : FltSt
  upd       : UpdSt
  deriving DecidableEq, Repr

/-- Why the model stops. No command of this part stops it: this type has no use beyond the interface, and its one
constructor is raised by nothing (safe). -/
inductive Fault where
  /-- Raised by no command (safe). -/
  | none
  deriving DecidableEq, Repr

/-- Why the model refuses a command. -/
inductive Refusal where
  /-- A command whose meaning is not written yet, by its mnemonic (safe: the run ends). -/
  | notModelled (mnemonic : String)
  deriving DecidableEq, Repr

/-- Empty registers of a meter slot. -/
def SlotRegs.zero : SlotRegs :=
  { aImp := .replicate 16 {}, aExp := .replicate 16 {}, vQ1 := .replicate 16 {}, vQ2 := .replicate 16 {},
    vQ3 := .replicate 16 {}, vQ4 := .replicate 16 {}, mImp := .replicate 17 {}, mExp := .replicate 17 {} }

/-- Onyx's persisted data at manufacture: nothing booked, tariff 0, interval 0. -/
def OnyxLive.zero : OnyxLive :=
  { regs := .replicate 9 SlotRegs.zero, books := .replicate 9 {} }

/-- The word 0 of the SYS_RESET record: VALID, ID 0x00, DOMAIN 12, PSEQ 0 (R74, R120). -/
def State.resetRecord : QRec :=
  { w0 := { data := 0x8000C000#32 }, w1 := { data := 0 }, w2 := { data := 0 }, w3 := { data := 1 } }

/-- The part after step 8 of frame 0 of a power-on reset with factory defaults (R118 to R120): every register at its
reset value, nothing stored, the SYS_RESET record (source 0x01) in queue 0. -/
def State.reset : State :=
  { pending := [], frame := 0, params := [], persisted := [],
    queues := #v[{ recs := [State.resetRecord], pseq := 1 }, {}, {}, {}],
    due := [], outbox := [], rnd := 0,
    sys := { loopFails := .replicate 8 0 },
    beryl := {},
    link := { psk := .replicate 4 none, sessions := .replicate 2 none, authFail := .replicate 4 {} },
    txn := {},
    outlets := .replicate 8 {},
    pool := { groups := .replicate 16 {}, ties := .replicate 8 {}, ports := .replicate 2 {},
              busV := .replicate 8 none, tieI := .replicate 8 none, profiles := .replicate 4 none,
              loads := .replicate 4 {}, moves := .replicate 4 none },
    vlk := { ports := .replicate 8 {}, t1s := .replicate 2 {}, lanes := .replicate 4 none,
             keys := .replicate 8 {} },
    mtr := { inputs := .replicate 48 {}, slots := .replicate 9 {} },
    onyx := { live := OnyxLive.zero, saved := OnyxLive.zero, tables := .replicate 4 none, loads := .replicate 4 {},
              profiles := .replicate 9 [], profBase := .replicate 9 0, ever := .replicate 9 0,
              digest := .replicate 9 [], pendDigest := .replicate 9 none, mismatch := .replicate 9 false,
              gapCount := .replicate 9 0, lastDigest := .replicate 9 [] },
    efi := { rdc := .replicate 8 {}, imd := .replicate 8 {}, pe := .replicate 8 {}, ports := .replicate 4 {} },
    garnet := { inputs := .replicate 16 {}, outs := .replicate 32 {}, cds := .replicate 2 {},
                pilots := .replicate 8 {}, trips := .replicate 8 none, cdFault := .replicate 4 none,
                cdTestOk := .replicate 4 false },
    aux := { ch := .replicate 12 {} },
    slk := {},
    nfc := { handles := .replicate 8 none, profiles := .replicate 4 none, mem := [] },
    dsp := {},
    flt := { domains := .replicate 12 {}, flash := { retired := .replicate 12 none, counts := .replicate 12 [] } },
    upd := { regions := .replicate 2 {} } }

end Sys2Proof.Machine
end

