-- ==== Sys2Proof/Machine/ParamTable.lean ====
section
/-! DEFINITION. The parameter table: every parameter of the chapters' parameter tables, by area (R62, R63, R71, R116,
R151, R175, R197, R232, R257, R291, R344, R368, R411, R439, R472, R498, R518, R537, R559). -/

namespace Sys2Proof.Machine

/-- One parameter: type code and length (Table CMD-10), the ranges of its values (empty for a blob or text),
its default with the bytes packed little-endian, level (0 B, 1 E), commit class (0 immediate, 1 transactional,
2 sealed by Garnet, 3 sealed by Onyx) and instance count (R588). -/
structure PInfo where
  id     : Nat
  name   : String
  ty     : Nat
  len    : Nat
  unit   : String
  ranges : List (Int × Int)
  dflt   : Nat
  level  : Nat
  cls    : Nat
  insts  : Nat
  deriving DecidableEq, Repr

/-- Parameters of area 0x00. -/
def params00 : List PInfo := [
  ⟨0x0010, "SYS.ETH.EN", 1, 1, "", [(0, 1)], 1, 0, 0, 1⟩,
  ⟨0x0011, "SYS.ETH.IP6", 12, 16, "", [], 0, 1, 0, 1⟩,
  ⟨0x0012, "SYS.ETH.SESS.TMO", 6, 4, "F", [(8000, 800000)], 80000, 0, 0, 1⟩,
  ⟨0x0013, "SYS.ETH.NOTIFY", 1, 1, "", [(0, 1)], 0, 0, 0, 1⟩,
  ⟨0x0014, "SYS.HOST.TMO", 6, 4, "F", [(0, 0), (800, 800000)], 40000, 0, 0, 1⟩,
  ⟨0x0020, "SYS.CRS.AC.EN", 2, 1, "bitmask, bit k = outlet k", [(0, 255)], 255, 0, 0, 1⟩,
  ⟨0x0021, "SYS.CRS.AC.IMAX", 4, 2, "0.1 A", [(60, 160)], 160, 0, 0, 1⟩,
  ⟨0x0022, "SYS.LDR.AC.EN", 2, 1, "bitmask, bit k = outlet k", [(0, 255)], 0, 0, 0, 1⟩,
  ⟨0x0023, "SYS.PWR.MODE", 11, 1, "", [(0, 1)], 0, 0, 0, 1⟩,
  ⟨0x0024, "SYS.WATCH.ETH", 1, 1, "", [(0, 1)], 0, 0, 0, 1⟩,
  ⟨0x0025, "SYS.WATCH.SITE", 1, 1, "", [(0, 1)], 1, 0, 0, 1⟩,
  ⟨0x0026, "SYS.VAULT.USER", 12, 48, "", [], 0, 1, 0, 1⟩]

/-- Parameters of area 0x02. -/
def params02 : List PInfo := [
  ⟨0x0200, "TXN.IDLE.TMO", 6, 4, "F", [(800, 800000)], 80000, 0, 0, 1⟩,
  ⟨0x0201, "TXN.CONF.CTR", 4, 2, "F", [(80, 800)], 240, 1, 0, 1⟩,
  ⟨0x0202, "TXN.CONF.TIE", 4, 2, "F", [(80, 800)], 240, 1, 0, 1⟩,
  ⟨0x0203, "TXN.CONF.PG", 4, 2, "F", [(16, 1600)], 160, 1, 0, 1⟩,
  ⟨0x0204, "TXN.CONF.AUX", 4, 2, "F", [(8, 1600)], 400, 1, 0, 1⟩,
  ⟨0x0205, "TXN.UNDO.RAMP", 4, 2, "F", [(8, 800)], 80, 1, 0, 1⟩,
  ⟨0x0206, "TXN.SITE.EN", 1, 1, "", [(0, 1)], 0, 0, 0, 1⟩]

/-- Parameters of area 0x10 (part 1). -/
def params10_1 : List PInfo := [
  ⟨0x1000, "OUT.CFG.TYPE", 11, 1, "", [(0, 4)], 0, 1, 1, 8⟩,
  ⟨0x1001, "OUT.CFG.IMAX", 4, 2, "A", [(0, 65535)], 32, 1, 1, 8⟩,
  ⟨0x1002, "OUT.CFG.VMAX", 4, 2, "V", [(0, 65535)], 1000, 1, 1, 8⟩,
  ⟨0x1003, "OUT.CFG.HLC", 1, 1, "", [(0, 1)], 0, 1, 1, 8⟩,
  ⟨0x1004, "OUT.CFG.T1S", 11, 1, "", [(0, 1), (255, 255)], 255, 1, 1, 8⟩,
  ⟨0x1005, "OUT.CFG.AUX", 2, 1, "", [(0, 11), (255, 255)], 255, 1, 1, 8⟩,
  ⟨0x1006, "OUT.CFG.BIDI", 1, 1, "", [(0, 1)], 0, 1, 1, 8⟩,
  ⟨0x1007, "OUT.CTL.MODE", 11, 1, "", [(0, 1)], 0, 1, 1, 8⟩,
  ⟨0x1010, "OUT.PRIO", 2, 1, "", [(0, 7)], 4, 0, 0, 8⟩,
  ⟨0x1011, "OUT.HOSTLOSS", 11, 1, "", [(0, 2)], 1, 0, 0, 8⟩,
  ⟨0x1012, "OUT.HOSTLOSS.PLIM", 6, 4, "W", [(0, 3750000)], 11000, 0, 0, 8⟩,
  ⟨0x1013, "OUT.DEFER.TMO", 6, 4, "F", [(0, 0), (800, 4800000)], 0, 0, 0, 8⟩,
  ⟨0x1014, "OUT.T.AUTH", 6, 4, "F", [(0, 0), (8000, 4800000)], 480000, 0, 0, 8⟩,
  ⟨0x1015, "OUT.AC.VNOM", 4, 2, "V", [(100, 277)], 230, 1, 0, 8⟩,
  ⟨0x1016, "OUT.AC.STATE.D", 1, 1, "", [(0, 1)], 0, 1, 0, 8⟩,
  ⟨0x1017, "OUT.AC.PP.EN", 1, 1, "", [(0, 1)], 1, 1, 0, 8⟩,
  ⟨0x1018, "OUT.AC.STOP.TMO", 6, 4, "F", [(8000, 80000)], 48000, 1, 0, 8⟩,
  ⟨0x1019, "OUT.AC.OVC.PCT", 2, 1, "%", [(100, 150)], 110, 1, 0, 8⟩,
  ⟨0x101A, "OUT.AC.OVC.T", 6, 4, "F", [(800, 80000)], 8000, 1, 0, 8⟩,
  ⟨0x101B, "OUT.AC.OVC.GRACE", 6, 4, "F", [(8000, 80000)], 40000, 1, 0, 8⟩,
  ⟨0x1020, "OUT.CP.FILT", 4, 2, "F", [(8, 80)], 24, 1, 0, 8⟩,
  ⟨0x1030, "OUT.DC.CC.TMO", 6, 4, "F", [(80000, 800000)], 304000, 1, 0, 8⟩,
  ⟨0x1031, "OUT.DC.PRE.TOL", 4, 2, "V", [(1, 50)], 20, 1, 0, 8⟩,
  ⟨0x1032, "OUT.DC.PRE.IMAX", 4, 2, "mA", [(100, 2000)], 2000, 1, 0, 8⟩]

/-- Parameters of area 0x10 (part 2). -/
def params10_2 : List PInfo := [
  ⟨0x1033, "OUT.DC.PRE.TMO", 6, 4, "F", [(8000, 80000)], 56000, 1, 0, 8⟩,
  ⟨0x1034, "OUT.DC.PRE.HOLD", 4, 2, "F", [(8, 800)], 80, 1, 0, 8⟩,
  ⟨0x1035, "OUT.DC.RAMP", 4, 2, "mA/F", [(1, 2000)], 25, 1, 0, 8⟩,
  ⟨0x1036, "OUT.DC.STOP.TMO", 4, 2, "F", [(80, 8000)], 1600, 1, 0, 8⟩,
  ⟨0x1037, "OUT.WELD.V", 4, 2, "V", [(20, 60)], 50, 1, 0, 8⟩,
  ⟨0x1038, "OUT.WELD.THR", 4, 2, "V", [(5, 40)], 25, 1, 0, 8⟩,
  ⟨0x1039, "OUT.WELD.T", 4, 2, "F", [(80, 8000)], 800, 1, 0, 8⟩,
  ⟨0x1040, "OUT.LIM.IMP", 6, 4, "W", [(0, 3750000)], 0, 0, 1, 8⟩,
  ⟨0x1041, "OUT.LIM.EXP", 6, 4, "W", [(0, 3750000)], 0, 0, 1, 8⟩,
  ⟨0x1042, "OUT.LIM.I", 6, 4, "mA", [(0, 3000000)], 0, 0, 1, 8⟩,
  ⟨0x1043, "OUT.PROFILE", 11, 1, "", [(0, 3)], 0, 0, 1, 8⟩,
  ⟨0x1044, "OUT.SESS.ID", 12, 16, "", [], 0, 0, 1, 8⟩,
  ⟨0x1050, "OUT.GRID.IMP", 6, 4, "W", [(0, 4294967295)], 4294967295, 0, 1, 1⟩,
  ⟨0x1051, "OUT.GRID.EXP", 6, 4, "W", [(0, 4294967295)], 4294967295, 0, 1, 1⟩]

/-- Parameters of area 0x10. -/
def params10 : List PInfo := params10_1 ++ params10_2

/-- Parameters of area 0x18. -/
def params18 : List PInfo := [
  ⟨0x1800, "POL.PG.BUS", 11, 1, "", [(0, 7), (255, 255)], 255, 1, 1, 16⟩,
  ⟨0x1801, "POL.PG.PORT", 11, 1, "", [(0, 1)], 0, 1, 1, 16⟩,
  ⟨0x1802, "POL.PG.PROF", 2, 1, "", [(0, 3), (255, 255)], 255, 1, 1, 16⟩,
  ⟨0x1803, "POL.PG.ADDR", 2, 1, "", [(0, 255)], 0, 1, 1, 16⟩,
  ⟨0x1804, "POL.PG.SERVE", 2, 1, "", [(0, 7), (255, 255)], 255, 0, 1, 16⟩,
  ⟨0x1805, "POL.PG.PMAX", 6, 4, "W", [(0, 0), (1000, 1250000)], 0, 1, 0, 16⟩,
  ⟨0x1810, "POL.TIE.EN", 1, 1, "", [(0, 1)], 0, 1, 1, 8⟩,
  ⟨0x1811, "POL.TIE.CH.I", 2, 1, "", [(0, 47), (255, 255)], 255, 1, 1, 8⟩,
  ⟨0x1812, "POL.TIE.IFS", 6, 4, "mA", [(1000, 5000000)], 1000000, 1, 1, 8⟩,
  ⟨0x1818, "POL.BUS.CH.V", 2, 1, "", [(0, 47), (255, 255)], 255, 1, 1, 8⟩,
  ⟨0x1819, "POL.BUS.VFS", 6, 4, "mV", [(100000, 2000000)], 1500000, 1, 1, 8⟩,
  ⟨0x1820, "POL.CAN.NOM", 11, 1, "", [(0, 3)], 2, 1, 1, 2⟩,
  ⟨0x1821, "POL.CAN.DATA", 11, 1, "", [(0, 3)], 1, 1, 1, 2⟩,
  ⟨0x1822, "POL.CAN.MININT", 4, 2, "F", [(8, 800)], 40, 1, 0, 2⟩,
  ⟨0x1828, "POL.SHARE", 11, 1, "", [(0, 1)], 1, 0, 0, 1⟩,
  ⟨0x1829, "POL.MOVE.RAMP", 4, 2, "mA/F", [(1, 2000)], 50, 1, 0, 1⟩,
  ⟨0x182A, "POL.MOVE.PRE.I", 4, 2, "mA", [(100, 2000)], 2000, 1, 0, 1⟩,
  ⟨0x182B, "POL.MOVE.VTOL", 4, 2, "V", [(1, 9)], 8, 1, 0, 1⟩,
  ⟨0x182C, "POL.MOVE.TMO", 6, 4, "F", [(800, 80000)], 16000, 1, 0, 1⟩,
  ⟨0x182D, "POL.PG.RECOV", 6, 4, "F", [(800, 800000)], 80000, 1, 0, 1⟩,
  ⟨0x182E, "POL.PG.DEV.T", 4, 2, "F", [(8, 8000)], 800, 1, 0, 1⟩]

/-- Parameters of area 0x20. -/
def params20 : List PInfo := [
  ⟨0x2000, "VLK.PROTO.EN", 2, 1, "bitmask", [(0, 7)], 7, 0, 0, 8⟩,
  ⟨0x2001, "VLK.TLS.MODE", 11, 1, "", [(0, 2)], 1, 0, 0, 8⟩,
  ⟨0x2002, "VLK.PAY.EN", 2, 1, "bitmask", [(1, 3)], 1, 0, 0, 8⟩,
  ⟨0x2003, "VLK.EVSEID", 13, 32, "", [], 0, 0, 0, 8⟩,
  ⟨0x2004, "VLK.TLS.KEY2", 2, 1, "", [(0, 7), (255, 255)], 255, 1, 0, 8⟩,
  ⟨0x2005, "VLK.TLS.KEY20", 2, 1, "", [(0, 7), (255, 255)], 255, 1, 0, 8⟩,
  ⟨0x2006, "VLK.SLAC.T.INIT", 6, 4, "F", [(160000, 400000)], 400000, 1, 0, 1⟩,
  ⟨0x2007, "VLK.SLAC.T.MATCH", 4, 2, "F", [(800, 16000)], 3200, 1, 0, 1⟩,
  ⟨0x2008, "VLK.SLAC.T.JOIN", 6, 4, "F", [(8000, 160000)], 96000, 1, 0, 1⟩,
  ⟨0x2009, "VLK.SLAC.VAL", 1, 1, "", [(0, 1)], 0, 1, 0, 1⟩,
  ⟨0x200A, "VLK.T.SETUP", 6, 4, "F", [(80000, 480000)], 160000, 1, 0, 1⟩,
  ⟨0x200B, "VLK.T.SEQ", 6, 4, "F", [(16000, 480000)], 480000, 1, 0, 1⟩,
  ⟨0x200C, "VLK.T.HOSTRESP", 4, 2, "F", [(800, 32000)], 16000, 1, 0, 1⟩,
  ⟨0x200D, "VLK.T.RESUME", 6, 4, "F", [(0, 0), (8000, 4800000)], 480000, 1, 0, 1⟩,
  ⟨0x200E, "VLK.MSG.MASK", 2, 1, "bitmask", [(0, 255)], 143, 0, 0, 1⟩,
  ⟨0x200F, "VLK.MSG.PERIOD", 6, 4, "F", [(8000, 480000)], 80000, 0, 0, 1⟩,
  ⟨0x2010, "VLK.RUNAHEAD.EN", 1, 1, "", [(0, 1)], 1, 1, 0, 1⟩,
  ⟨0x2011, "VLK.HPGP.TXATT", 2, 1, "dB", [(0, 20)], 0, 1, 0, 8⟩,
  ⟨0x2012, "VLK.T1S.NC", 2, 1, "", [(2, 8)], 8, 1, 0, 2⟩,
  ⟨0x2013, "VLK.T1S.TO", 2, 1, "bit times", [(20, 255)], 32, 1, 0, 2⟩]

/-- Parameters of area 0x30 (part 1). -/
def params30_1 : List PInfo := [
  ⟨0x3000, "MTR.SLOT.KIND", 11, 1, "", [(0, 3)], 0, 1, 3, 9⟩,
  ⟨0x3001, "MTR.SLOT.CH", 12, 8, "", [], 18446744073709551615, 1, 3, 9⟩,
  ⟨0x3002, "MTR.SLOT.VFS", 12, 12, "V", [], 21037727117832004444096167936, 1, 3, 9⟩,
  ⟨0x3003, "MTR.SLOT.IFS", 12, 16, "A", [], 89224429237836659257762702660391141376, 1, 3, 9⟩,
  ⟨0x3004, "MTR.SLOT.FNOM", 11, 1, "", [(0, 1)], 0, 1, 3, 9⟩,
  ⟨0x3005, "MTR.MOD.CLK", 11, 1, "", [(0, 3)], 2, 1, 3, 6⟩,
  ⟨0x3006, "MTR.MOD.CLKSEL", 2, 1, "", [(0, 5)], 0, 1, 3, 48⟩,
  ⟨0x3007, "MTR.MOD.RUN", 2, 1, "bits", [(16, 64)], 48, 1, 3, 1⟩,
  ⟨0x3008, "MTR.SQ.BACK", 2, 1, "F", [(1, 7)], 2, 1, 3, 1⟩,
  ⟨0x3009, "MTR.NOLOAD.I", 6, 4, "mA", [(1, 10000)], 20, 1, 3, 9⟩,
  ⟨0x300A, "MTR.DC.LOSS.EN", 1, 1, "", [(0, 1)], 0, 1, 3, 9⟩,
  ⟨0x300B, "MTR.DC.RCABLE", 6, 4, "µΩ", [(0, 100000)], 0, 1, 3, 9⟩,
  ⟨0x300C, "MTR.BAND.EDGE", 12, 14, "0.1 °C", [], 55460378676564592360188640427832, 1, 3, 1⟩,
  ⟨0x300D, "MTR.TEMP.SRC", 11, 1, "", [(0, 1)], 0, 1, 3, 9⟩,
  ⟨0x300E, "MTR.TEMP.CH", 2, 1, "", [(0, 47), (255, 255)], 255, 1, 3, 9⟩,
  ⟨0x300F, "MTR.TEMP.SCALE", 12, 8, "°C", [], 1128792064, 1, 3, 9⟩,
  ⟨0x3010, "MTR.CAL.GAIN.V", 12, 12, "", [], 19652298128231069086497374208, 1, 3, 72⟩,
  ⟨0x3011, "MTR.CAL.GAIN.I", 12, 16, "", [], 84405977751994456057622817414299254784, 1, 3, 72⟩,
  ⟨0x3012, "MTR.CAL.OFFS.V", 12, 12, "ppm of full scale", [], 0, 1, 3, 72⟩,
  ⟨0x3013, "MTR.CAL.OFFS.I", 12, 16, "ppm of full scale", [], 0, 1, 3, 72⟩,
  ⟨0x3014, "MTR.CAL.PHASE.V", 12, 12, "°", [], 0, 1, 3, 72⟩,
  ⟨0x3015, "MTR.CAL.PHASE.I", 12, 16, "°", [], 0, 1, 3, 72⟩,
  ⟨0x3016, "MTR.CAL.GAIN.P", 12, 12, "", [], 19652298128231069086497374208, 1, 3, 72⟩,
  ⟨0x3017, "MTR.CAL.GAIN.Q", 12, 12, "", [], 19652298128231069086497374208, 1, 3, 72⟩]

/-- Parameters of area 0x30 (part 2). -/
def params30_2 : List PInfo := [
  ⟨0x3018, "MTR.CAL.OFFS.P", 12, 12, "W", [], 0, 1, 3, 72⟩,
  ⟨0x3019, "MTR.CAL.OFFS.Q", 12, 12, "var", [], 0, 1, 3, 72⟩,
  ⟨0x301A, "MTR.CAL.VALID", 1, 1, "", [(0, 1)], 0, 1, 3, 72⟩,
  ⟨0x3020, "MTR.ZC.HYST", 4, 2, "V", [(1, 100)], 20, 1, 0, 9⟩,
  ⟨0x3021, "MTR.HARM.EN", 1, 1, "", [(0, 1)], 0, 0, 0, 9⟩,
  ⟨0x3022, "MTR.HARM.PERIOD", 6, 4, "F", [(8000, 80000)], 8000, 0, 0, 1⟩,
  ⟨0x3023, "MTR.PULSE.K", 6, 4, "pulses per kWh", [(1, 100000)], 1000, 0, 0, 9⟩,
  ⟨0x3024, "MTR.PULSE.Q", 11, 1, "", [(0, 4)], 0, 0, 0, 9⟩,
  ⟨0x3025, "MTR.PULSE.PIN", 2, 1, "", [(0, 8), (255, 255)], 255, 0, 0, 4⟩,
  ⟨0x3090, "MTR.CALT.GAIN.V", 12, 12, "", [], 19652298128231069086497374208, 1, 0, 9⟩,
  ⟨0x3091, "MTR.CALT.GAIN.I", 12, 16, "", [], 84405977751994456057622817414299254784, 1, 0, 9⟩,
  ⟨0x3092, "MTR.CALT.OFFS.V", 12, 12, "ppm of full scale", [], 0, 1, 0, 9⟩,
  ⟨0x3093, "MTR.CALT.OFFS.I", 12, 16, "ppm of full scale", [], 0, 1, 0, 9⟩,
  ⟨0x3094, "MTR.CALT.PHASE.V", 12, 12, "°", [], 0, 1, 0, 9⟩,
  ⟨0x3095, "MTR.CALT.PHASE.I", 12, 16, "°", [], 0, 1, 0, 9⟩,
  ⟨0x3096, "MTR.CALT.GAIN.P", 12, 12, "", [], 19652298128231069086497374208, 1, 0, 9⟩,
  ⟨0x3097, "MTR.CALT.GAIN.Q", 12, 12, "", [], 19652298128231069086497374208, 1, 0, 9⟩,
  ⟨0x3098, "MTR.CALT.OFFS.P", 12, 12, "W", [], 0, 1, 0, 9⟩,
  ⟨0x3099, "MTR.CALT.OFFS.Q", 12, 12, "var", [], 0, 1, 0, 9⟩]

/-- Parameters of area 0x30. -/
def params30 : List PInfo := params30_1 ++ params30_2

/-- Parameters of area 0x38. -/
def params38 : List PInfo := [
  ⟨0x3800, "LEG.DEM.LEN", 2, 1, "min", [(1, 1), (2, 2), (3, 3), (4, 4), (5, 5), (6, 6), (10, 10), (12, 12), (15, 15), (20, 20), (30, 30), (60, 60)], 15, 1, 3, 1⟩,
  ⟨0x3801, "LEG.CLK.LIMIT", 4, 2, "ms", [(100, 60000)], 2000, 1, 3, 1⟩,
  ⟨0x3802, "LEG.CLK.SLEW", 4, 2, "ppm", [(100, 5000)], 1000, 1, 3, 1⟩,
  ⟨0x3803, "LEG.ACC.TMO", 6, 4, "F", [(80000, 28800000)], 4800000, 1, 3, 1⟩,
  ⟨0x3804, "LEG.TZ.OFS", 5, 2, "min", [(-720, 840)], 0, 0, 3, 1⟩,
  ⟨0x3805, "LEG.TAR.ACTIVE", 2, 1, "", [(0, 3), (255, 255)], 255, 0, 3, 1⟩,
  ⟨0x3806, "LEG.AUDIT.WARN", 4, 2, "entries", [(128, 255)], 224, 1, 0, 1⟩]

/-- Parameters of area 0x40 (part 1). -/
def params40_1 : List PInfo := [
  ⟨0x4000, "SAF.SI.FUNC", 11, 1, "", [(0, 4)], 0, 1, 2, 16⟩,
  ⟨0x4001, "SAF.SI.MODE", 11, 1, "", [(0, 1)], 0, 1, 2, 16⟩,
  ⟨0x4002, "SAF.SI.TP", 12, 2, "", [], 65535, 1, 2, 16⟩,
  ⟨0x4003, "SAF.SI.FILT", 2, 1, "F", [(2, 80)], 8, 1, 2, 16⟩,
  ⟨0x4004, "SAF.SI.DISC", 4, 2, "F", [(8, 4000)], 800, 1, 2, 16⟩,
  ⟨0x4005, "SAF.SI.SCOPE", 4, 2, "bitmask", [(0, 2047)], 2047, 1, 2, 16⟩,
  ⟨0x4008, "SAF.SO.EN", 6, 4, "bitmask, bit n = SOn", [(0, 4294967295)], 0, 1, 2, 1⟩,
  ⟨0x4009, "SAF.SO.TPER", 4, 2, "F", [(160, 40000)], 8000, 1, 2, 32⟩,
  ⟨0x400A, "SAF.FB.POL", 1, 1, "", [(0, 1)], 1, 1, 2, 32⟩,
  ⟨0x400B, "SAF.FB.FILT", 2, 1, "F", [(2, 80)], 8, 1, 2, 1⟩,
  ⟨0x400C, "SAF.FB.WELD.T", 4, 2, "F", [(80, 8000)], 400, 1, 2, 1⟩,
  ⟨0x4010, "SAF.CP.FILT", 2, 1, "F", [(8, 80)], 24, 1, 2, 8⟩,
  ⟨0x4011, "SAF.CP.BTMO", 4, 2, "F", [(800, 16000)], 9600, 1, 2, 8⟩,
  ⟨0x4012, "SAF.RST.CMD", 2, 1, "bitmask", [(0, 63)], 3, 1, 2, 1⟩,
  ⟨0x4018, "SAF.CD.OUTLET", 2, 1, "", [(0, 7), (255, 255)], 255, 1, 2, 2⟩,
  ⟨0x4019, "SAF.CD.STOPCAT", 11, 1, "", [(0, 1)], 0, 1, 2, 2⟩,
  ⟨0x401A, "SAF.CD.SS1.T", 4, 2, "F", [(80, 8000)], 800, 1, 2, 2⟩,
  ⟨0x401B, "SAF.CD.BRK.DLY", 4, 2, "F", [(0, 800)], 80, 1, 2, 2⟩,
  ⟨0x401C, "SAF.CD.PORT", 11, 1, "", [(0, 1)], 0, 1, 2, 2⟩,
  ⟨0x401D, "SAF.CD.PROF", 2, 1, "", [(0, 3), (255, 255)], 255, 1, 2, 2⟩,
  ⟨0x401E, "SAF.CD.ADDR", 2, 1, "", [(0, 255)], 0, 1, 2, 2⟩,
  ⟨0x4020, "SAF.BT.TORQUE", 4, 2, "0.1 % of rated", [(100, 3000)], 1300, 1, 2, 2⟩,
  ⟨0x4021, "SAF.BT.T", 4, 2, "F", [(800, 40000)], 8000, 1, 2, 2⟩,
  ⟨0x4022, "SAF.BT.POS", 4, 2, "drive position units", [(1, 10000)], 50, 1, 2, 2⟩]

/-- Parameters of area 0x40 (part 2). -/
def params40_2 : List PInfo := [
  ⟨0x4023, "SAF.BT.INT", 6, 4, "F", [(28800000, 4147200000)], 230400000, 1, 2, 2⟩,
  ⟨0x4040, "EFI.RDC.EN", 2, 1, "bitmask, bit k = outlet k", [(0, 255)], 255, 1, 2, 1⟩,
  ⟨0x4041, "EFI.RDC.THR", 4, 2, "0.1 mA", [(40, 60)], 60, 1, 2, 1⟩,
  ⟨0x4042, "EFI.RDC.T1", 6, 4, "F", [(800, 72000)], 8000, 1, 2, 1⟩,
  ⟨0x4043, "EFI.RDC.T2", 4, 2, "F", [(80, 1600)], 800, 1, 2, 1⟩,
  ⟨0x4044, "EFI.RDC.T3", 4, 2, "F", [(8, 300)], 80, 1, 2, 1⟩,
  ⟨0x4045, "EFI.RDC.TURNS", 4, 2, "turns", [(100, 2000)], 1000, 1, 2, 8⟩,
  ⟨0x4048, "EFI.IMD.EN", 2, 1, "bitmask, bit p = IMp", [(0, 15)], 15, 1, 2, 1⟩,
  ⟨0x4049, "EFI.IMD.FAULT", 4, 2, "Ω/V", [(100, 500)], 100, 1, 2, 1⟩,
  ⟨0x404A, "EFI.IMD.WARN", 4, 2, "Ω/V", [(100, 1000)], 500, 1, 2, 1⟩,
  ⟨0x404B, "EFI.IMD.TP", 4, 2, "F", [(800, 16000)], 2400, 1, 2, 1⟩,
  ⟨0x404C, "EFI.IMD.SLICE", 6, 4, "F", [(2560, 80000)], 8000, 1, 2, 1⟩,
  ⟨0x404D, "EFI.IMD.REVISIT", 6, 4, "F", [(8000, 240000)], 40000, 1, 2, 1⟩,
  ⟨0x404E, "EFI.IMD.STALE", 6, 4, "F", [(16000, 480000)], 64000, 1, 2, 1⟩,
  ⟨0x404F, "EFI.IMD.RC", 6, 4, "Ω", [(500000, 10000000)], 2000000, 1, 2, 8⟩,
  ⟨0x4050, "EFI.BAL.T", 4, 2, "F", [(80, 8000)], 800, 1, 2, 1⟩,
  ⟨0x4051, "EFI.PE.EN", 2, 1, "bitmask, bit k = outlet k", [(0, 255)], 255, 1, 2, 1⟩,
  ⟨0x4052, "EFI.PE.RMAX", 4, 2, "mΩ", [(100, 10000)], 1000, 1, 2, 8⟩]

/-- Parameters of area 0x40. -/
def params40 : List PInfo := params40_1 ++ params40_2

/-- Parameters of area 0x48. -/
def params48 : List PInfo := [
  ⟨0x4800, "AUX.OC.THR", 4, 2, "mA", [(100, 7200)], 6000, 1, 0, 12⟩,
  ⟨0x4801, "AUX.OC.T", 4, 2, "F", [(8, 800)], 80, 1, 0, 12⟩,
  ⟨0x4802, "AUX.BLANK", 4, 2, "F", [(0, 8000)], 160, 1, 0, 12⟩,
  ⟨0x4803, "AUX.INRUSH.I", 4, 2, "mA", [(0, 24000)], 6000, 1, 0, 12⟩,
  ⟨0x4804, "AUX.PRIO", 2, 1, "", [(0, 7)], 4, 0, 0, 12⟩,
  ⟨0x4805, "AUX.OL.THR", 4, 2, "mA", [(20, 500)], 50, 0, 0, 12⟩,
  ⟨0x4806, "AUX.OL.T", 4, 2, "F", [(80, 8000)], 800, 1, 0, 12⟩,
  ⟨0x4807, "AUX.OL.EN", 1, 1, "", [(0, 1)], 1, 0, 0, 12⟩,
  ⟨0x4808, "AUX.RETRY.N", 2, 1, "", [(0, 10)], 3, 0, 0, 12⟩,
  ⟨0x4809, "AUX.RETRY.WIN", 6, 4, "F", [(8000, 800000)], 80000, 1, 0, 12⟩,
  ⟨0x480A, "AUX.RETRY.DLY", 4, 2, "F", [(80, 40000)], 800, 1, 0, 12⟩,
  ⟨0x480B, "AUX.LAMP.COMP", 1, 1, "", [(0, 1)], 1, 0, 0, 12⟩,
  ⟨0x480C, "AUX.LAMP.VREF", 4, 2, "mV", [(9000, 32000)], 24000, 1, 0, 12⟩,
  ⟨0x4810, "AUX.BUDGET", 4, 2, "mA", [(2000, 48000)], 12000, 0, 0, 1⟩,
  ⟨0x4811, "AUX.UV.HOLD", 4, 2, "F", [(8, 8000)], 80, 1, 0, 1⟩]

/-- Parameters of area 0x50. -/
def params50 : List PInfo := [
  ⟨0x5000, "SLK.EN", 1, 1, "", [(0, 1)], 1, 0, 0, 1⟩,
  ⟨0x5001, "SLK.BAND", 11, 1, "", [(0, 1)], 0, 1, 0, 1⟩,
  ⟨0x5002, "SLK.COUPLE", 11, 1, "", [(0, 3)], 3, 1, 0, 1⟩,
  ⟨0x5003, "SLK.SITE.ID", 4, 2, "", [(1, 65535)], 1, 0, 0, 1⟩,
  ⟨0x5004, "SLK.NODE.ADDR", 2, 1, "", [(0, 63)], 0, 0, 0, 1⟩,
  ⟨0x5005, "SLK.ROOT.EN", 1, 1, "", [(0, 1)], 1, 1, 0, 1⟩,
  ⟨0x5006, "SLK.TM.PER", 6, 4, "F", [(80000, 4800000)], 480000, 1, 0, 1⟩,
  ⟨0x5007, "SLK.TXLVL", 2, 1, "dB", [(0, 20)], 0, 1, 0, 1⟩,
  ⟨0x5008, "SLK.RETRY", 2, 1, "", [(0, 7)], 3, 1, 0, 1⟩,
  ⟨0x5009, "SLK.IMP.THR", 2, 1, "dB", [(6, 30)], 12, 1, 0, 1⟩,
  ⟨0x500A, "SLK.MSG.EN", 1, 1, "", [(0, 1)], 1, 0, 0, 1⟩]

/-- Parameters of area 0x58. -/
def params58 : List PInfo := [
  ⟨0x5800, "NFC.MODE", 11, 1, "", [(0, 3)], 3, 0, 0, 1⟩,
  ⟨0x5801, "NFC.RD.PROTO", 2, 1, "bitmask", [(0, 7)], 7, 0, 0, 1⟩,
  ⟨0x5802, "NFC.RD.RATE", 11, 1, "", [(0, 3)], 3, 1, 0, 1⟩,
  ⟨0x5803, "NFC.RD.MAXCARDS", 2, 1, "", [(1, 8)], 4, 1, 0, 1⟩,
  ⟨0x5804, "NFC.RD.PERIOD", 6, 4, "F", [(0, 0), (8000, 480000)], 0, 1, 0, 1⟩,
  ⟨0x5805, "NFC.RD.REPEAT", 6, 4, "F", [(0, 0), (8000, 480000)], 24000, 0, 0, 1⟩,
  ⟨0x5806, "NFC.RD.IDLE", 6, 4, "F", [(800, 480000)], 40000, 1, 0, 1⟩,
  ⟨0x5807, "NFC.LP.EN", 1, 1, "", [(0, 1)], 1, 0, 0, 1⟩,
  ⟨0x5808, "NFC.LP.THR", 4, 2, "0.1 %", [(5, 500)], 30, 1, 0, 1⟩,
  ⟨0x5809, "NFC.LP.CAL", 6, 4, "F", [(80000, 4800000)], 480000, 1, 0, 1⟩,
  ⟨0x580A, "NFC.TAG.WRITE", 1, 1, "", [(0, 1)], 0, 0, 0, 1⟩,
  ⟨0x580B, "NFC.TAG.FD.EN", 1, 1, "", [(0, 1)], 1, 0, 0, 1⟩]

/-- Parameters of area 0x60. -/
def params60 : List PInfo := [
  ⟨0x6000, "DSP.VLCD", 4, 2, "mV", [(8000, 15000)], 12500, 1, 0, 1⟩,
  ⟨0x6001, "DSP.VLCD.TC", 5, 2, "mV/K", [(-50, 0)], 65516, 1, 0, 1⟩,
  ⟨0x6002, "DSP.INV.MODE", 11, 1, "", [(0, 2)], 1, 1, 0, 1⟩,
  ⟨0x6003, "DSP.INV.N", 2, 1, "lines", [(1, 32)], 13, 1, 0, 1⟩,
  ⟨0x6004, "DSP.MAP.EN", 1, 1, "", [(0, 1)], 1, 1, 0, 1⟩,
  ⟨0x6005, "DSP.LEGAL.LIST", 12, 16, "", [], 20203181445841325826244893147136, 0, 0, 1⟩,
  ⟨0x6006, "DSP.LEGAL.DWELL", 6, 4, "F", [(8000, 240000)], 40000, 0, 0, 1⟩,
  ⟨0x6007, "DSP.OPAL.ITEM", 2, 1, "", [(0, 3)], 0, 0, 0, 1⟩,
  ⟨0x6008, "DSP.OPAL.VLCD", 4, 2, "mV", [(5000, 10000)], 7000, 1, 0, 1⟩,
  ⟨0x6009, "DSP.CHECK.T", 6, 4, "F", [(8000, 480000)], 80000, 0, 0, 1⟩]

/-- Parameters of area 0x70. -/
def params70 : List PInfo := [
  ⟨0x7000, "FLT.RETRY.N", 2, 1, "", [(0, 10)], 3, 1, 0, 12⟩,
  ⟨0x7001, "FLT.RETRY.WIN", 6, 4, "F", [(800000, 691200000)], 28800000, 1, 0, 1⟩,
  ⟨0x7002, "FLT.RECOV.T", 6, 4, "F", [(8000, 4800000)], 80000, 1, 0, 12⟩,
  ⟨0x7003, "FLT.OVRUN.N", 2, 1, "", [(1, 64)], 8, 1, 0, 1⟩,
  ⟨0x7004, "FLT.OBJ.N", 2, 1, "", [(1, 10)], 3, 1, 0, 1⟩,
  ⟨0x7005, "FLT.CORE.N", 2, 1, "", [(1, 5)], 3, 1, 0, 1⟩]

/-- Parameters of area 0x78. -/
def params78 : List PInfo := [
  ⟨0x7800, "UPD.ACT.WAIT", 6, 4, "F", [(0, 0), (8000, 4800000)], 480000, 0, 0, 1⟩,
  ⟨0x7801, "UPD.SITE.ACCEPT", 1, 1, "", [(0, 1)], 0, 0, 0, 1⟩,
  ⟨0x7802, "UPD.SITE.INT", 4, 2, "F", [(80, 8000)], 400, 1, 0, 1⟩,
  ⟨0x7803, "UPD.PROG.STEP", 2, 1, "%", [(1, 50)], 10, 0, 0, 1⟩]

/-- The parameters of an area, in ascending order of ID. -/
def areaParams (area : Nat) : List PInfo :=
  match area with
  | 0x00 => params00
  | 0x02 => params02
  | 0x10 => params10
  | 0x18 => params18
  | 0x20 => params20
  | 0x30 => params30
  | 0x38 => params38
  | 0x40 => params40
  | 0x48 => params48
  | 0x50 => params50
  | 0x58 => params58
  | 0x60 => params60
  | 0x70 => params70
  | 0x78 => params78
  | _ => []

end Sys2Proof.Machine
end

