-- ==== Sys2Proof/Machine/Ops.lean ====
section
/-! DEFINITION. The operations every chapter shares: one entry of a fixed array, parameters (R62 to R72, R121), queue
records and events (R73 to R81), faults noted for containment (R522, R534), replies and the common checks of a host
command (R23, R34 to R39, R59, R60), and internal transactions (R107, R108). -/

namespace Sys2Proof.Machine

/-- One entry of a fixed array changed by `f`. -/
def upd {α : Type} {n : Nat} (v : Vector α n) (i : Fin n) (f : α → α) : Vector α n := v.set i (f v[i])

/-- An entry of a fixed array by a number from a packet, if it exists. -/
def vget? {α : Type} {n : Nat} (v : Vector α n) (i : Nat) : Option α := if h : i < n then some (v[i]'h) else none

/-- All indices of a fixed array. -/
def allFin (n : Nat) : List (Fin n) := List.finRange n

/-- An entry put before the first that it precedes. -/
def insertBy {α : Type} (before : α → α → Bool) (x : α) : List α → List α
  | [] => [x]
  | y :: r => if before x y then x :: y :: r else y :: insertBy before x r

/-- A list in order, equal entries in the order given. -/
def sortBy {α : Type} (before : α → α → Bool) (l : List α) : List α := l.foldl (fun acc x => insertBy before x acc) []

/-- Whether a list of numbers precedes another in order. -/
def lexLt : List Nat → List Nat → Bool
  | [], _ => false
  | _, [] => false
  | x :: r, y :: t => decide (x < y) || (x == y && lexLt r t)

/-- The place of an entry in a list, from 1; 0 when it is not in it. -/
def place {α : Type} [BEq α] (x : α) : List α → Nat
  | [] => 0
  | y :: r => if x == y then 1 else match place x r with
    | 0 => 0
    | n + 1 => n + 2

/-- Whether a timer that expires at `t` has expired at frame `f` (R24). -/
def expired (t : Option Nat) (f : Nat) : Bool := match t with
  | some e => decide (e ≤ f)
  | none => false

/-- The frame number `d` frames on, modulo 2 ^ 48 (R15). -/
def frameAfter (f d : Nat) : Nat := (f + d) % 2 ^ 48

/-! ### Free values -/

/-- The next draw of the model's counter behind the free values of Config. -/
def State.draw (s : State) : State := { s with rnd := s.rnd + 1 }

/-- `n` free bytes of the current draw. -/
def freeBytes (s : State) (n : Nat) : List Byte := (List.range n).map (Config.freeByte s.rnd)

/-! ### Numbers -/

/-- The nearest integer; a value half-way between two goes as Config.tieUp says. -/
def roundRat (x : Rat) : Int :=
  let f := x.floor
  let d := x - f
  if d < 1 / 2 then f else if 1 / 2 < d then f + 1 else if Config.tieUp x then f + 1 else f

/-- The value of a 32-bit float pattern; a pattern that is no finite number is a free value. -/
def f32Rat (n : Nat) : Rat :=
  let e : Nat := n / 2 ^ 23 % 256
  let m : Nat := n % 2 ^ 23
  let up : Nat := if 150 ≤ e then (2 ^ 23 + m) * 2 ^ (e - 150) else if e = 0 then m else 2 ^ 23 + m
  let down : Nat := if e = 0 then 2 ^ 149 else if 150 ≤ e then 1 else 2 ^ (150 - e)
  let v : Rat := if e = 255 then Config.f32Special n else (up : Rat) / (down : Rat)
  if n / 2 ^ 31 % 2 = 1 then -v else v

/-- Limits of an integer. -/
def clampI (lo hi x : Int) : Int := max lo (min hi x)

/-- Numbers in a byte string, little-endian. -/
def u8At (b : List Byte) (o : Nat) : Nat := leNat ((b.drop o).take 1)
def u16At (b : List Byte) (o : Nat) : Nat := leNat ((b.drop o).take 2)
def u32At (b : List Byte) (o : Nat) : Nat := leNat ((b.drop o).take 4)
def s32At (b : List Byte) (o : Nat) : Int := signed 4 (u32At b o)

/-! ### Addressed buffers -/

/-- A byte of an addressed buffer; one that is not listed reads 0. -/
def memGet : List Host.Cell → Nat → Byte
  | [], _ => 0
  | (k, v) :: r, x => if k = x then v else if x < k then 0 else memGet r x

/-- The buffer with the entry of an address removed. -/
def memDel : List Host.Cell → Nat → List Host.Cell
  | [], _ => []
  | (k, v) :: r, x => if k = x then r else if x < k then (k, v) :: r else (k, v) :: memDel r x

/-- The buffer with an address set, addresses strictly rising. -/
def memSet : List Host.Cell → Nat → Byte → List Host.Cell
  | [], x, y => [(x, y)]
  | (k, v) :: r, x, y => if k = x then (x, y) :: r else if x < k then (x, y) :: (k, v) :: r else (k, v) :: memSet r x y

/-- A byte written; a byte of 0 is not listed. -/
def memPut (m : List Host.Cell) (x : Nat) (y : Byte) : List Host.Cell := if y = 0 then memDel m x else memSet m x y

/-- Bytes written from an address on. -/
def memWrite : List Host.Cell → Nat → List Byte → List Host.Cell
  | m, _, [] => m
  | m, x, y :: r => memWrite (memPut m x y) (x + 1) r

/-- Bytes read from an address on. -/
def memRead (m : List Host.Cell) (x n : Nat) : List Byte := (List.range n).map fun i => memGet m (x + i)

/-- The canonical form: addresses strictly rising and no byte of 0 listed. -/
def memWf : List Host.Cell → Bool
  | [] => true
  | [(_, v)] => v != 0
  | (k, v) :: (l, w) :: r => v != 0 && decide (k < l) && memWf ((l, w) :: r)

/-! ### Parameters -/

/-- The key of a parameter instance in the store. -/
def pkey (id inst : Nat) : Nat := id * 256 + inst

/-- The value stored under a key. -/
def storeGet : List (Nat × Nat) → Nat → Option Nat
  | [], _ => none
  | (k, v) :: r, x => if k = x then some v else if x < k then none else storeGet r x

/-- The store with the entry of a key removed. -/
def storeDel : List (Nat × Nat) → Nat → List (Nat × Nat)
  | [], _ => []
  | (k, v) :: r, x => if k = x then r else if x < k then (k, v) :: r else (k, v) :: storeDel r x

/-- The store with a key set, keys strictly rising. -/
def storeSet : List (Nat × Nat) → Nat → Nat → List (Nat × Nat)
  | [], x, y => [(x, y)]
  | (k, v) :: r, x, y => if k = x then (x, y) :: r else if x < k then (x, y) :: (k, v) :: r else (k, v) :: storeSet r x y

/-- The canonical form of the store: keys strictly rising. -/
abbrev storeWf (m : List (Nat × Nat)) : Prop := (m.map fun x => x.1).Pairwise fun a b => a < b

/-- The table entry of a parameter ID. -/
def pinfo (id : Nat) : Option PInfo := (areaParams (id / 256)).find? (fun p => p.id == id)

/-- The default of an instance: the table's, with the lower values of AX4 to AX11 (Table AUX-7). -/
def pdefault (id inst : Nat) : Nat :=
  if (id = 0x4800 ∨ id = 0x4803) ∧ 4 ≤ inst then 2000
  else match pinfo id with
    | some p => p.dflt
    | none => 0

/-- The value of a parameter instance, its bytes packed little-endian; SYS.VAULT.USER stands in Beryl (R139). -/
def pget (s : State) (id inst : Nat) : Nat :=
  if id = 0x0026 then s.beryl.user else (storeGet s.params (pkey id inst)).getD (pdefault id inst)

/-- A parameter instance read as a truth value. -/
def pbool (s : State) (id inst : Nat) : Bool := pget s id inst != 0

/-- A parameter instance read in its signed type. -/
def psigned (s : State) (id inst len : Nat) : Int := signed len (pget s id inst)

/-- The store with an instance written; an instance at its default is not listed. -/
def storePut (m : List (Nat × Nat)) (id inst v : Nat) : List (Nat × Nat) :=
  if v = pdefault id inst then storeDel m (pkey id inst) else storeSet m (pkey id inst) v

/-- A parameter instance written at step 6. -/
def pset (id inst v : Nat) (s : State) : State :=
  if id = 0x0026 then { s with beryl := { s.beryl with user := v } }
  else { s with params := storePut s.params id inst v }

/-! ### Queues and events -/

/-- Words of a queue (Table CMD-12). -/
def queueWords (q : Fin 4) : Nat := match q with
  | 0 => 4096
  | 1 => 8192
  | 2 => 2048
  | 3 => 1024

/-- Unread words of a queue. -/
def Queue.unread (q : Queue) : Nat := 4 * q.recs.length - q.pos

/-- Word 0 of a record (Table CMD-13). -/
def recWord0 (cont lost : Bool) (remain id dom pseq : Nat) : Nat :=
  2 ^ 31 + (if cont then 2 ^ 30 else 0) + (if lost then 2 ^ 28 else 0) + remain * 2 ^ 24 + id * 2 ^ 16 + dom * 2 ^ 12
    + pseq % 256

/-- A record of four plain words. -/
def mkRec (a b c d : Nat) : QRec :=
  { w0 := { data := BitVec.ofNat 32 a }, w1 := { data := BitVec.ofNat 32 b },
    w2 := { data := BitVec.ofNat 32 c }, w3 := { data := BitVec.ofNat 32 d } }

/-- The records of a packet: the first with frame, detail and argument, then 12 bytes of payload in each continuation
record (R74). -/
def packetRecs (frame id dom detail arg pseq : Nat) (lost : Bool) (payload : List Byte) : List QRec :=
  let conts := chunks 12 15 payload
  let n := conts.length
  mkRec (recWord0 false lost n id dom pseq) (frame % 2 ^ 32) (frame / 2 ^ 32 % 2 ^ 16 * 2 ^ 16 + detail % 2 ^ 16) arg ::
    conts.zipIdx.map fun (c, i) =>
      let b := fit 12 c
      mkRec (recWord0 true false (n - 1 - i) id dom pseq) (leNat (b.take 4)) (leNat ((b.drop 4).take 4)) (leNat (b.drop 8))

/-- The frame at which a queue's packet is stored: the words it may use, the packet whole or LOST noted (R75). -/
def Queue.push (cap frame id dom detail arg : Nat) (payload : List Byte) (q : Queue) : Queue :=
  let recs := packetRecs frame id dom detail arg q.pseq q.lostMark payload
  if 4 * (q.recs.length + recs.length) ≤ cap then
    { q with recs := q.recs ++ recs, pseq := (q.pseq + 1) % 256, lostMark := false }
  else { q with lost := min (q.lost + recs.length) (2 ^ 32 - 1), lostMark := true }

/-- The events of classes P and S, which the reserve of queue 0 serves (R75, R521, Table FLT-4). -/
def permanentEvent (id detail arg : Nat) : Bool :=
  [0x02, 0x03, 0x04, 0x06, 0x41, 0x57, 0xAA, 0xF3, 0xF6].contains id || (id == 0xF5 && detail == 2)
    || (id == 0xA3 && [1, 2, 5].contains (arg % 256))

/-- A reply or notification as it stands on the wire (R31, R34). -/
def packetBytes (opcode seq flags txn : Nat) (body : List Byte) : List Byte :=
  let p := leBytes 2 0xC39A ++ leBytes 2 (body.length + 20) ++ leBytes 2 seq ++ leBytes 2 opcode ++ [BitVec.ofNat 8 flags,
    BitVec.ofNat 8 txn, 1, 0, 0, 0, 0, 0] ++ body
  p ++ leBytes 4 (crc32 p).toNat

/-- A datagram with its tag (Table CMD-7, R44). -/
def datagram (session counter : Nat) (key packet : List Byte) : List Byte :=
  let d := leBytes 4 session ++ leBytes 8 counter ++ packet
  d ++ (hmac256 key d).take 16

/-- Something leaves the part in this frame. -/
def emit (o : Out) (s : State) : State := { s with outbox := s.outbox ++ [o] }

/-- A packet sent on an open Ethernet session (R43, R45). -/
def sendOn (i : Fin 2) (packet : List Byte) (s : State) : State :=
  match s.link.sessions[i] with
  | none => s
  | some e =>
    emit (.datagram e.peer (datagram e.sid e.txNext e.key packet))
      { s with link := { s.link with sessions := s.link.sessions.set i (some { e with txNext := e.txNext + 1 }) } }

/-- EVT_NOTIFY on every open session (R49). -/
def notifyHosts (s : State) : State :=
  if pbool s 0x0013 0 then (allFin 2).foldl (fun s i => sendOn i (packetBytes 0x0006 0 1 0 []) s) s else s

/-- A packet queued in queue 0 (R74, R75), with the notification of R49 when the queue was empty. -/
def pushEvent (id dom detail arg : Nat) (payload : List Byte) (s : State) : State :=
  let q := s.queues[0]
  let cap := if permanentEvent id detail arg then 4096 else 4032
  let q' := q.push cap s.frame id dom detail arg payload
  let s := { s with queues := s.queues.set 0 q' }
  if q.unread = 0 ∧ q'.unread ≠ 0 then notifyHosts s else s

/-- A packet queued in queue 1, 2 or 3, with CMD_QUEUE_DATA when the queue was empty (R80). -/
def pushData (q : Fin 4) (id dom detail arg : Nat) (payload : List Byte) (s : State) : State :=
  let old := s.queues[q]
  let new := old.push (queueWords q) s.frame id dom detail arg payload
  let s := { s with queues := s.queues.set q new }
  if old.unread = 0 ∧ new.unread ≠ 0 then pushEvent 0x0C 12 0 q [] s else s

/-! ### Faults noted for containment (R522, R525, R534) -/

/-- A fault of class T or P of a fence domain, noted in the frame of its event. A fault of a fenced domain counts for
nothing unless it is permanent; faults of one frame are one. -/
def noteFault (d : Fin 12) (cause : Nat) (permanent counted byCmd : Bool) (s : State) : State :=
  let dom := s.flt.domains[d]
  if dom.state = 2 ∨ (dom.state = 1 ∧ ¬ permanent) then s
  else
    let f : PendFault := match dom.fault with
      | none => { cause := cause, permanent := permanent, frame := s.frame, counted := counted, byCmd := byCmd }
      | some p => if permanent && !p.permanent then { p with permanent := true, cause := cause, byCmd := byCmd } else p
    { s with flt := { s.flt with domains := s.flt.domains.set d { dom with fault := some f } } }

/-- The fault that an event of Table FLT-4 is to its domain: permanent or transient; none for an event of another class
or one whose object alone is retired. -/
def eventFault (id arg : Nat) : Option Bool :=
  if id = 0x41 then some true
  else if [0x42, 0x4C, 0xB8, 0xE2, 0xF4].contains id then some false
  else if id = 0xA3 ∧ [1, 2, 5].contains (arg % 256) ∧ ¬ (24 ≤ arg / 256 ∧ arg / 256 < 32) then some true
  else none

/-- An event: queued with the frame number (R21), and noted when its class fences its domain (R522). -/
def evp (id dom detail arg : Nat) (payload : List Byte) (s : State) : State :=
  let s := pushEvent id dom detail arg payload s
  match eventFault id arg with
  | none => s
  | some perm => if h : dom < 12 then noteFault ⟨dom, h⟩ id perm true false s else s

/-- An event of one record. -/
def ev (id dom detail arg : Nat) (s : State) : State := evp id dom detail arg [] s

/-- A 32-bit argument field of a signed value. -/
def arg32 (x : Int) : Nat := (x % (2 ^ 32 : Nat)).toNat

/-- A record of the retirement log, both copies written within 80 F (R528); the log holds 64. -/
def writeRecord (kind number action cause : Nat) (reason : List Byte) (s : State) : State :=
  let r : RetRec := { seq := s.flt.nextSeq, kind := kind, number := number, action := action, cause := cause,
                      legal := s.onyx.legal, reason := reason, by_ := some (frameAfter s.frame 80) }
  { s with flt := { s.flt with nextSeq := s.flt.nextSeq + 1, log := (s.flt.log ++ [r]).drop (s.flt.log.length + 1 - 64) } }

/-- An object's entry in the fault book (R527). -/
def objFault (s : State) (kind number : Nat) : ObjFault :=
  (s.flt.objs.find? fun o => o.kind == kind && o.number == number).getD { kind := kind, number := number }

/-- The fault book with an object's entry set. -/
def setObj (o : ObjFault) (s : State) : State :=
  { s with flt := { s.flt with objs := o :: s.flt.objs.filter fun x => !(x.kind == o.kind && x.number == o.number) } }

/-- Whether an object is retired (Table FLT-2): kinds 1 group, 2 tie, 3 insulation port, 4 switch channel, 5 HPGP port. -/
def objRetired (s : State) (kind number : Nat) : Bool := (objFault s kind number).retired.isSome

/-- An object retired at the frame of the event that causes it (R527). -/
def retireObj (kind number dom cause action detail : Nat) (reason : List Byte) (s : State) : State :=
  if objRetired s kind number then s
  else ev 0xF1 dom detail (kind * 256 + number)
    (writeRecord kind number action cause reason (setObj { objFault s kind number with retired := some cause } s))

/-- A failure of an object counted; at FLT.OBJ.N within FLT.RETRY.WIN it is retired (R527). -/
def objFailure (kind number dom cause : Nat) (s : State) : State :=
  let o := objFault s kind number
  let fails := s.frame :: o.fails.filter fun f => decide (s.frame < f + pget s 0x7001 0)
  let s := setObj { o with fails := fails } s
  if pget s 0x7004 0 ≤ fails.length then retireObj kind number dom cause 1 1 [] s else s

/-- An object returned by command (R529): its count cleared, the record written, FLT_RETURN queued. -/
def returnObj (kind number dom : Nat) (reason : List Byte) (s : State) : State :=
  let cause := ((objFault s kind number).retired).getD 0xFF
  ev 0xF2 dom 2 (kind * 256 + number)
    (writeRecord kind number 3 cause reason (setObj { kind := kind, number := number } s))

/-! ### Service, power and safety conditions several chapters read -/

/-- The link status code of a service level (Table CMD-6). -/
def serviceCode (v : Service) : Nat := match v with
  | .bringUp => 1
  | .coarse => 3
  | .full => 0
  | .loader => 4

/-- Whether the module is in watch state (R140). -/
def watching (s : State) : Bool := pget s 0x0023 0 = 1

/-- Whether power fail has been detected (R146). -/
def powerFailed (s : State) : Bool := s.sys.powerFail.isSome

/-- Whether a fence domain is fenced or retired (R522, R526). -/
def fencedDomain (s : State) (d : Nat) : Bool := match vget? s.flt.domains d with
  | some x => x.state != 0
  | none => false

/-- Whether an activation that is due holds off new starts (R552). -/
def startsHeld (s : State) : Bool := s.upd.mask != 0 && expired s.upd.due s.frame

/-- The legal time a logbook or record carries (R305). -/
def legalNow (s : State) : Nat := s.onyx.legal

/-! ### Replies and host commands -/

/-- Whether an opcode's reply always carries result data: the rows marked data (R35). -/
def dataOpcode (op : Nat) : Bool :=
  [0x0001, 0x0002, 0x0003, 0x0005, 0x0080, 0x0100, 0x0102, 0x0103, 0x7000, 0x7001, 0x7002, 0x0200, 0x0202, 0x0203, 0x0205,
   0x0206, 0x1000, 0x1002, 0x1004, 0x1800, 0x1801, 0x1802, 0x2000, 0x2080, 0x2083, 0x3000, 0x3001, 0x3002, 0x3082, 0x3800,
   0x3801, 0x3802, 0x3803, 0x3804, 0x3806, 0x3807, 0x3808, 0x3809, 0x3883, 0x4040, 0x4000, 0x4001, 0x4005, 0x4081, 0x4801,
   0x5000, 0x5001, 0x5002, 0x5003, 0x5005, 0x5080, 0x5081, 0x5800, 0x5802, 0x5804, 0x5805, 0x5806, 0x6000, 0x6002, 0x7003,
   0x7004, 0x7800, 0x7882, 0x7883, 0x7886].contains op

/-- Whether an opcode may carry a transaction number (R59). -/
def txnOpcode (op : Nat) : Bool := [0x0101, 0x0181, 0x0201, 0x0202, 0x0203, 0x0204, 0x0205].contains op

/-- Whether an opcode is in the subset of coarse service (R128, R342, R514). -/
def coarseOpcode (op : Nat) : Bool :=
  let a := op / 256
  if a = 0x00 ∨ a = 0x01 ∨ a = 0x02 ∨ a = 0x40 ∨ a = 0x48 ∨ a = 0x38 then op ≠ 0x0182
  else if a = 0x70 then op ≠ 0x7080
  else if a = 0x10 then op ≠ 0x1080
  else if a = 0x30 then op < 0x3080
  else if a = 0x60 then op = 0x6000 ∨ op = 0x6002 ∨ op = 0x6003
  else false

/-- Whether an opcode is in the subset of loader service (R57, R342, R514, R555). -/
def loaderOpcode (op : Nat) : Bool :=
  let a := op / 256
  if a = 0x00 ∨ a = 0x40 ∨ a = 0x48 then true
  else if a = 0x01 then op ≤ 0x0103
  else if a = 0x10 then [0x1000, 0x1001, 0x1002, 0x1004].contains op
  else if a = 0x30 then op = 0x3000 ∨ op = 0x3002
  else if a = 0x38 then [0x3800, 0x3801, 0x3802, 0x3804, 0x3807, 0x3808, 0x3809].contains op
  else if a = 0x60 then op = 0x6000 ∨ op = 0x6002 ∨ op = 0x6003
  else if a = 0x70 then op ≠ 0x7080
  else if a = 0x78 then op ≠ 0x7886
  else false

/-- Whether an opcode is available at the current service level (R60). -/
def available (s : State) (op : Nat) : Bool := match s.sys.service with
  | .full => true
  | .coarse => coarseOpcode op
  | .loader => loaderOpcode op
  | .bringUp => false

/-- Whether an opcode's block is off in watch state (R141). -/
def watchOff (op : Nat) : Bool :=
  let a := op / 256
  a = 0x18 ∨ a = 0x20 ∨ a = 0x58 ∨ (a = 0x30 ∧ op ≥ 0x3080)

/-- Commands of an SPI link that hold a slot (R42): waiting, executing or with an unread reply. -/
def spiHeld (s : State) : Nat :=
  (s.link.waiting.filter (·.link == .spi)).length + (s.due.filter fun d => d.h.link == .spi && !d.discard).length
    + s.link.replies.length

/-- Commands of an Ethernet session that hold a slot (R48). -/
def ethHeld (s : State) (i : Fin 2) : Nat :=
  (s.link.waiting.filter (·.link == .eth i)).length + (s.due.filter (·.h.link == .eth i)).length

/-- Free command slots of a link (R42, R48). -/
def freeSlots (s : State) (l : LinkId) : Nat := match l with
  | .spi => 16 - spiHeld s
  | .eth i => 16 - ethHeld s i
  | .ethOpen _ _ => 16

/-- The reply body of Table CMD-3 behind the header. -/
def Reply.bytes (r : Reply) : List Byte :=
  packetBytes r.opcode r.seq (r.flags ||| 1).toNat r.txn
    (leBytes 1 r.cls ++ leBytes 1 r.slots ++ leBytes 2 r.detail ++ leBytes 6 r.frame ++ r.result)

/-- A window with the reply of a command noted. -/
def noteReply (r : Reply) (w : List Retained) : List Retained :=
  w.map fun x => if x.seq = r.seq ∧ x.reply.isNone then { x with reply := some r } else x

/-- A reply sent: into the SPI reply FIFO or as a datagram, and kept in the link's window (R39, R41, R43). -/
def sendReply (r : Reply) (s : State) : State :=
  match r.link with
  | .spi => { s with link := { s.link with replies := s.link.replies ++ [r], window := noteReply r s.link.window,
                                           tail := s.link.tail + 1 } }
  | .eth i =>
    match s.link.sessions[i] with
    | none => s
    | some e =>
      sendOn i r.bytes
        { s with link := { s.link with sessions := s.link.sessions.set i (some { e with window := noteReply r e.window }) } }
  | .ethOpen peer slot => emit (.datagram peer (datagram 0 0 (((vget? s.link.psk slot).getD none).getD []) r.bytes)) s

/-- The reply to a command, with the result its flags and its opcode allow (R35). -/
def mkReply (h : Hdr) (op cls detail frame slots : Nat) (result : List Byte) : Reply :=
  { link := h.link, seq := h.seq, opcode := op, flags := h.flags, txn := h.txn, cls := cls, slots := slots,
    detail := detail, frame := frame, result := if dataOpcode op || h.flags.getLsbD 6 then result else [] }

/-- A command refused during frame N, answered with FRAME N (R10, R23). -/
def refuseNow (h : Hdr) (op detail : Nat) (result : List Byte) (s : State) : State :=
  sendReply (mkReply h op (detail / 256) detail s.frame (freeSlots s h.link - 1) result) s

/-- What an opcode's own rules decide during frame N. -/
inductive Verdict where
  /-- Refused: detail code, result. -/
  | refuse (detail : Nat) (result : List Byte)
  /-- Refused, with a change that the rule itself states. -/
  | reject (detail : Nat) (result : List Byte) (now : State → State)
  /-- Accepted: detail code; the result, if it is known already; and what happens during frame N itself. -/
  | accept (detail : Nat) (result : Option (List Byte)) (now : State → State)

/-- Refused with no result. -/
def no (detail : Nat) : Verdict := .refuse detail []

/-- Accepted; the result is formed with the reply. -/
def done : Verdict := .accept 0 none id

/-- The window of a link (R39). -/
def linkWindow (s : State) (l : LinkId) : List Retained := match l with
  | .spi => s.link.window
  | .eth i => match s.link.sessions[i] with
    | some e => e.window
    | none => []
  | .ethOpen _ _ => []

/-- A command entered in its link's window, the last 16 kept (R39). -/
def enterWindow (h : Hdr) (s : State) : State :=
  let r : Retained := { seq := h.seq, crc := h.crc, reply := none }
  let push (w : List Retained) := (w ++ [r]).drop ((w.length + 1) - 16)
  match h.link with
  | .spi => { s with link := { s.link with window := push s.link.window } }
  | .eth i => match s.link.sessions[i] with
    | some e => { s with link := { s.link with sessions := s.link.sessions.set i (some { e with window := push e.window }) } }
    | none => s
  | .ethOpen _ _ => s

/-- Whether a link is open: the SPI link ready (R50), an Ethernet session open (R44), the port itself on (R43). -/
def linkOpen (s : State) (l : LinkId) : Bool := match l with
  | .spi => s.link.ready
  | .eth i => s.link.sessions[i].isSome
  | .ethOpen _ _ => s.sys.service != .bringUp && pbool s 0x0010 0

/-- Whether a link takes a command: it is open and has a free slot (R42, R48). -/
def linkTakes (s : State) (l : LinkId) : Bool := linkOpen s l && decide (0 < freeSlots s l)

/-- Counts of an admitted command (R42, R52), unless its packet has been counted already. -/
def noteAdmitted (l : LinkId) (s : State) : State :=
  if 0 < s.link.noted then { s with link := { s.link with noted := s.link.noted - 1 } }
  else { s with link := { s.link with
      lastAdmit := s.frame, hostLost := false,
      counters := if l = .spi then { s.link.counters with spiAdmitted := min (s.link.counters.spiAdmitted + 1) (2 ^ 32 - 1) }
        else s.link.counters } }

/-- The host transaction a number names while it is open (R59, R82). -/
def findTxn (s : State) (n : Nat) : Option Txn := s.txn.txns.find? (·.num == n)

/-- The checks of R37 after the CRC, in their order: the detail of the first that fails. -/
def commonCheck (h : Hdr) (op : Nat) (layout lengths : Bool) : Option Nat :=
  if h.version ≠ 1 then some 0x3008
  else if h.flags.getLsbD 7 ≠ decide (op / 128 % 2 = 1) then some 0x3004
  else if h.txn ≠ 0 ∧ ¬ txnOpcode op then some 0x3007
  else if ¬ layout then some 0x3002
  else if ¬ lengths then some 0x3009
  else none

/-- The checks of state common to all opcodes: service level (R60), watch state (R141), transaction number (R59). -/
def stateCheck (h : Hdr) (op : Nat) (s : State) : Option Nat :=
  if ¬ available s op then some 0x1005
  else if watching s ∧ watchOff op then some 0x1001
  else if h.txn ≠ 0 ∧ ((findTxn s h.txn).isNone ∨ 239 < h.txn) then some 0x1002
  else none

/-- The index of the first entry of the wrong value length, for the result of a write (R66). -/
def writeResult (applied idx txn : Nat) : List Byte := leBytes 1 applied ++ leBytes 1 idx ++ leBytes 1 txn ++ [0]

/-- A command stamped in this frame and checked against the sequence window (R39): a duplicate is answered again or dropped,
another command goes on to `k`. -/
def inWindow (h : Hdr) (op : Nat) (k : State → State) (s : State) : State :=
  if ¬ linkTakes s h.link then s
  else
    let s := noteAdmitted h.link s
    match (linkWindow s h.link).find? (·.seq == h.seq) with
    | some r =>
      if r.crc = h.crc then
        match r.reply with
        | some p => sendReply p s
        | none => s
      else refuseNow h op 0x3006 [] s
    | none => k (enterWindow h s)

/-- A host command stamped in this frame (R23): the sequence window of R39, the common checks, then the opcode's own
rules. A refusal is answered at once; an accepted command takes effect at step 6 of the next frame. `bad` is the result
that goes with a failing value length. -/
def hostCmd (h : Hdr) (op : Nat) (cmd : Instr) (layout lengths : Bool) (bad : List Byte) (rules : State → Verdict)
    (s : State) : State :=
  inWindow h op (fun (s : State) =>
    match commonCheck h op layout lengths with
    | some d => refuseNow h op d (if d = 0x3009 then bad else []) s
    | none =>
      match stateCheck h op s with
      | some d => refuseNow h op d (if op = 0x0101 ∨ op = 0x0181 then writeResult 0 0xFF 0 else []) s
      | none =>
        match rules s with
        | .refuse d res => refuseNow h op d res s
        | .reject d res now => refuseNow h op d res (now s)
        | .accept d res now =>
          now { s with due := s.due ++ [{ h := h, cmd := cmd, opcode := op, frame := frameAfter s.frame 1, cls := d / 256,
                                          detail := d, res := res }] }) s

/-! ### Internal transactions (R107, R108) -/

/-- The objects two actions share: one parameter instance, contactor, group, tie, channel, table or limit object (R88). -/
def Action.key : Action → Nat × Nat
  | .param id inst _ => (0, pkey id inst)
  | .contactor so _ => (1, so)
  | .pgSetpoint pg _ _ => (2, pg)
  | .tie t _ => (3, t)
  | .aux ch _ _ => (4, ch)
  | .tariffTable slot => (5, slot)
  | .powerLimit o _ _ => (6, o)

/-- Whether a transaction holds its objects reserved (R95, R108). -/
def Txn.reserves (t : Txn) : Bool := match t.state with
  | .pending => true
  | .applying => true
  | .rollingBack => true
  | _ => false

/-- Whether a transaction is the host's (numbers 1 to 239, R83). -/
def Txn.isHost (t : Txn) : Bool := decide (t.num < 240)

/-- The argument of a transaction event (R117). -/
def txnArg (t : Txn) (idx check other : Nat) : Nat :=
  if t.isHost then t.num * 2 ^ 24 + idx * 2 ^ 16 + check * 2 ^ 8 + other
  else idx * 2 ^ 16 + check * 2 ^ 8 + t.num

/-- The transaction table with one transaction changed. -/
def setTxn (t : Txn) (s : State) : State :=
  { s with txn := { s.txn with txns := s.txn.txns.map fun x => if x.num = t.num then t else x } }

/-- A transaction out of the table; a host transaction goes to the list of the last 16 ended (R86). -/
def dropTxn (t : Txn) (o : TxnOutcome) (s : State) : State :=
  { s with txn := { s.txn with
      txns := s.txn.txns.filter (·.num != t.num)
      ended := if t.isHost then ((t.num, o) :: s.txn.ended).take 16 else s.txn.ended } }

/-- The lowest free internal number (R107). -/
def freeInternal (s : State) : Option Nat :=
  ((List.range 16).map (· + 240)).find? fun n => (findTxn s n).isNone

/-- Whether a transaction holds actions for other posts (R111). -/
def Txn.isSite (t : Txn) : Bool := t.actions.any fun a => a.node != 0xFF

/-- A transaction of this post that is not to be applied: a site transaction leaves its book, so that its voters hear of the
abort (R113). -/
def leaveBook (t : Txn) (s : State) : State :=
  if t.isSite ∧ t.state = .pending then
    { s with txn := { s.txn with books := s.txn.books ++ [{ t with decided := some false, lastSend := 0 }] } }
  else s

/-- Pending host transactions that touch an object an internal transaction reserves end refused (R108). -/
def preempt (n : Nat) (keys : List (Nat × Nat)) (s : State) : State :=
  (s.txn.txns.filter fun t => t.isHost && t.state == .pending && t.actions.any fun a => a.node == 0xFF && keys.contains a.act.key).foldl
    (fun s t => ev 0x12 12 0x1105 (t.num * 2 ^ 24 + 0xFF * 2 ^ 16 + 0x04 * 2 ^ 8 + n) (leaveBook t (dropTxn t .refused s))) s

/-- An internal transaction built in this frame and committed for frame `f` (R107): its number, if one is free, and the
state. -/
def buildTxn (p : Purpose) (acts : List Action) (f : Nat) (s : State) : State :=
  match freeInternal s with
  | none => s
  | some n =>
    let t : Txn := { num := n, purpose := p, state := .pending, actions := acts.map fun a => { act := a },
                     lastNamed := s.frame, commitFrame := some f }
    preempt n (acts.map Action.key) { s with txn := { s.txn with txns := s.txn.txns ++ [t] } }

/-- Whether an internal transaction of a purpose is running. -/
def runningFor (s : State) (p : Purpose) : Bool := s.txn.txns.any fun t => t.purpose == p

end Sys2Proof.Machine
end

