-- ==== Sys2Proof/Machine/Link.lean ====
section
/-! DEFINITION. The Bagoris command protocol (chapter 02): SPI instructions, Ethernet datagrams and sessions, link
resynchronisation, the system and queue opcodes. -/

namespace Sys2Proof.Machine

open Host

/-- The answer of a step. -/
def ans (s : State) : Outcome State Fault Refusal := .next s

/-- The link part of the state changed. -/
def modLink (f : LinkSt → LinkSt) (s : State) : State := { s with link := f s.link }

/-- The link counters changed. -/
def modCounters (f : LinkCounters → LinkCounters) (s : State) : State :=
  modLink (fun l => { l with counters := f l.counters }) s

/-- A saturating u32 counter incremented. -/
def satInc (n : Nat) : Nat := min (n + 1) (2 ^ 32 - 1)

/-- Whether the SPI pads answer: the part out of reset and VIO in range (R120, R566). -/
def spiAlive (s : State) : Bool := !s.sys.vioLow && !s.sys.inReset

/-- Whether EVT_N is driven low: queue 0 holds an unread word (R81). -/
def evtActive (s : State) : Bool := s.queues[0].unread != 0

/-- The SPI link status (Table CMD-5). -/
def linkStatus (s : State) : List Byte :=
  [BitVec.ofNat 8 ((if s.link.ready then 128 else 0) + (if s.link.replies.isEmpty then 0 else 64) + (if evtActive s then 32 else 0)),
   BitVec.ofNat 8 (freeSlots s .spi), BitVec.ofNat 8 s.link.replies.length, BitVec.ofNat 8 s.link.code]

/-! ### SPI (R36, R40 to R42, R50, R51) -/

/-- A packet written over SPI: discarded and counted (R36, R50), or waiting in a slot (R42). -/
def execWritePacket (bytes : List Byte) (s : State) : Outcome State Fault Refusal :=
  if ¬ spiAlive s then ans s
  else if ¬ s.link.ready then ans (modCounters (fun c => { c with spiNotReady := satInc c.spiNotReady }) s)
  else if freeSlots s .spi = 0 then ans (modCounters (fun c => { c with spiNoSlot := satInc c.spiNoSlot }) s)
  else if bytes.length < 16 then ans (modCounters (fun c => { c with spiLength := satInc c.spiLength }) s)
  else if leNat (bytes.take 2) ≠ 0xC39A then ans (modCounters (fun c => { c with spiSync := satInc c.spiSync }) s)
  else if leNat ((bytes.drop 2).take 2) < 20 ∨ 1044 < leNat ((bytes.drop 2).take 2) then
    ans (modCounters (fun c => { c with spiLength := satInc c.spiLength }) s)
  else ans (modLink (fun l => { l with waiting := l.waiting ++ [{ link := .spi, bytes := bytes }] }) s)

/-- The SPI link made ready with the code of the service level (R51, step 4). -/
def makeReady (s : State) : State :=
  modLink (fun l => { l with ready := true, code := serviceCode s.sys.service, syncAt := none }) s

/-- LINK_READY: an edge has passed since LINK_SYNC and the part is in a service level (R51). -/
def execLinkReady (s : State) : Outcome State Fault Refusal :=
  match s.link.syncAt with
  | some f => if f < s.frame ∧ s.sys.service ≠ .bringUp then ans (makeReady s) else ans s
  | none => ans s

/-! ### Ethernet (R43 to R49) -/

/-- Reporting of a failed datagram for a key slot, at most once per 8,000 F, with the count (R46). -/
def authFailReport (slot : Nat) (s : State) : State :=
  if h : slot < 4 then
    let a := s.link.authFail[slot]
    let n := a.count + 1
    if (match a.lastSent with | some f => decide (f + 8000 ≤ s.frame) | none => true) then
      ev 0x0B 12 0 n (modLink (fun l => { l with authFail := l.authFail.set slot { count := 0, lastSent := some s.frame } }) s)
    else modLink (fun l => { l with authFail := l.authFail.set slot { a with count := n } }) s
  else s

/-- The session that an identifier names. -/
def findSession (s : State) (sid : Nat) : Option (Fin 2) :=
  (allFin 2).find? fun i => match s.link.sessions[i] with
    | some e => e.sid == sid
    | none => false

/-- A packet of a datagram taken for admission; its SYNC and LENGTH checked (R36), its slot free (R48). -/
def takePacket (l : LinkId) (p : List Byte) (s : State) : State :=
  if p.length < 16 ∨ leNat (p.take 2) ≠ 0xC39A ∨ leNat ((p.drop 2).take 2) < 20 ∨ 1044 < leNat ((p.drop 2).take 2) then
    modCounters (fun c => { c with ethBad := satInc c.ethBad }) s
  else if freeSlots s l = 0 then s
  else modLink (fun k => { k with waiting := k.waiting ++ [{ link := l, bytes := p }] }) s

/-- A session's counter check (R45). -/
def counterOk (e : EthSession) (c : Nat) : Bool := decide (1 ≤ c) && decide (e.rxHigh < c + 64) && !e.rxSeen.contains c

/-- A session after an accepted counter: the highest and those seen within 64 of it (R45), and the time of the datagram. -/
def noteCounter (e : EthSession) (c frame peer : Nat) : EthSession :=
  let hi := max e.rxHigh c
  { e with rxHigh := hi, rxSeen := (c :: e.rxSeen).filter fun x => decide (hi < x + 64), lastRx := frame, peer := peer }

/-- A datagram on port 4750: its session, TAG and counter (R44 to R46), then its packet (R43). -/
def execDatagramReceived (peer : Nat) (bytes : List Byte) (s : State) : Outcome State Fault Refusal :=
  if s.sys.inReset ∨ ¬ pbool s 0x0010 0 ∨ s.sys.service = .bringUp ∨ (watching s ∧ ¬ pbool s 0x0024 0) ∨ bytes.length < 28 then ans s
  else
    let n := bytes.length - 16
    let body := bytes.take n
    let tag := bytes.drop n
    let sid := leNat (bytes.take 4)
    let cnt := leNat ((bytes.drop 4).take 8)
    let packet := (bytes.take n).drop 12
    if sid = 0 then
      let slot := leNat ((packet.drop 16).take 1)
      match vget? s.link.psk slot with
      | some (some key) =>
        if (hmac256 key body).take 16 = tag ∧ leNat ((packet.drop 6).take 2) = 0x0003 then
          ans (takePacket (.ethOpen peer slot) packet (modCounters (fun c => { c with ethAccepted := satInc c.ethAccepted }) s))
        else ans (authFailReport slot (modCounters (fun c => { c with ethTag := satInc c.ethTag }) s))
      | _ => ans (authFailReport slot (modCounters (fun c => { c with ethTag := satInc c.ethTag }) s))
    else match findSession s sid with
      | none => ans (modCounters (fun c => { c with ethUnknown := satInc c.ethUnknown }) s)
      | some i => match s.link.sessions[i] with
        | none => ans s
        | some e =>
          if (hmac256 e.key body).take 16 ≠ tag then
            ans (authFailReport e.slot (modCounters (fun c => { c with ethTag := satInc c.ethTag }) s))
          else if ¬ counterOk e cnt then
            ans (authFailReport e.slot (modCounters (fun c => { c with ethCounter := satInc c.ethCounter }) s))
          else
            ans (takePacket (.eth i) packet
              (modCounters (fun c => { c with ethAccepted := satInc c.ethAccepted })
                (modLink (fun l => { l with sessions := l.sessions.set i (some (noteCounter e cnt s.frame peer)) }) s)))

/-- A session closed: its waiting packets go with it (R47, R72). -/
def closeSession (i : Fin 2) (s : State) : State :=
  modLink (fun l => { l with sessions := l.sessions.set i none, waiting := l.waiting.filter (·.link != .eth i) }) s

/-- SYS.ETH.SESS.TMO frames without an accepted datagram close a session (R47). -/
def execEthSessionTimeout (i : Fin 2) (s : State) : Outcome State Fault Refusal :=
  match s.link.sessions[i] with
  | some e =>
    if e.lastRx + pget s 0x0012 0 ≤ s.frame then ans (ev 0x0A 12 0 0 (closeSession i s)) else ans s
  | none => ans s

/-- The sessions open. -/
def sessionsOpen (s : State) : Nat := ((allFin 2).filter fun i => s.link.sessions[i].isSome).length

/-- The session index an ETH_HELLO under a key slot takes: that of the slot's open session, else a free one (R47). -/
def helloIndex (s : State) (slot : Nat) : Option (Fin 2) :=
  match (allFin 2).find? fun i => match s.link.sessions[i] with
    | some e => e.slot == slot
    | none => false with
  | some i => some i
  | none => (allFin 2).find? fun i => s.link.sessions[i].isNone

/-- ETH_HELLO during frame N (R44, R47). -/
def helloRules (h : Hdr) (slot : Nat) (s : State) : Verdict := match h.link with
  | .ethOpen _ _ =>
    if 4 ≤ slot then no 0x1104 else if (helloIndex s slot).isNone then no 0x2003 else done
  | _ => no 0x1006

/-- ETH_HELLO (R44). -/
def execEthHello (h : Hdr) (slot : Nat) (nonce : List Byte) (s : State) : Outcome State Fault Refusal :=
  ans (hostCmd h 0x0003 (.ethHello h slot nonce) (nonce.length = 16) true [] (helloRules h slot) s)

/-- ETH_HELLO takes effect: the session opens under a fresh identifier and device nonce; the result carries both (R44). -/
def applyHello (h : Hdr) (slot : Nat) (nonce : List Byte) (s : State) : State × Option (Nat × List Byte) :=
  match h.link, helloIndex s slot with
  | .ethOpen peer _, some i =>
    let s := closeSession i s
    let raw := freeBytes s 20
    let sid := raw.take 4
    let dn := raw.drop 4
    let psk := ((vget? s.link.psk slot).getD none).getD []
    let key := hmac256 psk ([0x42, 0x47, 0x53, 0x31] ++ nonce ++ dn ++ sid)
    let e : EthSession := { sid := leNat sid, slot := slot, key := key, rxHigh := 0, rxSeen := [], txNext := 1,
                            lastRx := s.frame, peer := peer, window := [] }
    (modLink (fun l => { l with sessions := l.sessions.set i (some e) }) s.draw, some (0, sid ++ dn))
  | _, _ => (s, some (0x2003, []))

/-- ETH_CLOSE is carried by the session it closes (R57); over SPI there is none. -/
def closeRules (h : Hdr) (_ : State) : Verdict := match h.link with
  | .eth _ => done
  | _ => no 0x1006

/-- ETH_CLOSE. -/
def execEthClose (h : Hdr) (s : State) : Outcome State Fault Refusal :=
  ans (hostCmd h 0x0004 (.ethClose h) true true [] (closeRules h) s)

/-! ### System opcodes (R57, R58, R587) -/

/-- NOP. -/
def execNop (h : Hdr) (s : State) : Outcome State Fault Refusal :=
  ans (hostCmd h 0x0000 (.nop h) true true [] (fun _ => done) s)

/-- IDENTIFY. -/
def execIdentify (h : Hdr) (s : State) : Outcome State Fault Refusal :=
  ans (hostCmd h 0x0001 (.identify h) true true [] (fun _ => done) s)

/-- The IDENTIFY result (Table CMD-17). -/
def identifyResult (s : State) : List Byte :=
  textBytes 16 "PXG-8840" ++ leBytes 1 Config.hwRev.toNat ++ leBytes 1 (serviceCode s.sys.service) ++ [0, 0]
    ++ leBytes 8 Config.serial.toNat ++ leBytes 4 (if s.sys.service = .loader then 0 else s.upd.version)
    ++ leBytes 4 s.upd.loader ++ leBytes 4 (Config.garnetVersion false).toNat ++ leBytes 4 (Config.garnetVersion true).toNat
    ++ leBytes 8 Config.onyxCheck.toNat ++ [0, 0, 0, 0]

/-- LINK_INFO. -/
def execLinkInfo (h : Hdr) (flags : Nat) (s : State) : Outcome State Fault Refusal :=
  ans (hostCmd h 0x0002 (.linkInfo h flags) true true [] (fun _ => done) s)

/-- The LINK_INFO result (Table CMD-18). -/
def linkInfoResult (s : State) : List Byte :=
  let c := s.link.counters
  ([c.spiAdmitted, c.spiSync, c.spiLength, c.spiNoSlot, c.spiNotReady, c.ethAccepted, c.ethBad, c.ethTag, c.ethCounter,
    c.ethUnknown].flatMap (leBytes 4)) ++ leBytes 1 (sessionsOpen s) ++ leBytes 1 s.link.code ++ List.replicate 6 0

/-- FRAME_READ. -/
def execFrameRead (h : Hdr) (s : State) : Outcome State Fault Refusal :=
  ans (hostCmd h 0x0005 (.frameRead h) true true [] (fun _ => done) s)

/-- The code of an alignment state (Table SLK-1). -/
def alignCode (a : AlignState) : Nat := match a with
  | .off => 0
  | .searching => 1
  | .acquiring => 2
  | .aligned => 3
  | .holdover => 4
  | .root => 5

/-- The site frame of a local frame; none while O is undefined (R450). -/
def siteFrame (s : State) (f : Nat) : Option Nat := match s.slk.offset with
  | some o => some (((f : Int) + o) % (2 ^ 48 : Nat)).toNat
  | none => none

/-- The local frame of a site frame (R94, R450). -/
def localFrame (s : State) (c : Nat) : Option Nat := match s.slk.offset with
  | some o => some (((c : Int) - o) % (2 ^ 48 : Nat)).toNat
  | none => none

/-- The FRAME_READ result (Table CMD-19). -/
def frameReadResult (s : State) : List Byte :=
  leBytes 6 s.frame ++ leBytes 6 ((siteFrame s s.frame).getD (2 ^ 48 - 1)) ++ leBytes 1 (alignCode s.slk.align) ++ [0, 0, 0]

/-- PSK_SET over SPI only (R58). -/
def pskRules (h : Hdr) (slot : Nat) (_ : State) : Verdict :=
  if h.link ≠ .spi then no 0x1006 else if 4 ≤ slot then no 0x1104 else done

/-- PSK_SET; the result is the first 4 bytes of SHA-256 of the key. -/
def execPskSet (h : Hdr) (slot : Nat) (key : List Byte) (s : State) : Outcome State Fault Refusal :=
  ans (hostCmd h 0x0080 (.pskSet h slot key) (key.length = 32) true [] (pskRules h slot) s)

/-- A key slot written. -/
def applyPskSet (slot : Nat) (key : List Byte) (s : State) : State :=
  if hs : slot < 4 then modLink (fun l => { l with psk := l.psk.set slot (some key) }) s else s

/-- PSK_CLEAR over SPI only (R58). -/
def execPskClear (h : Hdr) (slot : Nat) (s : State) : Outcome State Fault Refusal :=
  ans (hostCmd h 0x0081 (.pskClear h slot) true true [] (pskRules h slot) s)

/-- A key slot erased and its session closed. -/
def applyPskClear (slot : Nat) (s : State) : State :=
  if hs : slot < 4 then
    let s := modLink (fun l => { l with psk := l.psk.set slot none }) s
    (allFin 2).foldl (fun s i => match s.link.sessions[i] with
      | some e => if e.slot = slot then closeSession i s else s
      | none => s) s
  else s

/-! ### Queues (R76 to R81) -/

/-- How many bits of a 39-bit word are in error. -/
def flipCount (w : QWord) : Nat := ((List.range 39).filter fun i => w.flip.getLsbD i).length

/-- A word as it is stored: data with the errors that reached it (R78). -/
def QWord.stored (w : QWord) : BitVec 32 := w.data ^^^ w.flip.setWidth 32

/-- Whether a stored word has an error that its check bits cannot correct (R73, R78). -/
def QWord.bad (w : QWord) : Bool := decide (2 ≤ flipCount w)

/-- A word as delivered: corrected when one bit is in error, as stored when more are. -/
def QWord.deliver (w : QWord) : BitVec 32 := if w.bad then w.stored else w.data

/-- Whether a record continues a packet (Table CMD-13, CONT). -/
def QRec.cont (r : QRec) : Bool := r.w0.deliver.getLsbD 30

/-- The records that follow in a record's packet (Table CMD-13, REMAIN). -/
def QRec.remain (r : QRec) : Nat := r.w0.deliver.toNat / 2 ^ 24 % 16

/-- A queue whose first record is about to be delivered, all four words checked first (R78): corrected words counted; an
uncorrectable word 0 replaced by the synthesised word, alone, with the rest of its packet skipped. -/
def Queue.checkFirst (q : Queue) : Queue × Option (List (BitVec 32)) :=
  match q.recs with
  | [] => (q, none)
  | r :: rest =>
    let ws := [r.w0, r.w1, r.w2, r.w3]
    let fixed := (ws.filter fun w => flipCount w == 1).length
    let q := { q with corrected := min (q.corrected + fixed) (2 ^ 32 - 1) }
    if r.w0.bad then
      ({ q with uncorrected := satInc q.uncorrected, recs := rest.dropWhile QRec.cont, pos := 0 },
       some [BitVec.ofNat 32 (2 ^ 31 + 2 ^ 29 + 0x09 * 2 ^ 16)])
    else if r.w1.bad || r.w2.bad || r.w3.bad then
      ({ q with uncorrected := satInc q.uncorrected,
                recs := { w0 := { data := r.w0.deliver ||| 0x20000000#32 }, w1 := { data := r.w1.deliver },
                          w2 := { data := r.w2.deliver }, w3 := { data := r.w3.deliver } } :: rest }, none)
    else (q, none)

/-- The words of a record. -/
def QRec.words (r : QRec) : List (BitVec 32) := [r.w0.deliver, r.w1.deliver, r.w2.deliver, r.w3.deliver]

/-- Up to `n` words delivered from the read position, by at most `fuel` records (R76, R78). -/
def Queue.deliver : Nat → Nat → Queue → Queue × List (BitVec 32)
  | 0, _, q => (q, [])
  | _, 0, q => (q, [])
  | fuel + 1, n, q =>
    match (if q.pos = 0 then q.checkFirst else (q, none)) with
    | (q, some ws) =>
      let r := Queue.deliver fuel (n - ws.length) q
      (r.1, ws ++ r.2)
    | (q, none) =>
      match q.recs with
      | [] => (q, [])
      | r :: rest =>
        let ws := (r.words.drop q.pos).take n
        let pos := q.pos + ws.length
        let q := if pos = 4 then { q with recs := rest, pos := 0 } else { q with pos := pos }
        let t := Queue.deliver fuel (n - ws.length) q
        (t.1, ws ++ t.2)

/-- QUEUE_READ: the field ranges of R76 and R585. -/
def queueReadRules (queue words : Nat) (_ : State) : Verdict :=
  if 4 ≤ queue then no 0x1104 else if words = 0 ∨ 255 < words then no 0x1101 else done

/-- QUEUE_READ (R76). -/
def execQueueRead (h : Hdr) (queue words : Nat) (s : State) : Outcome State Fault Refusal :=
  ans (hostCmd h 0x7000 (.queueRead h queue words) true true [] (queueReadRules queue words) s)

/-- QUEUE_READ as its result is formed: the words leave the queue (R76, R81). -/
def readQueue (queue words : Nat) (s : State) : State × List Byte :=
  if hq : queue < 4 then
    let q := s.queues[queue]
    let r := Queue.deliver (q.recs.length + words + 1) words q
    let ws := if r.2.isEmpty then [0#32] else r.2
    ({ s with queues := s.queues.set queue r.1 }, leBytes 2 ws.length ++ [0, 0] ++ ws.flatMap fun w => leBytes 4 w.toNat)
  else (s, [])

/-- QUEUE_DROP: whether the queue stands at a packet boundary (R77). -/
def atBoundary (q : Queue) : Bool := q.recs.isEmpty || (q.pos == 0 && match q.recs with
  | r :: _ => !r.cont
  | [] => true)

/-- QUEUE_DROP (R77). -/
def execQueueDrop (h : Hdr) (queue : Nat) (s : State) : Outcome State Fault Refusal :=
  ans (hostCmd h 0x7001 (.queueDrop h queue) true true []
    (fun s => if 4 ≤ queue then no 0x1104 else
      match vget? s.queues queue with
      | some q => if atBoundary q then .accept 0x0001 none id else done
      | none => done) s)

/-- The rest of the current packet discarded; the words dropped (R77). -/
def dropQueue (queue : Nat) (s : State) : State × List Byte :=
  if hq : queue < 4 then
    let q := s.queues[queue]
    if atBoundary q then (s, leBytes 2 0 ++ [0, 0])
    else
      let rest := match q.recs with
        | _ :: t => t.dropWhile QRec.cont
        | [] => []
      ({ s with queues := s.queues.set queue { q with recs := rest, pos := 0 } },
       leBytes 2 (q.unread - 4 * rest.length) ++ [0, 0])
  else (s, [])

/-- QUEUE_STATUS (R79). -/
def execQueueStatus (h : Hdr) (queue flags : Nat) (s : State) : Outcome State Fault Refusal :=
  ans (hostCmd h 0x7002 (.queueStatus h queue flags) true true [] (fun _ => if 4 ≤ queue then no 0x1104 else done) s)

/-- Fill and counts, then the clear (R79). -/
def statusQueue (queue flags : Nat) (s : State) : State × List Byte :=
  if hq : queue < 4 then
    let q := s.queues[queue]
    let res := [q.unread, q.recs.length, q.corrected, q.uncorrected, q.lost].flatMap (leBytes 4)
    (if flags % 2 = 1 then
      { s with queues := s.queues.set queue { q with corrected := 0, uncorrected := 0, lost := 0 } } else s, res)
  else (s, [])

/-- An error pattern reaches a stored word (R73). -/
def flipWord (queue : Fin 4) (rec word : Nat) (pat : BitVec 39) (s : State) : State :=
  let q := s.queues[queue]
  let fl (w : QWord) : QWord := { w with flip := w.flip ^^^ pat }
  let q := { q with recs := q.recs.modify rec fun r => match word with
    | 0 => { r with w0 := fl r.w0 }
    | 1 => { r with w1 := fl r.w1 }
    | 2 => { r with w2 := fl r.w2 }
    | _ => { r with w3 := fl r.w3 } }
  { s with queues := s.queues.set queue q }

end Sys2Proof.Machine
end

