-- ==== Sys2Proof/Machine/Flags.lean ====
section
/-! DEFINITION. Codes and flag words that several replies and events carry: pilot classes (Table OUT-3), Garnet's latch
word (Table SAF-13). -/

namespace Sys2Proof.Machine

/-- The pilot state of a high plateau, mV (Table OUT-3). -/
def pilotClass (mV : Int) : PilotSt :=
  if 10500 ≤ mV ∧ mV ≤ 13500 then .a
  else if 7500 ≤ mV ∧ mV < 10500 then .b
  else if 4500 ≤ mV ∧ mV < 7500 then .c
  else if 1500 ≤ mV ∧ mV < 4500 then .d
  else if -1500 ≤ mV ∧ mV < 1500 then .e
  else .invalid

/-- The code of a pilot state (Table OUT-12). -/
def pilotCode (p : PilotSt) : Nat := match p with
  | .a => 0
  | .b => 1
  | .c => 2
  | .d => 3
  | .e => 4
  | .f => 5
  | .invalid => 6
  | .diode => 7

/-- A word from its bits, each a place and a truth value. -/
def flagWord (l : List (Nat × Bool)) : Nat := (l.map fun x => if x.2 then 2 ^ x.1 else 0).foldl (· + ·) 0

/-- Garnet's latches (Table SAF-13, offset 2). -/
def latchWord (s : State) : Nat :=
  let g := s.garnet
  let ins := allFin 16
  flagWord [
    (15, ins.any fun (i : Fin 16) => g.inputs[i].latch && pget s 0x4000 i == 1),
    (14, ins.any fun (i : Fin 16) => g.inputs[i].latch && pget s 0x4000 i == 2),
    (13, ins.any fun (i : Fin 16) => g.inputs[i].faultLatch),
    (12, ((allFin 32).any fun (o : Fin 32) => g.outs[o].fault.isSome) || (allFin 4).any fun (o : Fin 4) => g.cdFault[o].isSome),
    (11, (allFin 32).any fun (o : Fin 32) => g.outs[o].contact),
    (10, g.partner), (9, g.tickDev),
    (8, (allFin 2).any fun (c : Fin 2) => g.cds[c].failed)]

end Sys2Proof.Machine
end

