-- ==== Sys2Proof/Machine/Operands.lean ====
section
/-! DEFINITION. The operand forms of the command packets: entries of parameter writes with the checks of R66 to R69, and
the fields that name an object. -/

namespace Sys2Proof.Machine

/-- Whether a pattern is a finite 32-bit float in a range. -/
def f32In (lo hi : Rat) (n : Nat) : Bool :=
  if n / 2 ^ 23 % 256 = 255 then false else decide (lo ≤ f32Rat n) && decide (f32Rat n ≤ hi)

/-- The 32-bit patterns of a blob. -/
def f32s (b : List Byte) : List Nat := (chunks 4 16 b).map leNat

/-- Whether a register code exists for a slot's kind (Table LEG-2, R585). -/
def regCodeOk (kind code : Nat) : Bool :=
  let q := code / 256
  let t := code % 256
  let tariffed := decide (t < 16) || t == 0xFF
  if q = 1 ∨ q = 2 ∨ q = 0x10 ∨ q = 0x11 then tariffed
  else if 3 ≤ q ∧ q ≤ 6 then tariffed && (kind == 1 || kind == 2)
  else if 7 ≤ q ∧ q ≤ 14 then t == 0xFF
  else false

/-- The items of DSP.LEGAL.LIST: slot and register code of each that names a slot (Table DSP-5). -/
def legalItems (b : List Byte) : List (Nat × Nat) :=
  ((chunks 4 4 b).map fun c => (u8At c 0, u16At c 2)).filter fun x => x.1 != 0xFF

/-- Whether the bytes of a blob parameter are within its range (Tables SAF-14, MTR-13, DSP-5). -/
def blobOk (s : State) (id : Nat) (b : List Byte) : Bool :=
  let small := if 0x3090 ≤ id ∧ id ≤ 0x3099 then id - 0x80 else id
  if id = 0x4002 then b.all fun x => decide (x.toNat < 8) || x == 0xFF
  else if id = 0x6005 then
    !(legalItems b).isEmpty && (legalItems b).all fun x => decide (x.1 < 9) && regCodeOk (pget s 0x3000 x.1) x.2
  else if id = 0x3001 then (b.take 7).all (fun x => decide (x.toNat < 48) || x == 0xFF) && u8At b 7 == 0
  else if id = 0x3002 then (f32s b).all (f32In 10 2000)
  else if id = 0x3003 then (f32s b).all (f32In 1 5000)
  else if id = 0x300C then
    let e := (chunks 2 7 b).map fun c => signed 2 (leNat c)
    e.all (fun x => decide (-400 ≤ x) && decide (x ≤ 1000)) && (e.zip (e.drop 1)).all fun x => decide (x.1 < x.2)
  else if small = 0x3010 ∨ small = 0x3011 then (f32s b).all (f32In (1 / 2) 2)
  else if small = 0x3012 ∨ small = 0x3013 then (f32s b).all (f32In (-20000) 20000)
  else if small = 0x3014 ∨ small = 0x3015 then (f32s b).all (f32In (-5) 5)
  else if small = 0x3016 ∨ small = 0x3017 then (f32s b).all (f32In (9 / 10) (11 / 10))
  else if small = 0x3018 ∨ small = 0x3019 then (f32s b).all (f32In (-100) 100)
  else true

/-- Whether a value is in the range of a parameter instance (R66). -/
def valueOk (s : State) (p : PInfo) (inst : Nat) (b : List Byte) : Bool :=
  if p.ty = 12 ∨ p.ty = 13 then blobOk s p.id b
  else
    let x : Int := if p.ty % 2 = 1 ∧ 3 ≤ p.ty ∧ p.ty ≤ 9 then signed p.len (leNat b) else leNat b
    (p.ranges.any fun r => decide (r.1 ≤ x) && decide (x ≤ r.2))
      && (!(p.id == 0x4800 && decide (4 ≤ inst)) || decide (x ≤ 2400))
      && (!(p.id == 0x6006) || x % 8000 == 0)
      && (!(p.id == 0x6007) || u8At (leBytes 16 (pget s 0x6005 0)) (4 * x.toNat) != 0xFF)

/-- Whether an entry's value length is that of its type; an unknown ID passes here (R37). -/
def lengthOk (e : PEntry) : Bool := match pinfo e.id with
  | some p => e.len == p.len
  | none => true

/-- The index of the first entry that fails a check, 0xFF when none does. -/
def firstBad {α : Type} (ok : α → Bool) (l : List α) : Nat := match l.findIdx? (fun x => !ok x) with
  | some i => i
  | none => 0xFF

/-- The layout of a list of entries: the count it announces and the bytes each carries (R37). -/
def entriesLayout (count : Nat) (es : List PEntry) : Bool := count == es.length && es.all fun e => e.val.length == e.len

/-- The open host transaction in which a parameter instance is staged (R69). -/
def stagedIn (s : State) (id inst : Nat) : Option Nat :=
  match s.txn.txns.find? fun t => t.isHost && t.actions.any fun a => match a.act with
    | .param i n _ => a.node == 0xFF && i == id && (inst == 0xFF || n == inst)
    | _ => false with
  | some t => some t.num
  | none => none

/-- The second pass of R66 on one entry: the detail of the first failing check and the transaction it names. -/
def entryCheck (s : State) (expert : Bool) (txn : Nat) (e : PEntry) : Option (Nat × Nat) :=
  match pinfo e.id with
  | none => some (0x1103, 0)
  | some p =>
    if ¬ (e.inst < p.insts ∨ e.inst = 0xFF) then some (0x1104, 0)
    else if p.cls = 2 then some (0x1202, 0)
    else if p.cls = 3 then some (0x1302, 0)
    else if p.level = 1 ∧ ¬ expert then some (0x1102, 0)
    else if p.cls = 1 ∧ txn = 0 then some (0x1004, 0)
    else if ¬ valueOk s p e.inst e.val then some (0x1101, 0)
    else if txn = 0 then (match stagedIn s e.id e.inst with
      | some n => some (0x1003, n)
      | none => none)
    else none

/-- The first failing entry of a list: detail, index and the transaction it names. -/
def firstFail {α : Type} (check : α → Option (Nat × Nat)) : Nat → List α → Option (Nat × Nat × Nat)
  | _, [] => none
  | i, e :: r => match check e with
    | some (d, n) => some (d, i, n)
    | none => firstFail check (i + 1) r

/-- The single writes an entry stands for (R65). -/
def entryWrites (e : PEntry) : List (Nat × Nat × Nat) :=
  if e.inst = 0xFF then (List.range ((pinfo e.id).map (·.insts) |>.getD 0)).map fun i => (e.id, i, leNat e.val)
  else [(e.id, e.inst, leNat e.val)]

/-- The local frame that a command states (R94): converted from a site frame when its flag SITE_FRAME is set, and within the
window of R94; or the detail of its refusal. -/
def statedFrame (s : State) (h : Hdr) (f : Nat) : Sum Nat Nat :=
  let within (x : Nat) : Sum Nat Nat := if s.frame + 1 ≤ x ∧ x ≤ s.frame + 4800000 then .inr x else .inl 0x1141
  if h.flags.getLsbD 5 then
    if fencedDomain s 9 then .inl 0x4001
    else if s.slk.align ≠ .aligned ∧ s.slk.align ≠ .root then .inl 0x10C0
    else match localFrame s f with
      | some x => within x
      | none => .inl 0x10C0
  else within f

end Sys2Proof.Machine
end

