-- ==== Sys2Proof/Machine/SwitchBank.lean ====
section
/-! DEFINITION. The auxiliary switch bank (chapter 12): channel states, the inrush budget, trips and retries, the bank
supply, lamp mode, and the three opcodes. -/

namespace Sys2Proof.Machine

open Host

/-- A channel changed. -/
def modAux (n : Fin 12) (f : AuxCh → AuxCh) (s : State) : State :=
  { s with aux := { s.aux with ch := upd s.aux.ch n f } }

/-- The code of a channel state (Table AUX-2). -/
def auxCode (a : AuxState) : Nat := match a with
  | .off => 0
  | .queued => 1
  | .blanking => 2
  | .on => 3
  | .tripped => 4
  | .locked => 5
  | .bankOff => 6

/-- Whether a channel's output is on. -/
def AuxCh.isOn (c : AuxCh) : Bool := c.st == .blanking || c.st == .on

/-- AUX_STATE for a channel whose state was not yet reported (R420, R440). -/
def auxReport (n : Fin 12) (s : State) : State :=
  let c := s.aux.ch[n]
  if c.st = c.reported then s
  else ev 0xB0 8 0 (n.val * 256 + auxCode c.st) (modAux n (fun c => { c with reported := c.st }) s)

/-- The claims held (R421). -/
def auxClaims (s : State) : Nat := ((allFin 12).map fun n => s.aux.ch[n].claim).foldl (· + ·) 0

/-- The claim a channel's start makes: none with AUX.BLANK 0 (R421). -/
def auxOwnClaim (s : State) (n : Fin 12) : Nat := if pget s 0x4802 n = 0 then 0 else pget s 0x4803 n

/-- Whether a start fits the budget (R422). -/
def auxFits (s : State) (n : Fin 12) : Bool :=
  decide (auxClaims s + auxOwnClaim s n ≤ pget s 0x4810 0) || (auxClaims s == 0)

/-- The order in which starts are taken: AUX.PRIO, the frame of the start, channel number (R422). -/
def auxKey (s : State) (n : Fin 12) : List Nat := [pget s 0x4804 n, s.aux.ch[n].startAt, n.val]

/-- The inrush queue, head first. -/
def auxQueue (s : State) : List (Fin 12) :=
  sortBy (fun a b => lexLt (auxKey s a) (auxKey s b)) ((allFin 12).filter fun n => s.aux.ch[n].st == .queued)

/-- A channel turned on at step 6 (R421, R426, R439): it takes the blanking, claim and retry values of this moment. -/
def auxOn (n : Fin 12) (s : State) : State :=
  let blank := pget s 0x4802 n
  let own := auxOwnClaim s n
  let full := pget s 0x4808 n
  let win := pget s 0x4809 n
  let dly := pget s 0x480A n
  let f := s.frame
  modAux n (fun c =>
    { c with
      st := if blank = 0 then .on else .blanking
      claim := own
      blankEnd := if blank = 0 then none else some (frameAfter f blank)
      retries := if c.after then c.retries - 1 else if c.lastTrip.isNone then full else c.retries
      after := false
      retryN := full
      retryDly := dly
      winLen := if c.lastTrip.isNone then win else c.winLen
      retryAt := none
      turnOn := false
      open_ := false
      ocRun := 0, olRun := 0, okRun := 0
      newDuty := none
      phase := false
      perAt := f
      tOn := 0 }) s

/-- A channel turned off into a state, its claim released. -/
def auxOff (st : AuxState) (n : Fin 12) (s : State) : State :=
  modAux n (fun c => { c with st := st, claim := 0, blankEnd := none, turnOn := false, phase := false, newDuty := none,
                              ocRun := 0, olRun := 0, okRun := 0 }) s

/-- A channel put in the queue with the frame of its start. -/
def auxEnqueue (n : Fin 12) (s : State) : State :=
  let f := s.frame
  modAux n (fun c => { c with st := .queued, startAt := f, retryAt := none }) s

/-- A start of a channel that is off, applied at step 6 (R420): on, or queued with AUX_DEFERRED; held in BANK_OFF by the
bank supply and in TRIPPED by a set thermal latch. -/
def auxStart (n : Fin 12) (s : State) : State :=
  if s.aux.uv ≠ 0 then auxOff .bankOff n s
  else if s.aux.ch[n].latch then modAux n (fun c => { c with st := .tripped, retryAt := none }) s
  else if auxFits s n then
    let f := s.frame
    auxOn n (modAux n (fun c => { c with startAt := f }) s)
  else
    let s := auxEnqueue n s
    ev 0xB7 8 0 (n.val * 256 + place n (auxQueue s)) s

/-- An AUX action applied at step 6 (R418, R420, R428): commanded mode and lamp duty. -/
def applyAux (n : Fin 12) (mode duty : Nat) (s : State) : State :=
  let c := s.aux.ch[n]
  if s.aux.held then s
  else if mode = 0 then
    let s := modAux n (fun c => { c with mode := 0 }) s
    if c.st = .locked then s else auxOff .off n (modAux n (fun c => { c with retryAt := none }) s)
  else
    let now (c : AuxCh) : AuxCh :=
      if c.isOn && mode == 2 then { c with mode := 2, newDuty := some duty }
      else { c with mode := mode, duty := if mode = 2 then duty else c.duty, newDuty := none }
    let s := modAux n now s
    if c.st = .off then auxStart n s else s

/-- The AUX actions applied at one step 6, in the order of R422. -/
def applyAuxes (acts : List (Fin 12 × Nat × Nat)) (s : State) : State :=
  (sortBy (fun a b => lexLt [pget s 0x4804 a.1, a.1.val] [pget s 0x4804 b.1, b.1.val]) acts).foldl
    (fun s a => applyAux a.1 a.2.1 a.2.2 s) s

/-- Whether a channel confirms an AUX action (R419). -/
def auxConfirms (s : State) (n : Fin 12) (mode : Nat) : Bool :=
  let c := s.aux.ch[n]
  if mode = 0 then c.st == .off else c.isOn && c.mode == mode

/-- Whether a restart of a tripped channel may enter the queue (R425). -/
def auxMayRestart (s : State) (n : Fin 12) : Bool :=
  let c := s.aux.ch[n]
  c.st == .tripped && (c.retryAt.isNone || expired c.retryAt s.frame) && !c.latch && decide (0 < c.retries) && c.mode != 0

/-- A restart tried: into the queue, or into BANK_OFF while the supply is out of range. -/
def auxRestart (n : Fin 12) (s : State) : State :=
  if auxMayRestart s n then
    if s.aux.uv ≠ 0 then modAux n (fun c => { c with st := .bankOff, retryAt := none, after := false }) s else auxEnqueue n s
  else s

/-- A trip stamped: TRIPPED with its delay, or LOCKED with no retry left (R424, R427). -/
def auxTrip (n : Fin 12) (cause : Nat) (s : State) : State :=
  let c := s.aux.ch[n]
  let f := s.frame
  let s := modAux n (fun c => { c with cause := cause, lastTrip := some f, after := true }) s
  if c.retries = 0 then
    objFailure 4 n 8 0xB2 (auxReport n (ev 0xB2 8 0 n (auxOff .locked n s)))
  else
    let s := auxOff .tripped n s
    let s := modAux n (fun c => { c with retryAt := some (frameAfter f c.retryDly) }) s
    auxReport n (ev 0xB1 8 c.retries (min (c.current / 10) 65535 * 65536 + n.val * 256 + cause) s)

/-! ### Edge work -/

/-- The stamps of a channel counted at step 1 (R416, R417); blanked frames count for nothing. -/
def auxCount (x : AuxSample) (s : State) : State :=
  let oc := pget s 0x4800 x.n
  let ol := pget s 0x4805 x.n
  modAux x.n (fun c =>
    let c := { c with current := x.mA, temp := x.temp }
    if c.st ≠ .on then c
    else
      let c := { c with ocRun := if oc < x.mA then c.ocRun + 1 else 0 }
      if c.mode = 2 ∧ ¬ x.onPhase then c
      else { c with olRun := if x.mA < ol then c.olRun + 1 else 0, okRun := if x.mA < ol then 0 else c.okRun + 1 }) s

/-- VBANK stamped and its runs counted (R430, R431, R433). -/
def auxSupply (v : Nat) (s : State) : State :=
  let hold := pget s 0x4811 0
  let a := s.aux
  let good := if a.uv = 1 then decide (10500 ≤ v) else if a.uv = 2 then decide (v ≤ 32000) else false
  let run := if good then a.okRun + 1 else 0
  { s with aux := { a with
      vbank := v, vhist := (v :: a.vhist).take 8, okRun := run
      okAt := if a.okAt.isSome then a.okAt else if a.uv ≠ 0 ∧ hold ≤ run then some s.frame else none } }

/-- A lamp period that starts at this edge, or an on-phase that ends (R433, R434). -/
def auxLamp (n : Fin 12) (s : State) : State :=
  let f := s.frame
  modAux n (fun c =>
    if !c.isOn || (c.mode != 2) then c
    else if f % 40 = 3 * n.val % 40 then
      { c with duty := c.newDuty.getD c.duty, newDuty := none, perAt := f, phase := decide (0 < c.tOn) }
    else if c.phase && decide (c.tOn ≤ 125 * (f - c.perAt)) then { c with phase := false }
    else c) s

/-- The lamp on-time before it is limited, µs (R433): the duty scaled by the supply's mean over its last 8 stamps. -/
def lampTime (duty vref sum count : Nat) (comp : Bool) : Nat :=
  if comp then (if sum = 0 then 5001 else 5 * duty * (vref * vref * (count * count)) / (sum * sum)) else 5 * duty

/-- The lamp on-time recomputed in slot 9 (R433, R434). -/
def auxLampSlot (n : Fin 12) (s : State) : State :=
  let sum := s.aux.vhist.foldl (· + ·) 0
  let count := s.aux.vhist.length
  let comp := pbool s 0x480B n
  let vref := pget s 0x480C n
  modAux n (fun c =>
    if c.mode ≠ 2 then { c with clamp := false }
    else
      let t := lampTime c.duty vref sum count comp
      { c with tOn := min t 5000, clamp := decide (5000 < t) }) s

/-- Step 1 of the bank: its stamps, the report of states reached since the last edge (R420). -/
def auxEdge (vbank : Option Nat) (xs : List AuxSample) (s : State) : State :=
  let s := match vbank with
    | some v => auxSupply v s
    | none => auxSupply s.aux.vbank s
  let s := xs.foldl (fun s x => auxCount x s) s
  (allFin 12).foldl (fun (s : State) (n : Fin 12) => auxLamp n (auxReport n s)) s

/-- Step 6 of the bank: the starts that slot 9 or an outlet's admission reserved turn on (R422, R423). -/
def auxStep6 (s : State) : State :=
  ((allFin 12).filter fun n => s.aux.ch[n].turnOn).foldl
    (fun (s : State) (n : Fin 12) => if s.aux.uv ≠ 0 then auxOff .bankOff n s else auxOn n s) s

/-- Slot 9 of the bank. -/
def auxSlot (s : State) : State := (allFin 12).foldl (fun (s : State) (n : Fin 12) => auxLampSlot n s) s

/-! ### Outlets, fences and power fail -/

/-- Whether an outlet's admission may take a channel: on already, or a start that would be the queue's head and fits
(R423). -/
def auxAdmits (s : State) (n : Fin 12) : Bool :=
  let c := s.aux.ch[n]
  if c.isOn || c.turnOn then true
  else if c.st ≠ .off ∨ s.aux.uv ≠ 0 ∨ c.latch ∨ s.aux.held then false
  else auxFits s n && (match auxQueue s with
    | [] => true
    | q :: _ => lexLt [pget s 0x4804 n, s.frame, n.val] (auxKey s q))

/-- An accepted start reserves its claim and turns on at step 6 of the next frame (R423). -/
def auxReserve (n : Fin 12) (s : State) : State :=
  let own := auxOwnClaim s n
  let f := s.frame
  modAux n (fun c => if c.isOn then { c with mode := 1 } else { c with mode := 1, claim := own, turnOn := true, startAt := f }) s

/-- Every channel off at step 6 of frame P (R435, Table BRU-8); no retry is consumed. -/
def auxPowerOff (s : State) : State := (allFin 12).foldl (fun (s : State) (n : Fin 12) => auxOff .off n (modAux n (fun c => { c with mode := 0 }) s)) s

/-- The bank fenced: every channel off and LOCKED (R436). -/
def auxFence (s : State) : State :=
  (allFin 12).foldl (fun (s : State) (n : Fin 12) => auxOff .locked n s) { s with aux := { s.aux with fenced := true } }

/-- The bank returned: it restarts from its reset state (R524); retired channels stay LOCKED. -/
def auxReturn (s : State) : State :=
  (allFin 12).foldl (fun (s : State) (n : Fin 12) =>
    let full := pget s 0x4808 n
    let dead := objRetired s 4 n
    modAux n (fun c => { reported := c.reported, current := c.current, temp := c.temp, latch := c.latch, retries := full,
                         retryN := full, st := if dead then .locked else .off }) s)
    { s with aux := { s.aux with fenced := false } }

/-! ### Rows -/

/-- SHORT_CIRCUIT: the comparator turns a channel off (R414). -/
def execShortCircuit (n : Fin 12) (s : State) : Outcome State Fault Refusal :=
  if s.aux.ch[n].isOn then ans (auxTrip n 1 s) else ans s

/-- THERMAL_TRIP: 150 °C reached; the latch sets and a channel that is on trips (R415). -/
def execThermalTrip (n : Fin 12) (s : State) : Outcome State Fault Refusal :=
  let c := s.aux.ch[n]
  if 150 ≤ c.temp ∧ ¬ c.latch then
    let s := modAux n (fun c => { c with latch := true }) s
    if c.isOn then ans (auxTrip n 3 s) else ans s
  else ans s

/-- THERMAL_LATCH_CLEAR: 135 °C reached again (R415); a tripped channel may restart (R425). -/
def execThermalLatchClear (n : Fin 12) (s : State) : Outcome State Fault Refusal :=
  if s.aux.ch[n].latch ∧ s.aux.ch[n].temp ≤ 135 then
    ans (auxRestart n (modAux n (fun c => { c with latch := false }) s))
  else ans s

/-- OVERCURRENT_TRIP (R416). -/
def execOvercurrentTrip (n : Fin 12) (s : State) : Outcome State Fault Refusal :=
  if s.aux.ch[n].st = .on ∧ pget s 0x4801 n ≤ s.aux.ch[n].ocRun then ans (auxTrip n 2 s) else ans s

/-- AUX_OPEN_LOAD (R417). -/
def execAuxOpenLoad (n : Fin 12) (s : State) : Outcome State Fault Refusal :=
  let c := s.aux.ch[n]
  if c.st = .on ∧ ¬ c.open_ ∧ pbool s 0x4807 n ∧ pget s 0x4806 n ≤ c.olRun then
    ans (ev 0xB3 8 0 (c.current % 65536 * 65536 + n) (modAux n (fun c => { c with open_ := true }) s))
  else ans s

/-- AUX_LOAD_OK (R417). -/
def execAuxLoadOk (n : Fin 12) (s : State) : Outcome State Fault Refusal :=
  let c := s.aux.ch[n]
  if c.st = .on ∧ c.open_ ∧ pget s 0x4806 n ≤ c.okRun then
    ans (ev 0xB4 8 0 (c.current % 65536 * 65536 + n) (modAux n (fun c => { c with open_ := false }) s))
  else ans s

/-- QUEUED_START: slot 9 tries the head of the queue; one that fits reserves its claim and turns on at the next step 6
(R422). -/
def execQueuedStart (s : State) : Outcome State Fault Refusal :=
  if (allFin 12).any fun n => s.aux.ch[n].st == .queued && s.aux.ch[n].turnOn then ans s
  else match auxQueue s with
    | [] => ans s
    | n :: _ =>
      if auxFits s n then
        let own := auxOwnClaim s n
        ans (modAux n (fun c => { c with turnOn := true, claim := own }) s)
      else ans s

/-- BLANKING_END: the window expires; the channel is ON and its claim released (R421). -/
def execBlankingEnd (n : Fin 12) (s : State) : Outcome State Fault Refusal :=
  if s.aux.ch[n].st = .blanking ∧ expired s.aux.ch[n].blankEnd s.frame then
    ans (modAux n (fun c => { c with st := .on, claim := 0, blankEnd := none }) s)
  else ans s

/-- RETRY_DELAY_END (R425). -/
def execRetryDelayEnd (n : Fin 12) (s : State) : Outcome State Fault Refusal :=
  if s.aux.ch[n].st = .tripped ∧ expired s.aux.ch[n].retryAt s.frame then
    ans (auxRestart n (modAux n (fun c => { c with retryAt := none }) s))
  else ans s

/-- RETRY_WINDOW_END: AUX.RETRY.WIN frames without a trip refill the counter (R426). -/
def execRetryWindowEnd (n : Fin 12) (s : State) : Outcome State Fault Refusal :=
  match s.aux.ch[n].lastTrip with
  | some t =>
    if t + s.aux.ch[n].winLen ≤ s.frame then
      ans (modAux n (fun c => { c with retries := c.retryN, lastTrip := none }) s)
    else ans s
  | none => ans s

/-- AUX_UV: VBANK below 9.0 V or above 33.0 V turns every channel off (R430). -/
def execAuxUv (s : State) : Outcome State Fault Refusal :=
  let v := s.aux.vbank
  if s.aux.uv = 0 ∧ (v < 9000 ∨ 33000 < v) then
    let d := if v < 9000 then 1 else 2
    let s := ev 0xB5 8 d v { s with aux := { s.aux with uv := d, okRun := 0, okAt := none } }
    ans ((allFin 12).foldl (fun (s : State) (n : Fin 12) =>
      let c := s.aux.ch[n]
      if c.st = .queued ∨ c.isOn then
        auxReport n (modAux n (fun c => { c with after := false }) (auxOff .bankOff n s))
      else modAux n (fun c => { c with turnOn := false, claim := 0 }) s) s)
  else ans s

/-- AUX_UV_OK: the frame after the hold count; BANK_OFF channels enter the queue (R431). -/
def execAuxUvOk (s : State) : Outcome State Fault Refusal :=
  match s.aux.okAt with
  | some f =>
    if f < s.frame then
      let s := ev 0xB6 8 0 s.aux.vbank { s with aux := { s.aux with uv := 0, okRun := 0, okAt := none } }
      ans ((allFin 12).foldl (fun (s : State) (n : Fin 12) => if s.aux.ch[n].st = .bankOff then auxEnqueue n s else s) s)
    else ans s
  | none => ans s

/-- AUX_CTRL_FAULT: the bank controller fails its self-check; its domain is fenced (R436). -/
def execAuxCtrlFault (check : Nat) (s : State) : Outcome State Fault Refusal :=
  let f := s.frame
  ans (ev 0xB8 8 0 check
    { s with flt := { s.flt with domains := upd s.flt.domains (8 : Fin 12) fun (d : Domain) => { d with selfAt := some f } } })

/-- Whether a host transaction or an outlet holds a channel: the refusals of AUX_SET (R423, R437). -/
def auxSetRules (channel mode duty : Nat) (s : State) : Verdict :=
  if hc : channel < 12 then
    if 2 < mode ∨ (mode = 2 ∧ (duty < 10 ∨ 1000 < duty)) then no 0x1101
    else if s.aux.ch[channel].st = .locked ∨ s.aux.fenced then no 0x4001
    else if (allFin 8).any fun k => s.outlets[k].claim.held && pget s 0x1005 k == channel then no 0x10B0
    else if s.txn.txns.any fun t => t.isHost && t.reserves && t.actions.any fun a => a.act.key == (4, channel) then no 0x1105
    else .accept 0x0100 none (fun s => buildTxn .aux [.aux ⟨channel, hc⟩ mode duty] (frameAfter s.frame 1) s)
  else no 0x1104

/-- AUX_SET (R437). -/
def execAuxSet (h : Hdr) (channel mode duty : Nat) (s : State) : Outcome State Fault Refusal :=
  ans (hostCmd h 0x4800 (.auxSet h channel mode duty) true true [] (auxSetRules channel mode duty) s)

/-- AUX_STATUS (R437). -/
def execAuxStatus (h : Hdr) (s : State) : Outcome State Fault Refusal :=
  ans (hostCmd h 0x4801 (.auxStatus h) true true [] (fun _ => done) s)

/-- The duty a channel's output has now, 0.1 %. -/
def auxApplied (c : AuxCh) : Nat := if !c.isOn then 0 else if c.mode = 2 then c.tOn / 5 else 1000

/-- The AUX_STATUS result (Table AUX-6). -/
def auxStatusResult (s : State) : List Byte :=
  let q := auxQueue s
  ((allFin 12).flatMap fun n =>
    let c := s.aux.ch[n]
    leBytes 1 (auxCode c.st) ++ leBytes 1 c.mode ++ leBytes 1 c.retries
      ++ leBytes 1 ((if c.latch then 128 else 0) + (if c.open_ then 64 else 0) + (if c.clamp then 32 else 0)
          + (if c.st = .blanking then 16 else 0) + c.cause % 16)
      ++ leSat 2 c.current ++ leBytes 2 (auxApplied c) ++ leBytes 2 (c.newDuty.getD c.duty)
      ++ leInt 1 c.temp ++ leBytes 1 (place n q))
  ++ leSat 2 s.aux.vbank ++ leBytes 1 (if s.aux.fenced then 3 else s.aux.uv) ++ [0] ++ leSat 2 (auxClaims s) ++ [0, 0]

/-- AUX_CLEAR during frame N (R427, R437, Table FLT-2). -/
def auxClearRules (channel : Nat) (s : State) : Verdict :=
  if hc : channel < 12 then
    if objRetired s 4 channel then no 0x4001
    else if s.aux.ch[channel].st ≠ .locked ∨ s.aux.fenced then no 0x10B1
    else done
  else no 0x1104

/-- AUX_CLEAR (R437). -/
def execAuxClear (h : Hdr) (channel reason : Nat) (s : State) : Outcome State Fault Refusal :=
  ans (hostCmd h 0x4802 (.auxClear h channel reason) true true [] (auxClearRules channel) s)

/-- A locked channel back to OFF with a full counter (R427). -/
def auxUnlock (n : Fin 12) (s : State) : State :=
  let full := pget s 0x4808 n
  modAux n (fun c => { c with st := .off, mode := 0, retries := full, retryN := full, lastTrip := none, after := false,
                              retryAt := none }) s

/-- AUX_CLEAR takes effect. -/
def applyAuxClear (channel reason : Nat) (s : State) : State :=
  if hc : channel < 12 then ev 0xB9 8 reason channel (auxUnlock ⟨channel, hc⟩ s) else s

end Sys2Proof.Machine
end

