-- ==== Sys2Proof/Machine/Pool.lean ====
section
/-! DEFINITION. The power pool (chapter 06): buses and ties, module profiles, CAN FD frames, power groups and their
setpoints, moves, and the pool's opcodes. -/

namespace Sys2Proof.Machine

open Host

/-- The code of a session state (Table OUT-5). -/
def sessCode (x : Sess) : Nat := match x with
  | .unavailable => 0
  | .idle => 1
  | .connected => 2
  | .linking => 3
  | .authorising => 4
  | .deferred => 5
  | .parameters => 6
  | .cableCheck => 7
  | .precharge => 8
  | .ready => 9
  | .energising => 10
  | .charging => 11
  | .paused => 12
  | .stopping => 13
  | .weldCheck => 14
  | .ended => 15
  | .fault => 16

/-- The states from CABLE_CHECK to WELD_CHECK (R220). -/
def sessOnBus (x : Sess) : Bool := decide (7 ≤ sessCode x) && decide (sessCode x ≤ 14)

/-- An outlet's type (Table OUT-1). -/
def outType (s : State) (k : Nat) : Nat := pget s 0x1000 k

/-- Whether an outlet is DC or MW. -/
def isDc (s : State) (k : Nat) : Bool := outType s k == 3 || outType s k == 4

/-- Whether an outlet is AC. -/
def isAc (s : State) (k : Nat) : Bool := outType s k == 1 || outType s k == 2

/-- Whether an outlet is in device-driven mode. -/
def deviceDriven (s : State) (k : Nat) : Bool := pget s 0x1007 k == 0

/-- An outlet changed. -/
def modOut (k : Fin 8) (f : Outlet → Outlet) (s : State) : State := { s with outlets := upd s.outlets k f }

/-- The state of the pool changed. -/
def modPool (f : PoolSt → PoolSt) (s : State) : State := { s with pool := f s.pool }

/-- A power group changed. -/
def modPg (g : Fin 16) (f : PowerGroup → PowerGroup) (s : State) : State :=
  modPool (fun p => { p with groups := upd p.groups g f }) s

/-- A tie changed. -/
def modTie (t : Fin 8) (f : TieSt → TieSt) (s : State) : State := modPool (fun p => { p with ties := upd p.ties t f }) s

/-! ### Buses, ties and segments (R199 to R204) -/

/-- Whether a tie joins its buses: commanded closed, or counted as closed when welded (R201, R226). -/
def tieJoined (s : State) (t : Fin 8) : Bool := s.pool.ties[t].cmd || s.pool.ties[t].welded

/-- The ties of the arc that leaves bus `a` through tie Ta and runs through `n` buses upward. -/
def arcUp (a n : Nat) : List (Fin 8) := (List.range n).map fun i => ⟨(a + i) % 8, Nat.mod_lt _ (by omega)⟩

/-- Whether two buses lie in one segment, with `joined` saying which ties count as closed (R201). -/
def sameSegment (joined : Fin 8 → Bool) (a b : Nat) : Bool :=
  (arcUp a ((b + 8 - a) % 8)).all joined || (arcUp b ((a + 8 - b) % 8)).all joined

/-- The path of a group between its bus and a target bus: the shorter arc, upward when both are equal (R221). -/
def tiePath (bus target : Nat) : List (Fin 8) :=
  let up := (target + 8 - bus) % 8
  if up ≤ 4 then arcUp bus up else arcUp target (8 - up)

/-- The bus of a group, if it is configured to one (R199). -/
def pgBus (s : State) (g : Nat) : Option (Fin 8) :=
  let b := pget s 0x1800 g
  if h : b < 8 then some ⟨b, h⟩ else none

/-- The profile of a group (R199). -/
def pgProfile (s : State) (g : Nat) : Option (List Byte) :=
  match vget? s.pool.profiles (pget s 0x1802 g) with
  | some (some p) => if (pgBus s g).isSome then some p else none
  | _ => none

/-- The outlet a group serves (R201). -/
def pgServes (s : State) (g : Nat) : Option (Fin 8) :=
  let v := pget s 0x1804 g
  if h : v < 8 then (if (pgBus s g).isSome then some ⟨v, h⟩ else none) else pgBus s g

/-- The domain of a group's events: the outlet it serves (R232); 12 for a group of no outlet. -/
def pgDomain (s : State) (g : Nat) : Nat := match pgServes s g with
  | some k => k
  | none => 12

/-- Whether a group serves an outlet across the segment (R201). -/
def pgReaches (s : State) (g : Nat) : Bool := match pgBus s g, pgServes s g with
  | some b, some k => sameSegment (tieJoined s) b k
  | _, _ => false

/-- Whether a group has valid status (R589). -/
def PowerGroup.valid (p : PowerGroup) : Bool := p.st == .ready || p.st == .active || p.st == .derated

/-- The groups that serve an outlet with valid status (R216, R589). -/
def servingGroups (s : State) (k : Fin 8) : List (Fin 16) :=
  (allFin 16).filter fun (g : Fin 16) => s.pool.groups[g].valid && pgServes s g == some k && pgReaches s g

/-- The ties a group needs to reach the outlet it serves (R221). -/
def pgNeeds (s : State) (g : Nat) : List (Fin 8) := match pgBus s g, pgServes s g with
  | some b, some k => tiePath b k
  | _, _ => []

/-- The outlet a tie carries power to (R30): one served across it from another bus. -/
def tieOutlet (s : State) (t : Fin 8) : Option (Fin 8) :=
  match (allFin 16).find? fun (g : Fin 16) => (pgProfile s g).isSome && (pgNeeds s g).contains t with
  | some g => pgServes s g
  | none => none

/-- The domain of a tie's events; 12 when it carries power to no outlet. -/
def tieDomain (s : State) (t : Fin 8) : Nat := match tieOutlet s t with
  | some k => k
  | none => 12

/-- The voltage across a tie (R204). -/
def tieVolts (s : State) (t : Fin 8) : Option Int :=
  match s.pool.busV[(t + 1 : Fin 8)], s.pool.busV[t] with
  | some a, some b => some (a - b)
  | _, _ => none

/-- Whether a retired or disabled tie is shut out of paths (R200, R221, Table FLT-2). -/
def tieUsable (s : State) (t : Fin 8) : Bool :=
  pbool s 0x1810 t && !s.pool.ties[t].welded && !objRetired s 2 t

/-! ### Module profiles (R209 to R212) -/

/-- A field descriptor (Table POL-3). -/
structure FieldDesc where
  start  : Nat
  len    : Nat
  flags  : Nat
  lsb    : Rat
  offset : Rat
  lsbBits : Nat
  deriving DecidableEq, Repr

/-- Descriptor Fi of a profile. -/
def profField (p : List Byte) (i : Nat) : FieldDesc :=
  let o := 64 + 12 * i
  { start := u16At p o, len := u8At p (o + 2), flags := u8At p (o + 3), lsb := f32Rat (u32At p (o + 4)),
    offset := f32Rat (u32At p (o + 8)), lsbBits := u32At p (o + 4) }

/-- The bits of a payload from `start`, the first the least significant. -/
def bitsAt (data : List Byte) (start len : Nat) : Nat := leNat data / 2 ^ start % 2 ^ len

/-- A value whose groups of eight bits, from the first, are taken in the opposite order (Table POL-3, FLAGS bit 1). -/
def swapGroups : Nat → Nat → Nat → Nat
  | 0, _, _ => 0
  | fuel + 1, len, x => if len ≤ 8 then x % 2 ^ len else x % 256 * 2 ^ (len - 8) + swapGroups fuel (len - 8) (x / 256)

/-- The raw value of a field in a payload. -/
def fieldRaw (d : FieldDesc) (data : List Byte) : Nat :=
  let x := bitsAt data d.start d.len
  if d.flags / 2 % 2 = 1 then swapGroups 5 d.len x else x

/-- The bits of a raw value as they lie from START on. -/
def unswapGroups : Nat → Nat → Nat → Nat
  | 0, _, _ => 0
  | fuel + 1, len, x =>
    if len ≤ 8 then x % 2 ^ len else x / 2 ^ (len - 8) % 256 + 256 * unswapGroups fuel (len - 8) (x % 2 ^ (len - 8))

/-- A received field as a physical value (R211); none when the field is absent. -/
def fieldGet (d : FieldDesc) (data : List Byte) : Option Rat :=
  if d.len = 0 then none
  else
    let x := fieldRaw d data
    let w : Int := if d.flags % 2 = 1 ∧ 2 ^ (d.len - 1) ≤ x then (x : Int) - (2 ^ d.len : Nat) else x
    some ((w : Rat) * d.lsb + d.offset)

/-- A raw value put into a payload. -/
def putBits (d : FieldDesc) (x : Nat) (data : List Byte) : List Byte :=
  let y := if d.flags / 2 % 2 = 1 then unswapGroups 5 d.len x else x % 2 ^ d.len
  let old := bitsAt data d.start d.len
  leBytes data.length (leNat data - old * 2 ^ d.start + y * 2 ^ d.start)

/-- A physical value put into a payload: rounded to the field's unit and clamped to it (R211). A unit of zero gives no
stated count: a free value. -/
def fieldPut (d : FieldDesc) (v : Rat) (data : List Byte) : List Byte :=
  if d.len = 0 then data
  else
    let w := if d.lsb = 0 then roundRat (Config.f32Special d.lsbBits) else roundRat ((v - d.offset) / d.lsb)
    let lo : Int := if d.flags % 2 = 1 then -((2 ^ (d.len - 1) : Nat) : Int) else 0
    let hi : Int := if d.flags % 2 = 1 then ((2 ^ (d.len - 1) : Nat) : Int) - 1 else ((2 ^ d.len : Nat) : Int) - 1
    putBits d ((clampI lo hi w) % (2 ^ d.len : Nat)).toNat data

/-- The setpoint payload of a group (R211): the template with F0, F1, F2 and F8. -/
def setpointPayload (p : List Byte) (mV : Nat) (mA : Int) (alive : Nat) : List Byte :=
  let dlc := u8At p 21
  let d := (p.drop 180).take dlc
  let d := fieldPut (profField p 0) (mV : Rat) d
  let d := fieldPut (profField p 1) (mA : Rat) d
  let d := if (profField p 2).len = 0 then d else putBits (profField p 2) (if mV ≠ 0 ∨ mA ≠ 0 then 1 else 0) d
  if (profField p 8).len = 0 then d else putBits (profField p 8) (alive % 2 ^ (profField p 8).len) d

/-- CAN IDs of a group (R210). -/
def pgSetId (s : State) (g : Nat) (p : List Byte) : Nat := u32At p 24 + pget s 0x1803 g * u16At p 28
def pgStatusId (s : State) (g : Nat) (p : List Byte) : Nat := u32At p 32 + pget s 0x1803 g * u16At p 28

/-- Whether a profile image passes the checks of its load (R209, R212). -/
def profileOk (p : List Byte) : Bool :=
  decide (p.length = 256) && u16At p 0 == 1 && (crc32 (p.take 252)).toNat == u32At p 252
    && (u8At p 31 != 0 || ((profField p 5).len != 0 && (profField p 6).len != 0))

/-- Tolerances of a profile, mV and mA. -/
def profTolV (p : List Byte) : Int := 100 * (u16At p 38 : Int)
def profTolI (p : List Byte) : Int := 100 * (u16At p 40 : Int)

/-! ### Group states (R213 to R215, R589) -/

/-- The code of a group state (Table POL-4). -/
def pgCode (x : PgState) : Nat := match x with
  | .unconfigured => 0
  | .absent => 1
  | .ready => 2
  | .active => 3
  | .derated => 4
  | .failed => 5

/-- A group enters a state; POL_PG_STATE when it is another (R589). The frame in which it became ABSENT is kept: a status
of that frame was stamped before step 6 and is no status since (R215, R589). -/
def pgTo (g : Fin 16) (st : PgState) (s : State) : State :=
  if s.pool.groups[g].st = st then s
  else ev 0x50 (pgDomain s g) 0 (g.val * 256 + pgCode st) (modPg g (fun p => { p with st := st, absentAt := if st = .absent then some s.frame else p.absentAt }) s)

/-- A setpoint given to a group; `now` sends its frame at once (R206). -/
def pgSet (g : Fin 16) (mV : Nat) (mA : Int) (now : Bool) (s : State) : State :=
  modPg g (fun p => { p with spMv := mV, spMa := mA, changed := p.changed || p.spMv != mV || p.spMa != mA,
                             sendNow := p.sendNow || now }) s

/-- Step 6: groups become configured or unconfigured as their parameters and profiles say (R199, R589); a failed group's
setpoint is zero from the edge after its failure on (R215). -/
def poolConfig (s : State) : State :=
  (allFin 16).foldl (fun (s : State) (g : Fin 16) =>
    match pgProfile s g with
    | none => if s.pool.groups[g].st = .unconfigured then s else pgTo g .unconfigured (pgSet g 0 0 false s)
    | some _ =>
      if s.pool.groups[g].st = .unconfigured then
        let dead := objRetired s 1 g
        pgTo g (if dead then .failed else .absent)
          (modPg g (fun _ => { sendNow := true }) s)
      else if s.pool.groups[g].st = .failed ∧ (s.pool.groups[g].spMv ≠ 0 ∨ s.pool.groups[g].spMa ≠ 0) then pgSet g 0 0 true s
      else s) s

/-- The state a group with valid status has by its setpoint and its derating bit (Table POL-4). -/
def pgRun (s : State) (g : Fin 16) : PgState :=
  let p := s.pool.groups[g]
  match pgProfile s g with
  | none => .unconfigured
  | some pr => if p.f7 &&& u32At pr 176 ≠ 0 then .derated else if p.spMa = 0 then .ready else .active

/-- The states of running groups brought in line with their setpoints. -/
def pgRefresh (g : Fin 16) (s : State) : State :=
  if s.pool.groups[g].valid then pgTo g (pgRun s g) s else s

/-- A move's end (R223): earlier SERVE values under outcomes 2 to 6, setpoints to zero, POL_MOVE_DONE. -/
def moveEnd (m : Fin 4) (outcome check : Nat) (s : State) : State :=
  match s.pool.moves[m] with
  | none => s
  | some mv =>
    let s := modPool (fun p => { p with moves := p.moves.set m none }) s
    let s := if 2 ≤ outcome then
        (mv.groups.zip mv.old).foldl (fun (s : State) (x : Fin 16 × Nat) =>
          pgSet x.1 0 0 true (pset 0x1804 x.1 x.2 s)) s
      else s
    let mask := (mv.groups.map fun (g : Fin 16) => 2 ^ g.val).foldl (· + ·) 0
    let dom := match mv.target with
      | some k => k.val
      | none => 12
    ev 0x55 dom 0 (mask * 65536 + check * 256 + outcome) s

/-- The running move a group belongs to. -/
def moveOf (s : State) (g : Fin 16) : Option (Fin 4) :=
  (allFin 4).find? fun (m : Fin 4) => match s.pool.moves[m] with
    | some mv => mv.groups.contains g
    | none => false

/-- A group fails (R214, R215): the failure counted; its setpoint goes to zero at the next edge. -/
def failGroup (g : Fin 16) (id arg : Nat) (s : State) : State :=
  if s.pool.groups[g].st = .unconfigured ∨ s.pool.groups[g].st = .failed then s
  else
    let dom := pgDomain s g
    let s := ev id dom 0 arg s
    let s := pgTo g .failed s
    let s := modPg g (fun p => { p with recovRun := 0, devRun := 0, ramp := none, hostSp := false }) s
    let s := objFailure 1 g dom id s
    match moveOf s g with
    | none => s
    | some m => match s.pool.moves[m] with
      | some mv =>
        if (mv.phase == .rampDown || mv.phase == .tieOpen || mv.phase == .match)
            && mv.groups.all (fun x => s.pool.groups[x].st == .failed) then moveEnd m 6 0 s
        else s
      | none => s

/-- Whether a port is running (Table POL-8). -/
def portOn (s : State) (port : Fin 2) : Bool := s.pool.ports[port].state = 1 || s.pool.ports[port].state = 2

/-- A port changed. -/
def modPort (p : Fin 2) (f : CanPort → CanPort) (s : State) : State :=
  modPool (fun x => { x with ports := upd x.ports p f }) s

/-- The ports start: every configured group ABSENT, its first frame all zero (R228). -/
def poolStart (s : State) : State :=
  let s := (allFin 2).foldl (fun (s : State) (p : Fin 2) => modPort p (fun _ => { state := 1 }) s) s
  (allFin 16).foldl (fun (s : State) (g : Fin 16) =>
    if (pgProfile s g).isNone then s
    else pgTo g (if objRetired s 1 g then .failed else .absent)
      (modPg g (fun p => { st := p.st, sendNow := true, alive := p.alive }) s)) s

/-- The ports off (R228). -/
def poolStop (s : State) : State :=
  (allFin 2).foldl (fun (s : State) (p : Fin 2) => modPort p (fun x => { x with state := 0 }) s) s

/-- The group a status frame names (R207). -/
def statusGroup (s : State) (port : Fin 2) (id : Nat) (data : List Byte) : Option (Fin 16) :=
  (allFin 16).find? fun (g : Fin 16) => match pgProfile s g with
    | some p => pget s 0x1801 g == port.val && pgStatusId s g p == id && data.length == u8At p 30
    | none => false

/-- A received field in its unit, 0 when the profile has none. -/
def fieldInt (d : FieldDesc) (data : List Byte) : Int := roundRat ((fieldGet d data).getD 0)

/-- A status frame stamped for its group (R207, R214, R589). -/
def stampStatus (g : Fin 16) (p : List Byte) (data : List Byte) (s : State) : State :=
  let f := s.frame
  let f7 := if (profField p 7).len = 0 then 0 else fieldRaw (profField p 7) data
  let s := modPg g (fun x =>
    { x with f3 := fieldInt (profField p 3) data, f4 := fieldInt (profField p 4) data, f5 := fieldInt (profField p 5) data,
             f6 := fieldInt (profField p 6) data, f7 := f7, lastOk := some f }) s
  if f7 &&& u32At p 172 ≠ 0 then
    failGroup g 0x51 (f7 % 2 ^ 24 * 256 + g.val) (modPg g (fun x => { x with recovRun := 0 }) s)
  else if s.pool.groups[g].st = .absent then
    if s.pool.groups[g].absentAt = some f then s else pgTo g (pgRun s g) (modPg g (fun x => { x with ramp := some 0 }) s)
  else pgRefresh g s

/-- Whether a PG_SETPOINT action is confirmed by the last stamped status (R212). -/
def pgConfirms (s : State) (g : Fin 16) (mV : Nat) (mA : Int) (since : Nat) : Bool :=
  let x := s.pool.groups[g]
  match pgProfile s g with
  | none => false
  | some p =>
    let near (a b tol : Int) : Bool := decide (a - b ≤ tol) && decide (b - a ≤ tol)
    (match x.lastOk with
      | some f => decide (since < f)
      | none => false)
    && x.st != .failed
    && (if u8At p 31 = 0 then near x.f5 mV (profTolV p) && near x.f6 mA (profTolI p)
        else near x.f3 mV (profTolV p) || near x.f4 mA (profTolI p))

/-! ### Setpoints each frame (R176, R216 to R219) -/

/-- The voltage term of a DC outlet, mV (R176): the stamped V, taken as at least 150 V. -/
def voltTerm (s : State) (k : Fin 8) : Nat := max 150000 s.outlets[k].meas.v.toNat

/-- A group's power limit, W (R216). -/
def pgPower (s : State) (g : Nat) (p : List Byte) : Nat :=
  if pget s 0x1805 g ≠ 0 then pget s 0x1805 g else u32At p 60

/-- A group's import capacity at a voltage, mA (R215, R216). -/
def capImport (s : State) (g : Fin 16) (mV : Nat) : Nat :=
  match pgProfile s g with
  | none => 0
  | some p =>
    let x := s.pool.groups[g]
    let base := min (s32At p 56).toNat (pgPower s g p * 1000000 / mV)
    if x.st = .derated ∧ x.f4 < x.spMa - profTolI p then min base x.f4.toNat else base

/-- A group's export capacity at a voltage, mA (R218). -/
def capExport (s : State) (g : Fin 16) (mV : Nat) : Nat :=
  match pgProfile s g with
  | none => 0
  | some p => if s32At p 52 < 0 then min (s32At p 52).natAbs (pgPower s g p * 1000000 / mV) else 0

/-- Shares in proportion to capacity (R216): each of the total, within its capacity. -/
def shareByCap (total : Nat) (caps : List Nat) : List Nat :=
  let sum := caps.foldl (· + ·) 0
  if sum = 0 then caps.map fun _ => 0 else caps.map fun c => min total sum * c / sum

/-- Equal shares, each limited to its capacity and the excess spread over the others (R216), by rounds. -/
def shareEqual : Nat → Nat → List Nat → List Nat
  | 0, _, caps => caps.map fun _ => 0
  | fuel + 1, total, caps =>
    let open_ := caps.filter (0 < ·)
    if open_.isEmpty ∨ total = 0 then caps.map fun _ => 0
    else
      let each := total / open_.length
      let low := open_.filter (· ≤ each)
      if low.isEmpty then caps.map fun c => if 0 < c then each else 0
      else
        let rest := shareEqual fuel (total - low.foldl (· + ·) 0) (caps.map fun c => if c ≤ each then 0 else c)
        (caps.zip rest).map fun (c, r) => if c ≤ each then c else r

/-- The shares of a total over capacities, by POL.SHARE. -/
def shares (s : State) (total : Nat) (caps : List Nat) : List Nat :=
  if pget s 0x1828 0 = 1 then shareByCap total caps else shareEqual (caps.length + 1) total caps

/-- Whether a group takes part in its outlet's shares: not while a move holds it before its take-up (R222). -/
def pgShares (s : State) (g : Fin 16) : Bool := match moveOf s g with
  | none => true
  | some m => match s.pool.moves[m] with
    | some mv => mv.phase == .takeUp
    | none => true

/-- The sum of the capacities that count for an outlet (R217). -/
def poolCapacity (s : State) (k : Fin 8) (exporting : Bool) : Nat :=
  ((servingGroups s k).map fun (g : Fin 16) => if exporting then capExport s g (voltTerm s k) else capImport s g (voltTerm s k)).foldl
    (· + ·) 0

/-- The current that moved groups of an outlet still carry while they ramp down (R222, phase A). -/
def rampingOut (s : State) (k : Fin 8) : Nat :=
  (((servingGroups s k).filter fun (g : Fin 16) => !pgShares s g).map fun (g : Fin 16) => s.pool.groups[g].spMa.natAbs).foldl (· + ·) 0

/-- The outlet's voltage and current given to its groups (R216 to R218); groups that join rise by POL.MOVE.RAMP. -/
def distribute (k : Fin 8) (s : State) : State :=
  let o := s.outlets[k]
  let gs := (servingGroups s k).filter fun (g : Fin 16) => pgShares s g
  let neg := decide (o.spMa < 0)
  let mV := voltTerm s k
  let cap (g : Fin 16) : Nat := if neg then capExport s g mV else capImport s g mV
  let total := o.spMa.natAbs - rampingOut s k
  let full := gs.zip (shares s total (gs.map cap))
  let ramp := pget s 0x1829 0
  let joinCap (g : Fin 16) (share : Nat) : Option Nat := match s.pool.groups[g].ramp with
    | some r => if share ≤ r + ramp then none else some (r + ramp)
    | none => none
  let joining := full.filterMap fun (g, x) => (joinCap g x).map fun r => (g, r)
  let others := gs.filter fun (g : Fin 16) => !joining.any fun j => j.1 == g
  let left := total - (joining.map fun j => j.2).foldl (· + ·) 0
  let rest := others.zip (shares s left (others.map cap))
  let give (x : Nat) : Int := if neg then -(x : Int) else x
  let s := joining.foldl (fun (s : State) (j : Fin 16 × Nat) =>
    modPg j.1 (fun p => { p with ramp := some j.2 }) (pgSet j.1 o.spMv (give j.2) false s)) s
  rest.foldl (fun (s : State) (j : Fin 16 × Nat) =>
    modPg j.1 (fun p => { p with ramp := none }) (pgSet j.1 o.spMv (give j.2) false s)) s

/-- Groups of a move in its ramp-down or match phase (R222). -/
def moveSetpoints (m : Fin 4) (s : State) : State :=
  match s.pool.moves[m] with
  | none => s
  | some mv =>
    if s.frame < mv.start then s
    else match mv.phase with
      | .rampDown =>
        let r := pget s 0x1829 0
        mv.groups.foldl (fun (s : State) (g : Fin 16) =>
          let p := s.pool.groups[g]
          if p.valid then
            pgSet g p.spMv (if 0 ≤ p.spMa then max 0 (p.spMa - r) else min 0 (p.spMa + r)) false s
          else s) s
      | .match =>
        match mv.target with
        | none => s
        | some t =>
          let buses := mv.close.flatMap fun (x : Fin 8) => [x, x + 1]
          let joined := buses.filter fun (b : Fin 8) => !sameSegment (tieJoined s) b t
          let v := (s.pool.busV[t]).getD 0
          ((allFin 16).filter fun (g : Fin 16) => s.pool.groups[g].valid &&
              (mv.groups.contains g || match pgBus s g with
                | some b => joined.contains b && pgServes s g == some b
                | none => false)).foldl
            (fun (s : State) (g : Fin 16) => pgSet g v.toNat (pget s 0x182A 0) false s) s
      | _ => s

/-- Whether the device sets an outlet's groups: in device-driven mode, and in host-driven mode in the states the device
runs itself (R166, R219). -/
def poolDrives (s : State) (k : Fin 8) : Bool :=
  let st := s.outlets[k].st
  deviceDriven s k || st == .cableCheck || st == .precharge || st == .stopping || st == .weldCheck

/-- An outlet's groups to 0 mA at once (R185). -/
def poolZero (k : Fin 8) (s : State) : State :=
  (servingGroups s k).foldl (fun (s : State) (g : Fin 16) => pgSet g s.pool.groups[g].spMv 0 true s) s

/-- The setpoints of one frame (R216 to R219): idle groups at zero, shares, moves, then host-driven groups as they are. -/
def poolSlot (s : State) : State :=
  let s := (allFin 8).foldl (fun (s : State) (k : Fin 8) => if poolDrives s k && !s.sys.skips.contains (.setpoints k) then distribute k s else s) s
  let s := (allFin 4).foldl (fun (s : State) (m : Fin 4) => moveSetpoints m s) s
  let s := (allFin 16).foldl (fun (s : State) (g : Fin 16) =>
    if s.pool.groups[g].valid && !pgReaches s g && (moveOf s g).isNone then pgSet g 0 0 false s else s) s
  (allFin 16).foldl (fun (s : State) (g : Fin 16) => pgRefresh g s) s

/-- Counts at step 1 of each frame: deviation (R214), recovery (R215), match of moves (R222). -/
def poolCounts (s : State) : State :=
  let s := (allFin 16).foldl (fun (s : State) (g : Fin 16) =>
    match pgProfile s g with
    | none => s
    | some p =>
      let f := s.frame
      modPg g (fun x =>
        let fresh := match x.lastOk with
          | some l => decide (f < l + u16At p 36)
          | none => false
        { x with devRun := if x.valid && decide (x.spMa + profTolI p < x.f4) then x.devRun + 1 else 0
                 recovRun := if x.st == .failed && fresh && (x.f7 &&& u32At p 172) == 0 then x.recovRun + 1 else 0 }) s) s
  (allFin 4).foldl (fun (s : State) (m : Fin 4) =>
    match s.pool.moves[m] with
    | some mv =>
      if mv.phase = .match ∧ mv.start ≤ s.frame then
        let tol : Int := 1000 * (pget s 0x182B 0 : Int)
        let ok := mv.close.all fun (t : Fin 8) => match tieVolts s t with
          | some v => decide (v ≤ tol) && decide (-tol ≤ v)
          | none => false
        modPool (fun p => { p with moves := p.moves.set m (some { mv with matched := if ok then mv.matched + 1 else 0 }) }) s
      else s
    | none => s) s

/-- A segment's safe condition for a DC outlet's setpoints (R220): a serving group and no other outlet on the segment. -/
def busFree (s : State) (k : Fin 8) : Bool :=
  !(servingGroups s k).isEmpty &&
    (allFin 8).all fun (j : Fin 8) => j == k || !(sessOnBus s.outlets[j].st) || !sameSegment (tieJoined s) k j

/-! ### Moves (R221 to R224) -/

/-- The next phase of a move that has something to do, after the phase of a given rank; it begins at the next frame and
its transaction, if any, is committed for it (R222). Ranks: 1 A, 2 B, 3 C, 4 D, 5 E. -/
def moveEnter (m : Fin 4) (rank : Nat) (s : State) : State :=
  match s.pool.moves[m] with
  | none => s
  | some mv =>
    let next := frameAfter s.frame 1
    let put (ph : MovePhase) (s : State) : State :=
      modPool (fun p => { p with moves := p.moves.set m (some { mv with phase := ph, start := next, matched := 0, begun := true }) }) s
    let needsA := mv.groups.any fun (g : Fin 16) => s.pool.groups[g].spMa != 0 && pgServes s g != mv.target
    let needsB := !mv.opens.isEmpty || mv.groups.any fun (g : Fin 16) => pget s 0x1804 g != 0xFF && pgServes s g != mv.target
    if rank ≤ 1 ∧ needsA then put .rampDown s
    else if rank ≤ 2 ∧ needsB then
      buildTxn (.move m) (mv.opens.map (fun (t : Fin 8) => Action.tie t false) ++ mv.groups.map fun (g : Fin 16) => Action.param 0x1804 g 0xFF) next
        (put .tieOpen s)
    else match mv.target with
      | none => moveEnd m 1 0 s
      | some k =>
        if rank ≤ 3 ∧ ¬ mv.close.isEmpty then put .match s
        else if rank ≤ 4 then
          buildTxn (.move m) (mv.close.map (fun (t : Fin 8) => Action.tie t true) ++ mv.groups.map fun (g : Fin 16) => Action.param 0x1804 g k.val) next
            (put .tieClose s)
        else mv.groups.foldl (fun (s : State) (g : Fin 16) => modPg g (fun p => { p with ramp := some 0 }) s) (put .takeUp s)

/-- The ties of the paths of a move's groups to its target. -/
def movePaths (s : State) (gs : List (Fin 16)) (target : Fin 8) : List (Fin 8) :=
  (allFin 8).filter fun (t : Fin 8) => gs.any fun (g : Fin 16) => match pgBus s g with
    | some b => (tiePath b target).contains t
    | none => false

/-- The ties a move opens: needed by its groups before it, by no group after it (R221). -/
def moveOpens (s : State) (gs : List (Fin 16)) (target : Option (Fin 8)) : List (Fin 8) :=
  (allFin 8).filter fun (t : Fin 8) =>
    (gs.any fun (g : Fin 16) => (pgNeeds s g).contains t) && s.pool.ties[t].cmd
      && !(allFin 16).any fun (g : Fin 16) =>
        if gs.contains g then (match target, pgBus s g with
          | some k, some b => (tiePath b k).contains t
          | _, _ => false)
        else (pgProfile s g).isSome && (pgNeeds s g).contains t

/-- A fenced or retired domain among the objects of a move. -/
def moveFenced (s : State) (gs : List (Fin 16)) (path : List (Fin 8)) (target : Option (Fin 8)) : Bool :=
  (gs.any fun (g : Fin 16) => fencedDomain s (pgDomain s g)) || (path.any fun (t : Fin 8) => match tieOutlet s t with
    | some k => fencedDomain s k
    | none => false) || (match target with
    | some k => fencedDomain s k
    | none => false)

/-- POL_ASSIGN during frame N (R221, R223, R229). -/
def assignRules (outlet mask : Nat) (s : State) : Verdict :=
  if 8 ≤ outlet ∧ outlet ≠ 0xFF then no 0x1104
  else
    let target : Option (Fin 8) := if h : outlet < 8 then some ⟨outlet, h⟩ else none
    let gs := (allFin 16).filter fun (g : Fin 16) => mask / 2 ^ g.val % 2 = 1
    let path := match target with
      | some k => movePaths s gs k
      | none => []
    let opens := moveOpens s gs target
    let close := path.filter fun (t : Fin 8) => !s.pool.ties[t].cmd
    let touched := (match target with
        | some k => [k]
        | none => []) ++ gs.filterMap (fun (g : Fin 16) => pgServes s g) ++ gs.filterMap (fun (g : Fin 16) => pgBus s g)
    let joined (t : Fin 8) : Bool := (tieJoined s t && !opens.contains t) || path.contains t
    if gs.any fun (g : Fin 16) => s.pool.groups[g].st = .unconfigured ∨ s.pool.groups[g].st = .failed then no 0x1052
    else if (match target with
        | some k => !isDc s k
        | none => false) then no 0x1051
    else if touched.any fun (k : Fin 8) => !deviceDriven s k then no 0x1050
    else if path.any fun (t : Fin 8) => !tieUsable s t then no 0x1150
    else if (match target with
        | some k => (allFin 8).any fun (j : Fin 8) => j != k && sessOnBus s.outlets[j].st && sameSegment joined k j
        | none => false) then no 0x1151
    else if gs.any (fun (g : Fin 16) => (moveOf s g).isSome) || (allFin 4).any (fun (m : Fin 4) => match s.pool.moves[m] with
        | some mv => (path ++ opens).any fun (t : Fin 8) => mv.close.contains t || mv.opens.contains t
        | none => false) || (allFin 4).all (fun (m : Fin 4) => s.pool.moves[m].isSome) then no 0x2050
    else if moveFenced s gs path target then no 0x4001
    else if gs.isEmpty || (target.isNone && gs.all fun (g : Fin 16) => pget s 0x1804 g == 0xFF) then
      .accept 0x0001 (some [0, 0, 0, 0]) id
    else match (allFin 4).find? fun (m : Fin 4) => s.pool.moves[m].isNone with
      | none => no 0x2050
      | some m =>
        let bits (l : List (Fin 8)) : Byte := BitVec.ofNat 8 ((l.map fun (t : Fin 8) => 2 ^ t.val).foldl (· + ·) 0)
        let mv : Move := { target := target, groups := gs, old := gs.map fun (g : Fin 16) => pget s 0x1804 g, close := close,
                           opens := opens, phase := .rampDown, start := frameAfter s.frame 1 }
        .accept 0x0100 (some [BitVec.ofNat 8 (m.val + 1), 0, bits close, bits opens])
          (fun s => moveEnter m 1 (modPool (fun p => { p with moves := p.moves.set m (some mv) }) s))

/-- POL_ASSIGN (R229). -/
def execPolAssign (h : Hdr) (outlet mask : Nat) (s : State) : Outcome State Fault Refusal :=
  ans (hostCmd h 0x1800 (.polAssign h outlet mask) true true [] (assignRules outlet mask) s)

/-- MOVE_RAMP_DOWN_END (Table POL-5, phase A): every moved group's F4 is at most 1,000 mA. -/
def execMoveRampDownEnd (m : Fin 4) (s : State) : Outcome State Fault Refusal :=
  match s.pool.moves[m] with
  | some mv =>
    if mv.phase = .rampDown ∧ mv.begun ∧ mv.start ≤ s.frame ∧ mv.groups.all fun (g : Fin 16) => s.pool.groups[g].f4.natAbs ≤ 1000 then
      ans (moveEnter m 2 s)
    else ans s
  | none => ans s

/-- BUS_MATCH (phase C): every tie to be closed within POL.MOVE.VTOL in 8 consecutive frames; phase D is built. -/
def execBusMatch (m : Fin 4) (s : State) : Outcome State Fault Refusal :=
  match s.pool.moves[m] with
  | some mv => if mv.phase = .match ∧ 8 ≤ mv.matched then ans (moveEnter m 4 s) else ans s
  | none => ans s

/-- BUS_MATCH_TIMEOUT (R223, outcome 5). -/
def execBusMatchTimeout (m : Fin 4) (s : State) : Outcome State Fault Refusal :=
  match s.pool.moves[m] with
  | some mv =>
    if mv.phase = .match ∧ mv.start + pget s 0x182C 0 ≤ s.frame ∧ mv.matched < 8 then ans (moveEnd m 5 0 s) else ans s
  | none => ans s

/-- MOVE_TAKE_UP_END (phase E): every group carries its share (R223, outcome 1). -/
def execMoveTakeUpEnd (m : Fin 4) (s : State) : Outcome State Fault Refusal :=
  match s.pool.moves[m] with
  | some mv =>
    if mv.phase = .takeUp ∧ mv.start ≤ s.frame ∧ mv.groups.all fun (g : Fin 16) => s.pool.groups[g].ramp.isNone || !s.pool.groups[g].valid then
      ans (moveEnd m 1 0 s)
    else ans s
  | none => ans s

/-- Moves cancelled by a fence, a power fail or a service level (R223, outcome 6): those whose target or whose earlier
outlets satisfy a condition. -/
def cancelMoves (p : Fin 8 → Bool) (s : State) : State :=
  (allFin 4).foldl (fun (s : State) (m : Fin 4) =>
    match s.pool.moves[m] with
    | none => s
    | some mv =>
      let outs := (match mv.target with
        | some k => [k]
        | none => []) ++ (mv.groups.zip mv.old).filterMap (fun x =>
          if h : x.2 < 8 then some (⟨x.2, h⟩ : Fin 8) else pgBus s x.1)
      if outs.any p then moveEnd m 6 0 s else s) s

/-! ### Ties at fault (R225, R226) -/

/-- The groups whose path crosses a tie. -/
def tieGroups (s : State) (t : Fin 8) : List (Fin 16) :=
  (allFin 16).filter fun (g : Fin 16) => (pgProfile s g).isSome && (pgNeeds s g).contains t

/-- A tie found open while commanded closed outside a window (R225): for the next frame its commanded state becomes open
and the groups across it go home. -/
def tieDrop (t : Fin 8) (s : State) : State :=
  if runningFor s (.tieBack t) then s
  else buildTxn (.tieBack t) (.tie t false :: (tieGroups s t).map fun (g : Fin 16) => Action.param 0x1804 g 0xFF) (frameAfter s.frame 1) s

/-- POL_TIE_FAIL (R226): 1 close, 2 open. -/
def tieFail (t : Fin 8) (close : Bool) (s : State) : State :=
  let dom := tieDomain s t
  objFailure 2 t dom 0x56 (ev 0x56 dom 0 (t.val * 256 + (if close then 1 else 2)) s)

/-- POL_TIE_WELD (R226): the tie counts as closed and is retired (Table FLT-2). -/
def tieWeld (t : Fin 8) (s : State) : State :=
  if s.pool.ties[t].welded then s
  else
    let dom := tieDomain s t
    retireObj 2 t dom 0x57 1 1 [] (ev 0x57 dom 0 t (modTie t (fun x => { x with welded := true, openSince := none }) s))

/-- TIE_WELD_CLEARED: the feedback has been open for 8,000 F (R226). -/
def execTieWeldCleared (t : Fin 8) (s : State) : Outcome State Fault Refusal :=
  let x := s.pool.ties[t]
  match x.openSince with
  | some f => if x.welded ∧ f + 8000 ≤ s.frame then ans (modTie t (fun x => { x with welded := false }) s) else ans s
  | none => ans s

/-! ### Rows of ports and groups -/

/-- SETPOINT_FRAME_SEND: a group's frame leaves at the first of the moments of R206. -/
def execSetpointFrameSend (g : Fin 16) (s : State) : Outcome State Fault Refusal :=
  match pgProfile s g with
  | none => ans s
  | some p =>
    let x := s.pool.groups[g]
    let port : Fin 2 := if pget s 0x1801 g = 0 then 0 else 1
    let since := match x.lastSend with
      | some l => s.frame - l
      | none => 2 ^ 48
    if portOn s port ∧ (x.sendNow ∨ u16At p 22 ≤ since ∨ (x.changed ∧ pget s 0x1822 port ≤ since)) then
      let f := s.frame
      let s := if s.sys.vioLow then s else emit (.can port (pgSetId s g p) (setpointPayload p x.spMv x.spMa x.alive)) s
      ans (modPg g (fun x => { x with lastSend := some f, changed := false, sendNow := false, alive := x.alive + 1 }) s)
    else ans s

/-- POL_PG_LOST: ST_TMO frames without a status (R214). -/
def execPolPgLost (g : Fin 16) (s : State) : Outcome State Fault Refusal :=
  match pgProfile s g, s.pool.groups[g].lastOk with
  | some p, some l =>
    if s.pool.groups[g].valid ∧ l + u16At p 36 ≤ s.frame then ans (failGroup g 0x52 g s) else ans s
  | _, _ => ans s

/-- PG_DEVIATION_FAIL: F4 above the setpoint for POL.PG.DEV.T frames (R214). -/
def execPgDeviationFail (g : Fin 16) (s : State) : Outcome State Fault Refusal :=
  if s.pool.groups[g].valid ∧ pget s 0x182E 0 ≤ s.pool.groups[g].devRun then
    ans (failGroup g 0x51 (s.pool.groups[g].f7 % 2 ^ 24 * 256 + g.val) s)
  else ans s

/-- GROUP_RECOVERY (R215). -/
def execGroupRecovery (g : Fin 16) (s : State) : Outcome State Fault Refusal :=
  if s.pool.groups[g].st = .failed ∧ ¬ objRetired s 1 g ∧ pget s 0x182D 0 ≤ s.pool.groups[g].recovRun then
    ans (pgTo g (pgRun s g) (modPg g (fun x => { x with ramp := some 0 }) s))
  else ans s

/-- POL_CAN_BUSOFF: the port and every group on it fail (R208, R214). -/
def execPolCanBusoff (port : Fin 2) (tec rec : Nat) (s : State) : Outcome State Fault Refusal :=
  if ¬ portOn s port then ans s
  else
    let s := modPort port (fun x => { x with state := 3, tec := tec, rxErr := rec }) s
    let s := ev 0x53 12 0 port s
    ans ((allFin 16).foldl (fun (s : State) (g : Fin 16) =>
      if pget s 0x1801 g = port.val then failGroup g 0x51 (s.pool.groups[g].f7 % 2 ^ 24 * 256 + g.val) s else s) s)

/-- POL_CAN_RECOVER: error-active again (R208). -/
def execPolCanRecover (port : Fin 2) (s : State) : Outcome State Fault Refusal :=
  if s.pool.ports[port].state = 3 then
    ans (ev 0x54 12 0 port (modPort port (fun x => { x with state := 1, tec := 0, rxErr := 0 }) s))
  else ans s

/-- Error counts of a port stamped; 128 or more is error-passive (Table POL-8). -/
def stampPort (port : Fin 2) (tec rec : Nat) (s : State) : State :=
  if portOn s port then
    modPort port (fun x => { x with state := if 128 ≤ tec ∨ 128 ≤ rec then 2 else 1, tec := tec, rxErr := rec }) s
  else s

/-! ### Opcodes -/

/-- POL_STATUS (R230). -/
def execPolStatus (h : Hdr) (s : State) : Outcome State Fault Refusal :=
  ans (hostCmd h 0x1801 (.polStatus h) true true [] (fun _ => done) s)

/-- The POL_STATUS result (Table POL-8). -/
def polStatusResult (s : State) : List Byte :=
  ((allFin 16).flatMap fun (g : Fin 16) =>
    let x := s.pool.groups[g]
    let ex := match pgProfile s g with
      | some p => decide (s32At p 52 < 0)
      | none => false
    leBytes 1 (pgCode x.st) ++ leBytes 1 (match pgServes s g with
      | some k => k.val
      | none => 0xFF)
      ++ leBytes 1 (match moveOf s g with
        | some m => m.val + 1
        | none => 0)
      ++ leBytes 1 ((if x.st = .derated then 128 else 0) + (if x.hostSp then 64 else 0) + (if ex then 32 else 0))
      ++ leInt 4 x.f3 ++ leInt 4 x.f4)
  ++ ((allFin 8).flatMap fun (t : Fin 8) =>
    let x := s.pool.ties[t]
    let bad := (tieVolts s t).isNone || s.pool.tieI[t].isNone
    boolByte x.cmd :: boolByte x.fb :: (leBytes 1 ((if x.welded then 128 else 0) + (if bad then 64 else 0)) ++ [0]
      ++ leInt 2 (((tieVolts s t).getD 0) / 100) ++ leInt 2 ((s.pool.tieI[t].getD 0) / 100)))
  ++ ((allFin 8).flatMap fun (b : Fin 8) => match s.pool.busV[b] with
    | some v => leInt 4 v
    | none => leBytes 4 0x7FFFFFFF)
  ++ ((allFin 2).flatMap fun p =>
    let x := s.pool.ports[p]
    leBytes 1 x.state ++ leSat 1 x.tec ++ leSat 1 x.rxErr ++ [0] ++ leSat 4 x.unmatched)

/-- POL_PROFILE_INFO (R229). -/
def execPolProfileInfo (h : Hdr) (slot : Nat) (s : State) : Outcome State Fault Refusal :=
  ans (hostCmd h 0x1802 (.polProfileInfo h slot) true true [] (fun _ => if 4 ≤ slot then no 0x1104 else done) s)

/-- The POL_PROFILE_INFO result. -/
def profileInfoResult (slot : Nat) (s : State) : List Byte :=
  let mask := bitmap 16 fun g => pget s 0x1802 g == slot
  match (vget? s.pool.profiles slot).getD none with
  | some p => [1, 0, 0, 0] ++ fit 16 (p.drop 4) ++ fit 4 (p.drop 252) ++ leBytes 2 mask ++ [0, 0]
  | none => [0, 0, 0, 0] ++ List.replicate 20 0 ++ leBytes 2 mask ++ [0, 0]

/-- Chunks with one written, an earlier one at its offset replaced. -/
def putChunk (off : Nat) (data : List Byte) (c : Chunks) : Chunks :=
  { got := (off, data) :: c.got.filter fun x => x.1 != off }

/-- The image the chunks make up, by their offsets in order. -/
def chunkImage (offs : List Nat) (c : Chunks) : Option (List Byte) :=
  if offs.all fun o => c.got.any fun x => x.1 == o then
    some (offs.flatMap fun o => match c.got.find? fun x => x.1 == o with
      | some x => x.2
      | none => [])
  else none

/-- The chunk offsets of a module profile (R209). -/
def profileOffsets : List Nat := [0, 64, 128, 192]

/-- Whether a profile slot is in use (R209). -/
def profileBusy (s : State) (slot : Nat) : Bool :=
  (allFin 16).any fun (g : Fin 16) => pget s 0x1802 g == slot && (s.pool.groups[g].spMv != 0 || s.pool.groups[g].spMa != 0
    || match pgServes s g with
      | some k => s.outlets[k].st != .unavailable && s.outlets[k].st != .idle
      | none => false)

/-- POL_PROFILE_LOAD_X during frame N (R209). -/
def profileLoadRules (slot offset : Nat) (data : List Byte) (s : State) : Verdict :=
  if hs : slot < 4 then
    if ¬ profileOffsets.contains offset then no 0x1101
    else if profileBusy s slot then no 0x1053
    else
      let set (c : Chunks) (s : State) : State := modPool (fun p => { p with loads := p.loads.set slot c }) s
      let c := putChunk offset data s.pool.loads[slot]
      match chunkImage profileOffsets c with
      | some img => if profileOk img then .accept 0 none (set c) else .reject 0x1154 [] (set {})
      | none => .accept 0 none (set c)
  else no 0x1104

/-- POL_PROFILE_LOAD_X (R229). -/
def execPolProfileLoadX (h : Hdr) (slot offset : Nat) (data : List Byte) (s : State) : Outcome State Fault Refusal :=
  ans (hostCmd h 0x1880 (.polProfileLoadX h slot offset data) (data.length = 64) true [] (profileLoadRules slot offset data) s)

/-- A complete profile replaces its slot at step 6 (R209). -/
def applyProfileLoad (slot : Nat) (s : State) : State :=
  if hs : slot < 4 then
    match chunkImage profileOffsets s.pool.loads[slot] with
    | some img =>
      ev 0x5B 12 0 slot (modPool (fun p => { p with profiles := p.profiles.set slot (some img), loads := p.loads.set slot {} }) s)
    | none => s
  else s

/-- POL_PG_CLEAR_X (R215, R229). -/
def execPolPgClearX (h : Hdr) (group reason : Nat) (s : State) : Outcome State Fault Refusal :=
  ans (hostCmd h 0x1881 (.polPgClearX h group reason) true true []
    (fun s => if 16 ≤ group then no 0x1104 else if objRetired s 1 group then done else no 0x1001) s)

/-- A retired group returned: ABSENT until its next valid status (R215). -/
def returnGroup (g : Fin 16) (reason : List Byte) (s : State) : State :=
  let s := returnObj 1 g (pgDomain s g) reason s
  if (pgProfile s g).isSome then
    pgTo g .absent (modPg g (fun p => { p with recovRun := 0, devRun := 0, lastOk := none, sendNow := true }) s)
  else s

/-- POL_PG_CLEAR_X takes effect. -/
def applyPgClear (group reason : Nat) (s : State) : State :=
  if hg : group < 16 then returnGroup ⟨group, hg⟩ [BitVec.ofNat 8 reason] s else s

end Sys2Proof.Machine
end

