-- ==== Sys2Proof/Machine/Garnet.lean ====
section
/-! DEFINITION. Garnet (chapter 11): safe inputs, safe outputs and feedback, grants, stops and permits, pilot supervision,
connection devices and the brake test, latches and resets, the configuration procedure, and the safety opcodes. -/

namespace Sys2Proof.Machine

open Host

/-- Garnet's state changed. -/
def modGar (f : GarnetSt → GarnetSt) (s : State) : State := { s with garnet := f s.garnet }

/-- A safe input changed. -/
def modSi (i : Fin 16) (f : SafeIn → SafeIn) (s : State) : State := modGar (fun g => { g with inputs := upd g.inputs i f }) s

/-- A safe output changed. -/
def modSo (o : Fin 32) (f : SafeOut → SafeOut) (s : State) : State := modGar (fun g => { g with outs := upd g.outs o f }) s

/-- A connection device changed. -/
def modCd (c : Fin 2) (f : CdSt → CdSt) (s : State) : State := modGar (fun g => { g with cds := upd g.cds c f }) s

/-- An event queued at step 8 of the next frame, in which its cause takes effect (R390, R412). -/
def evNext (id dom detail arg : Nat) (s : State) : State :=
  modGar (fun g => { g with evNext := g.evNext ++ [(id, dom, detail, arg)] }) s

/-- The safe outputs of outlet k (Table OUT-2). -/
def soMain1 (k : Fin 8) : Fin 32 := ⟨2 * k.val, by omega⟩
def soMain2 (k : Fin 8) : Fin 32 := ⟨2 * k.val + 1, by omega⟩
def soPre (k : Fin 8) : Fin 32 := ⟨16 + k.val, by omega⟩
/-- The safe output of a tie (Table POL-1). -/
def soTie (t : Fin 8) : Fin 32 := ⟨24 + t.val, by omega⟩
/-- The three safe outputs of an outlet. -/
def soOutlet (k : Fin 8) : List (Fin 32) := [soMain1 k, soMain2 k, soPre k]

/-- The outlet an output belongs to (Table OUT-2), or none for a tie. -/
def soOwner (o : Nat) : Option (Fin 8) :=
  if h : o < 16 then some ⟨o / 2, by omega⟩ else if h : o < 24 then some ⟨o - 16, by omega⟩ else none

/-- The tie an output switches (Table POL-1). -/
def soIsTie (o : Nat) : Option (Fin 8) := if h : 24 ≤ o ∧ o < 32 then some ⟨o - 24, by omega⟩ else none

/-- The domain of an output's events (R412): outlet k, a tie's outlet under R30; 14 for a tie that carries no power. -/
def soDomain (s : State) (o : Nat) : Nat := match soOwner o, soIsTie o with
  | some k, _ => k
  | none, some t => (match tieOutlet s t with
    | some k => k
    | none => 14)
  | none, none => 14

/-- The outlet a connection device serves (R394). -/
def cdOutlet (s : State) (c : Nat) : Option (Fin 8) :=
  let v := pget s 0x4018 c
  if h : v < 8 then some ⟨v, h⟩ else none

/-- The domain of a connection device. -/
def cdDomain (s : State) (c : Nat) : Nat := match cdOutlet s c with
  | some k => k
  | none => 14

/-! ### Safe inputs (R378 to R383) -/

/-- Whether a channel's level means demand (R379): low; high on channel B in antivalent mode. -/
def levelDemand (s : State) (i : Fin 16) (b level : Bool) : Bool :=
  if b && pget s 0x4001 i == 1 then level else !level

/-- A channel's filter. -/
def SafeIn.chan (x : SafeIn) (b : Bool) : Filt := if b then x.b else x.a

/-- Whether a channel's change has been stamped long enough to be accepted (R380). -/
def filtReady (f : Filt) (n : Nat) : Bool := decide (n + 1 ≤ f.run)

/-- The level a channel has once a change due in this frame is accepted. -/
def filtNow (f : Filt) (n : Nat) : Bool := if filtReady f n then f.stamp else f.accepted

/-- Whether an input is in demand, or not permitting, or not pressed: either channel, or a fault (R378, R379, R383). -/
def siDemand (s : State) (i : Fin 16) : Bool :=
  let x := s.garnet.inputs[i]
  x.faulted || levelDemand s i false x.a.accepted || levelDemand s i true x.b.accepted

/-- As siDemand, with the changes due in this frame accepted (Table SAF-11). -/
def siDemandNow (s : State) (i : Fin 16) : Bool :=
  let x := s.garnet.inputs[i]
  let n := pget s 0x4003 i
  x.faulted || levelDemand s i false (filtNow x.a n) || levelDemand s i true (filtNow x.b n)

/-- A filter that takes a stamp (R380). -/
def filtStamp (f : Filt) (level : Bool) : Filt :=
  { f with stamp := level, run := if level = f.accepted then 0 else if level = f.stamp then f.run + 1 else 1 }

/-- A filter that accepts its stamp. -/
def filtAccept (f : Filt) (frame : Nat) : Filt := { f with accepted := f.stamp, run := 0, since := frame }

/-- The scope bit of an object (R378): outlets 0 to 7, CD0 and CD1 in 8 and 9, ties in 10. Objects: 0 to 31 SOn, 32 and 33
the connection devices. -/
def scopeBit (obj : Nat) : Nat := match soOwner obj with
  | some k => k
  | none => if obj < 32 then 10 else 8 + (obj - 32)

/-- Whether an input's scope covers an object. -/
def inScope (s : State) (i : Fin 16) (obj : Nat) : Bool := pget s 0x4005 i / 2 ^ scopeBit obj % 2 == 1

/-! ### Grants (R389, Table SAF-5) -/

/-- Whether an input of a function holds an object off by its demand or a latch. -/
def siBlocks (s : State) (i : Fin 16) (func obj : Nat) : Bool :=
  pget s 0x4000 i == func && inScope s i obj
    && (siDemand s i || s.garnet.inputs[i].faultLatch || (func != 4 && s.garnet.inputs[i].latch))

/-- Whether an RDC-DD channel is active (R346). -/
def rdcActive (s : State) (k : Fin 8) : Bool := isAc s k && pget s 0x4040 0 / 2 ^ k.val % 2 == 1

/-- Whether the outlet's pilot class permits a grant (Table SAF-5, cause 7). -/
def classPermits (s : State) (k : Fin 8) : Bool :=
  let x := s.garnet.pilots[k].cls
  x == .c || (x == .d && isAc s k && pbool s 0x1016 k)

/-- The conditions of Table SAF-5 on an object, each with its cause and whether it fails; `atGrant` takes in the
conditions of the grant only, causes 7 and 13. -/
def grantFails (s : State) (atGrant : Bool) (obj : Nat) : List (Nat × Bool) :=
  let g := s.garnet
  let ins := allFin 16
  let cd := decide (32 ≤ obj)
  let own := soOwner obj
  let main := decide (obj < 16)
  let outs : List (Fin 32) := match own, soIsTie obj with
    | some k, _ => soOutlet k
    | none, some t => [soTie t]
    | none, none => []
  [(1, g.st != .run),
   (2, g.partner || g.tickDev),
   (3, ins.any fun (i : Fin 16) => siBlocks s i 1 obj),
   (4, ins.any fun (i : Fin 16) => siBlocks s i 2 obj),
   (5, ins.any fun (i : Fin 16) => siBlocks s i 4 obj),
   (6, (match vget? g.outs obj with
      | some o => o.fault.isSome
      | none => (g.cdFault[if obj = 32 then (0 : Fin 4) else 2]).isSome || (g.cdFault[if obj = 32 then (1 : Fin 4) else 3]).isSome)
      || outs.any fun (o : Fin 32) => g.outs[o].contact),
   (7, atGrant && (match own with
      | some k => !classPermits s k
      | none => false)),
   (8, main && (match own with
      | some k => rdcActive s k && (s.efi.rdc[k].tripped.isSome || s.efi.rdc[k].fault || !s.efi.rdc[k].passed)
      | none => false)),
   (9, match own with
      | some k => isDc s k && (s.efi.imd[k].tripped || s.efi.imd[k].coupling)
      | none => false),
   (10, match own with
      | some k => s.efi.pe[k].failed
      | none => false),
   (11, if cd then (cdOutlet s (obj - 32)).isNone
      else pget s 0x4008 0 / 2 ^ obj % 2 == 0 || (decide (16 ≤ obj) && (match own with
        | some k => !isDc s k
        | none => false))),
   (12, cd && ((vget? g.cds (obj - 32)).any fun c => c.due || c.failed)),
   (13, atGrant && powerFailed s)]

/-- The lowest cause that fails, 0 when the object is grantable (R389). -/
def grantCause (s : State) (obj : Nat) : Nat := match (grantFails s true obj).find? fun x => x.2 with
  | some x => x.1
  | none => 0

/-- The cause that ends a standing grant, 0 when none does. -/
def standCause (s : State) (obj : Nat) : Nat := match (grantFails s false obj).find? fun x => x.2 with
  | some x => x.1
  | none => 0

/-- An output driven on by a grant at step 2. -/
def soOn (o : Fin 32) (s : State) : State := modSo o (fun x => { x with granted := true, driven := true, offAt := none }) s

/-- An output driven off at step 2; the frame of a change is kept for R388. -/
def soOff (o : Fin 32) (s : State) : State :=
  let f := s.frame
  modSo o (fun x => { x with granted := false, driven := false, offAt := if x.driven then some f else x.offAt }) s

/-- A grant removed: the output goes off at step 2 of the next edge. -/
def ungrant (o : Fin 32) (s : State) : State := modSo o (fun x => { x with granted := false }) s

/-- Whether an outlet holds a grant. -/
def holdsGrant (s : State) (k : Fin 8) : Bool := (soOutlet k).any fun (o : Fin 32) => s.garnet.outs[o].granted

/-- A Garnet trip that the session acts on, by the frame of its stamp (R164). -/
def tripOutlet (k : Fin 8) (s : State) : State :=
  let f := s.frame
  modGar (fun g => { g with trips := g.trips.set k (some f) }) s

/-! ### Connection devices (R394 to R396) -/

/-- The code of a connection-device state (Table SAF-6). -/
def cdCode (x : CdState) : Nat := match x with
  | .unused => 0
  | .stopped => 1
  | .enabling => 2
  | .enabled => 3
  | .ss1 => 4
  | .brakeTest => 5
  | .faulted => 6

/-- A connection device enters a state; SAF_CD_STATE when it is another. -/
def cdTo (c : Fin 2) (st : CdState) (s : State) : State :=
  if s.garnet.cds[c].st = st then s
  else ev 0xA6 (cdDomain s c) 0 (c.val * 256 + cdCode st) (modCd c (fun x => { x with st := st }) s)

/-- A state to enter at step 2 of the next edge. -/
def cdNext (c : Fin 2) (st : CdState) (s : State) : State :=
  let f := frameAfter s.frame 1
  modCd c (fun x => { x with next := some (st, f) }) s

/-- A stop under the device's category (R396): category 1 runs SS1 from Enabled, at most until `limit`. -/
def cdStop (c : Fin 2) (limit : Option Nat) (s : State) : State :=
  let x := s.garnet.cds[c]
  if x.st = .enabled ∧ pget s 0x4019 c = 1 then
    let e := frameAfter s.frame (1 + pget s 0x401A c)
    let e := match limit with
      | some l => min e l
      | none => e
    cdNext c .ss1 (modCd c (fun x => { x with ss1End := some e, brkAt := none }) s)
  else if x.st = .enabling ∨ x.st = .enabled ∨ x.st = .brakeTest then
    let s := modCd c (fun x => { x with brkAt := none, test := x.test.map fun t => { t with result := t.result.orElse fun _ => some 3 } }) s
    cdNext c .stopped s
  else match limit with
    | some l => modCd c (fun x => { x with ss1End := x.ss1End.map fun e => min e l }) s
    | none => s

/-- The devices stopped whose scope bit an input covers. -/
def cdStopScope (i : Fin 16) (s : State) : State :=
  (allFin 2).foldl (fun (s : State) (c : Fin 2) => if inScope s i (32 + c.val) then cdStop c none s else s) s

/-- Every device stopped (R396). -/
def cdStopAll (limit : Option Nat) (s : State) : State :=
  (allFin 2).foldl (fun (s : State) (c : Fin 2) => cdStop c limit s) s

/-- A device's outputs after a fault: Faulted at the next edge (R396). -/
def cdFaulted (c : Fin 2) (s : State) : State :=
  if s.garnet.cds[c].st = .unused then s
  else cdNext c .faulted (modCd c (fun x => { x with brkAt := none, ss1End := none, test := none }) s)

/-! ### Latches and resets (R400 to R402) -/

/-- The latches cleared by a reset on the stamps of this frame (Table SAF-7). `sel` says which bits of Table SAF-13 the
reset may clear. -/
def clearLatches (sel : Nat → Bool) (s : State) : State :=
  let f := s.frame
  let s := (allFin 16).foldl (fun (s : State) (i : Fin 16) =>
    let func := pget s 0x4000 i
    let free := !siDemandNow s i
    modSi i (fun x =>
      { x with latch := if x.latch && free && ((func == 1 && sel 15) || (func == 2 && sel 14)) then false else x.latch
               faultLatch := if x.faultLatch && !x.faulted && sel 13 then false else x.faultLatch }) s) s
  let s := (allFin 32).foldl (fun (s : State) (o : Fin 32) =>
    modSo o (fun x =>
      { x with fault := if x.testOk && sel 12 then none else x.fault
               contact := if x.contact && !x.fb.accepted && decide (x.fb.since + 8000 ≤ f) && sel 11 then false else x.contact }) s) s
  let s := (allFin 4).foldl (fun (s : State) (o : Fin 4) =>
    if sel 12 && s.garnet.cdTestOk[o] then modGar (fun g => { g with cdFault := g.cdFault.set o none }) s else s) s
  let s := modGar (fun g =>
    { g with partner := if sel 10 && decide (800 ≤ g.partnerOk) then false else g.partner
             tickDev := if sel 9 && decide (8000 ≤ g.tickOk) then false else g.tickDev }) s
  (allFin 2).foldl (fun (s : State) (c : Fin 2) =>
    if s.garnet.cds[c].st = .faulted ∧ (grantFails s false (32 + c.val)).all fun x => x.1 != 6 || !x.2 then cdNext c .stopped s
    else s) s

/-- The latch bits two states differ in. -/
def latchesCleared (before after : State) : Nat := latchWord before - (latchWord before &&& latchWord after)

/-- The latch bits that SAF_RESET's mask bits stand for (Table SAF-7). -/
def maskBits (mask bit : Nat) : Bool :=
  let on (i : Nat) : Bool := mask / 2 ^ i % 2 == 1
  (bit == 10 && on 0) || (bit == 9 && on 1) || (bit == 12 && on 2) || (bit == 13 && on 3) || (bit == 11 && on 4)
    || (bit == 14 && on 5)

/-- A reset input accepted as pressed or released (R401): an edge at the release of a press of 400 to 24,000 frames. -/
def resetInput (i : Fin 16) (s : State) : State :=
  let f := s.frame
  let pressed := !siDemand s i
  match s.garnet.inputs[i].pressed with
  | none => if pressed then modSi i (fun x => { x with pressed := some f }) s else s
  | some p =>
    if pressed then s
    else
      let s := modSi i (fun x => { x with pressed := none }) s
      let d := f - p
      if d < 400 then ev 0xA1 14 0 (i.val * 256 + 3) s
      else if 24000 < d then ev 0xA1 14 0 (i.val * 256 + 4) s
      else
        let t := clearLatches (fun _ => true) s
        let bits := latchesCleared s t
        ev 0xA1 14 bits (i.val * 256 + (if bits = 0 ∧ latchWord s ≠ 0 then 2 else 1)) t

/-! ### What an input's demand does (R390, R391) -/

/-- The outlets in an input's scope. -/
def scopeOutlets (s : State) (i : Fin 16) : List (Fin 8) := (allFin 8).filter fun (k : Fin 8) => inScope s i (2 * k.val)

/-- A demand that has come or gone (R390, R391, Table SAF-3). -/
def demandChange (i : Fin 16) (s : State) : State :=
  let now := siDemand s i
  let was := s.garnet.inputs[i].demand
  let func := pget s 0x4000 i
  let s := modSi i (fun x => { x with demand := now }) s
  if func = 3 then resetInput i s
  else if func = 0 ∨ now = was then s
  else if now then
    let s := if func = 4 then s else modSi i (fun x => { x with latch := true }) s
    let s := (scopeOutlets s i).foldl (fun (s : State) (k : Fin 8) =>
      if func ≠ 4 ∨ holdsGrant s k then tripOutlet k s else s) s
    evNext 0xA0 14 0 (func * 65536 + i.val * 256 + 1) (cdStopScope i s)
  else ev 0xA0 14 0 (func * 65536 + i.val * 256 + 2) s

/-- An input faulted (R383): 1 discrepancy, 2 or 3 a pulse missing on A or B. -/
def siFault (i : Fin 16) (how : Nat) (s : State) : State :=
  if s.garnet.inputs[i].faulted then s
  else
    let s := modSi i (fun x => { x with faulted := true, faultLatch := true, sawBoth := false, discBy := none }) s
    demandChange i (ev 0xA2 14 0 (i.val * 256 + how) s)

/-- A fault that ends: both channels in demand together, then both out of it, with their test pulses present (R383). -/
def siHeal (i : Fin 16) (s : State) : State :=
  let x := s.garnet.inputs[i]
  if ¬ x.faulted then s
  else
    let da := levelDemand s i false x.a.accepted
    let db := levelDemand s i true x.b.accepted
    if da ∧ db then modSi i (fun x => { x with sawBoth := true }) s
    else if ¬ da ∧ ¬ db ∧ x.sawBoth ∧ x.missA = 0 ∧ x.missB = 0 then
      modSi i (fun x => { x with faulted := false, sawBoth := false }) s
    else s

/-- The discrepancy time runs while the channels disagree (R381). -/
def siCompare (i : Fin 16) (s : State) : State :=
  let x := s.garnet.inputs[i]
  let d := levelDemand s i false x.a.accepted != levelDemand s i true x.b.accepted
  let by_ := frameAfter s.frame (pget s 0x4004 i)
  modSi i (fun x => { x with discBy := if d then (x.discBy.orElse fun _ => some by_) else none }) s

/-- SAFE_INPUT_ACCEPTED: a channel's change has been stamped for SAF.SI.FILT frames (R380). -/
def execSafeInputAccepted (i : Fin 16) (b : Bool) (s : State) : Outcome State Fault Refusal :=
  let x := s.garnet.inputs[i]
  if filtReady (x.chan b) (pget s 0x4003 i) then
    let f := s.frame
    let s := modSi i (fun x => if b then { x with b := filtAccept x.b f } else { x with a := filtAccept x.a f }) s
    ans (demandChange i (siHeal i (siCompare i s)))
  else ans s

/-- SAFE_INPUT_DISCREPANCY: the other channel has not followed by SAF.SI.DISC (R381). -/
def execSafeInputDiscrepancy (i : Fin 16) (s : State) : Outcome State Fault Refusal :=
  let x := s.garnet.inputs[i]
  if expired x.discBy s.frame ∧ pget s 0x4000 i ≠ 0 then ans (siFault i 1 s) else ans s

/-- TEST_PULSE_MISSING: no low in three consecutive pulses (R382). -/
def execTestPulseMissing (i : Fin 16) (b : Bool) (s : State) : Outcome State Fault Refusal :=
  let x := s.garnet.inputs[i]
  if 3 ≤ (if b then x.missB else x.missA) ∧ pget s 0x4000 i ≠ 0 then ans (siFault i (if b then 3 else 2) s) else ans s

/-! ### Outputs and feedback (R384 to R388) -/

/-- An output fault (R386): held off and latched; on a tie, kinds 1, 2 and 5 retire the tie (Table FLT-2). -/
def soFault (o : Fin 32) (kind : Nat) (s : State) : State :=
  let s := ungrant o (modSo o (fun x => { x with fault := some kind, testOk := false }) s)
  let s := ev 0xA3 (soDomain s o) 0 (o.val * 256 + kind) s
  match soIsTie o with
  | some t => if kind = 1 ∨ kind = 2 ∨ kind = 5 then retireObj 2 t (tieDomain s t) 0xA3 1 1 [] s else s
  | none => s

/-- OUTPUT_TEST: a test of output 0 to 31 SOn, 32 to 35 the STO and SBC outputs of the connection devices; kind 0 is a
pass, 1 to 5 the finding of Table SAF-4 (R385, R386). A test of an output that step 2 has just driven off is discarded. -/
def execOutputTest (out : Fin 36) (kind : Nat) (s : State) : Outcome State Fault Refusal :=
  if s.garnet.st ≠ .run ∨ 5 < kind then ans s
  else if h : out.val < 32 then
    let o : Fin 32 := ⟨out.val, h⟩
    let x := s.garnet.outs[o]
    if pget s 0x4008 0 / 2 ^ o.val % 2 = 0 ∨ s.frame < x.testNext ∨ x.offAt = some s.frame then ans s
    else
      let n := frameAfter s.frame (pget s 0x4009 o)
      let s := modSo o (fun x => { x with testNext := n }) s
      if kind = 0 then ans (modSo o (fun x => { x with testOk := true }) s)
      else ans (soFault o kind s)
  else
    let d : Fin 4 := ⟨out.val - 32, by omega⟩
    let c : Fin 2 := ⟨d.val / 2, by omega⟩
    if (cdOutlet s c).isNone then ans s
    else if kind = 0 then ans (modGar (fun g => { g with cdTestOk := g.cdTestOk.set d true }) s)
    else
      let s := modGar (fun g => { g with cdFault := g.cdFault.set d (some kind), cdTestOk := g.cdTestOk.set d false }) s
      ans (cdFaulted c (ev 0xA3 (cdDomain s c) 0 (out.val * 256 + kind) s))

/-- SO_OVERCURRENT: above 0.8 A for 1 ms (R386, kind 4). -/
def execSoOvercurrent (so : Fin 32) (s : State) : Outcome State Fault Refusal :=
  if s.garnet.outs[so].driven then ans (soFault so 4 s) else ans s

/-- Whether a contactor's feedback is accepted closed (R387). -/
def fbClosed (s : State) (o : Fin 32) : Bool := s.garnet.outs[o].fb.accepted

/-- A feedback change that has been stamped for SAF.FB.FILT frames accepted (R387). -/
def acceptFeedback (o : Fin 32) (s : State) : State :=
  let f := s.frame
  let s := if filtReady s.garnet.outs[o].fb (pget s 0x400B 0) then modSo o (fun x => { x with fb := filtAccept x.fb f }) s else s
  match soIsTie o with
  | some t =>
    let c := fbClosed s o
    modTie t (fun x => { x with fb := c, openSince := if c then none else (x.openSince.orElse fun _ => some f) }) s
  | none => s

/-- The contact fault of R388: closed at, or later than, SAF.FB.WELD.T frames after the output was driven off. -/
def contactFault (o : Fin 32) (s : State) : State :=
  let x := s.garnet.outs[o]
  match x.offAt with
  | some f =>
    if x.fb.accepted ∧ ¬ x.driven ∧ ¬ x.contact ∧ f + pget s 0x400C 0 ≤ s.frame then
      ev 0xA4 (soDomain s o) 0 (o.val * 256 + 1) (modSo o (fun x => { x with contact := true }) s)
    else s
  | none => s

/-! ### Island (R13, R17, R377, R405) -/

/-- GARNET_STOP: every output off until the next module reset (R377). -/
def execGarnetStop (cause : Nat) (s : State) : Outcome State Fault Refusal :=
  if s.garnet.st = .stop then ans s
  else
    let s := modGar (fun g => { g with st := .stop }) s
    let s := (allFin 32).foldl (fun (s : State) (o : Fin 32) => soOff o s) s
    let s := (allFin 2).foldl (fun (s : State) (c : Fin 2) =>
      if s.garnet.cds[c].st = .unused then s
      else cdTo c .stopped (modCd c (fun x => { x with next := none, brkAt := none, ss1End := none, test := none }) s)) s
    ans (ev 0xAA 14 0 cause s)

/-- SYS_PARTNER_LOST: Onyx's health word, or the heartbeat when `beat`, missing for 16 consecutive frames (R13). -/
def execSysPartnerLost (beat : Bool) (s : State) : Outcome State Fault Refusal :=
  let missing := if beat then s.sys.beatMissing else s.sys.onyxMissing
  if missing = 16 then
    let s := modGar (fun g => { g with partner := true, partnerOk := 0 }) s
    let s : State := { s with sys := { s.sys with partnerLost := true } }
    ans (cdStopAll none (if beat && s.sys.service == .bringUp then s else ev 0x03 12 0 (if beat then 2 else 1) s))
  else ans s

/-- A frame length that deviates by more than 1 % (R17, SYS_TICK_DEV). -/
def tickCheck (cycles : Nat) (s : State) : State :=
  if cycles < 12375 ∨ 12625 < cycles then
    let s := modGar (fun g => { g with tickDev := true, tickOk := 0 }) s
    cdStopAll none (ev 0x04 12 0 0 { s with sys := { s.sys with tickDev := true } })
  else modGar (fun g => { g with tickOk := g.tickOk + 1 }) s

/-- The running signature (R407): CRC-32 over every Garnet-sealed value. -/
def garnetSig (get : Nat → Nat → Nat) : Nat :=
  (crc32 (params40.flatMap fun p => if p.cls = 2 then (List.range p.insts).flatMap fun i => leBytes p.len (get p.id i) else [])).toNat

/-- Garnet up (R405): levels accepted as they are stamped (`fb` the levels of the feedback pads), devices stopped, brake tests due. -/
def garnetStart (fb : List Bool) (s : State) : State :=
  let f := s.frame
  let s := modGar (fun g => { g with st := .run, partner := false, tickDev := false, partnerOk := 0, tickOk := 0 }) s
  let s := (allFin 16).foldl (fun (s : State) (i : Fin 16) =>
    let s := modSi i (fun x => { x with a := filtAccept x.a f, b := filtAccept x.b f, discBy := none, pressed := none }) s
    let d := siDemand s i
    let func := pget s 0x4000 i
    modSi i (fun x => { x with demand := d, latch := x.latch || (d && func == 1) }) (siCompare i s)) s
  let s := (allFin 32).foldl (fun (s : State) (o : Fin 32) =>
    let c := match fb[o.val]? with
      | some high => if pbool s 0x400A o then !high else high
      | none => s.garnet.outs[o].fb.stamp
    let s := modSo o (fun x => { x with fb := { stamp := c, accepted := c, since := f }, offAt := none }) s
    let s := acceptFeedback o s
    if c ∧ pget s 0x4008 0 / 2 ^ o.val % 2 = 1 ∧ ¬ s.garnet.outs[o].contact then
      ev 0xA4 (soDomain s o) 0 (o.val * 256 + 2) (modSo o (fun x => { x with contact := true }) s)
    else s) s
  let s := (allFin 2).foldl (fun (s : State) (c : Fin 2) =>
    let used := (cdOutlet s c).isSome
    let s := modCd c (fun x => { st := if used then .stopped else .unused, failed := x.failed }) s
    if used then ev 0xA8 (cdDomain s c) 0 c s else s) s
  if s.garnet.newCfg then
    ev 0xA9 14 3 (garnetSig (pget s)) (modGar (fun g => { g with newCfg := false }) s)
  else s

/-! ### Edge work -/

/-- The stamps of a safe input. -/
def stampSi (i : Fin 16) (a b : Bool) (s : State) : State :=
  modSi i (fun x => { x with a := filtStamp x.a a, b := filtStamp x.b b }) s

/-- The stamp of a feedback input (R387): closed or open by SAF.FB.POL. -/
def stampFb (o : Fin 32) (high : Bool) (s : State) : State :=
  let closed := if pbool s 0x400A o then !high else high
  modSo o (fun x => { x with fb := filtStamp x.fb closed }) s

/-- The test-pulse samples of the frame that has ended (R382). -/
def stampPulses (frameEnded : Nat) (high : List (Fin 16 × Bool)) (s : State) : State :=
  (allFin 16).foldl (fun (s : State) (i : Fin 16) =>
    let src := leBytes 2 (pget s 0x4002 i)
    let used (b : Bool) : Bool := u8At src (if b then 1 else 0) == frameEnded % 8
    let next (b : Bool) (n : Nat) : Nat := if used b then (if high.contains (i, b) then n + 1 else 0) else n
    modSi i (fun x => { x with missA := next false x.missA, missB := next true x.missB }) s) s

/-- Garnet's class of a pilot (R392): from its own comparator, F when −12 V is driven, invalid when the driver disagrees. -/
def gClass (out : PilotOut) (x : PilotSample) : PilotSt :=
  match out, x.low with
  | .stateF, _ => .f
  | .pwm _, some l => if -10500 < l then .diode else pilotClass x.high
  | _, _ => pilotClass x.high

/-- The runs of a class (R393). -/
def gRuns (bad : Bool) (filt : Nat) (cls : PilotSt) (p : GPilot) : GPilot :=
  let dis := if bad then p.disRun + 1 else 0
  let cls := if filt ≤ dis then .invalid else cls
  let loss := cls == .a || cls == .e || cls == .invalid || cls == .diode
  { cls := cls, lossRun := if loss then p.lossRun + 1 else 0, bRun := if cls = .b then p.bRun + 1 else 0, disRun := dis }

/-- Garnet's pilot stamps of a frame. -/
def stampGPilots (xs : List PilotSample) (bad : List (Fin 8)) (s : State) : State :=
  (allFin 8).foldl (fun (s : State) (k : Fin 8) =>
    let out := s.outlets[k].out
    let filt := pget s 0x4010 k
    let cls (p : GPilot) : PilotSt := if out = .highZ then .invalid else match xs.find? fun x => x.k == k with
      | some x => gClass out x
      | none => if out = .stateF then .f else p.cls
    modGar (fun g => { g with pilots := upd g.pilots k (fun p => gRuns (bad.contains k) filt (cls p) p) }) s) s

/-- Step 2 of an edge (R22, R389): the grants whose conditions failed on the last stamps end, every output is driven as
granted, connection devices enter the states decided. -/
def garnetStep2 (s : State) : State :=
  let s := (allFin 32).foldl (fun (s : State) (o : Fin 32) =>
    if s.garnet.outs[o].granted then s else soOff o s) s
  (allFin 2).foldl (fun (s : State) (c : Fin 2) =>
    match s.garnet.cds[c].next with
    | some (st, f) => if f ≤ s.frame then cdTo c st (modCd c (fun x => { x with next := none, cdstop := st == .ss1 }) s) else s
    | none => s) s

/-- What Garnet's cores decide in a frame on its stamps (R389, R395): standing grants whose conditions fail are removed, an
enabling device whose conditions fail goes back to Stopped. -/
def garnetDecide (s : State) : State :=
  let s := (allFin 32).foldl (fun (s : State) (o : Fin 32) =>
    if s.garnet.outs[o].granted ∧ standCause s o ≠ 0 then ungrant o s else s) s
  (allFin 2).foldl (fun (s : State) (c : Fin 2) =>
    let x := s.garnet.cds[c]
    if x.st = .enabling ∧ grantCause s (32 + c.val) ≠ 0 then
      cdNext c .stopped (modCd c (fun x => { x with brkAt := none }) s) else s) s

/-- The events held for this frame. -/
def garnetEvents (s : State) : State :=
  let l := s.garnet.evNext
  l.foldl (fun s x => ev x.1 x.2.1 x.2.2.1 x.2.2.2 s) (modGar (fun g => { g with evNext := [] }) s)

/-- SAF_CP_LOSS: pilot loss or the B backstop while an output of the outlet is granted (R393). It is no Garnet trip: the
session moves by its own accepted pilot state (R163). -/
def execSafCpLoss (k : Fin 8) (s : State) : Outcome State Fault Refusal :=
  let p := s.garnet.pilots[k]
  let loss := decide (pget s 0x4010 k + 1 ≤ p.lossRun)
  let back := decide (pget s 0x4011 k ≤ p.bRun)
  if holdsGrant s k ∧ (loss ∨ back) then
    let s := (soOutlet k).foldl (fun (s : State) (o : Fin 32) => ungrant o s) s
    ans (evNext 0xA5 k 0 (pilotCode p.cls * 256 + (if loss then 1 else 2)) s)
  else ans s

/-! ### Enables and brake tests (R395, R397 to R399) -/

/-- Whether a brake test runs on either device. -/
def brakeRunning (s : State) : Bool := (allFin 2).any fun (c : Fin 2) => s.garnet.cds[c].test.isSome

/-- The state a device has or is about to have. -/
def cdSoon (s : State) (c : Fin 2) : CdState := match s.garnet.cds[c].next with
  | some (st, _) => st
  | none => s.garnet.cds[c].st

/-- SAF_CD_ENABLE during frame N (R395, R409). -/
def cdEnableRules (cd action : Nat) (s : State) : Verdict :=
  if hc : cd < 2 then
    let c : Fin 2 := ⟨cd, hc⟩
    let st := cdSoon s c
    if 1 < action then no 0x1101
    else if action = 1 then
      if st ≠ .stopped then no 0x10A4
      else if brakeRunning s then no 0x20A1
      else if grantCause s (32 + cd) ≠ 0 then no 0x1201
      else .accept 0 none (fun s =>
        let b := frameAfter s.frame (1 + pget s 0x401B cd)
        cdNext c .enabling (modCd c (fun x => { x with brkAt := some b }) s))
    else if st = .stopped then .accept 0x0001 none id
    else if st = .enabling ∨ st = .enabled ∨ st = .ss1 then
      .accept 0 none (fun s => cdNext c .stopped (modCd c (fun x => { x with brkAt := none, ss1End := none }) s))
    else no 0x10A4
  else no 0x1104

/-- SAF_CD_ENABLE (R409). -/
def execSafCdEnable (h : Hdr) (cd action : Nat) (s : State) : Outcome State Fault Refusal :=
  ans (hostCmd h 0x4002 (.safCdEnable h cd action) true true [] (cdEnableRules cd action) s)

/-- BRAKE_RELEASE: SAF.CD.BRK.DLY after torque is permitted (R395); not when a stop has been decided (Table SAF-11). -/
def execBrakeRelease (c : Fin 2) (s : State) : Outcome State Fault Refusal :=
  let x := s.garnet.cds[c]
  if x.st = .enabling ∧ expired x.brkAt s.frame ∧ x.next.isNone ∧ grantCause s (32 + c.val) = 0 then
    ans (cdTo c .enabled (modCd c (fun x => { x with brkAt := none }) s))
  else ans s

/-- SS1_TIMEOUT: torque off and brake engaged whatever the drive has done (R396). -/
def execSs1Timeout (c : Fin 2) (s : State) : Outcome State Fault Refusal :=
  let x := s.garnet.cds[c]
  if x.st = .ss1 ∧ expired x.ss1End s.frame then
    ans (cdTo c .stopped (modCd c (fun x => { x with ss1End := none, cdstop := false, next := none }) s))
  else ans s

/-- The profile of a device's drive (R397). -/
def cdProfile (s : State) (c : Nat) : Option (List Byte) := match vget? s.pool.profiles (pget s 0x401D c) with
  | some p => p
  | none => none

/-- SAF_BRAKE_TEST during frame N (R397, R409). -/
def brakeTestRules (cd : Nat) (s : State) : Verdict :=
  if hc : cd < 2 then
    let c : Fin 2 := ⟨cd, hc⟩
    if cdSoon s c ≠ .stopped then no 0x10A4
    else if brakeRunning s then no 0x20A1
    else if (grantFails s true (32 + cd)).any fun x => x.1 != 12 && x.2 then no 0x1201
    else .accept 0x0100 none (fun s =>
      let w := frameAfter s.frame (1 + pget s 0x401B cd)
      let t : BrakeTest := { winAt := w, winEnd := frameAfter w (pget s 0x4021 cd), lastSt := w, torque := pget s 0x4020 cd }
      cdNext c .brakeTest (modCd c (fun x => { x with test := some t }) s))
  else no 0x1104

/-- SAF_BRAKE_TEST (R409). -/
def execSafBrakeTest (h : Hdr) (cd : Nat) (s : State) : Outcome State Fault Refusal :=
  ans (hostCmd h 0x4003 (.safBrakeTest h cd) true true [] (brakeTestRules cd) s)

/-- A torque request sent to a device's drive (R397). -/
def cdRequest (c : Fin 2) (torque : Nat) (s : State) : State :=
  match cdProfile s c, s.garnet.cds[c].test with
  | some p, some t =>
    let id := u32At p 24 + pget s 0x401E c * u16At p 28
    let s := emit (.can (pget s 0x401C c) id (setpointPayload p 0 torque t.alive)) s
    modCd c (fun x => { x with test := some { t with alive := t.alive + 1 } }) s
  | _, _ => s

/-- BRAKE_TEST_WINDOW_START: the requests begin (R397). -/
def execBrakeTestWindowStart (c : Fin 2) (s : State) : Outcome State Fault Refusal :=
  match s.garnet.cds[c].test with
  | some t =>
    if t.winAt ≤ s.frame ∧ ¬ t.started ∧ s.garnet.cds[c].st = .brakeTest then
      ans (cdRequest c t.torque (modCd c (fun x => { x with test := some { t with started := true } }) s))
    else ans s
  | none => ans s

/-- The request of each later frame of a window. -/
def brakeTick (c : Fin 2) (s : State) : State :=
  match s.garnet.cds[c].test with
  | some t => if t.started ∧ t.winAt < s.frame ∧ s.frame < t.winEnd ∧ t.result.isNone then cdRequest c t.torque s else s
  | none => s

/-- A drive status stamped in the window (R398). -/
def brakeStatus (c : Fin 2) (f3 f4 : Int) (s : State) : State :=
  match s.garnet.cds[c].test with
  | none => s
  | some t =>
    if ¬ t.started ∨ t.result.isSome ∨ t.winEnd ≤ s.frame then s
    else
      let p0 := t.p0.getD f3
      let disp := (f3 - p0).natAbs
      let full := decide (9 * (t.torque : Int) ≤ 10 * f4)
      let res : Option Nat :=
        if pget s 0x4022 c < disp then some 2
        else if ¬ full ∧ (t.reached ∨ t.winAt + 80 ≤ s.frame) then some 1
        else none
      let f := s.frame
      modCd c (fun x => { x with test := some { t with p0 := some p0, disp := max t.disp disp, lastSt := f,
                                                       reached := t.reached || full, result := res } }) s

/-- The end of a test with its result (R398, R399). -/
def brakeEnd (c : Fin 2) (t : BrakeTest) (result : Nat) (atOnce : Bool) (s : State) : State :=
  let f := s.frame
  let s := cdRequest c 0 s
  let s := modCd c (fun x => { x with
    test := none
    due := if result = 0 then false else x.due
    failed := if result = 0 then false else x.failed || result != 3
    lastPass := if result = 0 then some f else x.lastPass }) s
  let s := ev 0xA7 (cdDomain s c) 0 (min t.disp 65535 * 65536 + c.val * 256 + result) s
  if result = 3 then s else if atOnce then cdTo c .stopped s else cdNext c .stopped s

/-- BRAKE_TEST_END: the window over, a finding, a stop, or the drive link lost (R398). -/
def execBrakeTestEnd (c : Fin 2) (s : State) : Outcome State Fault Refusal :=
  match s.garnet.cds[c].test with
  | none => ans s
  | some t =>
    let tmo := match cdProfile s c with
      | some p => u16At p 36
      | none => 0
    match t.result with
    | some r => ans (brakeEnd c t r false s)
    | none =>
      if t.winEnd ≤ s.frame then ans (brakeEnd c t (if t.reached then 0 else 1) true s)
      else if t.started ∧ t.lastSt + tmo ≤ s.frame then ans (brakeEnd c t 4 false s)
      else ans s

/-- SAF_BRAKE_DUE: SAF.BT.INT frames after the last pass (R399). -/
def execSafBrakeDue (c : Fin 2) (s : State) : Outcome State Fault Refusal :=
  let x := s.garnet.cds[c]
  match x.lastPass with
  | some p =>
    if x.st ≠ .unused ∧ ¬ x.due ∧ p + pget s 0x4023 c ≤ s.frame then
      ans (ev 0xA8 (cdDomain s c) 0 c (modCd c (fun x => { x with due := true }) s))
    else ans s
  | none => ans s

/-! ### The configuration procedure (R407, R408) -/

/-- A value as it would be with the staged set. -/
def stagedGet (s : State) (id inst : Nat) : Nat :=
  match (s.garnet.staged.getD []).find? fun x => x.1 == id && x.2.1 == inst with
  | some x => x.2.2
  | none => match s.garnet.committed with
    | some m => (storeGet m (pkey id inst)).getD (pdefault id inst)
    | none => pget s id inst

/-- The staged set discarded, with its event (R408). -/
def safDiscard (s : State) : State :=
  if s.garnet.staged.isSome then
    ev 0xA9 14 2 (garnetSig (stagedGet s)) (modGar (fun g => { g with staged := none, verified := none }) s)
  else s

/-- SCFG_N stamped (R408): high discards the staged set. -/
def execScfgN (high : Bool) (s : State) : Outcome State Fault Refusal :=
  let s := modGar (fun g => { g with scfgHigh := high }) s
  if high then ans (safDiscard s) else ans s

/-- One staged entry: known, instance valid, sealed by Garnet (R409). Its range is checked by verify. -/
def safEntry (e : PEntry) : Option (Nat × Nat) := match pinfo e.id with
  | none => some (0x1103, 0)
  | some p => if ¬ (e.inst < p.insts ∨ e.inst = 0xFF) then some (0x1104, 0) else if p.cls ≠ 2 then some (0x1103, 0) else none

/-- SAF_CFG_STAGE_X during frame N (R408, R409). -/
def safStageRules (es : List PEntry) (s : State) : Verdict :=
  if s.garnet.scfgHigh then .refuse 0x12A0 (writeResult 0 0xFF 0)
  else if ((allFin 8).any fun (k : Fin 8) => s.outlets[k].st != .unavailable && s.outlets[k].st != .idle)
      || (allFin 2).any fun (c : Fin 2) => s.garnet.cds[c].st != .stopped && s.garnet.cds[c].st != .unused then
    .refuse 0x10A2 (writeResult 0 0xFF 0)
  else match firstFail safEntry 0 es with
    | some (d, i, _) => .refuse d (writeResult 0 i 0)
    | none => .accept 0 (some (writeResult es.length 0xFF 0)) id

/-- SAF_CFG_STAGE_X (R408). -/
def execSafCfgStageX (h : Hdr) (count : Nat) (entries : List PEntry) (s : State) : Outcome State Fault Refusal :=
  ans (hostCmd h 0x4080 (.safCfgStageX h count entries) (entriesLayout count entries) (entries.all lengthOk)
    (writeResult 0 (firstBad lengthOk entries) 0) (safStageRules entries) s)

/-- Staged entries set; a later entry replaces an earlier one of its parameter. -/
def applySafStage (es : List PEntry) (s : State) : State :=
  let w := es.flatMap entryWrites
  modGar (fun g => { g with staged := some (w.foldl (fun l x => l.filter (fun y => !(y.1 == x.1 && y.2.1 == x.2.1)) ++ [x])
                                              (g.staged.getD [])), verified := none }) s

/-- Whether the configuration that would result passes its rules beyond ranges (R369, R408). -/
def safRulesOk (get : Nat → Nat → Nat) : Bool :=
  decide (3 * get 0x404B 0 + 160 ≤ get 0x404C 0) && decide (get 0x404D 0 + 2 * get 0x404C 0 ≤ get 0x404E 0)
    && decide (get 0x4049 0 ≤ get 0x404A 0)
    && ((List.range 16).all fun i =>
      let b := leBytes 2 (get 0x4002 i)
      u8At b 0 != u8At b 1 || (u8At b 0 == 0xFF && u8At b 1 == 0xFF))
    && (get 0x4018 0 != get 0x4018 1 || get 0x4018 0 == 0xFF)

/-- The index of the first staged entry that fails: out of range, or named by a rule that fails with it; 0xFF when all
pass. -/
def safFirstBad (s : State) : Nat :=
  let st := s.garnet.staged.getD []
  let bad := st.findIdx? fun x => match pinfo x.1 with
    | some p => !valueOk s p x.2.1 (leBytes p.len x.2.2)
    | none => true
  match bad with
  | some i => i
  | none =>
    if safRulesOk (stagedGet s) then 0xFF
    else match st.findIdx? fun x => [0x404B, 0x404C, 0x404D, 0x404E, 0x4049, 0x404A, 0x4002, 0x4018].contains x.1 with
      | some i => i
      | none => 0

/-- The SAF_CFG_VERIFY_X result. -/
def safVerifyResult (s : State) : List Byte := leBytes 1 (safFirstBad s) ++ [0, 0, 0] ++ leBytes 4 (garnetSig (stagedGet s))

/-- SAF_CFG_VERIFY_X (R408). -/
def execSafCfgVerifyX (h : Hdr) (s : State) : Outcome State Fault Refusal :=
  ans (hostCmd h 0x4081 (.safCfgVerifyX h) true true []
    (fun s => if s.garnet.staged.isNone then no 0x10A3
      else if safFirstBad s ≠ 0xFF then .refuse 0x12A1 (safVerifyResult s)
      else .accept 0 (some (safVerifyResult s)) id) s)

/-- The signature that verify returned is kept for the commit. -/
def applySafVerify (s : State) : State := modGar (fun g => { g with verified := some (garnetSig (stagedGet s)) }) s

/-- SAF_CFG_COMMIT_X (R408). -/
def execSafCfgCommitX (h : Hdr) (signature : Nat) (s : State) : Outcome State Fault Refusal :=
  ans (hostCmd h 0x4082 (.safCfgCommitX h signature) true true []
    (fun s => if s.garnet.staged.isNone then no 0x10A3
      else if s.garnet.verified = some signature then done else no 0x12A2) s)

/-- The committed configuration written; it takes effect at the next module reset. -/
def applySafCommit (s : State) : State :=
  let sig := garnetSig (stagedGet s)
  let base := s.garnet.committed.getD (s.params.filter fun x => match pinfo (x.1 / 256) with
    | some p => p.cls == 2
    | none => false)
  let m := (s.garnet.staged.getD []).foldl (fun m x => storePut m x.1 x.2.1 x.2.2) base
  ev 0xA9 14 1 sig (modGar (fun g => { g with committed := some m, staged := none, verified := none }) s)

/-- SAF_CFG_DISCARD_X (R408). -/
def execSafCfgDiscardX (h : Hdr) (s : State) : Outcome State Fault Refusal :=
  ans (hostCmd h 0x4083 (.safCfgDiscardX h) true true []
    (fun s => if s.garnet.staged.isNone then .accept 0x0001 none id else done) s)

/-! ### Status opcodes (R402, R409, R410) -/

/-- SAF_RESET during frame N (R402, R409). -/
def safResetRules (mask : Nat) (s : State) : Verdict :=
  let m := mask &&& pget s 0x4012 0
  if latchesCleared s (clearLatches (maskBits m) s) = 0 then no 0x12A3 else done

/-- SAF_RESET (R402). -/
def execSafReset (h : Hdr) (mask : Nat) (s : State) : Outcome State Fault Refusal :=
  ans (hostCmd h 0x4004 (.safReset h mask) true true [] (safResetRules mask) s)

/-- The latches cleared at step 6 (R402). -/
def applySafReset (mask : Nat) (s : State) : State :=
  let t := clearLatches (maskBits (mask &&& pget s 0x4012 0)) s
  ev 0xA1 14 (latchesCleared s t) (0xFF * 256 + 1) t

/-- SAF_STATUS (R410). -/
def execSafStatus (h : Hdr) (s : State) : Outcome State Fault Refusal :=
  ans (hostCmd h 0x4000 (.safStatus h) true true [] (fun _ => done) s)

/-- Garnet's state code (Table SAF-13). -/
def gStateCode (x : GState) : Nat := match x with
  | .starting => 0
  | .selfTestFailed => 1
  | .run => 2
  | .stop => 3

/-- The pending signature, 0 for none. -/
def pendingSig (s : State) : Nat := match s.garnet.committed with
  | some m => garnetSig fun id inst => (storeGet m (pkey id inst)).getD (pdefault id inst)
  | none => 0

/-- A word with a bit per object that has a property. -/
def bitsOf {n : Nat} (p : Fin n → Bool) : Nat := ((allFin n).map fun i => if p i then 2 ^ i.val else 0).foldl (· + ·) 0

/-- The SAF_STATUS result (Table SAF-13). -/
def safStatusResult (s : State) : List Byte :=
  let g := s.garnet
  leBytes 1 (gStateCode g.st) ++ [boolByte g.committed.isSome] ++ leBytes 2 (latchWord s)
    ++ leBytes 4 (garnetSig (pget s)) ++ leBytes 4 (pendingSig s)
    ++ leBytes 2 (bitsOf fun (i : Fin 16) => pget s 0x4000 i != 0 && pget s 0x4000 i != 3 && siDemand s i)
    ++ leBytes 2 (bitsOf fun (i : Fin 16) => g.inputs[i].faulted)
    ++ leBytes 4 (bitsOf fun (o : Fin 32) => g.outs[o].driven)
    ++ leBytes 4 (bitsOf fun (o : Fin 32) => g.outs[o].granted)
    ++ leBytes 4 (bitsOf fun (o : Fin 32) => g.outs[o].fb.accepted)
    ++ leBytes 4 (bitsOf fun (o : Fin 32) => g.outs[o].fault.isSome || g.outs[o].contact)
    ++ ((allFin 8).flatMap fun (k : Fin 8) => leBytes 1 (pilotCode g.pilots[k].cls))
    ++ ((allFin 2).flatMap fun (c : Fin 2) =>
      let x := g.cds[c]
      leBytes 1 (cdCode x.st)
        ++ leBytes 1 (if x.test.isSome then 2 else if x.failed then 3 else if x.due then 1 else 0)
        ++ leBytes 1 (pget s 0x4018 c) ++ leBytes 1 0
        ++ leBytes 6 (match x.lastPass with
          | some p => s.frame - p
          | none => 2 ^ 48 - 1) ++ leBytes 2 0)

/-- SAF_WHY (R389, R409). -/
def execSafWhy (h : Hdr) (object : Nat) (s : State) : Outcome State Fault Refusal :=
  ans (hostCmd h 0x4001 (.safWhy h object) true true [] (fun _ => if 34 ≤ object then no 0x1104 else done) s)

/-- The SAF_WHY result: the lowest cause, and the input in demand that it names. -/
def safWhyResult (object : Nat) (s : State) : List Byte :=
  let c := grantCause s object
  let func := if c = 3 then 1 else if c = 4 then 2 else 4
  let i := if c = 3 ∨ c = 4 ∨ c = 5 then (match (allFin 16).find? fun (i : Fin 16) => siBlocks s i func object with
      | some i => i.val
      | none => 0xFF) else 0xFF
  leBytes 1 c ++ leBytes 1 i ++ [0, 0]

/-- SAF_INFO (R409). -/
def execSafInfo (h : Hdr) (s : State) : Outcome State Fault Refusal :=
  ans (hostCmd h 0x4005 (.safInfo h) true true [] (fun _ => done) s)

/-- The SAF_INFO result. -/
def safInfoResult (s : State) : List Byte :=
  leBytes 4 (Config.garnetVersion false).toNat ++ leBytes 4 (Config.garnetVersion true).toNat
    ++ leBytes 4 (garnetSig (pget s)) ++ leBytes 4 (pendingSig s) ++ [0, 0, 0, 0]

end Sys2Proof.Machine
end

