-- ==== Sys2Proof/Machine/Session.lean ====
section
/-! DEFINITION. The triggers of the session machine (R161 to R165): how a trigger of frame N decides the state of frame
N+1, the ranks of stop reasons, and the opening of an outlet's contactors. -/

namespace Sys2Proof.Machine

/-- The rank of a stop reason (Table OUT-7). -/
def stopRank (r : Nat) : Nat := match r with
  | 0x10 => 1
  | 0x0F => 2
  | 0x11 => 3
  | 0x05 => 4
  | 0x0A => 5
  | 0x09 => 6
  | 0x04 => 7
  | 0x07 => 8
  | 0x08 => 9
  | 0x0B => 10
  | 0x0C => 11
  | 0x03 => 12
  | 0x12 => 13
  | 0x0D => 14
  | 0x01 => 15
  | 0x02 => 16
  | 0x06 => 17
  | 0x0E => 18
  | _ => 19

/-- The rank of a decided transition: one without a reason ranks behind every stop. -/
def Pend.rank (p : Pend) : Nat := match p.reason with
  | some r => stopRank r
  | none => 20

/-- The internal transactions of an outlet that have not been applied and that a stop makes void. -/
def voidBuilt (k : Fin 8) (s : State) : State :=
  { s with txn := { s.txn with txns := s.txn.txns.filter fun t =>
      !(t.state == .pending && (t.purpose == .energise k || t.purpose == .precharge k)) } }

/-- A transition decided in this frame for step 6 of the next (R162); of several, the one of lowest rank stands (R164). -/
def pendTo (k : Fin 8) (p : Pend) (s : State) : State :=
  match s.outlets[k].pend with
  | none => modOut k (fun o => { o with pend := some p }) s
  | some q => if p.rank < q.rank then modOut k (fun o => { o with pend := some p }) (voidBuilt k s) else s

/-- A transition without a stop. -/
def goTo (k : Fin 8) (st : Sess) (s : State) : State := pendTo k { dest := st, frame := s.frame } s

/-- The safe outputs of an outlet that are on. -/
def soLive (s : State) (k : Fin 8) : List (Fin 32) :=
  (soOutlet k).filter fun (o : Fin 32) => s.garnet.outs[o].granted || s.garnet.outs[o].driven

/-- Whether a purpose is the opening of an outlet's contactors. -/
def purposeOpens (k : Fin 8) : Purpose → Bool
  | .openOutlet j _ => j == k
  | _ => false

/-- The opening of an outlet's contactors committed for the next frame (R185); none is built twice. -/
def openOutlet (k : Fin 8) (reason : Nat) (s : State) : State :=
  let acts := (soLive s k).map fun (o : Fin 32) => Action.contactor o false
  if acts.isEmpty ∨ (s.txn.txns.any fun (t : Txn) => purposeOpens k t.purpose) then s
  else buildTxn (.openOutlet k reason) acts (frameAfter s.frame 1) (modOut k (fun o => { o with stopBuilt := true }) s)

/-- Whether an outlet's main contactors are closed by its feedback (R185). -/
def mainClosed (s : State) (k : Fin 8) : Bool := fbClosed s (soMain1 k) || fbClosed s (soMain2 k)

/-- The energise transaction of an outlet is to be rolled back, this frame being frame E (Table OUT-8). -/
def forceRollback (k : Fin 8) (s : State) : State :=
  { s with txn := { s.txn with txns := s.txn.txns.map fun (t : Txn) =>
      if t.purpose == Purpose.energise k && t.state == .applying then { t with forced := true } else t } }

/-- A later stop reason of lower rank replaces the recorded one of a stop under way, and turns a pause into an end
(R164). -/
def addReason (k : Fin 8) (reason : Nat) (s : State) : State :=
  let o := s.outlets[k]
  if stopRank reason < stopRank o.reason ∨ o.pause then
    modOut k (fun o => { o with reason := if stopRank reason < stopRank o.reason ∨ o.reason = 0 then reason else o.reason,
                                pause := if o.st = .stopping then false else o.pause }) s
  else s

/-- The state a stop leads to (Table OUT-6): through STOPPING where a contactor may be closed, else ENDED. -/
def stopTarget (s : State) (k : Fin 8) : Option Sess :=
  match s.outlets[k].st with
  | .cableCheck => some .stopping
  | .precharge => some .stopping
  | .energising => some .stopping
  | .charging => some .stopping
  | .ready => some (if isDc s k then .stopping else .ended)
  | .linking => some .ended
  | .authorising => some .ended
  | .deferred => some .ended
  | .parameters => some .ended
  | .paused => some .ended
  | .connected => some .ended
  | _ => none

/-- Whether an outlet runs its session with high-level communication: DC and MW always, AC by OUT.CFG.HLC and not after
a fallback (R178, R195). -/
def outHlc (s : State) (k : Fin 8) : Bool := isDc s k || (isAc s k && pbool s 0x1003 k && !s.outlets[k].basicOnly)

/-- Whether a stop waits before it opens the contactors: the current on DC and MW (R185), the vehicle on a host stop of
an AC outlet in basic mode (R179). Every other stop of an AC outlet opens at the next frame (R177). -/
def stopWaits (s : State) (k : Fin 8) (reason : Nat) : Bool := isDc s k || (reason == 0x01 && !outHlc s k)

/-- A stop of the session with a reason (R164). -/
def stopSession (k : Fin 8) (reason hostReason : Nat) (s : State) : State :=
  match s.outlets[k].st with
  | .stopping => addReason k reason s
  | .weldCheck => addReason k reason s
  | _ => match stopTarget s k with
    | some t =>
      let s := pendTo k { dest := t, reason := some reason, hostReason := hostReason, frame := s.frame } s
      if t = .stopping ∧ ¬ stopWaits s k reason then openOutlet k reason s else s
    | none => s

/-- Whether a state is one from IDLE to ENDED. -/
def sessLive (x : Sess) : Bool := decide (1 ≤ sessCode x) && decide (sessCode x ≤ 15)

/-- FAULT with a reason from any state from IDLE to ENDED (Table OUT-6); contactors open at the next frame. -/
def faultSession (k : Fin 8) (reason : Nat) (s : State) : State :=
  if sessLive s.outlets[k].st then
    openOutlet k reason (forceRollback k (pendTo k { dest := .fault, reason := some reason, frame := s.frame } s))
  else s

/-- Pilot A in a session (Table OUT-6): the energised states stop with reason 0x04, the others go to IDLE. -/
def unplugSession (k : Fin 8) (s : State) : State :=
  match s.outlets[k].st with
  | .energising =>
    openOutlet k 0x04 (forceRollback k (pendTo k { dest := .stopping, reason := some 0x04, frame := s.frame } s))
  | .charging => openOutlet k 0x04 (pendTo k { dest := .stopping, reason := some 0x04, frame := s.frame } s)
  | .stopping => openOutlet k 0x04 (addReason k 0x04 s)
  | .weldCheck => addReason k 0x04 s
  | .connected => pendTo k { dest := .idle, reason := some 0x04, frame := s.frame } s
  | .linking => pendTo k { dest := .idle, reason := some 0x04, frame := s.frame } s
  | .authorising => pendTo k { dest := .idle, reason := some 0x04, frame := s.frame } s
  | .deferred => pendTo k { dest := .idle, reason := some 0x04, frame := s.frame } s
  | .parameters => pendTo k { dest := .idle, reason := some 0x04, frame := s.frame } s
  | .cableCheck => openOutlet k 0x04 (pendTo k { dest := .idle, reason := some 0x04, frame := s.frame } s)
  | .precharge => openOutlet k 0x04 (pendTo k { dest := .idle, reason := some 0x04, frame := s.frame } s)
  | .ready => openOutlet k 0x04 (pendTo k { dest := .idle, reason := some 0x04, frame := s.frame } s)
  | .paused => pendTo k { dest := .idle, reason := some 0x04, frame := s.frame } s
  | .ended => goTo k .idle s
  | _ => s

/-- The current through an outlet's contactors is at most 2 A by its stamp (R103, R185). -/
def lowCurrent (s : State) (k : Fin 8) : Bool :=
  let m := s.outlets[k].meas
  if isAc s k then m.phase.all fun x => decide (x ≤ 2000) else decide (m.i.natAbs ≤ 2000)

end Sys2Proof.Machine
end

