-- ==== Sys2Proof/Machine/Efi.lean ====
section
/-! DEFINITION. Earth-fault and insulation monitoring (chapter 10): residual direct current, insulation ports and their
slices, balance and coupling, and the continuity of protective earth. -/

namespace Sys2Proof.Machine

open Host

/-- The state of earth-fault and insulation monitoring changed. -/
def modEfi (f : EfiSt → EfiSt) (s : State) : State := { s with efi := f s.efi }

/-- Channel k of RDC-DD changed. -/
def modRdc (k : Fin 8) (f : RdcSt → RdcSt) (s : State) : State := modEfi (fun e => { e with rdc := upd e.rdc k f }) s

/-- Insulation monitoring of outlet k changed. -/
def modImd (k : Fin 8) (f : ImdSt → ImdSt) (s : State) : State := modEfi (fun e => { e with imd := upd e.imd k f }) s

/-- The PE check of outlet k changed. -/
def modPe (k : Fin 8) (f : PeSt → PeSt) (s : State) : State := modEfi (fun e => { e with pe := upd e.pe k f }) s

/-- An insulation port changed. -/
def modIm (p : Fin 4) (f : ImPort → ImPort) (s : State) : State := modEfi (fun e => { e with ports := upd e.ports p f }) s

/-- Whether the functions of outlet k run: Garnet up, no watch state, no fence (R371). -/
def efiRuns (s : State) (k : Fin 8) : Bool := s.sys.garnetUp && !watching s && !fencedDomain s k

/-! ### Residual direct current (R346 to R353) -/

/-- The window W of a channel in frames (R347). -/
def rdcW (s : State) (k : Fin 8) : Nat := if pget s 0x3004 (k.val + 1) = 0 then 160 else 400

/-- The mean of the first `n` samples of a list, the newest first. -/
def meanOf (n : Nat) (l : List Rat) : Rat := (l.take n).foldl (· + ·) 0 / n

/-- The absolute value of a rational. -/
def absRat (x : Rat) : Rat := if x < 0 then -x else x

/-- Tenths of a unit, rounded. -/
def tenths (x : Rat) : Int := roundRat (10 * x)

/-- A stage's count: one more frame at or above its threshold, or from the start (R348). -/
def runAt (excess : Bool) (n : Nat) : Nat := if excess then n + 1 else 0

/-- Step 1: a channel's sample, its residual and the counts of its stages (R347, R348). A channel that is off holds no
window. The residual stands while the window is not full. -/
def rdcTick (k : Fin 8) (sample : Option Rat) (exc : Nat) (winding : Bool) (s : State) : State :=
  if rdcActive s k && efiRuns s k then
    let w := rdcW s k
    let thr : Rat := (pget s 0x4041 0 : Rat) / 10
    modRdc k (fun (r : RdcSt) =>
      let win := ((sample.getD (r.win.headD 0)) :: r.win).take 400
      let dc := if w ≤ win.length then meanOf w win - r.offset else r.dc
      let a := absRat dc
      { r with win := win, dc := dc, run1 := runAt (decide (thr ≤ a)) r.run1, run2 := runAt (decide (60 ≤ a)) r.run2,
               run3 := runAt (decide (200 ≤ a)) r.run3, excRun := runAt (exc != 0) r.excRun,
               excKind := if exc = 0 then r.excKind else exc, winding := winding }) s
  else
    modRdc k (fun r => { r with win := [], dc := 0, run1 := 0, run2 := 0, run3 := 0, excRun := 0, winding := false,
                                zeroed := false, testEnd := none }) s

/-- The first trip stage that is complete (R348). -/
def rdcStage (s : State) (k : Fin 8) : Option Nat :=
  let r := s.efi.rdc[k]
  if pget s 0x4042 0 ≤ r.run1 then some 1 else if pget s 0x4043 0 ≤ r.run2 then some 2
  else if pget s 0x4044 0 ≤ r.run3 then some 3 else none

/-- A trip of the channel (R349). -/
def rdcTrip (k : Fin 8) (stage : Nat) (s : State) : State :=
  let dc := tenths s.efi.rdc[k].dc
  let f := s.frame
  evNext 0x90 k 0 (stage * 2 ^ 24 + leNat (leInt 2 dc)) (tripOutlet k (modRdc k (fun r => { r with tripped := some f }) s))

/-- EFI_RDC_TRIP: a stage complete on an active channel that is not tripped (R348, R349). -/
def execEfiRdcTrip (k : Fin 8) (s : State) : Outcome State Fault Refusal :=
  if rdcActive s k && efiRuns s k && s.efi.rdc[k].tripped.isNone then
    match rdcStage s k with
    | some n => ans (rdcTrip k n s)
    | none => ans s
  else ans s

/-- RDC_OFFSET_MEASURE (R350), and the first measurement after the channel starts (R371). -/
def execRdcOffsetMeasure (k : Fin 8) (s : State) : Outcome State Fault Refusal :=
  let r := s.efi.rdc[k]
  let w := rdcW s k
  let f := s.frame
  let st := s.outlets[k].st
  if rdcActive s k && efiRuns s k && decide (w ≤ r.win.length) && r.testEnd.isNone
      && ((st == .idle && (!r.zeroed || decide (r.nextOfs ≤ f))) || (st == .unavailable && !r.zeroed)) then
    ans (modRdc k (fun r => { r with offset := meanOf w r.win, zeroed := true, nextOfs := frameAfter f 8000 }) s)
  else ans s

/-- The self-test starts (R351). -/
def rdcStartTest (k : Fin 8) (s : State) : State :=
  let e := frameAfter s.frame 400
  modRdc k (fun r => { r with testEnd := some e }) s

/-- A pilot state accepted in this frame, from a session state: pilot A ends a latch set in an earlier frame (R349,
R353) and a pass (R352); B, C or D from IDLE starts a test, after a failed test only B. -/
def rdcPilot (k : Fin 8) (p : PilotSt) (fromIdle : Bool) (s : State) : State :=
  if ¬ rdcActive s k then s
  else
    let f := s.frame
    let r := s.efi.rdc[k]
    match p with
    | .a => modRdc k (fun r => { r with
        tripped := match r.tripped with
          | some t => if t < f ∧ ¬ r.fault then none else some t
          | none => none
        faultA := r.faultA || (r.fault && r.tripped.any fun t => decide (t < f)), passed := false }) s
    | .b => if fromIdle && r.testEnd.isNone then rdcStartTest k s else s
    | .c => if fromIdle && r.testEnd.isNone && !r.failed then rdcStartTest k s else s
    | .d => if fromIdle && r.testEnd.isNone && !r.failed then rdcStartTest k s else s
    | _ => s

/-- RDC_SELF_TEST_END (R351): the last 160 F in 8.0 to 12.0 mA; a pass after pilot A ends a sensor fault (R353). -/
def execRdcSelfTestEnd (k : Fin 8) (s : State) : Outcome State Fault Refusal :=
  let r := s.efi.rdc[k]
  if expired r.testEnd s.frame then
    let x := meanOf 160 r.win - r.offset
    let ok := decide (8 ≤ x ∧ x ≤ 12)
    let healed := ok && r.fault && r.faultA
    ans (ev 0x92 k 0 (leNat (leSat 2 (tenths (absRat x)).toNat) * 2 ^ 16 + (if ok then 0 else 1))
      (modRdc k (fun r => { r with testEnd := none, passed := r.passed || ok, failed := !ok, lastTest := x,
                                   fault := r.fault && !healed, faultA := r.faultA && !healed,
                                   tripped := if healed then none else r.tripped }) s))
  else ans s

/-- The sensor fault that stands, by its number (R353). -/
def rdcFaultKind (s : State) (k : Fin 8) : Option Nat :=
  let r := s.efi.rdc[k]
  if 8 ≤ r.excRun then some r.excKind else if (3 : Rat) / 2 < absRat r.offset then some 3 else if r.winding then some 4
  else none

/-- EFI_RDC_FAULT: handled as a stage trip and latched (R353). -/
def execEfiRdcFault (k : Fin 8) (s : State) : Outcome State Fault Refusal :=
  if rdcActive s k && efiRuns s k && !s.efi.rdc[k].fault then
    match rdcFaultKind s k with
    | some n => ans (rdcTrip k 4 (evNext 0x91 k 0 n (modRdc k (fun r => { r with fault := true, faultA := false }) s)))
    | none => ans s
  else ans s

/-! ### Insulation (R354 to R365) -/

/-- The fault and warning thresholds of an outlet, Ω (R355). -/
def imdFaultOhm (s : State) (k : Fin 8) : Nat := pget s 0x4049 0 * s.efi.imd[k].vref
def imdWarnOhm (s : State) (k : Fin 8) : Nat := pget s 0x404A 0 * s.efi.imd[k].vref

/-- Whether an outlet's main contactors are closed by its state (R357). -/
def imdEnergised (s : State) (k : Fin 8) : Bool :=
  let st := s.outlets[k].st
  st == .energising || st == .charging || st == .stopping

/-- Whether a port may serve: enabled, not faulty, not retired, not tested, full service, no watch state and no power
fail (R354, R365, R371). -/
def imReady (s : State) (p : Fin 4) : Bool :=
  let x := s.efi.ports[p]
  pget s 0x4048 0 / 2 ^ p.val % 2 == 1 && !x.faulty && !x.testing && !objRetired s 3 p && s.sys.service == .full
    && !watching s && !powerFailed s

/-- The candidates for a port in their order (R357): an outlet requeued at the head of its group stands first in it. -/
def imCandidates (s : State) : List (Fin 8) :=
  let f := s.frame
  let free := (allFin 8).filter fun (k : Fin 8) => isDc s k && s.efi.imd[k].port.isNone && !fencedDomain s k
  let head (k : Fin 8) : Nat := if s.efi.imd[k].head then 0 else 1
  let wait (k : Fin 8) : Nat := f - s.efi.imd[k].lastEnd
  let keyOf (k : Fin 8) : Option (List Nat) :=
    if imdEnergised s k then
      some [if pget s 0x404D 0 ≤ wait k then 1 else 3, head k, 2 ^ 48 - wait k, k.val]
    else match s.efi.imd[k].request with
      | some q => if s.outlets[k].st == .cableCheck then some [2, head k, q, k.val] else none
      | none => none
  (sortBy (fun x y => lexLt x.2 y.2) (free.filterMap fun (k : Fin 8) => (keyOf k).map fun q => (k, q))).map (·.1)

/-- PORT_ASSIGNMENT: slot 9 gives a free port to the first candidate; the slice starts at the next edge (R357). -/
def execPortAssignment (p : Fin 4) (s : State) : Outcome State Fault Refusal :=
  let x := s.efi.ports[p]
  if imReady s p && x.outlet.isNone && decide (x.freeAt ≤ s.frame) then
    match imCandidates s with
    | k :: _ =>
      let st := frameAfter s.frame 1
      let cable := s.outlets[k].st == .cableCheck
      ans (modIm p (fun x => { x with outlet := some k, start := st, cable := cable, results := 0 })
        (modImd k (fun i => { i with port := some p, head := false, request := none }) s))
    | [] => ans s
  else ans s

/-- A slice ended: the port is free at the next edge (R358). -/
def releasePort (p : Fin 4) (s : State) : State :=
  match s.efi.ports[p].outlet with
  | none => s
  | some k =>
    let e := frameAfter s.frame 1
    let last := if s.efi.ports[p].cable then e else s.frame
    modIm p (fun x => { x with outlet := none, freeAt := e, results := 0 })
      (modImd k (fun i => { i with port := none, lastEnd := last }) s)

/-- A port becomes faulty (R365): its slice abandoned, its outlet back at the head of its group with its wait unchanged;
the fault counted for retirement (R527). -/
def portFault (p : Fin 4) (how : Nat) (s : State) : State :=
  let f := s.frame
  let s := match s.efi.ports[p].outlet with
    | none => s
    | some k =>
      let cable := s.efi.ports[p].cable
      modImd k (fun i => { i with port := none, head := true, request := if cable then some f else i.request }) s
  let s := modIm p (fun x => { x with outlet := none, faulty := true, testing := false, results := 0,
                                      freeAt := frameAfter f 1, nextTest := frameAfter f 480000 }) s
  objFailure 3 p 12 0x95 (ev 0x95 12 0 (how * 256 + p.val) s)

/-- SLICE_READBACK_FAIL: during the 160 frames of read-back (R356, R365). -/
def execSliceReadbackFail (p : Fin 4) (s : State) : Outcome State Fault Refusal :=
  let x := s.efi.ports[p]
  if x.outlet.isSome ∧ x.start ≤ s.frame ∧ s.frame ≤ x.start + 159 then ans (portFault p 1 s) else ans s

/-- An insulation trip (R361 to R364): path and resistance. Of a frame's trips one counts, the injected path first
(R370). -/
def imdTrip (k : Fin 8) (path kOhm : Nat) (s : State) : State :=
  let arg := path * 2 ^ 28 + (if path = 1 ∨ path = 2 then kOhm % 2 ^ 28 else 0)
  if s.efi.imd[k].tripped then
    if path = 1 then
      modGar (fun g => { g with evNext := g.evNext.map fun (e : Nat × Nat × Nat × Nat) =>
        if e.1 = 0x94 ∧ e.2.1 = k.val then (0x94, k.val, 0, arg) else e }) s
    else s
  else evNext 0x94 k 0 arg (tripOutlet k (modImd k (fun i => { i with tripped := true, status := 2 }) s))

/-- A cable check decided by its results (R359): the pass leads to PRECHARGE, the fail to the stop 0x07. -/
def cableDecide (k : Fin 8) (kOhm : Nat) (s : State) : State :=
  let cc := s.efi.imd[k].cc ++ [kOhm]
  let s := modImd k (fun i => { i with cc := cc }) s
  if kOhm * 1000 < imdFaultOhm s k then
    let s := modImd k (fun i => { i with status := 2 }) s
    let s := match s.efi.imd[k].port with
      | some p => releasePort p s
      | none => s
    evNext 0x49 k 0 kOhm (stopSession k 0x07 0 s)
  else if cc.length < 2 then s
  else
    let low := min (cc.headD 0) kOhm
    let warn := decide (low * 1000 < imdWarnOhm s k)
    let s := modImd k (fun i => { i with status := if warn then 1 else 0, warned := warn }) s
    let s := match s.efi.imd[k].port with
      | some p => releasePort p s
      | none => s
    goTo k .precharge (if warn then ev 0x93 k 0 low s else s)

/-- A result of an energised outlet (R360, R361). -/
def sliceDecide (k : Fin 8) (kOhm : Nat) (s : State) : State :=
  if kOhm * 1000 < imdFaultOhm s k then imdTrip k 1 kOhm s
  else
    let low := decide (kOhm * 1000 < imdWarnOhm s k)
    let was := s.efi.imd[k].warned
    let s := modImd k (fun i => { i with warned := low, status := if i.tripped then 2 else if low then 1 else 0 }) s
    if low ∧ ¬ was then ev 0x93 k 0 kOhm s else s

/-- INSULATION_RESULT: at S+160+2·TP and every TP after (R356); above 10 MΩ it reads 10,000 kΩ. -/
def execInsulationResult (p : Fin 4) (kOhm : Nat) (s : State) : Outcome State Fault Refusal :=
  let x := s.efi.ports[p]
  let f := s.frame
  let r := min kOhm 10000
  match x.outlet with
  | none => ans s
  | some k =>
    if x.start + 160 + (2 + x.results) * pget s 0x404B 0 ≤ f then
      let s := modIm p (fun x => { x with results := x.results + 1 }) s
      let s := modImd k (fun i => { i with result := some (r, f), base := f }) s
      if x.cable then (if s.outlets[k].st == .cableCheck then ans (cableDecide k r s) else ans s)
      else if imdEnergised s k then ans (sliceDecide k r s) else ans s
    else ans s

/-- SLICE_END: at S+EFI.IMD.SLICE with the contactors closed (R358). -/
def execSliceEnd (p : Fin 4) (s : State) : Outcome State Fault Refusal :=
  let x := s.efi.ports[p]
  if x.outlet.isSome ∧ ¬ x.cable ∧ x.start + pget s 0x404C 0 ≤ s.frame then ans (releasePort p s) else ans s

/-- Slices whose outlet has left the states that need them, or was fenced, end at once (R358, R371). -/
def imdSlices (s : State) : State :=
  (allFin 4).foldl (fun (s : State) (p : Fin 4) => match s.efi.ports[p].outlet with
    | none => s
    | some k =>
      let need := if s.efi.ports[p].cable then s.outlets[k].st == .cableCheck else imdEnergised s k
      if !need || fencedDomain s k || watching s || powerFailed s then releasePort p s else s) s

/-- IMD_STALE_TRIP (R361). -/
def execImdStaleTrip (k : Fin 8) (s : State) : Outcome State Fault Refusal :=
  if isDc s k && imdEnergised s k && efiRuns s k && !s.efi.imd[k].tripped
      && decide (s.efi.imd[k].base + pget s 0x404E 0 ≤ s.frame) then ans (imdTrip k 3 0 s)
  else ans s

/-- Whether a slice of the outlet injects in this frame (R356). -/
def imdInjecting (s : State) (k : Fin 8) : Bool := match s.efi.imd[k].port with
  | some p => decide (s.efi.ports[p].start + 160 ≤ s.frame)
  | none => false

/-- Step 1: pole voltages, balance estimate and coupling check (R362, R363). The means are over the last 80 F; a frame
without an estimate starts the counts again. -/
def imdTick (k : Fin 8) (sample : Option (Rat × Rat)) (s : State) : State :=
  if ¬ (isDc s k ∧ efiRuns s k) then modImd k (fun i => { i with poles := [], balRun := 0, coupRun := 0, estimate := none }) s
  else
    let v : Rat := (s.outlets[k].meas.v : Rat) / 1000
    let fault : Rat := (imdFaultOhm s k : Rat) / 1000
    let rc : Rat := (pget s 0x404F k : Rat) / 1000
    let busy := imdInjecting s k
    let on := sessOnBus s.outlets[k].st && decide (60 ≤ v)
    modImd k (fun (i : ImdSt) =>
      let poles : List (Rat × Rat) := match sample with
        | some x => ((absRat x.1, absRat x.2) :: i.poles).take 80
        | none => match i.poles with
          | [] => []
          | x :: r => (x :: x :: r).take 80
      if on ∧ poles.length = 80 then
        let a := meanOf 80 (poles.map (·.1))
        let b := meanOf 80 (poles.map (·.2))
        let lo := min a b
        let hi := max a b
        let inf := decide ((hi - lo) * 100 < v)
        let est := if busy ∨ inf then none else some (rc * lo / (hi - lo))
        let off := decide (v / 10 < absRat (lo + hi - v))
        { i with poles := poles, estimate := est, balRun := runAt (est.any fun x => decide (x < fault)) i.balRun,
                 coupRun := runAt off i.coupRun, coupSum := lo + hi, coupV := v }
      else { i with poles := poles, estimate := none, balRun := 0, coupRun := 0 }) s

/-- BALANCE_TRIP (R362). -/
def execBalanceTrip (k : Fin 8) (s : State) : Outcome State Fault Refusal :=
  let i := s.efi.imd[k]
  if pget s 0x4050 0 ≤ i.balRun ∧ ¬ i.tripped then ans (imdTrip k 2 ((i.estimate.getD 0).floor.toNat) s) else ans s

/-- EFI_COUPLING_FAULT (R363). -/
def execEfiCouplingFault (k : Fin 8) (s : State) : Outcome State Fault Refusal :=
  let i := s.efi.imd[k]
  if 80 ≤ i.coupRun ∧ ¬ i.coupling then
    let arg := leNat (leSat 2 (roundRat i.coupSum).toNat) * 2 ^ 16 + leNat (leSat 2 (roundRat i.coupV).toNat)
    let s := ev 0x99 k 0 arg (modImd k (fun i => { i with coupling := true }) s)
    if s.outlets[k].st == .cableCheck then ans (evNext 0x49 k 0 0 (stopSession k 0x07 0 s))
    else if mainClosed s k then ans (imdTrip k 4 0 s) else ans s
  else ans s

/-- REFERENCE_TEST: between coarse and full service, every 24 h on an idle port, every 60 s on a faulty one, or on
command (R365). -/
def execReferenceTest (p : Fin 4) (ok : Bool) (s : State) : Outcome State Fault Refusal :=
  let x := s.efi.ports[p]
  let f := s.frame
  if pget s 0x4048 0 / 2 ^ p.val % 2 = 1 ∧ x.outlet.isNone ∧ ¬ watching s
      ∧ (x.testing ∨ x.nextTest ≤ f) ∧ s.sys.service ≠ .bringUp then
    if ok then
      let s := modIm p (fun x => { x with testing := false, faulty := false, nextTest := frameAfter f 691200000,
                                          freeAt := frameAfter f 1 }) s
      if x.faulty ∨ x.testing then ans (ev 0x96 12 0 p s) else ans s
    else if x.faulty ∧ ¬ x.testing then ans (modIm p (fun x => { x with nextTest := frameAfter f 480000 }) s)
    else ans (portFault p 2 s)
  else ans s

/-- The insulation book of a new session (R355, R364). -/
def imdNewSession (k : Fin 8) (s : State) : State :=
  modImd k (fun i => { i with tripped := false, coupling := false, warned := false, status := 0, vref := 0, result := none,
                              cc := [], request := none, head := false }) s

/-- Entry to CABLE_CHECK: the port is requested under V_cc, in V (R355, R357). -/
def imdRequest (k : Fin 8) (vcc : Nat) (s : State) : State :=
  let f := s.frame
  modImd k (fun i => { i with vref := vcc, request := some f, cc := [], head := false }) s

/-- Entry to ENERGISING: the stale count runs from here (R361). -/
def imdEnergise (k : Fin 8) (s : State) : State :=
  let f := s.frame
  modImd k (fun i => { i with base := f, lastEnd := min i.lastEnd f }) s

/-! ### Protective earth (R366, R367) -/

/-- PE_MEASUREMENT: every 8,000 F; three above the limit fail, three at or below it clear (R366, R367). -/
def execPeMeasurement (k : Fin 8) (mOhm : Nat) (s : State) : Outcome State Fault Refusal :=
  let f := s.frame
  if pget s 0x4051 0 / 2 ^ k.val % 2 = 1 ∧ efiRuns s k ∧ s.efi.pe[k].next ≤ f then
    let bad := decide (pget s 0x4052 k < mOhm)
    let s := modPe k (fun p => { p with next := frameAfter f 8000, known := true, last := mOhm,
                                        bad := if bad then p.bad + 1 else 0, good := if bad then 0 else p.good + 1 }) s
    let p := s.efi.pe[k]
    if 3 ≤ p.bad ∧ ¬ p.failed then
      let s := evNext 0x97 k 0 mOhm (modPe k (fun p => { p with failed := true }) s)
      ans (if mainClosed s k then tripOutlet k s else s)
    else if 3 ≤ p.good ∧ p.failed then ans (evNext 0x98 k 0 mOhm (modPe k (fun p => { p with failed := false }) s))
    else ans s
  else ans s

/-- A fence of outlet k: its functions stop and its port is released (R371). -/
def efiStop (k : Fin 8) (s : State) : State :=
  let s := match s.efi.imd[k].port with
    | some p => releasePort p s
    | none => s
  modPe k (fun p => { p with bad := 0, good := 0 })
    (modImd k (fun i => { i with request := none, head := false, balRun := 0, coupRun := 0 })
      (modRdc k (fun r => { r with win := [], run1 := 0, run2 := 0, run3 := 0, excRun := 0, testEnd := none, zeroed := false }) s))

/-- Waking from watch state (R371): the channels zero again and each PE check repeats its measurements. -/
def efiWake (s : State) : State :=
  let f := s.frame
  (allFin 8).foldl (fun (s : State) (k : Fin 8) =>
    modPe k (fun p => { p with bad := 0, good := 0, known := false, next := f })
      (modRdc k (fun r => { r with win := [], zeroed := false }) s)) s

/-! ### Commands (R372, R373) -/

/-- EFI_STATUS (R373). -/
def execEfiStatus (h : Hdr) (outlet : Nat) (s : State) : Outcome State Fault Refusal :=
  ans (hostCmd h 0x4040 (.efiStatus h outlet) true true [] (fun _ => if outlet < 8 then done else no 0x1104) s)

/-- The RDC-DD state of Table EFI-7. -/
def rdcCode (s : State) (k : Fin 8) : Nat :=
  let r := s.efi.rdc[k]
  if ¬ (rdcActive s k ∧ efiRuns s k) then 0 else if r.fault then 6 else if r.tripped.isSome then 5
  else if r.testEnd.isSome then 3 else if r.failed then 4 else if r.zeroed then 2 else 1

/-- The insulation state of Table EFI-7. -/
def imdCode (s : State) (k : Fin 8) : Nat :=
  let i := s.efi.imd[k]
  if ¬ isDc s k then 0 else if i.tripped then 4 else if i.port.isSome then 2
  else if i.request.isSome ∨ (imdEnergised s k ∧ i.lastEnd + pget s 0x404D 0 ≤ s.frame) then 1
  else if imdEnergised s k then 3 else 0

/-- A port's state of Table EFI-7. -/
def imCode (s : State) (p : Fin 4) : Nat :=
  let x := s.efi.ports[p]
  if pget s 0x4048 0 / 2 ^ p.val % 2 = 0 then 0 else if x.testing then 4 else if x.faulty then 5
  else match x.outlet with
    | none => 1
    | some _ => if x.cable then 3 else 2

/-- The result of EFI_STATUS (Table EFI-7). -/
def efiStatusResult (outlet : Nat) (s : State) : List Byte :=
  if hk : outlet < 8 then
    let k : Fin 8 := ⟨outlet, hk⟩
    let r := s.efi.rdc[k]
    let i := s.efi.imd[k]
    let pe := s.efi.pe[k]
    let w := rdcW s k
    let m := meanOf w r.win
    let sq := meanOf w (r.win.map fun x => x * x)
    let ac := if w ≤ r.win.length then Config.sqrtRat (max 0 (sq - m * m)) else 0
    let refused := (grantFails s true (2 * k.val)).any fun x => x.2 && (x.1 == 8 || x.1 == 9 || x.1 == 10)
    let flags := (if i.warned then 2 ^ 15 else 0) + (if r.tripped.isSome then 2 ^ 14 else 0)
      + (if refused then 2 ^ 13 else 0) + (if i.coupling then 2 ^ 12 else 0)
    leBytes 1 (rdcCode s k) ++ leBytes 1 (imdCode s k)
      ++ leBytes 1 (match i.port with
        | some p => p.val
        | none => 0xFF)
      ++ leBytes 1 (if pget s 0x4051 0 / 2 ^ k.val % 2 = 0 ∨ ¬ efiRuns s k then 0 else if pe.failed then 2 else 1)
      ++ leInt 2 (tenths r.dc) ++ leSat 2 (tenths ac).toNat ++ leInt 2 (tenths r.offset)
      ++ leSat 2 (tenths (absRat r.lastTest)).toNat
      ++ (match i.result with
        | some (v, f) => leBytes 4 v ++ leBytes 6 f
        | none => leBytes 4 0xFFFFFFFF ++ leBytes 6 0)
      ++ leSat 2 i.vref
      ++ (match i.estimate with
        | some x => leSat 4 x.floor.toNat
        | none => leBytes 4 0xFFFFFFFF)
      ++ leSat 2 pe.last ++ leBytes 2 flags ++ (allFin 4).flatMap (fun (p : Fin 4) => leBytes 1 (imCode s p)) ++ leBytes 4 0
  else []

/-- EFI_RDC_TEST during frame N (R372). -/
def rdcTestRules (outlet : Nat) (s : State) : Verdict :=
  if hk : outlet < 8 then
    let st := s.outlets[outlet].st
    if fencedDomain s outlet then no 0x4001
    else if ¬ rdcActive s ⟨outlet, hk⟩ then no 0x10A0
    else if st = .idle ∨ st = .connected ∨ st = .ended then .accept 0x0100 none id
    else no 0x1001
  else no 0x1104

/-- EFI_RDC_TEST (R351, R372). -/
def execEfiRdcTest (h : Hdr) (outlet : Nat) (s : State) : Outcome State Fault Refusal :=
  ans (hostCmd h 0x4041 (.efiRdcTest h outlet) true true [] (rdcTestRules outlet) s)

/-- EFI_RDC_TEST takes effect. -/
def applyRdcTest (outlet : Nat) (s : State) : State :=
  if hk : outlet < 8 then rdcStartTest ⟨outlet, hk⟩ s else s

/-- EFI_IMD_TEST_X during frame N (R372). -/
def imdTestRules (port : Nat) (s : State) : Verdict :=
  if hp : port < 4 then
    if pget s 0x4048 0 / 2 ^ port % 2 = 0 then no 0x10A1
    else if s.efi.ports[port].outlet.isSome then no 0x20A0
    else .accept 0x0100 none id
  else no 0x1104

/-- EFI_IMD_TEST_X (R365, R372). -/
def execEfiImdTestX (h : Hdr) (port : Nat) (s : State) : Outcome State Fault Refusal :=
  ans (hostCmd h 0x40C0 (.efiImdTestX h port) true true [] (imdTestRules port) s)

/-- EFI_IMD_TEST_X takes effect: the port is tested when no slice holds it. -/
def applyImdTest (port : Nat) (s : State) : State :=
  if hp : port < 4 then modIm ⟨port, hp⟩ (fun x => { x with testing := true }) s else s

end Sys2Proof.Machine
end

