-- ==== Sys2Proof/Machine/Outlets.lean ====
section
/-! DEFINITION. Outlets and charging sessions (chapter 05): pilot and proximity, effective limits, power-budget claims,
the session machine in its slot job, and the outlet commands. -/

namespace Sys2Proof.Machine

open Host

/-! ### Pilot and proximity (R154 to R160) -/

/-- The nominal duty of a current, in 0.01 % (R155), rounded down to the step of 0.05 %. -/
def nominalDuty (mA : Nat) : Nat := if mA ≤ 51000 then mA / 30 * 5 else (min mA 80000 + 160000) / 125 * 5

/-- The pilot input of an outlet changed. -/
def modPilot (k : Fin 8) (f : PilotIn → PilotIn) (s : State) : State := modOut k (fun o => { o with pilot := f o.pilot }) s

/-- Step 1: the pilot state stamped from a sample, or as last stamped (R156), and the runs of its filters (R157, R158).
While the device drives -12 V, the state is F; while the pads are high-impedance, it is invalid (R567). -/
def pilotStamp (k : Fin 8) (x : Option PilotSample) (s : State) : State :=
  let driven := s.outlets[k].out == .stateF
  let floating := s.outlets[k].out == .highZ
  modPilot k (fun (p : PilotIn) =>
    let cls := if driven then PilotSt.f else if floating then PilotSt.invalid else match x with
      | some y => pilotClass y.high
      | none => p.stamped
    let bad := if driven then false else match x with
      | some y => match y.low with
        | some l => decide (-10500 < l)
        | none => false
      | none => p.lowBad
    { p with stamped := cls, count := if cls = p.stamped then p.count + 1 else 1,
             lowBad := bad, diodeRun := if bad = p.diode then 0 else p.diodeRun + 1 }) s

/-- The cable rating of a proximity resistance in A (Table OUT-4): 0 no cable, 0xFE a fault. -/
def proxRating (ohms : Option Nat) : Nat := match ohms with
  | none => 0
  | some r => if 3000 < r then 0 else if 1000 ≤ r then 13 else if 440 ≤ r then 20 else if 160 ≤ r then 32
    else if 50 ≤ r then 63 else 0xFE

/-- Step 1: the proximity resistance stamped, with its filter (R159, R160). -/
def proxStamp (k : Fin 8) (x : Option (Option Nat)) (s : State) : State :=
  match x with
  | none => modPilot k (fun p => if p.proxCand = 0xFF then p else { p with proxRun := p.proxRun + 1 }) s
  | some r =>
    let c := proxRating r
    modPilot k (fun p => { p with ohms := r, proxCand := c, proxRun := if c = p.proxCand then p.proxRun + 1 else 1 }) s

/-- PILOT_STATE_ACCEPTED: a state stamped in OUT.CP.FILT consecutive frames, or a diode fault that comes or goes as long
(R157, R158). The session machine acts on it in its slot job. -/
def execPilotStateAccepted (k : Fin 8) (s : State) : Outcome State Fault Refusal :=
  let n := pget s 0x1020 k
  let p := s.outlets[k].pilot
  let idle := s.outlets[k].st == .idle
  let s := if n ≤ p.diodeRun ∧ p.lowBad ≠ p.diode then modPilot k (fun p => { p with diode := p.lowBad, diodeRun := 0 }) s else s
  if n ≤ p.count ∧ p.stamped ≠ p.accepted then
    ans (rdcPilot k p.stamped idle (modPilot k (fun p => { p with accepted := p.stamped }) s))
  else ans s

/-- PROXIMITY_ACCEPTED (R159): OUT_PROX with a new cable rating. -/
def execProximityAccepted (k : Fin 8) (s : State) : Outcome State Fault Refusal :=
  let p := s.outlets[k].pilot
  if p.proxCand ≠ 0xFF ∧ pget s 0x1020 k ≤ p.proxRun then
    if p.proxCand = 0xFE then ans (modPilot k (fun p => { p with proxFault := true }) s)
    else
      let s' := modPilot k (fun p => { p with proxFault := false, rating := p.proxCand }) s
      ans (if p.proxCand = p.rating then s' else ev 0x48 k 0 p.proxCand s')
  else ans s

/-- The accepted pilot state as reported (R158). -/
def pilotSeen (s : State) (k : Fin 8) : PilotSt :=
  let p := s.outlets[k].pilot
  if p.diode && p.accepted != .f then .diode else p.accepted

/-- Whether an AC outlet measures the proximity of its cable (R159). -/
def proxMeasured (s : State) (k : Fin 8) : Bool := isAc s k && pbool s 0x1017 k

/-- The pilot or proximity fault of an outlet by its number in OUT_PILOT_FAULT, 0 none (Table OUT-6, R177). -/
def pilotFault (s : State) (k : Fin 8) : Nat := match pilotSeen s k with
  | .e => 1
  | .invalid => 2
  | .diode => 3
  | .d => if isAc s k && pbool s 0x1016 k then 0 else 1
  | _ => if proxMeasured s k && s.outlets[k].pilot.proxFault then 4 else 0

/-- Pilot A, or a cable that is gone (R159). -/
def unplugged (s : State) (k : Fin 8) : Bool :=
  pilotSeen s k == .a || (proxMeasured s k && s.outlets[k].pilot.rating == 0)

/-! ### Effective limits (R176) -/

/-- The voltage term, mV: phases times OUT.AC.VNOM on AC, the stamped V of at least 150 V on DC and MW. -/
def limitTerm (s : State) (k : Fin 8) : Nat :=
  if isAc s k then (if outType s k = 2 then 3 else 1) * pget s 0x1015 k * 1000 else voltTerm s k

/-- A power in W as a current in mA at a voltage in mV, and back. -/
def wattsToMa (w mV : Nat) : Nat := if mV = 0 then 0 else w * 1000000 / mV
def maToWatts (mA mV : Nat) : Nat := mA * mV / 1000000

/-- The least of a list with a first entry. -/
def leastOf (x : Nat) (l : List Nat) : Nat := l.foldl min x

/-- The effective import current, mA, under given limits (R176); `cuts` takes in the budget's cuts. -/
def effImport (s : State) (k : Fin 8) (cuts : Bool) (limImp limI : Nat) : Nat :=
  let o := s.outlets[k]
  let t := limitTerm s k
  leastOf limI ([pget s 0x1001 k * 1000, wattsToMa limImp t]
    ++ (if proxMeasured s k && o.pilot.rating != 0xFF then [o.pilot.rating * 1000] else [])
    ++ o.veh.maxI.toList
    ++ (if cuts then (o.claim.cut.toList.map fun w => wattsToMa w t) ++ (o.claim.wait.toList.map fun w => wattsToMa w.1 t) else [])
    ++ (if isAc s k && s.sys.service != .full then [pget s 0x0021 0 * 100] else [])
    ++ (if s.link.hostLost && pget s 0x1011 k == 1 then [wattsToMa (pget s 0x1012 k) t] else []))

/-- Whether an outlet may export (R190). -/
def exportAllowed (s : State) (k : Fin 8) (profile : Nat) : Bool :=
  isDc s k && pbool s 0x1006 k && profile == 3 && s.outlets[k].veh.bpt

/-- The effective export current, mA, under a given limit (R176, R190). -/
def effExport (s : State) (k : Fin 8) (profile limExp : Nat) : Nat :=
  let o := s.outlets[k]
  let t := limitTerm s k
  if exportAllowed s k profile then
    leastOf (wattsToMa limExp t) ([pget s 0x1001 k * 1000, o.veh.maxDis, wattsToMa o.claim.exp t]
      ++ (o.claim.cutE.toList.map fun w => wattsToMa w t))
  else 0

/-! ### Claims (R191 to R193) -/

/-- The import and export claims limits make, W (R191). -/
def claimImp (s : State) (k : Fin 8) (limImp limI : Nat) : Nat :=
  if isAc s k then maToWatts (effImport s k false limImp limI) (limitTerm s k) else limImp
def claimExp (s : State) (k : Fin 8) (limExp : Nat) : Nat := if isAc s k then 0 else limExp

/-- The sum of the claims of the outlets other than k, import or export. -/
def claimsBut (s : State) (k : Fin 8) (exporting : Bool) : Nat :=
  (((allFin 8).filter fun (j : Fin 8) => j != k && s.outlets[j].claim.held).map fun (j : Fin 8) =>
    if exporting then s.outlets[j].claim.exp else s.outlets[j].claim.imp).foldl (· + ·) 0

/-- Whether a sum of claims stays within a grid limit (R586). -/
def withinGrid (limit x : Nat) : Bool := limit == 4294967295 || decide (x ≤ limit)

/-- Whether claims of outlet k fit the grid limits (R191). -/
def claimFits (s : State) (k : Fin 8) (imp exp : Nat) : Bool :=
  withinGrid (pget s 0x1050 0) (claimsBut s k false + imp) && withinGrid (pget s 0x1051 0) (claimsBut s k true + exp)

/-- A claim changed. -/
def modClaim (k : Fin 8) (f : Claim → Claim) (s : State) : State := modOut k (fun o => { o with claim := f o.claim }) s

/-- The deferred outlets in the order of the queue (R192). -/
def deferQueue (s : State) : List (Fin 8) :=
  sortBy (fun (a b : Fin 8) => lexLt [pget s 0x1010 a, (s.outlets[a].claim.start).getD 0, a.val]
      [pget s 0x1010 b, (s.outlets[b].claim.start).getD 0, b.val])
    ((allFin 8).filter fun (k : Fin 8) => s.outlets[k].claim.start.isSome)

/-- The queue's positions brought in line; OUT_DEFERRED for every outlet whose position changes (R192). -/
def deferPositions (s : State) : State :=
  let q := deferQueue s
  (allFin 8).foldl (fun (s : State) (k : Fin 8) =>
    let p := place k q
    if p = s.outlets[k].claim.pos then s
    else
      let s' := modClaim k (fun c => { c with pos := p }) s
      match s.outlets[k].req with
      | some r => if p = 0 then s' else evNext 0x43 k 0 (claimImp s k r.imp r.cur / 100 % 2 ^ 24 * 256 + p) s'
      | none => s') s

/-- The auxiliary channel of an outlet, if it names one (R191). -/
def outAux (s : State) (k : Fin 8) : Option (Fin 12) :=
  if h : pget s 0x1005 k < 12 then some ⟨pget s 0x1005 k, h⟩ else none

/-- Whether a start with a request is admitted (R191). -/
def admits (s : State) (k : Fin 8) (r : StartReq) : Bool :=
  claimFits s k (claimImp s k r.imp r.cur) (claimExp s k r.exp) && (match outAux s k with
    | some n => auxAdmits s n
    | none => true)

/-- The parameters a start sets (R169). -/
def startParams (k : Fin 8) (r : StartReq) : List Action :=
  [.param 0x1043 k r.profile, .param 0x1040 k r.imp, .param 0x1041 k r.exp, .param 0x1042 k r.cur,
   .param 0x1044 k (leNat (fit 16 r.session))]

/-- A start admitted in this frame: its claims, its parameters for the next frame, its channel (R169, R191). -/
def admitStart (k : Fin 8) (s : State) : State :=
  match s.outlets[k].req with
  | none => s
  | some r =>
    let f := s.frame
    let i := claimImp s k r.imp r.cur
    let e := claimExp s k r.exp
    let s := modClaim k (fun c => { c with held := true, imp := i, exp := e, since := f, fresh := f, start := none, cut := none,
                                           cutE := none, wait := none }) s
    let s := match outAux s k with
      | some n => modOut k (fun o => { o with auxOn := true }) (auxReserve n s)
      | none => s
    deferPositions (buildTxn (.params k) (startParams k r) (frameAfter f 1) s)

/-- A transition decided in this frame withdrawn, with the event that goes with it: what Table OUT-8 lets count before it. -/
def unstop (k : Fin 8) (reason event : Nat) (s : State) : State :=
  match s.outlets[k].pend with
  | some p =>
    if p.reason = some reason ∧ p.frame = s.frame then
      modGar (fun g => { g with evNext := g.evNext.filter fun (e : Nat × Nat × Nat × Nat) => !(e.1 == event && e.2.1 == k.val) })
        (modOut k (fun o => { o with pend := none }) s)
    else s
  | none => s

/-- An outlet's claims and channel released when its session is over (R191). -/
def releaseClaim (k : Fin 8) (s : State) : State :=
  let s := match outAux s k with
    | some n => if s.outlets[k].auxOn then auxOff .off n (modAux n (fun c => { c with mode := 0 }) s) else s
    | none => s
  deferPositions (modOut k (fun o => { o with claim := { pos := o.claim.pos }, auxOn := false, req := none }) s)

/-- The held claims in queue order (R193). -/
def heldOrder (s : State) : List (Fin 8) :=
  sortBy (fun (a b : Fin 8) => lexLt [pget s 0x1010 a, s.outlets[a].claim.since, a.val] [pget s 0x1010 b, s.outlets[b].claim.since, b.val])
    ((allFin 8).filter fun (k : Fin 8) => s.outlets[k].claim.held)

/-- What the claims of a running outlet come to without cuts: by its parameters, held down by a raise that waits (R170). -/
def fullImp (s : State) (k : Fin 8) : Nat :=
  leastOf (claimImp s k (pget s 0x1040 k) (pget s 0x1042 k)) (s.outlets[k].claim.wait.toList.map fun w => w.1)
def fullExp (s : State) (k : Fin 8) : Nat :=
  leastOf (claimExp s k (pget s 0x1041 k)) (s.outlets[k].claim.wait.toList.map fun w => w.2)

/-- A cut set or lifted; OUT_LIMIT_CUT with the new import claim (R193). -/
def setCut (k : Fin 8) (imp exp : Option Nat) (s : State) : State :=
  let c := s.outlets[k].claim
  if c.cut = imp ∧ c.cutE = exp then s
  else
    let full := fullImp s k
    let fullE := fullExp s k
    let now := match imp with
      | some w => min w full
      | none => full
    let nowE := match exp with
      | some w => min w fullE
      | none => fullE
    evNext 0x47 k 0 (now / 100) (modClaim k (fun c => { c with cut := imp, cutE := exp, imp := now, exp := nowE }) s)

/-- The minimum of an outlet's import claim (R193). -/
def claimMin (s : State) (k : Fin 8) : Nat := if isAc s k then maToWatts 6000 (limitTerm s k) else 0

/-- Import claims taken down by `over` W in a given order, each to its minimum or, in the last resort, to 0 (R193). -/
def cutImport (toZero : Bool) : List (Fin 8) → Nat → State → Nat × State
  | [], excess, s => (excess, s)
  | k :: r, excess, s =>
    let c := s.outlets[k].claim
    let low := if toZero then 0 else claimMin s k
    let take := if toZero ∧ ¬ isAc s k then 0 else if toZero ∧ excess ≠ 0 then c.imp else min excess (c.imp - low)
    if take = 0 then cutImport toZero r excess s
    else cutImport toZero r (excess - take) (setCut k (some (c.imp - take)) c.cutE s)

/-- Export claims taken down by `over` W (R193). -/
def cutExport : List (Fin 8) → Nat → State → State
  | [], _, s => s
  | k :: r, excess, s =>
    let c := s.outlets[k].claim
    let take := min excess c.exp
    if take = 0 then cutExport r excess s else cutExport r (excess - take) (setCut k c.cut (some (c.exp - take)) s)

/-- Cut claims restored within the room that is left, in queue order (R193). -/
def restoreCuts (order : List (Fin 8)) (s : State) : State :=
  order.foldl (fun (s : State) (k : Fin 8) =>
    let c := s.outlets[k].claim
    let grid := pget s 0x1050 0
    let gridE := pget s 0x1051 0
    let room (limit used : Nat) : Nat := if limit = 4294967295 then 2 ^ 48 else limit - used
    let full := fullImp s k
    let fullE := fullExp s k
    let imp := match c.cut with
      | none => none
      | some _ => let w := min full (room grid (claimsBut s k false)); if full ≤ w then none else some w
    let exp := match c.cutE with
      | none => none
      | some _ => let w := min fullE (room gridE (claimsBut s k true)); if fullE ≤ w then none else some w
    setCut k imp exp s) s

/-- The sum of all claims. -/
def claimSum (s : State) (exporting : Bool) : Nat :=
  ((heldOrder s).map fun (j : Fin 8) => if exporting then s.outlets[j].claim.exp else s.outlets[j].claim.imp).foldl (· + ·) 0

/-- What a claim in force comes to by the parameters, the cuts and a waiting raise; an admission or a change of this
frame stands. -/
def refreshClaim (k : Fin 8) (s : State) : State :=
  let c := s.outlets[k].claim
  if ¬ c.held ∨ s.frame ≤ c.fresh then s
  else
    modClaim k (fun c => { c with imp := leastOf (fullImp s k) c.cut.toList, exp := leastOf (fullExp s k) c.cutE.toList }) s

/-- Raises of running claims that wait, admitted whole where they fit, in queue order, after the restores (R170, R193). -/
def admitRaises (order : List (Fin 8)) (s : State) : State :=
  order.foldl (fun (s : State) (k : Fin 8) =>
    let c := s.outlets[k].claim
    let i := claimImp s k (pget s 0x1040 k) (pget s 0x1042 k)
    let e := claimExp s k (pget s 0x1041 k)
    if c.wait.isSome ∧ c.fresh < s.frame ∧ claimFits s k i e then
      modClaim k (fun c => { c with imp := leastOf i c.cut.toList, exp := leastOf e c.cutE.toList, wait := none }) s
    else s) s

/-- Slot 0: claims refreshed, cuts and restores (R193). -/
def budgetSlot (s : State) : State :=
  let s := (allFin 8).foldl (fun (s : State) (k : Fin 8) => refreshClaim k s) s
  let order := heldOrder s
  let gi := pget s 0x1050 0
  let ge := pget s 0x1051 0
  let s := if withinGrid gi (claimSum s false) then s
    else
      let (left, s) := cutImport false order.reverse (claimSum s false - gi) s
      (cutImport true order.reverse left s).2
  let s := if withinGrid ge (claimSum s true) then s else cutExport order.reverse (claimSum s true - ge) s
  deferPositions (admitRaises order (restoreCuts order s))

/-! ### The session machine -/

/-- Whether calibration state holds an outlet UNAVAILABLE (R294). -/
def calHeld (s : State) (k : Fin 8) : Bool :=
  let x := s.mtr.slots[k.val + 1]
  let z := s.mtr.slots[0]
  (x.calBand.isSome && !x.closing) || (z.calBand.isSome && !z.closing)

/-- Whether an outlet can be used (R150, R195, R196): its type, no fence, no power fail, no calibration state, and the
service level. -/
def outAvail (s : State) (k : Fin 8) : Bool :=
  !calHeld s k && decide (1 ≤ outType s k) && !fencedDomain s k && !powerFailed s && (match s.sys.service with
    | .full => true
    | .coarse => isAc s k && pget s 0x0020 0 / 2 ^ k.val % 2 == 1
    | .loader => isAc s k && pget s 0x0022 0 / 2 ^ k.val % 2 == 1
    | .bringUp => false)

/-- Whether an outlet's HPGP port cannot serve it: its loopback self-test failed (R135), the port retired (Table FLT-2), or
Agate halted (R532). -/
def portFailed (s : State) (k : Fin 8) : Bool :=
  ((decide (2 ≤ s.sys.loopFails[k]) || objRetired s 5 k) && outType s k != 4) || s.flt.agate != 0

/-- The energise condition's pilot on an AC outlet (R177, R352). -/
def acReady (s : State) (k : Fin 8) : Bool :=
  let p := pilotSeen s k
  (p == .c || (p == .d && pbool s 0x1016 k)) && decide (6000 ≤ s.outlets[k].effImp)
    && (!rdcActive s k || s.efi.rdc[k].passed)

/-- The energise transaction of an outlet (R177, R183), committed for the next frame. -/
def energise (k : Fin 8) (s : State) : State :=
  let o := s.outlets[k]
  let acts : List Action := [.contactor (soMain1 k) true, .contactor (soMain2 k) true]
    ++ (if isDc s k then Action.contactor (soPre k) false :: (servingGroups s k).map fun (g : Fin 16) => .pgSetpoint g o.veh.target 0
      else [])
  goTo k .energising (buildTxn (.energise k) acts (frameAfter s.frame 1) s)

/-- The link of a session fails (Table OUT-6): an AC outlet falls back to basic after 2,400 F of static +12 V; a DC or MW
outlet ends. -/
def linkFails (k : Fin 8) (s : State) : State :=
  if isAc s k then
    let e := frameAfter s.frame 2401
    modOut k (fun o => { o with basicOnly := true, timers := { o.timers with fallback := match o.timers.fallback with
      | some x => some x
      | none => some e } }) s
  else stopSession k 0x0C 0 s

/-- Both main contactors are driven off and confirmed open (Table OUT-6). -/
def mainsOpen (s : State) (k : Fin 8) : Bool :=
  !mainClosed s k && !s.garnet.outs[soMain1 k].driven && !s.garnet.outs[soMain2 k].driven

/-- The window of a main contactor's closing expired unconfirmed (Table OUT-6). -/
def mainMissed (s : State) (k : Fin 8) : Bool :=
  s.txn.txns.any fun (t : Txn) => t.actions.any fun (x : TxnAction) =>
    (x.act == .contactor (soMain1 k) true || x.act == .contactor (soMain2 k) true) && !x.confirmed && expired x.window s.frame

/-- V_cc of a cable check, V (R181). -/
def cableVolts (s : State) (k : Fin 8) : Nat := min (s.outlets[k].veh.vMax / 1000) (pget s 0x1002 k)

/-- CABLE_CHECK decided: the precharge contactor closes at the next frame (R181). -/
def toCableCheck (k : Fin 8) (s : State) : State :=
  goTo k .cableCheck (buildTxn (.precharge k) [.contactor (soPre k) true] (frameAfter s.frame 1) s)

/-- A stop for a limit pause or by pilot B on an AC outlet in CHARGING (R176, R177). -/
def pauseStop (k : Fin 8) (limit : Bool) (s : State) : State :=
  openOutlet k 0 (pendTo k { dest := .stopping, pause := true, limitPause := limit, frame := s.frame } s)

/-- A weld of an outlet (R188): OUT_WELD, and FAULT with reason 0x0A; one report until the outlet returns. -/
def weldFound (k : Fin 8) (finding : Nat) (s : State) : State :=
  if s.outlets[k].welded then s
  else
    let s := evNext 0x41 k 0 finding (modOut k (fun o => { o with welded := true }) s)
    if s.outlets[k].st = .fault then modOut k (fun o => { o with reason := 0x0A }) s
    else faultSession k 0x0A s

/-- Trips of Garnet act on the session in the frame after them (R164, R349). -/
def tripEval (k : Fin 8) (s : State) : State :=
  match s.garnet.trips[k] with
  | none => s
  | some f => if f < s.frame then faultSession k 0x11 (modGar (fun g => { g with trips := g.trips.set k none }) s) else s

/-- The current setpoint moved towards its target by at most a ramp, through 0 (R184, R190). -/
def rampTo (step : Nat) (target now : Int) : Int :=
  let goal : Int := if (0 < now ∧ target < 0) ∨ (now < 0 ∧ 0 < target) then 0 else target
  if now ≤ goal then min goal (now + step) else max goal (now - step)

/-- The voltage and current an outlet gives its groups (R181 to R186, R217, R220). -/
def setpoints (k : Fin 8) (s : State) : State :=
  if ¬ isDc s k then s
  else
    let o := s.outlets[k]
    let pre : Int := (pget s 0x1032 k : Int)
    let put (v : Nat) (i : Int) (s : State) : State := modOut k (fun o => { o with spMv := v, spMa := i }) s
    let wait (v : Nat) (s : State) : State :=
      if busFree s k then put v pre (modOut k (fun o => { o with noGroup := false }) s)
      else if o.noGroup then put 0 0 s
      else put 0 0 (ev 0x59 k 0 0 (modOut k (fun o => { o with noGroup := true }) s))
    match o.st with
    | .cableCheck => wait (cableVolts s k * 1000) s
    | .precharge => wait (if o.veh.asked then o.veh.target else o.spMv) s
    | .ready => if deviceDriven s k then put o.veh.target pre s else s
    | .energising => put o.veh.target 0 s
    | .charging =>
      if deviceDriven s k then
        let hi : Int := (min o.effImp (poolCapacity s k false) : Nat)
        let lo : Int := -((min o.effExp (poolCapacity s k true) : Nat) : Int)
        let t := clampI lo hi o.veh.current
        put o.veh.target (clampI lo hi (rampTo (pget s 0x1035 k) t o.spMa)) s
      else s
    | .weldCheck => if o.weldStep = 1 then put (pget s 0x1037 k * 1000) 1000 s else put 0 0 s
    | .stopping => put o.spMv 0 s
    | _ => put 0 0 s

/-- The effective limits recomputed (R176) and the grace that a reduction gives (R180). -/
def limitsSlot (k : Fin 8) (s : State) : State :=
  let e := effImport s k true (pget s 0x1040 k) (pget s 0x1042 k)
  let x := effExport s k (pget s 0x1043 k) (pget s 0x1041 k)
  let g := s.frame + pget s 0x101B k
  modOut k (fun o => { o with effImp := e, effExp := x, graceEnd := if e < o.effImp then g else o.graceEnd }) s

/-- What a session state does when no fault and no unplugging stands (Table OUT-6). -/
def sessionRun (k : Fin 8) (s : State) : State :=
  let o := s.outlets[k]
  let p := pilotSeen s k
  let basic := !outHlc s k
  match o.st with
  | .idle =>
    if o.forced.isNone ∧ (p = .b ∨ p = .c ∨ p = .d) then
      if isAc s k ∧ (¬ pbool s 0x1003 k ∨ s.sys.service ≠ .full ∨ portFailed s k) then
        goTo k .connected (modOut k (fun o => { o with basicOnly := true }) s)
      else goTo k .linking s
    else s
  | .connected =>
    if o.forced.isSome then s else if o.claim.held then goTo k .ready s
    else if o.claim.start.isSome then goTo k .deferred s else s
  | .linking =>
    if o.timers.fallback.isSome then (if o.claim.start.isSome ∧ ¬ o.claim.held then goTo k .deferred s else s)
    else if o.claim.start.isSome then goTo k .deferred s
    else if o.veh.authStep then goTo k (if o.claim.held then .parameters else .authorising) s else s
  | .authorising =>
    if o.claim.start.isSome then goTo k .deferred s
    else if o.claim.held ∧ o.timers.fallback.isNone then goTo k .parameters s else s
  | .deferred => if o.claim.held then goTo k (if basic then .ready else .parameters) s else s
  | .ready =>
    if isAc s k then
      if o.effImp < 6000 then pendTo k { dest := .paused, limitPause := true, frame := s.frame } s
      else if deviceDriven s k ∧ acReady s k then energise k s else s
    else if deviceDriven s k ∧ o.veh.start ∧ p = .c ∧ o.preFlag then energise k s else s
  | .energising =>
    if deviceDriven s k then s
    else if fbClosed s (soMain1 k) && fbClosed s (soMain2 k) then
      let s := goTo k .charging s
      if isDc s k && s.garnet.outs[soPre k].driven then
        buildTxn (.precharge k) [.contactor (soPre k) false] (frameAfter s.frame 1) s
      else s
    else if mainMissed s k || !s.garnet.outs[soMain1 k].driven || !s.garnet.outs[soMain2 k].driven then stopSession k 0x09 0 s else s
  | .charging =>
    if isAc s k then (if p = .b then pauseStop k false s else if o.effImp < 6000 then pauseStop k true s else s)
    else if p = .b then stopSession k 0x03 0 s else s
  | .paused =>
    if o.limitPause then (if 6000 ≤ o.effImp then goTo k .ready s else s)
    else if deviceDriven s k ∧ acReady s k then energise k s else s
  | .stopping =>
    let s := if o.timers.acStop.isSome ∧ p = .b then openOutlet k o.reason s else s
    if mainsOpen s k ∧ ((soLive s k).isEmpty ∨ s.outlets[k].stopBuilt) then goTo k .weldCheck s else s
  | .fault =>
    if o.timers.faultHold.isSome then s
    else if p = .a then goTo k .idle s else if p = .b ∧ o.reason ≠ 0x0A then goTo k .ended s else s
  | _ => s

/-- The triggers of a frame evaluated (R162): trips, pilot and proximity faults, unplugging, then the state's own. -/
def sessionEval (k : Fin 8) (s : State) : State :=
  let o := s.outlets[k]
  if o.st = .unavailable then s
  else
    let s := tripEval k s
    let n := pilotFault s k
    if n ≠ 0 ∧ sessLive o.st then
      if (s.outlets[k].pend.map (·.dest)) = some .fault then s else evNext 0x45 k 0 n (faultSession k 0x05 s)
    else if unplugged s k ∧ decide (2 ≤ sessCode o.st) ∧ sessLive o.st ∧ o.forced.isNone then
      let s := unplugSession k s
      if o.st = .stopping ∧ s.outlets[k].pend.isNone then sessionRun k s else s
    else if (s.outlets[k].pend).isSome then s
    else sessionRun k s

/-- Step 1 of an outlet: the runs that its stamps feed: precharge (R182), overcurrent (R180). -/
def sessionCount (k : Fin 8) (s : State) : State :=
  let o := s.outlets[k]
  let within := o.meas.ok && o.veh.asked && decide ((o.meas.v - (o.veh.target : Int)).natAbs ≤ pget s 0x1031 k * 1000)
  let counts := o.st == .precharge || o.st == .ready
  let hold := pget s 0x1034 k
  let limit := o.effImp * pget s 0x1019 k / 100
  let excess := o.st == .charging && isAc s k && o.meas.ok && decide (o.graceEnd ≤ s.frame) && o.meas.phase.any fun x => decide (limit < x)
  modOut k (fun (o : Outlet) =>
    let run := if counts && within then o.preRun + 1 else 0
    { o with preRun := run,
             preFlag := if o.st = .ready then (if within then o.preFlag || decide (hold ≤ run) else false)
               else if o.st = .precharge && !within then false else o.preFlag,
             ovcRun := if excess then o.ovcRun + 1 else 0 }) s

/-! ### States entered at step 6 -/

/-- The timers a state starts (R24, R162). -/
def stateTimers (s : State) (k : Fin 8) (st : Sess) (reason : Nat) : OutTimers :=
  let f := s.frame
  let t (id : Nat) : Option Nat := some (f + pget s id k)
  match st with
  | .authorising => { auth := if pget s 0x1014 k = 0 then none else t 0x1014 }
  | .deferred => { defer := if pget s 0x1013 k = 0 then none else t 0x1013 }
  | .cableCheck => { cable := t 0x1030 }
  | .precharge => { pre := t 0x1033 }
  | .stopping =>
    if isDc s k then { dcStop := t 0x1036 } else if reason = 0x01 ∧ ¬ outHlc s k then { acStop := t 0x1018 } else {}
  | .weldCheck => if isDc s k then { discharge := some (f + 8000) } else { weld := t 0x1039 }
  | .fault => { faultHold := some (f + 8000) }
  | _ => {}

/-- Whether a session is over in a state: claims are released (R191). -/
def sessOver (st : Sess) : Bool := st == .unavailable || st == .idle || st == .ended || st == .fault

/-- A state entered at step 6 of this frame (Tables OUT-5 to OUT-7), with OUT_STATE. -/
def enterState (k : Fin 8) (p : Pend) (s : State) : State :=
  let o := s.outlets[k]
  let old := o.st
  let st := p.dest
  let f := s.frame
  let fresh := ((old == .idle || old == .unavailable) && (st == .connected || st == .linking)) || (old == .ended && st == .authorising)
  let running := old == .stopping || old == .weldCheck
  let had := if fresh then 0 else o.reason
  let reason := match p.reason with
    | none => had
    | some r => if running ∧ had ≠ 0 ∧ stopRank had ≤ stopRank r then had else r
  let told := match p.reason with
    | some _ => reason
    | none => if running then reason else 0
  let host := if fresh then 0 else if p.reason = some 0x01 then p.hostReason else o.hostReason
  let timers := stateTimers s k st told
  let excess := sessOver st
  let s := modOut k (fun (o : Outlet) => { o with
    st := st, entered := f, reason := reason, hostReason := host, pend := none, timers := timers,
    pause := if st = .stopping then p.pause else if st = .weldCheck then o.pause else false
    limitPause := if st = .stopping ∨ st = .paused then p.limitPause || (st == .paused && o.limitPause)
      else if st = .weldCheck then o.limitPause else false
    origin := if st = .deferred then old else o.origin
    preFlag := if st = .ready ∨ st = .energising then o.preFlag else false
    preRun := 0, weldStep := 0, ovcRun := 0, stopBuilt := if st = .weldCheck then o.stopBuilt else o.stopBuilt && st == .stopping
    noGroup := if st = .precharge ∧ old = .cableCheck then o.noGroup else false
    spMa := if st = .stopping ∨ st = .energising then 0 else o.spMa
    basicOnly := if excess then false else o.basicOnly
    welded := if st = .idle ∧ old = .unavailable then false else o.welded
    veh := if fresh then { authStep := o.veh.authStep } else { o.veh with start := o.veh.start && !(excess || st == .stopping),
                                                                           authStep := o.veh.authStep && !excess } }) s
  let s := if fresh then imdNewSession k s else s
  let s := if st = .cableCheck then imdRequest k (cableVolts s k) s else if st = .energising then imdEnergise k s else s
  let s := if st = .stopping then poolZero k s else if st = .cableCheck then distribute k (setpoints k s) else s
  let s := if excess then releaseClaim k s else if old = .deferred ∧ st ≠ .deferred then
      deferPositions (modClaim k (fun c => { c with start := none }) s) else s
  if old = st then s
  else ev 0x40 k (if told = 0x01 then host * 256 else 0)
    (told * 2 ^ 24 + pilotCode (pilotSeen s k) * 2 ^ 16 + sessCode old * 256 + sessCode st) s

/-- Step 6: transitions decided in earlier frames take effect (R162). -/
def applyPends (s : State) : State :=
  (allFin 8).foldl (fun (s : State) (k : Fin 8) => match s.outlets[k].pend with
    | some p => if p.frame < s.frame then enterState k p s else s
    | none => s) s

/-- Step 6: outlets that have become usable enter IDLE; a type of 0 is UNAVAILABLE (R150, R151, R195, R196). -/
def outletsAvail (s : State) : State :=
  (allFin 8).foldl (fun (s : State) (k : Fin 8) =>
    let st := s.outlets[k].st
    if st = .unavailable ∧ outAvail s k ∧ ¬ s.outlets[k].welded then
      enterState k { dest := .idle, frame := s.frame } (modOut k (fun o => { o with forced := none }) s)
    else if st = .idle ∧ outType s k = 0 then
      enterState k { dest := .unavailable, frame := s.frame } (modOut k (fun o => { o with forced := none }) s)
    else s) s

/-- What a session state drives the pilot with (Table OUT-5, R176, R178, R179); none: as before. -/
def pilotWanted (s : State) (k : Fin 8) : Option PilotOut :=
  let o := s.outlets[k]
  let hlc := outHlc s k
  let duty : PilotOut := if hlc then .pwm 500 else if o.effImp < 6000 then .static12 else .pwm (nominalDuty o.effImp)
  match o.forced with
  | some x => some x
  | none =>
    if o.timers.fallback.isSome then some .static12
    else match o.st with
      | .unavailable => some .stateF
      | .idle => some .static12
      | .connected => some .static12
      | .linking => some (.pwm 500)
      | .authorising => some (.pwm 500)
      | .deferred => some (if hlc then .pwm 500 else .static12)
      | .parameters => some (.pwm 500)
      | .cableCheck => some (.pwm 500)
      | .precharge => some (.pwm 500)
      | .ready => some duty
      | .energising => some duty
      | .charging => some duty
      | .paused => some (if o.limitPause then .static12 else duty)
      | .stopping => if o.timers.acStop.isSome then some .static12 else none
      | .weldCheck => none
      | .ended => some .static12
      | .fault => some (if o.timers.faultHold.isSome then .stateF else .static12)

/-- Step 6: the pilot outputs (R154): a static level at once, PWM and its duty at the first period start. -/
def pilotOutputs (s : State) : State :=
  (allFin 8).foldl (fun (s : State) (k : Fin 8) =>
    let f := s.frame
    let s := match pilotWanted s k with
      | none => s
      | some (.pwm d) => modOut k (fun o => if o.out = .highZ then o else { o with outNext := some (.pwm d) }) s
      | some x => modOut k (fun o => if o.out = .highZ then o else { o with out := x, outNext := none }) s
    if f % 8 = k.val then modOut k (fun o => match o.outNext with
      | some x => { o with out := x, outNext := none }
      | none => o) s
    else s) s

/-! ### Rows of the session machine -/

/-- DEFERRED_ADMISSION: slot 0 tries the head of the deferral queue (R192); admission stands against the expiry of its
timer (R165). -/
def execDeferredAdmission (s : State) : Outcome State Fault Refusal :=
  match deferQueue s with
  | [] => ans s
  | k :: _ =>
    match s.outlets[k].req with
    | none => ans s
    | some r =>
      let s' := unstop k 0x0E 0xFF s
      if s.outlets[k].st = .deferred ∧ s'.outlets[k].pend.isNone ∧ ¬ startsHeld s ∧ admits s k r then ans (admitStart k s') else ans s

/-- AUTH_TIMEOUT (Table OUT-6): a start of the same frame is in time (R165). -/
def execAuthTimeout (k : Fin 8) (s : State) : Outcome State Fault Refusal :=
  let o := s.outlets[k]
  if o.st = .authorising ∧ expired o.timers.auth s.frame ∧ ¬ o.claim.held ∧ o.claim.start.isNone then
    ans (pendTo k { dest := .ended, reason := some 0x06, frame := s.frame } s)
  else ans s

/-- DEFERRAL_TIMEOUT (R192). -/
def execDeferralTimeout (k : Fin 8) (s : State) : Outcome State Fault Refusal :=
  let o := s.outlets[k]
  if o.st = .deferred ∧ expired o.timers.defer s.frame ∧ ¬ o.claim.held then
    ans (pendTo k { dest := .ended, reason := some 0x0E, frame := s.frame } s)
  else ans s

/-- BASIC_FALLBACK: the static +12 V of a failed link ends (Table OUT-6). -/
def execBasicFallback (k : Fin 8) (s : State) : Outcome State Fault Refusal :=
  let o := s.outlets[k]
  if (o.st = .linking ∨ o.st = .authorising) ∧ expired o.timers.fallback s.frame ∧ o.pend.isNone then
    ans (goTo k .connected s)
  else ans s

/-- CABLE_CHECK_TIMEOUT (Table OUT-6); a pass or a fail of the same frame counts before it (R165, R370). -/
def execCableCheckTimeout (k : Fin 8) (s : State) : Outcome State Fault Refusal :=
  let o := s.outlets[k]
  if o.st = .cableCheck ∧ expired o.timers.cable s.frame ∧ o.pend.isNone then
    ans (evNext 0x49 k 0 0xFFFFFFFF (stopSession k 0x07 0 s))
  else ans s

/-- PRECHARGE_COMPLETE (R182): V within the tolerance in OUT.DC.PRE.HOLD frames; the flag counts before the timeout. -/
def execPrechargeComplete (k : Fin 8) (s : State) : Outcome State Fault Refusal :=
  let o := s.outlets[k]
  if o.st = .precharge ∧ pget s 0x1034 k ≤ o.preRun then
    ans (goTo k .ready (modOut k (fun o => { o with preFlag := true }) (unstop k 0x08 0x4A s)))
  else ans s

/-- PRECHARGE_TIMEOUT (Table OUT-6). -/
def execPrechargeTimeout (k : Fin 8) (s : State) : Outcome State Fault Refusal :=
  let o := s.outlets[k]
  if o.st = .precharge ∧ expired o.timers.pre s.frame ∧ o.pend.isNone then
    ans (evNext 0x4A k 0 (o.meas.v.toNat / 100) (stopSession k 0x08 0 s))
  else ans s

/-- AC_STOP_TIMEOUT (R179). -/
def execAcStopTimeout (k : Fin 8) (s : State) : Outcome State Fault Refusal :=
  let o := s.outlets[k]
  if o.st = .stopping ∧ expired o.timers.acStop s.frame then ans (openOutlet k o.reason s) else ans s

/-- OUT_OVERCURRENT (R180). -/
def execOutOvercurrent (k : Fin 8) (s : State) : Outcome State Fault Refusal :=
  let o := s.outlets[k]
  if o.st = .charging ∧ isAc s k ∧ pget s 0x101A k ≤ o.ovcRun ∧ (o.pend.bind (·.reason)) ≠ some 0x0B then
    ans (evNext 0x46 k 0 ((o.meas.phase.foldl max 0) / 100) (stopSession k 0x0B 0 s))
  else ans s

/-- STOP_OPENING: the first frame with at most 2 A stamped (R185). -/
def execStopOpening (k : Fin 8) (s : State) : Outcome State Fault Refusal :=
  let o := s.outlets[k]
  if o.st = .stopping ∧ isDc s k ∧ o.meas.ok ∧ lowCurrent s k then ans (openOutlet k o.reason s) else ans s

/-- OUT_STOP_LOAD: OUT.DC.STOP.TMO expires with more than 2 A (R185). -/
def execOutStopLoad (k : Fin 8) (s : State) : Outcome State Fault Refusal :=
  let o := s.outlets[k]
  if o.st = .stopping ∧ isDc s k ∧ expired o.timers.dcStop s.frame ∧ ¬ o.stopBuilt ∧ ¬ (o.meas.ok ∧ lowCurrent s k)
      ∧ ¬ (soLive s k).isEmpty then
    ans (evNext 0x4B k 0 o.meas.i.natAbs (openOutlet k o.reason s))
  else ans s

/-- The test voltage of a weld check from the next frame on (R186, step 2). -/
def weldTest (k : Fin 8) (s : State) : State :=
  let e := frameAfter s.frame (1 + pget s 0x1039 k)
  modOut k (fun o => { o with weldStep := 1, timers := { o.timers with discharge := none, weld := some e } }) s

/-- WELD_CHECK_DISCHARGED: V below 60 V (R186, step 1). -/
def execWeldCheckDischarged (k : Fin 8) (s : State) : Outcome State Fault Refusal :=
  let o := s.outlets[k]
  if o.st = .weldCheck ∧ isDc s k ∧ o.weldStep = 0 ∧ o.meas.ok ∧ o.meas.v < 60000 then ans (weldTest k s) else ans s

/-- OUT_DISCHARGE: V of 60 V or more 8,000 F after entry (R186, step 1). -/
def execOutDischarge (k : Fin 8) (s : State) : Outcome State Fault Refusal :=
  let o := s.outlets[k]
  if o.st = .weldCheck ∧ isDc s k ∧ o.weldStep = 0 ∧ expired o.timers.discharge s.frame ∧ ¬ (o.meas.ok ∧ o.meas.v < 60000) then
    ans (ev 0x4C k 0 (o.meas.v.toNat / 100) (weldTest k s))
  else ans s

/-- The finding of a weld check, 0 when it passes (R186, R187). -/
def weldFinding (s : State) (k : Fin 8) : Nat :=
  let m := s.outlets[k].meas
  let thr : Int := (pget s 0x1038 k * 1000 : Nat)
  if isDc s k then
    if s.outlets[k].reason = 0x11 then (if fbClosed s (soMain1 k) then 1 else if fbClosed s (soMain2 k) then 2 else 0)
    else if m.dOk ∧ m.d < thr then 4 else if m.ok ∧ thr ≤ m.v then 3 else 0
  else if m.ok && m.rms.any fun x => decide (thr ≤ (x : Int)) then 3 else 0

/-- WELD_CHECK_EVALUATION: OUT.WELD.T expires (R186, R187); the pass leads to PAUSED, ENDED or, unplugged, IDLE. -/
def execWeldCheckEvaluation (k : Fin 8) (s : State) : Outcome State Fault Refusal :=
  let o := s.outlets[k]
  if o.st = .weldCheck ∧ expired o.timers.weld s.frame ∧ o.pend.isNone then
    let s := modOut k (fun o => { o with weldStep := 2 }) s
    match weldFinding s k with
    | 0 =>
      if o.reason = 0x04 then ans (goTo k .idle s)
      else if o.pause then ans (pendTo k { dest := .paused, limitPause := o.limitPause, frame := s.frame } s)
      else ans (goTo k .ended s)
    | n => ans (weldFound k n s)
  else ans s

/-- FAULT_HOLD_END: state F ends after 8,000 F; static +12 V (Table OUT-5). -/
def execFaultHoldEnd (k : Fin 8) (s : State) : Outcome State Fault Refusal :=
  let o := s.outlets[k]
  if o.st = .fault ∧ expired o.timers.faultHold s.frame then
    ans (modOut k (fun o => { o with timers := { o.timers with faultHold := none },
                                     out := if o.out = .highZ then .highZ else .static12, outNext := none }) s)
  else ans s

/-! ### Commands (R167 to R175) -/

/-- The outlet-specific part of the service level's check (R128, R60). -/
def outService (s : State) (k : Fin 8) (profile : Nat) : Bool :=
  s.sys.service == .full || (isAc s k && profile == 0)

/-- The state an outlet has by the stamps of its own frame (R162): as at the end of its slot job, and before it takes
effect. -/
def sessSeen (s : State) (k : Fin 8) : Sess :=
  let s' := sessionEval k s
  match s'.outlets[k].pend with
  | some p => if p.reason = some 0x06 ∨ p.dest = .authorising ∨ p.dest = .parameters ∨ p.dest = .deferred then s.outlets[k].st else p.dest
  | none => s.outlets[k].st

/-- Whether limits lie in the ranges of their parameters, and those of coarse service (R129, R168). -/
def limitsOk (s : State) (k : Fin 8) (profile imp exp cur : Nat) : Bool :=
  decide (imp ≤ 3750000) && decide (exp ≤ 3750000) && decide (cur ≤ 3000000) && (exp == 0 || profile == 3)
    && (s.sys.service == .full || !isAc s k || decide (cur ≤ pget s 0x0021 0 * 100))

/-- Whether a profile suits an outlet (R168). -/
def profileFits (s : State) (k : Fin 8) (profile : Nat) : Bool := match profile with
  | 0 => isAc s k
  | 1 => isAc s k && pbool s 0x1003 k
  | 2 => isDc s k
  | _ => isDc s k && pbool s 0x1006 k

/-- A start taken in (R168, R191, R192): admitted or deferred. AC_BASIC on an outlet with a link abandons it. -/
def takeStart (k : Fin 8) (r : StartReq) (ok : Bool) (s : State) : State :=
  let f := s.frame
  let s := unstop k 0x06 0xFF s
  let s := modOut k (fun o => { o with req := some r, forced := none }) s
  let s := if r.profile = 0 ∧ (s.outlets[k].st = .linking ∨ s.outlets[k].st = .authorising) then
      (if ok then linkFails k s else modOut k (fun o => { o with basicOnly := true }) s) else s
  if ok then admitStart k s else deferPositions (modClaim k (fun c => { c with start := some f }) s)

/-- OUT_START during frame N. -/
def outStartRules (outlet profile imp exp cur : Nat) (session : List Byte) (s : State) : Verdict :=
  if hk : outlet < 8 then
    let k : Fin 8 := ⟨outlet, hk⟩
    let st := sessSeen s k
    let r : StartReq := { profile := profile, imp := imp, exp := exp, cur := cur, session := fit 16 session }
    if 3 < profile then no 0x1101
    else if fencedDomain s outlet then no 0x4001
    else if ¬ outService s k profile then no 0x1005
    else if ¬ (st = .connected ∨ st = .linking ∨ st = .authorising) ∨ s.outlets[k].st ≠ st ∨ s.outlets[k].req.isSome
      ∨ startsHeld s then no 0x1001
    else if ¬ profileFits s k profile then no 0x1040
    else if isDc s k ∧ portFailed s k then no 0x1041
    else if ¬ limitsOk s k profile imp exp cur then no 0x1101
    else
      let ok := admits s k r
      .accept (if ok then 0x0100 else 0x0141) none (takeStart k r ok)
  else no 0x1104

/-- OUT_START (R168, R169). -/
def execOutStart (h : Hdr) (outlet profile limImp limExp cur : Nat) (session : List Byte) (s : State) :
    Outcome State Fault Refusal :=
  ans (hostCmd h 0x1000 (.outStart h outlet profile limImp limExp cur session) (session.length == 16) true []
    (outStartRules outlet profile limImp limExp cur session) s)

/-- The result of OUT_START and OUT_LIMIT (R168): the effective limits of the request, and the deferral position. -/
def outLimitsResult (outlet : Nat) (s : State) : List Byte :=
  if hk : outlet < 8 then
    let k : Fin 8 := ⟨outlet, hk⟩
    let o := s.outlets[k]
    let r := o.req.getD { profile := pget s 0x1043 k, imp := pget s 0x1040 k, exp := pget s 0x1041 k, cur := pget s 0x1042 k,
                          session := [] }
    let t := limitTerm s k
    let e := effImport s k true r.imp r.cur
    leSat 4 (maToWatts e t) ++ leSat 4 (maToWatts (effExport s k r.profile r.exp) t) ++ leSat 4 e ++ leBytes 1 o.claim.pos ++ [0, 0, 0]
  else []

/-- Whether a raised claim must wait (R170). -/
def raiseWaits (s : State) (k : Fin 8) (imp exp cur : Nat) : Bool :=
  let c := s.outlets[k].claim
  let i := claimImp s k imp cur
  let e := claimExp s k exp
  c.held && (decide (c.imp < i) || decide (c.exp < e)) && !claimFits s k i e

/-- New limits taken in (R169, R170). -/
def takeLimit (k : Fin 8) (imp exp cur : Nat) (s : State) : State :=
  let f := s.frame
  let i := claimImp s k imp cur
  let e := claimExp s k exp
  let c := s.outlets[k].claim
  let s := modOut k (fun o => { o with forced := none, req := o.req.map fun r => { r with imp := imp, exp := exp, cur := cur } }) s
  let s := if ¬ c.held then deferPositions s
    else if raiseWaits s k imp exp cur then modClaim k (fun c => { c with wait := some (c.imp, c.exp), fresh := f }) s
    else modClaim k (fun c => { c with imp := max c.imp i, exp := max c.exp e, wait := none, fresh := f }) s
  buildTxn (.params k) [.param 0x1040 k imp, .param 0x1041 k exp, .param 0x1042 k cur] (frameAfter f 1) s

/-- OUT_LIMIT during frame N (R170). -/
def outLimitRules (outlet imp exp cur : Nat) (s : State) : Verdict :=
  if hk : outlet < 8 then
    let k : Fin 8 := ⟨outlet, hk⟩
    let c := sessCode (sessSeen s k)
    let profile := match s.outlets[k].req with
      | some r => r.profile
      | none => pget s 0x1043 k
    if fencedDomain s outlet then no 0x4001
    else if s.sys.service ≠ .full ∧ ¬ isAc s k then no 0x1005
    else if c < 5 ∨ 12 < c then no 0x1001
    else if ¬ limitsOk s k profile imp exp cur then no 0x1101
    else
      let later := s.outlets[k].claim.start.isSome || raiseWaits s k imp exp cur
      .accept (if later then 0x0141 else 0) none (takeLimit k imp exp cur)
  else no 0x1104

/-- OUT_LIMIT (R170). -/
def execOutLimit (h : Hdr) (outlet limImp limExp cur : Nat) (s : State) : Outcome State Fault Refusal :=
  ans (hostCmd h 0x1002 (.outLimit h outlet limImp limExp cur) true true [] (outLimitRules outlet limImp limExp cur) s)

/-- OUT_STOP during frame N (R171). -/
def outStopRules (outlet reason : Nat) (s : State) : Verdict :=
  if hk : outlet < 8 then
    let k : Fin 8 := ⟨outlet, hk⟩
    let c := sessCode s.outlets[k].st
    if fencedDomain s outlet then no 0x4001
    else if s.sys.service ≠ .full ∧ ¬ isAc s k then no 0x1005
    else if c = 13 ∨ c = 14 then .accept 0x0001 none id
    else if 5 ≤ c ∧ c ≤ 12 then .accept 0 none (fun s => modOut k (fun o => { o with forced := none }) (stopSession k 0x01 (reason % 256) s))
    else no 0x1001
  else no 0x1104

/-- OUT_STOP (R171). -/
def execOutStop (h : Hdr) (outlet reason : Nat) (s : State) : Outcome State Fault Refusal :=
  ans (hostCmd h 0x1001 (.outStop h outlet reason) true true [] (outStopRules outlet reason) s)

/-- OUT_DENY during frame N (R172). The vehicle's authorisation step is answered with a failure. -/
def outDenyRules (outlet : Nat) (s : State) : Verdict :=
  if hk : outlet < 8 then
    let k : Fin 8 := ⟨outlet, hk⟩
    let st := s.outlets[k].st
    if fencedDomain s outlet then no 0x4001
    else if s.sys.service ≠ .full ∧ ¬ isAc s k then no 0x1005
    else if st = .linking ∨ st = .authorising then
      .accept 0 none (fun s => modOut k (fun o => { o with forced := none })
        (pendTo k { dest := .ended, reason := some 0x02, frame := s.frame }
          { s with vlk := { s.vlk with ports := upd s.vlk.ports k fun p => { p with denied := true } } }))
    else no 0x1001
  else no 0x1104

/-- OUT_DENY (R172). -/
def execOutDeny (h : Hdr) (outlet reason : Nat) (s : State) : Outcome State Fault Refusal :=
  ans (hostCmd h 0x1003 (.outDeny h outlet reason) true true [] (outDenyRules outlet) s)

/-- OUT_STATUS (R173). -/
def execOutStatus (h : Hdr) (outlet : Nat) (s : State) : Outcome State Fault Refusal :=
  ans (hostCmd h 0x1004 (.outStatus h outlet) true true [] (fun s =>
    if outlet < 8 then
      (if s.sys.service ≠ .full ∧ ¬ isAc s outlet then no 0x1005 else done)
    else no 0x1104) s)

/-- Whether a purpose is a transaction of outlet k. -/
def purposeOf (k : Fin 8) : Purpose → Bool
  | .energise j => j == k
  | .openOutlet j _ => j == k
  | .precharge j => j == k
  | .params j => j == k
  | .loader j => j == k
  | _ => false

/-- The duty a pilot output shows in OUT_STATUS. -/
def dutyCode (x : PilotOut) : Nat := match x with
  | .static12 => 10000
  | .stateF => 0
  | .pwm d => d
  | .highZ => 0

/-- The result of OUT_STATUS (Table OUT-12). -/
def outStatusResult (outlet : Nat) (s : State) : List Byte :=
  if hk : outlet < 8 then
    let k : Fin 8 := ⟨outlet, hk⟩
    let o := s.outlets[k]
    let t := limitTerm s k
    let internal := match s.txn.txns.find? fun (t : Txn) => purposeOf k t.purpose with
      | some t => t.num
      | none => 0
    let rating := if isAc s k && !pbool s 0x1017 k then pget s 0x1001 k else o.pilot.rating
    let st := sessCode o.st
    leBytes 1 st ++ leBytes 1 (pilotCode (pilotSeen s k)) ++ leBytes 1 rating ++ leBytes 1 o.reason ++ leBytes 2 (dutyCode o.out)
      ++ leBytes 1 o.claim.pos ++ leBytes 1 internal ++ leSat 4 (maToWatts o.effImp t) ++ leSat 4 (maToWatts o.effExp t)
      ++ leSat 4 o.effImp ++ leInt 4 o.meas.v ++ leInt 4 o.meas.i ++ leBytes 6 o.entered
      ++ leBytes 2 (flagWord [(15, o.preFlag), (14, decide (10 ≤ st ∧ st ≤ 14) && st != 12),
        (13, o.claim.cut.isSome || o.claim.cutE.isSome), (12, s.mtr.slots[k.val + 1].mode == 0),
        (11, !deviceDriven s k), (10, decide (o.meas.i < 0)), (9, o.pause)])
  else []

/-- OUT_PILOT_X during frame N (R174). -/
def outPilotRules (outlet mode duty : Nat) (s : State) : Verdict :=
  if hk : outlet < 8 then
    let k : Fin 8 := ⟨outlet, hk⟩
    let o := s.outlets[k]
    if 3 < mode ∨ (mode = 2 ∧ (duty % 5 ≠ 0 ∨ duty < 300 ∨ 9700 < duty)) then no 0x1101
    else if fencedDomain s outlet then no 0x4001
    else if ((o.st = .unavailable ∧ outType s k = 0) ∨ o.st = .idle ∨ o.st = .connected) ∧ o.req.isNone then done
    else no 0x1001
  else no 0x1104

/-- OUT_PILOT_X (R174). -/
def execOutPilotX (h : Hdr) (outlet mode duty : Nat) (s : State) : Outcome State Fault Refusal :=
  ans (hostCmd h 0x1080 (.outPilotX h outlet mode duty) true true [] (outPilotRules outlet mode duty) s)

/-- OUT_PILOT_X takes effect at step 6. -/
def applyOutPilot (outlet mode duty : Nat) (s : State) : State :=
  if hk : outlet < 8 then
    modOut ⟨outlet, hk⟩ (fun o => { o with forced := match mode with
      | 1 => some .static12
      | 2 => some (.pwm duty)
      | 3 => some .stateF
      | _ => none }) s
  else s

/-- The outcome of an outlet's energise transaction (Table OUT-6): CHARGING, or STOPPING with reason 0x09 and
OUT_CTR_FAIL (R198). -/
def energiseEnd (k : Fin 8) (ok : Bool) (detail so : Nat) (s : State) : State :=
  if s.outlets[k].st ≠ .energising ∧ (s.outlets[k].pend.map (·.dest)) ≠ some .energising then s
  else if ok then goTo k .charging s
  else ev 0x42 k detail so (stopSession k 0x09 0 s)

end Sys2Proof.Machine
end

