-- ==== Sys2Proof/Machine/Metrology.lean ====
section
/-! DEFINITION. The metrology engine (chapter 08): inputs and their faults, the provisional pipeline, correction, records
committed to Onyx, crossings and bands, pulses, calibration state, and the metrology reads. -/

namespace Sys2Proof.Machine

open Host

/-- The state of the metrology engine changed. -/
def modMtr (f : MtrSt → MtrSt) (s : State) : State := { s with mtr := f s.mtr }

/-- A meter slot changed. -/
def modSlot (m : Fin 9) (f : MeterSlot → MeterSlot) (s : State) : State := modMtr (fun x => { x with slots := upd x.slots m f }) s

/-- The domain of a slot's events (R302). -/
def slotDomain (m : Nat) : Nat := if m = 0 then 15 else m - 1

/-- Kind, input of a channel and nominal frequency of a slot (R269): channels 0 to 2 are V1 to V3, 3 to 6 I1 to I4. -/
def slotKind (s : State) (m : Nat) : Nat := pget s 0x3000 m
def slotInput (s : State) (m c : Nat) : Option (Fin 48) :=
  let i := pget s 0x3001 m / 2 ^ (8 * c) % 256
  if h : i < 48 then some ⟨i, h⟩ else none
def slotAc (s : State) (m : Nat) : Bool := slotKind s m == 1 || slotKind s m == 2

/-- Whether a slot is served (R270). -/
def slotServed (s : State) (m : Nat) : Bool :=
  slotKind s m != 0 && (m == 0 || (outType s (m - 1) != 0 && !watching s))

/-- The trailing window W of a slot (R278). -/
def slotW (s : State) (m : Nat) : Nat := if slotAc s m then (if pget s 0x3004 m = 0 then 160 else 400) else 8

/-- The elements of a slot's kind, and the channels a kind has (Table MTR-2). -/
def slotElements (s : State) (m : Nat) : Nat := match slotKind s m with
  | 0 => 0
  | 2 => 3
  | _ => 1
def kindHas (kind c : Nat) : Bool := match kind with
  | 1 => c == 0 || c == 3 || c == 6
  | 2 => decide (c ≤ 6)
  | 3 => c == 0 || c == 1 || c == 3
  | _ => false
def slotHas (s : State) (m c : Nat) : Bool := kindHas (slotKind s m) c

/-- The elements a channel's fault squashes (Table MTR-3), as a mask. -/
def chanElements (s : State) (m c : Nat) : Nat := match slotKind s m with
  | 1 => if c = 0 ∨ c = 3 then 1 else 0
  | 2 => if c < 3 then 2 ^ c else if c < 6 then 2 ^ (c - 3) else 0
  | 3 => if c = 0 ∨ c = 3 then 1 else 0
  | _ => 0

/-- The channels of a slot with their inputs. -/
def slotChannels (s : State) (m : Nat) : List (Nat × Fin 48) :=
  (List.range 7).filterMap fun c => if slotHas s m c then (slotInput s m c).map fun i => (c, i) else none

/-! ### Correction (R276, R288) -/

/-- One 32-bit float of a blob parameter. -/
def paramF32 (s : State) (id inst i : Nat) : Rat := f32Rat (pget s id inst / 2 ^ (32 * i) % 2 ^ 32)

/-- The valid band nearest to a band, the lower one on a tie (R288). -/
def validBand (s : State) (m b : Nat) : Option Nat :=
  (List.range 8).findSome? fun d =>
    if d ≤ b ∧ pbool s 0x301A (8 * m + (b - d)) then some (b - d)
    else if b + d < 8 ∧ pbool s 0x301A (8 * m + b + d) then some (b + d) else none

/-- The mode a slot runs in: calibrated mode without a valid band is coarse (R288). Modes: 0 coarse, 1 calibrated, 2 trial. -/
def effMode (s : State) (m : Nat) (mode band : Nat) : Nat := if mode = 1 ∧ (validBand s m band).isNone then 0 else mode

/-- A correction value of Table MTR-13, group entry `j`, element or channel `i`, for a record's mode and band. -/
def corr (s : State) (m mode band j i : Nat) : Rat :=
  match mode with
  | 0 => if j = 0 ∨ j = 1 ∨ j = 6 ∨ j = 7 then 1 else 0
  | 1 => paramF32 s (0x3010 + j) (8 * m + band) i
  | _ => paramF32 s (0x3090 + j) m i

/-- A sample with its offset and gain corrected, in V or A (R276). -/
def sampleOf (s : State) (m c : Nat) (r : PipeRec) : Rat :=
  let i := if c < 3 then c else c - 3
  let fs := if c < 3 then paramF32 s 0x3002 m i else paramF32 s 0x3003 m i
  let x := (((r.raw[c]?).getD 0 : Int) : Rat) / 8388608 * fs
  (x - corr s m r.mode r.band (if c < 3 then 2 else 3) i / 1000000 * fs) * corr s m r.mode r.band (if c < 3 then 0 else 1) i

/-- The sample of the newest record of a history, with its phase corrected (R276). -/
def chanAt (s : State) (m c : Nat) : List PipeRec → Rat
  | [] => 0
  | r :: t =>
    let ph := corr s m r.mode r.band (if c < 3 then 4 else 5) (if c < 3 then c else c - 3)
    if ph = 0 then sampleOf s m c r else Config.fracDelay (((r :: t).take 16).map (sampleOf s m c)) ph

/-- The voltage of a channel a quarter period earlier (R276): 40 F at 50 Hz. -/
def chan90 (s : State) (m c : Nat) (h : List PipeRec) : Rat :=
  if pget s 0x3004 m = 0 then chanAt s m c (h.drop 40) else Config.fracDelay ((h.take 64).map (sampleOf s m c)) 90

/-- Sum and count of a value over at most `n` records from the newest on, as long as they are valid. -/
def winSum (ok : PipeRec → Bool) (f : List PipeRec → Rat) : Nat → List PipeRec → Rat × Nat
  | 0, _ => (0, 0)
  | _, [] => (0, 0)
  | n + 1, r :: t =>
    if ok r then
      let (a, b) := winSum ok f n t
      (f (r :: t) + a, b + 1)
    else (0, 0)

/-- The mean of a value over a window of valid records, 0 for an empty window. -/
def winMean (ok : PipeRec → Bool) (f : List PipeRec → Rat) (n : Nat) (h : List PipeRec) : Rat :=
  let (a, b) := winSum ok f n h
  if b = 0 then 0 else a / b

/-- Whether an element of a record is valid. -/
def elemOk (e : Nat) (r : PipeRec) : Bool := !((r.squash[e]?).getD true)

/-- Voltage and current channels of an element. -/
def elemV (e : Nat) : Nat := e
def elemI (e : Nat) : Nat := e + 3

/-- Powers of an element at the newest record: P, Q, S and whether its current is at or above MTR.NOLOAD.I (R276, R283).
A DC slot has no reactive power. -/
def elemPower (s : State) (m e : Nat) (h : List PipeRec) : Rat × Rat × Rat × Bool :=
  let w := slotW s m
  let ok := elemOk e
  let v := chanAt s m (elemV e)
  let i := chanAt s m (elemI e)
  let r := h.headD { frame := 0, raw := [], squash := [], bad := [], band := 0, mode := 0, cycles := 0 }
  let g (j : Nat) : Rat := corr s m r.mode r.band j e
  let p := g 6 * winMean ok (fun h => v h * i h) w h - g 8
  let q := if slotKind s m = 3 then 0 else g 7 * winMean ok (fun h => chan90 s m (elemV e) h * i h) w h - g 9
  let v2 := winMean ok (fun h => v h * v h) w h
  let i2 := winMean ok (fun h => i h * i h) w h
  let im := winMean ok i w h
  let thr : Rat := (pget s 0x3009 m : Rat) / 1000
  let load := if slotKind s m = 3 then decide (thr ≤ absRat im) else decide (thr * thr ≤ i2)
  (p, q, Config.sqrtRat v2 * Config.sqrtRat i2, load)

/-- The length of a frame in seconds, from CK_MTR cycles of 5 ns (R16). -/
def cyclesSec (c : Nat) : Rat := (c : Rat) / 200000000

/-- The cable loss of a DC slot at the newest record, W (R282). -/
def slotLoss (s : State) (m : Nat) (h : List PipeRec) : Rat :=
  if slotKind s m = 3 ∧ pbool s 0x300A m then
    winMean (elemOk 0) (fun h => chanAt s m 3 h * chanAt s m 3 h) (slotW s m) h * (pget s 0x300B m : Rat) / 1000000
  else 0

/-- The record committed for the newest frame of a history (R277, R283): energies, in W·s, over the valid elements. -/
def makeRec (s : State) (m : Fin 9) (h : List PipeRec) (r : PipeRec) : MtrRec :=
  let es := (List.range (slotElements s m)).filter fun e => elemOk e r
  let ps := es.map fun e => elemPower s m e h
  let live := ps.filter fun x => x.2.2.2
  let t := cyclesSec r.cycles
  let loss := if live.isEmpty then 0 else slotLoss s m h
  let p := (live.map fun x => x.1).foldl (· + ·) 0 - loss
  let q := (live.map fun x => x.2.1).foldl (· + ·) 0
  let a := (live.map fun x => x.2.2.1).foldl (· + ·) 0
  { slot := m, frame := r.frame, eP := p * t, eQ := q * t, eS := a * t,
    quad := if 0 ≤ p then (if 0 ≤ q then 1 else 4) else (if 0 ≤ q then 2 else 3),
    loss := loss * t, valid := (es.map fun e => 2 ^ e).foldl (· + ·) 0, coarse := r.mode == 0, test := r.mode == 2,
    noLoad := live.length != ps.length, excess := r.excess, tempBad := r.tempBad, band := r.band, digest := s.mtr.slots[m].digest }

/-! ### Control values (R271, R204) -/

/-- The integer square root, by bits from `2 ^ n` down. -/
def isqrtFrom : Nat → Nat → Nat → Nat
  | 0, r, x => if (r + 1) * (r + 1) ≤ x then r + 1 else r
  | n + 1, r, x => if (r + 2 ^ (n + 1)) * (r + 2 ^ (n + 1)) ≤ x then isqrtFrom n (r + 2 ^ (n + 1)) x else isqrtFrom n r x
def isqrt (x : Nat) : Nat := isqrtFrom 32 0 x

/-- An effective value in thousandths of the unit, rounded down. -/
def rmsMilli (m2 : Rat) : Nat := isqrt (m2 * 1000000).floor.toNat

/-- The stamped control values of an outlet from its slot's samples up to the last frame (R271): RMS on AC, mean on DC. -/
def slotControl (s : State) (k : Fin 8) : OutMeas :=
  let m := k.val + 1
  let old := s.outlets[k].meas
  match s.mtr.slots[m].hist with
  | [] => { ok := false, dOk := false }
  | r :: t =>
    let h := r :: t
    let w := slotW s m
    let all : PipeRec → Bool := fun _ => true
    let bad (c : Nat) : Bool := (r.bad[c]?).getD false
    if slotAc s m then
      let n := slotElements s m
      let rms (c : Nat) : Nat := rmsMilli (winMean all (fun h => chanAt s m c h * chanAt s m c h) w h)
      let vs := (List.range n).map fun e => rms (elemV e)
      let is := (List.range n).map fun e => rms (elemI e)
      { v := (vs.headD 0 : Nat), i := (is.headD 0 : Nat), d := 0, phase := is, rms := vs,
        ok := !((List.range n).any fun e => bad (elemV e) || bad (elemI e)), dOk := true }
    else
      let mean (c : Nat) : Int := (winMean all (chanAt s m c) w h * 1000).floor
      { v := if bad 0 then old.v else mean 0, i := if bad 3 then old.i else mean 3, d := if bad 1 then old.d else mean 1,
        phase := [], rms := [], ok := !(bad 0 || bad 3), dOk := !bad 1 }

/-- Step 1: the control values of every outlet stamped. -/
def stampControls (s : State) : State :=
  (allFin 8).foldl (fun (s : State) (k : Fin 8) =>
    if slotServed s (k.val + 1) then let x := slotControl s k; modOut k (fun o => { o with meas := x }) s else s) s

/-- A control value of the pool from its input's frame average (R204): none while the input is flagged. -/
def poolValue (s : State) (input fs : Nat) : Option Int :=
  if h : input < 48 then
    let x := s.mtr.inputs[input]
    if x.faulted.isSome then none else some (((x.raw : Rat) / 8388608 * fs).floor)
  else none

/-- Step 1: bus voltages and tie currents (R204). -/
def stampPool (s : State) : State :=
  let v := Vector.ofFn fun (b : Fin 8) => poolValue s (pget s 0x1818 b) (pget s 0x1819 b)
  let i := Vector.ofFn fun (t : Fin 8) => poolValue s (pget s 0x1811 t) (pget s 0x1812 t)
  modPool (fun p => { p with busV := v, tieI := i }) s

/-- Step 1: frame averages of the inputs (R267), and their fault-free runs. -/
def stampInputs (xs : List (Fin 48 × Int)) (s : State) : State :=
  let low := s.sys.vioLow
  let s := modMtr (fun x => { x with inputs := x.inputs.map fun i => { i with goodRun := if low then 0 else min (i.goodRun + 1) 80 } }) s
  xs.foldl (fun (s : State) (y : Fin 48 × Int) => modMtr (fun x => { x with inputs := upd x.inputs y.1 fun i => { i with raw := y.2 } }) s) s

/-! ### The slot job (R267, R272, R284, R286) -/

/-- Whether an input squashes the sample of a frame (Table MTR-1). -/
def inputSquash (x : MtrInput) (frame : Nat) : Bool := match x.faulted with
  | none => false
  | some c => c != 3 || decide (frame ≤ x.until_)

/-- Which elements of a slot are squashed by inputs in a frame, as a mask. -/
def slotSquash (s : State) (m : Nat) (frame : Nat) : Nat :=
  ((slotChannels s m).map fun x => if inputSquash s.mtr.inputs[x.2] frame then chanElements s m x.1 else 0).foldl (· ||| ·) 0

/-- Records from a frame on corrected with another mode and band (R287). -/
def rework (s : State) (m from_ mode band : Nat) (h : List PipeRec) : List PipeRec :=
  h.map fun (r : PipeRec) => if from_ ≤ r.frame then
    { r with mode := effMode s m mode band, band := if mode = 1 then (validBand s m band).getD band else band } else r

/-- The mode and band from a boundary at frame `n` on: what was decided before it (R287). -/
def pendAt (x : MeterSlot) (n : Nat) : Nat × Nat :=
  (match x.pendMode with
    | some (t, v) => if t < n then v else x.mode
    | none => x.mode,
   match x.pendBand with
    | some (t, v) => if t < n then v else x.band
    | none => x.band)

/-- A boundary at frame `n` takes what is pending into force, with MTR_BAND and MTR_MODE (R287). -/
def takeBoundary (m : Fin 9) (n : Nat) (s : State) : State :=
  let x := s.mtr.slots[m]
  let (mode, band) := pendAt x n
  let old := effMode s m x.mode x.band
  let new := effMode s m mode band
  let s' := modSlot m (fun x => { x with
    mode := mode, band := band, hist := rework s m n mode band x.hist
    pendMode := match x.pendMode with
      | some (t, v) => if t < n then none else some (t, v)
      | none => none
    pendBand := match x.pendBand with
      | some (t, v) => if t < n then none else some (t, v)
      | none => none
    calBand := if x.closing && mode != 2 then none else x.calBand
    closing := x.closing && mode == 2
    meas := if x.closing && mode != 2 then none else x.meas }) s
  let s' := if band = x.band then s' else evNext 0x75 (slotDomain m) 0 (x.band * 65536 + band * 256 + m) s'
  if new = old then s' else evNext 0x77 (slotDomain m) 0 ((new + 1) * 256 + m) s'

/-- A slot's temperature reading, °C; none when invalid (R286). -/
def slotTemp (s : State) (m : Nat) : Option Rat :=
  if pget s 0x300D m = 0 then some ((s.mtr.temp : Rat) / 10)
  else if h : pget s 0x300E m < 48 then
    let x := s.mtr.inputs[pget s 0x300E m]
    if x.faulted.isSome then none else some ((x.raw : Rat) / 8388608 * paramF32 s 0x300F m 0 + paramF32 s 0x300F m 1)
  else none

/-- Edge `i` of the temperature bands, °C. -/
def bandEdge (s : State) (i : Nat) : Rat := (signed 2 (pget s 0x300C 0 / 2 ^ (16 * i) % 65536) : Rat) / 10

/-- The average of the valid readings of 800 F. -/
def slotAverage (x : MeterSlot) : Option Rat :=
  let l := x.temps.filterMap id
  if l.isEmpty then none else some (l.foldl (· + ·) 0 / l.length)

/-- The job of slot Mk at frame N: the sample enters the pipeline, its candidate is followed, gaps whose squash is over
close (R267, R272, R273, R284). After frame P + 135 of a power fail nothing is metered (R146). -/
def slotTick (m : Fin 9) (s : State) : State :=
  if (s.sys.powerFail.map fun p => decide (p + 135 < s.frame)) = some true then s
  else if ¬ slotServed s m then modSlot m (fun x => { x with hist := [], cand := none, gaps := [], temps := [] }) s
  else
    let f := s.frame
    let x := s.mtr.slots[m]
    let chans := slotChannels s m
    let at_ (c : Nat) : Option (Fin 48) := (chans.find? fun y => y.1 == c).map (·.2)
    let raw := (List.range 7).map fun c => match at_ c with
      | some i => s.mtr.inputs[i].raw
      | none => 0
    let mask := if s.mtr.down then 7 else slotSquash s m f
    let bad := (List.range 7).map fun c => match at_ c with
      | some i => s.mtr.inputs[i].faulted.isSome
      | none => true
    let excess := chans.any fun y => s.mtr.inputs[y.2].faulted == some 3 && inputSquash s.mtr.inputs[y.2] f
    let temp := slotTemp s m
    let r0 : PipeRec := { frame := f, raw := raw, squash := (List.range 3).map fun e => mask / 2 ^ e % 2 == 1, bad := bad,
                          band := x.band, mode := x.mode, excess := excess, tempBad := temp.isNone, cycles := s.mtr.cycles }
    let v1 := sampleOf s m 0 r0
    let prev := match x.hist with
      | p :: _ => sampleOf s m 0 p
      | [] => 0
    let failed := match x.cand with
      | some n => decide (v1 < 0) || mask % 2 == 1 || decide (n + 8 ≤ f)
      | none => false
    let cand := if failed then none else match x.cand with
      | some n => some n
      | none => if slotAc s m && decide (prev < 0) && decide (0 ≤ v1) && mask % 2 == 0 && !x.hist.isEmpty then some f else none
    let hist := if failed then rework s m (x.cand.getD f) x.mode x.band x.hist else x.hist
    let (mode, band) := match cand with
      | some n => pendAt x n
      | none => (x.mode, x.band)
    let hist := rework s m f mode band (r0 :: hist)
    let closed := x.gaps.map fun (g : Gap) => if g.open_ && g.elements &&& mask == 0 then { g with open_ := false, last := f - 1 } else g
    let now := closed.filter fun (g : Gap) => !g.open_ && g.last + 1 == f
    let s := if temp.isNone ∧ ¬ x.tempBad then evNext 0x7A (slotDomain m) 0 m s else s
    let s := now.foldl (fun (s : State) (g : Gap) =>
      evNext 0x70 (slotDomain m) (min (g.last + 1 - g.first) 65535) (g.cause * 2 ^ 24 + g.input * 65536 + g.elements * 256 + m) s) s
    modSlot m (fun x => { x with hist := hist.take 1700, cand := cand, gaps := closed, temps := (temp :: x.temps).take 800,
                                 tempBad := temp.isNone }) s

/-- Slot 9: the band that a slot's averaged temperature selects becomes pending (R286, R287). -/
def bandDecide (m : Fin 9) (s : State) : State :=
  let x := s.mtr.slots[m]
  let f := s.frame
  let b := match x.pendBand with
    | some (_, v) => v
    | none => x.band
  match slotAverage x with
  | none => s
  | some t =>
    let nb := if b < 7 ∧ bandEdge s b + 1 ≤ t then b + 1 else if 0 < b ∧ t ≤ bandEdge s (b - 1) - 1 then b - 1 else b
    if nb = b ∨ x.tempBad then s
    else modSlot m (fun x => { x with pendBand := if nb = x.band then none else some (f, nb) }) s

/-! ### Commit (R27, R277, R289, R296) -/

/-- The energy a slot's pulse generator counts in a record, W·s (R289). -/
def pulseEnergy (s : State) (m : Nat) (r : MtrRec) : Rat := match pget s 0x3024 m with
  | 0 => max 0 r.eP
  | 1 => max 0 (-r.eP)
  | 2 => max 0 r.eQ
  | 3 => max 0 (-r.eQ)
  | _ => r.eS

/-- Leading edges of one record: `n` crossings of a multiple of 1/K, each 10 F after its instant, at most one a
millisecond (R289, R290). -/
def pulseEdges (step carry e : Rat) (frame : Nat) : Nat → Nat → PulseGen → PulseGen
  | 0, _, p => p
  | n + 1, j, p =>
    let frac := (step * j - carry) / e
    let t := frame * 125 + (frac * 125).floor.toNat + 1250
    let t' := match p.last with
      | some l => max t (l + 1000)
      | none => t
    pulseEdges step carry e frame n (j + 1) { p with edges := p.edges ++ [t'], last := some t', excess := p.excess || decide (t < t') }

/-- A committed record counted by the pulse generator. -/
def pulseCount (m : Fin 9) (r : MtrRec) (s : State) : State :=
  let k := pget s 0x3023 m
  let e := pulseEnergy s m r
  let step : Rat := 3600000 / k
  if e ≤ 0 ∨ k = 0 then modSlot m (fun x => { x with pulse := { x.pulse with excess := false } }) s
  else
    modSlot m (fun x =>
      let total := x.pulse.carry + e
      let n := (total / step).floor.toNat
      let p := pulseEdges step x.pulse.carry e r.frame n 1 { x.pulse with excess := false }
      { x with pulse := { p with carry := total - step * n } }) s

/-- The sums a calibration measurement takes in from a committed frame: per element V², I², P, Q, S, V, I. -/
def calSums (s : State) (m : Nat) (h : List PipeRec) : List Rat :=
  (List.range 3).flatMap fun e =>
    if e < slotElements s m then
      let v := chanAt s m (elemV e) h
      let i := chanAt s m (elemI e) h
      let (p, q, a, _) := elemPower s m e h
      [v * v, i * i, p, q, a, v, i]
    else [0, 0, 0, 0, 0, 0, 0]

/-- Two lists of sums added; an empty one counts as zeros. -/
def addSums (a b : List Rat) : List Rat := if a.isEmpty then b else List.zipWith (· + ·) a b

/-- A committed frame counted by a running calibration measurement (R296). -/
def calCount (m : Fin 9) (h : List PipeRec) (r : PipeRec) (s : State) : State :=
  let x := s.mtr.slots[m]
  match x.meas with
  | none => s
  | some c =>
    let inside := c.running && (match c.start with
        | some a => decide (a ≤ r.frame)
        | none => false) && (match c.endAt with
        | some b => decide (r.frame < b)
        | none => true)
    if ¬ inside then s
    else
      let b := x.calBand.getD 0
      let t := (slotAverage x).getD 25
      let out := (decide (0 < b) && decide (t < bandEdge s (b - 1) - 2)) || (decide (b < 7) && decide (bandEdge s b + 2 < t))
      let good := elemOk 0 r
      let sums := if good then addSums c.sums (calSums s m h) else c.sums
      modSlot m (fun x => { x with meas := some { c with frames := c.frames + 1, squash := c.squash + (if good then 0 else 1),
                                                         sums := sums, temp := c.temp + t, tempOut := c.tempOut || out } }) s

/-- Slot 9 of frame N+8: the sample of frame N committed (R27), if the slot was served then. -/
def mtrCommit (m : Fin 9) (s : State) : Option MtrRec × State :=
  if s.mtr.down then (none, s)
  else match s.mtr.slots[m].hist.dropWhile fun (r : PipeRec) => decide (s.frame < r.frame + 8) with
    | [] => (none, s)
    | r :: t =>
      if r.frame + 8 ≠ s.frame then (none, s)
      else
        let rec_ := makeRec s m (r :: t) r
        (some rec_, calCount m (r :: t) r (if rec_.valid = 0 then s else pulseCount m rec_ s))

/-! ### Rows -/

/-- The first sample a fault of this frame squashes. -/
def squashFrom (s : State) : Nat := s.frame - pget s 0x3008 0

/-- Samples of a slot's elements squashed from a frame on, and the gap they form (R272, R273): one with an open gap of
the same elements. -/
def squashSlot (m : Fin 9) (mask first cause input : Nat) (s : State) : State :=
  if mask = 0 ∨ ¬ slotServed s m then s
  else
    modSlot m (fun (x : MeterSlot) =>
      let hist := x.hist.map fun (r : PipeRec) => if first ≤ r.frame then
        { r with squash := (r.squash.zipIdx).map fun y => y.1 || mask / 2 ^ y.2 % 2 == 1 } else r
      let merge := x.gaps.any fun (g : Gap) => (g.open_ || decide (first ≤ g.last + 1)) && g.elements &&& mask != 0
      { x with hist := hist, gaps := if merge then x.gaps.map fun (g : Gap) =>
          if (g.open_ || decide (first ≤ g.last + 1)) && g.elements &&& mask != 0 then
            { g with first := min g.first first, elements := g.elements ||| mask, open_ := true } else g
        else x.gaps ++ [{ elements := mask, cause := cause, input := input, first := first, last := s.frame }] }) s

/-- The use of an input: the slots and their element masks, and the pool channel it serves (R265). -/
def inputSlots (s : State) (n : Fin 48) : List (Fin 9 × Nat) :=
  (allFin 9).filterMap fun (m : Fin 9) =>
    let used := (slotChannels s m).filter fun y => y.2 == n
    if used.isEmpty && !(pget s 0x300D m == 1 && pget s 0x300E m == n.val) then none
    else some (m, (used.map fun y => chanElements s m y.1).foldl (· ||| ·) 0)
def inputBus (s : State) (n : Fin 48) : Option (Fin 8) := (allFin 8).find? fun (b : Fin 8) => pget s 0x1818 b == n.val
def inputTie (s : State) (n : Fin 48) : Option (Fin 8) := (allFin 8).find? fun (t : Fin 8) => pget s 0x1811 t == n.val

/-- A condition of Table MTR-1 on an input, known in frame D (R268, R272). -/
def modInputFault (n : Fin 48) (cause : Nat) (s : State) : State :=
  if cause = 0 ∨ 3 < cause then s
  else
    let f := s.frame
    let x := s.mtr.inputs[n]
    let first := squashFrom s
    let c := match x.faulted with
      | some 1 => 1
      | some 2 => 2
      | _ => cause
    let new := x.faulted ≠ some c
    let s := modMtr (fun y => { y with inputs := upd y.inputs n fun i => { i with faulted := some c, goodRun := 0, until_ := f + 3 } }) s
    let s := (inputSlots s n).foldl (fun (s : State) (y : Fin 9 × Nat) => squashSlot y.1 y.2 first cause n s) s
    if ¬ new then s
    else match inputBus s n with
      | some b => evNext 0x5A b 0 (n.val * 256 + 1) s
      | none => match inputTie s n with
        | some t => evNext 0x5A (tieDomain s t) 0 (n.val * 256 + 2) s
        | none => match inputSlots s n with
          | (m, _) :: _ => evNext 0x71 (slotDomain m) 0 (cause * 256 + n.val) s
          | [] => s

/-- MTR_MOD_FAULT. -/
def execMtrModFault (n : Fin 48) (cause : Nat) (s : State) : Outcome State Fault Refusal := ans (modInputFault n cause s)

/-- MTR_MOD_OK: 80 fault-free frames (R204, R268). -/
def execMtrModOk (n : Fin 48) (s : State) : Outcome State Fault Refusal :=
  let x := s.mtr.inputs[n]
  if x.faulted.isSome ∧ 80 ≤ x.goodRun then
    let s := modMtr (fun y => { y with inputs := upd y.inputs n fun i => { i with faulted := none } }) s
    match inputSlots s n with
    | (m, _) :: _ => ans (evNext 0x72 (slotDomain m) 0 n s)
    | [] => ans s
  else ans s

/-- The crossing timeout of a slot (R285). -/
def zcTimeout (s : State) (m : Nat) : Nat := if pget s 0x3004 m = 0 then 320 else 272

/-- The instant of a crossing at frame `n`, interpolated to 1/16 sample, in frames (Table MTR-6). -/
def zcInstant (s : State) (m n : Nat) : Rat :=
  match (s.mtr.slots[m]?).map fun x => x.hist.dropWhile fun (r : PipeRec) => decide (n < r.frame) with
  | some (r :: p :: _) =>
    let a := sampleOf s m 0 r
    let b := sampleOf s m 0 p
    (n : Rat) - (if a = b then 0 else ((a / (a - b)) * 16).floor / 16)
  | _ => n

/-- ZERO_CROSSING: a candidate validated by its eighth sample (R284, R285, R287). -/
def execZeroCrossing (m : Fin 9) (s : State) : Outcome State Fault Refusal :=
  let x := s.mtr.slots[m]
  match x.cand, x.hist with
  | some n, r :: _ =>
    if slotServed s m ∧ n + 7 = s.frame ∧ r.frame = s.frame ∧ (pget s 0x3020 m : Rat) ≤ sampleOf s m 0 r then
      let cycles := if pget s 0x3004 m = 0 then 10 else 12
      let t := zcInstant s m n
      let ph := (t :: x.zcPhases).take (cycles + 1)
      let freq : Option Rat := match ph.getLast? with
        | some a => if ph.length = cycles + 1 ∧ a < t then some (cycles * 8000 / (t - a)) else none
        | none => none
      let out := freq.any fun v => decide (v < 45) || decide (66 < v)
      let s := if x.zcLost then evNext 0x74 (slotDomain m) 0 m s else s
      let s := if freq.isSome ∧ out ≠ x.freqOut then
          evNext 0x76 (slotDomain m) 0 (((freq.getD 0) * 1000).floor.toNat * 256 + m) s else s
      let s := modSlot m (fun x => { x with cand := none, lastZc := some n, zcLost := false, zcPhases := ph, freq := freq,
                                            freqOut := if freq.isSome then out else x.freqOut }) s
      let s := takeBoundary m n s
      ans (modSlot m (fun x => { x with meas := x.meas.map fun (c : CalMeas) =>
        if ¬ c.running then c
        else match c.start with
          | none => { c with start := some n }
          | some _ => if c.endAt.isSome then c
              else if c.cycles + 1 = c.count then { c with cycles := c.cycles + 1, endAt := some n } else { c with cycles := c.cycles + 1 } }) s)
    else ans s
  | _, _ => ans s

/-- MTR_ZC_LOST: the crossing timeout expires (R285); a crossing stamped at that frame counts. -/
def execMtrZcLost (m : Fin 9) (s : State) : Outcome State Fault Refusal :=
  let x := s.mtr.slots[m]
  let e := x.lastZc.getD 0 + zcTimeout s m
  let coming : Bool := match x.cand with
    | some n => decide (n ≤ e)
    | none => false
  if slotAc s m ∧ slotServed s m ∧ ¬ x.zcLost ∧ e ≤ s.frame ∧ ¬ coming then
    ans (evNext 0x73 (slotDomain m) 0 m (modSlot m (fun x => { x with zcLost := true, freq := none, zcPhases := [], harmAt := none }) s))
  else ans s

/-- SETTLE_BOUNDARY: a sample frame that is a multiple of 8,000 on a DC slot (R287, R131, R296). -/
def execSettleBoundary (m : Fin 9) (s : State) : Outcome State Fault Refusal :=
  let n := s.frame
  if slotKind s m = 3 ∧ slotServed s m ∧ n % 8000 = 0 then
    let s := takeBoundary m n s
    ans (modSlot m (fun x => { x with meas := x.meas.map fun (c : CalMeas) =>
      if ¬ c.running then c
      else match c.start with
        | none => { c with start := some n }
        | some _ => if c.endAt.isSome then c
            else if c.cycles + 1 = c.count then { c with cycles := c.cycles + 1, endAt := some n } else { c with cycles := c.cycles + 1 } }) s)
  else ans s

/-- The pins that carry a slot's pulses (R289). -/
def pulsePins (s : State) (m : Nat) : List Nat := (List.range 4).filter fun i => pget s 0x3025 i == m

/-- PULSE_OUTPUT: the leading edges due by the end of this frame (R289); MTR_PULSE_SAT once per second while the rate is
limited (R290). -/
def execPulseOutput (m : Fin 9) (s : State) : Outcome State Fault Refusal :=
  let p := s.mtr.slots[m].pulse
  let f := s.frame
  let (due, left) := p.edges.span fun t => decide (t < (f + 1) * 125)
  let s := modSlot m (fun x => { x with pulse := { x.pulse with edges := left } }) s
  let pins := pulsePins s m
  let s := due.foldl (fun (s : State) (t : Nat) => pins.foldl (fun (s : State) (i : Nat) => if s.sys.vioLow then s else emit (.pulse i t) s) s) s
  if p.excess ∧ pins ≠ [] ∧ (p.satSent.all fun t => decide (t + 8000 ≤ f)) then
    ans (evNext 0x79 (slotDomain m) 0 (pins.headD 0) (modSlot m (fun x => { x with pulse := { x.pulse with satSent := some f } }) s))
  else ans s

/-- HARMONICS_REFRESH: every MTR.HARM.PERIOD on a slot with MTR.HARM.EN (R280). -/
def execHarmonicsRefresh (m : Fin 9) (s : State) : Outcome State Fault Refusal :=
  let f := s.frame
  let x := s.mtr.slots[m]
  if slotServed s m ∧ slotAc s m ∧ pbool s 0x3021 m ∧ ¬ x.zcLost ∧ effMode s m x.mode x.band ≠ 0
      ∧ (x.harmAt.all fun t => decide (t + pget s 0x3022 0 ≤ f)) then
    ans (modSlot m (fun x => { x with harmAt := some f,
                                      harm := (List.range 7).map fun c => (List.range 63).map fun o => Config.harmonic m c (o + 1) f }) s)
  else ans s

/-! ### Reads (R299, R300) -/

/-- Whether a slot number names a slot with a kind (R299). -/
def slotNamed (s : State) (slot : Nat) : Bool := decide (slot < 9) && slotKind s slot != 0

/-- MTR_READ (R300). -/
def execMtrRead (h : Hdr) (slot : Nat) (s : State) : Outcome State Fault Refusal :=
  ans (hostCmd h 0x3000 (.mtrRead h slot) true true [] (fun s => if slotNamed s slot then done else no 0x1104) s)

/-- The mean of a value over the valid ones of the committed records of 1,600 F. -/
def readMean (ok : PipeRec → Bool) (f : List PipeRec → Rat) : Nat → List PipeRec → Rat × Rat
  | 0, _ => (0, 0)
  | _, [] => (0, 0)
  | n + 1, r :: t =>
    let (a, b) := readMean ok f n t
    if ok r then (f (r :: t) * cyclesSec r.cycles + a, cyclesSec r.cycles + b) else (a, b)

/-- A sum over a duration as a mean. -/
def ratio (x : Rat × Rat) : Rat := if x.2 = 0 then 0 else x.1 / x.2

/-- The total harmonic distortion of a channel, 0.01 % (Table MTR-6). -/
def thdOf (orders : List Nat) : Nat :=
  (Config.roundUnit (Config.sqrtRat (((orders.drop 1).map fun h => ((h * h : Nat) : Rat)).foldl (· + ·) 0))).toNat

/-- The result of MTR_READ (Table MTR-12). -/
def mtrReadResult (slot : Nat) (s : State) : List Byte :=
  if hm : slot < 9 then
    let m : Fin 9 := ⟨slot, hm⟩
    let x := s.mtr.slots[m]
    let h := x.hist.dropWhile fun (r : PipeRec) => decide (s.frame ≤ r.frame + 8)
    let win := h.take 1600
    let dc := decide (slotKind s slot = 3)
    let n := slotElements s slot
    let mean (e : Nat) (f : List PipeRec → Rat) : Rat := ratio (readMean (elemOk e) f 1600 h)
    let ch (c : Nat) (l : List PipeRec) : Rat := chanAt s slot c l
    let u (x : Rat) : Nat := (Config.roundUnit x).toNat
    let elem (e : Nat) : List Byte :=
      if e < n then
        let v := Config.sqrtRat (mean e fun l => ch e l * ch e l)
        let i := if dc then mean e (ch 3) else Config.sqrtRat (mean e fun l => ch (e + 3) l * ch (e + 3) l)
        let p := mean e fun l => (elemPower s slot e l).1
        let q := mean e fun l => (elemPower s slot e l).2.1
        let a := mean e fun l => (elemPower s slot e l).2.2.1
        leSat 4 (u ((if dc then mean e (ch 0) else v) * 1000)) ++ leInt 4 (Config.roundUnit (i * 1000))
          ++ leInt 4 (Config.roundUnit (p * 10)) ++ leInt 4 (Config.roundUnit (q * 10)) ++ leSat 4 (u (a * 10))
          ++ leInt 2 (if a = 0 then 0 else Config.roundUnit (p / a * 1000)) ++ leSat 2 (thdOf ((x.harm[e + 3]?).getD []))
      else leBytes 24 0
    let all : PipeRec → Bool := fun _ => true
    let neutral := if slotHas s slot 6 then Config.sqrtRat (ratio (readMean all (fun l => ch 6 l * ch 6 l) 1600 h)) else 0
    let live := makeRec s m h (h.headD { frame := 0, raw := [], squash := [], bad := [], band := 0, mode := 0, cycles := 0 })
    let mode := effMode s slot x.mode x.band
    let flags := flagWord [(15, live.noLoad), (14, x.zcLost), (13, x.freqOut),
      (12, win.any fun (r : PipeRec) => r.squash.any id), (11, win.any fun (r : PipeRec) => r.excess), (10, mode == 0),
      (9, x.pendBand.isSome), (8, x.calBand.isSome), (7, x.tempBad)]
    leBytes 2 flags ++ leBytes 1 x.band ++ leBytes 1 (if slotServed s slot then mode + 1 else 0)
      ++ leSat 4 (u ((x.freq.getD 0) * 1000)) ++ leInt 2 (Config.roundUnit (((slotAverage x).getD 0) * 10)) ++ leBytes 2 0
      ++ leBytes 6 ((h.head?.map (·.frame)).getD 0) ++ leBytes 2 0 ++ elem 0 ++ elem 1 ++ elem 2
      ++ leBytes 4 0 ++ leInt 4 (Config.roundUnit (neutral * 1000)) ++ leBytes 14 0 ++ leSat 2 (thdOf ((x.harm[6]?).getD []))
      ++ leInt 4 (if dc then Config.roundUnit (ratio (readMean all (ch 1) 1600 h) * 1000) else 0)
      ++ leInt 4 (Config.roundUnit (slotLoss s slot h * 10)) ++ leBytes 4 0
  else []

/-- MTR_HARM during frame N: an unassigned channel is refused (R299). -/
def mtrHarmRules (slot channel : Nat) (s : State) : Verdict :=
  if ¬ slotNamed s slot then no 0x1104
  else if 6 < channel then no 0x1101
  else if ¬ (slotHas s slot channel ∧ (slotInput s slot channel).isSome) then no 0x1170
  else done

/-- MTR_HARM. -/
def execMtrHarm (h : Hdr) (slot channel : Nat) (s : State) : Outcome State Fault Refusal :=
  ans (hostCmd h 0x3001 (.mtrHarm h slot channel) true true [] (mtrHarmRules slot channel) s)

/-- The result of MTR_HARM (Table MTR-11). -/
def mtrHarmResult (slot channel : Nat) (s : State) : List Byte :=
  match vget? s.mtr.slots slot with
  | none => []
  | some x =>
    let l := (x.harm[channel]?).getD (List.replicate 63 0)
    let ok := x.harmAt.isSome && !x.zcLost
    leBytes 6 (x.harmAt.getD 0) ++ leBytes 1 ((if ok then 128 else 0) + (if pget s 0x3004 slot = 1 then 64 else 0)) ++ [0]
      ++ leSat 4 (l.headD 0) ++ (l.drop 1).flatMap fun h => leSat 2 h

/-- The bytes of one parameter instance. -/
def paramBytes (s : State) (id inst : Nat) : List Byte := leBytes ((pinfo id).map (·.len) |>.getD 0) (pget s id inst)

/-- The bytes of a band set and of a slot's sealed configuration with its sets, in parameter ID and instance order
(R292). -/
def bandBytes (s : State) (slot b : Nat) : List Byte := (List.range 11).flatMap fun j => paramBytes s (0x3010 + j) (8 * slot + b)
def slotBytes (s : State) (slot : Nat) : List Byte :=
  ([0x3000, 0x3001, 0x3002, 0x3003, 0x3004, 0x3009, 0x300A, 0x300B, 0x300D, 0x300E, 0x300F].flatMap fun id => paramBytes s id slot)
    ++ (List.range 11).flatMap fun j => (List.range 8).flatMap fun b => paramBytes s (0x3010 + j) (8 * slot + b)

/-- The digest of a slot (R292). -/
def slotDigest (s : State) (slot : Nat) : List Byte := (sha256 (slotBytes s slot)).take 8

/-- MTR_CAL_INFO (R299). -/
def execMtrCalInfo (h : Hdr) (slot : Nat) (s : State) : Outcome State Fault Refusal :=
  ans (hostCmd h 0x3002 (.mtrCalInfo h slot) true true [] (fun s => if slotNamed s slot then done else no 0x1104) s)

/-- The result of MTR_CAL_INFO. -/
def mtrCalInfoResult (slot : Nat) (s : State) : List Byte :=
  ((List.range 8).flatMap fun b => boolByte (pbool s 0x301A (8 * slot + b)) :: leBytes 3 0 ++ (sha256 (bandBytes s slot b)).take 8)
    ++ slotDigest s slot

/-! ### Calibration state (R294 to R297) -/

/-- Whether an outlet metered by a slot is out of UNAVAILABLE and IDLE; for M0, any outlet. -/
def slotBusy (s : State) (slot : Nat) : Bool :=
  (allFin 8).any fun (k : Fin 8) => (slot == 0 || k.val + 1 == slot) && s.outlets[k].st != .unavailable && s.outlets[k].st != .idle

/-- MTR_CAL_OPEN_X during frame N (R294). -/
def calOpenRules (slot band : Nat) (s : State) : Verdict :=
  if ¬ slotNamed s slot then no 0x1104
  else if 7 < band then no 0x1101
  else if (allFin 9).any fun (m : Fin 9) => s.mtr.slots[m].calBand.isSome then no 0x1071
  else if slotBusy s slot then no 0x1001
  else if s.onyx.access.isNone then no 0x1301
  else .accept 0x0100 none id

/-- MTR_CAL_OPEN_X. -/
def execMtrCalOpenX (h : Hdr) (slot band : Nat) (s : State) : Outcome State Fault Refusal :=
  ans (hostCmd h 0x3080 (.mtrCalOpenX h slot band) true true [] (calOpenRules slot band) s)

/-- Calibration state opens at step 6: the outlets UNAVAILABLE, the trial set loaded, trial mode pending (R294). -/
def applyCalOpen (slot band : Nat) (s : State) : State :=
  if hm : slot < 9 then
    let m : Fin 9 := ⟨slot, hm⟩
    let f := s.frame
    let valid := pbool s 0x301A (8 * slot + band)
    let s := (List.range 10).foldl (fun (s : State) (j : Nat) =>
      pset (0x3090 + j) slot (if valid then pget s (0x3010 + j) (8 * slot + band) else pdefault (0x3010 + j) 0) s) s
    let s := modSlot m (fun x => { x with calBand := some band, closing := false, meas := none, measOk := false, pendMode := some (f, 2) }) s
    (allFin 8).foldl (fun (s : State) (k : Fin 8) =>
      if (slot = 0 ∨ k.val + 1 = slot) ∧ s.outlets[k].st ≠ .unavailable then enterState k { dest := .unavailable, frame := f } s else s) s
  else s

/-- Whether a slot is in calibration state for the opcodes that need it (R299). -/
def inCal (s : State) (slot : Nat) : Bool := match vget? s.mtr.slots slot with
  | some x => x.calBand.isSome && !x.closing
  | none => false

/-- Whether a measurement is running. -/
def measuring (s : State) (slot : Nat) : Bool := match vget? s.mtr.slots slot with
  | some x => x.meas.any (·.running)
  | none => false

/-- MTR_CAL_MEASURE_X during frame N (R296). -/
def calMeasureRules (slot count : Nat) (s : State) : Verdict :=
  if ¬ slotNamed s slot then no 0x1104
  else if ¬ inCal s slot then no 0x1070
  else if count = 0 ∨ (if slotAc s slot then 1000 else 100) < count then no 0x1101
  else if measuring s slot then no 0x2070
  else .accept 0x0100 none id

/-- MTR_CAL_MEASURE_X. -/
def execMtrCalMeasureX (h : Hdr) (slot count : Nat) (s : State) : Outcome State Fault Refusal :=
  ans (hostCmd h 0x3081 (.mtrCalMeasureX h slot count) true true [] (calMeasureRules slot count) s)

/-- A measurement set up; its window starts at the next crossing or boundary. -/
def applyCalMeasure (slot count : Nat) (s : State) : State :=
  if hm : slot < 9 then modSlot ⟨slot, hm⟩ (fun x => { x with meas := some { count := count } }) s else s

/-- A running measurement aborted with a status (R295, R297); MTR_CAL_DONE reports it. -/
def calAbort (m : Fin 9) (status : Nat) (s : State) : State :=
  match s.mtr.slots[m].meas with
  | some c => if c.running then
      evNext 0x78 (slotDomain m) 0 (status * 256 + m)
        (modSlot m (fun x => { x with meas := some { c with running := false, status := status } }) s) else s
  | none => s

/-- A trial value written at step 6 (R295): it aborts a running measurement and ends what a completed one allows. -/
def trialWritten (slot : Nat) (s : State) : State :=
  if hm : slot < 9 then modSlot ⟨slot, hm⟩ (fun x => { x with measOk := false }) (calAbort ⟨slot, hm⟩ 1 s) else s

/-- MTR_CAL_DONE: the last sample of the window is committed (R296). -/
def execMtrCalDone (m : Fin 9) (s : State) : Outcome State Fault Refusal :=
  match s.mtr.slots[m].meas with
  | some c =>
    match c.endAt with
    | some e =>
      if c.running ∧ e + 7 ≤ s.frame then
        let st := if c.tempOut then 3 else 0
        ans (evNext 0x78 (slotDomain m) 0 (st * 256 + m)
          (modSlot m (fun x => { x with meas := some { c with running := false, status := st }, measOk := st == 0 }) s))
      else ans s
    | none => ans s
  | none => ans s

/-- MTR_CAL_RESULT_X (R299). -/
def execMtrCalResultX (h : Hdr) (slot : Nat) (s : State) : Outcome State Fault Refusal :=
  ans (hostCmd h 0x3082 (.mtrCalResultX h slot) true true [] (fun s =>
    if ¬ slotNamed s slot then no 0x1104
    else if ¬ inCal s slot then no 0x1070
    else match vget? s.mtr.slots slot with
      | some x => if x.meas.any (fun (c : CalMeas) => !c.running) then done else no 0x1072
      | none => no 0x1072) s)

/-- The result of MTR_CAL_RESULT_X (Table MTR-9). -/
def mtrCalResult (slot : Nat) (s : State) : List Byte :=
  match vget? s.mtr.slots slot with
  | none => []
  | some x => match x.meas with
    | none => []
    | some c =>
      let n := c.frames - c.squash
      let at_ (i : Nat) : Rat := if n = 0 then 0 else ((c.sums[i]?).getD 0) / n
      let f (v : Rat) : List Byte := leBytes 4 (Config.f32Of v)
      let dc := decide (slotKind s slot = 3)
      leBytes 1 c.status ++ leBytes 1 (x.calBand.getD 0) ++ leBytes 2 0 ++ leSat 4 c.frames ++ leSat 4 c.squash
        ++ f (x.freq.getD 0) ++ f (if c.frames = 0 then 0 else c.temp / c.frames)
        ++ (List.range 3).flatMap fun e =>
          if e < slotElements s slot then
            let b := 7 * e
            f (if dc then at_ (b + 5) else Config.sqrtRat (at_ b)) ++ f (if dc then at_ (b + 6) else Config.sqrtRat (at_ (b + 1)))
              ++ f (at_ (b + 2)) ++ f (at_ (b + 3)) ++ f (at_ (b + 4)) ++ f (at_ (b + 5)) ++ f (at_ (b + 6))
          else leBytes 28 0

/-- MTR_CAL_CLOSE_X (R297). -/
def execMtrCalCloseX (h : Hdr) (slot : Nat) (s : State) : Outcome State Fault Refusal :=
  ans (hostCmd h 0x3084 (.mtrCalCloseX h slot) true true [] (fun s =>
    if ¬ slotNamed s slot then no 0x1104 else if ¬ inCal s slot then no 0x1070 else done) s)

/-- Calibration state closes: the trial set stays until the next crossing or boundary; the held outlets return to IDLE
one frame later (R297). -/
def applyCalClose (slot : Nat) (s : State) : State :=
  if hm : slot < 9 then
    let m : Fin 9 := ⟨slot, hm⟩
    let f := s.frame
    let s := calAbort m 2 s
    modSlot m (fun x => if x.mode = 2 then { x with closing := true, pendMode := some (f, 1) }
      else { x with calBand := none, closing := false, pendMode := some (f, 1) }) s
  else s

/-- Full service: every slot changes from coarse to calibrated correction at its next boundary (R131, R298). -/
def mtrFull (s : State) : State :=
  let f := s.frame
  (allFin 9).foldl (fun (s : State) (m : Fin 9) => modSlot m (fun x => { x with pendMode := some (f, 1) }) s) s

end Sys2Proof.Machine
end

