-- ==== Sys2Proof/Machine/Onyx.lean ====
section
/-! DEFINITION. Onyx (chapter 09): time, demand intervals, tariffs, registers, write sets, the legal logbook, signed
readings, legal access and the seals. -/

namespace Sys2Proof.Machine

open Host

/-- Onyx changed. -/
def modOnyx (f : OnyxSt → OnyxSt) (s : State) : State := { s with onyx := f s.onyx }

/-- What Onyx persists changed. -/
def modLive (f : OnyxLive → OnyxLive) (s : State) : State := modOnyx (fun o => { o with live := f o.live }) s

/-- Ticks of Beryl's oscillator in a second (R305). -/
def tickHz : Nat := 32768

/-- Wall time in ms as an entry carries it; none while it is invalid (R306, R331). -/
def wallNow (s : State) : Option Int := if s.onyx.wallValid then some s.onyx.wall.floor else none

/-! ### The logbook (R331) -/

/-- Entries the audit trail can still take. -/
def auditFree (s : State) : Nat := 256 - s.onyx.audit.length

/-- An entry written with given times: an audit type into the audit trail, which is never overwritten and reports its
filling; another type into the ring of the event log. -/
def logAt (type slot flags legal : Nat) (wall : Option Int) (data : List Byte) (s : State) : State :=
  let e : LogEntry := { seq := s.onyx.logSeq, type := type, slot := slot, flags := flags, legal := legal, wall := wall,
                        data := fit 8 data }
  if 0x40 ≤ type then
    if auditFree s = 0 then s
    else
      let n := s.onyx.audit.length + 1
      let s := modOnyx (fun o => { o with logSeq := o.logSeq + 1, audit := o.audit ++ [e] }) s
      if n = 256 then ev 0x88 13 0 2 s else if n = pget s 0x3806 0 then ev 0x88 13 0 1 s else s
  else
    modOnyx (fun o => { o with logSeq := o.logSeq + 1, events := (o.events ++ [e]).drop (o.events.length + 1 - 2048) }) s

/-- An entry with the times of this frame (R307). -/
def logEntry (type slot flags : Nat) (data : List Byte) (s : State) : State :=
  logAt type slot flags s.onyx.legal (wallNow s) data s

/-- The 32 bytes of an entry. -/
def LogEntry.bytes (e : LogEntry) : List Byte :=
  leBytes 4 e.seq ++ leBytes 1 e.type ++ leBytes 1 e.slot ++ leBytes 2 e.flags ++ leBytes 8 e.legal
    ++ (match e.wall with
      | some w => leInt 8 w
      | none => leBytes 8 (2 ^ 63)) ++ fit 8 e.data

/-- STATUS bits noted for every span of the slots a predicate picks (R337). -/
def markBits (p : Nat → Bool) (bits : Nat) (s : State) : State :=
  modOnyx (fun o => { o with
    spans := o.spans.map fun (x : Span) => if p x.slot then { x with bits := x.bits ||| bits } else x
    ever := Vector.ofFn fun (m : Fin 9) => if p m then o.ever[m] ||| bits else o.ever[m] }) s

/-! ### Write sets (R326, Table LEG-3) -/

/-- The registers and what goes with them persisted. -/
def persistLive (s : State) : State := modOnyx (fun o => { o with saved := { o.live with legal := o.legal } }) s

/-- A boundary write set; at power fail what changes goes into the power-fail write set (R328). -/
def writeSet (s : State) : State := if powerFailed s then s else persistLive s

/-- Whether boundaries are evaluated: Onyx is up, and no power fail was detected before this frame (R328). -/
def boundariesRun (s : State) : Bool := s.sys.onyxUp && (match s.sys.powerFail with
  | some p => decide (s.frame ≤ p)
  | none => true)

/-- A boundary at the power-fail frame noted for the power-fail record. -/
def noteEdge (s : State) : State := modOnyx (fun o => { o with pf := o.pf.map fun (p : PfBook) => { p with edge := true } }) s

/-! ### Segments and intervals (R313 to R315) -/

/-- The length of an interval in seconds. -/
def demandLen (s : State) : Nat := pget s 0x3800 0 * 60

/-- The flags a segment has from its start: fold, wall invalid. -/
def timeFlags (s : State) : Nat := (if s.onyx.fold.isSome then 2 else 0) + (if s.onyx.wallValid then 0 else 1)

/-- The running segment closed at this frame, with further flags; the interval ends with it or not. Samples of earlier
frames still go to it (R26). -/
def closeSegment (flags : Nat) (ends : Bool) (s : State) : State :=
  let o := s.onyx
  let l := o.live
  let dur := o.legal - l.intStart
  let long := if ends ∧ demandLen s * tickHz < dur then 64 else 0
  let c : Closing := { frame := s.frame, books := l.books, interval := l.interval, segment := l.segment,
                       flags := l.segFlags ||| flags ||| long, tars := l.segTars, first := l.segStart, last := o.legal,
                       ends := ends, duration := dur, tariffs := l.tariffs }
  modOnyx (fun o => { o with closings := o.closings ++ [c] }) s

/-- A new segment of the running interval. -/
def openSegment (flags : Nat) (s : State) : State :=
  let legal := s.onyx.legal
  let f := s.frame
  let fl := timeFlags s ||| flags
  modLive (fun l => { l with books := .replicate 9 {}, segment := l.segment + 1, segFrame := f, segStart := legal, segFlags := fl,
                             segTars := [l.tariff] }) s

/-- Interval `m` opened. -/
def openInterval (m flags : Nat) (s : State) : State :=
  let legal := s.onyx.legal
  let f := s.frame
  let fl := timeFlags s ||| flags
  modLive (fun l => { l with books := .replicate 9 {}, interval := m, segment := 0, segFrame := f, segStart := legal,
                             intStart := legal, segFlags := fl, segTars := [l.tariff], tariffs := [l.tariff] }) s

/-- The gap and coarse flags of the slots' books. -/
def bookFlags (b : Vector SegBook 9) : Nat :=
  (if b.toList.any (·.gap) then 8 else 0) + (if b.toList.any (·.coarse) then 4 else 0)

/-- The running interval closed and interval `m` opened (R313, R315), with LEG_INTERVAL; skipped numbers are logged. -/
def closeInterval (m flags : Nat) (s : State) : State :=
  let r := s.onyx.live.interval
  let s := closeSegment flags true s
  let fl := ((s.onyx.closings.getLast?).map fun (c : Closing) => c.flags ||| bookFlags c.books).getD 0
  let s := ev 0x80 13 fl (r % 2 ^ 32) s
  let s := if r + 1 < m then logEntry 0x0C 0xFF 0 (leBytes 4 (r + 1) ++ leBytes 4 (m - 1 - r)) s else s
  let partialStart := if s.onyx.jump = some s.frame then 32 else 0
  noteEdge (openInterval m partialStart s)

/-- Energy in units of 0.1 mWh. -/
def toUnits (e : Rat) : Rat := e * 25 / 9

/-- The demand of an interval, W (R315): over its length, or over its legal duration when that is longer. -/
def demandOf (s : State) (e : Rat) (duration : Nat) : Nat :=
  (Config.roundUnit (e * tickHz / (max duration (demandLen s * tickHz) : Nat))).toNat

/-- A maximum replaced when it is exceeded. -/
def maxTo (w n : Nat) (x : MaxDemand) : MaxDemand := if x.watts < w then { watts := w, interval := n } else x

/-- Maxima of the tariffs in force and of the total brought up to a demand. -/
def maximaTo (tars : List Nat) (w n : Nat) (v : Vector MaxDemand 17) : Vector MaxDemand 17 :=
  Vector.ofFn fun (t : Fin 17) => if t.val = 16 ∨ tars.contains t.val then maxTo w n v[t] else v[t]

/-- A profile record added to a slot's ring of 512. -/
def addProfile (m : Fin 9) (r : ProfRec) (s : State) : State :=
  modOnyx (fun o =>
    let full := decide (512 ≤ o.profiles[m].length)
    { o with profiles := upd o.profiles m fun l => (if full then l.drop 1 else l) ++ [r]
             profBase := upd o.profBase m fun b => if full then b + 1 else b }) s

/-- A closed segment whose samples have all been committed: profile records, demands, and what of it belongs to the interval
that goes on. -/
def finishClosing (c : Closing) (rest : List Closing) (s : State) : State :=
  let mask := (c.tars.eraseDups.map fun t => 2 ^ t).foldl (· + ·) 0
  let s := modOnyx (fun o => { o with closings := rest }) s
  (allFin 9).foldl (fun (s : State) (m : Fin 9) =>
    let b := c.books[m]
    let imp := b.intImp + b.segImp
    let exp := b.intExp + b.segExp
    let di := if c.ends then demandOf s imp c.duration else 0
    let de := if c.ends then demandOf s exp c.duration else 0
    let s := if slotServed s m then
        addProfile m { interval := c.interval, segment := c.segment,
                       flags := c.flags ||| (if b.gap then 8 else 0) ||| (if b.coarse then 4 else 0), tarMask := mask,
                       first := c.first, last := c.last, imp := (toUnits b.segImp).floor.toNat,
                       exp := (toUnits b.segExp).floor.toNat, squashed := b.squashed, demImp := di, demExp := de } s
      else s
    if c.ends then
      modLive (fun l => { l with regs := upd l.regs m fun g =>
        { g with mImp := maximaTo c.tariffs di c.interval g.mImp, mExp := maximaTo c.tariffs de c.interval g.mExp } }) s
    else
      let carry (x : SegBook) : SegBook := { x with intImp := x.intImp + imp, intExp := x.intExp + exp }
      match s.onyx.closings with
      | n :: t => modOnyx (fun o => { o with closings := { n with books := upd n.books m carry } :: t }) s
      | [] => modLive (fun l => { l with books := upd l.books m carry }) s) s

/-- The closings whose last samples are committed by the end of this frame, oldest first. -/
def finishClosings : Nat → State → State
  | 0, s => s
  | n + 1, s => match s.onyx.closings with
    | c :: rest => if c.frame + 7 ≤ s.frame then finishClosings n (writeSet (finishClosing c rest s)) else s
    | [] => s

/-- Every closing finished at once, for the write set before a planned reset (R329). -/
def flushClosings : Nat → State → State
  | 0, s => s
  | n + 1, s => match s.onyx.closings with
    | c :: rest => flushClosings n (finishClosing c rest s)
    | [] => s

/-- LEG_INTERVAL: step 4 (R313, R314). -/
def execLegInterval (s : State) : Outcome State Fault Refusal :=
  let l := s.onyx.live
  if ¬ boundariesRun s then ans s
  else if s.onyx.wallValid then
    let m := (s.onyx.wall / 1000 / demandLen s).floor.toNat
    if l.interval < m then ans (closeInterval m 0 s) else ans s
  else if demandLen s * tickHz ≤ s.onyx.legal - l.intStart then ans (closeInterval (l.interval + 1) 0 s)
  else ans s

/-! ### Tariffs (R316 to R320) -/

/-- The offsets of a table's chunks (R317). -/
def tableOffsets : List Nat := [0, 128, 256, 384]

/-- An entry of a table: day-type mask, tariff, minute. -/
def tableEntries (t : List Byte) : List (Nat × Nat × Nat) :=
  (List.range (u8At t 28)).map fun i => (u8At t (32 + 4 * i), u8At t (33 + 4 * i), u16At t (34 + 4 * i))

/-- A special day of a table: year, month, day, day type. -/
def tableSpecials (t : List Byte) : List (Nat × Nat × Nat × Nat) :=
  (List.range (u8At t 29)).map fun i => (u8At t (288 + 4 * i), u8At t (289 + 4 * i), u8At t (290 + 4 * i), u8At t (291 + 4 * i))

/-- Whether numbers rise. -/
def rising : List Nat → Bool
  | a :: b :: r => decide (a < b) && rising (b :: r)
  | _ => true

/-- The check of a tariff table (R317, Table LEG-4). -/
def tableOk (t : List Byte) : Bool :=
  let es := tableEntries t
  let days := (List.range 7).map (fun i => u8At t (20 + i)) ++ (tableSpecials t).map fun x => x.2.2.2
  u16At t 0 == 1 && u32At t 508 == (crc32 (t.take 508)).toNat
    && decide (1 ≤ u8At t 28) && decide (u8At t 28 ≤ 64) && decide (u8At t 29 ≤ 32)
    && es.all (fun e => decide (e.2.1 < 16) && decide (e.2.2 < 1440))
    && (List.range 8).all (fun d => rising ((es.filter fun e => e.1 / 2 ^ d % 2 == 1).map fun e => e.2.2))
    && days.all fun d => decide (d < 8) && es.any fun e => e.1 / 2 ^ d % 2 == 1 && e.2.2 == 0

/-- Year, month and day of a day number counted from 1970-01-01. -/
def civil (days : Int) : Int × Nat × Nat :=
  let z := days + 719468
  let era := z / 146097
  let doe := (z % 146097).toNat
  let yoe := (doe - doe / 1460 + doe / 36524 - doe / 146096) / 365
  let doy := doe - (365 * yoe + yoe / 4 - yoe / 100)
  let mp := (5 * doy + 2) / 153
  let d := doy - (153 * mp + 2) / 5 + 1
  let m := if mp < 10 then mp + 3 else mp - 9
  ((yoe : Int) + era * 400 + (if m ≤ 2 then 1 else 0), m, d)

/-- What a table says for the local time of the frame (R318). -/
def tableTariff (t : List Byte) (localMs : Int) : Option Nat :=
  let day := localMs / 86400000
  let minute := (localMs % 86400000).toNat / 60000
  let (y, m, d) := civil day
  let type := match (tableSpecials t).find? fun x => (x.1 == 0 || (x.1 : Int) + 2000 == y) && x.2.1 == m && x.2.2.1 == d with
    | some x => x.2.2.2
    | none => u8At t (20 + ((day + 3) % 7).toNat)
  (((tableEntries t).filter fun e => e.1 / 2 ^ type % 2 == 1 && decide (e.2.2 ≤ minute)).foldl (fun (b : Option (Nat × Nat)) e =>
    match b with
    | some x => if x.2 ≤ e.2.2 then some (e.2.1, e.2.2) else b
    | none => some (e.2.1, e.2.2)) none).map (·.1)

/-- The table's tariff at this frame; none while table evaluation is suspended for want of a time or a table (R318). -/
def evalTable (s : State) : Option Nat :=
  if s.onyx.wallValid then
    match (vget? s.onyx.tables (pget s 0x3805 0)).getD none with
    | some t => tableTariff t (s.onyx.wall.floor + psigned s 0x3804 0 2 * 60000)
    | none => none
  else none

/-- A tariff brought into force at step 5 of this frame, with LEG_TARIFF (R316). -/
def setTariff (t cause : Nat) (s : State) : State :=
  let old := s.onyx.live.tariff
  let f := s.frame
  let s := ev 0x81 13 0 (cause * 65536 + old * 256 + t) s
  if t = old then s
  else
    let s := modOnyx (fun o => { o with tarLog := (f, t) :: (if o.tarLog.isEmpty then [(0, old)] else o.tarLog.take 20) }) s
    let s := modLive (fun l =>
      let first := decide (l.segFrame = f)
      { l with tariff := t, segTars := if first then [t] else l.segTars ++ [t]
               tariffs := if first ∧ l.segment = 0 then [t] else l.tariffs ++ [t] }) s
    writeSet (noteEdge s)

/-- Step 5: the table's switch (R318, R319, R320). -/
def tableSwitch (s : State) : State :=
  if ¬ boundariesRun s ∨ s.onyx.hold ∨ s.frame < s.onyx.tarFrom then s
  else match evalTable s with
    | none => s
    | some t =>
      if s.onyx.overTable = some t then s
      else
        let cause := if s.onyx.tarFrom = s.frame then 3 else 1
        let s := modOnyx (fun o => { o with overTable := none }) s
        if t = s.onyx.live.tariff then s else setTariff t cause s

/-- LEG_TARIFF: table evaluation at step 5. -/
def execLegTariff (s : State) : Outcome State Fault Refusal := ans (tableSwitch s)

/-- A selection by command at step 5, after the table's switch (R320). -/
def selectTariff (t hold : Nat) (s : State) : State :=
  let s := tableSwitch s
  if t = 0xFF then
    let s := modOnyx (fun o => { o with hold := false, overTable := none }) s
    setTariff ((evalTable s).getD s.onyx.live.tariff) 4 s
  else
    let held := s.onyx.hold || hold == 1
    let e := evalTable s
    let s := logEntry 0x10 0xFF 0 (leBytes 1 s.onyx.live.tariff ++ leBytes 1 t ++ leBytes 1 hold) s
    let s := modOnyx (fun o => { o with hold := held, overTable := e }) s
    setTariff t 2 s

/-- TARIFF_SELECTION_APPLY: a selection for a stated frame. -/
def execTariffSelectionApply (s : State) : Outcome State Fault Refusal :=
  match s.onyx.selects.find? fun x => decide (x.1 ≤ s.frame) with
  | some (f, t, h) =>
    let s := modOnyx (fun o => { o with selects := o.selects.erase (f, t, h) }) s
    if boundariesRun s then ans (selectTariff t h s) else ans s
  | none => ans s

/-- LEG_TARIFF_SET during frame N (R320, R343). -/
def tariffSetRules (h : Hdr) (tariff hold mode frame : Nat) (s : State) : Verdict :=
  if (15 < tariff ∧ tariff ≠ 0xFF) ∨ 1 < hold ∨ 1 < mode then no 0x1101
  else if mode = 0 then done
  else match statedFrame s h frame with
    | .inl d => no d
    | .inr f => .accept 0x0100 none (modOnyx fun o => { o with selects := o.selects ++ [(f, tariff, hold)] })

/-- LEG_TARIFF_SET. -/
def execLegTariffSet (h : Hdr) (tariff hold mode frame : Nat) (s : State) : Outcome State Fault Refusal :=
  ans (hostCmd h 0x3805 (.legTariffSet h tariff hold mode frame) true true [] (tariffSetRules h tariff hold mode frame) s)

/-- A table activated by an action (cause 1) or its undo (cause 2) at step 6 (R319); it switches at step 5 of the next
frame. -/
def activateTable (slot cause : Nat) (s : State) : State :=
  let old := pget s 0x3805 0
  let s := pset 0x3805 0 slot s
  let f := s.frame
  let s := logEntry 0x45 0xFF 0 (leBytes 1 slot ++ leBytes 1 old ++ leBytes 1 cause) s
  writeSet (ev 0x87 13 0 ((cause + 1) * 256 + slot) (modOnyx (fun o => { o with overTable := none, tarFrom := f + 1 }) s))

/-- LEG_TARIFF_LOAD_X during frame N (R317). -/
def tariffLoadRules (slot offset : Nat) (data : List Byte) (s : State) : Verdict :=
  if hs : slot < 4 then
    if ¬ tableOffsets.contains offset then no 0x1101
    else if pget s 0x3805 0 = slot then no 0x1080
    else if auditFree s = 0 then no 0x1381
    else
      let set (c : Chunks) (s : State) : State := modOnyx (fun o => { o with loads := o.loads.set slot c }) s
      let c := putChunk offset data s.onyx.loads[slot]
      match chunkImage tableOffsets c with
      | some img => if tableOk img then .accept 0 none (set c) else .reject 0x1382 [] (set {})
      | none => .accept 0 none (set c)
  else no 0x1104

/-- LEG_TARIFF_LOAD_X. -/
def execLegTariffLoadX (h : Hdr) (slot offset : Nat) (data : List Byte) (s : State) : Outcome State Fault Refusal :=
  ans (hostCmd h 0x3880 (.legTariffLoadX h slot offset data) (data.length = 128) true [] (tariffLoadRules slot offset data) s)

/-- A complete table replaces its slot at step 6. -/
def applyTariffLoad (slot : Nat) (s : State) : State :=
  if hs : slot < 4 then
    match chunkImage tableOffsets s.onyx.loads[slot] with
    | some img =>
      let s := modOnyx (fun o => { o with tables := o.tables.set slot (some img), loads := o.loads.set slot {} }) s
      ev 0x87 13 0 (256 + slot) (logEntry 0x44 0xFF 0 (leBytes 1 slot ++ [0, 0, 0] ++ (img.drop 508).take 4) s)
    | none => s
  else s

/-- LEG_TARIFF_INFO. -/
def execLegTariffInfo (h : Hdr) (s : State) : Outcome State Fault Refusal :=
  ans (hostCmd h 0x3806 (.legTariffInfo h) true true [] (fun _ => done) s)

/-- The result of LEG_TARIFF_INFO. -/
def tariffInfoResult (s : State) : List Byte :=
  leBytes 1 s.onyx.live.tariff ++ [boolByte s.onyx.hold] ++ leBytes 1 (pget s 0x3805 0) ++ [0]
    ++ s.onyx.tables.toList.flatMap fun t => match t with
      | some b => [1, 0, 0, 0] ++ fit 16 (b.drop 4) ++ fit 4 (b.drop 508)
      | none => List.replicate 24 0

/-! ### Legal time and wall time (R305 to R312) -/

/-- The times of a frame read at its tick: Beryl's counter and clock have run on by some ticks; a slew is absorbed at its
rate (R305 to R307, R309); the high-water mark follows (R312). -/
def onyxTick (ticks : Nat) (s : State) : State :=
  let o := s.onyx
  let dt : Rat := (ticks : Rat) * 1000 / tickHz
  let part := min (absRat o.slew) (dt * pget s 0x3802 0 / 1000000)
  let adj := if o.slew < 0 then -part else part
  let wall := s.beryl.rtc + dt + adj
  let legal := s.beryl.legalTime + ticks
  let s := { s with beryl := { s.beryl with rtc := wall, legalTime := legal } }
  if ¬ s.sys.onyxUp then s
  else
    let s := modOnyx (fun o => { o with legal := legal, wall := wall, slew := o.slew - adj }) s
    let fl := timeFlags s
    let s := modLive (fun l => { l with highWater := if o.wallValid then max l.highWater wall else l.highWater
                                        segFlags := l.segFlags ||| fl }) s
    let bits := (if o.wallValid then 0 else 0x2000) + (if o.fold.isSome then 0x1000 else 0)
    if bits = 0 then s else markBits (fun _ => true) bits s

/-- SLEW_COMPLETE: the adjustment is absorbed (R309). -/
def execSlewComplete (s : State) : Outcome State Fault Refusal :=
  if s.onyx.slewing ∧ s.onyx.slew = 0 then ans (modOnyx (fun o => { o with slewing := false }) s) else ans s

/-- The fold that is running ends (R312): type 0x0A with its legal duration. -/
def endFold (s : State) : State :=
  match s.onyx.fold with
  | some t =>
    ev 0x83 13 5 0 (logEntry 0x0A 0xFF 0 (leBytes 8 ((s.onyx.legal - t) / tickHz)) (modOnyx (fun o => { o with fold := none }) s))
  | none => s

/-- FOLD_END: wall time reaches the high-water mark. -/
def execFoldEnd (s : State) : Outcome State Fault Refusal :=
  if s.onyx.wallValid ∧ s.onyx.live.highWater ≤ s.onyx.wall then ans (endFold s) else ans s

/-- An s32 argument that saturates. -/
def sat32 (x : Int) : Nat := arg32 (clampI (-2147483648) 2147483647 x)

/-- A step of the clock at step 4 (R310, R311), with the fold it starts or ends (R312). -/
def clockStep (d : Rat) (fromInvalid : Bool) (s : State) : State :=
  let f := s.frame
  let s := modOnyx (fun o => { o with slew := 0, slewing := false }) s
  let s := closeSegment 128 false s
  let s := modOnyx (fun o => { o with wall := o.wall + d, wallValid := true, jump := some f }) s
  let w := s.onyx.wall
  let s := { s with beryl := { s.beryl with rtc := w } }
  let s := openSegment 0 s
  let di := Config.roundUnit d
  let s := if fromInvalid then logEntry 0x0B 0xFF 0 (leInt 8 w.floor) s else logEntry 0x07 0xFF 0 (leInt 8 di) s
  let s := ev 0x83 13 (if fromInvalid then 3 else 2) (sat32 di) s
  let s := markBits (fun _ => true) 0x0800 s
  let s := if w < s.onyx.live.highWater then
      if s.onyx.fold.isSome then s
      else
        let s := logEntry 0x09 0xFF 0 (leInt 8 s.onyx.live.highWater.floor) s
        let s := modOnyx (fun o => { o with fold := some o.legal }) s
        ev 0x83 13 4 0 (markBits (fun _ => true) 0x1000 (modLive (fun l => { l with segFlags := l.segFlags ||| 2 }) s))
    else endFold (modLive (fun l => { l with highWater := w }) s)
  writeSet s

/-- The opening of 2024 and of 2100, ms UTC (R308). -/
def yearLow : Int := 1704067200000
def yearHigh : Int := 4102444800000

/-- LEG_CLOCK_SET during frame N (R308). -/
def clockSetRules (mode : Nat) (value : Int) (_ : State) : Verdict :=
  if 1 < mode then no 0x1101
  else if mode = 0 ∧ ¬ (yearLow ≤ value ∧ value < yearHigh) then no 0x1101
  else done

/-- LEG_CLOCK_SET. -/
def execLegClockSet (h : Hdr) (mode : Nat) (value : Int) (s : State) : Outcome State Fault Refusal :=
  ans (hostCmd h 0x3803 (.legClockSet h mode value) true true [] (clockSetRules mode value) s)

/-- LEG_CLOCK_SET at step 4 of frame N+1: the state and the result (R308 to R311). -/
def applyClockSet (mode : Nat) (value : Int) (s : State) : State × List Byte :=
  let d : Rat := if mode = 0 then value - s.onyx.wall else value
  let res (action : Nat) : List Byte := leInt 8 (Config.roundUnit d) ++ leBytes 1 action ++ leBytes 7 0
  if ¬ s.onyx.wallValid then (clockStep d true s, res 3)
  else if absRat d ≤ pget s 0x3801 0 then
    let s := logEntry 0x08 0xFF 0 (leInt 8 (Config.roundUnit d)) s
    let s := modOnyx (fun o => { o with slew := d, slewing := true }) s
    (ev 0x83 13 1 (sat32 (Config.roundUnit d)) s, res 1)
  else (clockStep d false s, res 2)

/-- LEG_CLOCK_READ. -/
def execLegClockRead (h : Hdr) (s : State) : Outcome State Fault Refusal :=
  ans (hostCmd h 0x3804 (.legClockRead h) true true [] (fun _ => done) s)

/-- The result of LEG_CLOCK_READ (Table LEG-10). -/
def clockReadResult (s : State) : List Byte :=
  let o := s.onyx
  leBytes 8 o.legal ++ leInt 8 o.wall.floor ++ leBytes 2 (pget s 0x3804 0)
    ++ leBytes 2 (flagWord [(15, o.wallValid), (14, o.fold.isSome), (13, o.slewing)])
    ++ leInt 4 (clampI (-2147483648) 2147483647 (Config.roundUnit o.slew)) ++ leInt 8 o.live.highWater.floor
    ++ leBytes 4 o.live.interval ++ leBytes 4 0

/-- LEG_TZ_SET (R331, R343). -/
def execLegTzSet (h : Hdr) (offset : Int) (s : State) : Outcome State Fault Refusal :=
  ans (hostCmd h 0x380A (.legTzSet h offset) true true []
    (fun s => if ¬ (-720 ≤ offset ∧ offset ≤ 840) then no 0x1101 else if auditFree s = 0 then no 0x1381 else done) s)

/-- The offset changed at step 4. -/
def applyTzSet (offset : Int) (s : State) : State :=
  let old := pget s 0x3804 0
  let new := leNat (leInt 2 offset)
  logEntry 0x46 0xFF 0 (leBytes 2 old ++ leBytes 2 new) (pset 0x3804 0 new s)

/-! ### Booking (R321 to R324) -/

/-- Energy, in units of 0.1 mWh, added to a register; what is finer is carried forward (R323). -/
def regAdd (x : Rat) (r : Reg) : Reg :=
  let t := r.rem + x
  { units := r.units + t.floor.toNat, rem := t - (t.floor.toNat : Nat) }

/-- The tariff in force at a sample's frame (R26). -/
def tariffAt (s : State) (f : Nat) : Nat := match s.onyx.tarLog.find? fun x => decide (x.1 ≤ f) with
  | some x => x.2
  | none => s.onyx.live.tariff

/-- A record booked to a slot's registers (R322): a coarse one and one whose digest does not match to their own registers
only. -/
def bookRegs (t : Fin 16) (isAc bad : Bool) (r : MtrRec) (g : SlotRegs) : SlotRegs :=
  let e := absRat (toUnits r.eP)
  let imp := decide (0 ≤ r.eP)
  if r.coarse then
    if imp then { g with cImp := regAdd e g.cImp } else { g with cExp := regAdd e g.cExp }
  else if bad then
    if imp then { g with dImp := regAdd e g.dImp } else { g with dExp := regAdd e g.dExp }
  else
    let q := absRat (toUnits r.eQ)
    let g := if imp then { g with aImp := upd g.aImp t (regAdd e), sImp := regAdd (toUnits r.eS) g.sImp,
                                  lImp := regAdd (toUnits r.loss) g.lImp }
      else { g with aExp := upd g.aExp t (regAdd e), sExp := regAdd (toUnits r.eS) g.sExp, lExp := regAdd (toUnits r.loss) g.lExp }
    if ¬ isAc then g
    else match r.quad with
      | 1 => { g with vQ1 := upd g.vQ1 t (regAdd q) }
      | 2 => { g with vQ2 := upd g.vQ2 t (regAdd q) }
      | 3 => { g with vQ3 := upd g.vQ3 t (regAdd q) }
      | _ => { g with vQ4 := upd g.vQ4 t (regAdd q) }

/-- A record in the book of its segment. -/
def bookSeg (whole bad : Bool) (r : MtrRec) (b : SegBook) : SegBook :=
  let b := { b with squashed := b.squashed + (if whole then 0 else 1), coarse := b.coarse || r.coarse }
  if r.coarse ∨ bad then b
  else if 0 ≤ r.eP then { b with segImp := b.segImp + r.eP } else { b with segExp := b.segExp - r.eP }

/-- A change of a slot's book, in the first of the closing segments that holds a frame or in the running one. -/
def inSegment (m : Fin 9) (frame : Nat) (f : SegBook → SegBook) (s : State) : State :=
  match s.onyx.closings.findIdx? fun (c : Closing) => decide (frame < c.frame) with
  | some i => modOnyx (fun o => { o with closings := o.closings.modify i fun (c : Closing) => { c with books := upd c.books m f } }) s
  | none => modLive (fun l => { l with books := upd l.books m f }) s

/-- Whether a digest matches: the current one, or a pending one until the next reset (R324). -/
def digestOk (s : State) (m : Fin 9) (d : List Byte) : Bool :=
  d == s.onyx.digest[m] || s.onyx.pendDigest[m] == some d

/-- A slot's digest mismatch noted or ended (R324). -/
def digestSeen (m : Fin 9) (ok : Bool) (d : List Byte) (s : State) : State :=
  let set (b : Bool) (s : State) : State := modOnyx (fun o => { o with mismatch := o.mismatch.set m b }) s
  if ok then
    if s.onyx.mismatch[m] then ev 0x84 13 2 m (set false s) else s
  else
    let s := markBits (fun n => n == m.val) 0x0400 s
    if s.onyx.mismatch[m] then s else ev 0x84 13 1 m (logEntry 0x0F m 0 d (set true s))

/-- One committed record booked by the frame of its sample (R26, R322). Onyx takes samples of frames after it is up (R125),
and after a power fail at P those up to P+135. -/
def bookRec (m : Fin 9) (r : MtrRec) (s : State) : State :=
  let late : Bool := match s.onyx.pf with
    | some p => decide (p.frame + 135 < r.frame)
    | none => false
  if ¬ s.sys.onyxUp ∨ r.frame < s.onyx.acceptFrom ∨ late then s
  else
    let s := modOnyx (fun o => { o with lastFrame := r.frame, lastDigest := o.lastDigest.set m r.digest }) s
    if r.test then s
    else
      let ok := digestOk s m r.digest
      let s := digestSeen m ok r.digest s
      let s := if r.coarse then markBits (fun n => n == m.val) 0x8000 s else s
      let whole := r.valid + 1 == 2 ^ slotElements s m
      let ac := slotAc s m
      let t := tariffAt s r.frame
      let s := if ht : t < 16 then
          modLive (fun l => { l with regs := upd l.regs m (bookRegs ⟨t, ht⟩ ac (!ok) r) }) s
        else s
      inSegment m r.frame (bookSeg whole (!ok) r) s

/-- A gap logged and booked against the segments it touches (R273). -/
def bookGap (m : Fin 9) (g : Gap) (s : State) : State :=
  let n := g.last + 1 - g.first
  let s := logEntry 0x06 m 0 (leBytes 4 g.first ++ leSat 2 n ++ leBytes 1 g.cause ++ leBytes 1 g.elements) s
  let s := markBits (fun k => k == m.val) 0x4000 (modOnyx (fun o => { o with gapCount := upd o.gapCount m (· + 1) }) s)
  let mark (b : SegBook) : SegBook := { b with gap := true }
  let s := modOnyx (fun o => { o with closings := o.closings.map fun (c : Closing) =>
    if g.first < c.frame then { c with books := upd c.books m mark } else c }) s
  if s.onyx.live.segFrame ≤ g.last then modLive (fun l => { l with books := upd l.books m mark }) s else s

/-- The closed gaps of a slot sent to Onyx. -/
def bookGaps (m : Fin 9) (s : State) : State :=
  let gs := s.mtr.slots[m].gaps.filter fun (g : Gap) => !g.open_
  let s := if gs.isEmpty then s else modSlot m (fun x => { x with gaps := x.gaps.filter (·.open_) }) s
  if s.sys.onyxUp then gs.foldl (fun (s : State) (g : Gap) => bookGap m g s) s else s

/-- A gap that is open at P−1 is closed there for the power-fail write set and goes on from P (R275). -/
def splitGaps (p : Nat) (m : Fin 9) (s : State) : State :=
  let gs := s.mtr.slots[m].gaps.filter fun (g : Gap) => g.open_ && decide (g.first < p)
  let move (g : Gap) : Gap := if g.open_ && decide (g.first < p) then { g with first := p } else g
  let s := modSlot m (fun x => { x with gaps := x.gaps.map move }) s
  gs.foldl (fun (s : State) (g : Gap) =>
    bookGap m { g with last := p - 1 }
      (evNext 0x70 (slotDomain m) (min (p - g.first) 65535) (g.cause * 2 ^ 24 + g.input * 65536 + g.elements * 256 + m) s)) s

/-- Outlets whose contactors are not stamped open, as a mask. -/
def notOpen (s : State) : Nat :=
  bitmap 8 fun k => (List.range 32).any fun o => match vget? s.garnet.outs o with
    | some x => x.fb.stamp && (allFin 8).any (fun (j : Fin 8) => j.val == k && (soOutlet j).any fun (i : Fin 32) => i.val == o)
    | none => false

/-- Slot 9 of a frame: the samples of eight frames ago committed and booked, closed segments finished, and what a power fail
at P needs of the registers kept: with samples up to P−1, and up to P+135 (R27, R275, R326). -/
def onyxCommit (s : State) : State :=
  let s := (allFin 9).foldl (fun (s : State) (m : Fin 9) =>
    let (r, s) := mtrCommit m s
    bookGaps m (match r with
      | some r => bookRec m r s
      | none => s)) s
  match s.onyx.pf with
  | none => finishClosings 8 s
  | some p =>
    let s := if p.frame + 7 = s.frame then (allFin 9).foldl (fun (s : State) (m : Fin 9) => splitGaps p.frame m s) s else s
    let live := { (if p.frame + 7 = s.frame then (finishClosings 8 s).onyx.live else s.onyx.live) with legal := s.onyx.legal }
    if p.frame + 7 = s.frame then modOnyx (fun o => { o with pf := some { p with snap := some live } }) s
    else if p.frame + 143 = s.frame then
      let open_ := notOpen s
      modOnyx (fun o => { o with pf := some { p with tail := some (live, open_) } }) s
    else s

/-- PERSIST_WRITE_SET: an edge whose frame number is a multiple of 8,000 (R326). -/
def execPersistWriteSet (s : State) : Outcome State Fault Refusal :=
  if s.sys.onyxUp ∧ s.frame % 8000 = 0 ∧ ¬ powerFailed s then ans (persistLive s) else ans s

/-! ### Signed readings (R332 to R338) -/

/-- The total of a tariffed quantity: the sum of its tariffs (R323). -/
def regTotal (v : Vector Reg 16) : Nat := (v.toList.map (·.units)).foldl (· + ·) 0

/-- The bytes of the totals of a record (Table LEG-7). -/
def totalsBytes (g : SlotRegs) : List Byte :=
  [regTotal g.aImp, regTotal g.aExp, regTotal g.vQ1, regTotal g.vQ2, regTotal g.vQ3, regTotal g.vQ4, g.cImp.units,
   g.cExp.units].flatMap (leBytes 8)

/-- The span a reading closes (R337): from the newest start reading of the session, else from the slot's previous reading,
else from manufacture. -/
def spanBits (s : State) (p : PendReading) : Nat :=
  let own := s.onyx.spans.filter fun (x : Span) => x.slot == p.slot.val
  let start := if p.kind = 2 then own.find? fun (x : Span) => x.kind == 1 && x.session == p.session else none
  match start with
  | some x => x.bits
  | none => match own with
    | x :: _ => x.bits
    | [] => s.onyx.ever[p.slot]

/-- STATUS of a reading at its snapshot (R337). -/
def readingStatus (s : State) (p : PendReading) : Nat :=
  let gap := s.mtr.slots[p.slot].gaps.any fun (g : Gap) => decide (g.first ≤ p.frame)
  spanBits s p ||| flagWord [(14, gap), (13, !s.onyx.wallValid), (12, s.onyx.fold.isSome),
    (7, decide (pget s 0x3806 0 ≤ s.onyx.audit.length))]

/-- Bytes 0 to 143 of a record (Table LEG-7). -/
def recordBody (s : State) (p : PendReading) : List Byte :=
  leBytes 2 0x0101 ++ leBytes 1 p.kind ++ leBytes 1 p.slot ++ leBytes 4 p.counter ++ leBytes 8 p.legal ++ leInt 8 p.wall
    ++ leBytes 2 p.tz ++ leBytes 2 (readingStatus s p) ++ leBytes 16 p.session ++ leBytes 8 Config.onyxCheck.toNat
    ++ fit 8 s.onyx.lastDigest[p.slot] ++ leBytes 8 Config.serial.toNat ++ leBytes 1 p.tariff ++ leBytes 1 p.curve ++ [0, 0]
    ++ totalsBytes s.onyx.live.regs[p.slot] ++ leBytes 4 s.onyx.gapCount[p.slot] ++ leBytes 4 (s.onyx.logSeq - 1)

/-- The signature over a body with the key of a curve (R333, R335). -/
def signBody (curve : Nat) (b : List Byte) : List Byte := (List.range 64).map (Config.signature curve b)

/-- A body with the bit of R334 set in STATUS. -/
def withRestart (b : List Byte) : List Byte := b.take 27 ++ ((b.drop 27).take 1).map (· ||| 2#8) ++ b.drop 28

/-- LEG_READING during frame N (R332, R333): the counter is allocated. -/
def readingRules (slot kind curve : Nat) (s : State) : Verdict :=
  if hm : slot < 9 then
    if kind = 0 ∨ 3 < kind ∨ 1 < curve then no 0x1101
    else if powerFailed s then no 0x4002
    else if 8 ≤ s.onyx.pending.length then no 0x2080
    else
      let c := s.onyx.counter
      let p : PendReading := { counter := c, slot := ⟨slot, hm⟩, kind := kind, curve := curve, frame := s.frame,
                               tariff := s.onyx.live.tariff, session := if slot = 0 then 0 else pget s 0x1044 (slot - 1) }
      .accept 0x0100 (some (leBytes 4 c)) (modOnyx fun o => { o with counter := o.counter + 1, pending := o.pending ++ [p] })
  else no 0x1104

/-- LEG_READING. -/
def execLegReading (h : Hdr) (slot kind curve : Nat) (s : State) : Outcome State Fault Refusal :=
  ans (hostCmd h 0x3801 (.legReading h slot kind curve) true true [] (readingRules slot kind curve) s)

/-- At step 1 of frame N+1 the record takes its times (R332). -/
def stampReadings (s : State) : State :=
  let f := s.frame
  let tz := pget s 0x3804 0
  modOnyx (fun o => { o with pending := o.pending.map fun (p : PendReading) =>
    if p.frame + 1 = f ∧ p.snap.isNone then { p with legal := o.legal, wall := o.wall.floor, tz := tz } else p }) s

/-- A reading's snapshot taken from the registers of `at_`, and its span begun. -/
def takeSnapshot (at_ : State) (p : PendReading) (s : State) : State :=
  let b := recordBody at_ p
  modOnyx (fun o => { o with
    pending := o.pending.map fun (x : PendReading) => if x.counter = p.counter then { x with snap := some b } else x
    spans := { counter := p.counter, slot := p.slot, kind := p.kind, session := p.session } ::
      o.spans.filter fun (x : Span) => x.slot != p.slot.val || (x.kind == 1 && !(p.kind == 1 && x.session == p.session)) }) s

/-- READING_SNAPSHOT: slot 9 of frame N+8, when the samples of frame N are committed (R332). -/
def execReadingSnapshot (counter : Nat) (s : State) : Outcome State Fault Refusal :=
  match s.onyx.pending.find? fun (p : PendReading) => p.counter == counter && p.snap.isNone with
  | some p =>
    if p.frame + 8 ≤ s.frame then ans (takeSnapshot (if p.frame + 8 = s.frame then onyxCommit s else s) p s) else ans s
  | none => ans s

/-- SIGNATURE_START: the pending reading of the lowest counter, while fewer than 20 signatures have started in the window
of 8,000 frames (R333). -/
def execSignatureStart (s : State) : Outcome State Fault Refusal :=
  let f := s.frame
  let recent := s.onyx.starts.filter fun t => decide (f < t + 8000)
  match s.onyx.pending.find? fun (p : PendReading) => p.start.isNone with
  | some p =>
    if s.sys.onyxUp ∧ p.snap.isSome ∧ recent.length < 20 then
      ans (modOnyx (fun o => { o with
        starts := f :: recent
        pending := o.pending.map fun (x : PendReading) => if x.counter = p.counter then { x with start := some f } else x }) s)
    else ans s
  | none => ans s

/-- LEG_READING_READY: the signature is complete and the record is kept among the 64 newest (R333, R338). -/
def execLegReadingReady (counter : Nat) (s : State) : Outcome State Fault Refusal :=
  match s.onyx.pending.find? fun (p : PendReading) => p.counter == counter && p.start.isSome with
  | some p =>
    let b0 := fit 144 (p.snap.getD [])
    let b := if p.restart then withRestart b0 else b0
    let s := modOnyx (fun o => { o with
      pending := o.pending.filter fun (x : PendReading) => x.counter != counter
      records := ((counter, b ++ signBody p.curve b) :: o.records).take 64 }) s
    ans (evNext 0x82 13 (p.slot * 256 + p.kind) counter s)
  | none => ans s

/-- LEG_READING_GET (R338). -/
def execLegReadingGet (h : Hdr) (counter : Nat) (s : State) : Outcome State Fault Refusal :=
  ans (hostCmd h 0x3802 (.legReadingGet h counter) true true [] (fun s =>
    if s.onyx.pending.any fun (p : PendReading) => p.counter == counter then no 0x2001
    else match s.onyx.records.find? fun x => x.1 == counter with
      | some x => .accept 0 (some x.2) id
      | none => no 0x1180) s)

/-! ### Reads (R343) -/

/-- The value of a register code (R321, Table LEG-10). -/
def regValue (s : State) (m : Fin 9) (code : Nat) : List Byte :=
  let g := s.onyx.live.regs[m]
  let t := code % 256
  let tar (v : Vector Reg 16) : List Byte := leBytes 8 (match vget? v t with
    | some r => r.units
    | none => regTotal v)
  let dem (v : Vector MaxDemand 17) : List Byte := match vget? v (if t = 0xFF then 16 else t) with
    | some x => leSat 4 x.watts ++ leBytes 4 x.interval
    | none => leBytes 8 0
  match code / 256 with
  | 0x01 => tar g.aImp
  | 0x02 => tar g.aExp
  | 0x03 => tar g.vQ1
  | 0x04 => tar g.vQ2
  | 0x05 => tar g.vQ3
  | 0x06 => tar g.vQ4
  | 0x07 => leBytes 8 g.sImp.units
  | 0x08 => leBytes 8 g.sExp.units
  | 0x09 => leBytes 8 g.lImp.units
  | 0x0A => leBytes 8 g.lExp.units
  | 0x0B => leBytes 8 g.cImp.units
  | 0x0C => leBytes 8 g.cExp.units
  | 0x0D => leBytes 8 g.dImp.units
  | 0x0E => leBytes 8 g.dExp.units
  | 0x10 => dem g.mImp
  | 0x11 => dem g.mExp
  | _ => leBytes 8 0

/-- LEG_READ during frame N (R585). -/
def legReadRules (slot count : Nat) (codes : List Nat) (s : State) : Verdict :=
  if 9 ≤ slot then no 0x1104
  else if count = 0 ∨ 32 < count ∨ ¬ codes.all (regCodeOk (slotKind s slot)) then no 0x1101
  else done

/-- LEG_READ. -/
def execLegRead (h : Hdr) (slot count : Nat) (codes : List Nat) (s : State) : Outcome State Fault Refusal :=
  ans (hostCmd h 0x3800 (.legRead h slot count codes) (codes.length = count) true [] (legReadRules slot count codes) s)

/-- The result of LEG_READ. -/
def legReadResult (slot : Nat) (codes : List Nat) (s : State) : List Byte :=
  if hm : slot < 9 then
    leBytes 8 s.onyx.legal ++ leBytes 6 s.onyx.lastFrame ++ [0, 0] ++ codes.flatMap (regValue s ⟨slot, hm⟩)
  else []

/-- LEG_LOG_READ. -/
def execLegLogRead (h : Hdr) (area count first : Nat) (s : State) : Outcome State Fault Refusal :=
  ans (hostCmd h 0x3807 (.legLogRead h area count first) true true [] (fun _ =>
    if 1 < area then no 0x1104 else if count = 0 ∨ 30 < count then no 0x1101 else done) s)

/-- The result of LEG_LOG_READ. -/
def logReadResult (area count first : Nat) (s : State) : List Byte :=
  let l := ((if area = 0 then s.onyx.events else s.onyx.audit).filter fun (e : LogEntry) => decide (first ≤ e.seq)).take count
  leBytes 1 l.length ++ [0, 0, 0] ++ l.flatMap LogEntry.bytes

/-- LEG_PROFILE_READ. -/
def execLegProfileRead (h : Hdr) (slot count first : Nat) (s : State) : Outcome State Fault Refusal :=
  ans (hostCmd h 0x3808 (.legProfileRead h slot count first) true true [] (fun _ =>
    if 8 < slot then no 0x1104 else if count = 0 ∨ 16 < count then no 0x1101 else done) s)

/-- The 56 bytes of a load-profile record (Table LEG-5). -/
def ProfRec.bytes (r : ProfRec) : List Byte :=
  leBytes 4 r.interval ++ leBytes 1 r.segment ++ leBytes 1 r.flags ++ leBytes 2 r.tarMask ++ leBytes 8 r.first ++ leBytes 8 r.last
    ++ leBytes 8 r.imp ++ leBytes 8 r.exp ++ leSat 4 r.squashed ++ leSat 4 r.demImp ++ leSat 4 r.demExp ++ leBytes 4 0

/-- The result of LEG_PROFILE_READ. -/
def profileReadResult (slot count first : Nat) (s : State) : List Byte :=
  let base := (vget? s.onyx.profBase slot).getD 0
  let i := max first base
  let l := ((((vget? s.onyx.profiles slot).getD []).drop (i - base)).take count)
  leBytes 1 l.length ++ [0, 0, 0] ++ leBytes 4 i ++ l.flatMap ProfRec.bytes

/-- LEG_INFO. -/
def execLegInfo (h : Hdr) (s : State) : Outcome State Fault Refusal :=
  ans (hostCmd h 0x3809 (.legInfo h) true true [] (fun _ => done) s)

/-- The result of LEG_INFO. -/
def legInfoResult (s : State) : List Byte :=
  let key (c : Nat) : List Byte := (List.range 65).map (Config.onyxPublicKey c)
  leBytes 8 Config.onyxCheck.toNat ++ leBytes 8 Config.serial.toNat ++ leBytes 4 s.onyx.counter
    ++ leBytes 2 s.onyx.audit.length ++ [boolByte s.onyx.access.isSome, 0] ++ key 0 ++ key 1 ++ [0, 0]

/-- The meter reading that the vehicle link carries: a total in whole Wh, rounded down (R325). -/
def meterWh (s : State) (m : Fin 9) (exported : Bool) : Nat :=
  let g := s.onyx.live.regs[m]
  regTotal (if exported then g.aExp else g.aImp) / 10000

/-! ### Legal access and the seals (R339, R340, R297) -/

/-- Access closed with a cause: 1 command, 2 timeout, 3 SEAL_N; the staged set goes (R339, R340). -/
def closeAccess (cause : Nat) (s : State) : State :=
  if s.onyx.access.isSome then
    ev 0x85 13 0 (cause + 1) (logEntry 0x41 0xFF 0 (leBytes 1 cause) (modOnyx (fun o => { o with access := none, staged := none }) s))
  else s

/-- LEG_ACCESS_X during frame N (R339). -/
def accessRules (action : Nat) (s : State) : Verdict :=
  if 1 < action then no 0x1101
  else if action = 0 then (if s.onyx.access.isSome then done else .accept 0x0001 none id)
  else if s.sys.service ≠ .full ∨ s.onyx.sealHigh then no 0x1301
  else if auditFree s < 3 then no 0x1381
  else done

/-- LEG_ACCESS_X. -/
def execLegAccessX (h : Hdr) (action : Nat) (s : State) : Outcome State Fault Refusal :=
  ans (hostCmd h 0x3881 (.legAccessX h action) true true [] (accessRules action) s)

/-- Access opened or closed at step 6. -/
def applyAccess (action : Nat) (s : State) : State :=
  if action = 0 then closeAccess 1 s
  else
    let e := s.frame + pget s 0x3803 0
    ev 0x85 13 0 1 (logEntry 0x40 0xFF 0 [] (modOnyx (fun o => { o with access := some e }) s))

/-- ACCESS_TIMEOUT (R339). -/
def execAccessTimeout (s : State) : Outcome State Fault Refusal :=
  if expired s.onyx.access s.frame then ans (closeAccess 2 s) else ans s

/-- SEAL_N stamped (R339): high closes access. -/
def sealStamp (high : Bool) (s : State) : State :=
  let high := high || s.sys.vioLow
  let s := modOnyx (fun o => { o with sealHigh := high }) s
  if high then closeAccess 3 s else s

/-- SEAL_N. -/
def execSealN (high : Bool) (s : State) : Outcome State Fault Refusal := ans (sealStamp high s)

/-- One staged entry: known, instance valid, sealed by Onyx and without a procedure of its own (R340). -/
def cfgEntry (e : PEntry) : Option (Nat × Nat) := match pinfo e.id with
  | none => some (0x1103, 0)
  | some p =>
    if ¬ (e.inst < p.insts ∨ e.inst = 0xFF) then some (0x1104, 0)
    else if p.cls ≠ 3 then some (0x1103, 0)
    else if (0x3010 ≤ e.id ∧ e.id ≤ 0x301A) ∨ e.id = 0x3804 ∨ e.id = 0x3805 then some (0x1384, 0)
    else none

/-- LEG_CFG_STAGE_X during frame N (R340). -/
def cfgStageRules (es : List PEntry) (s : State) : Verdict :=
  if s.onyx.access.isNone then .refuse 0x1301 (writeResult 0 0xFF 0)
  else match firstFail cfgEntry 0 es with
    | some (d, i, _) => .refuse d (writeResult 0 i 0)
    | none => .accept 0 (some (writeResult es.length 0xFF 0)) id

/-- LEG_CFG_STAGE_X. -/
def execLegCfgStageX (h : Hdr) (count : Nat) (entries : List PEntry) (s : State) : Outcome State Fault Refusal :=
  ans (hostCmd h 0x3882 (.legCfgStageX h count entries) (entriesLayout count entries) (entries.all lengthOk)
    (writeResult 0 (firstBad lengthOk entries) 0) (cfgStageRules entries) s)

/-- Staged entries set; a later entry replaces an earlier one of its parameter. -/
def applyCfgStage (es : List PEntry) (s : State) : State :=
  let w := es.flatMap entryWrites
  modOnyx (fun o => { o with staged := some (w.foldl (fun l x => l.filter (fun y => !(y.1 == x.1 && y.2.1 == x.2.1)) ++ [x])
                                               (o.staged.getD [])) }) s

/-- The roles of the modulator inputs under a configuration: each input with the parameter instance that gives it (R265). -/
def inputRoles (g : Nat → Nat → Nat) : List (Nat × Nat × Nat) :=
  ((List.range 9).flatMap fun m => (List.range 7).filterMap fun c =>
      let i := g 0x3001 m / 2 ^ (8 * c) % 256
      if kindHas (g 0x3000 m) c && decide (i < 48) then some (i, 0x3001, m) else none)
    ++ ((List.range 9).filterMap fun m => if g 0x3000 m != 0 && g 0x300D m == 1 && decide (g 0x300E m < 48) then
        some (g 0x300E m, 0x300E, m) else none)
    ++ ((List.range 8).filterMap fun b => if g 0x1818 b < 48 then some (g 0x1818 b, 0x1818, b) else none)
    ++ ((List.range 8).filterMap fun t => if g 0x1811 t < 48 then some (g 0x1811 t, 0x1811, t) else none)

/-- The parameter instances that give an input a second role. -/
def roleClashes (g : Nat → Nat → Nat) : List (Nat × Nat) :=
  let l := inputRoles g
  (l.filter fun x => decide (1 < (l.filter fun y => y.1 == x.1).length)).map (·.2)

/-- Whether the kind of a slot fits its outlet's type (R269). -/
def kindFits (g : Nat → Nat → Nat) (m : Nat) : Bool :=
  if m = 0 then decide (g 0x3000 0 < 3)
  else match g 0x1000 (m - 1) with
    | 1 => g 0x3000 m == 1
    | 2 => g 0x3000 m == 2
    | 3 => g 0x3000 m == 3
    | 4 => g 0x3000 m == 3
    | _ => true

/-- The pending sealed value of a parameter instance, or the one in force. -/
def sealedGet (s : State) (id inst : Nat) : Nat := match storeGet (s.mtr.pending.getD []) (pkey id inst) with
  | some v => v
  | none => pget s id inst

/-- A value with the staged set over the live configuration. -/
def cfgGet (s : State) (id inst : Nat) : Nat := match (s.onyx.staged.getD []).find? fun x => x.1 == id && x.2.1 == inst with
  | some x => x.2.2
  | none => sealedGet s id inst

/-- The index of the first staged entry that fails the check of R340; 0xFF when the set passes. -/
def cfgFirstBad (s : State) : Nat :=
  let st := s.onyx.staged.getD []
  let g := cfgGet s
  let clash := roleClashes g
  let bad (x : Nat × Nat × Nat) : Bool := (match pinfo x.1 with
      | some p => !valueOk s p x.2.1 (leBytes p.len x.2.2)
      | none => true)
    || ((x.1 == 0x3001 || x.1 == 0x3000) && clash.contains (0x3001, x.2.1))
    || ((x.1 == 0x300E || x.1 == 0x300D) && clash.contains (0x300E, x.2.1))
    || (x.1 == 0x3000 && !kindFits g x.2.1)
  match st.findIdx? bad with
  | some i => i
  | none => 0xFF

/-- Whether any slot is in calibration state. -/
def anyCal (s : State) : Bool := (allFin 9).any fun (m : Fin 9) => s.mtr.slots[m].calBand.isSome

/-- LEG_CFG_SEAL_X during frame N (R340, R342). -/
def cfgSealRules (s : State) : Verdict :=
  if s.onyx.access.isNone then no 0x1301
  else if slotBusy s 0 ∨ anyCal s then no 0x1001
  else if s.onyx.staged.isNone then no 0x1081
  else if auditFree s = 0 then no 0x1381
  else if cfgFirstBad s ≠ 0xFF then .refuse 0x1383 (leBytes 1 (cfgFirstBad s) ++ [0, 0, 0])
  else .accept 0 (some [0xFF, 0, 0, 0]) id

/-- LEG_CFG_SEAL_X. -/
def execLegCfgSealX (h : Hdr) (s : State) : Outcome State Fault Refusal :=
  ans (hostCmd h 0x3883 (.legCfgSealX h) true true [] cfgSealRules s)

/-- The slot digests under the pending configuration recorded (R324, R340). -/
def notePending (s : State) : State :=
  match s.mtr.pending with
  | none => s
  | some l =>
    let after := l.foldl (fun (x : State) (y : Nat × Nat) => pset (y.1 / 256) (y.1 % 256) y.2 x) s
    modOnyx (fun o => { o with pendDigest := Vector.ofFn fun (m : Fin 9) => some (slotDigest after m) }) s

/-- The staged set becomes the pending configuration of the seal store (R340, R293). -/
def applyCfgSeal (s : State) : State :=
  match s.onyx.staged with
  | none => s
  | some st =>
    let l := st.foldl (fun (m : List (Nat × Nat)) (x : Nat × Nat × Nat) => storeSet m (pkey x.1 x.2.1) x.2.2) (s.mtr.pending.getD [])
    let s := modMtr (fun x => { x with pending := some l }) s
    let s := notePending s
    let d := freeBytes s 8
    let s := logEntry 0x42 0xFF 0 d s.draw
    writeSet (ev 0x86 13 0 1 (modOnyx (fun o => { o with staged := none }) s))

/-- LEG_CFG_DISCARD_X (R340). -/
def execLegCfgDiscardX (h : Hdr) (s : State) : Outcome State Fault Refusal :=
  ans (hostCmd h 0x3884 (.legCfgDiscardX h) true true []
    (fun s => if s.onyx.staged.isNone then .accept 0x0001 none id else done) s)

/-- The staged set discarded. -/
def applyCfgDiscard (s : State) : State := modOnyx (fun o => { o with staged := none }) s

/-- MTR_CAL_SEAL_X during frame N (R297, R299). -/
def calSealRules (slot : Nat) (s : State) : Verdict :=
  if ¬ slotNamed s slot then no 0x1104
  else if ¬ inCal s slot then no 0x1070
  else if ¬ ((vget? s.mtr.slots slot).map (·.measOk)).getD false then no 0x1073
  else if s.onyx.access.isNone then no 0x1301
  else if auditFree s = 0 then no 0x1381
  else done

/-- MTR_CAL_SEAL_X. -/
def execMtrCalSealX (h : Hdr) (slot : Nat) (s : State) : Outcome State Fault Refusal :=
  ans (hostCmd h 0x3083 (.mtrCalSealX h slot) true true [] (calSealRules slot) s)

/-- The trial set becomes the sealed set of the band, with a new slot digest that is current at once (R293, R297, R324). -/
def applyCalSeal (slot : Nat) (s : State) : State :=
  if hm : slot < 9 then
    let m : Fin 9 := ⟨slot, hm⟩
    match s.mtr.slots[m].calBand with
    | none => s
    | some b =>
      let s := (List.range 10).foldl (fun (s : State) (j : Nat) =>
        pset (0x3010 + j) (8 * slot + b) (pget s (0x3090 + j) slot) s) s
      let s := pset 0x301A (8 * slot + b) 1 s
      let d := slotDigest s slot
      let s := modSlot m (fun x => { x with digest := d }) s
      let s := notePending (modOnyx (fun o => { o with digest := o.digest.set m d }) s)
      writeSet (ev 0x86 13 0 (b * 65536 + slot * 256 + 2) (logEntry 0x43 slot 0 (leBytes 1 b ++ [0, 0, 0] ++ d.take 4) s))
  else s

/-! ### Starts, power fail, check value (R303, R326 to R330) -/

/-- CHECK_VALUE_RECOMPUTE: a value other than that of the start stops the health word (R303). -/
def execCheckValueRecompute (value : List Byte) (s : State) : Outcome State Fault Refusal :=
  if s.sys.onyxUp ∧ s.onyx.checkAt ≤ s.onyx.legal then
    let bad := s.onyx.checkBad || value != leBytes 8 Config.onyxCheck.toNat
    ans (modOnyx (fun o => { o with checkAt := o.checkAt + 86400 * tickHz, checkBad := bad }) s)
  else ans s

/-- The book of a power fail opened at frame P; none before Onyx is up (R148, R328). -/
def onyxPowerFail (s : State) : State :=
  if s.sys.onyxUp then
    let p : PfBook := { frame := s.frame, legal := s.onyx.legal, wall := wallNow s, vmain := s.sys.vmain }
    modOnyx (fun o => { o with pf := some p }) s
  else s

/-- POWER_FAIL_WRITE_SET: closes and switches of P, the power-fail record, the pending snapshots, and the registers with
samples up to P−1 (Table LEG-3, R334). -/
def execPowerFailWriteSet (s : State) : Outcome State Fault Refusal :=
  match s.onyx.pf with
  | some p =>
    match p.snap with
    | some live =>
      if p.done then ans s
      else
        let outlets := if p.edge then bitmap 8 fun k => slotServed s (k + 1) else 0
        let s := logAt 0x01 0xFF 0 p.legal p.wall (leBytes 4 p.frame ++ leSat 2 (p.vmain / 10) ++ leBytes 2 outlets) s
        let s := finishClosings 8 s
        let s := s.onyx.pending.foldl (fun (s : State) (x : PendReading) => if x.snap.isNone then takeSnapshot s x s else s) s
        ans (modOnyx (fun o => { o with saved := live, savedPend := o.pending, pf := some { p with done := true } }) s)
    | none => ans s
  | none => ans s

/-- TAIL_RECORD: at P+144, the energy of samples of frames P to P+135 and the contactors stamped at P+143 (Table LEG-3). -/
def execTailRecord (s : State) : Outcome State Fault Refusal :=
  match s.onyx.pf with
  | some p =>
    match p.tail with
    | some (live, open_) =>
      if p.ended then ans s
      else
        let s := logEntry 0x02 0xFF 0 (leBytes 1 open_ ++ [0, 0, 0] ++ leBytes 4 136) s
        ans (modOnyx (fun o => { o with saved := live, pf := some { p with ended := true } }) s)
    | none => ans s
  | none => ans s

/-- A module reset at Onyx (R119, R329): the ferroelectric memory stays, what was not persisted is lost, and the kind of the
stop is what the next start logs: 1 normal, 2 power fail recorded, 3 unrecorded interruption, 4 unpersisted span. -/
def onyxReset (source : Nat) (s : State) : State :=
  let recorded := s.onyx.pf.any fun (p : PfBook) => p.done
  let kind := if source = 4 then 4 else if source = 5 ∨ source = 7 then 1 else if recorded then 2 else 3
  modOnyx (fun o => { o with
    live := o.saved, closings := [], slew := 0, slewing := false, hold := false, overTable := none, tarFrom := 0, jump := none
    loads := .replicate 4 {}, selects := [], tarLog := [], pending := [], savedPend := if recorded then o.savedPend else []
    starts := [], pf := none, stop := kind, checkBad := false }) s

/-- The running interval after a start (R330). -/
def startInterval (s : State) : State :=
  let l := s.onyx.live
  let f := s.frame
  let s := modOnyx (fun o => { o with jump := some f }) s
  let same := if s.onyx.wallValid then decide ((s.onyx.wall / 1000 / demandLen s).floor.toNat = l.interval)
    else decide (s.onyx.legal - l.intStart < demandLen s * tickHz)
  if same then openSegment 16 (closeSegment 0 false s)
  else
    let m := if s.onyx.wallValid then (s.onyx.wall / 1000 / demandLen s).floor.toNat else l.interval + 1
    if l.interval < m then closeInterval m 16 s
    else openSegment 16 (closeSegment 0 false s)

/-- The start of Onyx: check value, journals resolved, legal time from Beryl, the start logged, digests, the signed
snapshots of a power fail (R124, R137, R148, R303, R324, R329, R330, R334). -/
def onyxStart (s : State) : State :=
  let f := s.frame
  let lost := s.beryl.vaultLost
  let last := s.onyx.saved.legal
  let legal := if lost then last + tickHz else s.beryl.legalTime
  let s := { s with beryl := { s.beryl with legalTime := legal, vaultLost := false }, sys := { s.sys with onyxUp := true } }
  let wasOpen := s.onyx.access.isSome
  let s := modOnyx (fun o => { o with
    legal := legal, wall := s.beryl.rtc, wallValid := o.wallValid && !lost, acceptFrom := f + 1, checkAt := legal + 86400 * tickHz
    access := none, staged := none
    digest := Vector.ofFn fun (m : Fin 9) => match o.pendDigest[m] with
      | some d => d
      | none => if o.digest[m].isEmpty then slotDigest s m else o.digest[m]
    pendDigest := .replicate 9 none
    pending := o.savedPend.map fun (p : PendReading) => { p with start := none, restart := true }, savedPend := [] }) s
  let s := modMtr (fun x => { x with slots := Vector.ofFn fun (m : Fin 9) => { x.slots[m] with digest := slotDigest s m } }) s
  let kind := if lost then 5 else s.onyx.stop
  let s := if wasOpen then logEntry 0x41 0xFF 0 [4] s else s
  let s := if lost then ev 0x07 12 0 2 (logEntry 0x0E 0xFF 0 (leBytes 8 (legal / tickHz)) s) else s
  let s := if s.onyx.stop = 3 then logEntry 0x04 0xFF 0 (leBytes 8 (last / tickHz)) s
    else if s.onyx.stop = 4 then logEntry 0x05 0xFF 0 (leBytes 8 (last / tickHz)) s else s
  let s := s.beryl.tamper.foldl (fun (s : State) (t : TamperRec) => if t.logged then s
    else
      let s := markBits (fun _ => true) 0x0100 (logEntry 0x0D 0xFF 0 (leBytes 1 t.loop) s)
      if t.told then s else ev 0x08 12 0 t.loop s) s
  let s := { s with beryl := { s.beryl with tamper := s.beryl.tamper.map fun (t : TamperRec) => { t with logged := true, told := true } } }
  let s := (allFin 9).foldl (fun (s : State) (m : Fin 9) =>
    if slotServed s m then logEntry 0x03 m 0 (leBytes 4 0 ++ leBytes 4 f) s else s) s
  let s := if s.onyx.stop = 2 ∨ s.onyx.stop = 3 then markBits (fun _ => true) 0x0200 s else s
  persistLive (startInterval (ev 0x89 13 0 kind s))

/-- ONYX_UP: the self-test and the check value of a start; on a failure Onyx sends no health word (R124). -/
def execOnyxUp (ok : Bool) (test : Nat) (s : State) : Outcome State Fault Refusal :=
  if s.sys.onyxUp ∨ s.sys.onyxFailed ∨ s.sys.inReset then ans s
  else if ok then ans (onyxStart s)
  else ans (ev 0x06 13 0 test { s with sys := { s.sys with onyxFailed := true } })

end Sys2Proof.Machine
end

