-- ==== Sys2Proof/Machine/Vehicle.lean ====
section
/-! DEFINITION. The vehicle links (chapter 07): Agate's receive path, matching, discovery and security, the vehicle's
requests and their responses, the content shared with the host, the key store and the loopback self-test (R134, R135). -/

namespace Sys2Proof.Machine

open Host

/-- The vehicle-link part of the state changed. -/
def modVlk (f : VlkSt → VlkSt) (s : State) : State := { s with vlk := f s.vlk }

/-- One outlet's link changed. -/
def modV (k : Fin 8) (f : VPort → VPort) (s : State) : State := modVlk (fun v => { v with ports := upd v.ports k f }) s

/-! ### Ports (R233, R257, R258) -/

/-- Whether HPGP port k serves outlet k (R233). -/
def hpgpServes (s : State) (k : Fin 8) : Bool := (isAc s k && pbool s 0x1003 k) || outType s k == 3

/-- The 10BASE-T1S port of a MW outlet (R233). -/
def t1sOf (s : State) (k : Fin 8) : Option (Fin 2) :=
  if outType s k = 4 then
    (if pget s 0x1004 k = 0 then some 0 else if pget s 0x1004 k = 1 then some 1 else none)
  else none

/-- Whether an outlet's port carries traffic: full service, not in watch state, its outlet not fenced, Agate running, the
HPGP port not failed and not in a loopback test (R233, R257, R258, R532). -/
def portUsable (s : State) (k : Fin 8) : Bool :=
  s.sys.service == .full && !watching s && !fencedDomain s k && !powerFailed s && s.flt.agate == 0
    && (match t1sOf s k with
      | some _ => true
      | none => hpgpServes s k && !portFailed s k && (s.vlk.loopTest.map (·.1)) != some k)

/-- The link moved to a state (Table VLK-5), with the frame of entry. -/
def toV (k : Fin 8) (st : VState) (s : State) : State :=
  let f := s.frame
  modV k (fun p => { p with st := st, entered := f }) s

/-- Whether the decode lanes take frames: not during a loopback test or a restart of Agate's units. -/
def lanesOpen (s : State) : Bool := s.vlk.loopTest.isNone && s.vlk.restartBy.isNone && s.flt.agate == 0

/-! ### Agate's receive path (R236 to R239) -/

/-- The end of a frame (R236). -/
def RxFrame.te (r : RxFrame) : Rat := r.ts + r.len.getD 0

/-- The claim limit of a frame (R237). -/
def RxFrame.limit (r : RxFrame) : Rat := r.ts + 6 / 10 * r.len.getD 0 + r.rifs - 32

/-- When a claimed frame's payload is complete (R236, R237). -/
def RxFrame.ready (r : RxFrame) : Rat := max r.te (r.claimed + 4 / 10 * r.len.getD 0) + 20

/-- A free decode lane, the lowest. -/
def freeLane (s : State) : Option (Fin 4) := if lanesOpen s then (allFin 4).find? fun (l : Fin 4) => s.vlk.lanes[l].isNone else none

/-- A lane claimed for a port's frame. -/
def claimLane (k : Fin 8) (l : Fin 4) (t : Rat) (s : State) : State :=
  modV k (fun p => { p with rx := p.rx.map fun r => { r with lane := some l, claimed := t } })
    (modVlk (fun v => { v with lanes := v.lanes.set l (some k) }) s)

/-- The frames that wait for a lane and are within their claim limits, by port. -/
def waitingFrames (s : State) (t : Rat) : List (Fin 8 × RxFrame) :=
  (allFin 8).filterMap fun (k : Fin 8) => match s.vlk.ports[k].rx with
    | some r => if r.lane.isNone && !r.done && (r.len.isNone || decide (t ≤ r.limit)) then some (k, r) else none
    | none => none

/-- A free lane goes to the waiting frame of earliest start, between equal ones to the lower port (R237). -/
def grantLane (t : Rat) (s : State) : State :=
  match freeLane s, sortBy (fun (a b : Fin 8 × RxFrame) => decide (a.2.ts < b.2.ts)) (waitingFrames s t) with
  | some l, (k, _) :: _ => claimLane k l t s
  | _, _ => s

/-- A port's lane released, its own frame over, and given to a frame that waits (R237). -/
def releaseLane (k : Fin 8) (t : Rat) (s : State) : State :=
  match s.vlk.ports[k].rx.bind (·.lane) with
  | some l =>
    grantLane t (modV k (fun p => { p with rx := p.rx.map fun r => { r with lane := none, done := true } })
      (modVlk (fun v => { v with lanes := v.lanes.set l none }) s))
  | none => s

/-- What the prepared fields of a response depend on (R252). -/
def vlkBasis (s : State) (k : Fin 8) : PrepBasis :=
  let ids := [0x2000, 0x2001, 0x2002, 0x2003, 0x1040, 0x1041, 0x1042, 0x1043]
  { st := s.outlets[k].st, imp := s.outlets[k].effImp, exp := s.outlets[k].effExp,
    par := ids.map fun id => (id, pget s id k) }

/-- The request the protocol step predicts (R251): in the charge loop the same again, else the first that may follow. -/
def vlkPredict (s : State) (k : Fin 8) : ReqKind :=
  let p := s.vlk.ports[k]
  let loop : ReqKind := if isDc s k then .currentDemand else .chargingStatus
  match p.lastReq with
  | none => .sessionSetup
  | some .sessionSetup => .serviceDiscovery
  | some .serviceDiscovery => if pget s 0x2002 k / 2 % 2 = 1 ∧ p.tls ≠ 0 then .paymentDetails else .authorization
  | some .paymentDetails => .authorization
  | some .certificate => .paymentDetails
  | some .authorization => if s.outlets[k].claim.held then .chargeParameter else .authorization
  | some .chargeParameter => if p.schedule.isNone then .chargeParameter else if isDc s k then .cableCheck else .powerStart
  | some .cableCheck => if s.outlets[k].st = .cableCheck then .cableCheck else .preCharge
  | some .preCharge => .preCharge
  | some .powerStart => loop
  | some .currentDemand => .currentDemand
  | some .chargingStatus => .chargingStatus
  | some .meteringReceipt => loop
  | some .powerStop => if isDc s k then .weldingDetection else .powerStop
  | some .weldingDetection => .weldingDetection

/-- The run-ahead builder begins to prepare a response (R251). -/
def prepare (k : Fin 8) (s : State) : State :=
  let p := s.vlk.ports[k]
  if p.st = .session ∧ pbool s 0x2010 0 ∧ p.basis.isNone ∧ p.req.isNone then
    let b := vlkBasis s k
    let n := vlkPredict s k
    modV k (fun p => { p with predicted := some n, basis := some b }) s
  else s

/-- Time on the line moves on. -/
def lineTime (t : Rat) (s : State) : State := modVlk (fun v => { v with now := max v.now t }) s

/-- PREAMBLE_DETECTED: the frame claims a free lane at once, or waits in its ring (R236). -/
def execPreambleDetected (k : Fin 8) (at_ : Rat) (s : State) : Outcome State Fault Refusal :=
  if ¬ portUsable s k ∨ (t1sOf s k).isSome ∨ s.vlk.ports[k].rx.isSome then ans s
  else
    let s := prepare k (lineTime at_ (modV k (fun p => { p with rx := some { ts := at_ }, sack := .none }) s))
    match freeLane s with
    | some l => ans (claimLane k l at_ s)
    | none => ans s

/-- FRAME_CONTROL_DECODED: 60 µs after the preamble; a frame for another network releases its lane (R236), the port's own
loads the all-blocks-failed SACK (R238). -/
def execFrameControlDecoded (k : Fin 8) (own : Bool) (lenUs rifs at_ : Rat) (s : State) : Outcome State Fault Refusal :=
  match s.vlk.ports[k].rx with
  | none => ans s
  | some r =>
    if r.len.isSome ∨ at_ < r.ts + 60 then ans s
    else if own then
      ans (lineTime at_ (modV k (fun p => { p with rx := some { r with len := some lenUs, rifs := rifs }, sack := .allFailed }) s))
    else ans (modV k (fun p => { p with rx := none }) (releaseLane k at_ (lineTime at_ s)))

/-- PAYLOAD_DECODED: the true SACK loaded if it is not too late, the lane released (R236 to R238). -/
def execPayloadDecoded (k : Fin 8) (ok : Bool) (at_ : Rat) (s : State) : Outcome State Fault Refusal :=
  match s.vlk.ports[k].rx with
  | none => ans s
  | some r =>
    if r.lane.isNone ∨ r.len.isNone ∨ r.done ∨ at_ < r.ready then ans s
    else
      let early := decide (at_ ≤ r.te + r.rifs - 12)
      let s := modV k (fun p => { p with
        rx := p.rx.map fun r => { r with done := true }
        sack := if early then .result ok else p.sack
        decoded := satInc p.decoded, failed := if ok then p.failed else satInc p.failed }) (lineTime at_ s)
      ans (releaseLane k at_ s)

/-- A frame that no lane claimed in time: counted, and reported at most once per 8,000 F (R239). -/
def laneMiss (k : Fin 8) (s : State) : State :=
  let p := s.vlk.ports[k]
  let n := p.missSince + 1
  let f := s.frame
  let s := modV k (fun p => { p with rx := p.rx.map (fun r => { r with done := true }), misses := satInc p.misses, missSince := n }) s
  if (match p.missSent with
    | some x => decide (x + 8000 ≤ f)
    | none => true) then ev 0x64 k 0 n (modV k (fun p => { p with missSince := 0, missSent := some f }) s)
  else s

/-- VLK_LANE_MISS: the claim limit of a waiting frame has passed (R237, R239). -/
def execVlkLaneMiss (k : Fin 8) (at_ : Rat) (s : State) : Outcome State Fault Refusal :=
  match s.vlk.ports[k].rx with
  | none => ans s
  | some r => if r.lane.isSome ∨ r.done ∨ r.len.isNone ∨ at_ ≤ r.limit then ans s else ans (laneMiss k (lineTime at_ s))

/-- SACK_SENT: at the signalled RIFS the prepared SACK leaves (R238). -/
def execSackSent (k : Fin 8) (at_ : Rat) (s : State) : Outcome State Fault Refusal :=
  match s.vlk.ports[k].rx with
  | none => ans s
  | some r =>
    if r.len.isNone ∨ at_ < r.te + r.rifs - 1 / 2 ∨ (r.lane.isSome ∧ ¬ r.done) then ans s
    else
      let s := if r.done then s else laneMiss k s
      let s := match s.vlk.ports[k].sack with
        | .none => s
        | .allFailed => emit (.sack k false) s
        | .result ok => emit (.sack k ok) s
      ans (lineTime at_ (modV k (fun p => { p with rx := none, sack := .none }) s))

/-! ### Link states (R241, R242, R246) -/

/-- A link OFF: its claim of a lane, its transmission and its TLS and TCP state go; counters and the last cause stay. -/
def vlkOff (k : Fin 8) (s : State) : State :=
  let f := s.frame
  let s := releaseLane k s.vlk.now s
  let s := if s.vlk.ports[k].tcp then emit (.tcp k 4) s else s
  modVlk (fun v => { v with tlsQueue := v.tlsQueue.filter (· != k) })
    (modV k (fun p =>
      { entered := f, cause := p.cause, slac := { meanAtt := p.slac.meanAtt }, decoded := p.decoded, misses := p.misses,
        missSince := p.missSince, missSent := p.missSent, failed := p.failed, raUses := p.raUses, raDrops := p.raDrops,
        loopFail := p.loopFail }) s)

/-- The link starts when its outlet enters LINKING (R241, Table VLK-5). -/
def vlkStart (k : Fin 8) (s : State) : State :=
  let f := s.frame
  let init := f + pget s 0x2006 0
  let setup := f + pget s 0x200A 0
  if ¬ portUsable s k then s
  else
    let s := modV k (fun p => { p with cause := 0 }) (vlkOff k s)
    match t1sOf s k with
    | some t =>
      if s.vlk.t1s[t].plca then toV k .sdp (modV k (fun p => { p with timers := { p.timers with setup := some setup } }) s)
      else s
    | none => toV k .waitSlac (modV k (fun p => { p with timers := { p.timers with init := some init } }) s)

/-- A link failure (R246): VLK_LINK_LOST, the session falls back to basic or stops, and the link goes OFF at the next
frame. -/
def linkFail (k : Fin 8) (cause : Nat) (s : State) : State :=
  let p := s.vlk.ports[k]
  if p.down ∨ p.st = .off then s
  else
    let st := s.outlets[k].st
    let s := evNext 0x63 k 0 cause (modV k (fun p => { p with down := true, cause := cause, timers := {} }) s)
    if isAc s k ∧ (st = .linking ∨ st = .authorising) then linkFails k s else stopSession k 0x0C 0 s

/-- Whether a link failure cause of Table VLK-8 holds. -/
def linkCauseHolds (s : State) (k : Fin 8) (cause : Nat) : Bool :=
  let p := s.vlk.ports[k]
  let early := p.st == .sdp || p.st == .tls || p.st == .app
  match cause with
  | 1 => (p.st == .waitSlac || p.st == .matching) && expired p.timers.init s.frame
  | 2 => p.st == .matching && expired p.timers.join s.frame
  | 3 => early && expired p.timers.setup s.frame
  | 4 => p.st == .tls || p.tls != 0
  | 5 => p.st == .app
  | 6 => p.st == .session && expired p.timers.seq s.frame
  | 7 => p.st == .session && p.tcp
  | 8 => early || p.st == .session
  | 9 => (t1sOf s k).isSome && p.st != .off
  | _ => false

/-- VLK_LINK_LOST: a cause of Table VLK-8 fails the link. -/
def execVlkLinkLost (k : Fin 8) (cause : Nat) (s : State) : Outcome State Fault Refusal :=
  if linkCauseHolds s k cause then ans (linkFail k cause s) else ans s

/-- SLAC_INIT_TIMEOUT: cause 1 (R241). -/
def execSlacInitTimeout (k : Fin 8) (s : State) : Outcome State Fault Refusal :=
  if linkCauseHolds s k 1 then ans (linkFail k 1 s) else ans s

/-- SLAC_JOIN_TIMEOUT: cause 2 (R241). -/
def execSlacJoinTimeout (k : Fin 8) (s : State) : Outcome State Fault Refusal :=
  if linkCauseHolds s k 2 then ans (linkFail k 2 s) else ans s

/-- SETUP_TIMEOUT: cause 3 (Table VLK-8). -/
def execSetupTimeout (k : Fin 8) (s : State) : Outcome State Fault Refusal :=
  if linkCauseHolds s k 3 then ans (linkFail k 3 s) else ans s

/-- SEQUENCE_TIMEOUT: cause 6 (R249). -/
def execSequenceTimeout (k : Fin 8) (s : State) : Outcome State Fault Refusal :=
  if linkCauseHolds s k 6 then ans (linkFail k 6 s) else ans s

/-- RESUME_TIMEOUT: a closed link goes OFF (Table VLK-5). -/
def execResumeTimeout (k : Fin 8) (s : State) : Outcome State Fault Refusal :=
  let p := s.vlk.ports[k]
  if p.st = .closed ∧ expired p.timers.resume s.frame then ans (vlkOff k s) else ans s

/-- The link CLOSED, its resumption timed by VLK.T.RESUME; 0 allows none (Tables VLK-5, VLK-14). -/
def vlkClose (k : Fin 8) (s : State) : State :=
  let f := s.frame
  let t := pget s 0x200D 0
  if t = 0 then vlkOff k s
  else toV k .closed (modV k (fun p => { p with
    timers := { resume := some (f + t) }, tcp := false, sdpDone := false, tls := 0, tlsVer := 0, keySlot := 0xFF, req := none,
    predicted := none, basis := none, pauseReq := false, stopped := false, lastReq := none }) s)

/-! ### Matching (R240, R241) -/

/-- Whether a port takes messages of matching. -/
def slacOn (s : State) (k : Fin 8) : Bool := portUsable s k && (t1sOf s k).isNone && !s.vlk.ports[k].down

/-- CM_SLAC_PARM_REQ: matching starts; CM_SLAC_PARM.CNF is message 1. -/
def execCmSlacParmReq (k : Fin 8) (runId : Nat) (s : State) : Outcome State Fault Refusal :=
  if slacOn s k ∧ s.vlk.ports[k].st = .waitSlac then
    let t := s.frame + pget s 0x2007 0
    ans (emit (.slac k 1 [runId]) (toV k .matching (modV k (fun p => { p with
      slac := { runId := runId, fails := p.slac.fails }, timers := { p.timers with match_ := some t, join := none } }) s)))
  else ans s

/-- The mean of a matching's sounds, dB. -/
def meanAtt (l : List Nat) : Nat := if l.isEmpty then 0 else (roundRat ((l.foldl (· + ·) 0 : Nat) / (l.length : Nat) : Rat)).toNat

/-- M_SOUND: one of 1 to 10 sounds of the RunID measured; the average reported so far is message 2, CM_ATTEN_CHAR.IND. -/
def execMSound (k : Fin 8) (runId attenuation : Nat) (s : State) : Outcome State Fault Refusal :=
  let c := s.vlk.ports[k].slac
  if slacOn s k ∧ s.vlk.ports[k].st = .matching ∧ c.runId = runId ∧ c.sounds.length < 10 ∧ s.vlk.ports[k].timers.join.isNone then
    let l := c.sounds ++ [attenuation]
    ans (emit (.slac k 2 [runId, l.length, meanAtt l]) (modV k (fun p => { p with slac := { c with sounds := l, meanAtt := meanAtt l } }) s))
  else ans s

/-- CM_SLAC_MATCH_REQ: answered with a membership key drawn for this match; VLK.SLAC.T.JOIN starts (R240, R241). -/
def execCmSlacMatchReq (k : Fin 8) (runId : Nat) (s : State) : Outcome State Fault Refusal :=
  let c := s.vlk.ports[k].slac
  if slacOn s k ∧ s.vlk.ports[k].st = .matching ∧ c.runId = runId ∧ ¬ c.sounds.isEmpty ∧ s.vlk.ports[k].timers.join.isNone then
    let key := leNat (freeBytes s 16)
    let t := s.frame + pget s 0x2008 0
    ans (emit (.slac k 3 [runId, key]) (modV k (fun p => { p with
      slac := { c with nmk := key }, timers := { p.timers with match_ := none, join := some t } }) s.draw))
  else ans s

/-- CM_VALIDATE_REQ: answered with the toggles counted when VLK.SLAC.VAL is 1, refused otherwise (R240); message 4. -/
def execCmValidateReq (k : Fin 8) (runId : Nat) (s : State) : Outcome State Fault Refusal :=
  let c := s.vlk.ports[k].slac
  if slacOn s k ∧ s.vlk.ports[k].st = .matching ∧ c.runId = runId then
    if pbool s 0x2009 0 then
      ans (emit (.slac k 4 [1, c.toggles]) (modV k (fun p => { p with slac := { c with valid := true } }) s))
    else ans (emit (.slac k 4 [0, 0]) s)
  else ans s

/-- While validation runs, the accepted transitions between B and C of its pilot are counted (R240). -/
def vlkToggles (s : State) : State :=
  (allFin 8).foldl (fun (s : State) (k : Fin 8) =>
    let p := s.vlk.ports[k]
    let now := s.outlets[k].pilot.accepted
    let edge := p.slac.valid && p.st == .matching && ((p.lastPilot == .b && now == .c) || (p.lastPilot == .c && now == .b))
    modV k (fun p => { p with lastPilot := now, slac := if edge then { p.slac with toggles := p.slac.toggles + 1 } else p.slac }) s) s

/-- VLK_SLAC_RETRY: VLK.SLAC.T.MATCH expires; the port waits again while VLK.SLAC.T.INIT runs (R241). -/
def execVlkSlacRetry (k : Fin 8) (s : State) : Outcome State Fault Refusal :=
  let p := s.vlk.ports[k]
  if p.st = .matching ∧ ¬ p.down ∧ expired p.timers.match_ s.frame ∧ ¬ expired p.timers.init s.frame then
    let n := p.slac.fails + 1
    ans (ev 0x61 k 0 n (toV k .waitSlac (modV k (fun p => { p with slac := { fails := n }, timers := { p.timers with match_ := none } }) s)))
  else ans s

/-- VLK_SLAC_MATCHED: the vehicle's first frame in the new network is stamped (R241); VLK.T.SETUP starts (Table VLK-8). -/
def execVlkSlacMatched (k : Fin 8) (s : State) : Outcome State Fault Refusal :=
  let p := s.vlk.ports[k]
  if slacOn s k ∧ p.st = .matching ∧ p.timers.join.isSome then
    let t := s.frame + pget s 0x200A 0
    ans (ev 0x60 k 0 (p.slac.sounds.length * 256 + p.slac.meanAtt) (toV k .sdp (modV k (fun p => { p with timers := { setup := some t } }) s)))
  else ans s

/-! ### 10BASE-T1S (R235, R241) -/

/-- The outlet a 10BASE-T1S port serves. -/
def t1sOutlet (s : State) (t : Fin 2) : Option (Fin 8) := (allFin 8).find? fun (k : Fin 8) => t1sOf s k == some t

/-- T1S_PLCA_RUNNING: the port of an outlet that is not UNAVAILABLE runs; a link in LINKING passes to SDP (R241). -/
def execT1sPlcaRunning (port : Fin 2) (s : State) : Outcome State Fault Refusal :=
  match t1sOutlet s port with
  | none => ans s
  | some k =>
    if s.outlets[k].st = .unavailable ∨ ¬ portUsable s k ∨ s.vlk.t1s[port].plca then ans s
    else
      let t := s.frame + pget s 0x200A 0
      let s := ev 0x68 k 0 1 (modVlk (fun v => { v with t1s := v.t1s.set port { plca := true } }) s)
      if s.outlets[k].st = .linking ∧ s.vlk.ports[k].st = .off then
        ans (toV k .sdp (modV k (fun p => { p with timers := { setup := some t } }) s))
      else ans s

/-- T1S_LINK_LOSS: a beacon collision, or 80 F without signal, is a link loss with cause 9 (R235). -/
def execT1sLinkLoss (port : Fin 2) (_collision : Bool) (s : State) : Outcome State Fault Refusal :=
  match t1sOutlet s port with
  | none => ans s
  | some k =>
    if ¬ s.vlk.t1s[port].plca then ans s
    else ans (linkFail k 9 (ev 0x68 k 0 0 (modVlk (fun v => { v with t1s := v.t1s.set port { plca := false } }) s)))

/-! ### Discovery, TCP and TLS (R243 to R245) -/

/-- Whether a port is in one of the states a message of connection set-up belongs to; CLOSED takes them for a new session. -/
def setupOn (s : State) (k : Fin 8) (l : List VState) : Bool :=
  portUsable s k && !s.vlk.ports[k].down && (l.contains s.vlk.ports[k].st || s.vlk.ports[k].st == .closed)

/-- SDP_REQUEST: answered with TCP port 50010 + k and the option of Table VLK-6 (code 0 no TLS, 1 TLS). -/
def execSdpRequest (k : Fin 8) (tls : Bool) (s : State) : Outcome State Fault Refusal :=
  if setupOn s k [.sdp] then
    let mode := pget s 0x2001 k
    let offer := mode == 2 || (mode == 1 && tls)
    ans (emit (.tcp k (if offer then 1 else 0))
      (modV k (fun p => { p with sdpDone := true, wantTls := tls && mode != 0, offTls := offer }) s))
  else ans s

/-- TCP_CONNECTION: one connection per port; a second is reset (R243). Codes 2 accepted, 3 reset. -/
def execTcpConnection (k : Fin 8) (s : State) : Outcome State Fault Refusal :=
  let p := s.vlk.ports[k]
  if p.tcp then ans (emit (.tcp k 3) s)
  else if setupOn s k [.sdp] ∧ (p.sdpDone ∨ p.st = .closed) then
    let s := emit (.tcp k 2) (modV k (fun p => { p with tcp := true }) s)
    ans (if p.st = .closed then s else toV k (if p.wantTls then .tls else .app) s)
  else ans s

/-- Whether the session of a link is over: its SessionStopReq answered, or its outlet past the session. -/
def sessionOver (s : State) (k : Fin 8) : Bool :=
  s.vlk.ports[k].stopped || s.outlets[k].st == .ended || s.outlets[k].st == .paused

/-- TCP_RESET by the vehicle: in SESSION cause 7, after a session end CLOSED; before SESSION the port awaits a connection
again. -/
def execTcpReset (k : Fin 8) (s : State) : Outcome State Fault Refusal :=
  let p := s.vlk.ports[k]
  if ¬ p.tcp ∨ p.down then ans s
  else if p.st = .session then
    ans (if sessionOver s k then vlkClose k s else linkFail k 7 (modV k (fun p => { p with tcp := false }) s))
  else
    let s := modVlk (fun v => { v with tlsQueue := v.tlsQueue.filter (· != k) })
      (modV k (fun p => { p with tcp := false, tls := 0, tlsVer := 0, keySlot := 0xFF }) s)
    ans (if p.st = .tls ∨ p.st = .app then toV k .sdp s else s)

/-- A TLS failure (R245): VLK_TLS_FAIL with the alert, cause 4. -/
def tlsFail (k : Fin 8) (alert : Nat) (s : State) : State := linkFail k 4 (evNext 0x65 k 0 alert s)

/-- Whether a key slot holds a key. -/
def slotKey (s : State) (slot : Nat) : Bool := match vget? s.vlk.keys slot with
  | some x => x.key.isSome
  | none => false

/-- CLIENT_HELLO: the handshake takes its place in the queue (R245); an empty key slot or an unacceptable offer fails the
link, with the alert handshake_failure (40). -/
def execClientHello (k : Fin 8) (v13 acceptable : Bool) (s : State) : Outcome State Fault Refusal :=
  let p := s.vlk.ports[k]
  if setupOn s k [.tls, .app] ∧ p.tcp ∧ p.tlsVer = 0 ∧ (p.wantTls ∨ p.offTls) then
    let slot := pget s (if v13 then 0x2005 else 0x2004) k
    if acceptable ∧ slotKey s slot then
      let s := if p.st = .app then toV k .tls s else s
      ans (modVlk (fun v => { v with tlsQueue := v.tlsQueue ++ [k] })
        (modV k (fun p => { p with tlsVer := if v13 then 2 else 1, keySlot := slot }) s))
    else ans (tlsFail k 40 s)
  else ans s

/-- TLS_HANDSHAKE_COMPLETE: the handshake at the head of the queue ends (R245). -/
def execTlsHandshakeComplete (k : Fin 8) (ok : Bool) (alert : Nat) (s : State) : Outcome State Fault Refusal :=
  if s.vlk.tlsQueue.head? ≠ some k then ans s
  else
    let s := modVlk (fun v => { v with tlsQueue := v.tlsQueue.drop 1 }) s
    let p := s.vlk.ports[k]
    if p.down then ans s
    else if ok then
      let s := modV k (fun p => { p with tls := p.tlsVer }) s
      ans (if p.st = .tls then toV k .app s else s)
    else ans (tlsFail k alert s)

/-- Whether a protocol may be selected (R244): enabled, suited to the outlet, with the security it needs; DIN SPEC 70121
runs without TLS and ISO 15118-20 with it (Table VLK-7). -/
def protoFits (s : State) (k : Fin 8) (n : Nat) : Bool :=
  let ty := outType s k
  let tls := s.vlk.ports[k].tls
  decide (1 ≤ n) && decide (n ≤ 3) && pget s 0x2000 k / 2 ^ (n - 1) % 2 == 1
    && (n == 3 || ty != 4)
    && (if n == 1 then isDc s k && tls == 0 else if n == 2 then isAc s k || ty == 3 else tls != 0)

/-- SUPPORTED_APP_PROTOCOL_REQ: the fitting entry of lowest priority value is selected (R244); offers are pairs of priority
and protocol. Codes 0x10 + protocol, 0x1F failed. -/
def execSupportedAppProtocolReq (k : Fin 8) (offers : List (Nat × Nat)) (s : State) : Outcome State Fault Refusal :=
  let p := s.vlk.ports[k]
  if setupOn s k [.app] ∧ p.tcp ∧ (p.st = .app ∨ p.wantTls = false ∨ p.tls ≠ 0) then
    match sortBy (fun (a b : Nat × Nat) => decide (a.1 < b.1)) (offers.filter fun x => protoFits s k x.2) with
    | [] => ans (linkFail k 5 (emit (.tcp k 0x1F) s))
    | (_, n) :: _ =>
      let t := s.frame + pget s 0x200B 0
      let s := ev 0x62 k 0 (p.tls * 256 + n) (emit (.tcp k (0x10 + n)) (modV k (fun p => { p with proto := n }) s))
      if p.st = .app then ans (toV k .session (modV k (fun p => { p with timers := { seq := some t } }) s)) else ans s
  else ans s

/-! ### Content for the host (R253) -/

/-- A content item in queue 1, in packets of 16 records (R253), when its bit of VLK.MSG.MASK is set. -/
def vlkContent (k : Fin 8) (type : Nat) (item : List Byte) (s : State) : State :=
  if pget s 0x200E 0 / 2 ^ (type - 1) % 2 = 1 then
    let parts := match chunks 180 46 (item.take 8192) with
      | [] => [[]]
      | l => l
    let n := parts.length
    parts.zipIdx.foldl (fun (s : State) (x : List Byte × Nat) =>
      pushData 1 type k ((x.2 + 1) * 256 + n) (Config.freeNat s.rnd % 2 ^ 32) x.1 s.draw) s
  else s

/-! ### Requests (R247 to R249) -/

/-- A vehicle request stamped in SESSION: VLK.T.SEQ stops (R249), its response becomes due; `f` is what it drives. A port
of 10BASE-T1S begins its run-ahead here. -/
def takeReq (k : Fin 8) (kind : ReqKind) (answer : Answer) (f : State → State) (s : State) : Outcome State Fault Refusal :=
  let p := s.vlk.ports[k]
  if portUsable s k ∧ p.st = .session ∧ ¬ p.down ∧ ¬ p.stopped ∧ p.req.isNone then
    let n := s.frame
    let s := if (t1sOf s k).isSome then prepare k s else s
    ans (f (modV k (fun p => { p with req := some { kind := kind, frame := n, answer := answer },
                                      timers := { p.timers with seq := none } }) s))
  else ans s

/-- A request that the outlet or its protocol does not permit: answered with a sequence error, cause 8 (Table VLK-8). -/
def refuseReq (k : Fin 8) (kind : ReqKind) (s : State) : Outcome State Fault Refusal :=
  let p := s.vlk.ports[k]
  if portUsable s k ∧ p.st = .session ∧ ¬ p.down then ans (linkFail k 8 (emit (.vehicle k kind .failed []) s)) else ans s

/-- SESSION_SETUP_REQ (Table VLK-9): a new SessionID, or the previous session resumed from CLOSED. -/
def execSessionSetupReq (k : Fin 8) (evccid sessionId : Nat) (s : State) : Outcome State Fault Refusal :=
  let p := s.vlk.ports[k]
  let closed := p.st == .closed && p.tcp && portUsable s k && !p.down
  let resume := closed && sessionId == p.sessionId
  let s := if closed then toV k .session (modV k (fun p => { p with timers := {} }) s) else s
  takeReq k .sessionSetup .ok (fun s =>
    let fresh := leNat (freeBytes s 8)
    let id := if resume then sessionId else fresh
    let s := modV k (fun p => { p with evccid := evccid, sessionId := id, schedule := none, ccAsked := false, denied := false }) s.draw
    let s := if closed ∧ s.outlets[k].st = .ended then goTo k .authorising s else s
    vlkContent k 0x01 (leBytes 1 p.proto ++ leBytes 1 p.tls ++ leBytes 6 evccid ++ leBytes 8 id) s) s

/-- AUTHORIZATION_REQ or ContractAuthenticationReq (Table VLK-9, R255): payment 0 external, 1 contract. -/
def execAuthorizationReq (k : Fin 8) (payment : Nat) (sigOk : Bool) (s : State) : Outcome State Fault Refusal :=
  let p := s.vlk.ports[k]
  let enabled := decide (payment < 2) && pget s 0x2002 k / 2 ^ payment % 2 == 1 && (payment == 0 || p.proto != 1)
  let bad := payment == 1 && !sigOk
  takeReq k .authorization (if enabled && !bad then .ok else .failed) (fun s =>
    let s := modV k (fun p => { p with payment := payment }) s
    let s := vlkContent k 0x02 (leBytes 1 payment ++ leBytes 1 p.emaid.length ++ p.emaid ++ leBytes 16 p.challenge
      ++ [boolByte (payment == 1 && sigOk)]) s
    if bad then stopSession k 0x0C 0 (evNext 0x67 k 0 1 s)
    else if enabled then modOut k (fun o => { o with veh := { o.veh with authStep := true } }) s
    else s) s

/-- PAYMENT_DETAILS_REQ: answered by the device with a fresh challenge; the chain goes to the host (R255). -/
def execPaymentDetailsReq (k : Fin 8) (emaid chain : List Byte) (leafKey : Nat) (s : State) : Outcome State Fault Refusal :=
  if s.vlk.ports[k].proto = 1 then refuseReq k .paymentDetails s
  else takeReq k .paymentDetails .ok (fun s =>
    let c := leNat (freeBytes s 16)
    vlkContent k 0x03 chain (modV k (fun p => { p with emaid := emaid, challenge := c, leafKey := leafKey }) s.draw)) s

/-- SERVICE_DISCOVERY_REQ (Table VLK-9). -/
def execServiceDiscoveryReq (k : Fin 8) (s : State) : Outcome State Fault Refusal :=
  takeReq k .serviceDiscovery .ok id s

/-- Waiting for content of the host starts VLK.T.HOSTRESP (R254). -/
def awaitHost (k : Fin 8) (type : Nat) (s : State) : State :=
  let t := s.frame + pget s 0x200C 0
  if s.vlk.ports[k].awaiting = some type then s
  else modV k (fun p => { p with awaiting := some type, timers := { p.timers with host := some t } }) s

/-- CHARGE_PARAMETER_DISCOVERY_REQ (Table VLK-9): Wh, s, mV, mA, W, mA; ongoing until a schedule is held. -/
def execChargeParameterDiscoveryReq (k : Fin 8) (energy departure vMax maxI maxP maxDis : Nat) (bpt : Bool) (s : State) :
    Outcome State Fault Refusal :=
  let two := bpt && s.vlk.ports[k].proto == 3 && isDc s k
  takeReq k .chargeParameter .ok (fun s =>
    let s := modOut k (fun o => { o with veh := { o.veh with vMax := vMax, maxI := some maxI, maxDis := maxDis, bpt := two } }) s
    let s := vlkContent k 0x04 (leSat 4 energy ++ leSat 4 departure ++ leSat 4 vMax ++ leSat 4 maxI ++ leSat 4 maxP ++ leSat 4 maxDis) s
    if s.vlk.ports[k].schedule.isNone then awaitHost k 0x04 s else s) s

/-- CABLE_CHECK_REQ: the first moves PARAMETERS to CABLE_CHECK (Table VLK-9). -/
def execCableCheckReq (k : Fin 8) (s : State) : Outcome State Fault Refusal :=
  if ¬ isDc s k then refuseReq k .cableCheck s
  else takeReq k .cableCheck .ok (fun s =>
    if ¬ s.vlk.ports[k].ccAsked ∧ s.outlets[k].st = .parameters then
      toCableCheck k (modV k (fun p => { p with ccAsked := true }) s)
    else s) s

/-- PRE_CHARGE_REQ: sets Vt, mV (R182). -/
def execPreChargeReq (k : Fin 8) (target : Nat) (s : State) : Outcome State Fault Refusal :=
  if ¬ isDc s k then refuseReq k .preCharge s
  else takeReq k .preCharge .ok (modOut k (fun o => { o with
    preRun := if o.veh.asked ∧ o.veh.target = target then o.preRun else 0
    veh := { o.veh with target := target, asked := true } })) s

/-- POWER_DELIVERY_REQ_START (Table VLK-9): the energise condition of R183 on DC, PARAMETERS to READY on AC. -/
def execPowerDeliveryReqStart (k : Fin 8) (s : State) : Outcome State Fault Refusal :=
  takeReq k .powerStart .ok (fun s =>
    if isDc s k then modOut k (fun o => { o with veh := { o.veh with start := true } }) s
    else if s.outlets[k].st = .parameters then goTo k .ready s
    else s) s

/-- CURRENT_DEMAND_REQ or DC_ChargeLoopReq: target voltage, mV, and current, mA (R184). -/
def execCurrentDemandReq (k : Fin 8) (target : Nat) (current : Int) (soc : Nat) (s : State) : Outcome State Fault Refusal :=
  if ¬ isDc s k then refuseReq k .currentDemand s
  else takeReq k .currentDemand .ok (fun s => modV k (fun p => { p with soc := soc })
    (modOut k (fun o => { o with veh := { o.veh with target := target, asked := true, current := current } }) s)) s

/-- CHARGING_STATUS_REQ or AC_ChargeLoopReq; the vehicle's own limit, mA, where its message carries one. -/
def execChargingStatusReq (k : Fin 8) (maxI : Option Nat) (soc : Nat) (s : State) : Outcome State Fault Refusal :=
  if ¬ isAc s k then refuseReq k .chargingStatus s
  else takeReq k .chargingStatus .ok (fun s => modV k (fun p => { p with soc := soc })
    (modOut k (fun o => { o with veh := { o.veh with maxI := match maxI with
      | some x => some x
      | none => o.veh.maxI } }) s)) s

/-- POWER_DELIVERY_REQ_STOP (Table VLK-9): PowerDeliveryReq stop or SessionStopReq; with pause, pause intent on AC, CLOSED
after ENDED on DC. -/
def execPowerDeliveryReqStop (k : Fin 8) (pause sessionStop : Bool) (s : State) : Outcome State Fault Refusal :=
  takeReq k .powerStop .ok (fun s =>
    let s := modV k (fun p => { p with pauseReq := pause, req := p.req.map fun r => { r with stop := sessionStop } }) s
    let s := vlkContent k 0x08 [boolByte sessionStop, boolByte pause] s
    if isAc s k ∧ pause then (if s.outlets[k].st = .charging then pauseStop k false s else s)
    else stopSession k 0x03 0 s) s

/-- WELDING_DETECTION_REQ: answered with the present voltage (Table VLK-9). -/
def execWeldingDetectionReq (k : Fin 8) (s : State) : Outcome State Fault Refusal :=
  if ¬ isDc s k then refuseReq k .weldingDetection s else takeReq k .weldingDetection .ok id s

/-- METERING_RECEIPT_REQ: the receipt and the result of its verification go to the host (Table VLK-9). -/
def execMeteringReceiptReq (k : Fin 8) (sigOk : Bool) (receipt : List Byte) (s : State) : Outcome State Fault Refusal :=
  if s.vlk.ports[k].proto = 1 ∨ s.vlk.ports[k].payment ≠ 1 then refuseReq k .meteringReceipt s
  else takeReq k .meteringReceipt (if sigOk then .ok else .failed) (fun s =>
    let s := if sigOk then s else evNext 0x67 k 0 2 s
    vlkContent k 0x06 (receipt ++ [boolByte sigOk]) s) s

/-- CERTIFICATE_INSTALLATION_REQ or CertificateUpdateReq: passed to the host, whose answer is awaited (R254). -/
def execCertificateInstallationReq (k : Fin 8) (update : Bool) (body : List Byte) (s : State) : Outcome State Fault Refusal :=
  if s.vlk.ports[k].proto = 1 then refuseReq k .certificate s
  else takeReq k .certificate .ok (fun s =>
    awaitHost k 0x05 (vlkContent k 0x05 (boolByte update :: body) (modV k (fun p => { p with certResp := none, certPart := {} }) s))) s

/-! ### Responses (R248 to R252) -/

/-- The stop reason an outlet shows or is about to show. -/
def shownReason (s : State) (k : Fin 8) : Nat := match (s.outlets[k].pend.bind (·.reason)) with
  | some r => r
  | none => if decide (13 ≤ sessCode s.outlets[k].st) then s.outlets[k].reason else 0

/-- The shutdown notice a response carries (R250): 2 EVSE_EmergencyShutdown, 1 EVSE_Shutdown, 3 stop notification, 0 none. -/
def vlkNotice (s : State) (k : Fin 8) : Nat :=
  let r := shownReason s k
  if s.garnet.trips[k].isSome || r == 0x11 then 2
  else if r = 0x01 ∨ r = 0x0F then 1
  else if s.outlets[k].st = .stopping then 3 else 0

/-- How a request is answered as the outlet stands; none: not yet (Table VLK-9, R254). -/
def vlkAnswer (s : State) (k : Fin 8) (r : PendReq) : Option Answer :=
  let p := s.vlk.ports[k]
  let o := s.outlets[k]
  if r.answer = .failed then some .failed
  else match r.kind with
    | .authorization =>
      if p.denied ∨ shownReason s k = 0x02 ∨ shownReason s k = 0x06 then some .failed
      else if o.claim.held then some .finished else some .ongoing
    | .chargeParameter => some (if p.schedule.isSome then .finished else .ongoing)
    | .cableCheck =>
      if o.st = .cableCheck ∨ o.st = .parameters ∨ o.st = .deferred then some .ongoing
      else if o.st = .precharge ∨ o.st = .ready then some .finished else some .failed
    | .powerStart =>
      if o.st = .charging then some .ok
      else if o.st = .parameters ∨ o.st = .precharge ∨ o.st = .ready ∨ o.st = .energising ∨ o.st = .paused then none
      else some .failed
    | .certificate => match p.certResp with
      | some (0, _) => some .ok
      | some _ => some .failed
      | none => none
    | _ => some .ok

/-- The isolation status a message carries (R360): 0 Valid, 1 Warning, 2 Fault; 3 while no result stands. -/
def isolationField (s : State) (k : Fin 8) : Nat :=
  let i := s.efi.imd[k]
  if i.tripped then 2 else if i.result.isNone then 3 else i.status

/-- The live tail and the fields of a response (R249, R251): present values, limits within the groups' capacity (R217), the limit-achieved flags, notice,
MeterInfo and the isolation status (R360); then those of the request. -/
def vlkFields (s : State) (k : Fin 8) (kind : ReqKind) : List Int :=
  let o := s.outlets[k]
  let p := s.vlk.ports[k]
  let m : Fin 9 := ⟨k.val + 1, by omega⟩
  let flag (b : Bool) : Int := if b then 1 else 0
  let pool := isDc s k && deviceDriven s k
  let imp := if pool then min o.effImp (poolCapacity s k false) else o.effImp
  let exp := if pool then min o.effExp (poolCapacity s k true) else o.effExp
  [o.meas.v, o.meas.i, imp, exp, flag (decide (pget s 0x1002 k * 1000 ≤ o.veh.target)),
   flag (decide ((imp : Int) ≤ o.veh.current)), vlkNotice s k, (Config.serial.toNat : Int), (m.val : Int), meterWh s m false,
   (isolationField s k : Int)]
    ++ (match kind with
      | .sessionSetup => [(p.sessionId : Int), (pget s 0x2003 k : Int)]
      | .serviceDiscovery => [(outType s k : Int), (pget s 0x2002 k : Int), flag (exportAllowed s k (pget s 0x1043 k)
          || (isDc s k && pbool s 0x1006 k && pget s 0x1043 k == 3 && p.proto == 3))]
      | .paymentDetails => [(p.challenge : Int)]
      | .powerStop => [flag (p.req.any fun r => r.stop)]
      | .chargeParameter => (p.schedule.getD []).map fun b => (b.toNat : Int)
      | .certificate => ((p.certResp.map (·.2)).getD []).map fun b => (b.toNat : Int)
      | _ => [])

/-- Step 6 of the frame after the stamp: the prepared response is used, or discarded and built a frame later (R248, R252). -/
def vlkDecide (k : Fin 8) (s : State) : State :=
  let p := s.vlk.ports[k]
  let f := s.frame
  match p.req with
  | none => s
  | some r =>
    if r.handoff.isSome ∨ f ≤ r.frame then s
    else
      let b := vlkBasis s k
      let fits := p.predicted == some r.kind && p.basis == some b && f == r.frame + 1
      modV k (fun p => { p with
        req := some { r with handoff := some (if fits then f else r.frame + 2) }
        raUses := if fits then satInc p.raUses else p.raUses
        raDrops := if !fits && p.predicted.isSome then satInc p.raDrops else p.raDrops
        predicted := none, basis := none }) s

/-- RESPONSE_HANDOFF: the response goes to the transmit sequencer (R248), and VLK.T.SEQ starts (R249). -/
def execResponseHandoff (k : Fin 8) (s : State) : Outcome State Fault Refusal :=
  match s.vlk.ports[k].req with
  | none => ans s
  | some r =>
    if ¬ expired r.handoff s.frame ∨ s.vlk.ports[k].down then ans s
    else match vlkAnswer s k r with
      | none => ans s
      | some a =>
        let t := s.frame + pget s 0x200B 0
        let s := emit (.vehicle k r.kind a (vlkFields s k r.kind)) s
        let s := modV k (fun p => { p with
          req := none, lastReq := some r.kind, stopped := r.stop
          timers := { p.timers with seq := if r.stop then none else some t } }) s
        let p := s.vlk.ports[k]
        if r.stop ∧ p.pauseReq ∧ ¬ (isDc s k ∧ s.outlets[k].st ≠ .ended) then ans (vlkClose k s) else ans s

/-- The schedule of the default: one entry of 86,400 s at the effective import limit (R254). -/
def defaultSchedule (s : State) (k : Fin 8) : List Byte := leBytes 4 86400 ++ leSat 4 s.outlets[k].effImp

/-- VLK_HOST_WAIT: VLK.T.HOSTRESP expires (R254). -/
def execVlkHostWait (k : Fin 8) (s : State) : Outcome State Fault Refusal :=
  let p := s.vlk.ports[k]
  if expired p.timers.host s.frame ∧ ¬ p.down then
    let d := defaultSchedule s k
    match p.awaiting with
    | some n => ans (ev 0x66 k 0 n (modV k (fun p => { p with
        awaiting := none, timers := { p.timers with host := none }
        schedule := if n = 0x04 then some d else p.schedule
        certResp := if n = 0x05 then some (1, []) else p.certResp }) s))
    | none => ans s
  else ans s

/-- VEHICLE_STATUS_RECORD: every VLK.MSG.PERIOD in the charge loop (Table VLK-10). -/
def execVehicleStatusRecord (k : Fin 8) (s : State) : Outcome State Fault Refusal :=
  let p := s.vlk.ports[k]
  let loop := p.lastReq == some .currentDemand || p.lastReq == some .chargingStatus
  if p.st = .session ∧ loop ∧ p.lastRec + pget s 0x200F 0 ≤ s.frame then
    let o := s.outlets[k]
    let f := s.frame
    ans (vlkContent k 0x07 (leBytes 1 p.soc ++ leSat 4 o.veh.target ++ leInt 4 o.veh.current)
      (modV k (fun p => { p with lastRec := f }) s))
  else ans s

/-- Step 6: the link states that follow the session (R242, R257, R258), and the responses that become due. `gone k` says
that pilot A of outlet k was accepted by the last frame. -/
def vlkStep6 (gone : Fin 8 → Bool) (s : State) : State :=
  (allFin 8).foldl (fun (s : State) (k : Fin 8) =>
    let o := s.outlets[k]
    let p := s.vlk.ports[k]
    let off := p.down || gone k || o.st == .unavailable || o.st == .idle || o.st == .connected || o.timers.fallback.isSome
      || !portUsable s k
    let s := if o.st = .unavailable then (match t1sOf s k with
        | some t => modVlk (fun v => { v with t1s := v.t1s.set t { plca := false } }) s
        | none => s) else s
    if off then (if p.st = .off ∧ ¬ p.down then s else vlkOff k s)
    else
      let s := if o.st = .linking ∧ o.entered = s.frame then vlkStart k s
        else if p.stopped ∧ p.pauseReq ∧ p.st = .session ∧ o.st = .ended then vlkClose k s else s
      vlkDecide k s) s

/-! ### Commands (R260, R261) -/

/-- VLK_STATUS. -/
def execVlkStatus (h : Hdr) (outlet : Nat) (s : State) : Outcome State Fault Refusal :=
  ans (hostCmd h 0x2000 (.vlkStatus h outlet) true true [] (fun _ => if outlet < 8 then done else no 0x1104) s)

/-- The code of a link state (Table VLK-5). -/
def vstateCode (x : VState) : Nat := match x with
  | .off => 0
  | .waitSlac => 1
  | .matching => 2
  | .sdp => 3
  | .tls => 4
  | .app => 5
  | .session => 6
  | .closed => 7

/-- The result of VLK_STATUS (Table VLK-13). -/
def vlkStatusResult (outlet : Nat) (s : State) : List Byte :=
  match vget? s.vlk.ports outlet with
  | none => []
  | some p =>
    leBytes 1 (vstateCode p.st) ++ leBytes 1 p.proto ++ leBytes 1 p.tls ++ leBytes 1 p.cause ++ leBytes 6 p.evccid ++ [0, 0]
      ++ leSat 4 p.decoded ++ leSat 4 p.misses ++ leSat 4 p.failed ++ leSat 4 p.raUses ++ leSat 4 p.raDrops
      ++ leSat 1 p.slac.meanAtt ++ [boolByte p.loopFail, 0, 0] ++ leBytes 6 p.entered ++ [0, 0, 0, 0, 0, 0]

/-- A part stored; a repeated one replaces the earlier (R260). -/
def partsPut (frame total part : Nat) (data : List Byte) (p : Parts) : Parts :=
  { total := total, last := frame, got := insertBy (fun a b => decide (a.1 < b.1)) (part, data) (p.got.filter (·.1 != part)) }

/-- The content when all parts have arrived. -/
def partsWhole (p : Parts) : Option (List Byte) :=
  if p.total ≠ 0 ∧ p.got.length = p.total then some (p.got.flatMap (·.2)) else none

/-- The refusal of a part: its numbers, and a broken sequence (R260). -/
def partsCheck (total part : Nat) (p : Parts) : Option Nat :=
  if part = 0 ∨ total = 0 ∨ total < part then some 0x1101
  else if p.broken ∨ (¬ p.got.isEmpty ∧ p.total ≠ total) then some 0x1063
  else none

/-- The rules common to content in parts: `put` stores them, `ok` judges the whole, `bad` is its refusal. -/
def partsRules (p : Parts) (total part : Nat) (data : List Byte) (put : Parts → State → State) (ok : List Byte → Bool)
    (bad : Nat) (s : State) : Verdict :=
  match partsCheck total part p with
  | some 0x1063 => .reject 0x1063 [] (put {})
  | some d => no d
  | none =>
    let q := partsPut s.frame total part data p
    match partsWhole q with
    | some b => if ok b then .accept 0 none (put q) else .reject bad [] (put {})
    | none => .accept 0 none (put q)

/-- VLK_SCHEDULE during frame N. -/
def scheduleRules (outlet part total : Nat) (data : List Byte) (s : State) : Verdict :=
  if hk : outlet < 8 then
    let k : Fin 8 := ⟨outlet, hk⟩
    let p := s.vlk.ports[k]
    if fencedDomain s outlet then no 0x4001
    else if p.st ≠ .session ∨ p.stopped ∨ p.down then no 0x1060
    else partsRules p.schedPart total part data (fun q s => modV k (fun p => { p with schedPart := q }) s) Config.exiOk 0x1160 s
  else no 0x1104

/-- VLK_SCHEDULE (R254, R260). -/
def execVlkSchedule (h : Hdr) (outlet part total : Nat) (data : List Byte) (s : State) : Outcome State Fault Refusal :=
  ans (hostCmd h 0x2001 (.vlkSchedule h outlet part total data) (!data.isEmpty && decide (data.length ≤ 1000)) true []
    (scheduleRules outlet part total data) s)

/-- The schedule taken at step 6 once all its parts are there. -/
def applySchedule (outlet : Nat) (s : State) : State :=
  if hk : outlet < 8 then
    let k : Fin 8 := ⟨outlet, hk⟩
    match partsWhole s.vlk.ports[k].schedPart with
    | some b => modV k (fun p => { p with
        schedule := some b, schedPart := {}
        awaiting := if p.awaiting = some 0x04 then none else p.awaiting
        timers := { p.timers with host := if p.awaiting = some 0x04 then none else p.timers.host } }) s
    | none => s
  else s

/-- VLK_CERT_RESP during frame N. -/
def certRespRules (outlet part total status : Nat) (data : List Byte) (s : State) : Verdict :=
  if hk : outlet < 8 then
    let k : Fin 8 := ⟨outlet, hk⟩
    let p := s.vlk.ports[k]
    if 1 < status then no 0x1101
    else if fencedDomain s outlet then no 0x4001
    else if p.st ≠ .session ∨ p.awaiting ≠ some 0x05 ∨ p.down then no 0x1060
    else partsRules p.certPart total part data (fun q s => modV k (fun p => { p with certPart := q }) s)
      (fun b => status == 1 || Config.exiOk b) 0x1160 s
  else no 0x1104

/-- VLK_CERT_RESP (R254, R260). -/
def execVlkCertResp (h : Hdr) (outlet part total status : Nat) (data : List Byte) (s : State) : Outcome State Fault Refusal :=
  ans (hostCmd h 0x2002 (.vlkCertResp h outlet part total status data) (!data.isEmpty && decide (data.length ≤ 1000)) true []
    (certRespRules outlet part total status data) s)

/-- The certificate response taken at step 6 once all its parts are there. -/
def applyCertResp (outlet status : Nat) (s : State) : State :=
  if hk : outlet < 8 then
    let k : Fin 8 := ⟨outlet, hk⟩
    match partsWhole s.vlk.ports[k].certPart with
    | some b => modV k (fun p => { p with
        certResp := some (status, b), certPart := {}, awaiting := none, timers := { p.timers with host := none } }) s
    | none => s
  else s

/-- VLK_STATS_CLEAR. -/
def execVlkStatsClear (h : Hdr) (outlet : Nat) (s : State) : Outcome State Fault Refusal :=
  ans (hostCmd h 0x2003 (.vlkStatsClear h outlet) true true [] (fun _ => if outlet < 8 then done else no 0x1104) s)

/-- The statistics of a port cleared at step 6. -/
def applyStatsClear (outlet : Nat) (s : State) : State :=
  if hk : outlet < 8 then
    modV ⟨outlet, hk⟩ (fun p => { p with decoded := 0, misses := 0, failed := 0, raUses := 0, raDrops := 0 }) s
  else s

/-- Whether a key slot serves an open TLS connection. -/
def keyInUse (s : State) (slot : Nat) : Bool :=
  (allFin 8).any fun (k : Fin 8) => s.vlk.ports[k].tlsVer != 0 && s.vlk.ports[k].keySlot == slot

/-- One key slot changed. -/
def modKey (slot : Nat) (f : KeySlot → KeySlot) (s : State) : State :=
  if hk : slot < 8 then modVlk (fun v => { v with keys := upd v.keys ⟨slot, hk⟩ f }) s else s

/-- VLK_KEYGEN_X during frame N. -/
def keygenRules (slot curve : Nat) (s : State) : Verdict :=
  let f := s.frame
  if 8 ≤ slot then no 0x1104
  else if 2 < curve then no 0x1101
  else if keyInUse s slot then no 0x1061
  else if s.vlk.keygen.isSome then no 0x2060
  else .accept 0 none (modVlk fun v => { v with keygen := some (slot, f) })

/-- VLK_KEYGEN_X (R259). -/
def execVlkKeygenX (h : Hdr) (slot curve : Nat) (s : State) : Outcome State Fault Refusal :=
  ans (hostCmd h 0x2080 (.vlkKeygenX h slot curve) true true [] (keygenRules slot curve) s)

/-- VLK_KEY (Table VLK-15); no outlet belongs to a key slot, and the spec gives the event no other domain. -/
def keyEvent (slot what : Nat) (s : State) : State := ev 0x69 (Config.freeNat s.rnd % 16) 0 (slot * 256 + what) s.draw

/-- A key generated at step 6; the chain of the old key goes. -/
def applyKeygen (slot curve : Nat) (s : State) : State :=
  let n := Config.freeNat s.rnd
  keyEvent slot 1
    (modVlk (fun v => { v with keygen := none }) (modKey slot (fun _ => { curve := curve, key := some n }) s.draw))

/-- Bytes of a public key on a curve: 65, 133 or 57. -/
def keyLen (curve : Nat) : Nat := if curve = 0 then 65 else if curve = 1 then 133 else 57

/-- The result of VLK_KEYGEN_X: the public key of the slot. -/
def keygenResult (slot : Nat) (s : State) : List Byte :=
  match vget? s.vlk.keys slot with
  | some x => match x.key with
    | some n => (List.range (keyLen x.curve)).map (Config.vlkPublicKey x.curve n)
    | none => []
  | none => []

/-- VLK_CERT_LOAD_X during frame N. -/
def certLoadRules (slot part total : Nat) (data : List Byte) (s : State) : Verdict :=
  match vget? s.vlk.keys slot with
  | none => no 0x1104
  | some x =>
    if keyInUse s slot then no 0x1061
    else partsRules x.parts total part data (fun q => modKey slot fun x => { x with parts := q })
      (fun b => match x.key with
        | some n => Config.chainOk x.curve n b
        | none => false) 0x1161 s

/-- VLK_CERT_LOAD_X (R259). -/
def execVlkCertLoadX (h : Hdr) (slot part total : Nat) (data : List Byte) (s : State) : Outcome State Fault Refusal :=
  ans (hostCmd h 0x2081 (.vlkCertLoadX h slot part total data) (!data.isEmpty && decide (data.length ≤ 1000)) true []
    (certLoadRules slot part total data) s)

/-- The chain taken at step 6 once all its parts are there. -/
def applyCertLoad (slot : Nat) (s : State) : State :=
  match (vget? s.vlk.keys slot).bind fun x => partsWhole x.parts with
  | some b => keyEvent slot 2 (modKey slot (fun x => { x with chain := some b, parts := {} }) s)
  | none => s

/-- VLK_KEY_CLEAR_X. -/
def execVlkKeyClearX (h : Hdr) (slot : Nat) (s : State) : Outcome State Fault Refusal :=
  ans (hostCmd h 0x2082 (.vlkKeyClearX h slot) true true []
    (fun s => if 8 ≤ slot then no 0x1104 else if keyInUse s slot then no 0x1061 else done) s)

/-- A key slot cleared at step 6. -/
def applyKeyClear (slot : Nat) (s : State) : State := keyEvent slot 3 (modKey slot (fun _ => {}) s)

/-- VLK_LOOPBACK_X during frame N: the test runs for 40 F, and its reply waits for the result. -/
def loopbackRules (outlet : Nat) (s : State) : Verdict :=
  if hk : outlet < 8 then
    let k : Fin 8 := ⟨outlet, hk⟩
    let f := s.frame
    if fencedDomain s outlet then no 0x4001
    else if (s.outlets[k].st ≠ .unavailable ∧ s.outlets[k].st ≠ .idle) ∨ s.vlk.loopTest.isSome then no 0x1062
    else .accept 0 none (fun s => modVlk (fun v => { v with loopTest := some (k, f) })
      { s with due := s.due.map fun d => if d.opcode = 0x2083 then { d with frame := 2 ^ 48 } else d })
  else no 0x1104

/-- VLK_LOOPBACK_X (R260). -/
def execVlkLoopbackX (h : Hdr) (outlet : Nat) (s : State) : Outcome State Fault Refusal :=
  ans (hostCmd h 0x2083 (.vlkLoopbackX h outlet) true true [] (loopbackRules outlet) s)

/-- A port that has failed its test for this start (R135). -/
def loopbackFail (k : Fin 8) (exchange snr : Nat) (s : State) : State :=
  ev 0x0F k 0 (snr % 256 * 256 + exchange % 256) (modV k (fun p => { p with loopFail := true }) s)

/-- A start at which a port is unavailable counts towards its retirement, a pass ends the run of starts (Table FLT-2). -/
def loopbackCount (k : Fin 8) (ok : Bool) (s : State) : State :=
  let o := objFault s 5 k
  let fails := if ok then [] else s.frame :: o.fails
  let s := setObj { o with fails := fails } s
  if ¬ ok ∧ pget s 0x7004 0 ≤ fails.length then retireObj 5 k k 0x0F 1 1 [] s else s

/-- The number of failures of one port set. -/
def setLoopFails (k : Fin 8) (n : Nat) (s : State) : State := { s with sys := { s.sys with loopFails := s.sys.loopFails.set k n } }

/-- LOOPBACK_SELF_TEST: the test of a port ends, at start (R134, R135) or by VLK_LOOPBACK_X (R260). A port that fails is
tested again; one that fails twice is unavailable until the next module reset. -/
def execLoopbackSelfTest (port : Fin 8) (ok : Bool) (exchange snr : Nat) (s : State) : Outcome State Fault Refusal :=
  match s.vlk.loopTest with
  | some (k, f) =>
    if k ≠ port ∨ s.frame < f + 40 then ans s
    else
      let n := s.frame
      let res := [boolByte ok] ++ leBytes 1 (if ok then 0 else exchange) ++ leBytes 1 snr ++ [0]
      let s := modVlk (fun v => { v with loopTest := none })
        { s with due := s.due.map fun d => if d.opcode = 0x2083 then { d with frame := n, res := some res } else d }
      let s := if ok then setLoopFails port 0 (modV port (fun p => { p with loopFail := false }) s)
        else loopbackFail port exchange snr (setLoopFails port 2 s)
      ans (grantLane s.vlk.now s)
  | none =>
    let n := s.sys.loopFails[port]
    if s.sys.imageValid ≠ some true ∨ s.sys.loopDone ∨ 2 ≤ n ∨ s.sys.loopPass / 2 ^ port.val % 2 = 1 ∨ objRetired s 5 port then ans s
    else
      let s := if ok then loopbackCount port true { s with sys := { s.sys with loopPass := s.sys.loopPass + 2 ^ port.val } }
        else
          let s := setLoopFails port (n + 1) s
          if n + 1 < 2 then s else loopbackCount port false (loopbackFail port exchange snr s)
      let all := (allFin 8).all fun (k : Fin 8) =>
        s.sys.loopPass / 2 ^ k.val % 2 == 1 || decide (2 ≤ s.sys.loopFails[k]) || objRetired s 5 k
      ans { s with sys := { s.sys with loopDone := all } }

/-- The parts some content arrives in. -/
def partsOf (s : State) : PartsOf → Parts
  | .schedule k => s.vlk.ports[k].schedPart
  | .certResp k => s.vlk.ports[k].certPart
  | .certLoad slot => s.vlk.keys[slot].parts

/-- PART_SEQUENCE_TIMEOUT: a gap of more than 8,000 F discards the parts; the following part is refused (R260). -/
def execPartSequenceTimeout (of : PartsOf) (s : State) : Outcome State Fault Refusal :=
  let p := partsOf s of
  if p.got.isEmpty ∨ s.frame ≤ p.last + 8000 then ans s
  else
    let q : Parts := { broken := true }
    match of with
    | .schedule k => ans (modV k (fun p => { p with schedPart := q }) s)
    | .certResp k => ans (modV k (fun p => { p with certPart := q }) s)
    | .certLoad slot => ans (modKey slot (fun x => { x with parts := q }) s)

end Sys2Proof.Machine
end

