-- ==== Sys2Proof/Machine/Nfc.lean ====
section
/-! DEFINITION. The contactless reader and tag (chapter 14): polls and card handles, exchanges, the low-power ping, the Type 4
tag with its memory writes, FD. -/

namespace Sys2Proof.Machine

open Host

/-- The contactless part of the state changed. -/
def modNfc (f : NfcSt → NfcSt) (s : State) : State := { s with nfc := f s.nfc }

/-- Whether NFC.MODE includes the reader, and the tag (R474). -/
def readerMode (s : State) : Bool := pget s 0x5800 0 == 1 || pget s 0x5800 0 == 3
def tagMode (s : State) : Bool := pget s 0x5800 0 == 2 || pget s 0x5800 0 == 3

/-- Whether the reader may turn its field on: its mode, full service, not in watch state, no fence, no power fail, no
external field (R474, R475, R494). -/
def readerOn (s : State) : Bool :=
  readerMode s && s.sys.service == .full && !watching s && !fencedDomain s 10 && !powerFailed s && !s.nfc.extField

/-- The number of open handles. -/
def openHandles (s : State) : Nat := ((allFin 8).filter fun (i : Fin 8) => s.nfc.handles[i].isSome).length

/-- A record of queue 3 (Table NFC-8); the detail carries the handle in bits 15:8 (R497). -/
def cardRec (type handle : Nat) (payload : List Byte) (s : State) : State :=
  pushData 3 type 10 (handle * 256) (Config.freeNat s.rnd % 2 ^ 32) payload s.draw

/-! ### Reader (R476 to R481) -/

/-- A poll starts: the field on. -/
def startPoll (byLp : Bool) (s : State) : State :=
  let f := s.frame
  modNfc (fun n => { n with polling := true, pollByLp := byLp, pollFound := 0, field := true, pollAt := f }) s

/-- The field goes off when neither a poll nor a handle needs it (R478). -/
def fieldEnd (s : State) : State :=
  if s.nfc.polling ∨ 0 < openHandles s then s else modNfc (fun n => { n with field := false }) s

/-- A poll ends; a detection that found no card leaves its flag set (R485). -/
def endPoll (s : State) : State :=
  fieldEnd (modNfc (fun n => { n with
    polling := false, pollByLp := false, detFlag := n.detFlag || (n.pollByLp && n.pollFound == 0)
    fdLp := if n.pollByLp then false else n.fdLp }) s)

/-- A handle lost, with its cause (Table NFC-8); an exchange with an absent card ends (R480). -/
def loseHandle (i : Fin 8) (cause : Nat) (s : State) : State :=
  match s.nfc.handles[i] with
  | none => s
  | some _ =>
    let s := match s.nfc.xchg with
      | some x => if x.handle = i.val + 1 then
          cardRec 0x03 x.handle (leBytes 2 x.num ++ [3, 0, 0]) (modNfc (fun n => { n with xchg := none }) s) else s
      | none => s
    fieldEnd (cardRec 0x02 (i.val + 1) (leBytes 1 cause) (modNfc (fun n => { n with handles := n.handles.set i none }) s))

/-- Every handle closed and the field off, with a cause (R494). -/
def readerOff (cause : Nat) (s : State) : State :=
  let s := modNfc (fun n => { n with polling := false, pollByLp := false, fdLp := false }) s
  let s := (allFin 8).foldl (fun (s : State) (i : Fin 8) => loseHandle i cause s) s
  modNfc (fun n => { n with field := false }) s

/-- Whether a profile matches a card (R481): technology, masked ATQA and SAK of Type A, UID prefix. -/
def profileMatch (p : List Byte) (c : CardAnswer) : Bool :=
  let n := u8At p 10
  let masked (m v x : Nat) : Bool := BitVec.ofNat 16 m &&& BitVec.ofNat 16 v == BitVec.ofNat 16 m &&& BitVec.ofNat 16 x
  u8At p 2 == c.tech && (p.drop 11).take n == c.uid.take n
    && (c.tech != 0 || (masked (u16At p 6) (u16At p 4) (u16At c.info 0) && masked (u8At p 9) (u8At p 8) (u8At c.info 2)))

/-- The slot of the first valid profile that matches, if any. -/
def profileOf (s : State) (c : CardAnswer) : Option (Fin 4) := (allFin 4).find? fun (i : Fin 4) => match s.nfc.profiles[i] with
  | some p => profileMatch p c
  | none => false

/-- Whether a UID was reported within the last NFC.RD.REPEAT frames (R479). -/
def reportedBefore (s : State) (uid : List Byte) : Bool :=
  s.nfc.recent.any fun x => x.1 == uid && decide (s.frame < x.2 + pget s 0x5805 0)

/-- A card found in a poll (R477 to R481): checked, given the lowest free handle, and reported. -/
def cardFound (c : CardAnswer) (s : State) : State :=
  let free := (allFin 8).find? fun (i : Fin 8) => s.nfc.handles[i].isNone
  match free with
  | none => s
  | some i =>
    if ¬ s.nfc.polling ∨ ¬ c.crcOk ∨ pget s 0x5803 0 ≤ s.nfc.pollFound ∨ pget s 0x5801 0 / 2 ^ c.tech % 2 ≠ 1 then s
    else
      let f := s.frame
      let h := i.val + 1
      let again := reportedBefore s c.uid
      let sig := match profileOf s c, c.sigOk with
        | none, _ => 0
        | some _, some true => 1
        | some _, some false => 2
        | some _, none => 3
      let s := modNfc (fun n => { n with
        pollFound := n.pollFound + 1, handles := n.handles.set i (some { tech := c.tech, uid := c.uid, lastUse := f, checkAt := f + 800 })
        recent := if again then n.recent else (c.uid, f) :: n.recent.filter fun x => x.1 != c.uid }) s
      let head := leBytes 1 c.tech ++ leBytes 1 c.uid.length ++ fit 10 c.uid
      let s := if again then cardRec 0x05 h (head ++ leBytes 1 h) s
        else ev 0xD0 10 0 (h * 256 + c.tech) (cardRec 0x01 h (head ++ c.info ++ leBytes 1 sig ++ leBytes 1 h) s)
      match profileOf s c with
      | some p => if sig = 2 then ev 0xD5 10 0 (p.val * 256 + h) s else s
      | none => s

/-- POLL: a poll that runs, or one that NFC.RD.PERIOD starts, finds its cards in order and ends (R478). -/
def execPoll (found : List CardAnswer) (s : State) : Outcome State Fault Refusal :=
  let period := pget s 0x5804 0
  let due := period != 0 && decide (s.nfc.pollAt + period ≤ s.frame) && s.nfc.xchg.isNone
  if ¬ readerOn s ∨ ¬ (s.nfc.polling ∨ due) then ans s
  else
    let s := if s.nfc.polling then s else startPoll false s
    ans (endPoll (found.foldl (fun s c => cardFound c s) s))

/-- CARD_SELECTED: one card of a running poll (R479). -/
def execCardSelected (c : CardAnswer) (s : State) : Outcome State Fault Refusal :=
  if readerOn s then ans (cardFound c s) else ans s

/-- A handle by its number, 1 to 8, if it is open. -/
def openHandle (s : State) (h : Nat) : Option (Fin 8) :=
  if hk : h - 1 < 8 then (if 1 ≤ h ∧ s.nfc.handles[h - 1].isSome then some ⟨h - 1, hk⟩ else none) else none

/-- PRESENCE_CHECK: every 800 F (R478). -/
def execPresenceCheck (handle : Nat) (present : Bool) (s : State) : Outcome State Fault Refusal :=
  match openHandle s handle with
  | none => ans s
  | some i => match s.nfc.handles[i] with
    | none => ans s
    | some x =>
      if s.frame < x.checkAt then ans s
      else if present then
        let f := s.frame
        ans (modNfc (fun n => { n with handles := n.handles.set i (some { x with checkAt := f + 800 }) }) s)
      else ans (loseHandle i 2 s)

/-- HANDLE_IDLE_TIMEOUT: NFC.RD.IDLE frames without an exchange (R478). -/
def execHandleIdleTimeout (handle : Nat) (s : State) : Outcome State Fault Refusal :=
  match openHandle s handle with
  | none => ans s
  | some i => match s.nfc.handles[i] with
    | none => ans s
    | some x =>
      if s.frame < x.lastUse + pget s 0x5806 0 ∨ (s.nfc.xchg.map (·.handle)) = some handle then ans s else ans (loseHandle i 3 s)

/-- EXCHANGE_ANSWER: the exchange in progress ends (R480); an answer longer than a packet goes on in a second one. -/
def execExchangeAnswer (status : Nat) (data : List Byte) (s : State) : Outcome State Fault Refusal :=
  match s.nfc.xchg with
  | none => ans s
  | some x =>
    let f := s.frame
    let d := data.take 256
    let s := modNfc (fun n => { n with xchg := none }) s
    let s := match openHandle s x.handle with
      | some i => modNfc (fun n => { n with handles := upd n.handles i fun o => o.map fun h => { h with lastUse := f } }) s
      | none => s
    let head := leBytes 2 x.num ++ leBytes 1 status ++ leBytes 2 d.length
    let s := cardRec 0x03 x.handle (head ++ d.take 175) s
    ans (if d.length ≤ 175 then s else cardRec 0x03 x.handle (head ++ d.drop 175) s)

/-! ### Low-power card detection (R482 to R485) -/

/-- Whether the ping runs in a frame (R482). -/
def pingOn (s : State) : Bool :=
  pbool s 0x5807 0 && readerMode s && !s.nfc.field && s.sys.service == .full && !fencedDomain s 10 && !powerFailed s

/-- The square of a vector's length. -/
def normSq (re im : Rat) : Rat := re * re + im * im

/-- The detuning of a measurement, in 0.1 % of the reference amplitude, rounded down (R482). -/
def detuningOf (s : State) (re im : Rat) : Nat :=
  let r := normSq s.nfc.refRe s.nfc.refIm
  if r = 0 then 0 else Nat.sqrt (normSq (re - s.nfc.refRe) (im - s.nfc.refIm) * 1000000 / r).floor.toNat

/-- LP_PING: the antenna's response, in phase and in quadrature; stamped at the next edge (R482, R484). -/
def execLpPing (re im : Rat) (s : State) : Outcome State Fault Refusal :=
  if ¬ pingOn s ∨ s.frame % 2000 ≠ 5 then ans s
  else
    let d := detuningOf s re im
    let thr := pget s 0x5808 0
    ans (modNfc (fun n => { n with
      detuning := d, detected := if thr ≤ d ∧ ¬ n.antFault then some d else none
      detFlag := if d < thr then false else n.detFlag }) s)

/-- Step 1 of a detection (R485): FD for the poll it starts, unless an external field is present (R495). -/
def detectStamp (s : State) : State :=
  match s.nfc.detected with
  | some _ => if s.nfc.detFlag ∨ s.nfc.extField then s else modNfc (fun n => { n with fd := true, fdLp := true }) s
  | none => s

/-- Step 6 of a detection: NFC_LP_DETECT, and the poll of R485. -/
def detectStep6 (s : State) : State :=
  match s.nfc.detected with
  | none => s
  | some d =>
    let s := ev 0xD6 10 0 d (modNfc (fun n => { n with detected := none }) s)
    if s.nfc.fdLp ∧ ¬ s.nfc.polling ∧ readerOn s then startPoll true s else s

/-- LP_CALIBRATION: the mean of 8 pings becomes the reference (R483). -/
def execLpCalibration (re im : Rat) (s : State) : Outcome State Fault Refusal :=
  let due := s.nfc.calReq || (decide (s.nfc.calDue ≤ s.frame) && openHandles s == 0)
  if ¬ pingOn s ∨ ¬ due then ans s
  else
    let f := s.frame
    let next := f + pget s 0x5809 0
    let a := normSq re im
    let ref := Config.antennaAmp * Config.antennaAmp
    if ref / 4 ≤ a ∧ a ≤ ref * 9 / 4 then
      ans (modNfc (fun n => { n with refRe := re, refIm := im, antFault := false, calReq := false, calDue := next }) s)
    else
      let pct := Nat.sqrt (a * 10000 / ref).floor.toNat
      ans (ev 0xD7 10 0 pct (modNfc (fun n => { n with antFault := true, calReq := false, calDue := next }) s))

/-! ### Tag memory (R488 to R492) -/

/-- The NDEF file's size. -/
def ndefSize : Nat := 6144

/-- The CC file (R488): mapping version 2.0, its sizes, the NDEF file control TLV and the write access that NFC.TAG.WRITE
shows. -/
def ccFile (s : State) : List Byte :=
  [0x00, 0x0F, 0x20, 0x00, 0xFF, 0x00, 0xF0, 0x04, 0x06, 0xE1, 0x04, 0x18, 0x00, 0x00, if pbool s 0x580A 0 then 0x00 else 0xFF, 0x00]

/-- The size of a tag file, if it exists. -/
def tagSize (file : Nat) : Option Nat :=
  if file = 0xE103 then some 16 else if file = 0xE1F0 then some 80 else if file = 0xE104 then some ndefSize else none

/-- Bytes of a tag file. -/
def tagRead (s : State) (file off len : Nat) : List Byte :=
  if file = 0xE103 then ((ccFile s).drop off).take len
  else if file = 0xE1F0 then (List.range len).map fun i => Config.tagFile (off + i)
  else memRead s.nfc.mem off len

/-- The bytes of a shadow block that its CRC covers (R489). -/
def shadowBytes (off : Nat) (data : List Byte) (seq : Nat) : List Byte :=
  leBytes 2 0xE104 ++ leBytes 2 off ++ leBytes 2 data.length ++ data ++ leBytes 4 seq

/-- A shadow block for a write with the next sequence number, its commit word clear. -/
def newShadow (s : State) (off : Nat) (data : List Byte) : TagWrite :=
  { off := off, data := data, seq := s.nfc.seqNext, crc := crc32 (shadowBytes off data s.nfc.seqNext), set := false }

/-- Whether a shadow block's CRC is valid. -/
def TagWrite.valid (w : TagWrite) : Bool := w.crc == crc32 (shadowBytes w.off w.data w.seq)

/-- A shadow block copied to the file. -/
def copyShadow (w : TagWrite) (s : State) : State := modNfc (fun n => { n with mem := memWrite n.mem w.off w.data }) s

/-- The events of roll-forwards that wait for full service (R490); code 0 is NFC_TAG_FAULT. -/
def nfcFlush (s : State) : State :=
  if s.sys.service = .full then
    s.nfc.rollQ.foldl (fun (s : State) (x : Nat × Nat) => if x.1 = 0 then ev 0xD8 10 1 x.2 s else ev 0xD3 10 x.1 x.2 s)
      (modNfc (fun n => { n with rollQ := [] }) s)
  else s

/-- One commit word examined (R490): 1 host word, 2 field word. -/
def rollWord (code : Nat) (w : Option TagWrite) (s : State) : State :=
  match w with
  | some x =>
    if ¬ x.set then s
    else if x.valid then modNfc (fun n => { n with rollQ := n.rollQ ++ [(code, x.seq)] }) (copyShadow x s)
    else modNfc (fun n => { n with rollQ := n.rollQ ++ [(0, x.seq)] }) s
  | none => s

/-- The commit words examined, in ascending sequence number (R490); a host write in progress of a powered module is left
to complete (Table NFC-5). -/
def tagRoll (keepHost : Bool) (s : State) : State :=
  let host := if keepHost then none else s.nfc.shadowH
  let seqOf (w : Option TagWrite) : Nat := (w.map (·.seq)).getD 0
  let field := s.nfc.shadowF
  let s := modNfc (fun n => { n with shadowF := none, shadowH := if keepHost then n.shadowH else none,
                                     hostBusy := if keepHost then n.hostBusy else false }) s
  nfcFlush (if seqOf host ≤ seqOf field then rollWord 2 field (rollWord 1 host s) else rollWord 1 host (rollWord 2 field s))

/-- TAG_START: the tag starts, from the field or from the module supply (R490). -/
def execTagStart (s : State) : Outcome State Fault Refusal := ans (tagRoll s.nfc.hostBusy s)

/-- Whether the tag answers frames (R474, R475, R494). -/
def tagOn (s : State) : Bool := s.nfc.extField && !s.nfc.field && tagMode s && !fencedDomain s 10

/-- A write of the phone begins: shadow block F, then its commit word (R489). -/
def beginPhone (off : Nat) (data : List Byte) (s : State) : State :=
  let w := { newShadow s off data with set := true }
  modNfc (fun n => { n with shadowF := some w, seqNext := n.seqNext + 1, phoneWait := none }) s

/-- NFC_TAG_DONE: the host write's copy completes and is acknowledged (R489); a phone write that waited begins (R491). -/
def execNfcTagDone (s : State) : Outcome State Fault Refusal :=
  match s.nfc.shadowH with
  | none => ans s
  | some w =>
    if ¬ w.set ∨ ¬ s.nfc.hostBusy then ans s
    else
      let s := ev 0xD2 10 0 w.seq (modNfc (fun n => { n with shadowH := none, hostBusy := false }) (copyShadow w s))
      match s.nfc.phoneWait with
      | some (off, data) => ans (beginPhone off data s)
      | none => ans s

/-- CRC_A of ISO/IEC 14443-3. -/
def crcA (bs : List Byte) : Nat :=
  let bit (c : Nat) : Nat := if c % 2 = 1 then Nat.xor (c / 2) 0x8408 else c / 2
  bs.foldl (fun (c : Nat) (b : Byte) =>
    let x := Nat.xor c b.toNat
    bit (bit (bit (bit (bit (bit (bit (bit x)))))))) 0x6363

/-- A frame with its CRC_A. -/
def withCrcA (bs : List Byte) : List Byte := bs ++ leBytes 2 (crcA bs)

/-- The frame delay time in carrier cycles (R487): by the last data bit of the reader's frame, for `n`. -/
def frameDelay (frame : List Byte) (n : Nat) : Nat :=
  let last := (frame.getLastD 0).toNat
  n * 128 + if last / (if frame.length = 1 ∧ (last = 0x26 ∨ last = 0x52) then 64 else 128) % 2 = 1 then 84 else 20

/-- PHONE_UPDATE_BINARY: the phone's write completes its copy and is acknowledged with 0x9000 (R489, R491); while the module
is unpowered it is remembered for one later record (R492). -/
def execPhoneUpdateBinary (s : State) : Outcome State Fault Refusal :=
  match s.nfc.shadowF with
  | none => ans s
  | some w =>
    if ¬ w.set ∨ ¬ tagOn s then ans s
    else
      let n := w.data.length
      let s := modNfc (fun x => { x with shadowF := none, phoneCnt := x.phoneCnt + 1 }) (copyShadow w s)
      let k := 9 + Config.freeNat s.rnd
      let s := emit (.phone (k * 128 + if Config.freeBool s.rnd then 84 else 20) (withCrcA [s.nfc.pcb, 0x90, 0x00])) s.draw
      if s.sys.inReset then
        ans (modNfc (fun x => { x with offWrites := match x.offWrites with
          | none => some (w.off, w.off + n, w.seq)
          | some (a, b, _) => some (min a w.off, max b (w.off + n), w.seq) }) s)
      else ans (cardRec 0x04 0 (leBytes 2 w.off ++ leBytes 2 n ++ leBytes 4 w.seq) s)

/-- The UID of the tag and its two cascade levels with their check bytes (R486). -/
def tagUid : List Byte := (List.range 7).map Config.tagFile
def tagCascade (level : Nat) : List Byte :=
  let b := if level = 1 then 0x88#8 :: tagUid.take 3 else tagUid.drop 3
  b ++ [b.foldl (· ^^^ ·) 0]

/-- What the tag does with the command of an I-block: its answer, none when a write must complete first; and the state. -/
def tagApdu (a : List Byte) (s : State) : Option (List Byte) × State :=
  let p1 := u8At a 2
  let p2 := u8At a 3
  let lc := u8At a 4
  let data := (a.drop 5).take lc
  let off := p1 * 256 + p2
  match (a.take 2).map (·.toNat) with
  | [0x00, 0xA4] =>
    if p1 = 4 then
      if data = [0xD2, 0x76, 0x00, 0x00, 0x85, 0x01, 0x01] then (some [0x90, 0x00], modNfc (fun n => { n with app := true, file := 0 }) s)
      else (some [0x6A, 0x82], s)
    else
      let f := beNat data
      if s.nfc.app ∧ (tagSize f).isSome then (some [0x90, 0x00], modNfc (fun n => { n with file := f }) s) else (some [0x6A, 0x82], s)
  | [0x00, 0xB0] => match tagSize s.nfc.file with
    | none => (some [0x69, 0x86], s)
    | some size => if off + lc ≤ size then (some (tagRead s s.nfc.file off lc ++ [0x90, 0x00]), s) else (some [0x6B, 0x00], s)
  | [0x00, 0xD6] =>
    if s.nfc.file ≠ 0xE104 ∨ ¬ pbool s 0x580A 0 ∨ ndefSize < off + lc ∨ 240 < lc then (some [0x69, 0x82], s)
    else if s.nfc.hostBusy then (none, modNfc (fun n => { n with phoneWait := some (off, data) }) s)
    else (none, beginPhone off data s)
  | _ => (some [0x6D, 0x00], s)

/-- The anticollision and selection of a cascade level (R486): the known bits match, then the rest of the UID or SAK. -/
def tagSelect (level nvb : Nat) (known : List Byte) (s : State) : Option (List Byte) × State :=
  let own := tagCascade level
  if nvb = 0x70 then
    if known.take 5 = own ∧ known.drop 5 = leBytes 2 (crcA ([if level = 1 then 0x93 else 0x95, 0x70] ++ own)) then
      (some (withCrcA [if level = 1 then 0x04 else 0x20]), modNfc (fun n => { n with isoState := if level = 1 then 2 else 3 }) s)
    else (none, s)
  else
    let bytes := nvb / 16 - 2
    let bits := nvb % 16
    let same := known.take bytes == own.take bytes
      && (bits == 0 || u8At known bytes % 2 ^ bits == u8At own bytes % 2 ^ bits)
    if nvb < 0x20 ∨ 0x70 < nvb ∨ ¬ same then (none, s) else (some (own.drop bytes), s)

/-- A frame of a phone (R486, R487): states 0 idle, 1 and 2 the cascade levels, 3 active, 4 protocol, 5 halt; each answer at
the frame delay time. -/
def execTagFrameReceived (frame : List Byte) (s : State) : Outcome State Fault Refusal :=
  if ¬ tagOn s then ans s
  else
    let dest (x : Nat) (s : State) : State := modNfc (fun n => { n with isoState := x }) s
    let st := s.nfc.isoState
    let body := frame.take (frame.length - 2)
    let crcOk := decide (3 ≤ frame.length) && leNat (frame.drop (frame.length - 2)) == crcA body
    let k := 9 + Config.freeNat s.rnd
    match frame.map (·.toNat) with
    | [0x26] =>
      if st = 0 then ans (emit (.phone (frameDelay frame 9) [0x44, 0x00]) (dest 1 (tagRoll s.nfc.hostBusy s))) else ans (dest 0 s)
    | [0x52] =>
      if st = 0 ∨ st = 5 then ans (emit (.phone (frameDelay frame 9) [0x44, 0x00]) (dest 1 (tagRoll s.nfc.hostBusy s))) else ans (dest 0 s)
    | c :: rest =>
      if (c = 0x93 ∧ st = 1) ∨ (c = 0x95 ∧ st = 2) then
        let (a, s) := tagSelect (if c = 0x93 then 1 else 2) (rest.headD 0) (frame.drop 2) s
        match a with
        | some b => ans (emit (.phone (frameDelay frame 9) b) s)
        | none => ans (dest 0 s)
      else if ¬ crcOk then ans s
      else if c = 0x50 ∧ st = 3 then ans (dest 5 s)
      else if c = 0xE0 ∧ st = 3 then
        ans (emit (.phone (k * 128 + frameDelay frame 0) (withCrcA [0x05, 0x78, 0x00, 0x70, 0x00])) (dest 4 (modNfc (fun n => { n with app := false, file := 0 }) s.draw)))
      else if c = 0xC2 ∧ st = 4 then ans (emit (.phone (k * 128 + frameDelay frame 0) (withCrcA [0xC2])) (dest 5 s.draw))
      else if (c = 0x02 ∨ c = 0x03) ∧ st = 4 then
        let pcb := body.headD 2
        let (a, s) := tagApdu (body.drop 1) (modNfc (fun n => { n with pcb := pcb }) s.draw)
        match a with
        | some b => ans (emit (.phone (k * 128 + frameDelay frame 0) (withCrcA (pcb :: b))) s)
        | none => ans s
      else ans s
    | [] => ans s

/-- NFC_FIELD: an external field appears or disappears (R474, R493); the tag loses its state with the field (Table NFC-4). -/
def execNfcField (on : Bool) (s : State) : Outcome State Fault Refusal :=
  if on = s.nfc.extField then ans s
  else
    let s := modNfc (fun n => { n with extField := on, isoState := 0, app := false, file := 0, phoneWait := none }) s
    let s := if on ∧ pbool s 0x580B 0 then modNfc (fun n => { n with fd := true }) s else s
    if s.sys.inReset ∨ s.sys.service = .bringUp then ans s else ans (ev 0xD1 10 0 (if on then 1 else 2) s)

/-- FD_RELEASE: within 1 ms of the last cause ending (R493). -/
def execFdRelease (s : State) : Outcome State Fault Refusal :=
  if (s.nfc.extField ∧ pbool s 0x580B 0) ∨ s.nfc.fdLp then ans s else ans (modNfc (fun n => { n with fd := false }) s)

/-! ### Start, fence and power fail -/

/-- Full service begins: the ping is calibrated, roll-forwards and the writes of the unpowered time are reported (R483,
R490, R492). -/
def nfcStart (s : State) : State :=
  let s := nfcFlush (modNfc (fun n => { n with calReq := true }) s)
  match s.nfc.offWrites with
  | some (a, b, q) => cardRec 0x04 0 (leBytes 2 a ++ leBytes 2 (b - a) ++ leBytes 4 q) (modNfc (fun n => { n with offWrites := none }) s)
  | none => s

/-- A fence of the block (R494). -/
def nfcFence (s : State) : State :=
  tagRoll false (modNfc (fun n => { n with isoState := 0, phoneWait := none, detected := none }) (readerOff 4 s))

/-- The block after a reset of the module: the tag memory, its words and counters stay (R119, R488), its profiles are in
flash. -/
def nfcReset (s : State) : State :=
  modNfc (fun n => { handles := .replicate 8 none, profiles := n.profiles, mem := n.mem, seqNext := n.seqNext, shadowH := n.shadowH,
                     shadowF := n.shadowF, extField := n.extField, offWrites := n.offWrites, rollQ := n.rollQ, fd := n.extField && n.fd,
                     isoState := n.isoState, app := n.app, file := n.file, pcb := n.pcb }) s

/-! ### Commands (R496) -/

/-- NFC_STATUS. -/
def execNfcStatus (h : Hdr) (s : State) : Outcome State Fault Refusal :=
  ans (hostCmd h 0x5800 (.nfcStatus h) true true [] (fun _ => done) s)

/-- The result of NFC_STATUS. -/
def nfcStatusResult (s : State) : List Byte :=
  let n := s.nfc
  let rd := if n.polling then 2 else if 0 < openHandles s then 3 else if pingOn s then 1 else 0
  let words := (if n.shadowH.any (·.set) then 1 else 0) + (if n.shadowF.any (·.set) then 2 else 0)
  leBytes 1 (pget s 0x5800 0) ++ leBytes 1 rd ++ [boolByte n.extField, boolByte n.fd]
    ++ leBytes 1 (bitmap 8 fun i => (vget? n.handles i).bind id |>.isSome) ++ leSat 2 n.detuning ++ [0] ++ leSat 4 n.phoneCnt
    ++ leBytes 1 words ++ [0, 0, 0]

/-- NFC_RD_POLL during frame N. -/
def rdPollRules (s : State) : Verdict :=
  if fencedDomain s 10 then no 0x4001
  else if ¬ readerMode s ∨ s.nfc.extField then no 0x10D0
  else if s.nfc.polling ∨ s.nfc.xchg.isSome then no 0x20D0
  else .accept 0x0100 none id

/-- NFC_RD_POLL. -/
def execNfcRdPoll (h : Hdr) (s : State) : Outcome State Fault Refusal :=
  ans (hostCmd h 0x5801 (.nfcRdPoll h) true true [] rdPollRules s)

/-- The poll starts at step 6. -/
def applyRdPoll (s : State) : State := if readerOn s ∧ ¬ s.nfc.polling then startPoll false s else s

/-- NFC_RD_XCHG during frame N: its exchange number is the result (R480). -/
def rdXchgRules (handle len : Nat) (data : List Byte) (s : State) : Verdict :=
  if fencedDomain s 10 then no 0x4001
  else if ¬ readerMode s then no 0x10D0
  else match openHandle s handle with
    | none => no 0x10D1
    | some i =>
      if 256 < len then no 0x1101
      else if s.nfc.polling ∨ s.nfc.xchg.isSome then no 0x20D0
      else
        let n := s.nfc.xchgNext
        let f := s.frame
        .accept 0x0100 (some (leBytes 2 n ++ [0, 0])) (modNfc fun x => { x with
          xchg := some { num := n, handle := handle, data := data }, xchgNext := (n + 1) % 65536
          handles := upd x.handles i fun o => o.map fun h => { h with lastUse := f } })

/-- NFC_RD_XCHG. -/
def execNfcRdXchg (h : Hdr) (handle len : Nat) (data : List Byte) (s : State) : Outcome State Fault Refusal :=
  ans (hostCmd h 0x5802 (.nfcRdXchg h handle len data) (data.length == len) true [] (rdXchgRules handle len data) s)

/-- The command goes to the card at step 6. -/
def applyRdXchg (s : State) : State := match s.nfc.xchg with
  | some x => emit (.card x.data) s
  | none => s

/-- NFC_RD_RELEASE. -/
def execNfcRdRelease (h : Hdr) (handle : Nat) (s : State) : Outcome State Fault Refusal :=
  ans (hostCmd h 0x5803 (.nfcRdRelease h handle) true true [] (fun s =>
    if fencedDomain s 10 then no 0x4001 else if (openHandle s handle).isSome then done else no 0x10D1) s)

/-- The handle closed at step 6. -/
def applyRdRelease (handle : Nat) (s : State) : State := match openHandle s handle with
  | some i => loseHandle i 1 s
  | none => s

/-- The refusal of a range of a tag file: 0x1104 no such file, 0x1101 length, 0x11D0 outside the file. -/
def tagRange (file off len : Nat) : Option Nat := match tagSize file with
  | none => some 0x1104
  | some size => if len = 0 ∨ 240 < len then some 0x1101 else if size < off + len then some 0x11D0 else none

/-- NFC_TAG_READ. -/
def execNfcTagRead (h : Hdr) (file offset len : Nat) (s : State) : Outcome State Fault Refusal :=
  ans (hostCmd h 0x5804 (.nfcTagRead h file offset len) true true [] (fun _ => match tagRange file offset len with
    | some d => no d
    | none => done) s)

/-- NFC_TAG_WRITE during frame N (R489, R491). -/
def tagWriteRules (file off len : Nat) (data : List Byte) (s : State) : Verdict :=
  if file = 0xE103 ∨ file = 0xE1F0 then no 0x10D2
  else match tagRange file off len with
    | some d => no d
    | none =>
      if fencedDomain s 10 then no 0x4001
      else if s.nfc.hostBusy then no 0x20D1
      else
        let w := newShadow s off data
        .accept 0x0100 (some (leBytes 4 w.seq)) (modNfc fun n => { n with shadowH := some w, hostBusy := true, seqNext := n.seqNext + 1 })

/-- NFC_TAG_WRITE. -/
def execNfcTagWrite (h : Hdr) (file offset len : Nat) (data : List Byte) (s : State) : Outcome State Fault Refusal :=
  ans (hostCmd h 0x5805 (.nfcTagWrite h file offset len data) (data.length == len) true [] (tagWriteRules file offset len data) s)

/-- The commit word set at step 6 (R489, step 2). -/
def applyTagWrite (s : State) : State :=
  modNfc (fun n => { n with shadowH := n.shadowH.map fun w => { w with set := true } }) s

/-- NFC_INFO. -/
def execNfcInfo (h : Hdr) (s : State) : Outcome State Fault Refusal :=
  ans (hostCmd h 0x5806 (.nfcInfo h) true true [] (fun _ => done) s)

/-- The result of NFC_INFO. -/
def nfcInfoResult (s : State) : List Byte :=
  tagUid ++ [0] ++ (List.range 65).map Config.tagPublicKey ++ [0, 0, 0]
    ++ leBytes 1 (bitmap 4 fun i => (vget? s.nfc.profiles i).bind id |>.isSome) ++ [0, 0, 0]

/-- Whether an uncompressed point lies on a curve: 0 secp256r1, 1 brainpoolP256r1 (R481). -/
def onCurve (curve : Nat) (key : List Byte) : Bool :=
  let (p, a, b) : Nat × Nat × Nat := if curve = 0 then
      (0xffffffff00000001000000000000000000000000ffffffffffffffffffffffff,
       0xffffffff00000001000000000000000000000000fffffffffffffffffffffffc,
       0x5ac635d8aa3a93e7b3ebbd55769886bc651d06b0cc53b0f63bce3c3e27d2604b)
    else
      (0xA9FB57DBA1EEA9BC3E660A909D838D726E3BF623D52620282013481D1F6E5377,
       0x7D5A0975FC2C3057EEF67530417AFFE7FB8055C126DC5C6CE94A4B44F330B5D9,
       0x26DC5C6CE94A4B44F330B5D9BBD77CBF958416295CF7E1CE6BCCDC18FF8C07B6)
  let x := beNat ((key.drop 1).take 32)
  let y := beNat (key.drop 33)
  u8At key 0 == 4 && decide (x < p) && decide (y < p) && y * y % p == (x * x * x + a * x + b) % p

/-- Whether an originality profile is valid (R481). -/
def sigProfileOk (p : List Byte) : Bool :=
  u16At p 0 == 1 && decide (u8At p 2 ≤ 2) && decide (u8At p 3 ≤ 1) && onCurve (u8At p 3) (p.drop 127)

/-- NFC_SIG_LOAD_X (R481). -/
def execNfcSigLoadX (h : Hdr) (slot : Nat) (profile : List Byte) (s : State) : Outcome State Fault Refusal :=
  ans (hostCmd h 0x5880 (.nfcSigLoadX h slot profile) (profile.length == 192) true [] (fun _ =>
    if 4 ≤ slot then no 0x1104 else if sigProfileOk profile then done else no 0x11D1) s)

/-- The profile loaded at step 6. -/
def applySigLoad (slot : Nat) (profile : List Byte) (s : State) : State :=
  if hk : slot < 4 then modNfc (fun n => { n with profiles := n.profiles.set slot (some profile) }) s else s

/-- NFC_LP_CAL_X (R483). -/
def execNfcLpCalX (h : Hdr) (s : State) : Outcome State Fault Refusal :=
  ans (hostCmd h 0x5881 (.nfcLpCalX h) true true [] (fun s =>
    if fencedDomain s 10 then no 0x4001 else if readerMode s then done else no 0x10D0) s)

/-- The calibration requested at step 6. -/
def applyLpCal (s : State) : State := modNfc (fun n => { n with calReq := true }) s

end Sys2Proof.Machine
end

