-- ==== Sys2Proof/Machine/Display.lean ====
section
/-! DEFINITION. The legal display (chapter 15): Onyx's compositions, the check of the two memories, the drive of the panel and
the Opal window. -/

namespace Sys2Proof.Machine

open Host

/-- The display part of the state changed. -/
def modDsp (f : DspSt → DspSt) (s : State) : State := { s with dsp := f s.dsp }

/-! ### What the panel shows (R500, R502 to R504, R508, R512) -/

/-- The common line selected in a frame (R500, R512). -/
def comSelected (drive frame : Nat) : Nat := if drive = 2 then frame / 8 % 16 else frame % 64

/-- The level of a pixel in a memory of 2 bits per pixel (R503). -/
def pixelLevel (m : List Cell) (x r : Nat) : Nat := (memGet m (48 * r + x / 4)).toNat / 4 ^ (3 - x % 4) % 4

/-- In how many of the 12 scans a pixel is driven on (R504). -/
def pixelScans (s : State) (x r : Nat) : Nat :=
  let level := pixelLevel s.dsp.mem x r
  let code := if pbool s 0x6004 0 && s.dsp.mapValid then pixelLevel s.dsp.map x r else 0
  if level = 0 then 0 else if level = 3 then 12
  else 4 * level + (if code = 1 then 1 else if code = 2 then 2 else 0) - (if code = 3 then 1 else 0)

/-- Whether a pixel is driven on in the scan of a frame: frame-rate control, blanking, and the two levels of the Opal
window (R504, R508, R512). -/
def pixelDriven (s : State) (x r : Nat) : Bool :=
  let d := s.dsp
  if d.drive = 2 then decide (r < 16) && !d.blank && (memGet d.opal (24 * r + x / 8)).toNat / 2 ^ (7 - x % 8) % 2 == 1
  else if d.drive = 1 then
    if r < 16 ∧ d.blank then false
    else
      let n := pixelScans s x r
      let p := (s.frame / 64 % 12 + x + 3 * r) % 12
      decide (p * n / 12 < (p + 1) * n / 12)
  else false

/-- The polarity of a pixel's drive in a frame (R502, R512). -/
def pixelPolarity (s : State) (x r : Nat) : Bool :=
  if s.dsp.drive = 2 then s.frame / 128 % 2 == 1
  else
    let scan := s.frame / 64
    match pget s 0x6002 0 with
    | 0 => scan % 2 == 1
    | 1 => (scan + r / pget s 0x6003 0) % 2 == 1
    | _ => (scan + x + r) % 2 == 1

/-! ### Compositions (R506, R507, R511) -/

/-- The name of a quantity (Table LEG-2). -/
def quantityName (q : Nat) : String := match q with
  | 0x01 => "A_IMP"
  | 0x02 => "A_EXP"
  | 0x03 => "V_Q1"
  | 0x04 => "V_Q2"
  | 0x05 => "V_Q3"
  | 0x06 => "V_Q4"
  | 0x07 => "S_IMP"
  | 0x08 => "S_EXP"
  | 0x09 => "L_IMP"
  | 0x0A => "L_EXP"
  | 0x0B => "C_IMP"
  | 0x0C => "C_EXP"
  | 0x0D => "D_IMP"
  | 0x0E => "D_EXP"
  | 0x10 => "M_IMP"
  | _ => "M_EXP"

/-- The digits of a number. -/
def digitsOf (n : Nat) : List Char := Nat.toDigits 10 n

/-- A line of 32 characters, from its text. -/
def lineOf (t : List Char) : List Char := (t ++ List.replicate 32 ' ').take 32

/-- The identity of an item: slot, quantity and tariff, as "M4 A_IMP T1"; column 31 carries the coarse and wall marks. -/
def itemLine (s : State) (slot code : Nat) : List Char :=
  let t := code % 256
  let name := 'M' :: digitsOf slot ++ ' ' :: (quantityName (code / 256)).toList ++ ' ' :: (if t = 0xFF then Config.totalText else 'T' :: digitsOf t)
  let coarse : Bool := match vget? (Vector.range 9) slot with
    | some _ => if h : slot < 9 then
        spanBits s { counter := 0, slot := ⟨slot, h⟩, kind := 0, curve := 0, frame := s.frame, tariff := 0, session := 0 } / 0x8000 % 2 == 1
        else false
    | none => false
  (lineOf name).take 31 ++ [if coarse then 'C' else if s.onyx.wallValid then ' ' else '?']

/-- The value of an item: energy in kWh with three decimals, demand in kW with one, rounded down (R506). -/
def valueLine (s : State) (slot code : Nat) : List Char :=
  if h : slot < 9 then
    let b := regValue s ⟨slot, h⟩ code
    let pad (n : Nat) (l : List Char) : List Char := List.replicate (n - l.length) '0' ++ l
    if code / 256 = 0x10 ∨ code / 256 = 0x11 then
      let w := leNat (b.take 4)
      lineOf (digitsOf (w / 1000) ++ '.' :: digitsOf (w % 1000 / 100))
    else
      let wh := leNat b / 10000
      lineOf (digitsOf (wh / 1000) ++ '.' :: pad 3 (digitsOf (wh % 1000)))
  else lineOf []

/-- The check-value screen (R511). -/
def checkLines : List Char × List Char :=
  let d := Nat.toDigits 16 Config.onyxCheck.toNat
  (lineOf "ONYX CHECK".toList, lineOf (List.replicate (16 - d.length) '0' ++ d))

/-- Whether a pixel of two lines of text is set. -/
def textPixel (t : List Char × List Char) (x r : Nat) : Bool :=
  let line := if r < 8 then t.1 else t.2
  (Config.glyphRow (line.getD (x / 6) ' ') (r % 8)).toNat / 2 ^ (5 - x % 6) % 2 == 1

/-- Two lines of text in levels 0b00 and 0b11, 768 bytes. -/
def textRows (t : List Char × List Char) : List Byte :=
  (List.range 768).map fun i =>
    let at_ (j : Nat) : Nat := if textPixel t (4 * (i % 48) + j) (i / 48) then 3 else 0
    BitVec.ofNat 8 (at_ 0 * 64 + at_ 1 * 16 + at_ 2 * 4 + at_ 3)

/-- Two lines of text at 1 bit per pixel, 384 bytes. -/
def textOpal (t : List Char × List Char) : List Byte :=
  (List.range 384).map fun i => BitVec.ofNat 8 (bitmap 8 fun j => textPixel t (8 * (i % 24) + (7 - j)) (i / 24))

/-- The index of the item shown: DSP.OPAL.ITEM in watch state, else by the dwell (R506, R512). -/
def itemIndex (s : State) : Nat :=
  let l := leBytes 16 (pget s 0x6005 0)
  let named := (List.range 4).filter fun i => u8At l (4 * i) != 0xFF
  if watching s then pget s 0x6007 0 else named.getD (s.frame / pget s 0x6006 0 % max 1 named.length) 0

/-- Onyx's composition in this frame: the check-value screen while it holds, else the item. -/
def compose (check fresh : Bool) (s : State) : Composition :=
  let l := leBytes 16 (pget s 0x6005 0)
  let i := itemIndex s
  let slot := u8At l (4 * i)
  let code := u16At l (4 * i + 2)
  let t := if check then checkLines else (itemLine s slot code, valueLine s slot code)
  let rows := textRows t
  let opal := textOpal t
  { rows := rows, opal := opal, crc := (crc32 rows).toNat, crcO := (crc32 opal).toNat, at_ := s.frame, item := i, check := check,
    fresh := fresh }

/-- Whether Onyx delivers compositions (R510, R514). -/
def composes (s : State) : Bool :=
  s.sys.onyxUp && !s.sys.onyxFailed && !s.onyx.checkBad && s.sys.onyxMissing == 0 && !powerFailed s
    && (s.dsp.drive == 1 || s.dsp.drive == 2)

/-- LEGAL_COMPOSITION: at a multiple of 8,000, after a mismatch, on DSP_SHOW_CHECK, and first after Onyx is up (R507, R511,
R514). -/
def execLegalComposition (s : State) : Outcome State Fault Refusal :=
  let d := s.dsp
  let ask := d.showReq.any fun f => decide (f < s.frame)
  let edge := s.frame % 8000 == 0
  if ¬ composes s ∨ d.next.isSome ∨ ¬ (ask ∨ edge ∨ d.wantComp ∨ ¬ d.shown) then ans s
  else
    let excess := expired d.checkEnd s.frame
    let check := ask || (d.checkEnd.isSome && !(excess && edge))
    let c := compose check ask s
    ans (modDsp (fun d => { d with
      next := some c, wantComp := false, showReq := if ask then none else d.showReq
      checkEnd := if check then d.checkEnd else none }) s)

/-- CHECK_SCREEN_END: the screen has held for DSP.CHECK.T; the list resumes at the next multiple of 8,000 (R511). -/
def execCheckScreenEnd (s : State) : Outcome State Fault Refusal :=
  if expired s.dsp.checkEnd s.frame then ans (modDsp (fun d => { d with checkEnd := none }) s) else ans s

/-! ### The frame edge (R501, R507 to R513) -/

/-- Error patterns reach bytes of a memory during the frame that ends (R508). -/
def dspFlip (l : List (Bool × Nat × Byte)) (s : State) : State :=
  if l.isEmpty then s
  else
    let s := l.foldl (fun (s : State) (x : Bool × Nat × Byte) =>
      if x.1 then (if x.2.1 < 384 then modDsp (fun d => { d with opal := memPut d.opal x.2.1 (memGet d.opal x.2.1 ^^^ x.2.2) }) s else s)
      else if x.2.1 < 3072 then modDsp (fun d => { d with mem := memPut d.mem x.2.1 (memGet d.mem x.2.1 ^^^ x.2.2) }) s else s) s
    modDsp (fun d => { d with
      okF := (crc32 (memRead d.mem 0 768)).toNat == d.crc, okO := (crc32 (memRead d.opal 0 384)).toNat == d.crcO }) s

/-- The legal rows driven clear from this frame on (R508, R510). -/
def dspBlank (s : State) : State :=
  let f := s.frame
  modDsp (fun d => { d with blank := true, blankFrom := if d.blank then d.blankFrom else f, okRun := 0, waitComp := true, wantComp := true }) s

/-- The tick: what the check of the frame that has ended found (R508, R509). A mismatch that stands until its recomposition
is one. -/
def dspCheck (s : State) : State :=
  let d := s.dsp
  if ¬ d.shown ∨ ¬ (d.drive = 1 ∨ d.drive = 2) then s
  else
    let bad := (if d.drive = 1 ∧ ¬ d.okF then 1 else 0) + (if d.okO then 0 else 2)
    let f := s.frame
    let s := if bad = 0 then (if d.blank ∧ ¬ d.waitComp then modDsp (fun d => { d with okRun := d.okRun + 1 }) s else s)
      else if d.waitComp then s
      else
        let miss := f :: d.miss.filter fun x => decide (f < x + 8000)
        let s := ev 0xE0 11 miss.length bad (dspBlank (modDsp (fun d => { d with miss := miss }) s))
        if 3 ≤ miss.length then noteFault 11 0xE0 false true false s else s
    if s.sys.onyxMissing ≠ 0 ∨ s.sys.onyxFailed ∨ s.onyx.checkBad then (if s.dsp.waitComp then s else dspBlank s) else s

/-- The tick: a composition made in the last frame takes effect as one unit (R507, R511). -/
def dspEffect (s : State) : State :=
  match s.dsp.next with
  | none => s
  | some c =>
    let f := s.frame
    let hold := f + pget s 0x6009 0
    let s := modDsp (fun d => { d with
      next := none, mem := memWrite d.mem 0 c.rows, opal := memWrite d.opal 0 c.opal, crc := c.crc, crcO := c.crcO
      okF := true, okO := true, composed := f, shown := true, waitComp := false, item := c.item, checkOn := c.check
      checkEnd := if c.fresh then some hold else d.checkEnd }) s
    if c.fresh then ev 0xE3 11 0 (leNat ((leBytes 8 Config.onyxCheck.toNat).take 4)) s else s

/-- A loaded map takes effect at the start of a frame-rate control cycle (R516). -/
def dspMap (s : State) : State :=
  match s.dsp.mapNext with
  | some m =>
    if s.frame % 768 = 0 then
      ev 0xE4 11 0 (leNat ((sha256 m).take 4)) (modDsp (fun d => { d with map := memWrite [] 0 m, mapValid := true, mapNext := none }) s)
    else s
  | none => s

/-- The VLCD target of a drive state, mV (R501). -/
def vlcdTarget (s : State) (drive : Nat) : Nat :=
  let t : Int := roundRat ((psigned s 0x6001 0 2 * (s.mtr.temp - 250) : Int) / 10)
  if drive = 2 then (clampI 5000 10000 (pget s 0x6008 0 + t)).toNat else (clampI 8000 15000 (pget s 0x6000 0 + t)).toNat

/-- Step 1: VLCD stamped, and the run of frames outside ±5 % of its target (R501). -/
def dspStamp (v : Option Nat) (s : State) : State :=
  let s := match v with
    | some x => modDsp (fun d => { d with vlcd := x }) s
    | none => s
  let d := s.dsp
  let s := if s.frame % 8000 = 0 ∧ (d.drive = 1 ∨ d.drive = 2) then
      let t := vlcdTarget s d.drive
      modDsp (fun d => { d with target := t }) s
    else s
  let d := s.dsp
  let out := decide (20 * d.vlcd < 19 * d.target) || decide (21 * d.target < 20 * d.vlcd)
  let counts := (d.drive == 1 || d.drive == 2) && decide (d.settle ≤ s.frame)
  modDsp (fun d => { d with biasRun := if counts && out then d.biasRun + 1 else 0 }) s

/-- The tick of the display. -/
def dspTick (s : State) : State := dspMap (dspEffect (dspCheck s))

/-- Step 6: the drive that the state of the part gives (R512 to R514), with DSP_DRIVE. -/
def dspStep6 (s : State) : State :=
  let old := s.dsp.drive
  let want := if fencedDomain s 11 then 3 else if ¬ s.sys.onyxUp then 0 else if watching s then 2 else 1
  if want = old then s
  else
    let f := s.frame
    let t := if want = 1 ∨ want = 2 then vlcdTarget s want else 0
    let both := (old = 1 ∨ old = 2) ∧ (want = 1 ∨ want = 2)
    ev 0xE5 11 0 want (modDsp (fun d => { d with
      drive := want, target := t, biasRun := 0, settle := if both then f + 160 else d.settle
      mapLoad := if want = 3 then {} else d.mapLoad, okRun := if want = 3 then 0 else d.okRun }) s)

/-- DSP_CRC_OK: after 8 consecutive matching frames the legal rows return (R509). -/
def execDspCrcOk (s : State) : Outcome State Fault Refusal :=
  let d := s.dsp
  if d.blank ∧ 8 ≤ d.okRun then
    ans (ev 0xE1 11 0 (s.frame - d.blankFrom) (modDsp (fun d => { d with blank := false, okRun := 0 }) s))
  else ans s

/-- DSP_BIAS_FAULT: VLCD outside ±5 % of its target in 80 consecutive frames (R501). -/
def execDspBiasFault (s : State) : Outcome State Fault Refusal :=
  if 80 ≤ s.dsp.biasRun then ans (ev 0xE2 11 0 s.dsp.vlcd (modDsp (fun d => { d with biasRun := 0 }) s)) else ans s

/-- MAP_CHUNK_TIMEOUT: a gap of more than 8,000 F between chunks (R516). -/
def execMapChunkTimeout (s : State) : Outcome State Fault Refusal :=
  let p := s.dsp.mapLoad
  if p.got.isEmpty ∨ s.frame ≤ p.last + 8000 then ans s else ans (modDsp (fun d => { d with mapLoad := { broken := true } }) s)

/-- The display after a reset: the memories clear, the map kept in flash (R514). -/
def dspReset (s : State) : State := modDsp (fun d => { map := d.map, mapValid := d.mapValid }) s

/-! ### Commands (R516, R517) -/

/-- DSP_STATUS. -/
def execDspStatus (h : Hdr) (s : State) : Outcome State Fault Refusal :=
  ans (hostCmd h 0x6000 (.dspStatus h) true true [] (fun _ => done) s)

/-- The result of DSP_STATUS (Table DSP-4). -/
def dspStatusResult (s : State) : List Byte :=
  let d := s.dsp
  let miss := (d.miss.filter fun x => decide (s.frame < x + 8000)).length
  leBytes 1 d.drive ++ leBytes 1 ((if d.blank then 128 else 0) + (if d.checkOn then 64 else 0) + (if d.mapValid then 32 else 0))
    ++ leBytes 1 d.item ++ leSat 1 miss ++ leBytes 2 d.target ++ leSat 2 d.vlcd ++ leBytes 4 d.crc ++ leBytes 4 d.crcO
    ++ leBytes 6 d.composed ++ [0, 0]

/-- DSP_WRITE during frame N. -/
def dspWriteRules (row count : Nat) (s : State) : Verdict :=
  if row < 16 then no 0x13E0
  else if count = 0 ∨ 16 < count then no 0x1101
  else if 64 < row + count then no 0x11E0
  else if fencedDomain s 11 then no 0x4001
  else done

/-- DSP_WRITE (R505). -/
def execDspWrite (h : Hdr) (row count : Nat) (data : List Byte) (s : State) : Outcome State Fault Refusal :=
  ans (hostCmd h 0x6001 (.dspWrite h row count data) (data.length == 48 * count) true [] (dspWriteRules row count) s)

/-- The rows written whole (R505). -/
def applyDspWrite (row : Nat) (data : List Byte) (s : State) : State :=
  modDsp (fun d => { d with mem := memWrite d.mem (48 * row) data }) s

/-- DSP_READ. -/
def execDspRead (h : Hdr) (row count : Nat) (s : State) : Outcome State Fault Refusal :=
  ans (hostCmd h 0x6002 (.dspRead h row count) true true [] (fun _ =>
    if count = 0 ∨ 16 < count ∨ 63 < row then no 0x1101 else if 64 < row + count then no 0x11E0 else done) s)

/-- The result of DSP_READ. -/
def dspReadResult (row count : Nat) (s : State) : List Byte := memRead s.dsp.mem (48 * row) (48 * count)

/-- DSP_SHOW_CHECK (R511). -/
def execDspShowCheck (h : Hdr) (s : State) : Outcome State Fault Refusal :=
  let f := s.frame
  ans (hostCmd h 0x6003 (.dspShowCheck h) true true [] (fun s =>
    if fencedDomain s 11 then no 0x4001 else .accept 0 none (modDsp fun d => { d with showReq := some f })) s)

/-- DSP_MAP_LOAD_X during frame N (R516). -/
def mapLoadRules (chunk : Nat) (data : List Byte) (s : State) : Verdict :=
  let put (p : Parts) (s : State) : State := modDsp (fun d => { d with mapLoad := p }) s
  if 11 < chunk then no 0x1101
  else if fencedDomain s 11 then no 0x4001
  else if s.dsp.mapLoad.broken then .reject 0x10E0 [] (put {})
  else .accept 0 none (put (partsPut s.frame 12 (chunk + 1) data s.dsp.mapLoad))

/-- DSP_MAP_LOAD_X. -/
def execDspMapLoadX (h : Hdr) (chunk : Nat) (data : List Byte) (s : State) : Outcome State Fault Refusal :=
  ans (hostCmd h 0x6080 (.dspMapLoadX h chunk data) (data.length == 256) true [] (mapLoadRules chunk data) s)

/-- A complete map goes to flash at step 6, and takes effect at the next frame-rate control cycle. -/
def applyMapLoad (s : State) : State := match partsWhole s.dsp.mapLoad with
  | some m => modDsp (fun d => { d with mapNext := some m, mapLoad := {} }) s
  | none => s

end Sys2Proof.Machine
end

