-- ==== Sys2Proof/Machine/Site.lean ====
section
/-! DEFINITION. The site link (chapter 13): PLC frames and the mesh, tone maps, beacons and alignment, the root, protocol
profiles, host messages and scheduled actions. -/

namespace Sys2Proof.Machine

open Host

/-- The site-link part of the state changed. -/
def modSlk (f : SlkSt → SlkSt) (s : State) : State := { s with slk := f s.slk }

/-- The node's own address and the highest profile of this release (R444, R458). -/
def ownAddr (s : State) : Nat := pget s 0x5004 0
def ownProfile : Nat := 2

/-- A wake cause stamped in this frame; the lowest of several is reported (R142). -/
def wake (cause : Nat) (s : State) : State :=
  { s with sys := { s.sys with wakeCause := some (match s.sys.wakeCause with
      | some c => min c cause
      | none => cause) } }

/-- The current site frame, by the node's own count (R450). -/
def siteNow (s : State) : Option Nat := siteFrame s s.frame

/-- Whether the node's site frames are usable (Table SLK-1). -/
def siteUsable (s : State) : Bool := s.slk.align == .aligned || s.slk.align == .holdover || s.slk.align == .root

/-- Whether the modem listens: the link not OFF, and in watch state the window of R466. -/
def slkListens (s : State) : Bool :=
  s.slk.align != .off && (!watching s || (pbool s 0x0025 0 &&
    (let n := (if siteUsable s then siteNow s else none).getD s.frame
     let h := if s.slk.align = .root then 1 else if s.slk.hop = 0xFF ∨ s.slk.hop = 0 then 1 else min s.slk.hop 8
     n % 800 / 80 == h - 1)))

/-- A node-table entry. -/
def findNode (s : State) (a : Nat) : Option SiteNode := s.slk.nodes.find? (·.addr == a)

/-- The node table with one entry set, in address order. -/
def setNode (n : SiteNode) (s : State) : State :=
  modSlk (fun x => { x with nodes := insertBy (fun a b => decide (a.addr < b.addr)) n (x.nodes.filter (·.addr != n.addr)) }) s

/-- The alignment state changed, with SLK_ALIGN. -/
def slkTo (a : AlignState) (s : State) : State :=
  if s.slk.align = a then s
  else
    let f := s.frame
    ev 0xC0 9 (alignCode a) (arg32 s.slk.error) (modSlk (fun x => { x with align := a, since := f }) s)

/-! ### Sending (R444, R446, R448) -/

/-- The cost of a link by the data rate of its tone map, kbit/s (R446). -/
def linkCost (rate : Nat) : Nat := if rate = 0 then 8 else (8 + rate - 1) / rate

/-- One step of the search for least total costs to a destination: the known costs, from the destination outwards. -/
def relaxCosts (s : State) (dest : Nat) (c : List (Nat × Nat)) : List (Nat × Nat) :=
  s.slk.nodes.map fun (n : SiteNode) =>
    let ways := n.links.filterMap fun (l : Nat × Nat) =>
      if l.1 = dest then some (linkCost l.2)
      else (c.find? fun (x : Nat × Nat) => x.1 == l.1).map fun x => linkCost l.2 + x.2
    let old := (c.find? fun (x : Nat × Nat) => x.1 == n.addr).map (·.2)
    (n.addr, (ways ++ old.toList).foldl min (2 ^ 16 - 1))

/-- The next hop to a destination and the total cost: the least over the neighbours, directly or through them (R446). -/
def route (s : State) (dest : Nat) : Nat × Nat :=
  let c := relaxCosts s dest (relaxCosts s dest (relaxCosts s dest (relaxCosts s dest (relaxCosts s dest (relaxCosts s dest
    (relaxCosts s dest []))))))
  let ways := s.slk.nodes.filterMap fun (n : SiteNode) =>
    if n.rate = 0 ∧ n.addr ≠ dest then none
    else if n.addr = dest then some (linkCost n.rate, dest)
    else (c.find? fun (x : Nat × Nat) => x.1 == n.addr).map fun x => (linkCost n.rate + x.2, n.addr)
  match sortBy (fun (a b : Nat × Nat) => decide (a.1 < b.1)) ways with
  | (w, via) :: _ => (via, w)
  | [] => (dest, 8)

/-- Payload types of the mesh. -/
def plcHello : Nat := 1
def plcAck : Nat := 2
def plcSound : Nat := 3
def plcToneMap : Nat := 4
def plcMsg : Nat := 5
def plcPowerFail : Nat := 6
def plcWake : Nat := 7
def plcSched : Nat := 8
def plcSchedAck : Nat := 9
def plcCancel : Nat := 10
def plcCancelAck : Nat := 11
def plcSchedReport : Nat := 12
def plcPrepare : Nat := 13
def plcVote : Nat := 14
def plcAbort : Nat := 15
def plcAbortAck : Nat := 16
def plcSiteReport : Nat := 17
def plcBlock : Nat := 18
def plcMissing : Nat := 19

/-- A PLC frame sent, under the next counter (R444). A node in an address conflict sends HELLOs only (R447). -/
def plcSend (via dest type : Nat) (body : List Byte) (s : State) : State :=
  if s.slk.align = .off ∨ (s.slk.conflict.isSome ∧ type ≠ plcHello) ∨ powerFailed s ∧ type ≠ plcPowerFail then s
  else
    let n := s.slk.txCount + 1
    emit (.plc via dest type n body) (modSlk (fun x => { x with txCount := n }) s)

/-- A broadcast. -/
def plcCast (type : Nat) (body : List Byte) (s : State) : State := plcSend 0xFF 0xFF type body s

/-- A random backoff of 8 F to 64 F (R448). -/
def backoff (s : State) : Nat := 8 + Config.freeNat s.rnd % 57

/-- A unicast sent to the next hop, its acknowledgement awaited (R448). -/
def plcUnicast (dest type : Nat) (body : List Byte) (msg : Option Nat) (s : State) : State :=
  if s.slk.align = .off then s
  else
    let via := (route s dest).1
    let p : PlcPend := { via := via, dest := dest, type := type, body := body, msg := msg, nextAt := s.frame + backoff s }
    plcSend via dest type body (modSlk (fun x => { x with pend := x.pend ++ [p] }) s.draw)

/-- A sounding frame, in robust mode, asks a neighbour for a new tone map (R449). -/
def soundNode (a : Nat) (s : State) : State :=
  match findNode s a with
  | none => s
  | some n =>
    let f := s.frame
    plcSend a a plcSound [] (setNode { n with robust := true, fails := 0, mapAt := some f } s)

/-- PLC_RETRANSMIT: frames whose acknowledgement did not come are sent again up to SLK.RETRY times (R448); the third
consecutive failure to a neighbour refreshes its tone map (R449). -/
def execPlcRetransmit (dest : Nat) (s : State) : Outcome State Fault Refusal :=
  match s.slk.pend.find? fun (p : PlcPend) => p.dest == dest && decide (p.nextAt ≤ s.frame) with
  | none => ans s
  | some p =>
    let rest := s.slk.pend.filter fun (q : PlcPend) => q != p
    let s := match findNode s p.via with
      | some n => if 3 ≤ n.fails + 1 then soundNode p.via s else setNode { n with fails := n.fails + 1 } s
      | none => s
    if p.sent ≤ pget s 0x5008 0 then
      let q := { p with sent := p.sent + 1, nextAt := s.frame + backoff s }
      ans (plcSend p.via p.dest p.type p.body (modSlk (fun x => { x with pend := rest ++ [q] }) s.draw))
    else
      let s := modSlk (fun x => { x with pend := rest }) s
      ans (match p.msg with
        | some n => ev 0xC7 9 2 n s
        | none => s)

/-- TONE_MAP_REFRESH: every SLK.TM.PER frames (R449). -/
def execToneMapRefresh (addr : Nat) (s : State) : Outcome State Fault Refusal :=
  match findNode s addr with
  | none => ans s
  | some n =>
    let due : Bool := match n.mapAt with
      | some t => decide (t + pget s 0x5006 0 ≤ s.frame)
      | none => true
    if s.slk.align ≠ .off ∧ due then ans (soundNode addr s) else ans s

/-- The body of a HELLO (R446): serial, highest profile, alignment state, hop count, watch, boot counter, neighbours with
their rates. -/
def helloBody (s : State) : List Byte :=
  leBytes 8 Config.serial.toNat ++ leBytes 1 ownProfile ++ leBytes 1 (alignCode s.slk.align) ++ leBytes 1 s.slk.hop
    ++ [boolByte (watching s)] ++ leBytes 4 s.slk.boot ++ s.slk.nodes.flatMap fun (n : SiteNode) => leBytes 1 n.addr ++ leSat 2 n.rate

/-- HELLO_SEND: every 8,000 F (R446). -/
def execHelloSend (s : State) : Outcome State Fault Refusal :=
  if s.slk.align = .off ∨ s.frame < s.slk.helloAt then ans s
  else
    let f := s.frame
    ans (plcCast plcHello (helloBody s) (modSlk (fun x => { x with helloAt := f + 8000 }) s))

/-! ### Scheduled actions at the distributor (R461 to R464) -/

/-- The members of a group. -/
def groupMembers (g : Nat) : List Nat := (List.range 64).filter fun i => g / 2 ^ i % 2 == 1

/-- The profile a type needs (Table SLK-3). -/
def schedProfile (type : Nat) : Nat := if type = 2 then 2 else 1

/-- Whether every member advertises the profile a type needs (Table SLK-4). -/
def membersReady (s : State) (type group : Nat) : Bool :=
  (groupMembers group).all fun a => a == ownAddr s || match findNode s a with
    | some n => decide (schedProfile type ≤ n.profile)
    | none => false

/-- A bitmap of node addresses. -/
def addrBits (l : List Nat) : List Byte := leBytes 8 (bitmap 64 fun i => l.contains i)

/-- An action's entry changed. -/
def setDist (d : SchedDist) (s : State) : State :=
  modSlk (fun x => { x with dist := x.dist.map fun (y : SchedDist) => if y.num = d.num then d else y }) s

/-- An action's state changed, with SLK_SCHED; a final state carries the outcome bitmaps (R464). -/
def distTo (d : SchedDist) (st : Nat) (s : State) : State :=
  let bits := if st = 5 ∨ st = 6 ∨ st = 7 then addrBits d.applied ++ addrBits d.refused ++ addrBits d.missing else []
  evp 0xC3 9 st (d.type * 256 + d.num) bits (setDist { d with state := st } s)

/-- Waiting actions whose members have all reached the profile become DISTRIBUTING (R462, Table SLK-5). -/
def distReady (s : State) : State :=
  s.slk.dist.foldl (fun (s : State) (d : SchedDist) =>
    if d.state = 1 ∧ membersReady s d.type d.group then distTo d 2 s else s) s

/-- The members of an action other than this node that have not acknowledged. -/
def unacked (s : State) (d : SchedDist) : List Nat := (groupMembers d.group).filter fun a => a != ownAddr s && !d.acks.contains a

/-- An acknowledgement of an action stamped by C − 1,600 (R462). -/
def distAck (src num : Nat) (ok : Bool) (s : State) : State :=
  match s.slk.dist.find? (·.num == num), siteNow s with
  | some d, some n =>
    if d.state = 2 ∧ n ≤ d.siteC - 1600 ∧ ok ∧ ¬ d.acks.contains src then
      let d := { d with acks := src :: d.acks }
      if (unacked s d).isEmpty then distTo d 3 s else setDist d s
    else s
  | _, _ => s

/-- A member's outcome report (R464): 1 applied, 2 refused. -/
def distReport (src num outcome : Nat) (s : State) : State :=
  match s.slk.dist.find? (·.num == num) with
  | some d =>
    if d.applied.contains src ∨ d.refused.contains src then s
    else setDist (if outcome = 1 then { d with applied := src :: d.applied } else { d with refused := src :: d.refused }) s
  | none => s

/-- A member heard with a new boot counter: the action goes to it again, or it counts as missing (R464). -/
def distReboot (src : Nat) (s : State) : State :=
  s.slk.dist.foldl (fun (s : State) (d : SchedDist) =>
    if (d.state = 2 ∨ d.state = 3 ∨ d.state = 4) ∧ d.acks.contains src then
      if (siteNow s).any (fun n => decide (n + 1600 ≤ d.siteC)) then
        distTo { d with acks := d.acks.filter (· != src), lastTx := 0 } 2 s
      else setDist { d with missing := src :: d.missing } s
    else s) s

/-! ### Site transactions seen by the coordinator (Table TXN-7) -/

/-- A vote or an acknowledgement of a participant noted in the coordinator's book. -/
def noteNode (num src : Nat) (f : NodeBook → NodeBook) (s : State) : State :=
  let note (t : Txn) : Txn :=
    if t.num = num ∧ t.isHost then { t with nodes := t.nodes.map fun (b : NodeBook) => if b.node = src then f b else b } else t
  { s with txn := { s.txn with txns := s.txn.txns.map note, books := s.txn.books.map note } }

/-- A vote stamped by C − 1,600 counts (Table TXN-7). -/
def siteVote (src num : Nat) (yes : Bool) (s : State) : State :=
  match (s.txn.books ++ s.txn.txns).find? (·.num == num), siteNow s with
  | some t, some n =>
    if t.decided ≠ some true ∧ n ≤ (t.siteFrame.getD 0) - 1600 then noteNode num src (fun b => { b with vote := some yes }) s else s
  | _, _ => s

/-! ### Receiving (R444, R446, R447, R448) -/

/-- Whether a counter from a source is acceptable (R444). -/
def plcCounterOk (s : State) (src c : Nat) : Bool := match s.slk.sources.find? (·.addr == src) with
  | some x => decide (x.high < c + 64) && !x.seen.contains c
  | none => true

/-- A counter accepted. -/
def notePlc (src c : Nat) (s : State) : State :=
  let old := (s.slk.sources.find? (·.addr == src)).getD { addr := src, high := c }
  let hi := max old.high c
  let x : PlcSource := { addr := src, high := hi, seen := (c :: old.seen).filter fun y => decide (hi < y + 64) }
  modSlk (fun y => { y with sources := x :: y.sources.filter (·.addr != src) }) s

/-- A PLC frame rejected: counted, and reported at most once per 8,000 F (R444). -/
def plcReject (s : State) : State :=
  let f := s.frame
  let n := s.slk.rejSince + 1
  let s := modSlk (fun x => { x with rejected := satInc x.rejected, rejSince := n }) s
  if s.slk.rejSent.all (fun t => decide (t + 8000 ≤ f)) then
    ev 0xC6 9 0 n (modSlk (fun x => { x with rejSince := 0, rejSent := some f }) s)
  else s

/-- The neighbours and rates a HELLO lists. -/
def helloLinks (b : List Byte) : List (Nat × Nat) := (chunks 3 64 b).map fun c => (u8At c 0, u16At c 1)

/-- A HELLO of another node (R446, R459, R464). -/
def hearHello (src : Nat) (b : List Byte) (s : State) : State :=
  let f := s.frame
  let profile := u8At b 8
  let isWatch := u8At b 11 != 0
  let boot := u32At b 12
  let old := findNode s src
  let n : SiteNode := { (old.getD { addr := src }) with
    serial := leNat (b.take 8), profile := profile, align := u8At b 9, hop := u8At b 10, watch := isWatch, boot := boot
    links := helloLinks (b.drop 16), last := f }
  let s := setNode n s
  let s := match old with
    | none => ev 0xC1 9 1 (profile * 256 + src) s
    | some o =>
      let s := if o.boot = boot then s else distReboot src s
      if o.watch = isWatch then s else ev 0xC1 9 (if isWatch then 3 else 4) (profile * 256 + src) s
  distReady s

/-- An acknowledgement from the next hop: the oldest frame awaiting it is delivered (R448); a wake request acknowledged lets
its message go (R466). -/
def hearAck (src : Nat) (s : State) : State :=
  let s := match findNode s src with
    | some n => setNode { n with fails := 0 } s
    | none => s
  match s.slk.wakes.find? fun (w : WakeReq) => w.dest == src && w.lastTx != 0 with
  | some w =>
    let s := modSlk (fun x => { x with wakes := x.wakes.filter fun (y : WakeReq) => y != w }) s
    match w.msg with
    | some (n, d) => plcUnicast w.dest plcMsg (leBytes 2 n ++ d) (some n) s
    | none => s
  | none => match s.slk.pend.find? fun (p : PlcPend) => p.via == src with
    | some p =>
      let s := modSlk (fun x => { x with pend := x.pend.filter fun (q : PlcPend) => q != p }) s
      match p.msg with
      | some n => ev 0xC7 9 1 n s
      | none => s
    | none => s

/-- The 192-byte blocks of a region's image that are not whole yet (R550). -/
def blocksMissing (r : Region) : List Nat :=
  ((List.range ((r.length + 191) / 192)).map (· * 192)).filter fun o =>
    (List.range 12).any fun i => decide (o + 16 * i < r.length) && !r.units.any fun (u : Nat × List Byte) => u.1 == o + 16 * i

/-- A distributor's question for missing blocks, answered with up to 40 of them; a member that has not begun misses the
first (R550). -/
def missingAnswer (src num : Nat) (s : State) : State :=
  let r := s.upd.regions[0]
  let l := if s.upd.recv = some (src, num) then blocksMissing r else [0]
  if pbool s 0x7801 0 then
    plcUnicast src plcMissing (leBytes 1 num ++ leBytes 1 1 ++ leBytes 1 (min 40 l.length) ++ (l.take 40).flatMap (leBytes 4)) none s
  else s

/-- A member's answer at the distributor: complete, or blocks to send again (R550). -/
def missingHeard (src num : Nat) (offs : List Nat) (s : State) : State :=
  match s.upd.send with
  | some t =>
    if t.number ≠ num then s
    else { s with upd := { s.upd with send := some { t with
      missed := t.missed.filter fun (m : Nat × Nat) => m.1 != src
      done := if offs.isEmpty then src :: t.done else t.done
      repair := t.repair ++ offs.filter fun o => !t.repair.contains o } } }
  | none => s

/-- A frame for this node, by its payload type; types the profile does not know are left alone (Table SLK-2). -/
def plcHandle (f : PlcFrame) (s : State) : State :=
  let b := f.body
  let ack (s : State) : State := if f.dst = 0xFF then s else plcSend f.src f.src plcAck [] s
  if f.type = plcHello then hearHello f.src b s
  else if f.type = plcAck then hearAck f.src s
  else if f.type = plcSound then plcSend f.src f.src plcToneMap (leBytes 1 0 ++ leBytes 9 (Config.freeNat s.rnd % 2 ^ 72) ++ leBytes 2 0) s.draw
  else if f.type = plcToneMap then (match findNode s f.src with
    | some n => setNode { n with modul := u8At b 0, mask := leNat ((b.drop 1).take 9), rate := u16At b 10, robust := false, mapAt := some s.frame } s
    | none => s)
  else if f.type = plcMsg then
    let s := ack s
    if pbool s 0x500A 0 then pushData 2 0x01 9 (f.src * 256 + u8At b 0) (Config.freeNat s.rnd % 2 ^ 32) (b.drop 2) s.draw else s
  else if f.type = plcPowerFail then ev 0xC4 9 0 f.src s
  else if f.type = plcWake then (if watching s then wake 3 (ack s) else ack s)
  else if f.type = plcSchedAck then distAck f.src (u8At b 0) (u8At b 1 == 0) (ack s)
  else if f.type = plcCancelAck then
    let s := ack s
    let dropped (d : SchedDist) : SchedDist :=
      if d.num = u8At b 0 then { d with cancel := d.cancel.filter (· != f.src) } else d
    modSlk (fun x => { x with dist := x.dist.map dropped }) s
  else if f.type = plcSchedReport then distReport f.src (u8At b 0) (u8At b 1) (ack s)
  else if f.type = plcVote then siteVote f.src (u8At b 0) (u8At b 1 != 0) (ack s)
  else if f.type = plcMissing then
    let s := ack s
    if u8At b 1 = 0 then missingAnswer f.src (u8At b 0) s
    else missingHeard f.src (u8At b 0) ((List.range (u8At b 2)).map fun i => u32At b (3 + 4 * i)) s
  else if f.type = plcAbortAck then noteNode (u8At b 0) f.src (fun x => { x with acked := true }) (ack s)
  else s

/-- PLC_FRAME_RECEIVED: a failed frame is counted (R443), one that does not authenticate is rejected (R444); a frame for
another node is relayed up to 8 hops whatever its payload (R446). -/
def execPlcFrameReceived (f : PlcFrame) (s : State) : Outcome State Fault Refusal :=
  let own := ownAddr s
  if ¬ slkListens s then ans s
  else if ¬ f.crcOk then ans (modSlk (fun x => { x with failed := satInc x.failed }) s)
  else if f.src = own ∧ f.type = plcHello ∧ f.macOk then
    if leNat (f.body.take 8) = Config.serial.toNat then ans s
    else
      let t := s.frame
      let first := s.slk.conflict.isNone
      let s := modSlk (fun x => { x with conflict := some t }) s
      ans (if first then ev 0xC5 9 0 own s else s)
  else if ¬ f.macOk ∨ s.slk.key.isNone ∨ ¬ plcCounterOk s f.src f.counter then ans (plcReject s)
  else
    let s := notePlc f.src f.counter s
    let relay (s : State) : State := if 8 ≤ f.hops then s
      else if f.dst = 0xFF then (if f.type = plcPowerFail then plcCast f.type f.body s else s)
      else plcUnicast f.dst f.type f.body none (plcSend f.src f.src plcAck [] s)
    if f.dst = own ∨ f.dst = 0xFF then ans (plcHandle f (if f.dst = 0xFF then relay s else s))
    else if f.via = own then ans (relay s)
    else ans s

/-- ADDR_CONFLICT_END: 24,000 F after the last conflicting HELLO (R447). -/
def execAddrConflictEnd (s : State) : Outcome State Fault Refusal :=
  if expired (s.slk.conflict.map (· + 24000)) s.frame then ans (modSlk (fun x => { x with conflict := none }) s) else ans s

/-- SLK_NODE: a node absent from HELLOs for 24,000 F leaves the node table (R446); messages to it end. -/
def execSlkNode (addr : Nat) (s : State) : Outcome State Fault Refusal :=
  match findNode s addr with
  | some n =>
    if n.last + 24000 ≤ s.frame then
      let gone := s.slk.pend.filter fun (p : PlcPend) => p.dest == addr
      let s := modSlk (fun x => { x with
        nodes := x.nodes.filter (·.addr != addr), pend := x.pend.filter fun (p : PlcPend) => p.dest != addr
        wakes := x.wakes.filter fun (w : WakeReq) => w.dest != addr }) s
      let s := ev 0xC1 9 2 (n.profile * 256 + addr) s
      ans (distReady (gone.foldl (fun (s : State) (p : PlcPend) => match p.msg with
        | some m => ev 0xC7 9 3 m s
        | none => s) s))
    else ans s
  | none => ans s

/-! ### Alignment (R450 to R457) -/

/-- A new root, with SLK_ROOT. -/
def setRoot (r hop : Nat) (s : State) : State :=
  if s.slk.root = r then modSlk (fun x => { x with hop := hop }) s
  else ev 0xC8 9 0 r (modSlk (fun x => { x with root := r, hop := hop }) s)

/-- O set, with SLK_OFFSET and the saturating change when it was already in use (R454). -/
def setOffset (o : Int) (report : Bool) (s : State) : State :=
  let old := s.slk.offset
  let s := modSlk (fun x => { x with offset := some o }) s
  match old with
  | some p => if report ∧ p ≠ o then ev 0xC9 9 0 (arg32 (clampI (-2147483648) 2147483647 (o - p))) s else s
  | none => s

/-- The running profile changed, with SLK_PROFILE (R459). -/
def setProfile (n : Nat) (s : State) : State :=
  let old := s.slk.running
  if old = n then s
  else
    let s := modSlk (fun x => { x with running := n }) s
    if old = 0 then s else ev 0xC2 9 0 (old * 256 + n) s

/-- A measurement accepted (R452): the error left to trim, and a rate estimate that the spec leaves to the loop. -/
def acceptBeacon (b : Beacon) (s : State) : State :=
  let f := s.frame
  let rate := signed 4 (Config.freeNat s.rnd % 2 ^ 32)
  modSlk (fun x => { x with error := b.error, phase := b.error, rate := rate, lastOk := f, heard := some (b.site, b.hop) }) s.draw

/-- What a beacon's profile fields do at a node that follows its root (R459). -/
def beaconProfile (b : Beacon) (s : State) : State :=
  setProfile b.profile (modSlk (fun x => { x with raising := b.raising }) s)

/-- The site frame at which a beacon of hop h is sent: 80 h after that of the root (R451). -/
def beaconCount (b : Beacon) : Nat := b.site + 80 * b.hop

/-- The root of a beacon taken as the node's own (R454). -/
def takeRoot (b : Beacon) (s : State) : State :=
  let o : Int := (beaconCount b : Int) - b.at_
  let s := beaconProfile b (acceptBeacon b (setOffset o true (setRoot b.root (b.hop + 1) s)))
  slkTo (if b.error.natAbs ≤ 10000 then .aligned else .acquiring) s

/-- BEACON_RECEIVED (R452 to R454). -/
def execBeaconReceived (b : Beacon) (s : State) : Outcome State Fault Refusal :=
  if ¬ slkListens s ∨ ¬ b.macOk ∨ s.slk.key.isNone then ans s
  else
    let f := s.frame
    let s := modSlk (fun x => { x with lastBcn := if s.slk.align = .root ∧ s.slk.root ≤ b.root then x.lastBcn else some f }) s
    match s.slk.align with
    | .off => ans s
    | .searching =>
      if ¬ b.peakOk then ans s
      else
        let o : Int := (beaconCount b : Int) - b.at_
        ans (slkTo .acquiring (beaconProfile b (acceptBeacon b (setOffset o false (setRoot b.root (b.hop + 1) s)))))
    | .root => if b.root < s.slk.root ∧ b.peakOk then ans (takeRoot b s) else ans s
    | st =>
      if b.root < s.slk.root then (if b.peakOk then ans (takeRoot b s) else ans s)
      else if s.slk.root < b.root then ans s
      else
        let wild := decide (3000 < (b.error - s.slk.phase).natAbs) && st != .acquiring
        if ¬ b.peakOk ∨ wild then ans s
        else
          let o : Int := (beaconCount b : Int) - b.at_
          let s := if 1 < (o - s.slk.offset.getD 0).natAbs then setOffset o true s else s
          let s := beaconProfile b (acceptBeacon b (setRoot b.root (b.hop + 1) s))
          ans (if b.error.natAbs ≤ 10000 then slkTo .aligned s else s)

/-- HOLDOVER_START: ALIGNED with no accepted measurement for 16,000 F (Table SLK-1). -/
def execHoldoverStart (s : State) : Outcome State Fault Refusal :=
  if s.slk.align = .aligned ∧ s.slk.lastOk + 16000 ≤ s.frame then ans (slkTo .holdover s) else ans s

/-- The node without a root: SEARCHING or OFF (R471: the root address and hop count read 0xFF, the profile 0). -/
def slkLost (a : AlignState) (s : State) : State :=
  slkTo a (modSlk (fun x => { x with root := 0xFF, hop := 0xFF, running := 0, raising := none, lastBcn := none }) s)

/-- HOLDOVER_EXPIRY: HOLDOVER has run 80,000 F (Table SLK-1, R456). -/
def execHoldoverExpiry (s : State) : Outcome State Fault Refusal :=
  if s.slk.align = .holdover ∧ s.slk.since + 80000 ≤ s.frame then ans (slkLost .searching s) else ans s

/-- The lowest of the highest profiles of this node and its node table (R459). -/
def siteProfile (s : State) : Nat := s.slk.nodes.foldl (fun (n : Nat) (x : SiteNode) => min n x.profile) ownProfile

/-- This node becomes root (R457). -/
def becomeRoot (s : State) : State :=
  let own := ownAddr s
  let n := siteProfile s
  setProfile n (slkTo .root (setRoot own 0 (modSlk (fun x => { x with error := 0, phase := 0, raising := none }) s)))

/-- ROOT_ELECTION: 24,000 F of search without a beacon (R457). -/
def execRootElection (s : State) : Outcome State Fault Refusal :=
  if s.slk.align = .searching ∧ pbool s 0x5005 0 ∧ s.slk.since + 24000 ≤ s.frame ∧ s.slk.lastBcn.all (fun t => decide (t < s.slk.since)) then
    ans (becomeRoot (setOffset 0 false s))
  else ans s

/-- ROOT_TAKEOVER: the root's beacons absent for 24,000 F, this node next by address, at a multiple of 8,000 of its own site
frame count (R457). -/
def execRootTakeover (s : State) : Outcome State Fault Refusal :=
  let own := ownAddr s
  let silent := s.slk.lastBcn.all fun t => decide (t + 24000 ≤ s.frame)
  let next := s.slk.nodes.all fun (n : SiteNode) => n.addr == s.slk.root || decide (own < n.addr)
  if (s.slk.align = .aligned ∨ s.slk.align = .holdover) ∧ pbool s 0x5005 0 ∧ silent ∧ next ∧ (siteNow s).any (fun n => n % 8000 == 0) then
    ans (becomeRoot s)
  else ans s

/-- BEACON_SEND: at a multiple of 8,000 the root sends the site's beacon, lowering the profile at once and announcing a
raise at least 16,000 ahead (R451, R459). -/
def execBeaconSend (s : State) : Outcome State Fault Refusal :=
  match siteNow s with
  | none => ans s
  | some n =>
    if s.slk.align ≠ .root ∨ n % 8000 ≠ 0 ∨ powerFailed s then ans s
    else
      let p := siteProfile s
      let at_ := (n + 16000 + 7999) / 8000 * 8000
      let s := if p < s.slk.running then setProfile p (modSlk (fun x => { x with raising := none }) s)
        else if p = s.slk.running then modSlk (fun x => { x with raising := none }) s
        else if (s.slk.raising.map (·.1)) = some p then s
        else modSlk (fun x => { x with raising := some (p, at_) }) s
      ans (emit (.beacon s.slk.root n 0 0 s.slk.running s.slk.raising) s)

/-- BEACON_RELAY: the relaying node of a hop relays at s + 80 h (R451); of several nodes of a hop the one of lowest
address. -/
def execBeaconRelay (hop : Nat) (s : State) : Outcome State Fault Refusal :=
  match siteNow s, s.slk.heard with
  | some n, some (b, _) =>
    let lower := s.slk.nodes.any fun (x : SiteNode) => x.hop == hop && x.align == 3 && decide (x.addr < ownAddr s)
    if s.slk.align = .aligned ∧ s.slk.hop = hop ∧ n = b + 80 * hop ∧ ¬ lower ∧ ¬ powerFailed s then
      ans (emit (.beacon s.slk.root b hop s.slk.error s.slk.running s.slk.raising) s)
    else ans s
  | _, _ => ans s

/-- SLK_PROFILE: an announced raise takes effect at its site frame (R459). -/
def execSlkProfile (s : State) : Outcome State Fault Refusal :=
  match s.slk.raising, siteNow s with
  | some (p, at_), some n => if at_ ≤ n ∧ s.slk.align ≠ .off then ans (setProfile p (modSlk (fun x => { x with raising := none }) s)) else ans s
  | _, _ => ans s

/-- The tick: one frame lengthened or shortened by at most one reference cycle, 40 ns, towards the root (R14, R452). -/
def slkTrim (s : State) : State :=
  let on := s.slk.align == .acquiring || s.slk.align == .aligned || s.slk.align == .holdover
  let k := if s.slk.rate = 0 then 0 else 320000 / s.slk.rate.natAbs
  let byRate : Int := if s.slk.rate ≠ 0 ∧ s.frame % max 1 k = 0 then s.slk.rate.sign else 0
  let byPhase : Int := if 40 ≤ s.slk.phase then 1 else if s.slk.phase ≤ -40 then -1 else 0
  let t : Int := if ¬ on then 0 else if byPhase ≠ 0 then byPhase else byRate
  let s := { s with sys := { s.sys with trim := t, frameCycles := (3125 + t).toNat } }
  if on ∧ byPhase ≠ 0 then modSlk (fun x => { x with phase := x.phase - 40 * byPhase }) s else s

/-! ### Scheduled actions (R461 to R464) -/

/-- Whether the body suits a type (Table SLK-3). -/
def schedBodyOk (type : Nat) (b : List Byte) : Bool := match type with
  | 1 => b.length == 8
  | 2 => decide (1 ≤ u8At b 0) && decide (u8At b 0 ≤ 16) && b.length == 4 + 12 * u8At b 0
  | _ => b.isEmpty

/-- SLK_SCHED during frame N (R461). -/
def schedRules (type siteC group : Nat) (body : List Byte) (s : State) : Verdict :=
  if fencedDomain s 9 then no 0x4001
  else if s.slk.align ≠ .aligned ∧ s.slk.align ≠ .root then no 0x10C0
  else if type = 0 ∨ 3 < type then no 0x1101
  else if (siteNow s).all (fun n => decide (siteC < n + 16000) || decide (n + 4800000 < siteC)) then no 0x1141
  else if (groupMembers group).any (fun a => a != ownAddr s && (findNode s a).isNone) then no 0x10C1
  else if ¬ schedBodyOk type body then no 0x11C0
  else if 8 ≤ (s.slk.dist.filter fun (d : SchedDist) => decide (d.state < 5)).length then no 0x20C0
  else .accept 0x0100 none id

/-- SLK_SCHED. -/
def execSlkSched (h : Hdr) (type siteC group : Nat) (body : List Byte) (s : State) : Outcome State Fault Refusal :=
  ans (hostCmd h 0x5003 (.slkSched h type siteC group body) true true [] (schedRules type siteC group body) s)

/-- A schedule of the update regions for a local frame, with UPD_SCHEDULED (R551); it takes in the regions scheduled
already. -/
def setSchedule (mask f : Nat) (s : State) : State :=
  let mark (i : Nat) (r : Region) : Region :=
    if mask / 2 ^ i % 2 = 1 ∨ r.st = .scheduled then { r with st := .scheduled, due := some f } else r
  ev 0xFA 12 1 (f % 2 ^ 32) { s with upd := { s.upd with
    regions := (s.upd.regions.set 0 (mark 0 s.upd.regions[0])).set 1 (mark 1 s.upd.regions[1]), mask := mask ||| s.upd.mask
    due := some f, deferred := false } }

/-- Whether this node can take a member's part in an action (R553: an update needs region 0 WRITTEN with the identity). -/
def memberTakes (s : State) (type : Nat) (body : List Byte) : Bool :=
  type != 1 || (s.upd.regions[0].st == .written && s.upd.regions[0].identity == leNat body)

/-- An action held as member: C converted to a local frame, which stands (R464); a seventeenth is refused (R462). -/
def memberHold (source num type siteC group : Nat) (body : List Byte) (s : State) : Bool × State :=
  if s.slk.member.any (fun (m : SchedMember) => m.source == source && m.num == num) then (true, s)
  else match localFrame s siteC with
    | none => (false, s)
    | some f =>
      if 16 ≤ s.slk.member.length ∨ f ≤ s.frame ∨ ¬ memberTakes s type body then (false, s)
      else
        let m : SchedMember := { source := source, num := num, type := type, siteC := siteC, group := group, body := body, localF := f }
        let s := modSlk (fun x => { x with member := x.member ++ [m] }) s
        (true, if type = 1 then setSchedule 1 f s else s)

/-- SLK_SCHED takes effect: the action is WAITING or DISTRIBUTING (Table SLK-4); a group with this node in it holds it at
once. The result carries number and state. -/
def applySched (type siteC group : Nat) (body : List Byte) (s : State) : State × List Byte :=
  let n := s.slk.actNext
  let st := if membersReady s type group then 2 else 1
  let d : SchedDist := { num := n, type := type, siteC := siteC, group := group, body := body, state := st }
  let s := modSlk (fun x => { x with actNext := x.actNext % 255 + 1, dist := x.dist.filter (·.num != n) ++ [d] }) s
  let s := distTo d st s
  let own := ownAddr s
  let s := if (groupMembers group).contains own then
      (let r := memberHold own n type siteC group body s
       let a := if r.1 then { d with acks := [own] } else { d with refused := [own] }
       setDist a r.2) else s
  let s := match s.slk.dist.find? (·.num == n) with
    | some d => if d.state = 2 ∧ (unacked s d).isEmpty then distTo d 3 s else s
    | none => s
  (s, leBytes 1 n ++ leBytes 1 ((s.slk.dist.find? (·.num == n)).map (·.state) |>.getD st) ++ [0, 0])

/-- SCHED_DISTRIBUTE: an action goes to the members that have not acknowledged, every 400 F; a cancel to those that have,
every 80 F until C − 800 (R462, R463). -/
def execSchedDistribute (num : Nat) (s : State) : Outcome State Fault Refusal :=
  match s.slk.dist.find? (·.num == num), siteNow s with
  | some d, some n =>
    let f := s.frame
    if d.state = 2 ∧ n ≤ d.siteC - 1600 ∧ (d.lastTx = 0 ∨ d.lastTx + 400 ≤ f) then
      let body := leBytes 1 d.num ++ leBytes 1 d.type ++ leBytes 6 d.siteC ++ leBytes 8 d.group ++ d.body
      ans ((unacked s d).foldl (fun (s : State) (a : Nat) => plcUnicast a plcSched body none s) (setDist { d with lastTx := f } s))
    else if d.state = 6 ∧ n ≤ d.siteC - 800 ∧ ¬ d.cancel.isEmpty ∧ (d.lastTx = 0 ∨ d.lastTx + 80 ≤ f) then
      ans (d.cancel.foldl (fun (s : State) (a : Nat) => plcUnicast a plcCancel (leBytes 1 d.num) none s) (setDist { d with lastTx := f } s))
    else ans s
  | _, _ => ans s

/-- SCHED_ACK_DEADLINE: after C − 1,600 a waiting action has expired, and one distributed is partial (Table SLK-4). -/
def execSchedAckDeadline (num : Nat) (s : State) : Outcome State Fault Refusal :=
  match s.slk.dist.find? (·.num == num), siteNow s with
  | some d, some n =>
    if n ≤ d.siteC - 1600 then ans s
    else if d.state = 1 then
      ans (distTo d 7 (modSlk (fun x => { x with member := x.member.filter fun (m : SchedMember) => !(m.source == ownAddr s && m.num == num) }) s))
    else if d.state = 2 then ans (distTo { d with missing := unacked s d } 4 s)
    else ans s
  | _, _ => ans s

/-- A member's answer to an action, with an acknowledgement of its frame. -/
def memberAnswer (source num : Nat) (ok : Bool) (s : State) : State :=
  plcUnicast source plcSchedAck (leBytes 1 num ++ [boolByte (!ok)]) none (plcSend source source plcAck [] s)

/-- A member's outcome reported to the distributor (R464): 1 applied, 2 refused. -/
def memberReport (source num outcome : Nat) (s : State) : State :=
  if source = ownAddr s then distReport source num outcome s
  else plcUnicast source plcSchedReport (leBytes 1 num ++ leBytes 1 outcome) none s

/-- SCHED_ACTION_RECEIVED: a member of the group acknowledges, or refuses (R462, R464). -/
def execSchedActionReceived (source num type siteC group : Nat) (body : List Byte) (s : State) : Outcome State Fault Refusal :=
  if ¬ slkListens s ∨ ¬ (groupMembers group).contains (ownAddr s) then ans s
  else
    let r := memberHold source num type siteC group body s
    let s := memberAnswer source num r.1 r.2
    ans (if r.1 then s else memberReport source num 2 s)

/-- UPDATE_ACT_RECEIVED: as SCHED_ACTION_RECEIVED for type 1 (R553). -/
def execUpdateActReceived (source num siteC identity : Nat) (s : State) : Outcome State Fault Refusal :=
  if ¬ slkListens s then ans s
  else
    let r := memberHold source num 1 siteC (2 ^ ownAddr s) (leBytes 8 identity) s
    let s := memberAnswer source num r.1 r.2
    ans (if r.1 then s else memberReport source num 2 s)

/-- SCHED_CANCEL_RECEIVED: a cancel stamped by C − 800 discards the action (R463). -/
def execSchedCancelReceived (source num : Nat) (s : State) : Outcome State Fault Refusal :=
  match s.slk.member.find? fun (m : SchedMember) => m.source == source && m.num == num with
  | some m =>
    if slkListens s ∧ s.frame + 800 ≤ m.localF then
      let s := modSlk (fun x => { x with member := x.member.filter fun (y : SchedMember) => y != m }) s
      let s := if m.type = 1 ∧ s.upd.due = some m.localF then
          ev 0xFA 12 2 (m.localF % 2 ^ 32) { s with upd := { s.upd with
            due := none, mask := 0, regions := upd s.upd.regions 0 fun r => { r with st := .written, due := none } } }
        else s
      ans (plcUnicast source plcCancelAck (leBytes 1 num) none (plcSend source source plcAck [] s))
    else ans s
  | none => ans s

/-- The steps of a load plan: offset, import and export limit. -/
def planSteps (b : List Byte) : List (Nat × Nat × Nat) :=
  (chunks 12 16 ((b.drop 4).take (12 * u8At b 0))).map fun c => (u32At c 0, u32At c 4, u32At c 8)

/-- SCHED_ACTION_APPLY: a member's action at its local frame (Table SLK-3): the transaction of a load-plan step is built in
the frame before; a wake is stamped in the frame before C. Nothing falls at or after a power fail (R465). -/
def execSchedActionApply (source num : Nat) (s : State) : Outcome State Fault Refusal :=
  match s.slk.member.find? fun (m : SchedMember) => m.source == source && m.num == num with
  | none => ans s
  | some m =>
    let drop (s : State) : State := modSlk (fun x => { x with member := x.member.filter fun (y : SchedMember) => y != m }) s
    if powerFailed s then ans s
    else if m.type = 2 then match (planSteps m.body)[m.steps]? with
      | none => if m.localF ≤ s.frame then ans (memberReport source num 1 (drop s)) else ans s
      | some (off, imp, exp) =>
        if m.localF + off ≤ s.frame + 1 then
          let s := buildTxn .sched [.powerLimit 0 imp exp] (frameAfter s.frame 1) s
          ans (modSlk (fun x => { x with member := x.member.map fun (y : SchedMember) => if y = m then { m with steps := m.steps + 1 } else y }) s)
        else ans s
    else if m.type = 3 then
      if m.localF ≤ s.frame + 1 then ans (memberReport source num 1 (drop (if watching s then wake 3 s else s))) else ans s
    else if m.localF ≤ s.frame then ans (memberReport source num 1 (drop s)) else ans s

/-- SCHED_OUTCOME: after C the reports are collected; DONE when all are in, or 8,000 site frames after C (R464). -/
def execSchedOutcome (num : Nat) (s : State) : Outcome State Fault Refusal :=
  match s.slk.dist.find? (·.num == num), siteNow s with
  | some d, some n =>
    let open_ := d.acks.filter fun a => !(d.applied.contains a || d.refused.contains a || d.missing.contains a)
    if (d.state = 3 ∨ d.state = 4) ∧ d.siteC ≤ n ∧ (open_.isEmpty ∨ d.siteC + 8000 ≤ n) then
      ans (distTo { d with missing := d.missing ++ open_ } 5 s)
    else ans s
  | _, _ => ans s

/-- SLK_SCHED_CANCEL during frame N: accepted up to C − 801 (R463). -/
def schedCancelRules (num : Nat) (s : State) : Verdict :=
  if fencedDomain s 9 then no 0x4001
  else match s.slk.dist.find? (·.num == num), siteNow s with
    | some d, some n => if 1 ≤ d.state ∧ d.state ≤ 4 ∧ n + 801 ≤ d.siteC then done else no 0x10C2
    | _, _ => no 0x10C2

/-- SLK_SCHED_CANCEL. -/
def execSlkSchedCancel (h : Hdr) (num : Nat) (s : State) : Outcome State Fault Refusal :=
  ans (hostCmd h 0x5004 (.slkSchedCancel h num) true true [] (schedCancelRules num) s)

/-- The action CANCELLED at step 6; members that have acknowledged are told. -/
def applySchedCancel (num : Nat) (s : State) : State :=
  match s.slk.dist.find? (·.num == num) with
  | some d =>
    let own := ownAddr s
    let s := modSlk (fun x => { x with member := x.member.filter fun (m : SchedMember) => !(m.source == own && m.num == num) }) s
    distTo { d with cancel := d.acks.filter (· != own), lastTx := 0 } 6 s
  | none => s

/-- SLK_SCHED_LIST. -/
def execSlkSchedList (h : Hdr) (s : State) : Outcome State Fault Refusal :=
  ans (hostCmd h 0x5005 (.slkSchedList h) true true [] (fun s => if fencedDomain s 9 then no 0x4001 else done) s)

/-- The result of SLK_SCHED_LIST: a member's entry shows SCHEDULED. -/
def schedListResult (s : State) : List Byte :=
  let d := s.slk.dist.filter fun (d : SchedDist) => decide (d.state < 5)
  let entry (num type st role c g : Nat) : List Byte :=
    leBytes 1 num ++ leBytes 1 type ++ leBytes 1 st ++ leBytes 1 role ++ leBytes 6 c ++ [0, 0] ++ leBytes 8 g
  leBytes 1 (d.length + s.slk.member.length) ++ [0, 0, 0]
    ++ (d.flatMap fun (x : SchedDist) => entry x.num x.type x.state 0 x.siteC x.group)
    ++ s.slk.member.flatMap fun (m : SchedMember) => entry m.num m.type 3 1 m.siteC m.group

/-! ### Messages and wake requests (R466, R471) -/

/-- Messages of the host that await delivery. -/
def messagesWaiting (s : State) : Nat :=
  (s.slk.pend.filter fun (p : PlcPend) => p.msg.isSome).length + (s.slk.wakes.filter fun (w : WakeReq) => w.msg.isSome).length

/-- SLK_SEND during frame N: its message number is the result. -/
def slkSendRules (dest : Nat) (s : State) : Verdict :=
  if fencedDomain s 9 then no 0x4001
  else if 64 ≤ dest ∧ dest ≠ 0xFF then no 0x1101
  else if s.slk.align = .off then no 0x10C0
  else if dest ≠ 0xFF ∧ (findNode s dest).isNone then no 0x10C1
  else if 8 ≤ messagesWaiting s + (s.due.filter fun (d : DueCmd) => d.opcode == 0x5002 && s.frame < d.frame).length then no 0x20C1
  else .accept 0x0100 none id

/-- SLK_SEND. -/
def execSlkSend (h : Hdr) (dest flags : Nat) (data : List Byte) (s : State) : Outcome State Fault Refusal :=
  ans (hostCmd h 0x5002 (.slkSend h dest flags data) (!data.isEmpty && decide (data.length ≤ 236)) true [] (slkSendRules dest) s)

/-- The message goes out at step 6; to a watching node with the wake flag, after a wake request. The result carries its
number. -/
def applySlkSend (dest flags : Nat) (data : List Byte) (s : State) : State × List Byte :=
  let n := s.slk.msgNext
  let f := s.frame
  let s := modSlk (fun x => { x with msgNext := (x.msgNext + 1) % 65536 }) s
  let res := leBytes 2 n ++ [0, 0]
  if dest = 0xFF then (ev 0xC7 9 1 n (plcCast plcMsg (leBytes 2 n ++ data) s), res)
  else match findNode s dest with
    | none => (ev 0xC7 9 3 n s, res)
    | some x =>
      if flags % 2 = 1 ∧ x.watch then
        let w : WakeReq := { dest := dest, until_ := f + 16000, msg := some (n, data) }
        (modSlk (fun y => { y with wakes := y.wakes ++ [w] }) s, res)
      else (plcUnicast dest plcMsg (leBytes 2 n ++ data) (some n) s, res)

/-- WAKE_REQUEST_SEND: in the listen window of the node's hop, once in each, for at most 16,000 F (R466). -/
def execWakeRequestSend (dest : Nat) (s : State) : Outcome State Fault Refusal :=
  match s.slk.wakes.find? fun (w : WakeReq) => w.dest == dest with
  | none => ans s
  | some w =>
    let f := s.frame
    let rest := s.slk.wakes.filter fun (y : WakeReq) => y != w
    if w.until_ < f then
      let s := modSlk (fun x => { x with wakes := rest }) s
      ans (match w.msg with
        | some (n, _) => ev 0xC7 9 2 n s
        | none => s)
    else match findNode s dest, siteNow s with
      | some x, some n =>
        let h := if x.hop = 0xFF ∨ x.hop = 0 then 1 else min x.hop 8
        if n % 800 / 80 = h - 1 ∧ (w.lastTx = 0 ∨ w.lastTx + 80 < f) then
          ans (plcSend dest dest plcWake [] (modSlk (fun y => { y with wakes := rest ++ [{ w with lastTx := f }] }) s))
        else ans s
      | _, _ => ans s

/-! ### Start, restart, fence, watch and power fail (R465 to R469) -/

/-- The link starts: SEARCHING with SLK.EN 1, else OFF (R467). -/
def slkStart (s : State) : State :=
  let f := s.frame
  slkLost (if pbool s 0x5000 0 ∧ s.sys.service = .full ∧ ¬ fencedDomain s 9 then .searching else .off)
    (modSlk (fun x => { x with helloAt := f }) s)

/-- A write to one of the parameters of R469 restarts the link. -/
def slkRestart (s : State) : State :=
  slkStart (modSlk (fun x => { x with align := .off, offset := none, nodes := [], pend := [], member := [], dist := [], wakes := [],
                                      heard := none, conflict := none }) s)

/-- A fence of the link (R468): no transmission, OFF; O and the actions acknowledged stand. -/
def slkFence (s : State) : State := slkLost .off (modSlk (fun x => { x with pend := [], wakes := [] }) s)

/-- Return from a fence: the link restarts from its reset state; O stays defined through fences (R450). -/
def slkReturn (s : State) : State := slkStart (modSlk (fun x => { x with nodes := [], sources := x.sources, heard := none }) s)

/-- Waking from watch state with the receiver off loses alignment (R466). -/
def slkWake (s : State) : State := if pbool s 0x0025 0 ∨ s.slk.align = .off ∨ s.slk.align = .root then s else slkLost .searching s

/-- The power-fail notice at step 6 of frame P (R465). -/
def slkPowerFail (s : State) : State := plcCast plcPowerFail [] s

/-- The site link after a reset of the module: the key stays in flash and the boot counter counts. -/
def slkReset (s : State) : State := modSlk (fun x => { key := x.key, boot := x.boot + 1, txCount := x.txCount, sources := x.sources }) s

/-! ### Other commands (R445, R471) -/

/-- SLK_STATUS. -/
def execSlkStatus (h : Hdr) (s : State) : Outcome State Fault Refusal :=
  ans (hostCmd h 0x5000 (.slkStatus h) true true [] (fun s => if fencedDomain s 9 then no 0x4001 else done) s)

/-- The result of SLK_STATUS. -/
def slkStatusResult (s : State) : List Byte :=
  let x := s.slk
  leBytes 1 (alignCode x.align) ++ leBytes 1 x.running ++ leBytes 1 ownProfile ++ leBytes 1 x.root ++ leBytes 1 x.hop
    ++ leBytes 1 x.nodes.length ++ [0, 0] ++ (match x.offset with
      | some o => leInt 8 o
      | none => leBytes 8 0x8000000000000000) ++ leInt 4 x.error ++ leInt 4 x.rate ++ leSat 4 x.failed ++ leSat 4 x.rejected

/-- SLK_NODES. -/
def execSlkNodes (h : Hdr) (page : Nat) (s : State) : Outcome State Fault Refusal :=
  ans (hostCmd h 0x5001 (.slkNodes h page) true true [] (fun s =>
    if fencedDomain s 9 then no 0x4001 else if 3 < page then no 0x1101 else done) s)

/-- The result of SLK_NODES: 16 entries in address order; one that is not used has address 0xFF. -/
def slkNodesResult (page : Nat) (s : State) : List Byte :=
  (List.range 16).flatMap fun i => match s.slk.nodes[16 * page + i]? with
    | some n => leBytes 1 n.addr ++ leBytes 1 n.align ++ leBytes 1 n.profile ++ leBytes 1 n.hop ++ [boolByte n.watch]
        ++ leBytes 1 (if n.robust then 0 else n.modul) ++ leSat 2 (route s n.addr).2 ++ leBytes 8 n.serial
    | none => 0xFF :: List.replicate 15 0

/-- SLK_KEY_SET_X over SPI only (R445). -/
def execSlkKeySetX (h : Hdr) (key : List Byte) (s : State) : Outcome State Fault Refusal :=
  ans (hostCmd h 0x5080 (.slkKeySetX h key) (key.length == 16) true [] (fun s =>
    if h.link ≠ .spi then no 0x1006 else if fencedDomain s 9 then no 0x4001 else .accept 0 (some ((sha256 key).take 4)) id) s)

/-- The site key set at step 6. -/
def applySlkKey (key : List Byte) (s : State) : State := modSlk (fun x => { x with key := some key }) s

/-- SLK_TONEMAP_X. -/
def execSlkTonemapX (h : Hdr) (node action : Nat) (s : State) : Outcome State Fault Refusal :=
  ans (hostCmd h 0x5081 (.slkTonemapX h node action) true true [] (fun s =>
    if fencedDomain s 9 then no 0x4001
    else if 1 < action then no 0x1101
    else if (findNode s node).isNone then no 0x10C1 else done) s)

/-- A refresh asked for at step 6. -/
def applyTonemap (node action : Nat) (s : State) : State := if action = 1 then soundNode node s else s

/-- The result of SLK_TONEMAP_X. -/
def tonemapResult (node : Nat) (s : State) : List Byte := match findNode s node with
  | some n => leBytes 9 n.mask ++ leBytes 1 n.modul ++ leSat 4 (match n.mapAt with
      | some t => s.frame - t
      | none => 2 ^ 32 - 1) ++ [0, 0]
  | none => List.replicate 16 0

end Sys2Proof.Machine
end

