-- ==== Sys2Proof/Machine/Faults.lean ====
section
/-! DEFINITION. Faults and containment (chapter 16): fences and their return, retirement of domains and objects, the
retirement log, and the faults that stop all charging. -/

namespace Sys2Proof.Machine

open Host

/-- The fault book changed. -/
def modFlt (f : FltSt → FltSt) (s : State) : State := { s with flt := f s.flt }

/-- A domain changed. -/
def modDomain (d : Fin 12) (f : Domain → Domain) (s : State) : State := modFlt (fun x => { x with domains := upd x.domains d f }) s

/-- The outlet of a domain. -/
def domOutlet (d : Fin 12) : Option (Fin 8) := if h : d.val < 8 then some ⟨d.val, h⟩ else none

/-! ### Fence (R522, R523, Table ARC-6) -/

/-- The ties that carry power to an outlet (R30). -/
def outletTies (s : State) (k : Fin 8) : List (Fin 8) :=
  (allFin 8).filter fun (t : Fin 8) => tieJoined s t && tieOutlet s t == some k

/-- The groups assigned to an outlet (R30, R201). -/
def outletGroups (s : State) (k : Fin 8) : List (Fin 16) :=
  (allFin 16).filter fun (g : Fin 16) => (pgProfile s g).isSome && pgServes s g == some k

/-- The objects a fence of a domain takes (Table ARC-6, R436): groups to 0 mA, contactors and ties open, channels off. -/
def fenceActs (s : State) (d : Fin 12) : List Action :=
  match domOutlet d with
  | some k =>
    (outletGroups s k).map (fun (g : Fin 16) => Action.pgSetpoint g s.pool.groups[g].spMv 0)
      ++ (soLive s k).map (fun (o : Fin 32) => Action.contactor o false)
      ++ (outletTies s k).map (fun (t : Fin 8) => Action.tie t false)
      ++ (match outAux s k with
        | some n => [.aux n 0 0]
        | none => [])
  | none => if d.val = 8 then (allFin 12).map fun (n : Fin 12) => Action.aux n 0 0 else []

/-- FENCE_BUILD: the frame after the event, one fence each frame in ascending domain number (R522). -/
def execFenceBuild (s : State) : Outcome State Fault Refusal :=
  let f := s.frame
  if (allFin 12).any (fun (d : Fin 12) => (s.flt.domains[d].fault.bind (·.built)) == some f) then ans s
  else match (allFin 12).find? (fun (d : Fin 12) => match s.flt.domains[d].fault with
    | some p => p.built.isNone && decide (p.frame < f)
    | none => false) with
  | none => ans s
  | some d =>
    if (freeInternal s).isNone then ans s
    else ans (buildTxn (.fence d) (fenceActs s d) (frameAfter f 1)
      (modDomain d (fun x => { x with fault := x.fault.map fun (p : PendFault) => { p with built := some f } }) s))

/-- Fences of class T that still count at the legal time now (R525): 8,000 F are a legal second. -/
def fencesNow (s : State) (d : Fin 12) : List FenceCount :=
  s.flt.domains[d].counts.filter fun (c : FenceCount) => decide (s.onyx.legal * 8000 < c.legal * 8000 + pget s 0x7001 0 * tickHz)

/-- The counts of a domain as flash holds them (R525). -/
def saveCounts (d : Fin 12) (s : State) : State :=
  modFlt (fun x => { x with flash := { x.flash with counts := x.flash.counts.set d (x.domains[d]).counts } }) s

/-- Host transactions being applied that touch an object of a fence roll back, this frame being frame E (R108). -/
def fenceRollback (d : Fin 12) (s : State) : State :=
  let keys := s.txn.txns.flatMap fun (t : Txn) => if t.purpose == .fence d then t.actions.map fun (x : TxnAction) => x.act.key else []
  { s with txn := { s.txn with txns := s.txn.txns.map fun (t : Txn) =>
      if t.isHost && t.state == .applying && t.actions.any fun (x : TxnAction) => keys.contains x.act.key then
        { t with forced := true } else t } }

/-- The step-6 actions of a domain's fence (Table ARC-6, R196, R436, R468, R494, R514). -/
def fenceActions (d : Fin 12) (s : State) : State :=
  match domOutlet d with
  | some k =>
    let s := cancelMoves (fun j => j == k) s
    let s := (outletGroups s k).foldl (fun (s : State) (g : Fin 16) => pgSet g s.pool.groups[g].spMv 0 true s) s
    let s := match outAux s k with
      | some n => applyAux n 0 0 s
      | none => s
    let s := efiStop k (vlkOff k s)
    let s := enterState k { dest := .unavailable, reason := some 0x0F, frame := s.frame } s
    modOut k (fun o => if o.out = .highZ then o else { o with out := .stateF, outNext := none, forced := none }) s
  | none =>
    if d.val = 8 then auxFence s
    else if d.val = 9 then slkFence s
    else if d.val = 10 then nfcFence s
    else dspStep6 (dspReset s)

/-- The fence transaction applied (R107, R522): its contactors and ties wait for the two-phase rule of R103. -/
def applyFenceTxn (d : Fin 12) (s : State) : State :=
  let f := s.frame
  let waits (x : TxnAction) : Bool := match x.act with
    | .contactor _ _ => true
    | .tie _ _ => true
    | _ => false
  let txns := s.txn.txns.filterMap fun (t : Txn) =>
    if t.purpose == .fence d && t.state == .pending then
      (if t.actions.any waits then
        some { t with state := .applying, expiryE := f - 1, phase1 := true,
                      actions := t.actions.map fun (x : TxnAction) => if waits x then x else { x with confirmed := true } }
      else none)
    else some t
  { s with txn := { s.txn with txns := txns } }

/-- FLT_FENCE: the second frame after the event, the domain is fenced, or retired for class P or over its count (R522, R525,
R526). -/
def execFltFence (d : Fin 12) (s : State) : Outcome State Fault Refusal :=
  match s.flt.domains[d].fault with
  | none => ans s
  | some p => match p.built with
    | none => ans s
    | some b =>
      if s.frame ≤ b then ans s
      else
        let f := s.frame
        let counts := if p.counted ∧ ¬ p.permanent then fencesNow s d ++ [{ legal := s.onyx.legal, cause := p.cause }] else fencesNow s d
        let retire := p.permanent || (p.counted && decide (pget s 0x7000 d < counts.length))
        let back := if retire then none else if p.cause = 0xF6 then some f else some (frameAfter f (pget s 0x7002 d))
        let why := (s.flt.domains[d]).reason
        let s := fenceRollback d s
        let s := modDomain d (fun x => { x with
          state := if retire then 2 else 1, cause := p.cause, changed := f, retAt := back, counts := counts, fault := none }) s
        let s := applyFenceTxn d (fenceActions d s)
        if retire then
          ans (ev 0xF1 d (if p.byCmd then 3 else 1) d
            (writeRecord 0 d (if p.byCmd then 2 else 1) p.cause (if p.byCmd then why else []) s))
        else ans (ev 0xF0 d (p.cause * 256) (counts.length % 256 * 256 + d) (saveCounts d s))

/-! ### Return (R524, R529) -/

/-- Whether grants are possible: no stop-all event stands (Table FLT-5). -/
def grantsPossible (s : State) : Bool :=
  s.garnet.st == .run && !s.garnet.partner && !s.garnet.tickDev && !powerFailed s && s.sys.onyxUp && s.sys.service != .bringUp

/-- Whether every contactor feedback of an outlet is accepted open. -/
def contactorsOpen (s : State) (k : Fin 8) : Bool :=
  (soOutlet k).all fun (o : Fin 32) => !(fbClosed s o && pget s 0x4008 0 / 2 ^ o.val % 2 == 1)

/-- The clearing condition of a domain's cause (Table FLT-4). -/
def causeCleared (s : State) (d : Fin 12) (cause : Nat) : Bool :=
  let x := s.flt.domains[d]
  let passes := match x.selfAt with
    | some f => decide (f < s.frame)
    | none => true
  match domOutlet d with
  | some k =>
    if cause = 0x41 then contactorsOpen s k && (soOutlet k).all fun (o : Fin 32) => !s.garnet.outs[o].contact
    else if cause = 0x42 then contactorsOpen s k
    else if cause = 0x15 then contactorsOpen s k && (outletGroups s k).all fun (g : Fin 16) => s.pool.groups[g].spMa == 0
    else if cause = 0x4C then s.outlets[k].meas.ok && decide (s.outlets[k].meas.v.natAbs < 60000)
    else if cause = 0xA3 then (soOutlet k).all fun (o : Fin 32) => s.garnet.outs[o].fault.isNone || s.garnet.outs[o].testOk
    else if cause = 0x05 then x.overs.all fun f => decide (f + 8000 ≤ s.frame)
    else if cause = 0xF4 then passes
    else if cause = 0xF6 then !s.mtr.down && (match s.flt.mtrRestart with
      | some f => decide (f + 8 < s.frame)
      | none => true)
    else true
  | none =>
    if cause = 0x15 ∧ d.val = 8 then (allFin 12).all fun (n : Fin 12) => !(s.aux.ch[n]).isOn
    else if cause = 0xB8 ∨ cause = 0xF4 then passes
    else if cause = 0x05 then x.overs.all fun f => decide (f + 8000 ≤ s.frame)
    else true

/-- What a domain does when it returns (R524): an outlet enters IDLE, another domain restarts from its reset state. -/
def returnActions (d : Fin 12) (s : State) : State :=
  match domOutlet d with
  | some k =>
    let s := modOut k (fun o => { o with welded := false, forced := none }) s
    pilotOutputs (if outAvail s k then enterState k { dest := .idle, frame := s.frame } s else s)
  | none =>
    if d.val = 8 then auxReturn s
    else if d.val = 9 then slkReturn s
    else if d.val = 10 then nfcStart s
    else dspStep6 s

/-- A domain back in service. -/
def returnDomain (d : Fin 12) (s : State) : State :=
  let f := s.frame
  returnActions d (modDomain d (fun x => { x with state := 0, changed := f, retAt := none }) s)

/-- FLT_RETURN: from N+2+FLT.RECOV.T on, the first frame whose stamps show the clearing condition (R524). -/
def execFltReturn (d : Fin 12) (s : State) : Outcome State Fault Refusal :=
  let x := s.flt.domains[d]
  if x.state = 1 ∧ expired x.retAt s.frame ∧ x.fault.isNone ∧ causeCleared s d x.cause ∧ grantsPossible s then
    ans (ev 0xF2 d 1 d (returnDomain d s))
  else ans s

/-! ### Commands (R529, R535, R536) -/

/-- Whether a kind and number name a domain or an object (R535). -/
def faultObject (kind number : Nat) : Option Nat :=
  let n := match kind with
    | 0 => 12
    | 1 => 16
    | 2 => 8
    | 3 => 4
    | 4 => 12
    | _ => 8
  if 5 < kind then some 0x1104 else if n ≤ number then some 0x1104 else none

/-- The domain an object's events carry (Table FLT-4). -/
def faultDomain (s : State) (kind number : Nat) : Nat :=
  match kind with
  | 0 => number
  | 1 => pgDomain s number
  | 2 => if h : number < 8 then tieDomain s ⟨number, h⟩ else 12
  | 3 => 12
  | 4 => 8
  | _ => number

/-- Whether a domain or an object is retired. -/
def isRetired (s : State) (kind number : Nat) : Bool :=
  if kind = 0 then (match vget? s.flt.domains number with
    | some x => x.state == 2
    | none => false)
  else objRetired s kind number

/-- The clearing condition of a retired domain or object (Tables FLT-2 and FLT-4). -/
def returnCleared (s : State) (kind number : Nat) : Bool :=
  if kind = 0 then (if h : number < 12 then causeCleared s ⟨number, h⟩ (s.flt.domains[number]).cause else true)
  else if kind = 2 then (if h : number < 8 then
      let t : Fin 8 := ⟨number, h⟩
      let x := s.pool.ties[t]
      let cause := ((objFault s 2 number).retired).getD 0
      if cause = 0x57 then (match x.openSince with
        | some f => !x.fb && decide (f + 8000 ≤ s.frame)
        | none => false)
      else if cause = 0xA3 then s.garnet.outs[soTie t].testOk
      else if cause = 0x56 then !x.fb
      else true
    else true)
  else true

/-- Whether a Garnet latch stands on the outputs of a domain or object (R529). -/
def latchOn (s : State) (kind number : Nat) : Bool :=
  let outs : List (Fin 32) :=
    if kind = 0 then (if h : number < 8 then soOutlet ⟨number, h⟩ else [])
    else if kind = 2 then (if h : number < 8 then [soTie ⟨number, h⟩] else [])
    else []
  outs.any fun (o : Fin 32) => s.garnet.outs[o].fault.isSome || s.garnet.outs[o].contact

/-- Whether a fault of a domain is stamped in this frame. -/
def faultStamped (s : State) (d : Nat) : Bool := match vget? s.flt.domains d with
  | some x => x.fault.any fun (p : PendFault) => p.frame == s.frame
  | none => false

/-- Whether a reason text is empty. -/
def textEmpty (b : List Byte) : Bool := b.all fun x => x == 0 || x == 0x20

/-- FLT_RETURN_X during frame N (R529). -/
def fltReturnRules (kind number : Nat) (reason : List Byte) (s : State) : Verdict :=
  if s.sys.service ≠ .full then no 0x1005
  else match faultObject kind number with
    | some d => no d
    | none =>
      if ¬ isRetired s kind number then no 0x10F0
      else if ¬ returnCleared s kind number then no 0x10F1
      else if latchOn s kind number then no 0x1201
      else if textEmpty reason then no 0x11F0
      else if faultStamped s (faultDomain s kind number) then no 0x4001
      else done

/-- FLT_RETURN_X (R529). -/
def execFltReturnX (h : Hdr) (kind number : Nat) (reason : List Byte) (s : State) : Outcome State Fault Refusal :=
  ans (hostCmd h 0x7080 (.fltReturnX h kind number reason) (reason.length = 32) true [] (fltReturnRules kind number reason) s)

/-- FLT_RETURN_X takes effect (R529): the count cleared, the record, FLT_RETURN with cause 2. -/
def applyFltReturn (kind number : Nat) (reason : List Byte) (s : State) : State :=
  if kind = 0 then (if h : number < 12 then
      let d : Fin 12 := ⟨number, h⟩
      let cause := (s.flt.domains[d]).cause
      ev 0xF2 d 2 d (writeRecord 0 d 3 cause reason (returnDomain d (modDomain d (fun x => { x with counts := [] }) s)))
    else s)
  else if kind = 1 then (if h : number < 16 then returnGroup ⟨number, h⟩ reason s else s)
  else
    let s := returnObj kind number (faultDomain s kind number) reason s
    if kind = 3 then (if h : number < 4 then
        let f := s.frame
        modIm ⟨number, h⟩ (fun p => { p with faulty := true, nextTest := f }) s
      else s)
    else if kind = 4 then (if h : number < 12 then (if s.aux.fenced then s else auxUnlock ⟨number, h⟩ s) else s)
    else s

/-- FLT_RETIRE_X during frame N (R529). -/
def fltRetireRules (kind number : Nat) (s : State) : Verdict :=
  match faultObject kind number with
  | some d => no d
  | none => if isRetired s kind number then no 0x10F0 else done

/-- FLT_RETIRE_X (R529). -/
def execFltRetireX (h : Hdr) (kind number : Nat) (reason : List Byte) (s : State) : Outcome State Fault Refusal :=
  ans (hostCmd h 0x7081 (.fltRetireX h kind number reason) (reason.length = 32) true [] (fltRetireRules kind number) s)

/-- An object taken out of service when it is retired by command (Table FLT-2). -/
def retireActions (kind number : Nat) (s : State) : State :=
  match kind with
  | 1 => if h : number < 16 then
      let g : Fin 16 := ⟨number, h⟩
      if s.pool.groups[g].st = .unconfigured then s else pgTo g .failed (pgSet g 0 0 true (modPg g (fun p => { p with hostSp := false }) s))
    else s
  | 3 => if h : number < 4 then releasePort ⟨number, h⟩ s else s
  | 4 => if h : number < 12 then auxOff .locked ⟨number, h⟩ s else s
  | _ => s

/-- FLT_RETIRE_X takes effect (R529): this frame counts as the frame of the event. -/
def applyFltRetire (kind number : Nat) (reason : List Byte) (s : State) : State :=
  if kind = 0 then (if h : number < 12 then
      let d : Fin 12 := ⟨number, h⟩
      noteFault d 0xFF true false true (modDomain d (fun x => { x with reason := reason }) s)
    else s)
  else retireObj kind number (faultDomain s kind number) 0xFF 2 3 reason (retireActions kind number s)

/-- FLT_STATUS (R536). -/
def execFltStatus (h : Hdr) (s : State) : Outcome State Fault Refusal :=
  ans (hostCmd h 0x7003 (.fltStatus h) true true [] (fun _ => done) s)

/-- A bit set of the retired objects of a kind. -/
def retiredBits (s : State) (kind n : Nat) : Nat :=
  ((List.range n).map fun i => if objRetired s kind i then 2 ^ i else 0).foldl (· + ·) 0

/-- Command-core restarts that still count (R531). -/
def restartsNow (s : State) : List Nat := s.flt.restarts.filter fun f => decide (s.frame < f + pget s 0x7001 0)

/-- The FLT_STATUS result (Table FLT-8). -/
def fltStatusResult (s : State) : List Byte :=
  ((allFin 12).flatMap fun (d : Fin 12) =>
    let x := s.flt.domains[d]
    leBytes 1 x.state ++ leBytes 1 (min 255 (fencesNow s d).length) ++ leBytes 1 x.cause ++ [0] ++ leBytes 6 x.changed
      ++ leBytes 6 (x.retAt.getD (2 ^ 48 - 1)))
    ++ leBytes 2 (retiredBits s 1 16) ++ leBytes 1 (retiredBits s 2 8) ++ leBytes 1 (retiredBits s 3 4)
    ++ leBytes 2 (retiredBits s 4 12) ++ leBytes 1 (retiredBits s 5 8) ++ leBytes 1 s.flt.agate
    ++ leBytes 1 (min 255 (restartsNow s).length) ++ [0, 0, 0] ++ leBytes 4 s.flt.nextSeq

/-- FLT_LOG_READ (R535). -/
def execFltLogRead (h : Hdr) (first count : Nat) (s : State) : Outcome State Fault Refusal :=
  ans (hostCmd h 0x7004 (.fltLogRead h first count) true true []
    (fun _ => if count = 0 ∨ 20 < count then no 0x1101 else done) s)

/-- A record of the log as FLT_LOG_READ returns it. -/
def RetRec.bytes (r : RetRec) : List Byte :=
  leBytes 4 r.seq ++ leBytes 1 r.kind ++ leBytes 1 r.number ++ leBytes 1 r.action ++ leBytes 1 r.cause ++ leBytes 8 r.legal
    ++ fit 32 r.reason

/-- The FLT_LOG_READ result: records from a sequence number on. -/
def fltLogResult (first count : Nat) (s : State) : List Byte :=
  let l := (s.flt.log.filter fun (r : RetRec) => decide (first ≤ r.seq)).take count
  leBytes 1 l.length ++ [0, 0, 0] ++ l.flatMap fun (r : RetRec) => r.bytes

/-! ### The retirement store (R525, R526, R528) -/

/-- Whether a record is due. -/
def recordsDue (s : State) : Bool := s.flt.log.any fun (r : RetRec) => r.by_.isSome

/-- What the store holds once every record due has been written. -/
def flashImage (s : State) : FltFlash :=
  { retired := Vector.ofFn fun (d : Fin 12) =>
      if (s.flt.domains[d]).state = 2 then some ((s.flt.domains[d]).cause, (s.flt.domains[d]).reason) else none
    counts := Vector.ofFn fun (d : Fin 12) => (s.flt.domains[d]).counts
    objs := s.flt.objs.filter fun (o : ObjFault) => o.retired.isSome || o.kind == 5 }

/-- Every record due written, in two copies. -/
def writeRecords (s : State) : State :=
  let img := flashImage s
  modFlt (fun x => { x with log := x.log.map fun (r : RetRec) => { r with by_ := none }, flash := img }) s

/-- RETIREMENT_RECORD: the records due are written (R528). -/
def execRetirementRecord (s : State) : Outcome State Fault Refusal := if recordsDue s then ans (writeRecords s) else ans s

/-- The fault book after a reset (R119, R526, R528): what the store holds. `lost` says that records due are lost; the
counts of failures of objects in their windows of frames begin again. -/
def fltReset (lost : Bool) (s : State) : State :=
  let s := if lost then modFlt (fun x => { x with log := x.log.filter fun (r : RetRec) => r.by_.isNone }) s else writeRecords s
  modFlt (fun x =>
    { domains := Vector.ofFn fun (d : Fin 12) =>
        let r : Domain := { counts := x.flash.counts[d] }
        match x.flash.retired[d] with
        | some (c, why) => { r with state := 2, cause := c, reason := why }
        | none => r
      flash := x.flash
      objs := x.flash.objs.map fun (o : ObjFault) => if o.kind = 5 then o else { o with fails := [] }
      log := x.log, nextSeq := x.nextSeq }) s

/-- 0xF1 with detail 2 for each retirement in force at frame 0 (R526). -/
def retirementsRestored (s : State) : State :=
  let s := (allFin 12).foldl (fun (s : State) (d : Fin 12) => if (s.flt.domains[d]).state = 2 then ev 0xF1 d 2 d s else s) s
  (sortBy (fun (a b : ObjFault) => lexLt [a.kind, a.number] [b.kind, b.number]) s.flt.objs).foldl (fun (s : State) (o : ObjFault) =>
    if o.retired.isSome then ev 0xF1 (faultDomain s o.kind o.number) 2 (o.kind * 256 + o.number) s else s) s

/-! ### Overruns and self-checks (R19, R538, Table FLT-5) -/

/-- The domain a job's overrun is reported with, and its fence domain (R19). -/
def jobDomain : SlotJob → Nat × Option (Fin 12)
  | .edge => (12, none)
  | .session k => (k, some ⟨k.val, by omega⟩)
  | .setpoints k => (k, some ⟨k.val, by omega⟩)
  | .pool => (12, none)
  | .hostPackets => (12, none)
  | .port k => (k, some ⟨k.val, by omega⟩)
  | .siteModem => (15, none)
  | .meterSlot m => if h : 1 ≤ m.val then (m - 1, some ⟨m.val - 1, by omega⟩) else (15, none)
  | .meterCommit => (15, none)
  | .garnetOutputs => (14, none)
  | .garnetSupervise k => (k, some ⟨k.val, by omega⟩)
  | .garnetGlobal => (14, none)
  | .garnetCompare => (14, none)
  | .switchBank => (12, none)

/-- SYS_SLOT_OVRUN: the job's result of this frame is discarded; the overrun that fills FLT.OVRUN.N within 8,000 F is a
transient fault of the domain (R19, Table FLT-5). The spec states no argument for the event. -/
def execSysSlotOvrun (job : SlotJob) (s : State) : Outcome State Fault Refusal :=
  let f := s.frame
  let s := { s with sys := { s.sys with skips := if job = .edge then s.sys.skips else job :: s.sys.skips } }
  let s := match job with
    | .meterSlot m => squashSlot m (2 ^ slotElements s m - 1) f 4 0xFF s
    | _ => s
  let s := ev 0x05 (jobDomain job).1 0 (Config.freeNat s.rnd % 2 ^ 32) s.draw
  match (jobDomain job).2 with
  | none => ans s
  | some d =>
    let overs := f :: (s.flt.domains[d]).overs.filter fun n => decide (f < n + 8000)
    let s := modDomain d (fun x => { x with overs := overs }) s
    if pget s 0x7003 0 ≤ overs.length then ans (noteFault d 0x05 false true false (modDomain d (fun x => { x with overs := [f] }) s))
    else ans s

/-- FLT_SELFCHECK: a domain's self-check fails without an event of its own (Table FLT-4). -/
def execFltSelfcheck (d : Fin 12) (check : Nat) (s : State) : Outcome State Fault Refusal :=
  let f := s.frame
  ans (ev 0xF4 d 0 (check % 256 * 256 + d) (modDomain d (fun x => { x with selfAt := some f }) s))

/-! ### Faults that stop all charging (R530 to R533) -/

/-- FLT_AGATE: the frames in flight are discarded and answered as all failed; a restart within 8 F, or at the fourth failure
within 8,000 F a halt until the next module reset (R532). -/
def execFltAgate (s : State) : Outcome State Fault Refusal :=
  if s.flt.agate ≠ 0 then ans s
  else
    let f := s.frame
    let runs := f :: s.flt.agateRuns.filter fun n => decide (f < n + 8000)
    let halt := decide (4 ≤ runs.length)
    let s := modVlk (fun v => { v with
      ports := v.ports.map fun (p : VPort) => match p.rx with
        | some r => { p with rx := if r.done then p.rx else none, sack := if r.done then p.sack else .allFailed }
        | none => p
      lanes := .replicate 4 none, restartBy := if halt then v.restartBy else some (frameAfter f 8) }) s
    let s := ev 0xF5 15 (if halt then 2 else 1) runs.length
      (modFlt (fun x => { x with agateRuns := runs, agate := if halt then 1 else x.agate }) s)
    if halt then
      ans ((allFin 8).foldl (fun (s : State) (k : Fin 8) => linkFail k (if s.vlk.ports[k].st = .session then 6 else 3) s) s)
    else ans s

/-- AGATE_UNITS_RESTARTED: the shared units serve frames again (R532). -/
def execAgateUnitsRestarted (s : State) : Outcome State Fault Refusal :=
  if s.vlk.restartBy.isSome ∧ s.flt.agate = 0 then ans (modVlk (fun v => { v with restartBy := none }) s) else ans s

/-- FLT_MTR_ENGINE: every slot squashed from frame D − MTR.SQ.BACK with cause 5, every outlet fenced without a count
(R533). -/
def execFltMtrEngine (s : State) : Outcome State Fault Refusal :=
  if s.mtr.down then ans s
  else
    let first := squashFrom s
    let f := s.frame
    let s := (allFin 9).foldl (fun (s : State) (m : Fin 9) => squashSlot m (2 ^ slotElements s m - 1) first 5 0xFF s) s
    let s := modFlt (fun x => { x with mtrRestart := some (frameAfter f 800), mtrFenced := true }) (modMtr (fun x => { x with down := true }) s)
    let s := ev 0xF6 15 0 first s
    ans ((allFin 8).foldl (fun (s : State) (k : Fin 8) => noteFault ⟨k.val, by omega⟩ 0xF6 false false false s) s)

/-- MTR_ENGINE_RESTART: the engine runs again within 800 F (R533); its first record is committed 8 frames on (R27). -/
def execMtrEngineRestart (s : State) : Outcome State Fault Refusal :=
  if s.mtr.down then
    let f := s.frame
    ans (modFlt (fun x => { x with mtrRestart := some f, mtrFenced := false }) (modMtr (fun x => { x with down := false }) s))
  else ans s

end Sys2Proof.Machine
end

