-- ==== Sys2Proof/Machine/Update.lean ====
section
/-! DEFINITION. Firmware update (chapter 17): regions and their transfers over the host link and the site link, schedules and
activation, the checks of an image at boot. -/

namespace Sys2Proof.Machine

open Host

/-- The update state changed. -/
def modUpd (f : UpdSt → UpdSt) (s : State) : State := { s with upd := f s.upd }

/-- A region changed. -/
def modRegion (r : Fin 2) (f : Region → Region) (s : State) : State := modUpd (fun u => { u with regions := upd u.regions r f }) s

/-- The maximum LENGTH of a region (Table UPD-1). -/
def regionMax (r : Nat) : Nat := if r = 0 then 12582912 else 262144

/-- Whether an update is running in a region (R543). -/
def RegState.running (x : RegState) : Bool := x == .open || x == .written || x == .scheduled

/-- Whether a LENGTH is one of R541 within a region. -/
def lengthFits (r len : Nat) : Bool := len % 16 == 0 && decide (272 ≤ len) && decide (len ≤ regionMax r)

/-- The unit at an offset. -/
def Region.unit (r : Region) (off : Nat) : Option (List Byte) := (r.units.find? fun (u : Nat × List Byte) => u.1 == off).map (·.2)

/-- The first missing offset; none when every unit is written. -/
def Region.firstMissing (r : Region) : Option Nat :=
  ((List.range (r.length / 16)).map (· * 16)).find? fun o => (r.unit o).isNone

/-- The bytes of an image in order; a unit not written reads erased. -/
def Region.image (r : Region) : List Byte :=
  ((List.range (r.length / 16)).map (· * 16)).flatMap fun o => (r.unit o).getD (List.replicate 16 0xFF)

/-- The bytes written. -/
def Region.bytes (r : Region) : Nat := 16 * r.units.length

/-- Units put at an offset in order. -/
def putUnits : Nat → List (List Byte) → Region → Region
  | _, [], r => r
  | off, u :: t, r =>
    putUnits (off + 16) t (if (r.unit off).isSome then r
      else { r with units := insertBy (fun (a b : Nat × List Byte) => decide (a.1 < b.1)) (off, u) r.units })

/-- The written share in whole steps of UPD.PROG.STEP percent. -/
def progSteps (s : State) (bytes length : Nat) : Nat :=
  if length = 0 then 0 else bytes * 100 / length / pget s 0x7803 0

/-- UPD_PROGRESS when the written share has crossed a multiple of the step (R546). -/
def tellProgress (r : Fin 2) (s : State) : State :=
  let x := s.upd.regions[r]
  let n := progSteps s x.bytes x.length
  if x.told < n then ev 0xF8 12 r x.bytes (modRegion r (fun x => { x with told := n }) s) else s

/-- The regions of a schedule back to WRITTEN. -/
def unschedule (s : State) : State :=
  modUpd (fun u => { u with
    mask := 0, due := none, deferred := false
    regions := u.regions.map fun (r : Region) => if r.st = .scheduled then { r with st := .written, due := none } else r }) s

/-- A running update given up (R549): the schedule that names the region cancelled, the region BLANK, UPD_ABANDONED. -/
def abandon (r : Fin 2) (cause : Nat) (s : State) : State :=
  let s := if s.upd.regions[r].st = .scheduled then unschedule s else s
  let s := if r = 0 then modUpd (fun u => { u with recv := none }) s else s
  ev 0xFD 12 cause r (modRegion r (fun x => { x with st := .blank, due := none, finishAt := none }) s)

/-- A region opened (R545): header erased, LENGTH and IDENTITY stated, the record of units cleared. -/
def openRegion (r : Fin 2) (site : Bool) (length identity : Nat) (s : State) : State :=
  modRegion r (fun _ => { st := .open, site := site, length := length, identity := identity }) s

/-! ### Transfer over the host link (R545 to R549) -/

/-- UPD_OPEN_X during frame N (R545, R547). -/
def updOpenRules (region flags length identity : Nat) (s : State) : Verdict :=
  match vget? s.upd.regions region with
  | none => no 0x1104
  | some x =>
    let supersede := flags % 2 == 1
    if watching s then no 0x1001
    else if region = 0 ∧ s.upd.recv.isSome ∧ ¬ supersede then no 0x10FA
    else if x.st.running ∧ ¬ supersede then no 0x20F8
    else if ¬ lengthFits region length then no 0x11FA
    else if flags / 2 % 2 = 1 ∧ ¬ (x.st = .blank ∧ x.length = length ∧ x.identity = identity) then no 0x11FB
    else done

/-- UPD_OPEN_X (R545). -/
def execUpdOpenX (h : Hdr) (region flags length identity : Nat) (s : State) : Outcome State Fault Refusal :=
  ans (hostCmd h 0x7880 (.updOpenX h region flags length identity) true true [] (updOpenRules region flags length identity) s)

/-- UPD_OPEN_X takes effect (R545, R547, R549). -/
def applyUpdOpen (region flags length identity : Nat) (s : State) : State :=
  if h : region < 2 then
    let r : Fin 2 := ⟨region, h⟩
    if flags / 2 % 2 = 1 then modRegion r (fun x => { x with st := .open, site := false }) s
    else
      let s := if s.upd.regions[r].st.running then abandon r 1 s else s
      openRegion r false length identity s
  else s

/-- Whether two units are the same bytes. -/
def sameUnits (r : Region) : Nat → List (List Byte) → Bool
  | _, [] => true
  | off, u :: t => (r.unit off == some u) && sameUnits r (off + 16) t

/-- Whether a written unit differs from what a command would write there. -/
def unitsClash (r : Region) : Nat → List (List Byte) → Bool
  | _, [] => false
  | off, u :: t => (match r.unit off with
      | some v => v != u
      | none => false) || unitsClash r (off + 16) t

/-- Failures of a unit counted; in the third command that it fails, the region goes BLANK (R546). -/
def flashFault (r : Fin 2) (off : Nat) (s : State) : State :=
  let n := (((s.upd.regions[r].fails.find? fun (f : Nat × Nat) => f.1 == off).map (·.2)).getD 0) + 1
  let s := ev 0xFE 12 3 off (modRegion r (fun x => { x with fails := (off, n) :: x.fails.filter fun (f : Nat × Nat) => f.1 != off }) s)
  if n = 3 then abandon r 3 s else s

/-- UPD_WRITE_X during frame N (R546). `bad` is the unit whose read-back mismatches in all three attempts, if one does. -/
def updWriteRules (region len offset : Nat) (data : List Byte) (bad : Option Nat) (s : State) : Verdict :=
  if h : region < 2 then
    let r : Fin 2 := ⟨region, h⟩
    let x := s.upd.regions[r]
    let us := chunks 16 63 data
    if x.st ≠ .open then no 0x10F8
    else if len % 16 ≠ 0 ∨ len < 16 ∨ 1008 < len ∨ offset % 16 ≠ 0 ∨ x.length < offset + len then no 0x1101
    else if unitsClash x offset us then no 0x11F8
    else if sameUnits x offset us then .accept 0x0001 none id
    else match bad with
      | some b =>
        if offset ≤ b ∧ b < offset + len ∧ b % 16 = 0 ∧ (x.unit b).isNone then
          .reject 0x40F8 [] (fun s => flashFault r b (modRegion r (putUnits offset (us.take ((b - offset) / 16))) s))
        else .accept 0 none (modRegion r (putUnits offset us))
      | none => .accept 0 none (modRegion r (putUnits offset us))
  else no 0x1104

/-- UPD_WRITE_X (R546). -/
def execUpdWriteX (h : Hdr) (region len offset : Nat) (data : List Byte) (bad : Option Nat) (s : State) :
    Outcome State Fault Refusal :=
  ans (hostCmd h 0x7881 (.updWriteX h region len offset data bad) (data.length = len) true []
    (updWriteRules region len offset data bad) s)

/-- UPD_WRITE_X takes effect: progress (R546). -/
def applyUpdWrite (region : Nat) (s : State) : State := if h : region < 2 then tellProgress ⟨region, h⟩ s else s

/-- The digest of a whole image (R548). -/
def imageDigest (r : Region) : List Byte := (sha384 r.image).take 8

/-- A region whole: WRITTEN, with UPD_WRITTEN (R548). -/
def finishRegion (r : Fin 2) (s : State) : State :=
  let d := imageDigest s.upd.regions[r]
  let s := if r = 0 then modUpd (fun u => { u with recv := none }) s else s
  ev 0xF9 12 r (leNat (d.take 4)) (modRegion r (fun x => { x with st := .written, finishAt := none }) s)

/-- UPD_FINISH_X during frame N (R548). While units are missing the digest of its result is not stated. -/
def updFinishRules (region : Nat) (s : State) : Verdict :=
  match vget? s.upd.regions region with
  | none => no 0x1104
  | some x =>
    if x.st ≠ .open then no 0x10F8
    else match x.firstMissing with
      | some o => .refuse 0x11F9 (freeBytes s 8 ++ leBytes 4 o ++ [0, 0, 0, 0])
      | none => .accept 0 (some (imageDigest x ++ leBytes 4 0xFFFFFFFF ++ [0, 0, 0, 0])) id

/-- UPD_FINISH_X (R548). -/
def execUpdFinishX (h : Hdr) (region : Nat) (s : State) : Outcome State Fault Refusal :=
  ans (hostCmd h 0x7882 (.updFinishX h region) true true [] (updFinishRules region) s)

/-- UPD_FINISH_X takes effect. -/
def applyUpdFinish (region : Nat) (s : State) : State :=
  if h : region < 2 then (if s.upd.regions[(⟨region, h⟩ : Fin 2)].st = .open then finishRegion ⟨region, h⟩ s else s) else s

/-- UPD_ABANDON_X (R549). -/
def execUpdAbandonX (h : Hdr) (region : Nat) (s : State) : Outcome State Fault Refusal :=
  ans (hostCmd h 0x7885 (.updAbandonX h region) true true []
    (fun s => match vget? s.upd.regions region with
      | none => no 0x1104
      | some x => if x.st.running then done else no 0x10F8) s)

/-- UPD_ABANDON_X takes effect. -/
def applyUpdAbandon (region : Nat) (s : State) : State :=
  if h : region < 2 then (if s.upd.regions[(⟨region, h⟩ : Fin 2)].st.running then abandon ⟨region, h⟩ 2 s else s) else s

/-! ### Transfer over the site link (R550) -/

/-- UPD_SITE_SEND_X during frame N. -/
def updSiteSendRules (region : Nat) (s : State) : Verdict :=
  if fencedDomain s 9 then no 0x4001
  else if region ≠ 0 then no 0x1104
  else if s.upd.regions[0].st ≠ .written then no 0x10F8
  else if s.upd.send.isSome then no 0x20F8
  else done

/-- UPD_SITE_SEND_X (R550). -/
def execUpdSiteSendX (h : Hdr) (region group : Nat) (s : State) : Outcome State Fault Refusal :=
  ans (hostCmd h 0x7886 (.updSiteSendX h region group) true true [] (updSiteSendRules region) s)

/-- UPD_SITE_SEND_X takes effect: the transfer and its number. -/
def applyUpdSiteSend (group : Nat) (s : State) : State × List Byte :=
  let n := s.upd.sendNext
  (modUpd (fun u => { u with send := some { number := n, group := group }, sendNext := n % 255 + 1 }) s, leBytes 1 n ++ [0, 0, 0])

/-- A block broadcast: transfer number, offset and 192 bytes. -/
def sendBlock (num off : Nat) (s : State) : State :=
  let img := ((List.range 12).map fun i => off + 16 * i).flatMap fun o => (s.upd.regions[0].unit o).getD []
  plcCast plcBlock (leBytes 1 num ++ leBytes 4 off ++ img) s

/-- SITE_BLOCK_SEND: every UPD.SITE.INT frames the next block, then those missing; with none left, each member that is not
complete is asked; one that misses three rounds is given up (R550). -/
def execSiteBlockSend (s : State) : Outcome State Fault Refusal :=
  match s.upd.send with
  | none => ans s
  | some t =>
    let f := s.frame
    if s.upd.regions[0].st ≠ .written ∧ s.upd.regions[0].st ≠ .scheduled then ans (modUpd (fun u => { u with send := none }) s)
    else if f < t.lastTx + pget s 0x7802 0 then ans s
    else
      let put (x : SiteSend) (s : State) : State := modUpd (fun u => { u with send := some { x with lastTx := f } }) s
      let len := s.upd.regions[0].length
      if t.next < len then
        let n := progSteps s (min len (t.next + 192)) len
        let s := sendBlock t.number t.next s
        let s := if t.told < n then ev 0xF8 12 0 (min len (t.next + 192)) s else s
        ans (put { t with next := t.next + 192, told := max t.told n } s)
      else match t.repair with
        | o :: rest => ans (put { t with repair := rest } (sendBlock t.number o s))
        | [] =>
          let misses (a : Nat) : Nat := ((t.missed.find? fun (m : Nat × Nat) => m.1 == a).map (·.2)).getD 0
          let left := (groupMembers t.group).filter fun a => a != ownAddr s && !t.done.contains a && decide (misses a < 3)
          if left.isEmpty then ans (modUpd (fun u => { u with send := none }) s)
          else
            let s := left.foldl (fun (s : State) (a : Nat) => plcUnicast a plcMissing (leBytes 1 t.number ++ [0]) none s) s
            ans (put { t with missed := left.map (fun a => (a, misses a + 1)) ++ t.missed.filter fun (m : Nat × Nat) => !left.contains m.1 } s)

/-- SITE_BLOCK_RECEIVED: a member with UPD.SITE.ACCEPT 1 whose region 0 runs no host update opens region 0 on the first
block, writes the block as R546 does and, once complete, is WRITTEN at the next edge (R550, Table UPD-5). -/
def execSiteBlockReceived (source number offset : Nat) (data : List Byte) (s : State) : Outcome State Fault Refusal :=
  let x := s.upd.regions[0]
  let mine := s.upd.recv = some (source, number)
  if ¬ pbool s 0x7801 0 ∨ ¬ slkListens s ∨ s.sys.service ≠ .full then ans s
  else
    let len := u32At data 20
    let s := if mine then s
      else if offset ≠ 0 ∨ x.st.running ∨ data.length ≠ 192 ∨ ¬ lengthFits 0 len then s
      else modUpd (fun u => { u with recv := some (source, number) }) (openRegion 0 true len (leNat ((data.drop 4).take 8)) s)
    let us := chunks 16 12 data
    let x := s.upd.regions[0]
    if s.upd.recv = some (source, number) ∧ x.st = .open ∧ offset % 192 = 0 ∧ data.length = min 192 (x.length - offset)
        ∧ ¬ unitsClash x offset us then
      let e := frameAfter s.frame 1
      let s := tellProgress 0 (modRegion 0 (putUnits offset us) s)
      ans (if s.upd.regions[0].firstMissing.isNone then modRegion 0 (fun x => { x with finishAt := some e }) s else s)
    else ans s

/-- Step 6: a reception that was complete in the frame before is WRITTEN. -/
def updStep6 (s : State) : State :=
  let x := s.upd.regions[0]
  if x.st = .open ∧ expired x.finishAt s.frame then finishRegion 0 s else s

/-! ### Schedules and activation (R551, R552) -/

/-- Whether every region of a mask is WRITTEN. -/
def maskWritten (mask : Nat) (s : State) : Bool :=
  (allFin 2).all fun (r : Fin 2) => mask / 2 ^ r.val % 2 == 0 || s.upd.regions[r].st == .written

/-- The local frame a schedule names, or the detail of its refusal (R551). -/
def scheduleFrame (h : Hdr) (mode frame : Nat) (s : State) : Sum Nat Nat :=
  if mode = 0 then .inr (frameAfter s.frame 1) else statedFrame s h frame

/-- UPD_SCHEDULE_X during frame N (R551). -/
def updScheduleRules (h : Hdr) (mask mode frame : Nat) (s : State) : Verdict :=
  if mask = 0 ∨ 3 < mask ∨ 1 < mode then no 0x1101
  else if h.flags.getLsbD 5 ∧ fencedDomain s 9 then no 0x4001
  else if ¬ maskWritten mask s then no 0x10F8
  else match scheduleFrame h mode frame s with
    | .inl d => no d
    | .inr f => .accept 0x0100 (some (leBytes 6 f ++ [0, 0])) id

/-- UPD_SCHEDULE_X (R551). -/
def execUpdScheduleX (h : Hdr) (mask mode frame : Nat) (s : State) : Outcome State Fault Refusal :=
  ans (hostCmd h 0x7883 (.updScheduleX h mask mode frame) true true [] (updScheduleRules h mask mode frame) s)

/-- UPD_SCHEDULE_X takes effect for a local frame. -/
def applyUpdSchedule (mask f : Nat) (s : State) : State := if maskWritten mask s then setSchedule mask f s else s

/-- UPD_CANCEL_X (R551). -/
def execUpdCancelX (h : Hdr) (s : State) : Outcome State Fault Refusal :=
  ans (hostCmd h 0x7884 (.updCancelX h) true true [] (fun s => if s.upd.mask = 0 then no 0x10F8 else done) s)

/-- UPD_CANCEL_X takes effect. -/
def applyUpdCancel (s : State) : State :=
  match s.upd.due with
  | some f => if s.upd.resetBy.isSome then s else ev 0xFA 12 2 (f % 2 ^ 32) (unschedule s)
  | none => s

/-- Whether nothing blocks an activation (R552). -/
def activationClear (s : State) : Bool :=
  ((allFin 8).all fun (k : Fin 8) =>
      let st := s.outlets[k].st
      st != .energising && st != .charging && st != .stopping && st != .weldCheck)
    && ((allFin 32).all fun (o : Fin 32) => !s.garnet.outs[o].driven && !s.garnet.outs[o].granted
      && !(fbClosed s o && pget s 0x4008 0 / 2 ^ o.val % 2 == 1))
    && ((allFin 8).all fun (t : Fin 8) => !s.pool.ties[t].cmd)
    && (s.txn.txns.all fun (t : Txn) => !(t.isHost && t.reserves))
    && s.onyx.pending.isEmpty

/-- UPD_ACTIVATION: from frame F on, the first frame with no blocking condition applies it: Onyx persists and the module reset
is released within 8 F; while one stands, the deferral is told once (R552). A power fail comes first (Table UPD-5). -/
def execUpdActivation (s : State) : Outcome State Fault Refusal :=
  match s.upd.due with
  | none => ans s
  | some f =>
    if s.frame < f ∨ s.upd.mask = 0 ∨ powerFailed s ∨ s.upd.resetBy.isSome then ans s
    else if activationClear s then
      let a := s.frame
      ans (modUpd (fun u => { u with activated := some u.mask, resetBy := some (frameAfter a 8) })
        (persistLive (ev 0xFA 12 5 (a % 2 ^ 32) s)))
    else if s.upd.deferred then ans s
    else ans (ev 0xFA 12 3 (f % 2 ^ 32) (modUpd (fun u => { u with deferred := true }) s))

/-- ACTIVATION_WAIT_EXPIRY: UPD.ACT.WAIT frames from F without activation; a blocking condition that clears in that frame is
in time (R552, Table UPD-5). -/
def execActivationWaitExpiry (s : State) : Outcome State Fault Refusal :=
  match s.upd.due with
  | none => ans s
  | some f =>
    if s.upd.mask ≠ 0 ∧ s.upd.resetBy.isNone ∧ f + pget s 0x7800 0 ≤ s.frame ∧ ¬ activationClear s then
      ans (ev 0xFA 12 4 (f % 2 ^ 32) (unschedule s))
    else ans s

/-! ### Status (R558) -/

/-- UPD_STATUS. -/
def execUpdStatus (h : Hdr) (s : State) : Outcome State Fault Refusal :=
  ans (hostCmd h 0x7800 (.updStatus h) true true [] (fun _ => done) s)

/-- The code of a region state (Table UPD-3). -/
def regCode (x : RegState) : Nat := match x with
  | .valid => 0
  | .open => 1
  | .written => 2
  | .scheduled => 3
  | .blank => 4

/-- The UPD_STATUS result (Table UPD-8). -/
def updStatusResult (s : State) : List Byte :=
  ((allFin 2).flatMap fun (r : Fin 2) =>
    let x := s.upd.regions[r]
    leBytes 1 (regCode x.st) ++ [boolByte x.site, 0, 0] ++ leBytes 8 x.identity ++ leBytes 4 x.length ++ leBytes 4 x.bytes
      ++ leBytes 4 (if x.st = .valid then 0xFFFFFFFF else x.firstMissing.getD 0xFFFFFFFF) ++ leBytes 6 (x.due.getD (2 ^ 48 - 1))
      ++ [0, 0])
    ++ leBytes 4 s.upd.version ++ leBytes 8 s.upd.identity ++ leBytes 4 s.upd.floor ++ leBytes 4 s.upd.loader
    ++ leBytes 1 s.upd.bootCause ++ [0, 0, 0]

/-! ### Boot (R540 to R544, R554) -/

/-- What an image's check at boot finds (R542): 0 pass, else the cause of UPD_SIG_FAIL. -/
def imageCheck (r : Fin 2) (sigOk : Bool) (s : State) : Nat :=
  let x := s.upd.regions[r]
  let b := x.image
  if x.st = .open ∨ x.st = .blank then 2
  else if u16At b 0 ≠ 1 ∨ u8At b 2 ≠ r.val ∨ u32At b 20 ≠ x.length ∨ ¬ lengthFits r x.length then 1
  else if x.firstMissing.isSome then 2
  else if u32At b 12 < s.upd.floor then 4
  else if sigOk then 0 else 3

/-- An image taken into use: the floor raised, the region VALID (R542). -/
def takeImage (r : Fin 2) (s : State) : State :=
  let b := s.upd.regions[r].image
  modRegion r (fun x => { x with st := .valid, due := none })
    (modUpd (fun u => { u with floor := max u.floor (u32At b 16) }) s)

/-- The update state after a reset (R544): a transfer cut short leaves its region BLANK with its record, a schedule is lost
but the image stands. -/
def updReset (s : State) : State :=
  modUpd (fun u => { u with
    regions := u.regions.map fun (r : Region) => { r with
      st := if r.st = .open then .blank else if r.st = .scheduled then .written else r.st, due := none, finishAt := none }
    mask := 0, due := none, deferred := false, resetBy := none, send := none, recv := none }) s

/-- The boot ROM at an activation that named region 1 (R540, R542): its image becomes the resident loader, or is reported. -/
def bootLoader (s : State) : State :=
  match s.upd.activated with
  | none => s
  | some m =>
    if m / 2 % 2 = 0 then s
    else
      let b := s.upd.regions[1].image
      let c := imageCheck 1 (Config.verifies (u8At b 3) (b.take 160 ++ b.drop 256) ((b.drop 160).take 96)) s
      if c = 0 then takeImage 1 (modUpd (fun u => { u with loader := u32At b 12 }) s) else ev 0xFC 12 c 1 s

/-- The boot check of region 0 (R542, R544, R554): a new image is taken into use, with UPD_ACTIVATED after an activation. -/
def bootImage (sigOk : Bool) (s : State) : State × Bool :=
  let x := s.upd.regions[0]
  let c := if x.st = .valid then (if sigOk then 0 else 3) else imageCheck 0 sigOk s
  let s := modUpd (fun u => { u with bootCause := c }) s
  if c ≠ 0 then (modUpd (fun u => { u with activated := none }) (ev 0xFC 12 c 0 s), false)
  else
    let b := x.image
    let s := if x.st = .valid then s
      else takeImage 0 (modUpd (fun u => { u with version := u32At b 12, identity := leNat ((b.drop 4).take 8) }) s)
    match s.upd.activated with
    | some m => (modUpd (fun u => { u with activated := none }) (ev 0xFB 12 (m % 256) s.upd.version s), true)
    | none => (s, true)

end Sys2Proof.Machine
end

