-- ==== Sys2Proof/Machine/Params.lean ====
section
/-! DEFINITION. The parameter opcodes (chapter 02: R62 to R72, R588), what a parameter write does beyond the store, the
staging of actions into a transaction (R87 to R90), persisting (R121), and the watch state (R140 to R142). -/

namespace Sys2Proof.Machine

open Host

/-! ### Watch state (R140 to R142) -/

/-- Whether the module may enter watch state (R140). -/
def watchOk (s : State) : Bool :=
  ((allFin 8).all fun (k : Fin 8) => s.outlets[k].st == .unavailable || pilotSeen s k == .a)
    && ((allFin 32).all fun (o : Fin 32) => !(s.garnet.outs[o].driven || (fbClosed s o && pget s 0x4008 0 / 2 ^ o.val % 2 == 1)))
    && ((allFin 8).all fun (t : Fin 8) => !tieJoined s t)
    && (s.txn.txns.all fun (t : Txn) => !(t.isHost && t.reserves))
    && ((allFin 2).all fun (r : Fin 2) => s.upd.regions[r].st != .open)

/-- Watch state entered at step 6: the CAN FD ports stop, the reader field goes off (R141, Table BRU-6). -/
def enterWatch (s : State) : State := readerOff 4 (poolStop (cancelMoves (fun _ => true) (pset 0x0023 0 1 s)))

/-- Watch state left at step 6, with SYS_WAKE (R142). -/
def leaveWatch (cause : Nat) (s : State) : State :=
  let s := pset 0x0023 0 0 s
  let s := ev 0x0E 12 0 cause { s with sys := { s.sys with wakeCause := none } }
  slkWake (efiWake (poolStart s))

/-- The lowest wake cause stamped in this frame (R142): a pilot that is not A, a card found by the ping, a site message. -/
def wakeNow (s : State) : Option Nat :=
  if (allFin 8).any fun (k : Fin 8) => s.outlets[k].pilot.stamped != .a && s.outlets[k].pilot.stamped != .f then some 1
  else if s.nfc.detected.isSome then some 2
  else s.sys.wakeCause

/-- Step 6: waking from watch state. -/
def wakeStep (s : State) : State :=
  if watching s then (match wakeNow s with
    | some c => leaveWatch c s
    | none => s)
  else { s with sys := { s.sys with wakeCause := none } }

/-! ### A parameter write at step 6 -/

/-- Whether an ID is a trial calibration parameter (R295). -/
def isTrial (id : Nat) : Bool := decide (0x3090 ≤ id) && decide (id ≤ 0x3099)

/-- A single write applied at step 6, with what goes with it: sessions of a changed Ethernet address (R72), the watch state
(R140), a trial parameter of a calibration (R295), the site link's restart (R469), the reader's mode (R494). -/
def applyParam (id inst v : Nat) (s : State) : State :=
  let old := pget s id inst
  if id = 0x0023 then
    (if v = 1 ∧ old = 0 then enterWatch s else if v = 0 ∧ old = 1 then leaveWatch 4 s else s)
  else if isTrial id && !inCal s inst then s
  else
    let reader := readerMode s
    let s := pset id inst v s
    if id = 0x0010 ∨ id = 0x0011 then
      (if v = old then s else modLink (fun l => { l with closeDue := true }) s)
    else if isTrial id then trialWritten inst s
    else if 0x5000 ≤ id ∧ id ≤ 0x5004 then slkRestart s
    else if id = 0x5800 then
      (if readerMode s then (if reader then s else applyLpCal s) else if reader then readerOff 1 s else s)
    else s

/-- Writes applied in order of admission (R54). -/
def applyWrites (ws : List (Nat × Nat × Nat)) (s : State) : State :=
  ws.foldl (fun (s : State) (w : Nat × Nat × Nat) => applyParam w.1 w.2.1 w.2.2 s) s

/-- The sessions closed once their replies are out (R72). -/
def closeChanged (s : State) : State :=
  if s.link.closeDue then
    modLink (fun l => { l with closeDue := false }) ((allFin 2).foldl (fun (s : State) (i : Fin 2) => closeSession i s) s)
  else s

/-- Whether a parameter key is persisted (R121). -/
def persistable (k : Nat) : Bool :=
  let id := k / 256
  !(id == 0x0023 || id == 0x1804 || isTrial id) && (match pinfo id with
    | some p => decide (p.cls < 2)
    | none => false)

/-- What an edge whose number is a multiple of 8,000 persists: the values in force before its step 6 (R121). -/
def persistStamp (s : State) : State :=
  let img := s.params.filter fun x => persistable x.1
  { s with sys := { s.sys with toPersist := if s.frame % 8000 = 0 then some img else none } }

/-- PARAM_PERSIST (R121). -/
def execParamPersist (s : State) : Outcome State Fault Refusal :=
  match s.sys.toPersist with
  | some img => ans { s with persisted := img, sys := { s.sys with toPersist := none } }
  | none => ans s

/-! ### Staging (R87 to R90) -/

/-- An action put into a list: in the place of an earlier one on the same object of the same post, else at the end
(R88). -/
def putAction (a : TxnAction) : List TxnAction → List TxnAction
  | [] => [a]
  | x :: r => if x.act.key = a.act.key ∧ x.node = a.node then a :: r else x :: putAction a r

/-- Actions staged in order. -/
def putActions (l : List TxnAction) (acts : List (Nat × Action)) : List TxnAction :=
  acts.foldl (fun (l : List TxnAction) (x : Nat × Action) => putAction { act := x.2, node := x.1 } l) l

/-- A command that names a transaction restarts its idle timer, refused or not (R84). -/
def nameTxn (n : Nat) (s : State) : State := match findTxn s n with
  | some t => setTxn { t with lastNamed := s.frame } s
  | none => s

/-- A verdict of a command that names a transaction. -/
def named (n : Nat) (v : Verdict) : Verdict := match v with
  | .refuse d r => .reject d r (nameTxn n)
  | .reject d r now => .reject d r fun (s : State) => now (nameTxn n s)
  | .accept d r now => .accept d r fun (s : State) => now (nameTxn n s)

/-- Whether a transaction takes staging (R87). -/
def stageable (t : Txn) : Bool := t.state == .open || t.state == .checked

/-- Actions staged into transaction `n` during this frame: the class 0x10 and 0x11 checks of R87 and R88, then OPEN. The
results are those of the refusal and of the acceptance. -/
def stageInto (n : Nat) (acts : List (Nat × Action)) (bad good : List Byte) (s : State) : Verdict :=
  match findTxn s n with
  | none => .refuse 0x1002 bad
  | some t =>
    let l := putActions t.actions acts
    if ¬ stageable t then .refuse 0x1001 bad
    else if 64 < l.length then .refuse 0x1140 bad
    else .accept 0 (some good) fun (s : State) => match findTxn s n with
      | some t => setTxn { t with actions := l, state := .open } s
      | none => s

/-! ### PARAM_WRITE and PARAM_WRITE_X (R63, R66 to R69) -/

/-- The refusals other chapters add to a write: watch state (R140), trial parameters (R295). A staged write of 1 to
SYS.PWR.MODE could only take effect while its own transaction is PENDING, which R140 excludes. -/
def chapterCheck (s : State) (txn : Nat) (e : PEntry) : Option (Nat × Nat) :=
  if e.id = 0x0023 ∧ leNat e.val = 1 ∧ ¬ watching s ∧ (txn ≠ 0 ∨ ¬ watchOk s) then some (0x1001, 0)
  else if isTrial e.id ∧ ¬ ((entryWrites e).all fun w => inCal s w.2.1) then some (0x1070, 0)
  else none

/-- The second pass of R66 on one entry, and the chapters' own refusals. -/
def writeCheck (s : State) (expert : Bool) (txn : Nat) (e : PEntry) : Option (Nat × Nat) :=
  (entryCheck s expert txn e).orElse fun _ => chapterCheck s txn e

/-- PARAM_WRITE and PARAM_WRITE_X during frame N. -/
def paramWriteRules (h : Hdr) (expert : Bool) (es : List PEntry) (s : State) : Verdict :=
  let res (i n : Nat) := writeResult 0 i n
  let v : Verdict :=
    if es.isEmpty ∨ 125 < es.length then .refuse 0x1101 (res 0xFF 0)
    else match firstFail (writeCheck s expert h.txn) 0 es with
      | some (d, i, n) => .refuse d (res i n)
      | none =>
        let good := writeResult es.length 0xFF 0
        if h.txn = 0 then .accept 0 (some good) id
        else stageInto h.txn ((es.flatMap entryWrites).map fun w => (0xFF, Action.param w.1 w.2.1 w.2.2)) (res 0xFF 0) good s
  if h.txn = 0 then v else named h.txn v

/-- PARAM_WRITE (R66). -/
def execParamWrite (h : Hdr) (count : Nat) (entries : List PEntry) (s : State) : Outcome State Fault Refusal :=
  ans (hostCmd h 0x0101 (.paramWrite h count entries) (entriesLayout count entries) (entries.all lengthOk)
    (writeResult 0 (firstBad lengthOk entries) 0) (paramWriteRules h false entries) s)

/-- PARAM_WRITE_X (R68). -/
def execParamWriteX (h : Hdr) (count : Nat) (entries : List PEntry) (s : State) : Outcome State Fault Refusal :=
  ans (hostCmd h 0x0181 (.paramWriteX h count entries) (entriesLayout count entries) (entries.all lengthOk)
    (writeResult 0 (firstBad lengthOk entries) 0) (paramWriteRules h true entries) s)

/-- A write takes effect; one that was staged has had its effect already. -/
def applyParamWrite (h : Hdr) (es : List PEntry) (s : State) : State :=
  if h.txn = 0 then applyWrites (es.flatMap entryWrites) s else s

/-! ### PARAM_READ (R64) -/

/-- The bytes an entry takes in a result: four and the padded value. -/
def entrySize (len : Nat) : Nat := 4 + (len + 3) / 4 * 4

/-- The leading entries of a read whose result fits in 1,024 bytes. -/
def fitting : Nat → List PRef → Nat
  | _, [] => 0
  | used, e :: r =>
    let u := used + entrySize ((pinfo e.id).map (·.len) |>.getD 0)
    if u ≤ 1024 then 1 + fitting u r else 0

/-- The check of one entry of a read. -/
def readCheck (e : PRef) : Option (Nat × Nat) := match pinfo e.id with
  | none => some (0x1103, 0)
  | some p => if e.inst < p.insts then none else some (0x1104, 0)

/-- PARAM_READ during frame N. -/
def paramReadRules (es : List PRef) (_ : State) : Verdict :=
  if es.isEmpty ∨ 125 < es.length then no 0x1101
  else match firstFail readCheck 0 es with
    | some (d, i, _) => .refuse d (leBytes 1 i ++ [0, 0, 0])
    | none => if fitting 4 es < es.length then .refuse 0x1106 (leBytes 1 (fitting 4 es) ++ [0, 0, 0]) else done

/-- PARAM_READ (R64). -/
def execParamRead (h : Hdr) (count : Nat) (entries : List PRef) (s : State) : Outcome State Fault Refusal :=
  ans (hostCmd h 0x0100 (.paramRead h count entries) (count == entries.length) true [] (paramReadRules entries) s)

/-- The result of PARAM_READ: its entries in the write format. -/
def paramReadResult (es : List PRef) (s : State) : List Byte :=
  leBytes 1 es.length ++ [0, 0, 0] ++ es.flatMap fun (e : PRef) =>
    let len := (pinfo e.id).map (·.len) |>.getD 0
    leBytes 2 e.id ++ leBytes 1 e.inst ++ leBytes 1 len ++ fit ((len + 3) / 4 * 4) (leBytes len (pget s e.id e.inst))

/-! ### PARAM_INFO and PARAM_LIST (R588) -/

/-- PARAM_INFO (R588). -/
def execParamInfo (h : Hdr) (id : Nat) (s : State) : Outcome State Fault Refusal :=
  ans (hostCmd h 0x0102 (.paramInfo h id) true true [] (fun _ => if (pinfo id).isSome then done else no 0x1103) s)

/-- The PARAM_INFO result (Table CMD-20). -/
def paramInfoResult (id : Nat) : List Byte := match pinfo id with
  | none => []
  | some p =>
    let blob := p.ty = 12 ∨ p.ty = 13
    let lo : Int := if p.ty = 12 then p.len else if p.ty = 13 then 1 else (p.ranges.map (·.1)).foldl min ((p.ranges.map (·.1)).headD 0)
    let hi : Int := if blob then p.len else (p.ranges.map (·.2)).foldl max ((p.ranges.map (·.2)).headD 0)
    let dflt : List Byte :=
      if blob then fit 8 (leBytes p.len p.dflt)
      else if p.ty % 2 = 1 ∧ 3 ≤ p.ty ∧ p.ty ≤ 9 then leInt 8 (signed p.len p.dflt) else leBytes 8 p.dflt
    leBytes 1 p.ty ++ leBytes 1 p.level ++ leBytes 1 p.cls ++ leBytes 1 p.insts ++ textBytes 8 p.unit ++ leInt 8 lo ++ leInt 8 hi
      ++ dflt ++ textBytes 32 p.name

/-- PARAM_LIST (R588). -/
def execParamList (h : Hdr) (area page : Nat) (s : State) : Outcome State Fault Refusal :=
  ans (hostCmd h 0x0103 (.paramList h area page) true true [] (fun _ => done) s)

/-- The PARAM_LIST result (Table CMD-21). -/
def paramListResult (area page : Nat) : List Byte :=
  let l := (areaParams area).map (·.id)
  let p := (l.drop (64 * page)).take 64
  leBytes 1 p.length ++ [0] ++ leBytes 2 l.length ++ p.flatMap (leBytes 2)

/-! ### PARAM_DEFAULT_X (R57) -/

/-- The writes that restore the defaults of an area's immediate-class parameters. -/
def defaultWrites (area : Nat) : List (Nat × Nat × Nat) :=
  ((areaParams area).filter fun p => p.cls == 0).flatMap fun p => (List.range p.insts).map fun i => (p.id, i, pdefault p.id i)

/-- PARAM_DEFAULT_X during frame N: an area without a parameter is no value of the field; a staged instance refuses it
(R69). -/
def paramDefaultRules (area : Nat) (s : State) : Verdict :=
  if (areaParams area).isEmpty then no 0x1101
  else if (defaultWrites area).any fun w => (stagedIn s w.1 w.2.1).isSome then no 0x1003
  else done

/-- PARAM_DEFAULT_X. -/
def execParamDefaultX (h : Hdr) (area : Nat) (s : State) : Outcome State Fault Refusal :=
  ans (hostCmd h 0x0182 (.paramDefaultX h area) true true [] (paramDefaultRules area) s)

end Sys2Proof.Machine
end

