-- ==== Sys2Proof/Machine/Check.lean ====
section
/-! DEFINITION. The check catalogue (chapter 03: R92, Tables TXN-5 and TXN-6, R584, with the checks that R151, R166, R202,
R210, R231 and R423 add to it). -/

namespace Sys2Proof.Machine

/-! ### What a transaction leaves (R92: its own actions taken as already applied) -/

/-- The parameters of a power-limit object and their instance (R197, R586). -/
def limitParams (o : Fin 9) : Nat × Nat × Nat := if o.val = 0 then (0x1050, 0x1051, 0) else (0x1040, 0x1041, o.val - 1)

/-- A contactor taken as switched. -/
def asSwitched (o : Fin 32) (close : Bool) (s : State) : State :=
  modSo o (fun x => { x with driven := close, fb := { x.fb with accepted := close } }) s

/-- The state as an action would leave it, as far as the checks look. -/
def afterAct (a : Action) (s : State) : State := match a with
  | .param id inst v => pset id inst v s
  | .contactor o close => asSwitched o close s
  | .pgSetpoint g mV mA => modPg g (fun p => { p with spMv := mV, spMa := mA }) s
  | .tie t close => modTie t (fun x => { x with cmd := close }) s
  | .aux _ _ _ => s
  | .tariffTable _ => s
  | .powerLimit o imp exp =>
    let l := limitParams o
    pset l.2.1 l.2.2 exp (pset l.1 l.2.2 imp s)

/-- The state as a list of actions would leave it. -/
def afterActs (acts : List Action) (s : State) : State := acts.foldl (fun (s : State) (a : Action) => afterAct a s) s

/-! ### Domains of objects (R584) -/

/-- The outlet served by a 10BASE-T1S port, if any. -/
def mwOf (s : State) (port : Nat) : Option Nat :=
  ((allFin 8).find? fun (k : Fin 8) => outType s k == 4 && pget s 0x1004 k == port).map (·.val)

/-- The domain of a group by R30 and R232, if it serves an outlet. -/
def groupDomain (s : State) (g : Nat) : Option Nat := (pgServes s g).map (·.val)

/-- The domain of a tie, by its number. -/
def tieDom (s : State) (t : Nat) : Option Nat := if h : t < 8 then (tieOutlet s ⟨t, h⟩).map (·.val) else none

/-- The domain of a parameter instance (R584). -/
def paramDomain (s : State) (id inst : Nat) : Option Nat :=
  let area := id / 256
  let n := (pinfo id).map (·.insts) |>.getD 1
  if area = 0x48 then some 8 else if area = 0x50 then some 9 else if area = 0x58 then some 10 else if area = 0x60 then some 11
  else if 0x1800 ≤ id ∧ id ≤ 0x1805 then groupDomain s inst
  else if 0x1810 ≤ id ∧ id ≤ 0x1812 then tieDom s inst
  else if area = 0x20 ∧ n = 2 then mwOf s inst
  else if n = 8 ∧ area ≠ 0x18 then some inst
  else if n = 9 ∧ (area = 0x30 ∨ area = 0x38) ∧ 1 ≤ inst then some (inst - 1)
  else none

/-- The fence domain of an action's object on a state (R584). -/
def actDomain (s : State) (a : Action) : Option Nat := match a with
  | .param id inst _ => paramDomain s id inst
  | .contactor o _ => (soOwner o).map (·.val)
  | .pgSetpoint g _ _ => groupDomain s g
  | .tie t _ => tieDom s t
  | .aux _ _ _ => some 8
  | .tariffTable _ => none
  | .powerLimit o _ _ => if o.val = 0 then none else some (o.val - 1)

/-! ### The checks -/

/-- The index of the first action that fails, among actions with their indices. -/
def firstAct (acts : List (Nat × Action)) (bad : Action → Bool) : Option Nat := (acts.find? fun x => bad x.2).map (·.1)

/-- A failing check. -/
def fails (check detail index : Nat) : CheckResult := { check := check, index := index, cls := detail / 256, detail := detail }

/-- A check that fails with an action. -/
def failsAt (check detail : Nat) (i : Option Nat) : Option CheckResult := i.map (fails check detail)

/-- Whether the configuration of an outlet is outside its type's ranges (R151, Table OUT-1, R269). -/
def outCfgBad (p : State) (k : Nat) : Bool :=
  let ty := outType p k
  let imax := pget p 0x1001 k
  let vmax := pget p 0x1002 k
  let port := pget p 0x1004 k
  let ac := ty == 1 || ty == 2
  let dc := ty == 3 || ty == 4
  (ac && (decide (imax < 6) || decide (80 < imax)))
    || (ty == 3 && (decide (imax < 1) || decide (600 < imax) || decide (vmax < 150) || decide (1000 < vmax)))
    || (ty == 4 && (decide (imax < 1) || decide (3000 < imax) || decide (vmax < 150) || decide (1250 < vmax)))
    || (ty == 4 && decide (1 < port))
    || (ty == 4 && (List.range 8).any fun j => j != k && outType p j == 4 && pget p 0x1004 j == port)
    || (pbool p 0x1003 k && !ac) || (pbool p 0x1006 k && !dc)
    || !kindFits (pget p) (k + 1)

/-- The outlets whose configuration a transaction sets. -/
def cfgTouched (acts : List (Nat × Action)) (k : Nat) : Bool := acts.any fun x => match x.2 with
  | .param id inst _ => decide (0x1000 ≤ id) && decide (id ≤ 0x1007) && inst == k
  | _ => false

/-- Whether a setpoint lies outside its group's profile (check 0x01). A group that is unconfigured takes no part in any
check (R199). -/
def setpointBad (p : State) (g : Fin 16) (mV : Nat) (mA : Int) : Bool := match pgProfile p g with
  | none => false
  | some pr => decide (mV < u32At pr 44) || decide (u32At pr 48 < mV) || decide (mA < s32At pr 52) || decide (s32At pr 56 < mA)

/-- Whether a group's configuration is refused: it serves an outlet outside its segment, or an AC or UNAVAILABLE outlet other
than its home outlet (R202), or its CAN IDs do not fit (R210). -/
def groupCfgBad (p : State) (g : Fin 16) : Bool := match pgProfile p g, pgServes p g, pgBus p g with
  | some pr, some k, some b =>
    !pgReaches p g || (k != b && (isAc p k || p.outlets[k].st == .unavailable))
      || decide ((if u8At pr 20 / 4 % 2 = 1 then 0x1FFFFFFF else 0x7FF) < max (pgSetId p g pr) (pgStatusId p g pr))
  | _, _, _ => false

/-- Whether a tie is enabled without its measurement channels (R202). -/
def tieCfgBad (p : State) (t : Fin 8) : Bool :=
  pbool p 0x1810 t && (pget p 0x1818 t == 0xFF || pget p 0x1818 (t + 1 : Fin 8) == 0xFF || pget p 0x1811 t == 0xFF)

/-- Whether an action's own value is out of range for the configuration (check 0x01). -/
def rangeBad (p : State) (acts : List (Nat × Action)) (a : Action) : Bool := match a with
  | .param id inst _ =>
    (decide (0x1000 ≤ id) && decide (id ≤ 0x1007) && cfgTouched acts inst && outCfgBad p inst) || (isTrial id && !inCal p inst)
      || (decide (0x1800 ≤ id) && decide (id ≤ 0x1804) && (allFin 16).any fun (g : Fin 16) => inst == g.val && groupCfgBad p g)
      || ((id == 0x1810 || id == 0x1811) && (allFin 8).any fun (t : Fin 8) => inst == t.val && tieCfgBad p t)
  | .tie t true => !pbool p 0x1810 t
  | .pgSetpoint g mV mA => setpointBad p g mV mA
  | _ => false

/-- Whether the pool's configuration after a transaction is refused by the transaction as a whole (R202, R210). -/
def poolCfgBad (p : State) : Bool :=
  ((allFin 16).any fun (g : Fin 16) => groupCfgBad p g) || ((allFin 8).any fun (t : Fin 8) => tieCfgBad p t)
    || !(roleClashes (pget p)).isEmpty

/-- Check 0x01: values in range for the configuration. -/
def check01 (p : State) (acts : List (Nat × Action)) : Option CheckResult :=
  (failsAt 0x01 0x1101 (firstAct acts (rangeBad p acts))).orElse fun _ =>
    if poolCfgBad p then some (fails 0x01 0x1101 0xFF) else none

/-- Whether an object is fenced or retired (check 0x02, R584). -/
def objectOut (s p : State) (a : Action) : Bool :=
  (match actDomain p a with
    | some d => fencedDomain s d
    | none => false)
  || (match a with
    | .pgSetpoint g _ _ => objRetired s 1 g
    | .tie t _ => objRetired s 2 t
    | .aux n _ _ => s.aux.ch[n].st == .locked || objRetired s 4 n
    | _ => false)

/-- Whether the service level permits an action (check 0x03, R90). -/
def serviceBars (s : State) (a : Action) : Bool := s.sys.service == .coarse && (match a with
  | .pgSetpoint _ _ _ => true
  | .tie _ _ => true
  | .contactor o _ => (match soOwner o with
    | some k => isDc s k
    | none => true)
  | _ => false)

/-- The transaction other than `num` that holds an object (check 0x04). -/
def holder (s : State) (num : Nat) (a : Action) : Option Nat :=
  (s.txn.txns.find? fun (t : Txn) => t.num != num && t.reserves
    && t.actions.any fun (x : TxnAction) => x.node == 0xFF && x.act.key == a.key).map (·.num)

/-- Check 0x04. -/
def check04 (s : State) (num : Nat) (acts : List (Nat × Action)) : Option CheckResult :=
  (acts.findSome? fun x => (holder s num x.2).map fun n => (x.1, n)).map fun x => { fails 0x04 0x1105 x.1 with other := x.2 }

/-- Whether both main contactors of an outlet close in a transaction. -/
def closesBoth (acts : List (Nat × Action)) (k : Fin 8) : Bool :=
  (acts.any fun x => x.2 == .contactor (soMain1 k) true) && acts.any fun x => x.2 == .contactor (soMain2 k) true

/-- Whether an outlet is UNAVAILABLE or IDLE. -/
def atRest (s : State) (k : Fin 8) : Bool := s.outlets[k].st == .unavailable || s.outlets[k].st == .idle

/-- Whether every outlet of the segment of a bus is at rest, before the transaction and after it (R231). -/
def segmentAtRest (s p : State) (b : Nat) : Bool := (allFin 8).all fun (k : Fin 8) =>
  atRest s k || !(sameSegment (tieJoined s) b k || sameSegment (tieJoined p) b k)

/-- Whether the buses of a group, before and after, are at rest. -/
def groupAtRest (s p : State) (g : Nat) : Bool := [pget s 0x1800 g, pget p 0x1800 g].all fun b => decide (8 ≤ b) || segmentAtRest s p b

/-- Whether a parameter action is refused by the states of check 0x05 (Table OUT-9, R151, R202, R231). -/
def paramBars (s p : State) (id inst : Nat) : Bool :=
  match (if h : inst < 8 then some (⟨inst, h⟩ : Fin 8) else none) with
  | some k =>
    (decide (0x1000 ≤ id) && decide (id ≤ 0x1007) && !atRest s k)
    || ((id == 0x1043 || id == 0x1044) && decide (9 < sessCode s.outlets[k].st))
    || (decide (0x1800 ≤ id) && decide (id ≤ 0x1803) && !groupAtRest s p inst)
    || (id == 0x1804 && p.pool.groups[k.castLE (by omega : 8 ≤ 16)].spMa != 0)
    || (decide (0x1810 ≤ id) && decide (id ≤ 0x1812) && !(segmentAtRest s p inst && segmentAtRest s p ((inst + 1) % 8)))
    || ((id == 0x1818 || id == 0x1819) && !segmentAtRest s p inst)
    || ((id == 0x1820 || id == 0x1821)
        && (allFin 16).any fun (g : Fin 16) => pget p 0x1801 g == inst && p.pool.groups[g].spMa != 0)
  | none =>
    (decide (0x1800 ≤ id) && decide (id ≤ 0x1803) && !groupAtRest s p inst)
    || (id == 0x1804 && (vget? p.pool.groups inst).any fun (g : PowerGroup) => g.spMa != 0)

/-- Whether session and pool states refuse an action (check 0x05). -/
def stateBars (s p : State) (acts : List (Nat × Action)) (a : Action) : Bool := match a with
  | .contactor o close =>
    (match soOwner o with
      | none => false
      | some k =>
        if 16 ≤ o.val then true
        else if close then
          !(pget p 0x1007 k == 1 && s.outlets[k].st == .ready && pilotSeen s k == .c && closesBoth acts k)
        else s.outlets[k].st == .unavailable)
  | .pgSetpoint g _ mA =>
    (match pgProfile p g, pgServes p g with
      | some _, some k =>
        let st := s.outlets[k].st
        !(pget p 0x1007 k == 1
          && (st == .charging || st == .paused || (st == .ready && (mA == 0 || closesBoth acts k))))
      | _, _ => false)
  | .aux n _ _ => (allFin 8).any fun (k : Fin 8) => s.outlets[k].claim.held && pget s 0x1005 k == n.val
  | .param id inst _ => paramBars s p id inst
  | _ => false

/-- Check 0x06: main contactors of a DC or MW outlet close only with the precharge-complete flag. -/
def prechargeBars (s : State) (a : Action) : Bool := match a with
  | .contactor o true => (match soOwner o with
    | some k => decide (o.val < 16) && isDc s k && !s.outlets[k].preFlag
    | none => false)
  | _ => false

/-- Whether an outlet is active after the transaction (check 0x07). -/
def activeAfter (p : State) (k : Fin 8) : Bool := fbClosed p (soMain1 k) && fbClosed p (soMain2 k)

/-- The configured groups that serve active outlets after the transaction: bus, outlet, voltage setpoint. -/
def activeGroups (p : State) : List (Fin 8 × Fin 8 × Nat) :=
  (allFin 16).filterMap fun (g : Fin 16) => match pgProfile p g, pgServes p g, pgBus p g with
    | some _, some k, some b => if activeAfter p k then some (b, k, p.pool.groups[g].spMv) else none
    | _, _, _ => none

/-- The largest difference of the voltage setpoints compared by check 0x07, mV. -/
def setpointSpread (p : State) : Nat :=
  let l := activeGroups p
  ((l.flatMap fun x => (l.filter fun y => y.2.1 != x.2.1 && sameSegment (tieJoined p) x.1 y.1).map fun y =>
    x.2.2 - y.2.2)).foldl max 0

/-- The ties of a transaction, with index: those to be closed, or all. -/
def tieActs (closing : Bool) (acts : List (Nat × Action)) : List (Nat × Fin 8) := acts.filterMap fun x => match x.2 with
  | .tie t close => if closing && !close then none else some (x.1, t)
  | _ => none

/-- A measured value within a limit, or what check 0x08 or 0x09 reports (R227). -/
def tieFinding (v : Option Int) (limit : Int) : Option Int := match v with
  | none => some 0x7FFFFFFF
  | some x => if limit < x ∨ x < -limit then some x else none

/-- Check 0x08 or 0x09 on the ties of a transaction. -/
def tieCheck (check : Nat) (limit : Int) (value : Fin 8 → Option Int) (ts : List (Nat × Fin 8)) : Option CheckResult :=
  (ts.findSome? fun x => (tieFinding (value x.2) limit).map fun v => (x.1, v)).map fun x =>
    { fails check 0x1105 x.1 with measured := x.2 }

/-- The sum of the setpoint powers of the configured groups, µW (check 0x0A). -/
def setpointPower (p : State) : Int :=
  ((allFin 16).map fun (g : Fin 16) =>
    if (pgProfile p g).isSome then (p.pool.groups[g].spMv : Int) * p.pool.groups[g].spMa else 0).foldl (· + ·) 0

/-- Check 0x0A. -/
def check0A (p : State) : Option CheckResult :=
  let x := setpointPower p
  let excess (limit : Nat) (x : Int) : Bool := limit != 4294967295 && decide ((limit : Int) * 1000000 < x)
  if excess (pget p 0x1050 0) x || excess (pget p 0x1051 0) (-x) then
    some { fails 0x0A 0x1105 0xFF with measured := clampI (-2147483648) 2147483647 (x / 1000000) }
  else none

/-- Check 0x0B (R319). -/
def tableBars (s : State) (a : Action) : Bool := match a with
  | .tariffTable slot => auditFree s == 0 || (match (vget? s.onyx.tables slot).getD none with
    | some t => !tableOk t
    | none => true)
  | _ => false

/-- Check 0x0C: a close that Garnet does not grant on the stamps of this frame (R22, R389). -/
def grantBars (s : State) (a : Action) : Bool := match a with
  | .contactor o true => grantCause s o != 0
  | .tie t true => grantCause s (soTie t) != 0
  | _ => false

/-- Check 0x0C on the actions. -/
def check0C (s : State) (acts : List (Nat × Action)) : Option CheckResult := failsAt 0x0C 0x1201 (firstAct acts (grantBars s))

/-- The first failing check of the catalogue, in table order (R92). -/
def catalogue (s : State) (num : Nat) (acts : List (Nat × Action)) : Option CheckResult :=
  let p := afterActs (acts.map (·.2)) s
  (check01 p acts).orElse fun _ =>
  (failsAt 0x02 0x4001 (firstAct acts (objectOut s p))).orElse fun _ =>
  (failsAt 0x03 0x1005 (firstAct acts (serviceBars s))).orElse fun _ =>
  (check04 s num acts).orElse fun _ =>
  (failsAt 0x05 0x1001 (firstAct acts (stateBars s p acts))).orElse fun _ =>
  (failsAt 0x06 0x1105 (firstAct acts (prechargeBars p))).orElse fun _ =>
  (if 0 < setpointSpread p then some { fails 0x07 0x1105 0xFF with measured := setpointSpread p } else none).orElse fun _ =>
  (tieCheck 0x08 10000 (tieVolts s) (tieActs true acts)).orElse fun _ =>
  (tieCheck 0x09 2000 (fun t => s.pool.tieI[t]) (tieActs false acts)).orElse fun _ =>
  (check0A p).orElse fun _ =>
  (failsAt 0x0B 0x1301 (firstAct acts (tableBars s))).orElse fun _ =>
  check0C s acts

/-- A run of the catalogue; code 0 when all pass. -/
def runChecks (s : State) (num : Nat) (acts : List (Nat × Action)) : CheckResult := (catalogue s num acts).getD {}

/-- The check result of Table TXN-6. -/
def CheckResult.bytes (r : CheckResult) : List Byte :=
  leBytes 1 r.check ++ leBytes 1 r.index ++ leBytes 1 r.other ++ [0] ++ leInt 4 r.measured

/-- The modulator input and quantity of a tie's invalid channel: 1 bus voltage, 2 tie current (Table POL-10). -/
def invalidInput (s : State) (check : Nat) (t : Fin 8) : Nat × Nat :=
  if check = 0x09 then (pget s 0x1811 t, 2)
  else if (s.pool.busV[t]).isNone then (pget s 0x1818 t, 1) else (pget s 0x1818 (t + 1 : Fin 8), 1)

/-- POL_MEAS_FAULT for a check that failed on an invalid channel (R227). -/
def measFault (r : CheckResult) (acts : List (Nat × Action)) (s : State) : State :=
  if (r.check = 0x08 ∨ r.check = 0x09) ∧ r.measured = 0x7FFFFFFF then
    match acts.find? fun x => x.1 == r.index with
    | some (_, .tie t _) =>
      let i := invalidInput s r.check t
      ev 0x5A (tieDomain s t) 0 (i.1 % 256 * 256 + i.2) s
    | _ => s
  else s

end Sys2Proof.Machine
end

