-- ==== Sys2Proof/Machine/Txn.lean ====
section
/-! DEFINITION. Transactions (chapter 03): staging and the transaction opcodes, the commit edge, confirmation, rollback in
its two phases, and the rows that feed confirmations (contactor, tie and status feedback). -/

namespace Sys2Proof.Machine

open Host

/-! ### Transactions and their actions -/

/-- The actions of this post, with their indices. -/
def Txn.own (t : Txn) : List (Nat × Action) :=
  t.actions.zipIdx.filterMap fun x => if x.1.node = 0xFF then some (x.2, x.1.act) else none

/-- A transaction's actions changed one by one. -/
def Txn.mapActs (f : TxnAction → TxnAction) (t : Txn) : Txn := { t with actions := t.actions.map f }

/-- The index of the first action with a property, 0xFF for none. -/
def Txn.firstIdx (t : Txn) (p : TxnAction → Bool) : Nat := (t.actions.findIdx? p).getD 0xFF

/-- A transaction event (R117). -/
def txnEv (id detail : Nat) (t : Txn) (idx check other : Nat) (s : State) : State := ev id 12 detail (txnArg t idx check other) s

/-- A transaction changed, if it has not ended. -/
def modTxn (n : Nat) (f : Txn → Txn) (s : State) : State := match findTxn s n with
  | some t => setTxn (f t) s
  | none => s

/-- The numbers of the transactions that have not ended, ascending (R25). -/
def txnNumbers (s : State) : List Nat := sortBy (fun (a b : Nat) => decide (a < b)) (s.txn.txns.map (·.num))

/-- Whether an action moves a contactor or a tie. -/
def Action.isContact : Action → Bool
  | .contactor _ _ => true
  | .tie _ _ => true
  | _ => false

/-- Whether an action has no confirmation window: it is confirmed when applied (Table TXN-4). -/
def Action.atOnce : Action → Bool
  | .param _ _ _ => true
  | .tariffTable _ => true
  | .powerLimit _ _ _ => true
  | _ => false

/-- The confirmation window of an action, frames (Table TXN-4, R116). -/
def windowOf (s : State) (a : Action) : Option Nat := match a with
  | .contactor _ _ => some (pget s 0x0201 0)
  | .tie _ _ => some (pget s 0x0202 0)
  | .pgSetpoint _ _ _ => some (pget s 0x0203 0)
  | .aux _ _ _ => some (pget s 0x0204 0)
  | _ => none

/-- Whether a transaction is the opening of a fence, which its own row applies (R522). -/
def Txn.isFence (t : Txn) : Bool := match t.purpose with
  | .fence _ => true
  | _ => false

/-- Whether an internal transaction's openings are never closed again (R12, R104, R105). -/
def Txn.neverCloses (t : Txn) : Bool := match t.purpose with
  | .openOutlet _ _ => true
  | .precharge _ => true
  | .fence _ => true
  | .powerDown => true
  | .loader _ => true
  | .tieBack _ => true
  | _ => false

/-! ### Applying actions (Table TXN-4) -/

/-- What an action does at step 2, by Garnet. -/
def step2Act (a : Action) (s : State) : State := match a with
  | .contactor o close => if close then soOn o s else soOff o s
  | .tie t close => modTie t (fun x => { x with cmd := close }) (if close then soOn (soTie t) s else soOff (soTie t) s)
  | _ => s

/-- What an action does at step 6; a table is activated for a cause (1 action, 2 undo). AUX actions apply together. -/
def step6Act (host : Bool) (cause : Nat) (a : Action) (s : State) : State := match a with
  | .param id inst v => applyParam id inst v s
  | .pgSetpoint g mV mA => modPg g (fun p => { p with hostSp := p.hostSp || host }) (
      if s.pool.groups[g].valid then pgSet g mV mA true s else pgSet g 0 0 true s)
  | .tariffTable slot => activateTable slot cause s
  | .powerLimit o imp exp =>
    let l := limitParams o
    pset l.2.1 l.2.2 exp (pset l.1 l.2.2 imp s)
  | _ => s

/-- The AUX actions of a list. -/
def auxActs (acts : List Action) : List (Fin 12 × Nat × Nat) := acts.filterMap fun a => match a with
  | .aux n mode duty => some (n, mode, duty)
  | _ => none

/-- A list of actions applied whole: step 2, then step 6 (R97). -/
def applyActs (host : Bool) (cause : Nat) (acts : List Action) (s : State) : State :=
  let s := acts.foldl (fun (s : State) (a : Action) => step2Act a s) s
  let s := acts.foldl (fun (s : State) (a : Action) => step6Act host cause a s) s
  applyAuxes (auxActs acts) s

/-- What follows at step 6 from parameters that have changed (R151, R199). -/
def afterParams (s : State) : State := poolConfig (pilotOutputs (outletsAvail s))

/-- The undo entry of an action: the commanded state of its object (R101). -/
def undoOf (s : State) (a : Action) : Action := match a with
  | .param id inst _ => .param id inst (pget s id inst)
  | .contactor o _ => .contactor o s.garnet.outs[o].driven
  | .pgSetpoint g _ _ => .pgSetpoint g s.pool.groups[g].spMv s.pool.groups[g].spMa
  | .tie t _ => .tie t s.pool.ties[t].cmd
  | .aux n _ _ => .aux n s.aux.ch[n].mode (s.aux.ch[n].newDuty.getD s.aux.ch[n].duty)
  | .tariffTable _ => .tariffTable (pget s 0x3805 0)
  | .powerLimit o _ _ =>
    let l := limitParams o
    .powerLimit o (pget s l.1 l.2.2) (pget s l.2.1 l.2.2)

/-! ### What the end of a transaction does to the function that built it -/

/-- The safe output of a transaction's first unconfirmed contactor (OUT_CTR_FAIL). -/
def firstContactor (t : Txn) : Nat :=
  ((t.actions.find? fun (x : TxnAction) => !x.confirmed && (match x.act with
    | .contactor _ _ => true
    | _ => false)).map fun (x : TxnAction) => x.act.key.2).getD 0

/-- OUT_CTR_FAIL of a precharge contactor, and the stop it causes (R198, Table OUT-6). -/
def prechargeFail (k : Fin 8) (detail so : Nat) (s : State) : State := ev 0x42 k detail so (stopSession k 0x09 0 s)

/-- A transaction that failed: refused, rolled back or undone in part. `outcome` is a move's, `check` its check code. -/
def purposeFailed (t : Txn) (detail outcome check : Nat) (s : State) : State := match t.purpose with
  | .energise k => energiseEnd k false detail (firstContactor t) s
  | .precharge k => prechargeFail k detail (firstContactor t) s
  | .move m => moveEnd m outcome check s
  | _ => s

/-- A transaction that was confirmed. -/
def purposeDone (t : Txn) (s : State) : State := match t.purpose with
  | .energise k => energiseEnd k true 0 0 s
  | .move m => (match s.pool.moves[m] with
    | some mv => moveEnter m (if mv.phase = .tieOpen then 3 else 5) s
    | none => s)
  | _ => s

/-- The main contactor whose window expired on closing in a host transaction (Table FLT-4, OUT_CTR_FAIL). -/
def hostCtrFail (t : Txn) (detail : Nat) (s : State) : State :=
  if ¬ t.isHost then s
  else match t.actions.find? fun (x : TxnAction) => !x.confirmed && expired x.window t.expiryE && (match x.act with
      | .contactor o true => decide (o.val < 16)
      | _ => false) with
    | some x => (match soOwner x.act.key.2 with
      | some k => ev 0x42 k detail x.act.key.2 s
      | none => s)
    | none => s

/-! ### The commit edge (R96, R97) -/

/-- The final check of a transaction; an internal one is refused only by Garnet (R107). -/
def finalRun (t : Txn) (s : State) : CheckResult :=
  if t.isHost then runChecks s t.num t.own else (check0C s t.own).getD {}

/-- The final check run during frame F − 1. -/
def finalCheck (n : Nat) (s : State) : State := match findTxn s n with
  | some t =>
    let r := finalRun t s
    measFault r t.own (setTxn { t with finalCheck := some r } s)
  | none => s

/-- Whether a final check is due in this frame. -/
def finalDue (s : State) (t : Txn) : Bool :=
  t.state == .pending && t.commitFrame == some (frameAfter s.frame 1) && t.finalCheck.isNone

/-- FINAL_CHECK (R96). -/
def execFinalCheck (n : Nat) (s : State) : Outcome State Fault Refusal := match findTxn s n with
  | some t => if finalDue s t then ans (finalCheck n s) else ans s
  | none => ans s

/-- The final checks still due when the frame ends. -/
def finalChecks (s : State) : State :=
  (txnNumbers s).foldl (fun (s : State) (n : Nat) => match findTxn s n with
    | some t => if finalDue s t then finalCheck n s else s
    | none => s) s

/-- A transaction refused at its commit edge (R96): nothing is applied. -/
def refuseTxn (t : Txn) (r : CheckResult) (s : State) : State :=
  let so := ((t.actions[r.index]?).map fun (x : TxnAction) => x.act.key.2).getD 0
  let s := txnEv 0x12 r.detail t r.index r.check r.other (dropTxn t .refused s)
  match t.purpose with
  | .energise k => energiseEnd k false r.detail so s
  | .precharge k => prechargeFail k r.detail so s
  | _ => purposeFailed t r.detail 2 r.check s

/-- Whether a transaction's commit edge has come. -/
def commitDue (s : State) (t : Txn) : Bool := t.state == .pending && expired t.commitFrame s.frame && !t.isFence

/-- The transactions whose final check failed end at frame F. -/
def refuseDue (s : State) : State :=
  (txnNumbers s).foldl (fun (s : State) (n : Nat) => match findTxn s n with
    | some t => (match t.finalCheck with
      | some r => if commitDue s t && r.check != 0 then refuseTxn t r s else s
      | none => s)
    | none => s) s

/-- A host transaction that closes both main contactors of an outlet in host-driven mode is its energise transaction: the
outlet enters ENERGISING at the commit edge (Table OUT-6, R166). -/
def hostEnergise (t : Txn) (s : State) : State :=
  if ¬ t.isHost then s
  else (allFin 8).foldl (fun (s : State) (k : Fin 8) =>
    if closesBoth t.own k ∧ s.outlets[k].st = .ready ∧ ¬ deviceDriven s k then
      enterState k { dest := .energising, frame := s.frame } s else s) s

/-- POL_TIE_DROP and the groups across the tie at 0 mA (R225), with the outlet that the tie carried power to before. -/
def tieBackDone (t : Txn) (before s : State) : State := match t.purpose with
  | .tieBack x =>
    let s := (tieGroups before x).foldl (fun (s : State) (g : Fin 16) => pgSet g s.pool.groups[g].spMv 0 true s) s
    ev 0x58 (tieDomain before x) 0 x s
  | _ => s

/-- Whether every action of a transaction is confirmed. -/
def Txn.allConfirmed (t : Txn) : Bool := t.actions.all fun (x : TxnAction) => x.confirmed

/-- A transaction whose actions are all confirmed ends (R101). -/
def endConfirmed (n : Nat) (s : State) : State := match findTxn s n with
  | some t =>
    if t.state = .applying ∧ ¬ t.forced ∧ t.allConfirmed then
      let s := dropTxn t .confirmed s
      purposeDone t (if t.isHost then txnEv 0x11 0 t 0xFF 0 0 s else s)
    else s
  | none => s

/-- A transaction applied whole at its commit edge (R97, R100): windows start, the undo set is kept. -/
def commitTxn (t : Txn) (s : State) : State :=
  let f := s.frame
  let acts := t.own.map (·.2)
  let undo (x : TxnAction) : TxnAction := { x with undo := some (undoOf s x.act) }
  let s' := applyActs t.isHost 1 acts s
  let window (x : TxnAction) : TxnAction :=
    { x with since := f, window := (windowOf s' x.act).map (f + ·), confirmed := x.act.atOnce || x.node != 0xFF }
  let s' := setTxn { (t.mapActs undo).mapActs window with state := .applying } s'
  let s' := if t.isHost then txnEv 0x10 0 t 0xFF 0 0 s' else s'
  endConfirmed t.num (tieBackDone t s (afterParams (hostEnergise t s')))

/-- TXN_COMMITTED (R97): the commit edge of a transaction that passed its final check; at or after a power-fail frame a host
transaction is aborted instead (Table ARC-4). -/
def execTxnCommitted (n : Nat) (s : State) : Outcome State Fault Refusal := match findTxn s n with
  | some t =>
    if ¬ commitDue s t then ans s
    else if powerFailed s then
      ans (if t.isHost then txnEv 0x16 0x4002 t 0xFF 0 0 (leaveBook t (dropTxn t .aborted s)) else s)
    else if (t.finalCheck.map (·.check)) = some 0 then ans (commitTxn t s) else ans s
  | none => ans s

/-! ### Confirmation (R100, R101) -/

/-- Whether an action applied in frame `since` is stamped as commanded, in time (R100). -/
def actSeen (s : State) (a : Action) (since limit : Nat) : Bool :=
  decide (since < s.frame) && decide (s.frame ≤ limit) && (match a with
    | .contactor o close => fbClosed s o == close
    | .tie t close => s.pool.ties[t].fb == close
    | .pgSetpoint g mV mA => pgConfirms s g mV mA since
    | .aux n mode _ => auxConfirms s n mode
    | _ => true)

/-- The action that reverses one: setpoints go to 0 mA with the previous voltage (R103). -/
def reversalOf (x : TxnAction) : Option Action := x.undo.map fun u => match u with
  | .pgSetpoint g mV _ => .pgSetpoint g mV 0
  | u => u

/-- Whether a reversal has settled (R105). -/
def Reversal.settled : Reversal → Bool
  | .confirmed => true
  | .left => true
  | .unreversed => true
  | _ => false

/-- The current setpoints of a transaction wait for frame `f` from now on (R103). -/
def restoreFrom (n f : Nat) (s : State) : State :=
  { s with txn := { s.txn with restores := s.txn.restores.map fun (r : Restore) =>
      if r.num = n ∧ r.at_.isNone then { r with at_ := some f } else r } }

/-- The fence domains that hold an unreversed object, ascending (R105, R584). -/
def unreversedDomains (t : Txn) (s : State) : List (Fin 12) :=
  (allFin 12).filter fun (d : Fin 12) => t.actions.any fun (x : TxnAction) =>
    x.reversal == .unreversed && actDomain s ((reversalOf x).getD x.act) == some d.val

/-- The end of a rollback (R105, R106). -/
def endRollback (t : Txn) (s : State) : State :=
  let i := t.firstIdx fun (x : TxnAction) => x.reversal == .unreversed
  let under := if t.underLoad then 0x4010 else 0
  if i = 0xFF then
    let s := txnEv 0x14 under t 0xFF 0 0 (dropTxn t .rolledBack s)
    hostCtrFail t under (purposeFailed t under 3 0 s)
  else
    let s := txnEv 0x15 0 t i 0 0 (dropTxn t .undoIncomplete s)
    let s := (unreversedDomains t s).foldl (fun (s : State) (d : Fin 12) => noteFault d 0x15 false true false s) s
    let s : State := { s with txn := { s.txn with restores := s.txn.restores.filter fun (r : Restore) => r.num != t.num } }
    hostCtrFail t under (purposeFailed t under 4 0 s)

/-- A rollback whose reversals have settled: the wait of its current setpoints, and its end (R103, R105). -/
def settleTxn (n : Nat) (s : State) : State := match findTxn s n with
  | some t =>
    if t.state = .rollingBack ∧ t.phase1 then
      let s := if t.actions.all fun (x : TxnAction) => !x.act.isContact || x.reversal.settled then
          restoreFrom n (frameAfter s.frame 1) s else s
      if t.actions.all fun (x : TxnAction) => x.reversal.settled then endRollback t s else s
    else s
  | none => s

/-- The confirmations of one transaction by the stamps so far. -/
def confirmTxn (n : Nat) (s : State) : State := match findTxn s n with
  | none => s
  | some t =>
    match t.state with
    | .applying =>
      endConfirmed n (setTxn (t.mapActs fun (x : TxnAction) => match x.window with
        | some w => if actSeen s x.act x.since w then { x with confirmed := true } else x
        | none => x) s)
    | .rollingBack =>
      settleTxn n (setTxn (t.mapActs fun (x : TxnAction) => match x.reversal, reversalOf x with
        | .driven e, some r => if actSeen s r x.since e then { x with reversal := .confirmed } else x
        | _, _ => x) s)
    | _ => s

/-- The confirmations of every transaction. -/
def confirmAll (s : State) : State := (txnNumbers s).foldl (fun (s : State) (n : Nat) => confirmTxn n s) s

/-! ### Rollback (R102 to R106) -/

/-- Whether another internal transaction holds an action's object: its actions take precedence (R108). -/
def heldInside (s : State) (n : Nat) (a : Action) : Bool := s.txn.txns.any fun (t : Txn) =>
  t.num != n && !t.isHost && t.reserves && t.actions.any fun (x : TxnAction) => x.act.key == a.key

/-- What a contactor or a tie that has not followed within its window reveals: a weld (R188), a tie at fault (R226). -/
def missedFinding (a : Action) (s : State) : State := match a with
  | .contactor o close =>
    if ¬ close ∧ fbClosed s o ∧ o.val < 16 then (match soOwner o with
      | some k => weldFound k (o.val % 2 + 1) s
      | none => s)
    else s
  | .tie t close =>
    let s := tieFail t close s
    if ¬ close ∧ s.pool.ties[t].fb then tieWeld t s else s
  | _ => s

/-- Whether an action's window has expired without its confirmation. -/
def TxnAction.missed (x : TxnAction) (frame : Nat) : Bool := !x.confirmed && expired x.window frame

/-- A transaction becomes ROLLING_BACK in this frame, frame E (R102). -/
def startRollback (t : Txn) (s : State) : State :=
  let e := s.frame
  let i := t.firstIdx fun (x : TxnAction) => x.missed e
  let j := t.firstIdx fun (x : TxnAction) => heldInside s t.num x.act
  let s := txnEv 0x13 0 t (if i = 0xFF then j else i) 0 0 (setTxn { t with state := .rollingBack, expiryE := e } s)
  (t.actions.filter fun (x : TxnAction) => x.missed e).foldl (fun (s : State) (x : TxnAction) => missedFinding x.act s) s

/-- Whether a rollback begins in this frame: a window expired, or a fence or a session forces it (R102, R108). -/
def rollbackDue (s : State) (t : Txn) : Bool :=
  t.state == .applying && (t.forced || t.actions.any fun (x : TxnAction) => x.missed s.frame)

/-- TXN_ROLLBACK (R102). A confirmation stamped in the frame of expiry counts before it. -/
def execTxnRollback (n : Nat) (s : State) : Outcome State Fault Refusal :=
  let s' := confirmTxn n s
  match findTxn s' n with
  | some t => if rollbackDue s' t then ans (startRollback t s') else ans s'
  | none => ans s'

/-- The rollbacks that the session jobs of this frame force (Table OUT-8). -/
def forcedRollbacks (s : State) : State :=
  (txnNumbers s).foldl (fun (s : State) (n : Nat) => match findTxn s n with
    | some t => if t.state == .applying && t.forced then startRollback t s else s
    | none => s) s

/-- Whether an AUX or contact action that was missed is left off: its reversal would drive the output on (R104). -/
def leftOff (t : Txn) (x : TxnAction) : Bool := x.missed t.expiryE && (match x.undo with
  | some (.contactor _ on) => on
  | some (.tie _ on) => on
  | some (.aux _ mode _) => mode != 0
  | _ => false)

/-- Whether a reversal would close a contactor again that is not to be closed: an internal opening, or a session that has
gone on. -/
def neverAgain (s : State) (t : Txn) (x : TxnAction) : Bool := match x.undo, t.purpose with
  | some (.contactor _ true), .energise k => s.outlets[k].st != .energising
  | some (.contactor _ true), _ => t.neverCloses
  | some (.tie _ true), _ => t.neverCloses
  | _, _ => false

/-- The reversal of one action in phase 1 (R103, R104). -/
def phase1Act (t : Txn) (s : State) (x : TxnAction) : TxnAction :=
  if heldInside s t.num x.act || leftOff t x || neverAgain s t x then { x with reversal := .left }
  else if x.act.isContact then
    (if x.undo = some x.act then { x with reversal := .left } else { x with reversal := .waiting })
  else if x.act.atOnce then { x with reversal := .confirmed }
  else { x with reversal := .driven (s.frame + (windowOf s x.act).getD 0), since := s.frame }

/-- The current setpoints to restore after a rollback: of groups reversed whose own window did not expire (R103, R104). -/
def restoreList (t : Txn) : List (Fin 16 × Int) := t.actions.filterMap fun (x : TxnAction) => match x.undo, x.reversal with
  | some (.pgSetpoint g _ mA), .driven _ => if mA = 0 ∨ x.missed t.expiryE then none else some (g, mA)
  | _, _ => none

/-- The groups of a move go to 0 V and 0 mA with its rollback (R223, Table POL-11). -/
def moveZero (t : Txn) (s : State) : State := match t.purpose with
  | .move m => (match s.pool.moves[m] with
    | some mv => mv.groups.foldl (fun (s : State) (g : Fin 16) => pgSet g 0 0 true s) s
    | none => s)
  | _ => s

/-- Phase 1 of a rollback at step 6 of frame E + 1 (R103). -/
def phase1 (t : Txn) (s : State) : State :=
  let t' := { t.mapActs (phase1Act t s) with phase1 := true }
  let acts := t'.actions.filterMap fun (x : TxnAction) =>
    if x.act.isContact || x.reversal == .left then none else reversalOf x
  let wait := t'.actions.any fun (x : TxnAction) => x.reversal == .waiting
  let sps := restoreList t'
  let r : Restore := { num := t.num, at_ := if wait then none else some (frameAfter t.expiryE 2), sps := sps }
  let s := applyActs false 2 acts (setTxn t' s)
  let s : State := { s with txn := { s.txn with restores := if sps.isEmpty then s.txn.restores else s.txn.restores ++ [r] } }
  settleTxn t.num (afterParams (moveZero t s))

/-- ROLLBACK_PHASE_1 (R103). -/
def execRollbackPhase1 (n : Nat) (s : State) : Outcome State Fault Refusal := match findTxn s n with
  | some t => if t.state = .rollingBack ∧ ¬ t.phase1 ∧ t.expiryE < s.frame then ans (phase1 t s) else ans s
  | none => ans s

/-- Whether a contactor or tie of a transaction waits for phase 2: a reversal, or an opening of a fence (R103, R522). -/
def waits (t : Txn) (x : TxnAction) : Bool :=
  if t.isFence && t.state == .applying then x.act.isContact && !x.confirmed && x.window.isNone else x.reversal == .waiting

/-- Whether the stamps show at most 2 A through a contactor or a tie; none when the value is invalid (R103, R227). -/
def contactLow (s : State) (a : Action) : Option Bool := match a with
  | .contactor o _ => (match soOwner o with
    | some k => if s.outlets[k].meas.ok then some (lowCurrent s k) else none
    | none => none)
  | .tie t _ => (s.pool.tieI[t]).map fun i => decide (i.natAbs ≤ 2000)
  | _ => some true

/-- The reversals that Garnet refuses on the stamps of this frame stay off and have settled unreversed (R105). -/
def refuseClosings (s : State) (t : Txn) : Txn := t.mapActs fun (x : TxnAction) =>
  if t.state == .rollingBack && x.reversal == .waiting && grantBars s ((reversalOf x).getD x.act) then { x with reversal := .unreversed } else x

/-- Phase 2 decided in a frame for the edge of the next (R22, R103). -/
def phase2Decide (n : Nat) (s : State) : State := match findTxn s n with
  | some t =>
    let w := t.actions.filter fun (x : TxnAction) => waits t x
    let ready := (t.state == .rollingBack || t.state == .applying) && t.phase1 && t.phase2.isNone && !w.isEmpty && decide (t.expiryE < s.frame)
    if ¬ ready then s
    else
      let low := w.all fun (x : TxnAction) => contactLow s x.act == some true
      let excess := w.any fun (x : TxnAction) => contactLow s x.act == some false
      if low ∨ t.expiryE + 1 + pget s 0x0205 0 ≤ s.frame + 1 then
        settleTxn n (setTxn { refuseClosings s t with phase2 := some (frameAfter s.frame 1), underLoad := excess } s)
      else s
  | none => s

/-- The phase-2 decisions of a frame. -/
def phase2Slot (s : State) : State := (txnNumbers s).foldl (fun (s : State) (n : Nat) => phase2Decide n s) s

/-- One opening or reversal of phase 2 with the window it starts. -/
def phase2Act (t : Txn) (s : State) (x : TxnAction) : TxnAction :=
  if ¬ waits t x then x
  else
    let e := s.frame + (windowOf s x.act).getD 0
    if t.isFence && t.state == .applying then { x with window := some e, since := s.frame }
    else { x with reversal := .driven e, since := s.frame }

/-- ROLLBACK_PHASE_2 (R103): Garnet drives the contactor and tie reversals, and the openings of a fence. -/
def execRollbackPhase2 (n : Nat) (s : State) : Outcome State Fault Refusal := match findTxn s n with
  | some t =>
    if expired t.phase2 s.frame then
      let acts := t.actions.filterMap fun (x : TxnAction) =>
        if ¬ waits t x then none else if t.isFence && t.state == .applying then some x.act else reversalOf x
      ans (acts.foldl (fun (s : State) (a : Action) => step2Act a s) (setTxn (t.mapActs (phase2Act t s)) s))
    else ans s
  | none => ans s

/-- The reversals whose windows end in this frame unconfirmed (R105). -/
def settleExpired (s : State) : State :=
  (txnNumbers s).foldl (fun (s : State) (n : Nat) => match findTxn s n with
    | some t =>
      let gone (x : TxnAction) : Bool := match x.reversal with
        | .driven e => decide (e ≤ s.frame)
        | _ => false
      if t.state == .rollingBack && t.actions.any gone then
        let s' := setTxn (t.mapActs fun (x : TxnAction) => if gone x then { x with reversal := .unreversed } else x) s
        settleTxn n ((t.actions.filter gone).foldl
          (fun (s : State) (x : TxnAction) => missedFinding ((reversalOf x).getD x.act) s) s')
      else s
    | none => s) s

/-- Whether a group's current setpoint may come back: its outlet has not stopped, the group has not failed, and no other
transaction holds it. -/
def mayRestore (s : State) (n : Nat) (g : Fin 16) : Bool :=
  s.pool.groups[g].st != .failed && (holder s n (.pgSetpoint g 0 0)).isNone && (match pgServes s g with
    | some k => decide (7 ≤ sessCode s.outlets[k].st) && decide (sessCode s.outlets[k].st ≤ 12)
    | none => false)

/-- SETPOINT_CURRENT_RESTORE (R103). -/
def execSetpointCurrentRestore (n : Nat) (s : State) : Outcome State Fault Refusal :=
  match s.txn.restores.find? fun (r : Restore) => r.num == n && expired r.at_ s.frame with
  | some r =>
    let s' : State := { s with txn := { s.txn with restores := s.txn.restores.erase r } }
    ans (r.sps.foldl (fun (s : State) (x : Fin 16 × Int) =>
      if mayRestore s n x.1 then pgSet x.1 s.pool.groups[x.1].spMv x.2 true s else s) s')
  | none => ans s

/-! ### Feedback (R207, R225, R226, R387, R388) -/

/-- A main contactor whose feedback is closed although it was commanded open and its window is over is a weld (R188). -/
def contactorWeld (o : Fin 32) (s : State) : State :=
  match s.garnet.outs[o].offAt with
  | some f => if f + pget s 0x0201 0 ≤ s.frame ∧ ¬ s.garnet.outs[o].driven then missedFinding (.contactor o false) s else s
  | none => s

/-- CONTACTOR_FEEDBACK (R387, R388). -/
def execContactorFeedback (so : Fin 32) (s : State) : Outcome State Fault Refusal :=
  if so.val < 24 then ans (confirmAll (contactorWeld so (contactFault so (acceptFeedback so s)))) else ans s

/-- Whether a confirmation window of a tie is running (R225), or its own expired window has started the rollback that is
to open it (Table POL-11). -/
def tieWindow (s : State) (t : Fin 8) : Bool := s.txn.txns.any fun (x : Txn) => x.actions.any fun (a : TxnAction) =>
  a.act.key == (3, t.val) && ((x.state == .applying && !a.confirmed && a.window.isSome) || (match a.reversal with
    | .driven _ => true
    | .waiting => !a.confirmed
    | .notDue => x.state == .rollingBack && !a.confirmed
    | _ => false))

/-- What a tie's feedback reveals outside its windows: a drop (R225) or a weld (R226). -/
def tieFinding2 (t : Fin 8) (s : State) : State :=
  let x := s.pool.ties[t]
  if tieWindow s t then s
  else if x.cmd ∧ ¬ x.fb then tieDrop t s
  else if x.fb ∧ ¬ x.cmd then (match s.garnet.outs[soTie t].offAt with
    | some f => if f + pget s 0x0202 0 ≤ s.frame then tieWeld t s else s
    | none => s)
  else s

/-- TIE_FEEDBACK (R225, R226, R387). -/
def execTieFeedback (t : Fin 8) (s : State) : Outcome State Fault Refusal :=
  ans (tieFinding2 t (confirmAll (contactFault (soTie t) (acceptFeedback (soTie t) s))))

/-- The connection device whose drive sends a status frame (R397). -/
def statusDevice (s : State) (port : Fin 2) (id : Nat) (data : List Byte) : Option (Fin 2 × List Byte) :=
  (allFin 2).findSome? fun (c : Fin 2) => match cdProfile s c with
    | some p =>
      if (cdOutlet s c).isSome ∧ pget s 0x401C c = port.val ∧ u32At p 32 + pget s 0x401E c * u16At p 28 = id ∧ data.length = u8At p 30
      then some (c, p) else none
    | none => none

/-- STATUS_FRAME_RECEIVED (R207): a status frame stamped for its group or device; frames that match none are counted. -/
def execStatusFrameReceived (port : Fin 2) (id : Nat) (data : List Byte) (s : State) : Outcome State Fault Refusal :=
  if ¬ portOn s port ∨ s.sys.vioLow then ans s
  else match statusGroup s port id data with
    | some g => (match pgProfile s g with
      | some p => ans (confirmAll (stampStatus g p data s))
      | none => ans s)
    | none => match statusDevice s port id data with
      | some (c, p) => ans (brakeStatus c (fieldInt (profField p 3) data) (fieldInt (profField p 4) data) s)
      | none => ans (modPort port (fun x => { x with unmatched := satInc x.unmatched }) s)

end Sys2Proof.Machine
end

