-- ==== Sys2Proof/Machine/TxnCmd.lean ====
section
/-! DEFINITION. The transaction opcodes (chapter 03: R83 to R99) and site transactions, as coordinator and as participant
(R111 to R115). -/

namespace Sys2Proof.Machine

open Host

/-! ### TXN_OPEN (R83) -/

/-- The host transactions that are open. -/
def hostTxns (s : State) : List Txn := s.txn.txns.filter fun (t : Txn) => t.isHost

/-- The number after one, wrapping from 239 to 1. -/
def nextNumber (n : Nat) : Nat := if 239 ≤ n then 1 else n + 1

/-- The next number not in use, after the last one allocated; books of ended site transactions keep theirs (R113). -/
def freeNumber (s : State) : Nat → Nat → Nat
  | 0, n => n
  | fuel + 1, n => if (s.txn.txns ++ s.txn.books).any fun (t : Txn) => t.num == n then freeNumber s fuel (nextNumber n) else n

/-- TXN_OPEN during frame N. -/
def txnOpenRules (s : State) : Verdict :=
  let open_ := (hostTxns s).length
  if 8 ≤ open_ then no 0x2040
  else
    let n := freeNumber s 239 (nextNumber s.txn.lastNum)
    .accept 0 (some (leBytes 1 n ++ leBytes 1 (open_ + 1) ++ [0, 0])) fun (s : State) =>
      { s with txn := { s.txn with lastNum := n, txns := s.txn.txns ++ [{ num := n, lastNamed := s.frame }] } }

/-- TXN_OPEN (R83). -/
def execTxnOpen (h : Hdr) (s : State) : Outcome State Fault Refusal :=
  ans (hostCmd h 0x0200 (.txnOpen h) true true [] txnOpenRules s)

/-! ### TXN_STAGE (R87 to R90, Tables TXN-3 and TXN-4) -/

/-- The parameter entry of an action record. -/
def actEntry (a : ActRec) : PEntry := { id := u16At a.value 0, inst := u8At a.value 2, len := u8At a.value 3,
                                        val := (a.value.drop 4).take (u8At a.value 3) }

/-- Whether the value length of a parameter record is that of its type (R37). -/
def actLengthOk (a : ActRec) : Bool := a.type != 0 || lengthOk (actEntry a)

/-- The action that a record of this post stands for, once its values are in range; a tie's safe output stands for the tie.
An instance of 0xFF stands for every instance (R65). -/
def actOf (a : ActRec) : List Action :=
  let v := a.value
  let close := u8At v 0 == 1
  match a.type with
  | 0 => (entryWrites (actEntry a)).map fun w => Action.param w.1 w.2.1 w.2.2
  | 1 => if h : a.object < 32 then (match soIsTie a.object with
      | some t => [.tie t close]
      | none => [.contactor ⟨a.object, h⟩ close]) else []
  | 2 => if h : a.object < 16 then [.pgSetpoint ⟨a.object, h⟩ (u32At v 0) (s32At v 4)] else []
  | 3 => if h : a.object < 8 then [.tie ⟨a.object, h⟩ close] else []
  | 4 => if h : a.object < 12 then [.aux ⟨a.object, h⟩ (u8At v 0) (u16At v 2)] else []
  | 5 => [.tariffTable a.object]
  | _ => if h : a.object < 9 then [.powerLimit ⟨a.object, h⟩ (u32At v 0) (u32At v 4)] else []

/-- Whether limits are in the range of a power-limit object (R197, R586). -/
def limitInRange (object imp exp : Nat) : Bool := object == 0 || (decide (imp ≤ 3750000) && decide (exp ≤ 3750000))

/-- The class 0x11 checks of a record alone (R89): object, then value. -/
def recordCheck (s : State) (txn : Nat) (here : Bool) (a : ActRec) : Option Nat :=
  let v := a.value
  let objects := match a.type with
    | 0 => 1
    | 1 => 32
    | 2 => 16
    | 3 => 8
    | 4 => 12
    | 5 => 4
    | _ => 9
  if 6 < a.type then some 0x1101
  else if objects ≤ a.object then some 0x1104
  else match a.type with
    | 0 => (match (if here then writeCheck s false txn (actEntry a) else entryCheck s false txn (actEntry a)) with
      | some x => some x.1
      | none => if 8 < (actEntry a).len then some 0x1101 else none)
    | 1 => if 1 < u8At v 0 then some 0x1101 else none
    | 2 => if 1250000 < u32At v 0 then some 0x1101 else none
    | 3 => if 1 < u8At v 0 then some 0x1101 else none
    | 4 => if 2 < u8At v 0 ∨ (u8At v 0 = 2 ∧ (u16At v 2 < 10 ∨ 1000 < u16At v 2)) then some 0x1101 else none
    | 5 => none
    | _ => if limitInRange a.object (u32At v 0) (u32At v 4) then none else some 0x1101

/-- Whether a record names this post (R111). -/
def actHere (s : State) (a : ActRec) : Bool := a.node == 0xFF || a.node == ownAddr s

/-- The check of a remote node (R111): known, and a profile that runs site transactions; parameters and limits only. -/
def nodeCheck (s : State) (a : ActRec) : Option Nat :=
  if actHere s a then none
  else if (a.type = 0 ∨ a.type = 6) ∧ (findNode s a.node).isSome ∧ s.slk.running = 2 then none else some 0x1142

/-- The checks of a record in the order record, node, service level. -/
def stageCheck (s : State) (txn : Nat) (a : ActRec) : Option (Nat × Nat) :=
  ((recordCheck s txn (actHere s a) a).orElse fun _ => (nodeCheck s a).orElse fun _ =>
    if actHere s a ∧ (actOf a).any (serviceBars s) then some 0x1005 else none).map fun d => (d, 0)

/-- The result of TXN_STAGE: records staged, index of the first failing record. -/
def stageResult (staged index : Nat) : List Byte := leBytes 1 staged ++ leBytes 1 index

/-- TXN_STAGE during frame N. -/
def txnStageRules (h : Hdr) (acts : List ActRec) (s : State) : Verdict :=
  let v : Verdict :=
    if h.txn = 0 then .refuse 0x1002 (stageResult 0 0xFF)
    else if acts.isEmpty ∨ 63 < acts.length then .refuse 0x1101 (stageResult 0 0xFF)
    else match firstFail (stageCheck s h.txn) 0 acts with
      | some (d, i, _) => .refuse d (stageResult 0 i)
      | none =>
        stageInto h.txn (acts.flatMap fun (a : ActRec) => (actOf a).map fun (x : Action) => ((if actHere s a then 0xFF else a.node), x))
          (stageResult 0 0xFF) (stageResult acts.length 0xFF) s
  named h.txn v

/-- TXN_STAGE (R87). -/
def execTxnStage (h : Hdr) (count : Nat) (acts : List ActRec) (s : State) : Outcome State Fault Refusal :=
  ans (hostCmd h 0x0201 (.txnStage h count acts) (count == acts.length && acts.all fun (a : ActRec) => a.value.length == 12)
    (acts.all actLengthOk) (stageResult 0 (firstBad actLengthOk acts)) (txnStageRules h acts) s)

/-! ### TXN_CHECK and TXN_COMMIT (R93 to R95, R112) -/

/-- A transaction's state, and the event of a check that met an invalid channel. -/
def toState (n : Nat) (st : TxnState) (s : State) : State := modTxn n (fun (t : Txn) => { t with state := st }) s

/-- TXN_CHECK during frame N (R93). -/
def txnCheckRules (n : Nat) (s : State) : Verdict := match findTxn s n with
  | none => no 0x1002
  | some t =>
    if ¬ stageable t then no 0x1001
    else
      let r := runChecks s n t.own
      if r.check = 0 then .accept 0 (some r.bytes) (toState n .checked)
      else .reject r.detail r.bytes fun (s : State) => measFault r t.own (toState n .open s)

/-- TXN_CHECK (R93). -/
def execTxnCheck (h : Hdr) (s : State) : Outcome State Fault Refusal :=
  ans (hostCmd h 0x0202 (.txnCheck h) true true [] (fun s => named h.txn (txnCheckRules h.txn s)) s)

/-- The commit frame of a transaction of this post (R94), or the detail of its refusal. -/
def commitFrameOf (s : State) (h : Hdr) (mode frame : Nat) : Sum Nat Nat :=
  if mode = 0 then .inr (frameAfter s.frame 1) else statedFrame s h frame

/-- The conditions of R112 on a site transaction. -/
def siteBars (s : State) (h : Hdr) (mode frame : Nat) : Option Nat :=
  if mode ≠ 1 ∨ ¬ h.flags.getLsbD 5 then some 0x1101
  else if fencedDomain s 9 then some 0x4001
  else if (s.slk.align ≠ .aligned ∧ s.slk.align ≠ .root) ∨ ¬ pbool s 0x0206 0 then some 0x1001
  else match siteNow s with
    | some n => if n + 8000 ≤ frame ∧ frame ≤ n + 4800000 then none else some 0x1141
    | none => some 0x1001

/-- An action as a record of PREPARE; only parameters and limits are sent (R111). -/
def actRecBytes (x : TxnAction) : List Byte :=
  let v : List Byte := match x.act with
    | .param id inst v =>
      let len := (pinfo id).map (·.len) |>.getD 0
      leBytes 2 id ++ leBytes 1 inst ++ leBytes 1 len ++ leBytes len v
    | .powerLimit _ imp exp => leBytes 4 imp ++ leBytes 4 exp
    | _ => []
  let kind : Nat × Nat := match x.act with
    | .powerLimit o _ _ => (6, o)
    | _ => (0, 0)
  leBytes 1 kind.1 ++ leBytes 1 kind.2 ++ leBytes 1 x.node ++ [0] ++ fit 12 v

/-- PREPARE sent to one node with its actions (Table TXN-7). -/
def sendPrepare (t : Txn) (node : Nat) (s : State) : State :=
  let acts := t.actions.filter fun (x : TxnAction) => x.node == node
  plcUnicast node plcPrepare (leBytes 1 t.num ++ leBytes 6 (t.siteFrame.getD 0) ++ leBytes 1 acts.length ++ acts.flatMap actRecBytes) none s

/-- The remote nodes of a transaction. -/
def siteNodes (t : Txn) : List Nat := ((t.actions.map fun (x : TxnAction) => x.node).filter (· != 0xFF)).eraseDups

/-- A message to each of some nodes. -/
def toNodes (l : List Nat) (send : Nat → State → State) (s : State) : State := l.foldl (fun (s : State) (n : Nat) => send n s) s

/-- A site transaction committed in this frame. -/
def commitSite (n c : Nat) (s : State) : State := match findTxn s n with
  | none => s
  | some t =>
    let t := { t with state := .pending, siteFrame := some c, lastSend := s.frame,
                      nodes := (siteNodes t).map fun (a : Nat) => { node := a } }
    toNodes (siteNodes t) (sendPrepare t) (setTxn t s)

/-- TXN_COMMIT during frame N (R94, R95, R112). -/
def txnCommitRules (h : Hdr) (mode frame : Nat) (s : State) : Verdict :=
  let n := h.txn
  match findTxn s n with
  | none => no 0x1002
  | some t =>
    let run (detail : Nat) (now : State → State) : Verdict :=
      let r := runChecks s n t.own
      if r.check = 0 then .accept detail (some r.bytes) now else .reject r.detail r.bytes (measFault r t.own)
    if ¬ stageable t then no 0x1001
    else if 1 < mode then no 0x1101
    else if t.isSite then (match siteBars s h mode frame with
      | some d => no d
      | none => run 0x0100 (commitSite n frame))
    else match commitFrameOf s h mode frame with
      | .inl d => no d
      | .inr f =>
        run (if f = frameAfter s.frame 1 ∧ t.own.all fun x => x.2.atOnce then 0 else 0x0100)
          (modTxn n fun (t : Txn) => { t with state := .pending, commitFrame := some f, finalCheck := none })

/-- TXN_COMMIT (R95). -/
def execTxnCommit (h : Hdr) (mode frame : Nat) (s : State) : Outcome State Fault Refusal :=
  ans (hostCmd h 0x0203 (.txnCommit h mode frame) true true [] (fun s => named h.txn (txnCommitRules h mode frame s)) s)

/-! ### TXN_ABORT, the idle timer, TXN_QUERY and TXN_LIST (R84, R86, R99) -/

/-- Whether a pending transaction can still be aborted: by frame F − 1, or by site frame C − 1,600. -/
def abortInTime (s : State) (t : Txn) : Bool := match t.commitFrame, t.siteFrame, siteNow s with
  | some f, _, _ => decide (s.frame < f)
  | none, some c, some n => decide (n + 1600 ≤ c)
  | _, _, _ => false

/-- ABORT sent to one participant. -/
def sendAbort (t : Txn) (node : Nat) (s : State) : State := plcUnicast node plcAbort (leBytes 1 t.num) none s

/-- The nodes an ABORT goes to: those that voted yes and have not acknowledged it. -/
def abortNodes (t : Txn) : List Nat :=
  (t.nodes.filter fun (b : NodeBook) => b.vote == some true && !b.acked).map fun (b : NodeBook) => b.node

/-- A site transaction decided against: it ends here, and its yes voters hear of it (Table TXN-7). -/
def abortSite (t : Txn) (s : State) : State :=
  let t := { t with decided := some false, lastSend := s.frame }
  let s := dropTxn t .aborted s
  toNodes (abortNodes t) (sendAbort t) { s with txn := { s.txn with books := s.txn.books ++ [t] } }

/-- A transaction ended by TXN_ABORT, without an event (R117). -/
def abortTxn (n : Nat) (s : State) : State := match findTxn s n with
  | some t => if t.state = .pending ∧ t.isSite then abortSite t s else dropTxn t .aborted s
  | none => s

/-- TXN_ABORT during frame N (R99). -/
def txnAbortRules (n : Nat) (s : State) : Verdict := match findTxn s n with
  | none => no 0x1002
  | some t =>
    if stageable t ∨ (t.state = .pending ∧ abortInTime s t) then .accept 0 none (abortTxn n) else no 0x1001

/-- TXN_ABORT (R99). -/
def execTxnAbort (h : Hdr) (s : State) : Outcome State Fault Refusal :=
  ans (hostCmd h 0x0204 (.txnAbort h) true true [] (fun s => named h.txn (txnAbortRules h.txn s)) s)

/-- TXN_IDLE_TIMEOUT (R84). -/
def execTxnIdleTimeout (n : Nat) (s : State) : Outcome State Fault Refusal := match findTxn s n with
  | some t =>
    if t.isHost ∧ stageable t ∧ t.lastNamed + pget s 0x0200 0 ≤ s.frame then
      ans (txnEv 0x16 0 t 0xFF 0 0 (dropTxn t .aborted s))
    else ans s
  | none => ans s

/-- TXN_QUERY (R86). -/
def execTxnQuery (h : Hdr) (s : State) : Outcome State Fault Refusal :=
  ans (hostCmd h 0x0205 (.txnQuery h) true true []
    (fun s => named h.txn (if (findTxn s h.txn).isSome then done else no 0x1002)) s)

/-- The code of a transaction's state (R86). -/
def txnCode (x : TxnState) : Nat := match x with
  | .open => 0
  | .checked => 1
  | .pending => 2
  | .applying => 3
  | .rollingBack => 4

/-- The TXN_QUERY result (Table TXN-2). -/
def txnQueryResult (n : Nat) (s : State) : List Byte := match findTxn s n with
  | some t =>
    leBytes 1 (txnCode t.state) ++ leBytes 1 t.actions.length
      ++ leBytes 1 (t.actions.filter fun (x : TxnAction) => x.confirmed).length
      ++ leBytes 1 (t.firstIdx fun (x : TxnAction) => !x.confirmed)
      ++ leBytes 6 ((t.commitFrame.orElse fun _ => t.siteFrame).getD (2 ^ 48 - 1)) ++ [0, 0]
  | none => leBytes 1 5 ++ [0, 0] ++ leBytes 1 0xFF ++ leBytes 6 (2 ^ 48 - 1) ++ [0, 0]

/-- TXN_LIST (R86). -/
def execTxnList (h : Hdr) (s : State) : Outcome State Fault Refusal :=
  ans (hostCmd h 0x0206 (.txnList h) true true [] (fun _ => done) s)

/-- The code of an outcome (R86). -/
def outcomeCode (x : TxnOutcome) : Nat := match x with
  | .none => 0
  | .confirmed => 1
  | .rolledBack => 2
  | .undoIncomplete => 3
  | .refused => 4
  | .aborted => 5

/-- The TXN_LIST result (Table TXN-2). -/
def txnListResult (s : State) : List Byte :=
  let now := (hostTxns s).map fun (t : Txn) => (t.num, txnCode t.state, 0)
  let past := s.txn.ended.map fun x => (x.1, 5, outcomeCode x.2)
  leBytes 1 (now ++ past).length ++ [0, 0, 0]
    ++ (now ++ past).flatMap fun x => leBytes 1 x.1 ++ leBytes 1 x.2.1 ++ leBytes 1 x.2.2 ++ [0]

/-! ### Site transactions: the coordinator (Table TXN-7) -/

/-- A book changed. -/
def modBook (t : Txn) (s : State) : State :=
  { s with txn := { s.txn with books := s.txn.books.map fun (x : Txn) => if x.num = t.num then t else x } }

/-- STXN_PREPARE_RESEND: every 400 F to the nodes that have not voted. -/
def execStxnPrepareResend (n : Nat) (s : State) : Outcome State Fault Refusal := match findTxn s n with
  | some t =>
    let quiet := (t.nodes.filter fun (b : NodeBook) => b.vote.isNone).map fun (b : NodeBook) => b.node
    if t.state = .pending ∧ t.decided.isNone ∧ t.isSite ∧ t.lastSend + 400 ≤ s.frame
        ∧ ((siteNow s).any fun (x : Nat) => decide (x + 1600 < t.siteFrame.getD 0)) ∧ ¬ quiet.isEmpty then
      ans (toNodes quiet (sendPrepare t) (setTxn { t with lastSend := s.frame } s))
    else ans s
  | none => ans s

/-- STXN_VOTE_DEADLINE: at C − 1,600 a missing or a no vote leads to ABORT. -/
def execStxnVoteDeadline (n : Nat) (s : State) : Outcome State Fault Refusal := match findTxn s n with
  | some t =>
    if t.state = .pending ∧ t.decided.isNone ∧ t.isSite ∧ (siteNow s).any fun (x : Nat) => decide (t.siteFrame.getD 0 ≤ x + 1600) then
      (if t.nodes.all fun (b : NodeBook) => b.vote == some true then ans (setTxn { t with decided := some true } s)
      else ans (abortSite t s))
    else ans s
  | none => ans s

/-- STXN_ABORT_RESEND: every 80 F until acknowledged or C − 800. -/
def execStxnAbortResend (n : Nat) (s : State) : Outcome State Fault Refusal :=
  match s.txn.books.find? fun (t : Txn) => t.num == n with
  | some t =>
    if t.decided = some false ∧ t.lastSend + 80 ≤ s.frame ∧ ¬ (abortNodes t).isEmpty
        ∧ (siteNow s).any fun (x : Nat) => decide (x + 800 ≤ t.siteFrame.getD 0) then
      ans (toNodes (abortNodes t) (sendAbort t) (modBook { t with lastSend := s.frame } s))
    else ans s
  | none => ans s

/-- The coordinator's own actions at site frame C; they are confirmed as they apply, and the book stays open for the
reports. -/
def applyCoordinator (t : Txn) (s : State) : State :=
  let s := afterParams (applyActs true 1 (t.own.map (·.2)) (dropTxn t .confirmed s))
  let s := txnEv 0x11 0 t 0xFF 0 0 (txnEv 0x10 0 t 0xFF 0 0 s)
  { s with txn := { s.txn with books := s.txn.books ++ [t] } }

/-- STXN_OUTCOME_REPORT: a participant's report until C + 8,000. -/
def execStxnOutcomeReport (source number : Nat) (applied : Bool) (s : State) : Outcome State Fault Refusal :=
  match (s.txn.books ++ s.txn.txns).find? (fun (t : Txn) => t.num == number && t.isHost), siteNow s with
  | some t, some n =>
    if n ≤ t.siteFrame.getD 0 + 8000 then ans (noteNode number source (fun b => { b with report := some applied }) s) else ans s
  | _, _ => ans s

/-- The node bitmaps of STXN_DONE (R115). -/
def doneBitmaps (t : Txn) (own : Nat) : List Byte :=
  let go := t.decided == some true
  let bits (p : NodeBook → Bool) (self : Bool) : List Byte :=
    leBytes 8 (bitmap 8 fun i => (self && i == own) || t.nodes.any fun (b : NodeBook) => b.node == i && p b)
  bits (fun b => go && b.report == some true) go
    ++ bits (fun b => b.vote == some true && (b.report == some false || (!go && !b.acked))) false
    ++ bits (fun b => go && b.report.isNone) false

/-- STXN_DONE: when all reports, or all acknowledgements of an ABORT, are in, or at C + 8,000. -/
def execStxnDone (n : Nat) (s : State) : Outcome State Fault Refusal :=
  match s.txn.books.find? fun (t : Txn) => t.num == n with
  | some t =>
    let all := if t.decided = some true then t.nodes.all fun (b : NodeBook) => b.report.isSome else (abortNodes t).isEmpty
    if all ∨ (siteNow s).any fun (x : Nat) => decide (t.siteFrame.getD 0 + 8000 ≤ x) then
      ans (evp 0x18 12 0 (txnArg t 0xFF 0 0) (doneBitmaps t (ownAddr s))
        { s with txn := { s.txn with books := s.txn.books.filter fun (x : Txn) => x.num != n } })
    else ans s
  | none => ans s

/-! ### Site transactions: a participant (Table TXN-7, R114) -/

/-- The site transaction held for a coordinator's number. -/
def findPart (s : State) (source number : Nat) : Option SitePart :=
  s.txn.parts.find? fun (p : SitePart) => p.coordinator == source && p.number == number

/-- A participant's entry set. -/
def setPart (p : SitePart) (s : State) : State :=
  { s with txn := { s.txn with parts := p :: s.txn.parts.filter fun (x : SitePart) => !(x.coordinator == p.coordinator && x.number == p.number) } }

/-- A vote sent. -/
def sendVote (source number : Nat) (yes : Bool) (s : State) : State := plcUnicast source plcVote (leBytes 1 number ++ [boolByte yes]) none s

/-- The vote of a participant: the catalogue on its actions, each checked alone first (R89, R113). -/
def siteVerdict (acts : List ActRec) (s : State) : CheckResult :=
  match firstFail (fun (a : ActRec) => if actHere s { a with node := 0xFF } ∧ (a.type = 0 ∨ a.type = 6) then
      (recordCheck s 1 true a).map fun d => (d, 0) else some (0x1142, 0)) 0 acts with
  | some (d, i, _) => fails 0x01 d i
  | none =>
    if ¬ pbool s 0x0206 0 ∨ (freeInternal s).isNone then fails 0 0x1001 0xFF
    else runChecks s 0 ((acts.flatMap actOf).zipIdx.map fun x => (x.2, x.1))

/-- A PREPARE taken in: a pass reserves the objects under an internal number (R113). -/
def takePrepare (source number siteC : Nat) (acts : List ActRec) (s : State) : State :=
  let r := siteVerdict acts s
  let yes := r.detail == 0
  let l := acts.flatMap actOf
  let num := if yes then (freeInternal s).getD 0 else 0
  let p : SitePart := { coordinator := source, number := number, siteC := siteC, actions := l, vote := yes, internal := num }
  let t : Txn := { num := num, purpose := .site source number, state := .pending, siteFrame := some siteC,
                   actions := l.map fun (a : Action) => { act := a } }
  let s := setPart p s
  let s : State := if yes then preempt num (l.map Action.key) { s with txn := { s.txn with txns := s.txn.txns ++ [t] } } else s
  let s := measFault r [] s
  sendVote source number yes (ev 0x17 12 r.detail (number % 256 * 2 ^ 24 + r.index * 2 ^ 16 + r.check * 2 ^ 8 + num) s)

/-- STXN_PREPARE_RECEIVED (R113). A repeated PREPARE is answered with the vote that stands. -/
def execStxnPrepareReceived (source number siteC : Nat) (acts : List ActRec) (s : State) : Outcome State Fault Refusal :=
  match siteNow s with
  | none => ans s
  | some n =>
    if s.slk.align = .off ∨ s.sys.service = .bringUp ∨ siteC < n + 1600 ∨ source = ownAddr s then ans s
    else
      let s' : State := { s with txn := { s.txn with parts := s.txn.parts.filter fun (p : SitePart) => decide (n ≤ p.siteC + 8000) } }
      match findPart s' source number with
      | some p => if p.siteC = siteC then ans (sendVote source number (p.vote && !p.aborted) s') else ans (takePrepare source number siteC acts s')
      | none => ans (takePrepare source number siteC acts s')

/-- A reservation given up. -/
def releasePart (p : SitePart) (s : State) : State :=
  { s with txn := { s.txn with txns := s.txn.txns.filter fun (t : Txn) => !(t.purpose == .site p.coordinator p.number) } }

/-- STXN_ABORT_RECEIVED: up to C − 800 it releases the reservation and is acknowledged. -/
def execStxnAbortReceived (source number : Nat) (s : State) : Outcome State Fault Refusal :=
  match findPart s source number, siteNow s with
  | some p, some n =>
    if n + 800 ≤ p.siteC then
      ans (plcUnicast source plcAbortAck (leBytes 1 number) none (releasePart p (setPart { p with aborted := true } s)))
    else ans s
  | _, _ => ans s

/-- The outcome report of a participant: 1 applied, 2 refused with detail 0x4001. -/
def sendReport (p : SitePart) (outcome : Nat) (s : State) : State :=
  plcUnicast p.coordinator plcSiteReport (leBytes 1 p.number ++ leBytes 1 outcome ++ leBytes 2 (if outcome = 2 then 0x4001 else 0)) none s

/-- A yes voter at site frame C (R114). -/
def applyPart (p : SitePart) (s : State) : State :=
  let held := s.txn.txns.any fun (t : Txn) => t.purpose == .site p.coordinator p.number
  let s := releasePart p { s with txn := { s.txn with parts := s.txn.parts.filter (· != p) } }
  if ¬ held then s
  else if p.fenced then sendReport p 2 s
  else sendReport p 1 (afterParams (applyActs false 1 p.actions s))

/-- STXN_APPLY: at site frame C a yes voter, or the coordinator, applies its own actions (R113, R114). -/
def execStxnApply (source number : Nat) (s : State) : Outcome State Fault Refusal :=
  match siteNow s with
  | none => ans s
  | some n =>
    if powerFailed s then ans s
    else if source = ownAddr s then (match findTxn s number with
      | some t =>
        if t.state = .pending ∧ t.isSite ∧ t.decided = some true ∧ t.siteFrame.getD 0 ≤ n then ans (applyCoordinator t s) else ans s
      | none => ans s)
    else match findPart s source number with
      | some p => if p.vote ∧ ¬ p.aborted ∧ p.siteC ≤ n then ans (applyPart p s) else ans s
      | none => ans s

/-- A fence of a domain of a reserved object is noted until C (R114). -/
def markParts (s : State) : State :=
  { s with txn := { s.txn with parts := s.txn.parts.map fun (p : SitePart) =>
      if p.vote && p.actions.any fun (a : Action) => (match actDomain s a with
        | some d => fencedDomain s d
        | none => false) then { p with fenced := true } else p } }

end Sys2Proof.Machine
end

