-- ==== Sys2Proof/Machine/Sys.lean ====
section
/-! DEFINITION. Resets, bring-up and service levels, the vault, power fail, supplies, the lockstep restart (chapters 04, 16 and
18), the RESET command (R58) and the host timeout (R52). -/

namespace Sys2Proof.Machine

open Host

/-- The frame-edge and power book changed. -/
def modSys (f : SysSt → SysSt) (s : State) : State := { s with sys := f s.sys }

/-! ### Module reset (R118 to R121) -/

/-- Whether a stored parameter is sealed: its value stands in Garnet's or the metrology store (R121). -/
def sealedKey (k : Nat) : Bool := match pinfo (k / 256) with
  | some p => decide (2 ≤ p.cls)
  | none => false

/-- The parameter values of a start (R121): those persisted to flash, the sealed ones, and with `pendings` the sets that a
module reset puts in force (R293, R407). -/
def startParams0 (pendings : Bool) (s : State) : List (Nat × Nat) :=
  let put (m : List (Nat × Nat)) (x : Nat × Nat) : List (Nat × Nat) := storePut m (x.1 / 256) (x.1 % 256) x.2
  let m := (s.params.filter fun x => sealedKey x.1).foldl put (s.persisted.filter fun x => persistable x.1)
  if pendings then (s.mtr.pending.getD []).foldl put ((s.garnet.committed.getD []).foldl put m) else m

/-- Garnet after a reset: the persisted latches stand, the staged set is discarded (R400, R405, R408). -/
def garnetReset (g : GarnetSt) : GarnetSt :=
  { State.reset.garnet with
    inputs := g.inputs.map fun (x : SafeIn) => { latch := x.latch, faultLatch := x.faultLatch }
    outs := g.outs.map fun (x : SafeOut) => { fault := x.fault, contact := x.contact }
    cds := g.cds.map fun (x : CdSt) => { failed := x.failed }
    cdFault := g.cdFault, scfgHigh := g.scfgHigh, newCfg := g.committed.isSome }

/-- The loopback results of a start: a retired port has failed (R135, Table FLT-2). -/
def portsAtStart (s : State) : Vector Nat 8 := Vector.ofFn fun (k : Fin 8) => if objRetired s 5 k then 2 else 0

/-- The ties at a start: a tie retired for a weld still counts as closed (R226, R526). -/
def tiesAtStart (s : State) : Vector TieSt 8 := Vector.ofFn fun (t : Fin 8) => { welded := (objFault s 2 t).retired == some 0x57 }

/-- A module reset (R118, R119): every block restarts except Beryl; what R119 names, the pins and the levels of the supplies
stand. -/
def moduleReset (source reason : Nat) (s : State) : State :=
  let s := slkReset (nfcReset (dspReset (updReset (onyxReset source (fltReset (source == 2 || source == 4) s)))))
  { State.reset with
    pending := s.pending, rnd := s.rnd, params := startParams0 true s, persisted := s.persisted, queues := .replicate 4 {}
    sys := { loopFails := portsAtStart s, resetSource := source, resetReason := reason, vmain := s.sys.vmain, vioLow := s.sys.vioLow,
             coresHalted := s.sys.coresHalted && source != 2 && source != 4 }
    beryl := { s.beryl with resetSource := source }
    link := { State.reset.link with psk := s.link.psk }
    pool := { State.reset.pool with profiles := s.pool.profiles, ties := tiesAtStart s }
    vlk := { State.reset.vlk with keys := s.vlk.keys.map fun (x : KeySlot) => { x with parts := {} } }
    garnet := garnetReset s.garnet
    onyx := s.onyx, slk := s.slk, nfc := s.nfc, dsp := s.dsp, flt := s.flt, upd := s.upd }

/-- The release of a reset: at step 8 of frame 0 SYS_RESET is queued, then the retirements in force (R120, R526); at an update
activation the boot ROM has dealt with the loader's region (R542). -/
def releaseReset (source : Nat) (s : State) : State :=
  let s : State := { modSys (fun y => { y with inReset := false, resetSource := source }) s with beryl := { s.beryl with resetSource := source } }
  let s := retirementsRestored (ev 0x00 12 0 (source + s.sys.resetReason % 256 * 256) s)
  if source = 7 then bootLoader s else s

/-- A module reset that holds the part until the main input allows a start (R147, R568). -/
def resetHeld (source : Nat) (s : State) : State := modSys (fun y => { y with inReset := true }) (moduleReset source 0 s)

/-- A module reset that is released at once. -/
def resetNow (source reason : Nat) (s : State) : State := releaseReset source (moduleReset source reason s)

/-- MAIN_INPUT_LOW: below 8.5 V the module is reset at once (R118, R147). -/
def execMainInputLow (vmain : Nat) (s : State) : Outcome State Fault Refusal :=
  let s := modSys (fun y => { y with vmain := vmain }) s
  if vmain < 8500 ∧ ¬ s.sys.inReset then ans (resetHeld 2 s) else ans s

/-- Beryl's well below its retention limit: the vault is lost, its store holds no known value (R137, R568). -/
def vaultLoss (s : State) : State :=
  { s with beryl := { s.beryl with vaultLost := true, tamper := [], user := leNat (freeBytes s 48) } }.draw

/-- POWER_ON: the main input risen through 10.5 V releases reset (R118, R568); legal time has run on in Beryl, and a cell below
1.6 V has lost the vault. -/
def execPowerOn (vmain ticks cell : Nat) (s : State) : Outcome State Fault Refusal :=
  if s.sys.inReset ∧ 10500 ≤ vmain then
    let b := s.beryl
    let s : State := { modSys (fun y => { y with vmain := vmain }) s with
      beryl := { b with rtc := b.rtc + (ticks : Rat) * 1000 / tickHz, legalTime := b.legalTime + ticks, cell := cell } }
    let s := if cell < 1600 then vaultLoss s else s
    ans (releaseReset (if s.sys.resetSource = 3 then 3 else 1) s)
  else ans s

/-- RST_N held low for `ns` nanoseconds: 10 µs reset the module (R118, R577); with VIO low the pin reads high (R566). -/
def execRstN (ns : Nat) (s : State) : Outcome State Fault Refusal :=
  if 10000 ≤ ns ∧ ¬ s.sys.vioLow ∧ ¬ s.sys.inReset then ans (resetNow 4 0 s) else ans s

/-- RESET during frame N: refused while a contactor of an outlet is closed (R58). -/
def resetRules (s : State) : Verdict :=
  if (allFin 24).any fun (o : Fin 24) => fbClosed s ⟨o.val, by omega⟩ && pget s 0x4008 0 / 2 ^ o.val % 2 == 1 then no 0x1001 else done

/-- RESET (R58). -/
def execReset (h : Hdr) (reason : Nat) (s : State) : Outcome State Fault Refusal :=
  ans (hostCmd h 0x0090 (.reset h reason) true true [] resetRules s)

/-- RESET takes effect: Onyx completes a persist write set, and the release falls due within 80 F (R58). -/
def applyReset (reason : Nat) (s : State) : State :=
  let f := s.frame
  modSys (fun y => { y with resetDue := some (frameAfter f 80), resetReason := reason }) (persistLive s)

/-- RESET_RELEASE: the records due are written and the reset of a RESET or of an activation is released (R58, R552). -/
def execResetRelease (s : State) : Outcome State Fault Refusal :=
  if powerFailed s then ans s
  else if s.upd.resetBy.isSome then ans (resetNow 7 0 (writeRecords s))
  else if s.sys.resetDue.isSome then ans (resetNow 5 s.sys.resetReason (writeRecords s))
  else ans s

/-! ### Bring-up and service levels (R122 to R133, R195) -/

/-- GARNET_UP: both cores, memories and inputs tested; Garnet starts (R405), or keeps its safe states (R123). -/
def execGarnetUp (ok : Bool) (test : Nat) (fb : List Bool) (s : State) : Outcome State Fault Refusal :=
  if s.sys.inReset ∨ s.sys.garnetUp ∨ s.sys.garnetFailed then ans s
  else if ok then ans (garnetStart fb (modSys (fun y => { y with garnetUp := true }) s))
  else ans (ev 0x06 14 0 test (modGar (fun g => { g with st := .selfTestFailed }) (modSys (fun y => { y with garnetFailed := true }) s)))

/-- An outlet that loader service takes out of use: UNAVAILABLE at this edge, with reason 0x12 where a session ran, its
contactors opened at step 2 of the next frame without a wait (R132, R195). -/
def loaderOutlet (k : Fin 8) (s : State) : State :=
  if outAvail s k then s
  else
    let live := sessLive s.outlets[k].st && s.outlets[k].st != .idle
    let acts := (soLive s k).map fun (o : Fin 32) => Action.contactor o false
    let s := enterState k { dest := .unavailable, reason := if live then some 0x12 else none, frame := s.frame } s
    if acts.isEmpty then s else buildTxn (.loader k) acts (frameAfter s.frame 1) s

/-- A service level entered, with the link code it gives a link that is ready and SYS_SERVICE (R126, R130, R132). -/
def enterService (v : Service) (s : State) : State :=
  let s := modSys (fun y => { y with service := v }) s
  let s := if s.link.ready then modLink (fun l => { l with code := serviceCode v }) s else if s.link.syncAt.any (fun f => decide (f < s.frame)) then makeReady s else s
  ev 0x01 12 0 (serviceCode v) s

/-- Loader service (R132). -/
def enterLoader (s : State) : State :=
  outletsAvail ((allFin 8).foldl (fun (s : State) (k : Fin 8) => loaderOutlet k s) (enterService .loader s))

/-- COARSE_SERVICE: Garnet and Onyx up and the parameter store loaded (R126); with an image already found bad, loader service
follows at the same edge. -/
def execCoarseService (s : State) : Outcome State Fault Refusal :=
  if s.sys.garnetUp ∧ s.sys.onyxUp ∧ s.sys.service = .bringUp ∧ ¬ s.sys.coresHalted ∧ ¬ s.sys.inReset ∧ ¬ powerFailed s then
    let s : State := { s with aux := { s.aux with held := false } }
    let s := pilotOutputs (outletsAvail (enterService .coarse s))
    ans (if s.sys.imageValid = some false then enterLoader s else s)
  else ans s

/-- IMAGE_VERIFIED: the boot check of the image (R542); a failure leads to loader service (R132). -/
def execImageVerified (sigOk : Bool) (s : State) : Outcome State Fault Refusal :=
  if s.sys.imageValid.isSome ∨ s.sys.coresHalted ∨ s.sys.inReset ∨ powerFailed s then ans s
  else
    let r := bootImage sigOk s
    let s := modSys (fun y => { y with imageValid := some r.2 }) r.1
    ans (if r.2 = false ∧ s.sys.service = .coarse then pilotOutputs (enterLoader s) else s)

/-- FULL_SERVICE: frame H (R130, R131): the image is valid and the loopback test over; ports and reader start. -/
def execFullService (s : State) : Outcome State Fault Refusal :=
  if s.sys.service = .coarse ∧ s.sys.imageValid = some true ∧ s.sys.loopDone ∧ ¬ powerFailed s then
    let f := s.frame
    let s := enterService .full (modSys (fun y => { y with fullFrame := some f }) s)
    ans (pilotOutputs (outletsAvail (slkStart (nfcStart (poolStart (poolConfig (mtrFull s)))))))
  else ans s

/-! ### The vault (R136 to R139) -/

/-- CELL_MONITOR: a cell below 2.5 V is reported (R137), once until it has recovered. -/
def execCellMonitor (mV : Nat) (s : State) : Outcome State Fault Refusal :=
  let s : State := { s with beryl := { s.beryl with cell := mV } }
  if 2500 ≤ mV then ans (modSys (fun y => { y with cellLow := false }) s)
  else if s.sys.cellLow ∨ s.sys.inReset then ans s
  else ans (ev 0x07 12 0 1 (modSys (fun y => { y with cellLow := true }) s))

/-- A loop found open: stored with legal time, the two latest kept; logged at once while Onyx runs (R138, R139). -/
def tamperOpen (loop : Nat) (s : State) : State :=
  let up := s.sys.onyxUp
  let told := !s.sys.inReset
  let b := s.beryl
  let t : TamperRec := { loop := loop, time := b.legalTime, logged := up, told := told }
  let s : State := { s with beryl := { b with tamper := (b.tamper ++ [t]).drop (b.tamper.length + 1 - 2) } }
  let s := if up then markBits (fun _ => true) 0x0100 (logEntry 0x0D 0xFF 0 (leBytes 1 loop) s) else s
  if told then ev 0x08 12 0 loop s else s

/-- TAMPER_SAMPLE: both loops, once per second; not while the vault is lost (R138). -/
def execTamperSample (open0 open1 : Bool) (s : State) : Outcome State Fault Refusal :=
  if s.beryl.vaultLost then ans s
  else
    let s := if open0 then tamperOpen 0 s else s
    ans (if open1 then tamperOpen 1 s else s)

/-! ### Power fail (R110, R144 to R148) -/

/-- The transactions at the edge of detection (R110): the host's that are committed end aborted, the internal ones end with
no event, undo sets and restores go. -/
def powerFailTxns (s : State) : State :=
  let s := (s.txn.txns.filter fun (t : Txn) => t.reserves).foldl (fun (s : State) (t : Txn) =>
    if t.isHost then txnEv 0x16 0x4002 t 0xFF 0 0 (leaveBook t (dropTxn t .aborted s))
    else { s with txn := { s.txn with txns := s.txn.txns.filter fun (x : Txn) => x.num != t.num } }) s
  { s with txn := { s.txn with restores := [] } }

/-- Every object that the power-down transaction reserves (R146). -/
def powerDownActs : List Action :=
  (allFin 32).map (fun (o : Fin 32) => Action.contactor o false) ++ (allFin 8).map (fun (t : Fin 8) => Action.tie t false)
    ++ (allFin 16).map (fun (g : Fin 16) => Action.pgSetpoint g 0 0) ++ (allFin 12).map fun (n : Fin 12) => Action.aux n 0 0

/-- The power-down transaction: it reserves every object at once and stands until the reset; it has no windows and no undo
(R146). -/
def reserveAll (s : State) : State :=
  let f := s.frame
  match freeInternal s with
  | none => s
  | some n =>
    let t : Txn := { num := n, purpose := .powerDown, state := .applying, actions := powerDownActs.map fun a => { act := a },
                     lastNamed := f, commitFrame := some f, phase1 := true }
    { s with txn := { s.txn with txns := s.txn.txns ++ [t] } }

/-- An outlet at step 6 of frame P: UNAVAILABLE with reason 0x10, pilot F, its HPGP transmission stopped (R146, R196). -/
def powerDownOutlet (k : Fin 8) (s : State) : State :=
  let s := enterState k { dest := .unavailable, reason := some 0x10, frame := s.frame } s
  vlkOff k (modOut k (fun o => { o with out := if o.out = .highZ then .highZ else .stateF, outNext := none, forced := none }) s)

/-- Step 3 of frame P: power fail detected, the other transactions ended, the power-down transaction built (R110, R144,
R146). -/
def powerFailStep3 (s : State) : State :=
  let f := s.frame
  let s := modSys (fun y => { y with powerFail := some f, resetDue := none }) s
  cdStopAll (some (f + 136)) (onyxPowerFail (reserveAll (powerFailTxns (cancelMoves (fun _ => true) s))))

/-- Step 6 of frame P (Table BRU-8), with the records due completed (R528) and SYS_PWR_FAIL. -/
def powerFailStep6 (s : State) : State :=
  let s := (allFin 16).foldl (fun (s : State) (g : Fin 16) =>
    if s.pool.groups[g].st = .unconfigured then s else pgSet g s.pool.groups[g].spMv 0 true s) s
  let s := (allFin 8).foldl (fun (s : State) (k : Fin 8) => powerDownOutlet k s) s
  let s := writeRecords (slkPowerFail (readerOff 4 (auxPowerOff s)))
  ev 0x02 12 0 (s.sys.vmain / 10) s

/-- POWER_DOWN_OPEN: from P+1, each contactor and tie whose stamped current is at most 2 A opens, at P+8 every one (R146,
R406). -/
def execPowerDownOpen (s : State) : Outcome State Fault Refusal :=
  match s.sys.powerFail with
  | none => ans s
  | some p =>
    if s.frame ≤ p then ans s
    else
      let all := decide (p + 8 ≤ s.frame)
      let s := (allFin 24).foldl (fun (s : State) (o : Fin 24) =>
        let o : Fin 32 := ⟨o.val, by omega⟩
        if all || contactLow s (.contactor o false) == some true then step2Act (.contactor o false) s else s) s
      ans ((allFin 8).foldl (fun (s : State) (t : Fin 8) =>
        if all || contactLow s (.tie t false) == some true then step2Act (.tie t false) s else s) s)

/-- The run of frames, from P+145 on, at whose edge the main input held 10.5 V (R147). -/
def recoverStamp (s : State) : State :=
  match s.sys.powerFail with
  | none => s
  | some p =>
    let f := s.frame
    if f < p + 145 then s
    else if s.sys.vmain < 10500 then modSys (fun y => { y with pfRecoverFrom := none }) s
    else modSys (fun y => { y with pfRecoverFrom := y.pfRecoverFrom.orElse fun _ => some f }) s

/-- POWER_FAIL_RECOVERY: 800 F at or above 10.5 V counted from P+145, or frame P+8,145, resets the module with source 0x03,
held while the input lies below 10.5 V (R147). -/
def execPowerFailRecovery (s : State) : Outcome State Fault Refusal :=
  match s.sys.powerFail with
  | none => ans s
  | some p =>
    let held := s.sys.pfRecoverFrom.any fun f => decide (f + 800 ≤ s.frame)
    if held ∨ p + 8145 ≤ s.frame then ans (if s.sys.vmain < 10500 then resetHeld 3 s else resetNow 3 0 s) else ans s

/-! ### Supplies of the pads (R566, R567) -/

/-- VIO_LOW: the host-side pads go high-impedance, every modulator input is flagged with cause 2, SEAL_N reads high (R566). -/
def execVioLow (s : State) : Outcome State Fault Refusal :=
  let s := modSys (fun y => { y with vioLow := true }) s
  let s := modLink (fun l => { l with spiOut := [] }) s
  ans (sealStamp true ((allFin 48).foldl (fun (s : State) (n : Fin 48) => modInputFault n 2 s) s))

/-- VIO_RESTORED: the pads leave high impedance (R566). -/
def execVioRestored (s : State) : Outcome State Fault Refusal := ans (modSys (fun y => { y with vioLow := false }) s)

/-- PILOT_SUPPLY_FAULT: every CPD pad is held high-impedance (R567). -/
def execPilotSupplyFault (s : State) : Outcome State Fault Refusal :=
  ans ((allFin 8).foldl (fun (s : State) (k : Fin 8) => modOut k (fun o => { o with out := .highZ, outNext := none }) s) s)

/-- PILOT_SUPPLY_OK: the drivers resume at the edge with what each session state drives (R567). -/
def execPilotSupplyOk (s : State) : Outcome State Fault Refusal :=
  ans (pilotOutputs ((allFin 8).foldl (fun (s : State) (k : Fin 8) =>
    modOut k (fun o => if o.out = .highZ then { o with out := .stateF } else o) s) s))

/-! ### Lockstep mismatch (R531) -/

/-- The command cores restarted: what they own is lost or reloaded, while Garnet, Onyx, Beryl, the metrology engine and the
frame counter run on (R119, R531). -/
def coresRestart (s : State) : State :=
  let agate := (s.flt.agate, s.flt.agateRuns, s.flt.mtrRestart, s.flt.mtrFenced)
  let restarts := restartsNow s ++ [s.frame]
  let s := slkReset (nfcReset (dspReset (updReset (fltReset true s))))
  let s := (allFin 8).foldl (fun (s : State) (k : Fin 8) => vlkOff k s) (auxPowerOff s)
  { s with
    params := startParams0 false s, queues := .replicate 4 {}, due := [], outbox := []
    sys := { s.sys with service := .bringUp, imageValid := none, loopDone := false, loopFails := portsAtStart s, loopPass := 0,
                        fullFrame := none, resetSource := 6, resetReason := 0, resetDue := none, wakeCause := none, skips := [],
                        toPersist := none }
    beryl := { s.beryl with resetSource := 6 }
    link := { State.reset.link with psk := s.link.psk, lastAdmit := s.frame }
    txn := {}
    outlets := s.outlets.map fun (o : Outlet) =>
      { pilot := o.pilot, meas := o.meas, out := if o.out = .highZ then .highZ else .stateF }
    pool := { State.reset.pool with profiles := s.pool.profiles, busV := s.pool.busV, tieI := s.pool.tieI
                                    ties := s.pool.ties.map fun (t : TieSt) => { t with cmd := false } }
    vlk := { State.reset.vlk with keys := s.vlk.keys.map fun (x : KeySlot) => { x with parts := {} } }
    aux := { State.reset.aux with vbank := s.aux.vbank, vhist := s.aux.vhist }
    flt := { s.flt with agate := agate.1, agateRuns := agate.2.1, mtrRestart := agate.2.2.1, mtrFenced := agate.2.2.2, restarts := restarts } }

/-- LOCKSTEP_MISMATCH (R531): the cores restart and report it; beyond FLT.CORE.N restarts within FLT.RETRY.WIN they halt. -/
def execLockstepMismatch (s : State) : Outcome State Fault Refusal :=
  if s.sys.inReset ∨ s.sys.coresHalted then ans s
  else
    let limit := pget s 0x7005 0
    let s := coresRestart s
    let n := s.flt.restarts.length
    if limit < n then ans (modSys (fun y => { y with coresHalted := true }) s)
    else ans (ev 0xF3 12 0 n (ev 0x03 12 0 2 (ev 0x00 12 0 6 s)))

/-! ### The host timeout (R52, R194) -/

/-- What an outlet does when the host is lost (R194). -/
def hostLossOutlet (k : Fin 8) (s : State) : State :=
  let c := sessCode s.outlets[k].st
  if pget s 0x1011 k = 2 ∧ 5 ≤ c ∧ c ≤ 12 then stopSession k 0x0D 0 s else s

/-- CMD_HOST_LOST: no command admitted for SYS.HOST.TMO frames (R52); a packet that waits for its admission is in time. -/
def execCmdHostLost (s : State) : Outcome State Fault Refusal :=
  let t := pget s 0x0014 0
  if t ≠ 0 ∧ ¬ s.link.hostLost ∧ s.link.lastAdmit + t ≤ s.frame ∧ s.link.waiting.isEmpty ∧ s.sys.service ≠ .bringUp then
    ans ((allFin 8).foldl (fun (s : State) (k : Fin 8) => hostLossOutlet k s)
      (ev 0x0D 12 0 0 (modLink (fun l => { l with hostLost := true }) s)))
  else ans s

end Sys2Proof.Machine
end

