-- ==== Sys2Proof/Machine/Host.lean ====
section
/-! DEFINITION. From packets to commands and back (chapter 02): the parameter fields of the opcodes, admission (R37, R42), what an
accepted command does at step 6 (R23), the results of replies (R53), and the SPI instructions that read the link. -/

namespace Sys2Proof.Machine

open Host

/-! ### Parameter fields (R37, check 7) -/

/-- An opcode: its code, and the command that a parameter field spells; none when the field's size does not fit. -/
abbrev HostOp := Nat × (Hdr → List Byte → Option (State → Outcome State Fault Refusal))

/-- A parameter field of a fixed size. -/
def fixed (n : Nat) (p : List Byte) (m : State → Outcome State Fault Refusal) : Option (State → Outcome State Fault Refusal) :=
  if p.length = n then some m else none

/-- A parameter field of at least a size. -/
def atLeast (n : Nat) (p : List Byte) (m : State → Outcome State Fault Refusal) : Option (State → Outcome State Fault Refusal) :=
  if n ≤ p.length then some m else none

/-- The u64 at an offset. -/
def u64At (b : List Byte) (o : Nat) : Nat := leNat ((b.drop o).take 8)

/-- The u48 at an offset. -/
def u48At (b : List Byte) (o : Nat) : Nat := leNat ((b.drop o).take 6)

/-- Parameter entries, each padded to a multiple of 4 bytes (R63); none unless they fill the bytes exactly. -/
def parseEntries : Nat → List Byte → Option (List PEntry)
  | 0, b => if b.isEmpty then some [] else none
  | n + 1, b =>
    let len := u8At b 3
    let size := 4 + (len + 3) / 4 * 4
    if b.length < size then none
    else (parseEntries n (b.drop size)).map fun es =>
      { id := u16At b 0, inst := u8At b 2, len := len, val := (b.drop 4).take len } :: es

/-- A field of a count and parameter entries. -/
def entryField (p : List Byte) (m : Nat → List PEntry → State → Outcome State Fault Refusal) :
    Option (State → Outcome State Fault Refusal) :=
  if p.length < 4 then none else (parseEntries (u8At p 0) (p.drop 4)).map fun es => m (u8At p 0) es

/-- Action records (Table TXN-3). -/
def parseActs (b : List Byte) : List ActRec :=
  (chunks 16 64 b).map fun c => { type := u8At c 0, object := u8At c 1, node := u8At c 2, value := c.drop 4 }

/-- System, parameter and queue opcodes (R57, R63, R64, R76 to R79, R587, R588). The fields of PSK_SET, PSK_CLEAR, RESET and
PARAM_DEFAULT_X are the model's: one byte and three reserved, the key behind them. -/
def systemOps : List HostOp := [
  (0x0000, fun h p => fixed 0 p (execNop h)),
  (0x0001, fun h p => fixed 0 p (execIdentify h)),
  (0x0002, fun h p => fixed 4 p (execLinkInfo h (u8At p 0))),
  (0x0003, fun h p => fixed 17 p (execEthHello h (u8At p 0) (p.drop 1))),
  (0x0004, fun h p => fixed 0 p (execEthClose h)),
  (0x0005, fun h p => fixed 0 p (execFrameRead h)),
  (0x0080, fun h p => fixed 36 p (execPskSet h (u8At p 0) (p.drop 4))),
  (0x0081, fun h p => fixed 4 p (execPskClear h (u8At p 0))),
  (0x0090, fun h p => fixed 4 p (execReset h (u8At p 0))),
  (0x0100, fun h p => fixed (4 + 4 * u8At p 0) p
    (execParamRead h (u8At p 0) ((chunks 4 256 (p.drop 4)).map fun c => { id := u16At c 0, inst := u8At c 2 }))),
  (0x0101, fun h p => entryField p (execParamWrite h)),
  (0x0102, fun h p => fixed 4 p (execParamInfo h (u16At p 0))),
  (0x0103, fun h p => fixed 4 p (execParamList h (u8At p 0) (u8At p 1))),
  (0x0181, fun h p => entryField p (execParamWriteX h)),
  (0x0182, fun h p => fixed 4 p (execParamDefaultX h (u8At p 0))),
  (0x7000, fun h p => fixed 4 p (execQueueRead h (u8At p 0) (u8At p 2))),
  (0x7001, fun h p => fixed 4 p (execQueueDrop h (u8At p 0))),
  (0x7002, fun h p => fixed 4 p (execQueueStatus h (u8At p 0) (u8At p 1)))]

/-- Transaction and outlet opcodes (Tables TXN-2, OUT-10, OUT-11). -/
def sessionOps : List HostOp := [
  (0x0200, fun h p => fixed 0 p (execTxnOpen h)),
  (0x0201, fun h p => fixed (4 + 16 * u8At p 0) p (execTxnStage h (u8At p 0) (parseActs (p.drop 4)))),
  (0x0202, fun h p => fixed 0 p (execTxnCheck h)),
  (0x0203, fun h p => fixed 8 p (execTxnCommit h (u8At p 0) (u48At p 2))),
  (0x0204, fun h p => fixed 0 p (execTxnAbort h)),
  (0x0205, fun h p => fixed 0 p (execTxnQuery h)),
  (0x0206, fun h p => fixed 0 p (execTxnList h)),
  (0x1000, fun h p => fixed 32 p (execOutStart h (u8At p 0) (u8At p 1) (u32At p 4) (u32At p 8) (u32At p 12) (p.drop 16))),
  (0x1001, fun h p => fixed 4 p (execOutStop h (u8At p 0) (u8At p 1))),
  (0x1002, fun h p => fixed 16 p (execOutLimit h (u8At p 0) (u32At p 4) (u32At p 8) (u32At p 12))),
  (0x1003, fun h p => fixed 4 p (execOutDeny h (u8At p 0) 0)),
  (0x1004, fun h p => fixed 4 p (execOutStatus h (u8At p 0))),
  (0x1080, fun h p => fixed 4 p (execOutPilotX h (u8At p 0) (u8At p 1) (u16At p 2)))]

/-- Power-pool and vehicle-link opcodes (Tables POL-7, VLK-12). -/
def poolOps : List HostOp := [
  (0x1800, fun h p => fixed 4 p (execPolAssign h (u8At p 0) (u16At p 2))),
  (0x1801, fun h p => fixed 0 p (execPolStatus h)),
  (0x1802, fun h p => fixed 4 p (execPolProfileInfo h (u8At p 0))),
  (0x1880, fun h p => fixed 68 p (execPolProfileLoadX h (u8At p 0) (u16At p 2) (p.drop 4))),
  (0x1881, fun h p => fixed 4 p (execPolPgClearX h (u8At p 0) (u8At p 1))),
  (0x2000, fun h p => fixed 4 p (execVlkStatus h (u8At p 0))),
  (0x2001, fun h p => atLeast 4 p (execVlkSchedule h (u8At p 0) (u8At p 1) (u8At p 2) (p.drop 4))),
  (0x2002, fun h p => atLeast 4 p (execVlkCertResp h (u8At p 0) (u8At p 1) (u8At p 2) (u8At p 3) (p.drop 4))),
  (0x2003, fun h p => fixed 4 p (execVlkStatsClear h (u8At p 0))),
  (0x2080, fun h p => fixed 4 p (execVlkKeygenX h (u8At p 0) (u8At p 1))),
  (0x2081, fun h p => atLeast 4 p (execVlkCertLoadX h (u8At p 0) (u8At p 1) (u8At p 2) (p.drop 4))),
  (0x2082, fun h p => fixed 4 p (execVlkKeyClearX h (u8At p 0))),
  (0x2083, fun h p => fixed 4 p (execVlkLoopbackX h (u8At p 0)))]

/-- Metrology and Onyx opcodes (Tables MTR-11, LEG-9). -/
def legalOps : List HostOp := [
  (0x3000, fun h p => fixed 4 p (execMtrRead h (u8At p 0))),
  (0x3001, fun h p => fixed 4 p (execMtrHarm h (u8At p 0) (u8At p 1))),
  (0x3002, fun h p => fixed 4 p (execMtrCalInfo h (u8At p 0))),
  (0x3080, fun h p => fixed 4 p (execMtrCalOpenX h (u8At p 0) (u8At p 1))),
  (0x3081, fun h p => fixed 4 p (execMtrCalMeasureX h (u8At p 0) (u16At p 2))),
  (0x3082, fun h p => fixed 4 p (execMtrCalResultX h (u8At p 0))),
  (0x3083, fun h p => fixed 4 p (execMtrCalSealX h (u8At p 0))),
  (0x3084, fun h p => fixed 4 p (execMtrCalCloseX h (u8At p 0))),
  (0x3800, fun h p => fixed (4 + 2 * u8At p 1) p (execLegRead h (u8At p 0) (u8At p 1) ((chunks 2 256 (p.drop 4)).map leNat))),
  (0x3801, fun h p => fixed 4 p (execLegReading h (u8At p 0) (u8At p 1) (u8At p 2))),
  (0x3802, fun h p => fixed 4 p (execLegReadingGet h (u32At p 0))),
  (0x3803, fun h p => fixed 12 p (execLegClockSet h (u8At p 0) (signed 8 (u64At p 4)))),
  (0x3804, fun h p => fixed 0 p (execLegClockRead h)),
  (0x3805, fun h p => fixed 10 p (execLegTariffSet h (u8At p 0) (u8At p 1) (u8At p 2) (u48At p 4))),
  (0x3806, fun h p => fixed 0 p (execLegTariffInfo h)),
  (0x3807, fun h p => fixed 8 p (execLegLogRead h (u8At p 0) (u8At p 1) (u32At p 4))),
  (0x3808, fun h p => fixed 8 p (execLegProfileRead h (u8At p 0) (u8At p 1) (u32At p 4))),
  (0x3809, fun h p => fixed 0 p (execLegInfo h)),
  (0x380A, fun h p => fixed 4 p (execLegTzSet h (signed 2 (u16At p 0)))),
  (0x3880, fun h p => fixed 132 p (execLegTariffLoadX h (u8At p 0) (u16At p 2) (p.drop 4))),
  (0x3881, fun h p => fixed 4 p (execLegAccessX h (u8At p 0))),
  (0x3882, fun h p => entryField p (execLegCfgStageX h)),
  (0x3883, fun h p => fixed 0 p (execLegCfgSealX h)),
  (0x3884, fun h p => fixed 0 p (execLegCfgDiscardX h))]

/-- Safety and switch-bank opcodes (Tables EFI-6, SAF-12, AUX-5). -/
def safetyOps : List HostOp := [
  (0x4040, fun h p => fixed 4 p (execEfiStatus h (u8At p 0))),
  (0x4041, fun h p => fixed 4 p (execEfiRdcTest h (u8At p 0))),
  (0x40C0, fun h p => fixed 4 p (execEfiImdTestX h (u8At p 0))),
  (0x4000, fun h p => fixed 0 p (execSafStatus h)),
  (0x4001, fun h p => fixed 4 p (execSafWhy h (u8At p 0))),
  (0x4002, fun h p => fixed 4 p (execSafCdEnable h (u8At p 0) (u8At p 1))),
  (0x4003, fun h p => fixed 4 p (execSafBrakeTest h (u8At p 0))),
  (0x4004, fun h p => fixed 4 p (execSafReset h (u8At p 0))),
  (0x4005, fun h p => fixed 0 p (execSafInfo h)),
  (0x4080, fun h p => entryField p (execSafCfgStageX h)),
  (0x4081, fun h p => fixed 0 p (execSafCfgVerifyX h)),
  (0x4082, fun h p => fixed 4 p (execSafCfgCommitX h (u32At p 0))),
  (0x4083, fun h p => fixed 0 p (execSafCfgDiscardX h)),
  (0x4800, fun h p => fixed 4 p (execAuxSet h (u8At p 0) (u8At p 1) (u16At p 2))),
  (0x4801, fun h p => fixed 0 p (execAuxStatus h)),
  (0x4802, fun h p => fixed 4 p (execAuxClear h (u8At p 0) (u8At p 1)))]

/-- Site-link and contactless opcodes (Tables SLK-8, NFC-7). -/
def siteOps : List HostOp := [
  (0x5000, fun h p => fixed 0 p (execSlkStatus h)),
  (0x5001, fun h p => fixed 4 p (execSlkNodes h (u8At p 0))),
  (0x5002, fun h p => atLeast 4 p (execSlkSend h (u8At p 0) (u8At p 1) (p.drop 4))),
  (0x5003, fun h p => atLeast 16 p (execSlkSched h (u8At p 0) (u48At p 2) (u64At p 8) (p.drop 16))),
  (0x5004, fun h p => fixed 4 p (execSlkSchedCancel h (u8At p 0))),
  (0x5005, fun h p => fixed 0 p (execSlkSchedList h)),
  (0x5080, fun h p => fixed 16 p (execSlkKeySetX h p)),
  (0x5081, fun h p => fixed 4 p (execSlkTonemapX h (u8At p 0) (u8At p 1))),
  (0x5800, fun h p => fixed 0 p (execNfcStatus h)),
  (0x5801, fun h p => fixed 0 p (execNfcRdPoll h)),
  (0x5802, fun h p => atLeast 4 p (execNfcRdXchg h (u8At p 0) (u16At p 2) (p.drop 4))),
  (0x5803, fun h p => fixed 4 p (execNfcRdRelease h (u8At p 0))),
  (0x5804, fun h p => fixed 8 p (execNfcTagRead h (u16At p 0) (u16At p 2) (u8At p 4))),
  (0x5805, fun h p => atLeast 8 p (execNfcTagWrite h (u16At p 0) (u16At p 2) (u8At p 4) (p.drop 8))),
  (0x5806, fun h p => fixed 0 p (execNfcInfo h)),
  (0x5880, fun h p => fixed 196 p (execNfcSigLoadX h (u8At p 0) (p.drop 4))),
  (0x5881, fun h p => fixed 0 p (execNfcLpCalX h))]

/-- Display, fault and update opcodes (Tables DSP-3, FLT-7, UPD-7). -/
def serviceOps : List HostOp := [
  (0x6000, fun h p => fixed 0 p (execDspStatus h)),
  (0x6001, fun h p => atLeast 4 p (execDspWrite h (u8At p 0) (u8At p 1) (p.drop 4))),
  (0x6002, fun h p => fixed 4 p (execDspRead h (u8At p 0) (u8At p 1))),
  (0x6003, fun h p => fixed 0 p (execDspShowCheck h)),
  (0x6080, fun h p => fixed 260 p (execDspMapLoadX h (u8At p 0) (p.drop 4))),
  (0x7003, fun h p => fixed 0 p (execFltStatus h)),
  (0x7004, fun h p => fixed 8 p (execFltLogRead h (u32At p 0) (u8At p 4))),
  (0x7080, fun h p => fixed 36 p (execFltReturnX h (u8At p 0) (u8At p 1) (p.drop 4))),
  (0x7081, fun h p => fixed 36 p (execFltRetireX h (u8At p 0) (u8At p 1) (p.drop 4))),
  (0x7800, fun h p => fixed 0 p (execUpdStatus h)),
  (0x7880, fun h p => fixed 16 p (execUpdOpenX h (u8At p 0) (u8At p 1) (u32At p 4) (u64At p 8))),
  (0x7881, fun h p => atLeast 8 p (execUpdWriteX h (u8At p 0) (u16At p 2) (u32At p 4) (p.drop 8) none)),
  (0x7882, fun h p => fixed 4 p (execUpdFinishX h (u8At p 0))),
  (0x7883, fun h p => fixed 8 p (execUpdScheduleX h (u8At p 0) (u8At p 1) (u48At p 2))),
  (0x7884, fun h p => fixed 0 p (execUpdCancelX h)),
  (0x7885, fun h p => fixed 4 p (execUpdAbandonX h (u8At p 0))),
  (0x7886, fun h p => fixed 12 p (execUpdSiteSendX h (u8At p 0) (u64At p 4)))]

/-- An opcode's row, none for an opcode the manual does not define (R56). -/
def hostOp (op : Nat) : Option HostOp :=
  ([systemOps, sessionOps, poolOps, legalOps, safetyOps, siteOps, serviceOps].flatten).find? fun x => x.1 == op

/-! ### Admission (R37, R42) -/

/-- The state of an answer that goes on. -/
def nextOf (s : State) : Outcome State Fault Refusal → State
  | .next t => t
  | _ => s

/-- A packet admitted in this frame: its byte count and its CRC, then the checks of its opcode (R37). A command refused for
byte count or CRC is answered and not retained (R39). -/
def admitOne (w : WaitPkt) (s : State) : State :=
  let b := w.bytes
  let n := b.length - 4
  let op := u16At b 6
  let h : Hdr := { link := w.link, seq := u16At b 4, flags := (b[8]?).getD 0, txn := u8At b 9, version := u8At b 10,
                   crc := BitVec.ofNat 32 (leNat (b.drop n)) }
  if ¬ linkTakes s w.link then s
  else if b.length ≠ u16At b 2 then refuseNow h op 0x3002 [] (noteAdmitted w.link s)
  else if crc32 (b.take n) ≠ h.crc then refuseNow h op 0x3001 [] (noteAdmitted w.link s)
  else match hostOp op with
    | none => inWindow h op (fun s => refuseNow h op (if h.version ≠ 1 then 0x3008 else 0x3003) [] s) s
    | some x => match x.2 h ((b.take n).drop 16) with
      | some m => nextOf s (m s)
      | none => inWindow h op (fun s => refuseNow h op ((commonCheck h op false true).getD 0x3002) [] s) s

/-! ### What an accepted command does at step 6 (R23) -/

/-- The result a command is given at its effect, by its detail and bytes. -/
abbrev Effect := State × Option (Nat × List Byte)

/-- An effect without a result of its own. -/
def plain (s : State) : Effect := (s, none)

/-- An effect with result bytes. -/
def withBytes (d : DueCmd) (x : State × List Byte) : Effect := (x.1, some (d.detail, x.2))

/-- Effects of the system, parameter, outlet, pool and vehicle-link commands. -/
def applyFirst (d : DueCmd) (s : State) : Option Effect := match d.cmd with
  | .ethHello h slot nonce => some (applyHello h slot nonce s)
  | .pskSet _ slot key => some (plain (applyPskSet slot key s))
  | .pskClear _ slot => some (plain (applyPskClear slot s))
  | .reset _ reason => some (plain (applyReset reason s))
  | .paramWrite h _ es => some (plain (applyParamWrite h es s))
  | .paramWriteX h _ es => some (plain (applyParamWrite h es s))
  | .paramDefaultX _ area => some (plain (applyWrites (defaultWrites area) s))
  | .outPilotX _ outlet mode duty => some (plain (applyOutPilot outlet mode duty s))
  | .polProfileLoadX _ slot _ _ => some (plain (applyProfileLoad slot s))
  | .polPgClearX _ g reason => some (plain (applyPgClear g reason s))
  | .vlkSchedule _ outlet _ _ _ => some (plain (applySchedule outlet s))
  | .vlkCertResp _ outlet _ _ status _ => some (plain (applyCertResp outlet status s))
  | .vlkStatsClear _ outlet => some (plain (applyStatsClear outlet s))
  | .vlkKeygenX _ slot curve => some (plain (applyKeygen slot curve s))
  | .vlkCertLoadX _ slot _ _ _ => some (plain (applyCertLoad slot s))
  | .vlkKeyClearX _ slot => some (plain (applyKeyClear slot s))
  | _ => none

/-- Effects of the metrology, Onyx, safety and switch-bank commands. -/
def applySecond (d : DueCmd) (s : State) : Option Effect := match d.cmd with
  | .mtrCalOpenX _ slot band => some (plain (applyCalOpen slot band s))
  | .mtrCalMeasureX _ slot count => some (plain (applyCalMeasure slot count s))
  | .mtrCalSealX _ slot => some (plain (applyCalSeal slot s))
  | .mtrCalCloseX _ slot => some (plain (applyCalClose slot s))
  | .legClockSet _ mode value => some (withBytes d (applyClockSet mode value s))
  | .legTariffSet _ tariff hold mode _ => some (plain (if mode = 0 then selectTariff tariff hold s else s))
  | .legTzSet _ offset => some (plain (applyTzSet offset s))
  | .legTariffLoadX _ slot _ _ => some (plain (applyTariffLoad slot s))
  | .legAccessX _ action => some (plain (applyAccess action s))
  | .legCfgStageX _ _ es => some (plain (applyCfgStage es s))
  | .legCfgSealX _ => some (plain (applyCfgSeal s))
  | .legCfgDiscardX _ => some (plain (applyCfgDiscard s))
  | .efiRdcTest _ outlet => some (plain (applyRdcTest outlet s))
  | .efiImdTestX _ port => some (plain (applyImdTest port s))
  | .safCfgStageX _ _ es => some (plain (applySafStage es s))
  | .safCfgVerifyX _ => some (plain (applySafVerify s))
  | .safCfgCommitX _ _ => some (plain (applySafCommit s))
  | .safCfgDiscardX _ => some (plain (safDiscard s))
  | .safReset _ mask => some (plain (applySafReset mask s))
  | .auxClear _ channel reason => some (plain (applyAuxClear channel reason s))
  | _ => none

/-- Effects of the site-link, contactless, display, fault and update commands; of every other command nothing is left to do at
step 6: a read, or one whose internal transaction or decision carries it. -/
def applyThird (d : DueCmd) (s : State) : Effect := match d.cmd with
  | .slkSend _ dest flags data => withBytes d (applySlkSend dest flags data s)
  | .slkSched _ type c group body => withBytes d (applySched type c group body s)
  | .slkSchedCancel _ num => plain (applySchedCancel num s)
  | .slkKeySetX _ key => plain (applySlkKey key s)
  | .slkTonemapX _ node action => plain (applyTonemap node action s)
  | .nfcRdPoll _ => plain (applyRdPoll s)
  | .nfcRdXchg .. => plain (applyRdXchg s)
  | .nfcRdRelease _ handle => plain (applyRdRelease handle s)
  | .nfcTagWrite .. => plain (applyTagWrite s)
  | .nfcSigLoadX _ slot profile => plain (applySigLoad slot profile s)
  | .nfcLpCalX _ => plain (applyLpCal s)
  | .dspWrite _ row _ data => plain (applyDspWrite row data s)
  | .dspMapLoadX .. => plain (applyMapLoad s)
  | .fltReturnX _ kind number reason => plain (applyFltReturn kind number reason s)
  | .fltRetireX _ kind number reason => plain (applyFltRetire kind number reason s)
  | .updOpenX _ region flags length identity => plain (applyUpdOpen region flags length identity s)
  | .updWriteX _ region _ _ _ _ => plain (applyUpdWrite region s)
  | .updFinishX _ region => plain (applyUpdFinish region s)
  | .updAbandonX _ region => plain (applyUpdAbandon region s)
  | .updScheduleX _ mask _ _ => plain (applyUpdSchedule mask (leNat ((d.res.getD []).take 6)) s)
  | .updCancelX _ => plain (applyUpdCancel s)
  | .updSiteSendX _ _ group => withBytes d (applyUpdSiteSend group s)
  | _ => plain s

/-- The effect of a command. -/
def applyCmd (d : DueCmd) (s : State) : Effect := (applyFirst d s).getD ((applySecond d s).getD (applyThird d s))

/-- Whether a command is an immediate parameter write: at a power-fail edge step 6 applies none (R55). -/
def isWrite (d : DueCmd) : Bool := match d.cmd with
  | .paramWrite h _ _ => h.txn == 0
  | .paramWriteX h _ _ => h.txn == 0
  | .paramDefaultX _ _ => true
  | _ => false

/-- Whether a command is a RESET (R55, R58). -/
def isReset (d : DueCmd) : Bool := match d.cmd with
  | .reset _ _ => true
  | _ => false

/-- Whether a command takes effect at step 4: a clock adjustment comes before the boundaries (Table ARC-4). -/
def isClock (d : DueCmd) : Bool := match d.cmd with
  | .legClockSet _ _ _ => true
  | .legTzSet _ _ => true
  | _ => false

/-- One command that is due at this edge: its effect, with its result noted; at a power-fail edge a write or a RESET is
answered with class 0x40 and has none (R55). -/
def applyDue (d : DueCmd) (s : State) : State :=
  let note (detail : Nat) (res : Option (List Byte)) (s : State) : State :=
    { s with due := s.due.map fun x => if x = d then { d with cls := detail / 256, detail := detail, res := res } else x }
  if powerFailed s && (isWrite d || isReset d) then note 0x4002 (if isWrite d then some (writeResult 0 0xFF 0) else some []) s
  else match applyCmd d s with
    | (s, some (detail, res)) => note detail (some res) s
    | (s, none) => s

/-- The commands due at this edge, in order of admission (R54), clock adjustments first. -/
def applyDues (s : State) : State :=
  let l := s.due.filter fun d => d.frame == s.frame
  (l.filter isClock ++ l.filter fun d => !isClock d).foldl (fun (s : State) (d : DueCmd) => applyDue d s) s

/-! ### Replies (R34, R53) -/

/-- The results of the system, parameter, queue, transaction, outlet, pool and vehicle-link reads. -/
def resultFirst (c : Instr) (s : State) : Option (State × List Byte) := match c with
  | .identify _ => some (s, identifyResult s)
  | .linkInfo _ flags => some (if flags % 2 = 1 then modCounters (fun _ => {}) s else s, linkInfoResult s)
  | .frameRead _ => some (s, frameReadResult s)
  | .pskSet _ _ key => some (s, (sha256 key).take 4)
  | .paramRead _ _ es => some (s, paramReadResult es s)
  | .paramInfo _ id => some (s, paramInfoResult id)
  | .paramList _ area page => some (s, paramListResult area page)
  | .queueRead _ queue words => some (readQueue queue words s)
  | .queueDrop _ queue => some (dropQueue queue s)
  | .queueStatus _ queue flags => some (statusQueue queue flags s)
  | .txnQuery h => some (s, txnQueryResult h.txn s)
  | .txnList _ => some (s, txnListResult s)
  | .outStart _ outlet _ _ _ _ _ => some (s, outLimitsResult outlet s)
  | .outLimit _ outlet _ _ _ => some (s, outLimitsResult outlet s)
  | .outStatus _ outlet => some (s, outStatusResult outlet s)
  | .polStatus _ => some (s, polStatusResult s)
  | .polProfileInfo _ slot => some (s, profileInfoResult slot s)
  | .vlkStatus _ outlet => some (s, vlkStatusResult outlet s)
  | .vlkKeygenX _ slot _ => some (s, keygenResult slot s)
  | _ => none

/-- The results of the other reads; a command without one answers with no bytes. -/
def resultSecond (c : Instr) (s : State) : List Byte := match c with
  | .mtrRead _ slot => mtrReadResult slot s
  | .mtrHarm _ slot channel => mtrHarmResult slot channel s
  | .mtrCalInfo _ slot => mtrCalInfoResult slot s
  | .mtrCalResultX _ slot => mtrCalResult slot s
  | .legRead _ slot _ codes => legReadResult slot codes s
  | .legClockRead _ => clockReadResult s
  | .legTariffInfo _ => tariffInfoResult s
  | .legLogRead _ area count first => logReadResult area count first s
  | .legProfileRead _ slot count first => profileReadResult slot count first s
  | .legInfo _ => legInfoResult s
  | .efiStatus _ outlet => efiStatusResult outlet s
  | .safStatus _ => safStatusResult s
  | .safWhy _ object => safWhyResult object s
  | .safInfo _ => safInfoResult s
  | .auxStatus _ => auxStatusResult s
  | .slkStatus _ => slkStatusResult s
  | .slkNodes _ page => slkNodesResult page s
  | .slkSchedList _ => schedListResult s
  | .slkTonemapX _ node _ => tonemapResult node s
  | .nfcStatus _ => nfcStatusResult s
  | .nfcTagRead _ file off len => tagRead s file off len
  | .nfcInfo _ => nfcInfoResult s
  | .dspStatus _ => dspStatusResult s
  | .dspRead _ row count => dspReadResult row count s
  | .fltStatus _ => fltStatusResult s
  | .fltLogRead _ first count => fltLogResult first count s
  | .updStatus _ => updStatusResult s
  | _ => []

/-- The result of a reply as it is formed (R53): as noted, or read from the state; a queue read takes its words. -/
def liveResult (d : DueCmd) (s : State) : State × List Byte := match d.res with
  | some b => (s, b)
  | none => (resultFirst d.cmd s).getD (s, resultSecond d.cmd s)

/-- The reply of one command formed and sent; ETH_CLOSE closes its session behind its reply (R57). -/
def formReply (d : DueCmd) (s : State) : State :=
  let r := liveResult d s
  let slots := freeSlots s d.h.link
  let s : State := { r.1 with due := r.1.due.filter fun x => x != d }
  let s := if d.discard then s else sendReply (mkReply d.h d.opcode d.cls d.detail d.frame slots r.2) s
  if d.opcode = 0x0004 then (match d.h.link with
    | .eth i => closeSession i s
    | _ => s) else s

/-- The replies readable after step 8 of this frame (R53), before those sent in the frame itself. -/
def formReplies (s : State) : State :=
  let l := s.due.filter fun d => decide (d.frame ≤ s.frame)
  if l.isEmpty then s
  else
    let n := s.link.replies.length - s.link.tail
    let late := s.link.replies.drop n
    let s := l.foldl (fun (s : State) (d : DueCmd) => formReply d s) (modLink (fun k => { k with replies := k.replies.take n }) s)
    modLink (fun k => { k with replies := k.replies ++ late, tail := 0 }) s

/-! ### The rows that read the link or admit packets -/

/-- READ_REPLY with `count` bytes clocked out: the oldest reply, which leaves the FIFO when its last byte has been clocked
(R41); 16 zero bytes when none waits. -/
def execReadReply (count : Nat) (s : State) : Outcome State Fault Refusal :=
  if ¬ spiAlive s then ans s
  else
    let s := formReplies s
    match s.link.replies with
    | [] => ans (modLink (fun l => { l with spiOut := (List.replicate 16 0).take count }) s)
    | r :: rest =>
      let b := r.bytes
      ans (modLink (fun l => { l with spiOut := b.take count, tail := 0, replies := if b.length ≤ count then rest else l.replies }) s)

/-- READ_STATUS: the link status captured at one instant (R578). -/
def execReadStatus (s : State) : Outcome State Fault Refusal :=
  if ¬ spiAlive s then ans s
  else
    let s := formReplies s
    ans (modLink (fun l => { l with spiOut := linkStatus s }) s)

/-- LINK_SYNC (R51, steps 1 to 3); replies of commands still executing are discarded. -/
def execLinkSync (s : State) : Outcome State Fault Refusal :=
  if ¬ spiAlive s then ans s
  else
    let s := formReplies s
    ans
      { s with
        link := { s.link with waiting := s.link.waiting.filter (·.link != .spi), replies := [], tail := 0, window := [], code := 2,
                              ready := false, syncAt := some s.frame },
        due := s.due.map fun d => if d.h.link = .spi then { d with discard := true } else d }

/-- The waiting packets admitted, at most `n` (R42). -/
def admitSome : Nat → State → State
  | 0, s => s
  | n + 1, s => match s.link.waiting with
    | [] => s
    | w :: rest => admitSome n (admitOne w (modLink (fun l => { l with waiting := rest, admitCount := l.admitCount + 1 }) s))

/-- PACKET_ADMISSION: waiting packets in order of completion, at most 4 per frame (R42); an overrun of the job admits none in
its frame (R19). They are counted at step 1, before the replies of this frame are formed (R53), and executed after it (R23). -/
def execPacketAdmission (s : State) : Outcome State Fault Refusal :=
  if s.sys.skips.contains .hostPackets ∨ s.sys.service = .bringUp then ans s
  else
    let f := s.frame
    let s := if s.link.admitFrame = f then s else modLink (fun l => { l with admitFrame := f, admitCount := 0 }) s
    let n := 4 - s.link.admitCount
    let now := (s.link.waiting.take n).filter fun w => linkOpen s w.link
    let s := formReplies (now.foldl (fun (s : State) (w : WaitPkt) => noteAdmitted w.link s) s)
    ans (modLink (fun l => { l with noted := 0 }) (admitSome n (modLink (fun l => { l with noted := now.length }) s)))

end Sys2Proof.Machine
end

