-- ==== Sys2Proof/Machine/Frame.lean ====
section
/-! DEFINITION. The frame (R14 to R27): the slot jobs that end a frame, and the edge sequence that begins the next (R20). -/

namespace Sys2Proof.Machine

open Host

/-! ### The slot jobs of the frame that ends -/

/-- Whether a slot job completed in its frame: an overrun discards its result (R19). -/
def jobRan (s : State) (j : SlotJob) : Bool := !s.sys.skips.contains j

/-- A slot job, unless it overran. -/
def slotJob (j : SlotJob) (f : State → State) (s : State) : State := if jobRan s j then f s else s

/-- The session jobs of one outlet: its limits, its session state machine, then its setpoints (Table ARC-3). -/
def outletJobs (k : Fin 8) (s : State) : State :=
  slotJob (.setpoints k) (setpoints k) (slotJob (.session k) (fun x => sessionEval k (limitsSlot k x)) s)

/-- The command cores' jobs of a frame; none while they are halted (R531). -/
def coreJobs (s : State) : State :=
  if s.sys.coresHalted then s
  else
    let s := slotJob .pool budgetSlot (settleExpired s)
    let s := (allFin 8).foldl (fun (s : State) (k : Fin 8) => outletJobs k s) s
    poolSlot (forcedRollbacks s)

/-- Garnet's decisions of a frame; the cores agree on none when the global inputs or the comparison overran (R19, R22). -/
def garnetJobs (s : State) : State := slotJob .garnetGlobal (slotJob .garnetCompare garnetDecide) s

/-- The metrology engine's slot 9: temperature bands, then the commit check and the sealed path (Table ARC-3). -/
def meterJobs (s : State) : State :=
  slotJob .meterCommit (fun x => onyxCommit ((allFin 9).foldl (fun (s : State) (m : Fin 9) => bandDecide m s) x)) s

/-- Everything decided during a frame on its stamps, before the edge of the next. -/
def endOfFrame (s : State) : State :=
  let s := slotJob .switchBank auxSlot (coreJobs (garnetJobs s))
  let s := phase2Slot (finalChecks (meterJobs s))
  (allFin 2).foldl (fun (s : State) (c : Fin 2) => brakeTick c s) s

/-! ### Step 1: stamps (R20, R21) -/

/-- Onyx's health word and the command cores' heartbeat in the frame that has ended (R13). -/
def stampPartners (e : EdgeIn) (s : State) : State :=
  let health := e.health && !s.sys.onyxFailed && !s.onyx.checkBad
  let beat := e.heartbeat && !s.sys.coresHalted
  let miss (present : Bool) (n : Nat) : Nat := if present || !s.sys.garnetUp then 0 else n + 1
  let s := modSys (fun y => { y with onyxMissing := miss health y.onyxMissing, beatMissing := miss beat y.beatMissing }) s
  modGar (fun g => { g with partnerOk := if health && beat then g.partnerOk + 1 else 0 }) s

/-- The metrology engine: inputs, the length of the frame (R16), the temperature, then the pipeline of each slot and the
control measurements. -/
def stampMeters (e : EdgeIn) (s : State) : State :=
  let s := modMtr (fun x => { x with cycles := e.mtrCycles, temp := e.temp.getD x.temp }) s
  let s := (allFin 9).foldl (fun (s : State) (m : Fin 9) => slotTick m s) (stampInputs e.mods s)
  stampPool (stampControls s)

/-- Pilots and proximity of the outlets (R149, R159). -/
def stampPilots (e : EdgeIn) (s : State) : State :=
  vlkToggles ((allFin 8).foldl (fun (s : State) (k : Fin 8) =>
    proxStamp k ((e.prox.find? fun x => x.1 == k).map (·.2)) (pilotStamp k (e.pilots.find? fun x => x.k == k) s)) s)

/-- Residual current and insulation of the outlets; an overrun of Garnet's supervision discards the samples of its frame. -/
def stampEfi (ran : Fin 8 → Bool) (e : EdgeIn) (s : State) : State :=
  (allFin 8).foldl (fun (s : State) (k : Fin 8) =>
    if ran k then
      let exc := ((e.exc.find? fun x => x.1 == k).map (·.2)).getD 0
      let s := rdcTick k ((e.rdc.find? fun x => x.1 == k).map (·.2)) exc (e.winding.contains k) s
      imdTick k ((e.poles.find? fun x => x.1 == k).map (·.2)) s
    else s) s

/-- Garnet's inputs: safe inputs, feedbacks, the test-pulse samples, pilots (R380, R382, R387, R392); an input not listed keeps
its level. -/
def stampGarnet (old : Nat) (e : EdgeIn) (s : State) : State :=
  let s := (allFin 16).foldl (fun (s : State) (i : Fin 16) => match e.si.find? fun x => x.1 == i with
    | some x => stampSi i x.2.1 x.2.2 s
    | none => modSi i (fun y => { y with a := filtStamp y.a y.a.stamp, b := filtStamp y.b y.b.stamp }) s) s
  let s := (allFin 32).foldl (fun (s : State) (o : Fin 32) => match e.cfb.find? fun x => x.1 == o with
    | some x => stampFb o x.2 s
    | none => modSo o (fun y => { y with fb := filtStamp y.fb y.fb.stamp }) s) s
  stampGPilots e.gPilots e.driverBad (stampPulses old e.noLow s)

/-- The stamps of an edge, in the frame it begins. `old` is the frame that has ended. -/
def stampAll (old : Nat) (ran : Fin 8 → Bool) (e : EdgeIn) (s : State) : State :=
  let s := modSys (fun y => { y with vmain := e.vmain.getD y.vmain }) s
  let s := stampEfi ran e (stampPilots e (stampMeters e (stampPartners e s)))
  let s := stampGarnet old e (auxEdge e.vbank e.aux s)
  let s := e.canErr.foldl (fun (s : State) (x : Fin 2 × Nat × Nat) => stampPort x.1 x.2.1 x.2.2 s) s
  confirmAll (detectStamp (dspStamp e.vlcd (stampReadings (onyxTick e.legalTicks s))))

/-- The counts that the stamps feed: precharge, overcurrent, deviation, recovery and match runs. -/
def stampCounts (s : State) : State :=
  poolCounts ((allFin 8).foldl (fun (s : State) (k : Fin 8) => sessionCount k s) s)

/-! ### Steps 6 to 8 -/

/-- What step 6 of an edge applies (R20, R23): the image for flash, wake, host commands due, decisions of the last frame,
pilots, coupling slices, detection sweep, display. `pf` holds in frame P of a power fail (R146). -/
def applyStep (pf : Bool) (gone : Fin 8 → Bool) (s : State) : State :=
  let s := auxStep6 (updStep6 (applyDues (wakeStep (persistStamp s))))
  let s := if pf then powerFailStep6 s else s
  let s := outletsAvail (applyPends (poolConfig s))
  dspStep6 (detectStep6 (imdSlices (pilotOutputs (vlkStep6 gone s))))

/-- What follows step 6: Garnet's events of the last frame, refusals that the final check found, site parts marked, the run of
a recovering supply, sessions that a changed address closes. -/
def closeStep (s : State) : State :=
  let s := recoverStamp (markParts (refuseDue (garnetEvents s)))
  if s.link.closeDue then closeChanged (formReplies s) else s

/-! ### The edge -/

/-- The frame that ends: the replies of its frame leave, its bit flips reach the memories, its slot jobs complete. -/
def leaveFrame (e : EdgeIn) (s : State) : State :=
  let s := modLink (fun l => { l with tail := 0 }) (formReplies { s with outbox := [] })
  let s := e.flips.foldl (fun (s : State) (x : Fin 4 × Nat × Nat × BitVec 39) => flipWord x.1 x.2.1 x.2.2.1 x.2.2.2 s) s
  endOfFrame (dspFlip e.dspFlips s)

/-- The edge of the next frame (R20): `detect` when the main input is found failing at step 3 (R144). -/
def frameEdge (detect : Bool) (e : EdgeIn) (s : State) : State :=
  if s.sys.inReset then s
  else
    let old := s.frame
    let supervised (k : Fin 8) : Bool := jobRan s (.garnetSupervise k)
    let drive := jobRan s .garnetOutputs
    let gone (k : Fin 8) : Bool := s.outlets[k].pilot.accepted == .a
    let pf := detect && !powerFailed s
    let s := leaveFrame e s
    let s := dspTick (slkTrim (modSys (fun y => { y with skips := [] }) { s with frame := frameAfter old 1 }))
    let s := stampAll old supervised e s
    let s := if drive then garnetStep2 s else s
    let s := stampCounts (if s.sys.garnetUp then tickCheck e.gntCycles s else s)
    let s := if pf then powerFailStep3 s else s
    closeStep (applyStep pf gone s)

/-- FRAME_TICK: the edge of the next frame with what it stamps (R14, R20). -/
def execFrameTick (e : EdgeIn) (s : State) : Outcome State Fault Refusal := ans (frameEdge false e s)

/-- POWER_FAIL_DETECTED: the edge of frame P, at whose step 3 the main input is found below its threshold (R144); while a
power fail already lasts, an ordinary edge. -/
def execPowerFailDetected (e : EdgeIn) (s : State) : Outcome State Fault Refusal := ans (frameEdge true e s)

end Sys2Proof.Machine
end

