-- ==== Sys2Proof/Machine/Dispatch.lean ====
section
/-! DEFINITION. The dispatch: one arm per command, each a direct call of its meaning. -/

namespace Sys2Proof.Machine

open Host

def exec (i : Instr) (s : State) : Host.Outcome State Fault Refusal :=
  match i with
  | .frameTick e => Sys2Proof.Machine.execFrameTick e s
  | .sysPartnerLost beat => Sys2Proof.Machine.execSysPartnerLost beat s
  | .sysSlotOvrun job => Sys2Proof.Machine.execSysSlotOvrun job s
  | .writePacket bytes => Sys2Proof.Machine.execWritePacket bytes s
  | .readReply count => Sys2Proof.Machine.execReadReply count s
  | .readStatus => Sys2Proof.Machine.execReadStatus s
  | .linkSync => Sys2Proof.Machine.execLinkSync s
  | .linkReady => Sys2Proof.Machine.execLinkReady s
  | .datagramReceived peer bytes => Sys2Proof.Machine.execDatagramReceived peer bytes s
  | .packetAdmission => Sys2Proof.Machine.execPacketAdmission s
  | .ethSessionTimeout i0 => Sys2Proof.Machine.execEthSessionTimeout i0 s
  | .cmdHostLost => Sys2Proof.Machine.execCmdHostLost s
  | .nop h => Sys2Proof.Machine.execNop h s
  | .identify h => Sys2Proof.Machine.execIdentify h s
  | .linkInfo h flags => Sys2Proof.Machine.execLinkInfo h flags s
  | .ethHello h slot nonce => Sys2Proof.Machine.execEthHello h slot nonce s
  | .ethClose h => Sys2Proof.Machine.execEthClose h s
  | .frameRead h => Sys2Proof.Machine.execFrameRead h s
  | .pskSet h slot key => Sys2Proof.Machine.execPskSet h slot key s
  | .pskClear h slot => Sys2Proof.Machine.execPskClear h slot s
  | .reset h reason => Sys2Proof.Machine.execReset h reason s
  | .paramRead h count entries => Sys2Proof.Machine.execParamRead h count entries s
  | .paramWrite h count entries => Sys2Proof.Machine.execParamWrite h count entries s
  | .paramInfo h id => Sys2Proof.Machine.execParamInfo h id s
  | .paramList h area page => Sys2Proof.Machine.execParamList h area page s
  | .paramWriteX h count entries => Sys2Proof.Machine.execParamWriteX h count entries s
  | .paramDefaultX h area => Sys2Proof.Machine.execParamDefaultX h area s
  | .paramPersist => Sys2Proof.Machine.execParamPersist s
  | .queueRead h queue words => Sys2Proof.Machine.execQueueRead h queue words s
  | .queueDrop h queue => Sys2Proof.Machine.execQueueDrop h queue s
  | .queueStatus h queue flags => Sys2Proof.Machine.execQueueStatus h queue flags s
  | .txnOpen h => Sys2Proof.Machine.execTxnOpen h s
  | .txnStage h count acts => Sys2Proof.Machine.execTxnStage h count acts s
  | .txnCheck h => Sys2Proof.Machine.execTxnCheck h s
  | .txnCommit h mode frame => Sys2Proof.Machine.execTxnCommit h mode frame s
  | .txnAbort h => Sys2Proof.Machine.execTxnAbort h s
  | .txnQuery h => Sys2Proof.Machine.execTxnQuery h s
  | .txnList h => Sys2Proof.Machine.execTxnList h s
  | .txnIdleTimeout n => Sys2Proof.Machine.execTxnIdleTimeout n s
  | .finalCheck n => Sys2Proof.Machine.execFinalCheck n s
  | .txnCommitted n => Sys2Proof.Machine.execTxnCommitted n s
  | .txnRollback n => Sys2Proof.Machine.execTxnRollback n s
  | .rollbackPhase1 n => Sys2Proof.Machine.execRollbackPhase1 n s
  | .rollbackPhase2 n => Sys2Proof.Machine.execRollbackPhase2 n s
  | .setpointCurrentRestore n => Sys2Proof.Machine.execSetpointCurrentRestore n s
  | .stxnPrepareResend n => Sys2Proof.Machine.execStxnPrepareResend n s
  | .stxnPrepareReceived source number siteC acts => Sys2Proof.Machine.execStxnPrepareReceived source number siteC acts s
  | .stxnVoteDeadline n => Sys2Proof.Machine.execStxnVoteDeadline n s
  | .stxnAbortResend n => Sys2Proof.Machine.execStxnAbortResend n s
  | .stxnAbortReceived source number => Sys2Proof.Machine.execStxnAbortReceived source number s
  | .stxnApply source number => Sys2Proof.Machine.execStxnApply source number s
  | .stxnOutcomeReport source number applied => Sys2Proof.Machine.execStxnOutcomeReport source number applied s
  | .stxnDone n => Sys2Proof.Machine.execStxnDone n s
  | .powerOn vmain ticks cell => Sys2Proof.Machine.execPowerOn vmain ticks cell s
  | .mainInputLow vmain => Sys2Proof.Machine.execMainInputLow vmain s
  | .rstN ns => Sys2Proof.Machine.execRstN ns s
  | .resetRelease => Sys2Proof.Machine.execResetRelease s
  | .garnetUp ok test fb => Sys2Proof.Machine.execGarnetUp ok test fb s
  | .onyxUp ok test => Sys2Proof.Machine.execOnyxUp ok test s
  | .coarseService => Sys2Proof.Machine.execCoarseService s
  | .imageVerified sigOk => Sys2Proof.Machine.execImageVerified sigOk s
  | .loopbackSelfTest port ok exchange snr => Sys2Proof.Machine.execLoopbackSelfTest port ok exchange snr s
  | .fullService => Sys2Proof.Machine.execFullService s
  | .cellMonitor mV => Sys2Proof.Machine.execCellMonitor mV s
  | .tamperSample open0 open1 => Sys2Proof.Machine.execTamperSample open0 open1 s
  | .powerFailDetected e => Sys2Proof.Machine.execPowerFailDetected e s
  | .powerDownOpen => Sys2Proof.Machine.execPowerDownOpen s
  | .powerFailWriteSet => Sys2Proof.Machine.execPowerFailWriteSet s
  | .tailRecord => Sys2Proof.Machine.execTailRecord s
  | .powerFailRecovery => Sys2Proof.Machine.execPowerFailRecovery s
  | .pilotStateAccepted k => Sys2Proof.Machine.execPilotStateAccepted k s
  | .proximityAccepted k => Sys2Proof.Machine.execProximityAccepted k s
  | .outStart h outlet profile limImp limExp cur session => Sys2Proof.Machine.execOutStart h outlet profile limImp limExp cur session s
  | .outStop h outlet reason => Sys2Proof.Machine.execOutStop h outlet reason s
  | .outLimit h outlet limImp limExp cur => Sys2Proof.Machine.execOutLimit h outlet limImp limExp cur s
  | .outDeny h outlet reason => Sys2Proof.Machine.execOutDeny h outlet reason s
  | .outStatus h outlet => Sys2Proof.Machine.execOutStatus h outlet s
  | .outPilotX h outlet mode duty => Sys2Proof.Machine.execOutPilotX h outlet mode duty s
  | .deferredAdmission => Sys2Proof.Machine.execDeferredAdmission s
  | .authTimeout k => Sys2Proof.Machine.execAuthTimeout k s
  | .deferralTimeout k => Sys2Proof.Machine.execDeferralTimeout k s
  | .basicFallback k => Sys2Proof.Machine.execBasicFallback k s
  | .cableCheckTimeout k => Sys2Proof.Machine.execCableCheckTimeout k s
  | .prechargeComplete k => Sys2Proof.Machine.execPrechargeComplete k s
  | .prechargeTimeout k => Sys2Proof.Machine.execPrechargeTimeout k s
  | .acStopTimeout k => Sys2Proof.Machine.execAcStopTimeout k s
  | .outOvercurrent k => Sys2Proof.Machine.execOutOvercurrent k s
  | .stopOpening k => Sys2Proof.Machine.execStopOpening k s
  | .outStopLoad k => Sys2Proof.Machine.execOutStopLoad k s
  | .weldCheckDischarged k => Sys2Proof.Machine.execWeldCheckDischarged k s
  | .outDischarge k => Sys2Proof.Machine.execOutDischarge k s
  | .weldCheckEvaluation k => Sys2Proof.Machine.execWeldCheckEvaluation k s
  | .faultHoldEnd k => Sys2Proof.Machine.execFaultHoldEnd k s
  | .statusFrameReceived port id data => Sys2Proof.Machine.execStatusFrameReceived port id data s
  | .pgDeviationFail g => Sys2Proof.Machine.execPgDeviationFail g s
  | .polPgLost g => Sys2Proof.Machine.execPolPgLost g s
  | .groupRecovery g => Sys2Proof.Machine.execGroupRecovery g s
  | .setpointFrameSend g => Sys2Proof.Machine.execSetpointFrameSend g s
  | .polCanBusoff port tec rec => Sys2Proof.Machine.execPolCanBusoff port tec rec s
  | .polCanRecover port => Sys2Proof.Machine.execPolCanRecover port s
  | .polAssign h outlet mask => Sys2Proof.Machine.execPolAssign h outlet mask s
  | .polStatus h => Sys2Proof.Machine.execPolStatus h s
  | .polProfileInfo h slot => Sys2Proof.Machine.execPolProfileInfo h slot s
  | .polProfileLoadX h slot offset data => Sys2Proof.Machine.execPolProfileLoadX h slot offset data s
  | .polPgClearX h group reason => Sys2Proof.Machine.execPolPgClearX h group reason s
  | .moveRampDownEnd m => Sys2Proof.Machine.execMoveRampDownEnd m s
  | .busMatch m => Sys2Proof.Machine.execBusMatch m s
  | .busMatchTimeout m => Sys2Proof.Machine.execBusMatchTimeout m s
  | .moveTakeUpEnd m => Sys2Proof.Machine.execMoveTakeUpEnd m s
  | .tieFeedback t => Sys2Proof.Machine.execTieFeedback t s
  | .preambleDetected k at_ => Sys2Proof.Machine.execPreambleDetected k at_ s
  | .frameControlDecoded k own lenUs rifs at_ => Sys2Proof.Machine.execFrameControlDecoded k own lenUs rifs at_ s
  | .payloadDecoded k ok at_ => Sys2Proof.Machine.execPayloadDecoded k ok at_ s
  | .vlkLaneMiss k at_ => Sys2Proof.Machine.execVlkLaneMiss k at_ s
  | .sackSent k at_ => Sys2Proof.Machine.execSackSent k at_ s
  | .cmSlacParmReq k runId => Sys2Proof.Machine.execCmSlacParmReq k runId s
  | .mSound k runId attenuation => Sys2Proof.Machine.execMSound k runId attenuation s
  | .cmSlacMatchReq k runId => Sys2Proof.Machine.execCmSlacMatchReq k runId s
  | .cmValidateReq k runId => Sys2Proof.Machine.execCmValidateReq k runId s
  | .vlkSlacRetry k => Sys2Proof.Machine.execVlkSlacRetry k s
  | .vlkSlacMatched k => Sys2Proof.Machine.execVlkSlacMatched k s
  | .vlkLinkLost k cause => Sys2Proof.Machine.execVlkLinkLost k cause s
  | .slacInitTimeout k => Sys2Proof.Machine.execSlacInitTimeout k s
  | .slacJoinTimeout k => Sys2Proof.Machine.execSlacJoinTimeout k s
  | .setupTimeout k => Sys2Proof.Machine.execSetupTimeout k s
  | .sequenceTimeout k => Sys2Proof.Machine.execSequenceTimeout k s
  | .resumeTimeout k => Sys2Proof.Machine.execResumeTimeout k s
  | .sdpRequest k tls => Sys2Proof.Machine.execSdpRequest k tls s
  | .tcpConnection k => Sys2Proof.Machine.execTcpConnection k s
  | .tcpReset k => Sys2Proof.Machine.execTcpReset k s
  | .clientHello k v13 acceptable => Sys2Proof.Machine.execClientHello k v13 acceptable s
  | .tlsHandshakeComplete k ok alert => Sys2Proof.Machine.execTlsHandshakeComplete k ok alert s
  | .supportedAppProtocolReq k offers => Sys2Proof.Machine.execSupportedAppProtocolReq k offers s
  | .t1sPlcaRunning port => Sys2Proof.Machine.execT1sPlcaRunning port s
  | .t1sLinkLoss port collision => Sys2Proof.Machine.execT1sLinkLoss port collision s
  | .sessionSetupReq k evccid sessionId => Sys2Proof.Machine.execSessionSetupReq k evccid sessionId s
  | .authorizationReq k payment sigOk => Sys2Proof.Machine.execAuthorizationReq k payment sigOk s
  | .paymentDetailsReq k emaid chain leafKey => Sys2Proof.Machine.execPaymentDetailsReq k emaid chain leafKey s
  | .serviceDiscoveryReq k => Sys2Proof.Machine.execServiceDiscoveryReq k s
  | .chargeParameterDiscoveryReq k energy departure vMax maxI maxP maxDis bpt => Sys2Proof.Machine.execChargeParameterDiscoveryReq k energy departure vMax maxI maxP maxDis bpt s
  | .cableCheckReq k => Sys2Proof.Machine.execCableCheckReq k s
  | .preChargeReq k target => Sys2Proof.Machine.execPreChargeReq k target s
  | .powerDeliveryReqStart k => Sys2Proof.Machine.execPowerDeliveryReqStart k s
  | .currentDemandReq k target current soc => Sys2Proof.Machine.execCurrentDemandReq k target current soc s
  | .chargingStatusReq k maxI soc => Sys2Proof.Machine.execChargingStatusReq k maxI soc s
  | .powerDeliveryReqStop k pause sessionStop => Sys2Proof.Machine.execPowerDeliveryReqStop k pause sessionStop s
  | .weldingDetectionReq k => Sys2Proof.Machine.execWeldingDetectionReq k s
  | .meteringReceiptReq k sigOk receipt => Sys2Proof.Machine.execMeteringReceiptReq k sigOk receipt s
  | .certificateInstallationReq k update body => Sys2Proof.Machine.execCertificateInstallationReq k update body s
  | .responseHandoff k => Sys2Proof.Machine.execResponseHandoff k s
  | .vlkHostWait k => Sys2Proof.Machine.execVlkHostWait k s
  | .vehicleStatusRecord k => Sys2Proof.Machine.execVehicleStatusRecord k s
  | .vlkStatus h outlet => Sys2Proof.Machine.execVlkStatus h outlet s
  | .vlkSchedule h outlet part total data => Sys2Proof.Machine.execVlkSchedule h outlet part total data s
  | .vlkCertResp h outlet part total status data => Sys2Proof.Machine.execVlkCertResp h outlet part total status data s
  | .vlkStatsClear h outlet => Sys2Proof.Machine.execVlkStatsClear h outlet s
  | .vlkKeygenX h slot curve => Sys2Proof.Machine.execVlkKeygenX h slot curve s
  | .vlkCertLoadX h slot part total data => Sys2Proof.Machine.execVlkCertLoadX h slot part total data s
  | .vlkKeyClearX h slot => Sys2Proof.Machine.execVlkKeyClearX h slot s
  | .vlkLoopbackX h outlet => Sys2Proof.Machine.execVlkLoopbackX h outlet s
  | .partSequenceTimeout of => Sys2Proof.Machine.execPartSequenceTimeout of s
  | .mtrModFault n cause => Sys2Proof.Machine.execMtrModFault n cause s
  | .mtrModOk n => Sys2Proof.Machine.execMtrModOk n s
  | .zeroCrossing m => Sys2Proof.Machine.execZeroCrossing m s
  | .mtrZcLost m => Sys2Proof.Machine.execMtrZcLost m s
  | .settleBoundary m => Sys2Proof.Machine.execSettleBoundary m s
  | .pulseOutput m => Sys2Proof.Machine.execPulseOutput m s
  | .harmonicsRefresh m => Sys2Proof.Machine.execHarmonicsRefresh m s
  | .mtrRead h slot => Sys2Proof.Machine.execMtrRead h slot s
  | .mtrHarm h slot channel => Sys2Proof.Machine.execMtrHarm h slot channel s
  | .mtrCalInfo h slot => Sys2Proof.Machine.execMtrCalInfo h slot s
  | .mtrCalOpenX h slot band => Sys2Proof.Machine.execMtrCalOpenX h slot band s
  | .mtrCalMeasureX h slot count => Sys2Proof.Machine.execMtrCalMeasureX h slot count s
  | .mtrCalDone m => Sys2Proof.Machine.execMtrCalDone m s
  | .mtrCalResultX h slot => Sys2Proof.Machine.execMtrCalResultX h slot s
  | .mtrCalSealX h slot => Sys2Proof.Machine.execMtrCalSealX h slot s
  | .mtrCalCloseX h slot => Sys2Proof.Machine.execMtrCalCloseX h slot s
  | .fltMtrEngine => Sys2Proof.Machine.execFltMtrEngine s
  | .mtrEngineRestart => Sys2Proof.Machine.execMtrEngineRestart s
  | .checkValueRecompute value => Sys2Proof.Machine.execCheckValueRecompute value s
  | .legInterval => Sys2Proof.Machine.execLegInterval s
  | .legTariff => Sys2Proof.Machine.execLegTariff s
  | .slewComplete => Sys2Proof.Machine.execSlewComplete s
  | .foldEnd => Sys2Proof.Machine.execFoldEnd s
  | .persistWriteSet => Sys2Proof.Machine.execPersistWriteSet s
  | .readingSnapshot counter => Sys2Proof.Machine.execReadingSnapshot counter s
  | .signatureStart => Sys2Proof.Machine.execSignatureStart s
  | .legReadingReady counter => Sys2Proof.Machine.execLegReadingReady counter s
  | .accessTimeout => Sys2Proof.Machine.execAccessTimeout s
  | .sealN high => Sys2Proof.Machine.execSealN high s
  | .legRead h slot count codes => Sys2Proof.Machine.execLegRead h slot count codes s
  | .legReading h slot kind curve => Sys2Proof.Machine.execLegReading h slot kind curve s
  | .legReadingGet h counter => Sys2Proof.Machine.execLegReadingGet h counter s
  | .legClockSet h mode value => Sys2Proof.Machine.execLegClockSet h mode value s
  | .legClockRead h => Sys2Proof.Machine.execLegClockRead h s
  | .legTariffSet h tariff hold mode frame => Sys2Proof.Machine.execLegTariffSet h tariff hold mode frame s
  | .tariffSelectionApply => Sys2Proof.Machine.execTariffSelectionApply s
  | .legTariffInfo h => Sys2Proof.Machine.execLegTariffInfo h s
  | .legLogRead h area count first => Sys2Proof.Machine.execLegLogRead h area count first s
  | .legProfileRead h slot count first => Sys2Proof.Machine.execLegProfileRead h slot count first s
  | .legInfo h => Sys2Proof.Machine.execLegInfo h s
  | .legTzSet h offset => Sys2Proof.Machine.execLegTzSet h offset s
  | .legTariffLoadX h slot offset data => Sys2Proof.Machine.execLegTariffLoadX h slot offset data s
  | .legAccessX h action => Sys2Proof.Machine.execLegAccessX h action s
  | .legCfgStageX h count entries => Sys2Proof.Machine.execLegCfgStageX h count entries s
  | .legCfgSealX h => Sys2Proof.Machine.execLegCfgSealX h s
  | .legCfgDiscardX h => Sys2Proof.Machine.execLegCfgDiscardX h s
  | .efiRdcTrip k => Sys2Proof.Machine.execEfiRdcTrip k s
  | .rdcOffsetMeasure k => Sys2Proof.Machine.execRdcOffsetMeasure k s
  | .rdcSelfTestEnd k => Sys2Proof.Machine.execRdcSelfTestEnd k s
  | .efiRdcFault k => Sys2Proof.Machine.execEfiRdcFault k s
  | .portAssignment p => Sys2Proof.Machine.execPortAssignment p s
  | .sliceReadbackFail p => Sys2Proof.Machine.execSliceReadbackFail p s
  | .insulationResult p kOhm => Sys2Proof.Machine.execInsulationResult p kOhm s
  | .sliceEnd p => Sys2Proof.Machine.execSliceEnd p s
  | .imdStaleTrip k => Sys2Proof.Machine.execImdStaleTrip k s
  | .balanceTrip k => Sys2Proof.Machine.execBalanceTrip k s
  | .efiCouplingFault k => Sys2Proof.Machine.execEfiCouplingFault k s
  | .referenceTest p ok => Sys2Proof.Machine.execReferenceTest p ok s
  | .peMeasurement k mOhm => Sys2Proof.Machine.execPeMeasurement k mOhm s
  | .efiStatus h outlet => Sys2Proof.Machine.execEfiStatus h outlet s
  | .efiRdcTest h outlet => Sys2Proof.Machine.execEfiRdcTest h outlet s
  | .efiImdTestX h port => Sys2Proof.Machine.execEfiImdTestX h port s
  | .safeInputAccepted i0 b => Sys2Proof.Machine.execSafeInputAccepted i0 b s
  | .safeInputDiscrepancy i0 => Sys2Proof.Machine.execSafeInputDiscrepancy i0 s
  | .testPulseMissing i0 b => Sys2Proof.Machine.execTestPulseMissing i0 b s
  | .outputTest out kind => Sys2Proof.Machine.execOutputTest out kind s
  | .soOvercurrent so => Sys2Proof.Machine.execSoOvercurrent so s
  | .contactorFeedback so => Sys2Proof.Machine.execContactorFeedback so s
  | .garnetStop cause => Sys2Proof.Machine.execGarnetStop cause s
  | .safCpLoss k => Sys2Proof.Machine.execSafCpLoss k s
  | .safCdEnable h cd action => Sys2Proof.Machine.execSafCdEnable h cd action s
  | .brakeRelease c => Sys2Proof.Machine.execBrakeRelease c s
  | .ss1Timeout c => Sys2Proof.Machine.execSs1Timeout c s
  | .safBrakeTest h cd => Sys2Proof.Machine.execSafBrakeTest h cd s
  | .brakeTestWindowStart c => Sys2Proof.Machine.execBrakeTestWindowStart c s
  | .brakeTestEnd c => Sys2Proof.Machine.execBrakeTestEnd c s
  | .safBrakeDue c => Sys2Proof.Machine.execSafBrakeDue c s
  | .scfgN high => Sys2Proof.Machine.execScfgN high s
  | .safStatus h => Sys2Proof.Machine.execSafStatus h s
  | .safWhy h object => Sys2Proof.Machine.execSafWhy h object s
  | .safReset h mask => Sys2Proof.Machine.execSafReset h mask s
  | .safInfo h => Sys2Proof.Machine.execSafInfo h s
  | .safCfgStageX h count entries => Sys2Proof.Machine.execSafCfgStageX h count entries s
  | .safCfgVerifyX h => Sys2Proof.Machine.execSafCfgVerifyX h s
  | .safCfgCommitX h signature => Sys2Proof.Machine.execSafCfgCommitX h signature s
  | .safCfgDiscardX h => Sys2Proof.Machine.execSafCfgDiscardX h s
  | .auxSet h channel mode duty => Sys2Proof.Machine.execAuxSet h channel mode duty s
  | .auxStatus h => Sys2Proof.Machine.execAuxStatus h s
  | .auxClear h channel reason => Sys2Proof.Machine.execAuxClear h channel reason s
  | .shortCircuit n => Sys2Proof.Machine.execShortCircuit n s
  | .thermalTrip n => Sys2Proof.Machine.execThermalTrip n s
  | .thermalLatchClear n => Sys2Proof.Machine.execThermalLatchClear n s
  | .overcurrentTrip n => Sys2Proof.Machine.execOvercurrentTrip n s
  | .auxOpenLoad n => Sys2Proof.Machine.execAuxOpenLoad n s
  | .auxLoadOk n => Sys2Proof.Machine.execAuxLoadOk n s
  | .queuedStart => Sys2Proof.Machine.execQueuedStart s
  | .blankingEnd n => Sys2Proof.Machine.execBlankingEnd n s
  | .retryDelayEnd n => Sys2Proof.Machine.execRetryDelayEnd n s
  | .retryWindowEnd n => Sys2Proof.Machine.execRetryWindowEnd n s
  | .auxUv => Sys2Proof.Machine.execAuxUv s
  | .auxUvOk => Sys2Proof.Machine.execAuxUvOk s
  | .auxCtrlFault check => Sys2Proof.Machine.execAuxCtrlFault check s
  | .plcFrameReceived f => Sys2Proof.Machine.execPlcFrameReceived f s
  | .addrConflictEnd => Sys2Proof.Machine.execAddrConflictEnd s
  | .helloSend => Sys2Proof.Machine.execHelloSend s
  | .slkNode addr => Sys2Proof.Machine.execSlkNode addr s
  | .plcRetransmit dest => Sys2Proof.Machine.execPlcRetransmit dest s
  | .toneMapRefresh addr => Sys2Proof.Machine.execToneMapRefresh addr s
  | .beaconSend => Sys2Proof.Machine.execBeaconSend s
  | .beaconRelay hop => Sys2Proof.Machine.execBeaconRelay hop s
  | .beaconReceived b => Sys2Proof.Machine.execBeaconReceived b s
  | .holdoverStart => Sys2Proof.Machine.execHoldoverStart s
  | .holdoverExpiry => Sys2Proof.Machine.execHoldoverExpiry s
  | .rootElection => Sys2Proof.Machine.execRootElection s
  | .rootTakeover => Sys2Proof.Machine.execRootTakeover s
  | .slkProfile => Sys2Proof.Machine.execSlkProfile s
  | .slkStatus h => Sys2Proof.Machine.execSlkStatus h s
  | .slkNodes h page => Sys2Proof.Machine.execSlkNodes h page s
  | .slkSend h dest flags data => Sys2Proof.Machine.execSlkSend h dest flags data s
  | .slkSched h type siteC group body => Sys2Proof.Machine.execSlkSched h type siteC group body s
  | .schedDistribute num => Sys2Proof.Machine.execSchedDistribute num s
  | .schedAckDeadline num => Sys2Proof.Machine.execSchedAckDeadline num s
  | .schedActionReceived source num type siteC group body => Sys2Proof.Machine.execSchedActionReceived source num type siteC group body s
  | .schedActionApply source num => Sys2Proof.Machine.execSchedActionApply source num s
  | .schedCancelReceived source num => Sys2Proof.Machine.execSchedCancelReceived source num s
  | .slkSchedCancel h num => Sys2Proof.Machine.execSlkSchedCancel h num s
  | .slkSchedList h => Sys2Proof.Machine.execSlkSchedList h s
  | .schedOutcome num => Sys2Proof.Machine.execSchedOutcome num s
  | .wakeRequestSend dest => Sys2Proof.Machine.execWakeRequestSend dest s
  | .slkKeySetX h key => Sys2Proof.Machine.execSlkKeySetX h key s
  | .slkTonemapX h node action => Sys2Proof.Machine.execSlkTonemapX h node action s
  | .lpPing re im => Sys2Proof.Machine.execLpPing re im s
  | .lpCalibration re im => Sys2Proof.Machine.execLpCalibration re im s
  | .poll found => Sys2Proof.Machine.execPoll found s
  | .cardSelected c => Sys2Proof.Machine.execCardSelected c s
  | .presenceCheck handle present => Sys2Proof.Machine.execPresenceCheck handle present s
  | .handleIdleTimeout handle => Sys2Proof.Machine.execHandleIdleTimeout handle s
  | .exchangeAnswer status data => Sys2Proof.Machine.execExchangeAnswer status data s
  | .nfcField on => Sys2Proof.Machine.execNfcField on s
  | .tagFrameReceived frame => Sys2Proof.Machine.execTagFrameReceived frame s
  | .phoneUpdateBinary => Sys2Proof.Machine.execPhoneUpdateBinary s
  | .tagStart => Sys2Proof.Machine.execTagStart s
  | .nfcTagDone => Sys2Proof.Machine.execNfcTagDone s
  | .fdRelease => Sys2Proof.Machine.execFdRelease s
  | .nfcStatus h => Sys2Proof.Machine.execNfcStatus h s
  | .nfcRdPoll h => Sys2Proof.Machine.execNfcRdPoll h s
  | .nfcRdXchg h handle len data => Sys2Proof.Machine.execNfcRdXchg h handle len data s
  | .nfcRdRelease h handle => Sys2Proof.Machine.execNfcRdRelease h handle s
  | .nfcTagRead h file offset len => Sys2Proof.Machine.execNfcTagRead h file offset len s
  | .nfcTagWrite h file offset len data => Sys2Proof.Machine.execNfcTagWrite h file offset len data s
  | .nfcInfo h => Sys2Proof.Machine.execNfcInfo h s
  | .nfcSigLoadX h slot profile => Sys2Proof.Machine.execNfcSigLoadX h slot profile s
  | .nfcLpCalX h => Sys2Proof.Machine.execNfcLpCalX h s
  | .legalComposition => Sys2Proof.Machine.execLegalComposition s
  | .dspCrcOk => Sys2Proof.Machine.execDspCrcOk s
  | .dspBiasFault => Sys2Proof.Machine.execDspBiasFault s
  | .checkScreenEnd => Sys2Proof.Machine.execCheckScreenEnd s
  | .mapChunkTimeout => Sys2Proof.Machine.execMapChunkTimeout s
  | .dspStatus h => Sys2Proof.Machine.execDspStatus h s
  | .dspWrite h row count data => Sys2Proof.Machine.execDspWrite h row count data s
  | .dspRead h row count => Sys2Proof.Machine.execDspRead h row count s
  | .dspShowCheck h => Sys2Proof.Machine.execDspShowCheck h s
  | .dspMapLoadX h chunk data => Sys2Proof.Machine.execDspMapLoadX h chunk data s
  | .fenceBuild => Sys2Proof.Machine.execFenceBuild s
  | .fltFence d => Sys2Proof.Machine.execFltFence d s
  | .retirementRecord => Sys2Proof.Machine.execRetirementRecord s
  | .fltReturn d => Sys2Proof.Machine.execFltReturn d s
  | .lockstepMismatch => Sys2Proof.Machine.execLockstepMismatch s
  | .fltAgate => Sys2Proof.Machine.execFltAgate s
  | .fltSelfcheck d check => Sys2Proof.Machine.execFltSelfcheck d check s
  | .fltStatus h => Sys2Proof.Machine.execFltStatus h s
  | .fltLogRead h first count => Sys2Proof.Machine.execFltLogRead h first count s
  | .fltReturnX h kind number reason => Sys2Proof.Machine.execFltReturnX h kind number reason s
  | .fltRetireX h kind number reason => Sys2Proof.Machine.execFltRetireX h kind number reason s
  | .updStatus h => Sys2Proof.Machine.execUpdStatus h s
  | .updOpenX h region flags length identity => Sys2Proof.Machine.execUpdOpenX h region flags length identity s
  | .updWriteX h region len offset data bad => Sys2Proof.Machine.execUpdWriteX h region len offset data bad s
  | .updFinishX h region => Sys2Proof.Machine.execUpdFinishX h region s
  | .updScheduleX h mask mode frame => Sys2Proof.Machine.execUpdScheduleX h mask mode frame s
  | .updCancelX h => Sys2Proof.Machine.execUpdCancelX h s
  | .updAbandonX h region => Sys2Proof.Machine.execUpdAbandonX h region s
  | .updSiteSendX h region group => Sys2Proof.Machine.execUpdSiteSendX h region group s
  | .siteBlockSend => Sys2Proof.Machine.execSiteBlockSend s
  | .siteBlockReceived source number offset data => Sys2Proof.Machine.execSiteBlockReceived source number offset data s
  | .updateActReceived source num siteC identity => Sys2Proof.Machine.execUpdateActReceived source num siteC identity s
  | .updActivation => Sys2Proof.Machine.execUpdActivation s
  | .activationWaitExpiry => Sys2Proof.Machine.execActivationWaitExpiry s
  | .vioLow => Sys2Proof.Machine.execVioLow s
  | .pilotSupplyFault => Sys2Proof.Machine.execPilotSupplyFault s
  | .pilotSupplyOk => Sys2Proof.Machine.execPilotSupplyOk s
  | .vioRestored => Sys2Proof.Machine.execVioRestored s
  | .agateUnitsRestarted => Sys2Proof.Machine.execAgateUnitsRestarted s
  | .tieWeldCleared t => Sys2Proof.Machine.execTieWeldCleared t s

end Sys2Proof.Machine
end

