-- ==== Sys2Proof/Safety.lean ====
section
/-! DEFINITION. The terms in which statements about the machine are made: a host command that its link takes and that passes the
checks every command meets, the state in which an accepted command waits for the edge of the next frame, and the state after a
command's effect at step 6. -/

namespace Sys2Proof.Machine

/-- A command is new to its link: the link takes commands (R42, R48, R50), and no retained command has its sequence number
(R39). -/
def Fresh (h : Hdr) (s : State) : Prop :=
  linkTakes s h.link = true ∧ (linkWindow s h.link).find? (fun r => r.seq == h.seq) = none

/-- The state once a new command is counted (R42, R52) and entered in its link's window (R39). -/
def entered (h : Hdr) (s : State) : State := enterWindow h (noteAdmitted h.link s)

/-- A new command passes the checks of R37 from the version on, and those of R59, R60 and R141. -/
structure Passes (h : Hdr) (op : Nat) (layout lengths : Bool) (s : State) : Prop where
  fresh  : Fresh h s
  common : commonCheck h op layout lengths = none
  state  : stateCheck h op s = none

/-- An accepted command as it waits for the edge of the next frame (R23). -/
def waitingCmd (c : Instr) (h : Hdr) (op detail : Nat) (res : Option (List Byte)) (s : State) : DueCmd :=
  { h := h, cmd := c, opcode := op, frame := frameAfter s.frame 1, cls := detail / 256, detail := detail, res := res }

/-- The state in which an accepted command waits, nothing but its link and the list of waiting commands changed (R23). -/
def accepted (c : Instr) (h : Hdr) (op detail : Nat) (res : Option (List Byte)) (s : State) : State :=
  { entered h s with due := s.due ++ [waitingCmd c h op detail res s] }

/-- The state in which a new command has been refused and answered in its own frame, nothing but its link and what leaves the part
changed (R10, R23). -/
def refused (h : Hdr) (op detail : Nat) (result : List Byte) (s : State) : State := refuseNow h op detail result (entered h s)

/-- What one entry of the list of waiting commands does at step 6 of its edge: the state after it. -/
def atEdge (c : Instr) (h : Hdr) (op detail : Nat) (res : Option (List Byte)) (s : State) : State :=
  (applyCmd { h := h, cmd := c, opcode := op, frame := s.frame, cls := detail / 256, detail := detail, res := res } s).1

/-- The result a reply carries when it is formed in a state (R53). -/
def resultIn (c : Instr) (h : Hdr) (s : State) : List Byte :=
  (liveResult { h := h, cmd := c, opcode := 0, frame := s.frame, cls := 0, detail := 0, res := none } s).2

/-- The state in which an outlet's next session state is decided for step 6 of the next frame (R162), nothing else changed. -/
def decided (k : Fin 8) (p : Pend) (s : State) : State :=
  { s with outlets := s.outlets.set k { s.outlets[k] with pend := some p } }

/-- An opening of an outlet's contactors can be built: one of them is on, none is under way, and a number is free (R107, R185). -/
def CanOpen (k : Fin 8) (s : State) : Prop :=
  soLive s k ≠ [] ∧ (∀ x ∈ s.txn.txns, purposeOpens k x.purpose = false) ∧ freeInternal s ≠ none

/-- An internal transaction that opens every contactor of the outlet that is on is committed for the next frame (R185). -/
def Opening (k : Fin 8) (s t : State) : Prop :=
  ∃ x ∈ t.txn.txns, purposeOpens k x.purpose = true ∧ x.state = .pending ∧ x.commitFrame = some (frameAfter s.frame 1)
    ∧ x.actions.map (fun a => a.act) = (soLive s k).map fun o => Action.contactor o false

/-- A vehicle's link serves a request (R247): its port carries traffic, it is in SESSION and up, and no request awaits its
response. -/
structure LinkServes (k : Fin 8) (s : State) : Prop where
  usable  : portUsable s k = true
  session : s.vlk.ports[k].st = .session
  up      : s.vlk.ports[k].down = false
  goesOn  : s.vlk.ports[k].stopped = false
  free    : s.vlk.ports[k].req = none

/-- A request has been stamped: its response is due, and VLK.T.SEQ has stopped (R248, R249). -/
def Asked (k : Fin 8) (kind : ReqKind) (answer : Answer) (s t : State) : Prop :=
  t.vlk.ports[k].req = some { kind := kind, frame := s.frame, answer := answer } ∧ t.vlk.ports[k].timers.seq = none
    ∧ t.vlk.ports[k].st = .session ∧ t.params = s.params

/-- A link has failed with a cause of Table VLK-8 (R246): its timers stop, it goes OFF at the next frame, and VLK_LINK_LOST is
queued there. -/
def LinkDown (k : Fin 8) (cause : Nat) (s t : State) : Prop :=
  t.vlk.ports[k].down = true ∧ t.vlk.ports[k].cause = cause ∧ t.vlk.ports[k].timers = {}
    ∧ t.garnet.evNext = s.garnet.evNext ++ [(0x63, k.val, 0, cause)]

/-- The insulation of an outlet has tripped (R364): the session's trigger is set, and EFI_IMD_TRIP is queued for the next frame
with an argument. -/
def ImdTripped (k : Fin 8) (arg : Nat) (s t : State) : Prop :=
  t.efi.imd[k].tripped = true ∧ t.efi.imd[k].status = 2 ∧ t.garnet.trips[k] = some s.frame
    ∧ t.garnet.evNext = s.garnet.evNext ++ [(0x94, k.val, 0, arg)] ∧ t.params = s.params

/-- What a module reset from a source leaves, whatever stood before (R118 to R120): frame 0, no service level, both islands
and every session at their start, no command, transaction or open link left, what R119 names kept. -/
structure AfterReset (source : Nat) (s t : State) : Prop where
  frame    : t.frame = 0
  service  : t.sys.service = .bringUp
  islands  : t.sys.garnetUp = false ∧ t.sys.onyxUp = false
  source   : t.sys.resetSource = source ∧ t.beryl.resetSource = source
  powered  : t.sys.powerFail = none ∧ t.sys.resetDue = none
  due      : t.due = []
  txn      : t.txn = {}
  outlets  : t.outlets = .replicate 8 {}
  efi      : t.efi = State.reset.efi
  aux      : t.aux = State.reset.aux
  outputs  : ∀ o : Fin 32, t.garnet.outs[o].driven = false ∧ t.garnet.outs[o].granted = false
  link     : t.link.ready = false ∧ t.link.code = 1 ∧ t.link.window = [] ∧ t.link.replies = []
  keys     : t.link.psk = s.link.psk
  flash    : t.persisted = s.persisted
  pending  : t.pending = s.pending

/-- What every step keeps: the frame number is 48 bits wide (R15), no queue holds more than its words (R73), the parameter store, its
persisted copy and the copy about to be written have their keys rising, and the addressed buffers are in canonical form. -/
structure Sound (s : State) : Prop where
  frame     : s.frame < 2 ^ 48
  queues    : ∀ q : Fin 4, 4 * s.queues[q].recs.length ≤ queueWords q
  params    : storeWf s.params
  persisted : storeWf s.persisted
  image     : ∀ img, s.sys.toPersist = some img → storeWf img
  tag       : memWf s.nfc.mem = true
  picture   : memWf s.dsp.mem = true ∧ memWf s.dsp.opal = true ∧ memWf s.dsp.map = true

end Sys2Proof.Machine
end

