-- ==== Sys2Proof/Certificates/Slice0/Obligations.lean ====
section
/-! DEFINITION. The statements for the provers: what each row of the opcode table does, by the manual's chapters, with the
rules it formalises in its docstring, and what holds of the whole machine. -/

open Sys2Proof Sys2Proof.Machine

/-! ### The frame, the queues and the whole machine (chapters 01 and 02) -/

/-- FRAME_TICK and POWER_FAIL_DETECTED (R14 to R16, R19, R20, R144): the frame number increases by one, modulo 2^48; the supply
and the length of the frame are stamped; the overruns of the frame that ended are forgotten. A main input found failing at step 3
makes the new frame frame P, unless a power fail already lasts. A part held in reset has no frame tick. -/
def Obligations.EdgesBeginTheNextFrame : Prop :=
  ∀ (s : State) (e : EdgeIn),
    (s.sys.inReset = true → exec (.frameTick e) s = .next s ∧ exec (.powerFailDetected e) s = .next s)
    ∧ (s.sys.inReset = false → ∃ t u, exec (.frameTick e) s = .next t ∧ exec (.powerFailDetected e) s = .next u
      ∧ t.frame = frameAfter s.frame 1 ∧ u.frame = frameAfter s.frame 1 ∧ t.pending = s.pending ∧ u.pending = s.pending
      ∧ t.sys.skips = [] ∧ u.sys.skips = [] ∧ t.sys.vmain = e.vmain.getD s.sys.vmain ∧ u.sys.vmain = e.vmain.getD s.sys.vmain
      ∧ t.mtr.cycles = e.mtrCycles ∧ u.mtr.cycles = e.mtrCycles ∧ t.sys.powerFail = s.sys.powerFail
      ∧ u.sys.powerFail = some (s.sys.powerFail.getD (frameAfter s.frame 1)))

/-- A packet of one to 16 records is queued whole or not at all (R74, R75): stored, it takes the next PSEQ and its first record alone
carries LOST when a packet was lost before it; discarded, it takes no PSEQ and its records are counted lost. In queue 0 the last 64
words are left to permanent events. -/
def Obligations.PacketsAreQueuedWholeOrNotAtAll : Prop :=
  ∀ (id dom detail arg : Nat) (payload : List Byte) (s : State), id < 256 → dom < 16 → payload.length ≤ 180 →
    let n := 1 + (payload.length + 11) / 12
    let room (q : Fin 4) : Nat := if q = 0 then (if permanentEvent id detail arg then 4096 else 4032) else queueWords q
    let after (q : Fin 4) (t : State) : Prop :=
      let x := s.queues[q]
      let y := t.queues[q]
      (4 * (x.recs.length + n) ≤ room q → ∃ r others, y.recs = x.recs ++ r :: others ∧ others.length + 1 = n
        ∧ r.w0.data.getLsbD 28 = x.lostMark ∧ r.w0.data.getLsbD 30 = false ∧ r.w0.data.extractLsb' 16 8 = BitVec.ofNat 8 id
        ∧ (∀ c ∈ others, c.w0.data.getLsbD 28 = false ∧ c.w0.data.getLsbD 30 = true)
        ∧ y.pseq = (x.pseq + 1) % 256 ∧ y.lostMark = false ∧ y.lost = x.lost)
      ∧ (room q < 4 * (x.recs.length + n) → y.recs = x.recs ∧ y.pseq = x.pseq ∧ y.lostMark = true
        ∧ (x.lost + n < 2 ^ 32 → y.lost = x.lost + n))
    after 0 (pushEvent id dom detail arg payload s) ∧ ∀ q : Fin 4, q ≠ 0 → after q (pushData q id dom detail arg payload s)

/-- The whole-machine invariant holds after reset. -/
def Obligations.ResetIsSound : Prop := Sound State.reset

/-- Every step completes, takes exactly the front command from the queue, and keeps the invariant: the frame number stays 48 bits
wide (R15), no queue exceeds its words (R73), the parameter store, its persisted copy and the addressed buffers keep their canonical
form. -/
def Obligations.EveryStepCompletesAndKeepsTheMachineSound : Prop :=
  ∀ s : State, Sound s → ∃ t, step s = .next t ∧ Sound t ∧ t.pending = s.pending.tail

/-! ### The queue of commands, the links and the common checks (chapter 02) -/

/-- Each step takes the command at the front of the queue and runs it on the state with the queue's rest; with no command waiting
the part idles (the model's choice: log entries 1 and 2). -/
def Obligations.StepRunsTheFrontCommand : Prop :=
  ∀ (c : Instr) (rest : List Instr) (s : State),
    step { s with pending := c :: rest } = exec c { s with pending := rest } ∧ (s.pending = [] → step s = .next s)

/-- The SPI link. WRITE_PACKET (R36, R42, R50): a packet is discarded and counted while the link is not ready, with no slot free, when
fewer than 16 bytes arrive, for a wrong SYNC or for a LENGTH outside 20 to 1,044; every other packet takes its place behind those
that wait. READ_REPLY and READ_STATUS (R41, R578), with no reply left to form: the oldest reply is clocked out and leaves the FIFO
only when its last byte has been clocked; with none waiting 16 zero bytes come; the status bytes are those of Table CMD-5.
LINK_SYNC (R51): the packets that wait and the unread replies go, the window is empty, the link shows code 2 and is not ready;
commands already accepted stay; transactions and queues are as they were. LINK_READY: at an edge after it, in a service level, the
link is ready and shows the level's code. -/
def Obligations.TheSpiLinkTakesDeliversAndResynchronises : Prop :=
  (∀ (b : List Byte) (s : State), spiAlive s = true →
    let sync := leNat (b.take 2)
    let len := leNat ((b.drop 2).take 2)
    let counted (c : LinkCounters) : State := { s with link := { s.link with counters := c } }
    let k := s.link.counters
    exec (.writePacket b) s = .next (
      if s.link.ready = false then counted { k with spiNotReady := min (k.spiNotReady + 1) (2 ^ 32 - 1) }
      else if freeSlots s .spi = 0 then counted { k with spiNoSlot := min (k.spiNoSlot + 1) (2 ^ 32 - 1) }
      else if b.length < 16 then counted { k with spiLength := min (k.spiLength + 1) (2 ^ 32 - 1) }
      else if sync ≠ 0xC39A then counted { k with spiSync := min (k.spiSync + 1) (2 ^ 32 - 1) }
      else if len < 20 ∨ 1044 < len then counted { k with spiLength := min (k.spiLength + 1) (2 ^ 32 - 1) }
      else { s with link := { s.link with waiting := s.link.waiting ++ [{ link := .spi, bytes := b }] } })
  ) ∧ (
  ∀ (n : Nat) (s : State), spiAlive s = true → (∀ d ∈ s.due, s.frame < d.frame) →
    (∀ r rest, s.link.replies = r :: rest →
      exec (.readReply n) s = .next { s with link := { s.link with
        spiOut := r.bytes.take n, tail := 0, replies := if r.bytes.length ≤ n then rest else r :: rest } })
    ∧ (s.link.replies = [] → exec (.readReply n) s = .next { s with link := { s.link with spiOut := (List.replicate 16 0).take n } })
    ∧ exec .readStatus s = .next { s with link := { s.link with spiOut :=
        [BitVec.ofNat 8 ((if s.link.ready then 0x80 else 0) + (if s.link.replies = [] then 0 else 0x40) + (if s.queues[0].unread = 0 then 0 else 0x20)),
         BitVec.ofNat 8 (freeSlots s .spi), BitVec.ofNat 8 s.link.replies.length, BitVec.ofNat 8 s.link.code] } }
  ) ∧ (
  ∀ (s : State), spiAlive s = true → (∀ d ∈ s.due, s.frame < d.frame) →
    exec .linkSync s = .next { s with
      link := { s.link with waiting := s.link.waiting.filter (fun w => w.link != .spi), replies := [], tail := 0, window := [],
                            code := 2, ready := false, syncAt := some s.frame }
      due := s.due.map fun d => if d.h.link = .spi then { d with discard := true } else d }
    ∧ ∀ f, s.link.syncAt = some f → f < s.frame → s.sys.service ≠ .bringUp →
      exec .linkReady s = .next { s with link := { s.link with ready := true, code := serviceCode s.sys.service, syncAt := none } })

/-- DATAGRAM_RECEIVED on an open session (R45, R46) and ETH_SESSION_TIMEOUT (R47): a datagram whose TAG holds under the session key
and whose COUNTER is new restarts the timeout, and its packet waits; an unknown session is counted and nothing else happens; a
session without an accepted datagram for SYS.ETH.SESS.TMO frames closes with CMD_LINK_RESYNC. -/
def Obligations.EthernetSessionsAcceptAndExpire : Prop :=
  (∀ (peer : Nat) (body tag : List Byte) (s : State) (i : Fin 2) (e : EthSession),
    let sid := leNat (body.take 4)
    let cnt := leNat ((body.drop 4).take 8)
    let packet := body.drop 12
    s.sys.inReset = false → pbool s 0x0010 0 = true → s.sys.service ≠ .bringUp → watching s = false →
    28 ≤ body.length → tag.length = 16 → sid ≠ 0 → findSession s sid = some i → s.link.sessions[i] = some e →
    tag = (hmac256 e.key body).take 16 → 1 ≤ cnt → e.rxHigh < cnt + 64 → cnt ∉ e.rxSeen →
    leNat (packet.take 2) = 0xC39A → 20 ≤ leNat ((packet.drop 2).take 2) → leNat ((packet.drop 2).take 2) ≤ 1044 →
    0 < freeSlots s (.eth i) →
    exec (.datagramReceived peer (body ++ tag)) s = .next { s with link := { s.link with
      counters := { s.link.counters with ethAccepted := min (s.link.counters.ethAccepted + 1) (2 ^ 32 - 1) }
      sessions := s.link.sessions.set i (some (noteCounter e cnt s.frame peer))
      waiting := s.link.waiting ++ [{ link := .eth i, bytes := packet }] } })
  ∧ (∀ (peer : Nat) (b : List Byte) (s : State),
    s.sys.inReset = false → pbool s 0x0010 0 = true → s.sys.service ≠ .bringUp → watching s = false →
    28 ≤ b.length → leNat (b.take 4) ≠ 0 → findSession s (leNat (b.take 4)) = none →
    exec (.datagramReceived peer b) s = .next { s with link := { s.link with
      counters := { s.link.counters with ethUnknown := min (s.link.counters.ethUnknown + 1) (2 ^ 32 - 1) } } })
  ∧ (∀ (s : State) (i : Fin 2) (e : EthSession), s.link.sessions[i] = some e → e.lastRx + pget s 0x0012 0 ≤ s.frame →
    exec (.ethSessionTimeout i) s = .next (ev 0x0A 12 0 0 { s with link := { s.link with
      sessions := s.link.sessions.set i none, waiting := s.link.waiting.filter (fun w => w.link != .eth i) } }))

/-- PACKET_ADMISSION (R37, R39, R42): of a single waiting SPI packet, a byte count other than its LENGTH is refused first, then a
wrong CRC, each answered in this frame and not retained; an opcode that the manual does not define is refused and retained; a NOP
is accepted for the next edge. A packet that finds four admitted in its frame goes on waiting. -/
def Obligations.AdmissionChecksInOrder : Prop :=
  ∀ (b : List Byte) (s : State), s.link.waiting = [{ link := .spi, bytes := b }] → s.sys.skips.contains .hostPackets = false →
    s.sys.service ≠ .bringUp → s.link.ready = true → s.link.noted = 0 → s.due = [] → s.link.replies.length < 16 →
    (∀ r ∈ s.link.window, r.seq ≠ u16At b 4) →
    let n := b.length - 4
    let crc : BitVec 32 := BitVec.ofNat 32 (leNat (b.drop n))
    let answered (t : State) (detail kept : Nat) : Prop :=
      t.link.waiting = [] ∧ t.due = [] ∧ t.link.window.length = min 16 (s.link.window.length + kept) ∧
      ∃ r, t.link.replies = s.link.replies ++ [r] ∧ r.cls = 0x30 ∧ r.detail = detail ∧ r.frame = s.frame ∧ r.seq = u16At b 4
        ∧ r.opcode = u16At b 6 ∧ r.result = []
    (s.link.admitFrame = s.frame → 4 ≤ s.link.admitCount → ∃ t, exec .packetAdmission s = .next t ∧ t.link.waiting = s.link.waiting)
    ∧ (s.link.admitFrame ≠ s.frame → s.link.window.length ≤ 16 →
        (b.length ≠ u16At b 2 → ∃ t, exec .packetAdmission s = .next t ∧ answered t 0x3002 0)
        ∧ (b.length = u16At b 2 → crc32 (b.take n) ≠ crc → ∃ t, exec .packetAdmission s = .next t ∧ answered t 0x3001 0)
        ∧ (b.length = u16At b 2 → crc32 (b.take n) = crc → u8At b 10 = 1 → hostOp (u16At b 6) = none →
            ∃ t, exec .packetAdmission s = .next t ∧ answered t 0x3003 1)
        ∧ (b.length = 20 → u16At b 2 = 20 → crc32 (b.take n) = crc → u8At b 10 = 1 → u16At b 6 = 0 →
            ((b[8]?).getD 0).getLsbD 7 = false → u8At b 9 = 0 → watching s = false →
            ∃ t, exec .packetAdmission s = .next t ∧ t.link.waiting = [] ∧ ∃ d, t.due = [d] ∧ d.cmd = .nop d.h ∧ d.h.seq = u16At b 4
              ∧ d.frame = frameAfter s.frame 1 ∧ d.cls = 0))

/-- The sequence window (R39), for every host command by the operation they share: a command whose SEQ and CRC are those of a
retained one is answered with the retained reply, or dropped while the original executes; with another CRC it is refused with
0x3006; nothing is executed again. -/
def Obligations.RetainedCommandsAreNotExecutedAgain : Prop :=
  ∀ (h : Hdr) (op : Nat) (c : Instr) (layout lengths : Bool) (bad : List Byte) (rules : State → Verdict) (s : State) (r : Retained),
    linkTakes s h.link = true → (linkWindow s h.link).find? (fun r => r.seq == h.seq) = some r →
    let t := hostCmd h op c layout lengths bad rules s
    (r.crc = h.crc → ∀ p, r.reply = some p → t = sendReply p (noteAdmitted h.link s))
    ∧ (r.crc = h.crc → r.reply = none → t = noteAdmitted h.link s)
    ∧ (r.crc ≠ h.crc → t = refuseNow h op 0x3006 [] (noteAdmitted h.link s))
    ∧ t.due = s.due ∧ t.params = s.params ∧ t.outlets = s.outlets ∧ t.queues = s.queues

/-- The common checks (R37, R38, R59, R60, R141), for every host command by the operation they share: the first that fails refuses a
new command in its own frame with its detail, in the order VERSION, EXPERT flag, transaction number, length, value lengths,
service level, watch state, transaction. A refusal leaves every part of the state but its link, and what leaves the part, as it was
(R10). -/
def Obligations.CommonChecksRefuseInOrderAndChangeNothing : Prop :=
  (∀ (h : Hdr) (op : Nat) (c : Instr) (layout lengths : Bool) (bad : List Byte) (rules : State → Verdict) (s : State), Fresh h s →
    let t := hostCmd h op c layout lengths bad rules s
    let expert := decide (op / 128 % 2 = 1)
    (h.version ≠ 1 → t = refused h op 0x3008 [] s)
    ∧ (h.version = 1 → h.flags.getLsbD 7 ≠ expert → t = refused h op 0x3004 [] s)
    ∧ (h.version = 1 → h.flags.getLsbD 7 = expert → h.txn ≠ 0 → txnOpcode op = false → t = refused h op 0x3007 [] s)
    ∧ (h.version = 1 → h.flags.getLsbD 7 = expert → (h.txn ≠ 0 → txnOpcode op = true) →
        (layout = false → t = refused h op 0x3002 [] s)
        ∧ (layout = true → lengths = false → t = refused h op 0x3009 bad s)
        ∧ (layout = true → lengths = true → op ≠ 0x0101 → op ≠ 0x0181 →
            (available s op = false → t = refused h op 0x1005 [] s)
            ∧ (available s op = true → watching s = true → watchOff op = true → t = refused h op 0x1001 [] s)
            ∧ (available s op = true → watching s = false → h.txn ≠ 0 → findTxn s h.txn = none → t = refused h op 0x1002 [] s)))
  ) ∧ (
  ∀ (h : Hdr) (op : Nat) (c : Instr) (layout lengths : Bool) (bad : List Byte) (rules : State → Verdict) (s : State) (d : Nat)
    (res : List Byte), Passes h op layout lengths s → rules (entered h s) = .refuse d res →
    ∃ t, hostCmd h op c layout lengths bad rules s = t ∧ t = { s with link := t.link, outbox := t.outbox })

/-- The system commands (R44, R57, R58, R587): a new one that passes the common checks and its own rules waits for the next edge, and
nothing else changes before it. NOP has no effect there; PSK_SET writes its slot, PSK_CLEAR erases it and closes its session,
ETH_HELLO opens a session under a key made from both nonces, ETH_CLOSE closes its session behind its reply, and FRAME_READ answers
the frame of its edge. RESET is accepted with every outlet contactor open; at its edge the release falls due 80 frames on; RESET_RELEASE then resets the module with source 5 and the command's reason in the SYS_RESET
record of an otherwise empty event queue at frame 0 (R119, R120). -/
def Obligations.SystemCommandsAndResetTakeEffectAtTheEdge : Prop :=
  (∀ (h : Hdr) (s : State),
    (Passes h 0x0000 true true s → exec (.nop h) s = .next (accepted (.nop h) h 0x0000 0 none s))
    ∧ (∀ u, atEdge (.nop h) h 0x0000 0 none u = u)
    ∧ (Passes h 0x0001 true true s → exec (.identify h) s = .next (accepted (.identify h) h 0x0001 0 none s))
    ∧ (∀ fl, Passes h 0x0002 true true s → exec (.linkInfo h fl) s = .next (accepted (.linkInfo h fl) h 0x0002 0 none s))
    ∧ (Passes h 0x0005 true true s → exec (.frameRead h) s = .next (accepted (.frameRead h) h 0x0005 0 none s))
    ∧ (∀ u : State, (resultIn (.frameRead h) h u).take 6 = leBytes 6 u.frame)
    ∧ (∀ (slot : Nat) (key : List Byte), h.link = .spi → slot < 4 → key.length = 32 → Passes h 0x0080 true true s →
        exec (.pskSet h slot key) s = .next (accepted (.pskSet h slot key) h 0x0080 0 none s))
    ∧ (∀ (slot : Fin 4) (key : List Byte) (u : State), atEdge (.pskSet h slot key) h 0x0080 0 none u =
        { u with link := { u.link with psk := u.link.psk.set slot (some key) } })
    ∧ (∀ slot, h.link = .spi → slot < 4 → Passes h 0x0081 true true s →
        exec (.pskClear h slot) s = .next (accepted (.pskClear h slot) h 0x0081 0 none s))
    ∧ (∀ (slot : Fin 4) (u : State) (i : Fin 2) (e : EthSession), u.link.sessions[i] = some e →
        let t := atEdge (.pskClear h slot) h 0x0081 0 none u
        t.link.psk[slot] = none ∧ t.link.sessions[i] = (if e.slot = slot.val then none else some e))
    ∧ (∀ (peer k slot : Nat) (nonce : List Byte), h.link = .ethOpen peer k → slot < 4 → nonce.length = 16 →
        helloIndex s slot ≠ none → Passes h 0x0003 true true s →
        exec (.ethHello h slot nonce) s = .next (accepted (.ethHello h slot nonce) h 0x0003 0 none s))
    ∧ (∀ (peer k slot : Nat) (nonce : List Byte) (u : State) (i : Fin 2), h.link = .ethOpen peer k → helloIndex u slot = some i →
        ∃ e, (atEdge (.ethHello h slot nonce) h 0x0003 0 none u).link.sessions[i] = some e ∧ e.slot = slot ∧ e.rxHigh = 0 ∧ e.txNext = 1
          ∧ e.window = [] ∧ e.peer = peer ∧ e.lastRx = u.frame)
    ∧ (∀ i, h.link = .eth i → Passes h 0x0004 true true s →
        exec (.ethClose h) s = .next (accepted (.ethClose h) h 0x0004 0 none s))
  ) ∧ (
  ∀ (h : Hdr) (reason : Nat) (s : State),
    ((∀ o : Fin 24, fbClosed s ⟨o.val, by omega⟩ = false) → Passes h 0x0090 true true s →
      exec (.reset h reason) s = .next (accepted (.reset h reason) h 0x0090 0 none s))
    ∧ (let t := atEdge (.reset h reason) h 0x0090 0 none s
       t.sys.resetDue = some (frameAfter s.frame 80) ∧ t.sys.resetReason = reason ∧ t.frame = s.frame ∧ t.params = s.params)
    ∧ (s.sys.powerFail = none → s.upd.resetBy = none → s.sys.resetDue ≠ none →
        ∃ t, exec .resetRelease s = .next t ∧ t.frame = 0 ∧ t.sys.service = .bringUp ∧ t.sys.resetSource = 5 ∧ t.sys.resetDue = none
          ∧ t.sys.inReset = false ∧ t.beryl.resetSource = 5 ∧ t.link.psk = s.link.psk ∧ t.link.ready = false ∧ t.link.code = 1
          ∧ (t.queues[0].recs.map fun r => r.w3.data.toNat).head? = some (5 + s.sys.resetReason % 256 * 256)))

/-- The queue commands (R76, R77, R79): accepted for a queue 0 to 3 and 1 to 255 words; QUEUE_READ delivers the words of an intact
record from its first word on and they leave the queue, an empty queue delivers one zero word; QUEUE_DROP discards the rest of the
packet begun and does nothing at a packet boundary, where it is answered with class 0; QUEUE_STATUS gives the fill and clears the
counts when asked. -/
def Obligations.QueueCommandsDeliverAndDrop : Prop :=
  ∀ (h : Hdr) (q : Fin 4) (s : State),
    (∀ w, 0 < w → w ≤ 255 → Passes h 0x7000 true true s →
      exec (.queueRead h q w) s = .next (accepted (.queueRead h q w) h 0x7000 0 none s))
    ∧ (∀ w u, u.queues[q].recs = [] → readQueue q w u = ({ u with queues := u.queues.set q u.queues[q] }, leBytes 2 1 ++ [0, 0] ++ leBytes 4 0))
    ∧ (∀ (u : State) (r : QRec) (rest : List QRec), u.queues[q].recs = r :: rest → u.queues[q].pos = 0 → r.w0.flip = 0 → r.w1.flip = 0 →
        r.w2.flip = 0 → r.w3.flip = 0 →
        readQueue q 4 u = ({ u with queues := u.queues.set q { u.queues[q] with recs := rest } },
          leBytes 2 4 ++ [0, 0] ++ leBytes 4 r.w0.data.toNat ++ leBytes 4 r.w1.data.toNat ++ leBytes 4 r.w2.data.toNat
            ++ leBytes 4 r.w3.data.toNat))
    ∧ (Passes h 0x7001 true true s → exec (.queueDrop h q) s = .next (
        accepted (.queueDrop h q) h 0x7001 (if atBoundary s.queues[q] then 0x0001 else 0) none s))
    ∧ (∀ u, atBoundary u.queues[q] = true → dropQueue q u = (u, leBytes 2 0 ++ [0, 0]))
    ∧ (∀ fl, Passes h 0x7002 true true s → exec (.queueStatus h q fl) s = .next (accepted (.queueStatus h q fl) h 0x7002 0 none s))
    ∧ (∀ fl u, (statusQueue q fl u).2 = leBytes 4 u.queues[q].unread ++ leBytes 4 u.queues[q].recs.length
        ++ leBytes 4 u.queues[q].corrected ++ leBytes 4 u.queues[q].uncorrected ++ leBytes 4 u.queues[q].lost
        ∧ (fl % 2 = 1 → (statusQueue q fl u).1.queues[q] = { u.queues[q] with corrected := 0, uncorrected := 0, lost := 0 }))

/-- The parameter commands (R53, R64, R66, R68, R121, R588): PARAM_WRITE without a transaction, all of whose 1 to 125 entries pass their
checks, is accepted with the count of its entries as result; at its edge a single entry of an ordinary parameter stands in the
store, the instance reads back as written and no other instance changes. PARAM_WRITE_X is the same under the EXPERT flag;
PARAM_DEFAULT_X is accepted when none of its area's instances is staged. PARAM_READ of 1 to 125 known instances whose result fits,
PARAM_INFO of a known ID and PARAM_LIST are accepted and change nothing; the value read is the one in force when the reply is
formed. PARAM_PERSIST puts the values stamped for it into flash. -/
def Obligations.ParametersAreWrittenAtTheEdgeAndReadInForce : Prop :=
  (∀ (h : Hdr) (s : State),
    (∀ (es : List PEntry), h.txn = 0 → es ≠ [] → es.length ≤ 125 → (∀ e ∈ es, e.val.length = e.len ∧ lengthOk e = true) →
      ((∀ e ∈ es, writeCheck s false 0 e = none) → Passes h 0x0101 true true s →
        exec (.paramWrite h es.length es) s =
          .next (accepted (.paramWrite h es.length es) h 0x0101 0 (some (writeResult es.length 0xFF 0)) s))
      ∧ ((∀ e ∈ es, writeCheck s true 0 e = none) → Passes h 0x0181 true true s →
        exec (.paramWriteX h es.length es) s =
          .next (accepted (.paramWriteX h es.length es) h 0x0181 0 (some (writeResult es.length 0xFF 0)) s)))
    ∧ (∀ (e : PEntry) (u : State), h.txn = 0 → e.inst < 255 → storeWf u.params →
        e.id ∉ [0x0010, 0x0011, 0x0023, 0x0026, 0x5800] → isTrial e.id = false → (e.id < 0x5000 ∨ 0x5004 < e.id) →
        let t := atEdge (.paramWrite h 1 [e]) h 0x0101 0 (some (writeResult 1 0xFF 0)) u
        t = { u with params := t.params } ∧ pget t e.id e.inst = leNat e.val
          ∧ (∀ id inst, inst < 256 → (id, inst) ≠ (e.id, e.inst) → pget t id inst = pget u id inst)
          ∧ storeWf t.params)
    ∧ (∀ area, areaParams area ≠ [] → (∀ w ∈ defaultWrites area, stagedIn s w.1 w.2.1 = none) → Passes h 0x0182 true true s →
        exec (.paramDefaultX h area) s = .next (accepted (.paramDefaultX h area) h 0x0182 0 none s))
  ) ∧ (
  ∀ (h : Hdr) (s : State),
    (∀ (es : List PRef), es ≠ [] → es.length ≤ 125 → (∀ e ∈ es, readCheck e = none) → fitting 4 es = es.length →
      Passes h 0x0100 true true s →
      exec (.paramRead h es.length es) s = .next (accepted (.paramRead h es.length es) h 0x0100 0 none s))
    ∧ (∀ (id inst : Nat) (p : PInfo) (u : State), pinfo id = some p → p.len = 4 →
        resultIn (.paramRead h 1 [{ id := id, inst := inst }]) h u =
          [1, 0, 0, 0] ++ leBytes 2 id ++ leBytes 1 inst ++ [4] ++ leBytes 4 (pget u id inst))
    ∧ (∀ id, pinfo id ≠ none → Passes h 0x0102 true true s →
        exec (.paramInfo h id) s = .next (accepted (.paramInfo h id) h 0x0102 0 none s))
    ∧ (∀ area page, Passes h 0x0103 true true s →
        exec (.paramList h area page) s = .next (accepted (.paramList h area page) h 0x0103 0 none s))
    ∧ (∀ img, s.sys.toPersist = some img →
        exec .paramPersist s = .next { s with persisted := img, sys := { s.sys with toPersist := none } }))

/-! ### Transactions (chapter 03) -/

/-- TXN_OPEN (R82, R83): with eight host transactions open it is refused with 0x2040. Otherwise the next number after the last one
allocated that is not in use, wrapping from 239 to 1, is allocated in the command's own frame; its transaction is OPEN and empty,
and the reply carries the number and the count. The numbers of internal transactions are 240 to 255. -/
def Obligations.OpenAllocatesTheNextFreeNumber : Prop :=
  ∀ (h : Hdr) (s : State), Passes h 0x0200 true true s → s.txn.lastNum ≤ 239 →
    let used (n : Nat) : Prop := ∃ t ∈ s.txn.txns ++ s.txn.books, t.num = n
    (8 ≤ (hostTxns s).length → exec (.txnOpen h) s = .next (refused h 0x0200 0x2040 [] s))
    ∧ ((hostTxns s).length < 8 → (s.txn.txns ++ s.txn.books).length < 239 →
      ∃ j n, n = (s.txn.lastNum + j) % 239 + 1 ∧ (∀ i, i < j → used ((s.txn.lastNum + i) % 239 + 1)) ∧ ¬ used n ∧
        exec (.txnOpen h) s = .next
          { accepted (.txnOpen h) h 0x0200 0 (some (leBytes 1 n ++ leBytes 1 ((hostTxns s).length + 1) ++ [0, 0])) s with
            txn := { s.txn with lastNum := n, txns := s.txn.txns ++ [{ num := n, lastNamed := s.frame }] } })
    ∧ (∀ m, freeInternal s = some m → 240 ≤ m ∧ m ≤ 255 ∧ findTxn s m = none)

/-- The commands that name a transaction which takes staging (R84, R86, R87, R93, R95, R99): each restarts its idle timer in its own
frame; TXN_STAGE puts its records in and leaves it OPEN; TXN_CHECK that passes leaves it CHECKED; TXN_COMMIT with mode 0 of a
transaction of this post that passes makes it PENDING for the next edge; TXN_ABORT ends it. TXN_QUERY and TXN_LIST change no
transaction but the idle timer of the one named; the query shows the state code, the action count, the confirmed count, the first
index not confirmed and the commit frame; the list shows the open transactions and the last ended. -/
def Obligations.TransactionCommandsMoveAndShowTheTable : Prop :=
  (∀ (h : Hdr) (s : State) (x : Txn), findTxn s h.txn = some x → x.num < 240 → h.txn ≠ 0 → (x.state = .open ∨ x.state = .checked) →
    (∀ acts : List ActRec, acts ≠ [] → acts.length ≤ 63 → (∀ a ∈ acts, a.value.length = 12 ∧ actLengthOk a = true) →
      (∀ a ∈ acts, stageCheck s h.txn a = none) →
      let l := putActions x.actions (acts.flatMap fun a => (actOf a).map fun y => ((if actHere s a then 0xFF else a.node), y))
      l.length ≤ 64 → Passes h 0x0201 true true s →
      ∃ t, exec (.txnStage h acts.length acts) s = .next t ∧ findTxn t h.txn = some { x with actions := l, state := .open, lastNamed := s.frame }
        ∧ t.due = s.due ++ [waitingCmd (.txnStage h acts.length acts) h 0x0201 0 (some (leBytes 1 acts.length ++ leBytes 1 0xFF)) s]
        ∧ t.params = s.params ∧ t.garnet = s.garnet ∧ t.outlets = s.outlets)
    ∧ ((runChecks s h.txn x.own).check = 0 → Passes h 0x0202 true true s →
      ∃ t, exec (.txnCheck h) s = .next t ∧ findTxn t h.txn = some { x with state := .checked, lastNamed := s.frame }
        ∧ t.due = s.due ++ [waitingCmd (.txnCheck h) h 0x0202 0 (some (runChecks s h.txn x.own).bytes) s])
    ∧ (∀ frame, x.isSite = false → (runChecks s h.txn x.own).check = 0 → Passes h 0x0203 true true s →
      ∃ t, exec (.txnCommit h 0 frame) s = .next t ∧ findTxn t h.txn = some
          { x with state := .pending, commitFrame := some (frameAfter s.frame 1), finalCheck := none, lastNamed := s.frame }
        ∧ ∃ d, t.due = s.due ++ [d] ∧ d.cls = (if x.own.all fun y => y.2.atOnce then 0 else 1))
    ∧ (Passes h 0x0204 true true s →
      ∃ t, exec (.txnAbort h) s = .next t ∧ findTxn t h.txn = none ∧ t.txn.ended = ((x.num, .aborted) :: s.txn.ended).take 16
        ∧ t.due = s.due ++ [waitingCmd (.txnAbort h) h 0x0204 0 none s])
  ) ∧ (
  ∀ (h : Hdr) (s : State),
    (∀ x, findTxn s h.txn = some x → h.txn ≠ 0 → Passes h 0x0205 true true s →
      exec (.txnQuery h) s = .next (nameTxn h.txn (accepted (.txnQuery h) h 0x0205 0 none s)))
    ∧ (∀ u x, findTxn u h.txn = some x → ∃ i, resultIn (.txnQuery h) h u =
        leBytes 1 (txnCode x.state) ++ leBytes 1 x.actions.length ++ leBytes 1 (x.actions.countP fun a => a.confirmed) ++ leBytes 1 i
          ++ leBytes 6 ((x.commitFrame.orElse fun _ => x.siteFrame).getD (2 ^ 48 - 1)) ++ [0, 0]
        ∧ ((∀ a ∈ x.actions, a.confirmed = true) → i = 0xFF))
    ∧ (Passes h 0x0206 true true s → exec (.txnList h) s = .next (accepted (.txnList h) h 0x0206 0 none s))
    ∧ (∀ u, (resultIn (.txnList h) h u).take 1 = leBytes 1 ((hostTxns u).length + u.txn.ended.length)))

/-- The timed rows of a transaction (R84, R96, R97, R100, R101). Past its idle time a host transaction that takes staging ends aborted with
0x16. In the frame before its commit frame the final check runs, once. At its commit edge a transaction whose final check passed is
applied whole, its undo set and its windows noted, 0x10 queued for the host's; one with nothing left to confirm ends. -/
def Obligations.TransactionsRunToTheirCommitEdge : Prop :=
  ∀ (n : Nat) (s : State) (x : Txn), findTxn s n = some x → x.num = n →
    (n < 240 → (x.state = .open ∨ x.state = .checked) → x.lastNamed + pget s 0x0200 0 ≤ s.frame →
      exec (.txnIdleTimeout n) s = .next (ev 0x16 12 0 (n * 2 ^ 24 + 0xFF * 2 ^ 16) { s with txn := { s.txn with
        txns := s.txn.txns.filter (fun y => y.num != n), ended := ((n, .aborted) :: s.txn.ended).take 16 } }))
    ∧ (x.state = .pending → x.commitFrame = some (frameAfter s.frame 1) → x.finalCheck = none → (finalRun x s).detail ≠ 0x4003 →
      ∃ t, exec (.finalCheck n) s = .next t ∧ findTxn t n = some { x with finalCheck := some (finalRun x s) } ∧ t.params = s.params
        ∧ t.garnet = s.garnet ∧ t.outlets = s.outlets)
    ∧ (∀ c r, x.state = .pending → x.commitFrame = some c → c ≤ s.frame → x.isFence = false → s.sys.powerFail = none →
      x.finalCheck = some r → r.check = 0 →
      let w := applyActs x.isHost 1 (x.own.map fun y => y.2) s
      let x' : Txn := { x with state := .applying, actions := x.actions.map fun a =>
        { a with undo := some (undoOf s a.act), since := s.frame, window := (windowOf w a.act).map (s.frame + ·),
                 confirmed := a.act.atOnce || a.node != 0xFF } }
      let w' := setTxn x' w
      exec (.txnCommitted n) s = .next (endConfirmed n (tieBackDone x s (afterParams (hostEnergise x
        (if n < 240 then ev 0x10 12 0 (n * 2 ^ 24 + 0xFF * 2 ^ 16) w' else w'))))))

/-- The rows of a rollback (R102, R103). When a window expires unconfirmed, or a session or a fence forces it, a transaction that applies becomes
ROLLING_BACK in that frame with 0x13; its first phase runs at the edge after, its second phase, at the edge decided for it, drives
what waits; the currents of its setpoints come back at their edge. -/
def Obligations.RollbackRunsInTwoPhases : Prop :=
  ∀ (n : Nat) (s : State),
    (∀ x, confirmTxn n s = s → findTxn s n = some x → x.num = n → x.state = .applying → rollbackDue s x = true →
      (∀ a ∈ x.actions, a.missed s.frame = false) →
      exec (.txnRollback n) s = .next (ev 0x13 12 0 (txnArg { x with state := .rollingBack, expiryE := s.frame }
        (x.firstIdx fun a => heldInside s n a.act) 0 0) (setTxn { x with state := .rollingBack, expiryE := s.frame } s)))
    ∧ (∀ x, findTxn s n = some x → x.state = .rollingBack → x.phase1 = false → x.expiryE < s.frame →
      exec (.rollbackPhase1 n) s = .next (phase1 x s))
    ∧ (∀ x f, findTxn s n = some x → x.state = .rollingBack → x.phase2 = some f → f ≤ s.frame →
      exec (.rollbackPhase2 n) s = .next (
        ((x.actions.filter fun a => a.reversal = .waiting).filterMap reversalOf).foldl (fun u a => step2Act a u)
          (setTxn (x.mapActs fun a => if a.reversal = .waiting then
            { a with reversal := .driven (s.frame + (windowOf s a.act).getD 0), since := s.frame } else a) s)))
    ∧ (∀ r, s.txn.restores.find? (fun y => y.num == n && expired y.at_ s.frame) = some r → r.sps = [] →
      exec (.setpointCurrentRestore n) s = .next { s with txn := { s.txn with restores := s.txn.restores.erase r } })
    ∧ (∀ r g mA, s.txn.restores.find? (fun y => y.num == n && expired y.at_ s.frame) = some r → r.sps = [(g, mA)] →
      mayRestore { s with txn := { s.txn with restores := s.txn.restores.erase r } } n g = true →
      exec (.setpointCurrentRestore n) s = .next
        (pgSet g s.pool.groups[g].spMv mA true { s with txn := { s.txn with restores := s.txn.restores.erase r } }))

/-- A reversal never drives an output on that its own expired window had left off, nor closes again a contactor that an internal opening
opened (R104, R105): such an action is left in phase 1, and what phase 1 leaves waiting for phase 2 are contactors and ties alone. -/
def Obligations.ReversalsNeverCloseWhatWasMissed : Prop :=
  ∀ (t : Txn) (s : State) (x : TxnAction), x.reversal = .notDue →
    let y := phase1Act t s x
    (x.missed t.expiryE = true → (∃ o, x.undo = some (.contactor o true)) → y.reversal = .left)
    ∧ (x.missed t.expiryE = true → (∃ o, x.undo = some (.tie o true)) → y.reversal = .left)
    ∧ (t.neverCloses = true → (∃ o, x.undo = some (.contactor o true)) → y.reversal = .left)
    ∧ (y.reversal = .waiting → x.act.isContact = true)
    ∧ y.act = x.act ∧ y.undo = x.undo ∧ y.window = x.window ∧ y.confirmed = x.confirmed

/-- The coordinator's rows of a site transaction (R113, R115): PREPARE is sent again after 400 frames to the nodes that have not
voted; at C − 1,600 all yes decides to apply, anything else ends it aborted; ABORT is sent again after 80 frames to the yes voters
that have not acknowledged it, up to C − 800; reports are taken to C + 8,000; when they are in, or then, 0x18 closes the book. -/
def Obligations.CoordinatorRunsASiteTransaction : Prop :=
  ∀ (n c now : Nat) (s : State), siteNow s = some now →
    (∀ x, findTxn s n = some x → x.state = .pending → x.isSite = true → x.siteFrame = some c → x.decided = none →
      (x.lastSend + 400 ≤ s.frame → now + 1600 < c → (∃ b ∈ x.nodes, b.vote = none) →
        exec (.stxnPrepareResend n) s = .next (toNodes ((x.nodes.filter fun b => b.vote.isNone).map fun b => b.node) (sendPrepare x)
          (setTxn { x with lastSend := s.frame } s)))
      ∧ (c ≤ now + 1600 → (∀ b ∈ x.nodes, b.vote = some true) →
        exec (.stxnVoteDeadline n) s = .next (setTxn { x with decided := some true } s))
      ∧ (c ≤ now + 1600 → (∃ b ∈ x.nodes, b.vote ≠ some true) → exec (.stxnVoteDeadline n) s = .next (abortSite x s)))
    ∧ (∀ x, s.txn.books.find? (fun t => t.num == n) = some x → x.siteFrame = some c →
      (x.decided = some false → x.lastSend + 80 ≤ s.frame → abortNodes x ≠ [] → now + 800 ≤ c →
        exec (.stxnAbortResend n) s = .next (toNodes (abortNodes x) (sendAbort x) (modBook { x with lastSend := s.frame } s)))
      ∧ ((x.decided = some true ∧ ∀ b ∈ x.nodes, b.report ≠ none) ∨ c + 8000 ≤ now →
        exec (.stxnDone n) s = .next (evp 0x18 12 0 (txnArg x 0xFF 0 0) (doneBitmaps x (ownAddr s))
          { s with txn := { s.txn with books := s.txn.books.filter fun t => t.num != n } }))
      ∧ (∀ node ok, n < 240 → now ≤ c + 8000 →
        exec (.stxnOutcomeReport node n ok) s = .next (noteNode n node (fun b => { b with report := some ok }) s)))

/-- The participant's rows (R113, R114): a PREPARE in time is checked, reserves its objects on a pass, is reported with 0x17 and answered
with a vote, a repeated one is answered with the vote that stands; an ABORT up to C − 800 gives the reservation up; at C a yes voter
applies its actions, the coordinator its own. -/
def Obligations.ParticipantsVoteAndApply : Prop :=
  ∀ (source number c now : Nat) (s : State), siteNow s = some now → source ≠ ownAddr s →
    (∀ acts, s.slk.align ≠ .off → s.sys.service ≠ .bringUp → now + 1600 ≤ c → (∀ p ∈ s.txn.parts, now ≤ p.siteC + 8000) →
      findPart s source number = none → exec (.stxnPrepareReceived source number c acts) s = .next (takePrepare source number c acts s))
    ∧ (∀ acts p, s.slk.align ≠ .off → s.sys.service ≠ .bringUp → now + 1600 ≤ c → (∀ p ∈ s.txn.parts, now ≤ p.siteC + 8000) →
      findPart s source number = some p → p.siteC = c →
      exec (.stxnPrepareReceived source number c acts) s = .next (sendVote source number (p.vote && !p.aborted) s))
    ∧ (∀ p, findPart s source number = some p → now + 800 ≤ p.siteC →
      exec (.stxnAbortReceived source number) s = .next (plcUnicast source plcAbortAck (leBytes 1 number) none
        (releasePart p (setPart { p with aborted := true } s))))
    ∧ (∀ p, findPart s source number = some p → p.vote = true → p.aborted = false → p.siteC ≤ now → s.sys.powerFail = none →
      exec (.stxnApply source number) s = .next (applyPart p s))
    ∧ (∀ x, findTxn s number = some x → x.state = .pending → x.isSite = true → x.decided = some true → x.siteFrame = some c → c ≤ now →
      s.sys.powerFail = none → exec (.stxnApply (ownAddr s) number) s = .next (applyCoordinator x s))

/-! ### Resets, bring-up, the vault, supplies and power fail (chapter 04) -/

/-- The state after reset (R118 to R120): frame 0, the link not ready with code 1, no service level, empty transaction table and
sessions, every pilot driven to state F, no safe output driven, one SYS_RESET record of source 1 in queue 0 and the other queues
empty. -/
def Obligations.ResetStateIsTheManuals : Prop :=
  State.reset.frame = 0 ∧ State.reset.pending = [] ∧ State.reset.sys.service = .bringUp ∧ State.reset.link.ready = false
    ∧ State.reset.link.code = 1 ∧ State.reset.txn.txns = []
    ∧ (∀ k : Fin 8, State.reset.outlets[k].st = .unavailable ∧ State.reset.outlets[k].out = .stateF)
    ∧ (∀ o : Fin 32, State.reset.garnet.outs[o].driven = false)
    ∧ State.reset.queues[0].recs = packetRecs 0 0x00 12 0 1 0 false [] ∧ (∀ q : Fin 4, q ≠ 0 → State.reset.queues[q].recs = [])
    ∧ storeWf State.reset.params ∧ memWf State.reset.nfc.mem = true ∧ memWf State.reset.dsp.mem = true
    ∧ memWf State.reset.dsp.opal = true ∧ memWf State.reset.dsp.map = true

/-- The rows that reset the module (R118, R147, R568, R577): an input below 8.5 V resets at once and holds; 10 µs of RST_N low reset
and release; the input risen through 10.5 V releases a part that is held; 800 frames of good supply from P + 145 on, or frame
P + 8,145, end a power fail. Each leaves what a reset leaves. -/
def Obligations.ResetRowsResetTheModule : Prop :=
  ∀ s : State,
    (∀ v, v < 8500 → s.sys.inReset = false → ∃ t, exec (.mainInputLow v) s = .next t ∧ AfterReset 2 s t ∧ t.sys.inReset = true
      ∧ t.sys.vmain = v)
    ∧ (∀ v, 8500 ≤ v → exec (.mainInputLow v) s = .next { s with sys := { s.sys with vmain := v } })
    ∧ (∀ ns, 10000 ≤ ns → s.sys.vioLow = false → s.sys.inReset = false →
      ∃ t, exec (.rstN ns) s = .next t ∧ AfterReset 4 s t ∧ t.sys.inReset = false)
    ∧ (∀ v ticks cell, s.sys.inReset = true → s.sys.resetSource = 2 → 10500 ≤ v → 1600 ≤ cell → ∃ t,
      exec (.powerOn v ticks cell) s = .next t ∧ t.sys.inReset = false ∧ t.sys.resetSource = 1 ∧ t.sys.vmain = v ∧ t.beryl.cell = cell
        ∧ t.beryl.legalTime = s.beryl.legalTime + ticks ∧ t.beryl.user = s.beryl.user ∧ t.beryl.vaultLost = s.beryl.vaultLost)
    ∧ (∀ p, s.sys.powerFail = some p → ((∃ f, s.sys.pfRecoverFrom = some f ∧ f + 800 ≤ s.frame) ∨ p + 8145 ≤ s.frame) →
      ∃ t, exec .powerFailRecovery s = .next t ∧ AfterReset 3 s t ∧ (t.sys.inReset = true ↔ s.sys.vmain < 10500))

/-- Bring-up (R123 to R126, R130, R132): Garnet starts in RUN, or fails with 0x06 and stays in its safe states; Onyx starts with its
sealed access closed, or fails with 0x06; coarse service begins with both up, full service with a valid image and the loopback test
over, in that frame. -/
def Obligations.BringUpReachesItsServiceLevels : Prop :=
  ∀ s : State, s.sys.inReset = false →
    (∀ test fb, s.sys.garnetUp = false → s.sys.garnetFailed = false →
      (∃ t, exec (.garnetUp true test fb) s = .next t ∧ t.sys.garnetUp = true ∧ t.garnet.st = .run ∧ t.sys.service = s.sys.service
        ∧ t.params = s.params ∧ t.onyx = s.onyx)
      ∧ exec (.garnetUp false test fb) s = .next (ev 0x06 14 0 test
          { s with sys := { s.sys with garnetFailed := true }, garnet := { s.garnet with st := .selfTestFailed } }))
    ∧ (∀ test, s.sys.onyxUp = false → s.sys.onyxFailed = false →
      (∃ t, exec (.onyxUp true test) s = .next t ∧ t.sys.onyxUp = true ∧ t.onyx.access = none ∧ t.onyx.staged = none
        ∧ t.beryl.vaultLost = false ∧ t.garnet = s.garnet ∧ t.params = s.params)
      ∧ exec (.onyxUp false test) s = .next (ev 0x06 13 0 test { s with sys := { s.sys with onyxFailed := true } }))
    ∧ (s.sys.garnetUp = true → s.sys.onyxUp = true → s.sys.service = .bringUp → s.sys.coresHalted = false → s.sys.powerFail = none →
      ∃ t, exec .coarseService s = .next t ∧ t.sys.service = (if s.sys.imageValid = some false then .loader else .coarse)
        ∧ t.aux.held = false ∧ (s.link.ready = true → t.link.ready = true))
    ∧ (s.sys.service = .coarse → s.sys.imageValid = some true → s.sys.loopDone = true → s.sys.powerFail = none →
      ∃ t, exec .fullService s = .next t ∧ t.sys.service = .full ∧ t.sys.fullFrame = some s.frame)

/-- IMAGE_VERIFIED and LOOPBACK_SELF_TEST (R132, R134, R135, R542): the image's check decides between full and loader service; a port
that passes the test of a start counts as passed, a first failure is tested again, a test
asked for by VLK_LOOPBACK_X ends after 40 frames with its result. -/
def Obligations.StartTestsAreKept : Prop :=
  ∀ s : State,
    (∀ sig, s.sys.imageValid = none → s.sys.coresHalted = false → s.sys.inReset = false → s.sys.powerFail = none →
      ∃ t, exec (.imageVerified sig) s = .next t ∧ t.sys.imageValid = some (bootImage sig s).2
        ∧ ((bootImage sig s).2 = false → s.sys.service = .coarse → t.sys.service = .loader)
        ∧ ((bootImage sig s).2 = true → t.sys.service = s.sys.service))
    ∧ (∀ (k : Fin 8) (x snr : Nat), s.vlk.loopTest = none → s.sys.imageValid = some true → s.sys.loopDone = false → s.sys.loopFails[k] = 0 →
      s.sys.loopPass / 2 ^ k.val % 2 = 0 → objRetired s 5 k = false →
      (∃ t, exec (.loopbackSelfTest k true x snr) s = .next t ∧ t.sys.loopPass = s.sys.loopPass + 2 ^ k.val ∧ t.vlk = s.vlk)
      ∧ (∃ t, exec (.loopbackSelfTest k false x snr) s = .next t ∧ t.sys.loopFails[k] = 1 ∧ t.sys.loopDone = false ∧ t.vlk = s.vlk))
    ∧ (∀ (k : Fin 8) (x snr f : Nat), s.vlk.loopTest = some (k, f) → f + 40 ≤ s.frame →
      ∃ t, exec (.loopbackSelfTest k true x snr) s = .next t ∧ t.vlk.loopTest = none ∧ t.sys.loopFails[k] = 0 ∧ t.vlk.ports[k].loopFail = false)

/-- The vault (R136 to R139): a cell below 2.5 V is reported once until it has recovered; an open tamper loop leaves one of the two
latest records, with its event, and none while the vault is lost. The supplies of the pads (R566, R567): VIO_LOW silences the SPI
pads and flags every modulator input that is not flagged already; VIO_RESTORED ends it; PILOT_SUPPLY_FAULT holds every pilot driver
high-impedance, PILOT_SUPPLY_OK releases them. -/
def Obligations.VaultAndSupplyRowsTakeEffect : Prop :=
  (∀ s : State,
    (∀ mV, 2500 ≤ mV → exec (.cellMonitor mV) s = .next { s with beryl := { s.beryl with cell := mV }, sys := { s.sys with cellLow := false } })
    ∧ (∀ mV, mV < 2500 → s.sys.cellLow = false → s.sys.inReset = false → exec (.cellMonitor mV) s = .next
        (ev 0x07 12 0 1 { s with beryl := { s.beryl with cell := mV }, sys := { s.sys with cellLow := true } }))
    ∧ (∀ mV, mV < 2500 → s.sys.cellLow = true → exec (.cellMonitor mV) s = .next { s with beryl := { s.beryl with cell := mV } })
    ∧ (s.beryl.vaultLost = false → s.sys.onyxUp = false → s.sys.inReset = false →
      exec (.tamperSample true false) s = .next (ev 0x08 12 0 0 { s with beryl := { s.beryl with
        tamper := (s.beryl.tamper ++ [({ loop := 0, time := s.beryl.legalTime, logged := false, told := true } : TamperRec)]).drop (s.beryl.tamper.length - 1) } }))
    ∧ (s.beryl.vaultLost = true → ∀ a b, exec (.tamperSample a b) s = .next s)
  ) ∧ (
  ∀ s : State,
    (∃ t, exec .vioLow s = .next t ∧ t.sys.vioLow = true ∧ t.link.spiOut = [] ∧ (∀ n : Fin 48, t.mtr.inputs[n].faulted ≠ none)
      ∧ t.params = s.params ∧ t.outlets = s.outlets)
    ∧ exec .vioRestored s = .next { s with sys := { s.sys with vioLow := false } }
    ∧ exec .pilotSupplyFault s = .next { s with outlets := s.outlets.map fun o => { o with out := .highZ, outNext := none } }
    ∧ (∃ t, exec .pilotSupplyOk s = .next t ∧ (∀ k : Fin 8, s.outlets[k].forced ≠ some .highZ → s.outlets[k].outNext ≠ some .highZ →
      t.outlets[k].out ≠ .highZ)))

/-- Power fail (R110, R144, R146, R328): at P + 8 every contactor and tie is open, whatever its current; POWER_FAIL_WRITE_SET and
TAIL_RECORD save Onyx's registers once each. -/
def Obligations.PowerFailOpensAndSaves : Prop :=
  ∀ s : State,
    (∀ p, s.sys.powerFail = some p → p + 8 ≤ s.frame → ∃ t, exec .powerDownOpen s = .next t
      ∧ (∀ o : Fin 24, t.garnet.outs[(⟨o.val, by omega⟩ : Fin 32)].driven = false)
      ∧ (∀ x : Fin 8, t.pool.ties[x].cmd = false) ∧ t.params = s.params ∧ t.onyx = s.onyx)
    ∧ (∀ b live, s.onyx.pf = some b → b.snap = some live → b.done = false → ∃ t, exec .powerFailWriteSet s = .next t
      ∧ t.onyx.saved = live ∧ (∃ c, t.onyx.pf = some c ∧ c.done = true ∧ c.frame = b.frame))
    ∧ (∀ b live x, s.onyx.pf = some b → b.tail = some (live, x) → b.ended = false → ∃ t, exec .tailRecord s = .next t
      ∧ t.onyx.saved = live ∧ (∃ c, t.onyx.pf = some c ∧ c.ended = true))

/-- LOCKSTEP_MISMATCH (R531) restarts the command cores alone: no service level, link not ready, queue 0 with the reset of source 6;
frame number, metrology engine and Onyx's registers run on. More than FLT.CORE.N restarts halt the cores. CMD_HOST_LOST (R52): once,
when no command has been admitted for SYS.HOST.TMO frames. -/
def Obligations.CoresRestartAndHostLoss : Prop :=
  ∀ s : State,
    (s.sys.inReset = false → s.sys.coresHalted = false → ∃ t, exec .lockstepMismatch s = .next t ∧ t.sys.service = .bringUp
      ∧ t.sys.resetSource = 6 ∧ t.frame = s.frame ∧ t.mtr = s.mtr ∧ t.onyx = s.onyx ∧ t.garnet.st = s.garnet.st ∧ t.txn = {}
      ∧ t.link.ready = false ∧ t.due = []
      ∧ t.sys.coresHalted = decide (pget s 0x7005 0 < t.flt.restarts.length))
    ∧ (pget s 0x0014 0 ≠ 0 → s.link.hostLost = false → s.link.lastAdmit + pget s 0x0014 0 ≤ s.frame → s.link.waiting = [] →
      s.sys.service ≠ .bringUp → (∀ k : Fin 8, pget s 0x1011 k ≠ 2) →
      exec .cmdHostLost s = .next (ev 0x0D 12 0 0 { s with link := { s.link with hostLost := true } }))

/-! ### Outlets and sessions (chapter 05) -/

/-- The pilot and proximity inputs (R157 to R159): a pilot state stamped in OUT.CP.FILT consecutive frames is accepted, one that has
not been stamped as long is not; a diode fault comes and goes by the same count; a proximity resistance accepted gives the cable
rating, with OUT_PROX only when it is another, or the proximity fault. -/
def Obligations.PilotAndProximityInputsAreFiltered : Prop :=
  ∀ (k : Fin 8) (s : State),
    let p := s.outlets[k].pilot
    let n := pget s 0x1020 k
    let withPilot (q : PilotIn) : State := { s with outlets := s.outlets.set k { s.outlets[k] with pilot := q } }
    (n ≤ p.count → p.stamped ≠ p.accepted → (p.diodeRun < n ∨ p.lowBad = p.diode) →
      ∃ t, exec (.pilotStateAccepted k) s = .next t ∧ t.outlets[k].pilot = { p with accepted := p.stamped }
        ∧ t.outlets = (withPilot { p with accepted := p.stamped }).outlets ∧ t.garnet = s.garnet ∧ t.params = s.params ∧ t.txn = s.txn)
    ∧ (p.count < n → (p.diodeRun < n ∨ p.lowBad = p.diode) → exec (.pilotStateAccepted k) s = .next s)
    ∧ (n ≤ p.diodeRun → p.lowBad ≠ p.diode → p.count < n →
      exec (.pilotStateAccepted k) s = .next (withPilot { p with diode := p.lowBad, diodeRun := 0 }))
    ∧ (p.proxCand ≠ 0xFF → p.proxCand ≠ 0xFE → n ≤ p.proxRun → p.proxCand ≠ p.rating →
      exec (.proximityAccepted k) s = .next (ev 0x48 k 0 p.proxCand (withPilot { p with proxFault := false, rating := p.proxCand })))
    ∧ (p.proxCand = 0xFE → n ≤ p.proxRun →
      exec (.proximityAccepted k) s = .next (withPilot { p with proxFault := true }))
    ∧ (p.proxRun < n → exec (.proximityAccepted k) s = .next s)

/-- Table OUT-6 and R165: the timers that end a session state, each with no other transition decided in the frame. The expiry decides
the state and the stop reason for the next frame; a start or an admission that came in time stands against it; the event that goes
with it follows in the next frame. -/
def Obligations.SessionTimersDecideTheNextState : Prop :=
  ∀ (k : Fin 8) (s : State), s.outlets[k].pend = none →
    let o := s.outlets[k]
    let freed : Outlet := { o with timers := { o.timers with faultHold := none }, out := .static12, outNext := none }
    (o.st = .authorising → expired o.timers.auth s.frame = true → o.claim.held = false → o.claim.start = none →
      exec (.authTimeout k) s = .next (decided k { dest := .ended, reason := some 0x06, frame := s.frame } s))
    ∧ ((o.claim.held = true ∨ o.claim.start ≠ none) → exec (.authTimeout k) s = .next s)
    ∧ (o.st = .deferred → expired o.timers.defer s.frame = true → o.claim.held = false →
      exec (.deferralTimeout k) s = .next (decided k { dest := .ended, reason := some 0x0E, frame := s.frame } s))
    ∧ (o.st = .linking ∨ o.st = .authorising → expired o.timers.fallback s.frame = true →
      exec (.basicFallback k) s = .next (decided k { dest := .connected, frame := s.frame } s))
    ∧ (o.st = .cableCheck → isDc s k = true → expired o.timers.cable s.frame = true →
      exec (.cableCheckTimeout k) s =
        .next (evNext 0x49 k 0 0xFFFFFFFF (decided k { dest := .stopping, reason := some 0x07, frame := s.frame } s)))
    ∧ (o.st = .precharge → pget s 0x1034 k ≤ o.preRun → ∃ t, exec (.prechargeComplete k) s = .next t
      ∧ t.outlets = s.outlets.set k { o with preFlag := true, pend := some { dest := .ready, frame := s.frame } } ∧ t.garnet = s.garnet)
    ∧ (o.st = .precharge → isDc s k = true → expired o.timers.pre s.frame = true →
      exec (.prechargeTimeout k) s =
        .next (evNext 0x4A k 0 (o.meas.v.toNat / 100) (decided k { dest := .stopping, reason := some 0x08, frame := s.frame } s)))
    ∧ (o.st = .fault → expired o.timers.faultHold s.frame = true → o.out ≠ .highZ →
      exec (.faultHoldEnd k) s = .next { s with outlets := s.outlets.set k freed })

/-- The openings of a stop (R179, R180, R185): the contactors that are on are opened by a transaction committed for the next frame, on
the first frame with at most 2 A on a DC or MW outlet, at the expiry of OUT.DC.STOP.TMO with OUT_STOP_LOAD, at the expiry of the
basic host stop of an AC outlet, and on an AC overcurrent, which stops the session with reason 0x0B. The weld check (R186 to R188):
V below 60 V, or 8,000 frames with OUT_DISCHARGE, starts the test of OUT.WELD.T frames; at its end a check that finds nothing leads
to IDLE after an unplugging, to PAUSED for a pause, else to ENDED; a finding decides FAULT with reason 0x0A and reports OUT_WELD
with the finding in the next frame. -/
def Obligations.StopsOpenTheContactorsAndWeldsAreFound : Prop :=
  (∀ (k : Fin 8) (s : State), CanOpen k s →
    let o := s.outlets[k]
    (o.st = .stopping → isDc s k = true → o.meas.ok = true → lowCurrent s k = true →
      ∃ t, exec (.stopOpening k) s = .next t ∧ Opening k s t ∧ t.garnet.outs = s.garnet.outs ∧ t.params = s.params)
    ∧ (o.st = .stopping → isDc s k = true → expired o.timers.dcStop s.frame = true → o.stopBuilt = false → lowCurrent s k = false →
      ∃ t, exec (.outStopLoad k) s = .next t ∧ Opening k s t ∧ t.garnet.evNext = s.garnet.evNext ++ [(0x4B, k.val, 0, o.meas.i.natAbs)])
    ∧ (o.st = .stopping → expired o.timers.acStop s.frame = true →
      ∃ t, exec (.acStopTimeout k) s = .next t ∧ Opening k s t ∧ t.garnet.outs = s.garnet.outs ∧ t.params = s.params)
    ∧ (o.st = .charging → isAc s k = true → pget s 0x101A k ≤ o.ovcRun → o.pend = none →
      ∃ t, exec (.outOvercurrent k) s = .next t ∧ Opening k s t
        ∧ t.outlets[k].pend = some { dest := .stopping, reason := some 0x0B, frame := s.frame }
        ∧ t.garnet.evNext = s.garnet.evNext ++ [(0x46, k.val, 0, o.meas.phase.foldl max 0 / 100)])
  ) ∧ (
  ∀ (k : Fin 8) (s : State), s.outlets[k].st = .weldCheck →
    let o := s.outlets[k]
    let tested : Outlet := { o with weldStep := 1, timers := { o.timers with
      discharge := none, weld := some (frameAfter s.frame (1 + pget s 0x1039 k)) } }
    let done_ (p : Pend) : State := { s with outlets := s.outlets.set k { o with weldStep := 2, pend := some p } }
    (isDc s k = true → o.weldStep = 0 → o.meas.ok = true → o.meas.v < 60000 →
      exec (.weldCheckDischarged k) s = .next { s with outlets := s.outlets.set k tested })
    ∧ (isDc s k = true → o.weldStep = 0 → expired o.timers.discharge s.frame = true → 60000 ≤ o.meas.v →
      exec (.outDischarge k) s = .next (ev 0x4C k 0 (o.meas.v.toNat / 100) { s with outlets := s.outlets.set k tested }))
    ∧ (expired o.timers.weld s.frame = true → o.pend = none →
      (weldFinding s k = 0 → exec (.weldCheckEvaluation k) s = .next (done_ (
        if o.reason = 0x04 then { dest := .idle, frame := s.frame }
        else if o.pause then { dest := .paused, limitPause := o.limitPause, frame := s.frame }
        else { dest := .ended, frame := s.frame })))
      ∧ (weldFinding s k ≠ 0 → o.welded = false → ∃ t, exec (.weldCheckEvaluation k) s = .next t
        ∧ t.outlets[k].pend = some { dest := .fault, reason := some 0x0A, frame := s.frame } ∧ t.outlets[k].welded = true
        ∧ t.garnet.evNext = s.garnet.evNext ++ [(0x41, k.val, 0, weldFinding s k)])))

/-- R164: of two transitions decided for one outlet in one frame the one of the lower rank stands, in whatever order they come, and
nothing of the session moves before step 6. -/
def Obligations.TheLowestRankStands : Prop :=
  ∀ (k : Fin 8) (p q : Pend) (s : State), s.outlets[k].pend = none → p.rank ≠ q.rank →
    (pendTo k p (pendTo k q s)).outlets[k].pend = some (if p.rank < q.rank then p else q)
    ∧ (pendTo k p (pendTo k q s)).outlets[k].st = s.outlets[k].st
    ∧ (∀ j, j ≠ k → (pendTo k p (pendTo k q s)).outlets[j] = s.outlets[j])

/-- OUT_START and DEFERRED_ADMISSION (R168, R169, R191, R192): a start whose outlet awaits one and that passes its checks is admitted when
its claims fit, with its claims held from this frame, and deferred otherwise; the head of the deferral queue is admitted as
soon as its claims fit. -/
def Obligations.StartsAreAdmittedOrDeferred : Prop :=
  (∀ (h : Hdr) (k : Fin 8) (profile imp exp cur : Nat) (session : List Byte) (s : State),
    let u := entered h s
    let st := sessSeen u k
    let r : StartReq := { profile := profile, imp := imp, exp := exp, cur := cur, session := fit 16 session }
    session.length = 16 → 1 ≤ profile → profile ≤ 3 → fencedDomain s k = false → s.sys.service = .full →
    (st = .connected ∨ st = .linking ∨ st = .authorising) → s.outlets[k].st = st → s.outlets[k].req = none → s.outlets[k].pend = none →
    startsHeld s = false → profileFits s k profile = true → portFailed s k = false → limitsOk u k profile imp exp cur = true →
    Passes h 0x1000 true true s →
    ∃ t, exec (.outStart h k profile imp exp cur session) s = .next t ∧ t.outlets[k].req = some r ∧ t.outlets[k].st = st
      ∧ (admits u k r = true → t.outlets[k].claim.held = true ∧ t.outlets[k].claim.imp = claimImp u k imp cur
          ∧ t.outlets[k].claim.exp = claimExp u k exp ∧ t.outlets[k].claim.since = s.frame
          ∧ t.due = s.due ++ [waitingCmd (.outStart h k profile imp exp cur session) h 0x1000 0x0100 none s])
      ∧ (admits u k r = false → t.outlets[k].claim.held = s.outlets[k].claim.held ∧ t.outlets[k].claim.start = some s.frame
          ∧ t.due = s.due ++ [waitingCmd (.outStart h k profile imp exp cur session) h 0x1000 0x0141 none s]))
  ∧ (∀ (k : Fin 8) (rest : List (Fin 8)) (r : StartReq) (s : State), deferQueue s = k :: rest → s.outlets[k].req = some r →
      s.outlets[k].st = .deferred → s.outlets[k].pend = none → startsHeld s = false →
      (admits s k r = true → ∃ t, exec .deferredAdmission s = .next t ∧ t.outlets[k].claim.held = true
        ∧ t.outlets[k].claim.start = none ∧ t.outlets[k].claim.imp = claimImp s k r.imp r.cur ∧ t.outlets[k].st = .deferred)
      ∧ (admits s k r = false → exec .deferredAdmission s = .next s))

/-- The other outlet commands (R170 to R174). OUT_STOP decides STOPPING or ENDED with reason 0x01 and is answered with class 0 in a stop
under way; OUT_LIMIT takes the new limits into the parameters of the next frame; OUT_DENY ends a session that awaits
authorisation with reason 0x02; OUT_STATUS is answered in every state; OUT_PILOT_X forces the pilot at its edge. -/
def Obligations.OutletCommandsActOnTheSession : Prop :=
  ∀ (h : Hdr) (k : Fin 8) (s : State), fencedDomain s k = false → s.sys.service = .full →
    (∀ reason, 5 ≤ sessCode s.outlets[k].st → sessCode s.outlets[k].st ≤ 12 → s.outlets[k].pend = none → Passes h 0x1001 true true s →
      ∃ t x, exec (.outStop h k reason) s = .next t ∧ stopTarget s k = some x
        ∧ t.outlets[k].pend = some { dest := x, reason := some 0x01, hostReason := reason % 256, frame := s.frame }
        ∧ t.due = s.due ++ [waitingCmd (.outStop h k reason) h 0x1001 0 none s])
    ∧ (∀ reason, s.outlets[k].st = .stopping ∨ s.outlets[k].st = .weldCheck → Passes h 0x1001 true true s →
      exec (.outStop h k reason) s = .next (accepted (.outStop h k reason) h 0x1001 0x0001 none s))
    ∧ (∀ imp exp cur, 5 ≤ sessCode (sessSeen (entered h s) k) → sessCode (sessSeen (entered h s) k) ≤ 12 →
      limitsOk s k (match s.outlets[k].req with | some r => r.profile | none => pget s 0x1043 k) imp exp cur = true →
      Passes h 0x1002 true true s → freeInternal s ≠ none →
      ∃ t, exec (.outLimit h k imp exp cur) s = .next t ∧ t.outlets[k].st = s.outlets[k].st
        ∧ ∃ x ∈ t.txn.txns, x.purpose = .params k ∧ x.commitFrame = some (frameAfter s.frame 1)
          ∧ x.actions.map (fun a => a.act) = [.param 0x1040 k imp, .param 0x1041 k exp, .param 0x1042 k cur])
    ∧ (∀ reason, s.outlets[k].st = .linking ∨ s.outlets[k].st = .authorising → s.outlets[k].pend = none → Passes h 0x1003 true true s →
      ∃ t, exec (.outDeny h k reason) s = .next t
        ∧ t.outlets[k].pend = some { dest := .ended, reason := some 0x02, frame := s.frame } ∧ t.outlets[k].st = s.outlets[k].st)
    ∧ (Passes h 0x1004 true true s → exec (.outStatus h k) s = .next (accepted (.outStatus h k) h 0x1004 0 none s))
    ∧ (∀ u, (resultIn (.outStatus h k) h u).take 4 = leBytes 1 (sessCode u.outlets[k].st) ++ leBytes 1 (pilotCode (pilotSeen u k))
        ++ leBytes 1 (if isAc u k && !pbool u 0x1017 k then pget u 0x1001 k else u.outlets[k].pilot.rating) ++ leBytes 1 u.outlets[k].reason)
    ∧ (∀ mode duty, mode ≤ 3 → (mode = 2 → duty % 5 = 0 ∧ 300 ≤ duty ∧ duty ≤ 9700) → s.outlets[k].st = .idle ∨ s.outlets[k].st = .connected →
      s.outlets[k].req = none → Passes h 0x1080 true true s →
      exec (.outPilotX h k mode duty) s = .next (accepted (.outPilotX h k mode duty) h 0x1080 0 none s))
    ∧ (∀ (duty : Nat) (u : State), atEdge (.outPilotX h k 2 duty) h 0x1080 0 none u =
        { u with outlets := u.outlets.set k { u.outlets[k] with forced := some (.pwm duty) } })

/-! ### Power pool (chapter 06) -/

/-- A group's frames (R205 to R208, R213 to R215, R589): a status frame stamped for a group gives its fields, brings an ABSENT group
into service and fails a group with a fault bit; ST_TMO frames without one, POL.PG.DEV.T frames of excess current and the bus-off
of its port fail it; a failed group that is not retired returns after POL.PG.RECOV good frames, a retired one by command. A
setpoint frame leaves when it is to be sent at once, when its period is over, or when its setpoint has changed and the port's gap is
over, and its counter goes on; a port that was bus-off is error-active again with POL_CAN_RECOVER; a frame that matches no group
and no device is counted on its port. -/
def Obligations.GroupsFollowTheirFrames : Prop :=
  (∀ (g : Fin 16) (p : List Byte) (s : State), pgProfile s g = some p →
    let x := s.pool.groups[g]
    let running (f7 : Nat) : PgState := if f7 &&& u32At p 176 ≠ 0 then .derated else if x.spMa = 0 then .ready else .active
    (∀ port id data, portOn s port = true → s.sys.vioLow = false → statusGroup s port id data = some g → s.txn.txns = [] →
      let f7 := if (profField p 7).len = 0 then 0 else fieldRaw (profField p 7) data
      ∃ t, exec (.statusFrameReceived port id data) s = .next t ∧ t.pool.groups[g].lastOk = some s.frame
        ∧ t.pool.groups[g].f3 = fieldInt (profField p 3) data ∧ t.pool.groups[g].f4 = fieldInt (profField p 4) data
        ∧ t.pool.groups[g].f5 = fieldInt (profField p 5) data ∧ t.pool.groups[g].f6 = fieldInt (profField p 6) data
        ∧ (f7 &&& u32At p 172 ≠ 0 → x.st ≠ .unconfigured → t.pool.groups[g].st = .failed)
        ∧ (f7 &&& u32At p 172 = 0 → x.st = .absent → x.absentAt ≠ some s.frame →
            t.pool.groups[g].st = running f7 ∧ t.pool.groups[g].ramp = some 0)
        ∧ (f7 &&& u32At p 172 = 0 → x.valid = true → t.pool.groups[g].st = running f7)
        ∧ (f7 &&& u32At p 172 = 0 → x.st = .failed → t.pool.groups[g].st = .failed))
    ∧ (∀ l, x.lastOk = some l → x.valid = true → l + u16At p 36 ≤ s.frame → ∃ t, exec (.polPgLost g) s = .next t
      ∧ t.pool.groups[g].st = .failed ∧ t.pool.groups[g].ramp = none ∧ ∀ j, j ≠ g → t.pool.groups[j].st = s.pool.groups[j].st)
    ∧ (∀ l, x.lastOk = some l → s.frame < l + u16At p 36 → exec (.polPgLost g) s = .next s)
    ∧ (x.valid = true → pget s 0x182E 0 ≤ x.devRun → ∃ t, exec (.pgDeviationFail g) s = .next t
      ∧ t.pool.groups[g].st = .failed ∧ ∀ j, j ≠ g → t.pool.groups[j].st = s.pool.groups[j].st)
    ∧ (x.st = .failed → objRetired s 1 g = false → pget s 0x182D 0 ≤ x.recovRun → ∃ t, exec (.groupRecovery g) s = .next t
      ∧ t.pool.groups[g].st = running x.f7 ∧ t.pool.groups[g].ramp = some 0 ∧ t.params = s.params)
    ∧ (x.st = .failed → objRetired s 1 g = true → exec (.groupRecovery g) s = .next s)
    ∧ (∀ (port : Fin 2) tec rec, portOn s port = true → pget s 0x1801 g = port.val → x.st ≠ .unconfigured → ∃ t,
      exec (.polCanBusoff port tec rec) s = .next t ∧ t.pool.groups[g].st = .failed ∧ t.pool.ports[port].state = 3)
    ∧ (∀ (h : Hdr) reason, objRetired s 1 g = true → Passes h 0x1881 true true s →
      exec (.polPgClearX h g reason) s = .next (accepted (.polPgClearX h g reason) h 0x1881 0 none s))
    ∧ (∀ (h : Hdr) reason, let t := atEdge (.polPgClearX h g reason) h 0x1881 0 none s
        t.pool.groups[g].st = .absent ∧ t.pool.groups[g].lastOk = none ∧ objRetired t 1 g = false ∧ t.params = s.params)
  ) ∧ (
  ∀ (s : State),
    (∀ (g : Fin 16) (p : List Byte) (port : Fin 2), pgProfile s g = some p → port = (if pget s 0x1801 g = 0 then 0 else 1) →
      portOn s port = true →
      let x := s.pool.groups[g]
      let since := match x.lastSend with
        | some l => s.frame - l
        | none => 2 ^ 48
      let sent : PowerGroup := { x with lastSend := some s.frame, changed := false, sendNow := false, alive := x.alive + 1 }
      (x.sendNow = true ∨ u16At p 22 ≤ since ∨ (x.changed = true ∧ pget s 0x1822 port ≤ since) → s.sys.vioLow = false →
        exec (.setpointFrameSend g) s = .next { s with
          outbox := s.outbox ++ [.can port (pgSetId s g p) (setpointPayload p x.spMv x.spMa x.alive)]
          pool := { s.pool with groups := s.pool.groups.set g sent } })
      ∧ (x.sendNow = false → since < u16At p 22 → x.changed = false → exec (.setpointFrameSend g) s = .next s))
    ∧ (∀ port : Fin 2, s.pool.ports[port].state = 3 → exec (.polCanRecover port) s = .next (ev 0x54 12 0 port { s with
        pool := { s.pool with ports := s.pool.ports.set port { s.pool.ports[port] with state := 1, tec := 0, rxErr := 0 } } }))
    ∧ (∀ (port : Fin 2) id data, portOn s port = true → s.sys.vioLow = false → statusGroup s port id data = none →
      statusDevice s port id data = none → exec (.statusFrameReceived port id data) s =
        let counted : CanPort := { s.pool.ports[port] with unmatched := satInc s.pool.ports[port].unmatched }
        .next { s with pool := { s.pool with ports := s.pool.ports.set port counted } }))

/-- R216: whatever the capacities and the total, the shares under either POL.SHARE are one for each group, none above its capacity, and
their sum is at most the total. -/
def Obligations.SharesStayWithinCapacities : Prop :=
  ∀ (fuel total : Nat) (caps : List Nat), ∀ l ∈ [shareByCap total caps, shareEqual fuel total caps],
    l.length = caps.length ∧ l.sum ≤ total ∧ ∀ x ∈ l.zip caps, x.1 ≤ x.2

/-- Moves (R221 to R223): POL_ASSIGN of groups that may be moved takes a move, answered with its number and the ties it closes and opens,
and begins with the ramp-down of the groups that carry current elsewhere; each phase ends on its condition and builds the next
one's transaction; phase C that does not match within POL.MOVE.MATCH.T ends the move with its groups at zero. -/
def Obligations.MovesRunTheirPhases : Prop :=
  (∀ (h : Hdr) (k : Fin 8) (mask : Nat) (s : State),
    let gs := (allFin 16).filter fun (g : Fin 16) => mask / 2 ^ g.val % 2 = 1
    let path := movePaths s gs k
    let opens := moveOpens s gs (some k)
    let close := path.filter fun t => !s.pool.ties[t].cmd
    let bits (l : List (Fin 8)) : Byte := BitVec.ofNat 8 ((l.map fun (t : Fin 8) => 2 ^ t.val).foldl (· + ·) 0)
    let old := gs.map fun (g : Fin 16) => pget s 0x1804 g
    let mv : Move := Move.mk (some k) gs old close opens .rampDown (frameAfter s.frame 1) true 0
    gs ≠ [] → (∀ g ∈ gs, s.pool.groups[g].st ≠ .unconfigured ∧ s.pool.groups[g].st ≠ .failed) → isDc s k = true →
    (∀ j : Fin 8, deviceDriven s j = true) → (∀ t ∈ path, tieUsable s t = true) → (∀ j : Fin 8, sessOnBus s.outlets[j].st = false) →
    (∀ m : Fin 4, s.pool.moves[m] = none) → moveFenced s gs path (some k) = false → Passes h 0x1800 true true s →
    ∃ t, exec (.polAssign h k mask) s = .next t ∧ t.params = s.params
      ∧ t.due = s.due ++ [waitingCmd (.polAssign h k mask) h 0x1800 0x0100 (some [1, 0, bits close, bits opens]) s]
      ∧ ((∃ g ∈ gs, s.pool.groups[g].spMa ≠ 0 ∧ pgServes s g ≠ some k) → t.pool.moves[0] = some mv))
  ∧ (∀ (m : Fin 4) (mv : Move) (s : State), s.pool.moves[m] = some mv → mv.start ≤ s.frame → mv.begun = true → freeInternal s ≠ none →
      let entered (ph : MovePhase) (t : State) : Prop := t.pool.moves[m] =
        some { mv with phase := ph, start := frameAfter s.frame 1, matched := 0, begun := true } ∧ t.params = s.params
      let built (acts : List Action) (t : State) : Prop := ∃ x ∈ t.txn.txns, x.purpose = .move m
        ∧ x.commitFrame = some (frameAfter s.frame 1) ∧ x.actions.map (fun a => a.act) = acts
      (mv.phase = .rampDown → (∀ g ∈ mv.groups, s.pool.groups[g].f4.natAbs ≤ 1000) → mv.opens ≠ [] →
        ∃ t, exec (.moveRampDownEnd m) s = .next t ∧ entered .tieOpen t
          ∧ built (mv.opens.map (fun (y : Fin 8) => Action.tie y false) ++ mv.groups.map fun (g : Fin 16) => Action.param 0x1804 g 0xFF) t)
      ∧ (mv.phase = .rampDown → (∃ g ∈ mv.groups, 1000 < s.pool.groups[g].f4.natAbs) → exec (.moveRampDownEnd m) s = .next s)
      ∧ (∀ k, mv.phase = .match → mv.target = some k → 8 ≤ mv.matched → ∃ t, exec (.busMatch m) s = .next t ∧ entered .tieClose t
        ∧ built (mv.close.map (fun (y : Fin 8) => Action.tie y true) ++ mv.groups.map fun (g : Fin 16) => Action.param 0x1804 g k.val) t)
      ∧ (mv.phase = .match → mv.matched < 8 → exec (.busMatch m) s = .next s)
      ∧ (mv.phase = .match → mv.matched < 8 → mv.start + pget s 0x182C 0 ≤ s.frame → mv.old.length = mv.groups.length →
        ∃ t, exec (.busMatchTimeout m) s = .next t ∧ t.pool.moves[m] = none
          ∧ ∀ g ∈ mv.groups, t.pool.groups[g].spMv = 0 ∧ t.pool.groups[g].spMa = 0)
      ∧ (mv.phase = .takeUp → (∀ g ∈ mv.groups, s.pool.groups[g].ramp = none) →
        ∃ t, exec (.moveTakeUpEnd m) s = .next t ∧ t.pool.moves[m] = none ∧ t.pool.groups = s.pool.groups ∧ t.params = s.params))

/-- Ties and profiles (R209, R225, R226, R229, R230): a tie's accepted feedback shows in its state, a tie that drops open outside its
windows is commanded open with its groups sent home, one that is found closed when its window is over is welded, and stays so
until its feedback has been open for 8,000 frames; a profile's last chunk installs it at the edge; the status commands are
answered. -/
def Obligations.TiesAndProfilesKeepTheirState : Prop :=
  (∀ (i : Fin 8) (s : State), s.txn.txns = [] →
    let fb := s.garnet.outs[soTie i].fb
    let c := if filtReady fb (pget s 0x400B 0) then (filtAccept fb s.frame).accepted else fb.accepted
    ∃ t, exec (.tieFeedback i) s = .next t ∧ t.pool.ties[i].fb = c ∧ t.pool.ties[i].cmd = s.pool.ties[i].cmd ∧ t.params = s.params
      ∧ (s.pool.ties[i].cmd = true → c = false → ∃ x ∈ t.txn.txns, x.purpose = .tieBack i ∧ x.commitFrame = some (frameAfter s.frame 1)
          ∧ x.actions.map (fun a => a.act) = .tie i false :: (tieGroups s i).map fun (g : Fin 16) => Action.param 0x1804 g 0xFF)
      ∧ (∀ f, s.pool.ties[i].cmd = false → c = true → s.garnet.outs[soTie i].offAt = some f → f + pget s 0x0202 0 ≤ s.frame →
          t.pool.ties[i].welded = true ∧ t.txn = s.txn))
  ∧ (∀ (i : Fin 8) (f : Nat) (s : State), s.pool.ties[i].openSince = some f → s.pool.ties[i].welded = true →
      exec (.tieWeldCleared i) s = .next (if f + 8000 ≤ s.frame then
        { s with pool := { s.pool with ties := s.pool.ties.set i { s.pool.ties[i] with welded := false } } } else s))
  ∧ (∀ (h : Hdr) (slot : Fin 4) (offset : Nat) (data : List Byte) (s : State), offset ∈ [0, 64, 128, 192] → data.length = 64 →
      profileBusy s slot = false → Passes h 0x1880 true true s →
      let c := putChunk offset data s.pool.loads[slot]
      (∀ img, chunkImage [0, 64, 128, 192] c = some img → profileOk img = false →
        exec (.polProfileLoadX h slot offset data) s = .next (refuseNow h 0x1880 0x1154 []
          { entered h s with pool := { s.pool with loads := s.pool.loads.set slot {} } }))
      ∧ ((∀ img, chunkImage [0, 64, 128, 192] c = some img → profileOk img = true) →
        exec (.polProfileLoadX h slot offset data) s = .next { accepted (.polProfileLoadX h slot offset data) h 0x1880 0 none s with
          pool := { s.pool with loads := s.pool.loads.set slot c } }))
  ∧ (∀ (h : Hdr) (slot : Fin 4) (offset : Nat) (data img : List Byte) (u : State),
      chunkImage [0, 64, 128, 192] u.pool.loads[slot] = some img →
      (atEdge (.polProfileLoadX h slot offset data) h 0x1880 0 none u).pool.profiles[slot] = some img)
  ∧ (∀ (h : Hdr) (s : State), Passes h 0x1801 true true s →
      exec (.polStatus h) s = .next (accepted (.polStatus h) h 0x1801 0 none s))
  ∧ (∀ (h : Hdr) (slot : Fin 4) (s : State), Passes h 0x1802 true true s →
      exec (.polProfileInfo h slot) s = .next (accepted (.polProfileInfo h slot) h 0x1802 0 none s))

/-! ### Vehicle links (chapter 07) -/

/-- Agate's decode lanes (R236 to R239): a preamble claims the lowest free lane or waits; the frame control of another network frees the
lane, that of the own network loads the all-blocks-failed acknowledgement; a payload decoded in time loads its result, is counted
and frees the lane; the prepared acknowledgement leaves at its instant; a frame that no lane claimed by its limit is counted as
missed. -/
def Obligations.FramesClaimDecodeLanes : Prop :=
  ∀ (k : Fin 8) (at_ : Rat) (s : State),
    let p := s.vlk.ports[k]
    (portUsable s k = true → t1sOf s k = none → p.rx = none →
      (∀ l, freeLane s = some l → ∃ t, exec (.preambleDetected k at_) s = .next t ∧ t.vlk.lanes = s.vlk.lanes.set l (some k)
        ∧ t.vlk.ports[k].rx = some { ts := at_, lane := some l, claimed := at_ } ∧ t.vlk.ports[k].sack = .none ∧ t.params = s.params)
      ∧ (freeLane s = none → ∃ t, exec (.preambleDetected k at_) s = .next t ∧ t.vlk.lanes = s.vlk.lanes
        ∧ t.vlk.ports[k].rx = some { ts := at_ }))
    ∧ (∀ r, p.rx = some r →
      (∀ len rifs, r.len = none → r.ts + 60 ≤ at_ → ∃ t, exec (.frameControlDecoded k true len rifs at_) s = .next t
        ∧ t.vlk.ports[k].rx = some { r with len := some len, rifs := rifs } ∧ t.vlk.ports[k].sack = .allFailed ∧ t.vlk.lanes = s.vlk.lanes)
      ∧ (∀ len rifs l, r.len = none → r.ts + 60 ≤ at_ → r.lane = some l → ∃ t, exec (.frameControlDecoded k false len rifs at_) s = .next t
        ∧ t.vlk.ports[k].rx = none ∧ t.vlk.lanes[l] ≠ some k)
      ∧ (∀ ok l len, r.lane = some l → r.len = some len → r.done = false → r.ready ≤ at_ → ∃ t, exec (.payloadDecoded k ok at_) s = .next t
        ∧ t.vlk.ports[k].sack = (if at_ ≤ r.te + r.rifs - 12 then .result ok else p.sack) ∧ t.vlk.ports[k].decoded = satInc p.decoded
        ∧ t.vlk.ports[k].failed = (if ok then p.failed else satInc p.failed) ∧ t.vlk.lanes[l] ≠ some k)
      ∧ (∀ len, r.lane = none → r.done = false → r.len = some len → r.limit < at_ → ∃ t, exec (.vlkLaneMiss k at_) s = .next t
        ∧ t.vlk.ports[k].misses = satInc p.misses ∧ t.vlk.lanes = s.vlk.lanes ∧ t.vlk.ports[k].rx = some { r with done := true })
      ∧ (∀ len, r.lane = none → r.len = some len → at_ ≤ r.limit → exec (.vlkLaneMiss k at_) s = .next s)
      ∧ (∀ len ok, r.len = some len → r.te + r.rifs - 1 / 2 ≤ at_ → r.done = true → p.sack = .result ok →
        ∃ t, exec (.sackSent k at_) s = .next t ∧ t.outbox = s.outbox ++ [.sack k ok] ∧ t.vlk.ports[k].rx = none
          ∧ t.vlk.ports[k].sack = .none ∧ t.vlk.lanes = s.vlk.lanes))

/-- Matching, 10BASE-T1S, discovery, TCP and TLS (R235, R240 to R246): each message the state of the link awaits is answered and moves
it as Table VLK-5 says; the failures of Table VLK-8 take the link down with their cause. -/
def Obligations.LinksMatchAndConnect : Prop :=
  ∀ (k : Fin 8) (s : State),
    let p := s.vlk.ports[k]
    (∀ run, slacOn s k = true → p.st = .waitSlac → ∃ t, exec (.cmSlacParmReq k run) s = .next t ∧ t.vlk.ports[k].st = .matching
      ∧ t.vlk.ports[k].slac.runId = run ∧ t.vlk.ports[k].timers.match_ = some (s.frame + pget s 0x2007 0)
      ∧ t.outbox = s.outbox ++ [.slac k 1 [run]])
    ∧ (∀ run att, slacOn s k = true → p.st = .matching → p.slac.runId = run → p.slac.sounds.length < 10 → p.timers.join = none →
      ∃ t, exec (.mSound k run att) s = .next t ∧ t.vlk.ports[k].slac.sounds = p.slac.sounds ++ [att]
        ∧ t.outbox = s.outbox ++ [.slac k 2 [run, p.slac.sounds.length + 1, meanAtt (p.slac.sounds ++ [att])]])
    ∧ (∀ run, slacOn s k = true → p.st = .matching → p.slac.runId = run → p.slac.sounds ≠ [] → p.timers.join = none →
      ∃ t, exec (.cmSlacMatchReq k run) s = .next t ∧ t.vlk.ports[k].timers.join = some (s.frame + pget s 0x2008 0)
        ∧ t.outbox = s.outbox ++ [.slac k 3 [run, t.vlk.ports[k].slac.nmk]])
    ∧ (∀ run, slacOn s k = true → p.st = .matching → p.slac.runId = run → ∃ t, exec (.cmValidateReq k run) s = .next t
      ∧ t.outbox = s.outbox ++ [.slac k 4 (if pbool s 0x2009 0 then [1, p.slac.toggles] else [0, 0])]
      ∧ t.vlk.ports[k].slac.valid = (pbool s 0x2009 0 || p.slac.valid))
    ∧ (p.st = .matching → p.down = false → expired p.timers.match_ s.frame = true → expired p.timers.init s.frame = false →
      ∃ t, exec (.vlkSlacRetry k) s = .next t ∧ t.vlk.ports[k].st = .waitSlac ∧ t.vlk.ports[k].slac = { fails := p.slac.fails + 1 })
    ∧ (slacOn s k = true → p.st = .matching → p.timers.join ≠ none → ∃ t, exec (.vlkSlacMatched k) s = .next t
      ∧ t.vlk.ports[k].st = .sdp ∧ t.vlk.ports[k].timers = { setup := some (s.frame + pget s 0x200A 0) })
    ∧ (∀ c, linkCauseHolds s k c = true → p.st ≠ .off → p.down = false → ∃ t, exec (.vlkLinkLost k c) s = .next t ∧ LinkDown k c s t)
    ∧ (linkCauseHolds s k 1 = true → p.down = false → ∃ t, exec (.slacInitTimeout k) s = .next t ∧ LinkDown k 1 s t)
    ∧ (linkCauseHolds s k 2 = true → p.down = false → ∃ t, exec (.slacJoinTimeout k) s = .next t ∧ LinkDown k 2 s t)
    ∧ (linkCauseHolds s k 3 = true → p.down = false → ∃ t, exec (.setupTimeout k) s = .next t ∧ LinkDown k 3 s t)
    ∧ (linkCauseHolds s k 6 = true → p.down = false → ∃ t, exec (.sequenceTimeout k) s = .next t ∧ LinkDown k 6 s t)
    ∧ (p.st = .closed → expired p.timers.resume s.frame = true → ∃ t, exec (.resumeTimeout k) s = .next t
      ∧ t.vlk.ports[k].st = .off ∧ t.vlk.ports[k].timers = {} ∧ t.vlk.ports[k].cause = p.cause)
    ∧ (∀ port : Fin 2, t1sOutlet s port = some k → s.outlets[k].st = .linking → portUsable s k = true → s.vlk.t1s[port].plca = false →
      p.st = .off → ∃ t, exec (.t1sPlcaRunning port) s = .next t ∧ t.vlk.t1s[port].plca = true ∧ t.vlk.ports[k].st = .sdp)
    ∧ (∀ (port : Fin 2) c, t1sOutlet s port = some k → s.vlk.t1s[port].plca = true → p.st ≠ .off → p.down = false →
      ∃ t, exec (.t1sLinkLoss port c) s = .next t ∧ t.vlk.t1s[port].plca = false ∧ LinkDown k 9 s t)
    ∧ (∀ tls, setupOn s k [.sdp] = true → ∃ t, exec (.sdpRequest k tls) s = .next t ∧ t.vlk.ports[k].sdpDone = true
      ∧ t.outbox = s.outbox ++ [.tcp k (if pget s 0x2001 k = 2 ∨ (pget s 0x2001 k = 1 ∧ tls = true) then 1 else 0)])
    ∧ (p.tcp = true → exec (.tcpConnection k) s = .next { s with outbox := s.outbox ++ [.tcp k 3] })
    ∧ (p.tcp = false → setupOn s k [.sdp] = true → p.st = .sdp → p.sdpDone = true → ∃ t, exec (.tcpConnection k) s = .next t
      ∧ t.vlk.ports[k].tcp = true ∧ t.vlk.ports[k].st = (if p.wantTls then .tls else .app) ∧ t.outbox = s.outbox ++ [.tcp k 2])
    ∧ (p.tcp = true → p.down = false → p.st = .tls ∨ p.st = .app → ∃ t, exec (.tcpReset k) s = .next t
      ∧ t.vlk.ports[k].tcp = false ∧ t.vlk.ports[k].st = .sdp ∧ k ∉ t.vlk.tlsQueue)
    ∧ (p.tcp = true → p.down = false → p.st = .session → sessionOver s k = false → ∃ t, exec (.tcpReset k) s = .next t ∧ LinkDown k 7 s t)
    ∧ (∀ v, setupOn s k [.tls, .app] = true → p.st = .tls → p.tcp = true → p.tlsVer = 0 → p.wantTls = true →
      (slotKey s (pget s (if v then 0x2005 else 0x2004) k) = true → ∃ t, exec (.clientHello k v true) s = .next t
        ∧ t.vlk.tlsQueue = s.vlk.tlsQueue ++ [k] ∧ t.vlk.ports[k].tlsVer = (if v then 2 else 1))
      ∧ ∃ t, exec (.clientHello k v false) s = .next t ∧ t.vlk.ports[k].down = true ∧ t.vlk.ports[k].cause = 4)
    ∧ (∀ rest, s.vlk.tlsQueue = k :: rest → p.down = false → p.st = .tls → ∀ alert,
      (∃ t, exec (.tlsHandshakeComplete k true alert) s = .next t ∧ t.vlk.tlsQueue = rest ∧ t.vlk.ports[k].tls = p.tlsVer
        ∧ t.vlk.ports[k].st = .app)
      ∧ ∃ t, exec (.tlsHandshakeComplete k false alert) s = .next t ∧ t.vlk.ports[k].down = true ∧ t.vlk.ports[k].cause = 4)
    ∧ (∀ pr n, setupOn s k [.app] = true → p.tcp = true → p.st = .app →
      (protoFits s k n = true → ∃ t, exec (.supportedAppProtocolReq k [(pr, n)]) s = .next t ∧ t.vlk.ports[k].proto = n
        ∧ t.vlk.ports[k].st = .session ∧ t.vlk.ports[k].timers.seq = some (s.frame + pget s 0x200B 0))
      ∧ (protoFits s k n = false → ∃ t, exec (.supportedAppProtocolReq k [(pr, n)]) s = .next t ∧ LinkDown k 5 s t))

/-- The vehicle's requests in SESSION (Tables VLK-9 and VLK-10, R182 to R184, R247 to R249, R253 to R255): each is stamped for its
response and acts on the session as the table says; a response that is due leaves in the frame of its handoff with its answer and
its live fields, and starts VLK.T.SEQ; host content that does not come in VLK.T.HOSTRESP is replaced with 0x66; a status record
that the mask lets through enters queue 1 at the end of its period. -/
def Obligations.RequestsDriveTheSessionAndAreAnsweredInTime : Prop :=
  (∀ (k : Fin 8) (s : State), LinkServes k s → t1sOf s k = none →
    let p := s.vlk.ports[k]
    let o := s.outlets[k]
    (∀ car sid, ∃ t, exec (.sessionSetupReq k car sid) s = .next t ∧ Asked k .sessionSetup .ok s t ∧ t.vlk.ports[k].evccid = car
      ∧ t.vlk.ports[k].schedule = none)
    ∧ (pget s 0x2002 k % 2 = 1 → ∃ t, exec (.authorizationReq k 0 true) s = .next t ∧ Asked k .authorization .ok s t
      ∧ t.outlets[k].veh.authStep = true)
    ∧ (∀ em ch lk, p.proto ≠ 1 → ∃ t, exec (.paymentDetailsReq k em ch lk) s = .next t ∧ Asked k .paymentDetails .ok s t
      ∧ t.vlk.ports[k].emaid = em ∧ t.vlk.ports[k].leafKey = lk)
    ∧ (∃ t, exec (.serviceDiscoveryReq k) s = .next t ∧ Asked k .serviceDiscovery .ok s t)
    ∧ (∀ e d v i w x b, ∃ t, exec (.chargeParameterDiscoveryReq k e d v i w x b) s = .next t ∧ Asked k .chargeParameter .ok s t
      ∧ t.outlets[k].veh.vMax = v ∧ t.outlets[k].veh.maxI = some i
      ∧ (p.schedule = none → p.awaiting ≠ some 4 → t.vlk.ports[k].awaiting = some 4
          ∧ t.vlk.ports[k].timers.host = some (s.frame + pget s 0x200C 0)))
    ∧ (isDc s k = true → o.st = .parameters → p.ccAsked = false → ∃ t, exec (.cableCheckReq k) s = .next t ∧ Asked k .cableCheck .ok s t
      ∧ t.vlk.ports[k].ccAsked = true)
    ∧ (∀ v, isDc s k = true → ∃ t, exec (.preChargeReq k v) s = .next t ∧ Asked k .preCharge .ok s t ∧ t.outlets[k].veh.target = v
      ∧ t.outlets[k].veh.asked = true)
    ∧ (isDc s k = true → ∃ t, exec (.powerDeliveryReqStart k) s = .next t ∧ Asked k .powerStart .ok s t ∧ t.outlets[k].veh.start = true)
    ∧ (isDc s k = false → o.st = .parameters → o.pend = none → ∃ t, exec (.powerDeliveryReqStart k) s = .next t
      ∧ Asked k .powerStart .ok s t ∧ t.outlets[k].pend = some { dest := .ready, frame := s.frame })
    ∧ (∀ v i soc, isDc s k = true → ∃ t, exec (.currentDemandReq k v i soc) s = .next t ∧ Asked k .currentDemand .ok s t
      ∧ t.outlets[k].veh.target = v ∧ t.outlets[k].veh.current = i ∧ t.vlk.ports[k].soc = soc)
    ∧ (∀ v i soc, isDc s k = false → ∃ t, exec (.currentDemandReq k v i soc) s = .next t ∧ LinkDown k 8 s t
      ∧ t.outbox.take (s.outbox.length + 1) = s.outbox ++ [.vehicle k .currentDemand .failed []])
    ∧ (∀ i soc, isAc s k = true → ∃ t, exec (.chargingStatusReq k (some i) soc) s = .next t ∧ Asked k .chargingStatus .ok s t
      ∧ t.outlets[k].veh.maxI = some i ∧ t.vlk.ports[k].soc = soc)
    ∧ (∀ stop, isDc s k = true → o.st = .charging → o.pend = none → ∃ t, exec (.powerDeliveryReqStop k false stop) s = .next t
      ∧ t.vlk.ports[k].req = some { kind := .powerStop, frame := s.frame, answer := .ok, stop := stop }
      ∧ t.outlets[k].pend = some { dest := .stopping, reason := some 0x03, frame := s.frame })
    ∧ (isDc s k = true → ∃ t, exec (.weldingDetectionReq k) s = .next t ∧ Asked k .weldingDetection .ok s t)
    ∧ (∀ rec, p.proto ≠ 1 → p.payment = 1 → ∃ t, exec (.meteringReceiptReq k true rec) s = .next t ∧ Asked k .meteringReceipt .ok s t)
    ∧ (∀ upd body, p.proto ≠ 1 → p.awaiting ≠ some 5 → ∃ t, exec (.certificateInstallationReq k upd body) s = .next t
      ∧ Asked k .certificate .ok s t ∧ t.vlk.ports[k].awaiting = some 5 ∧ t.vlk.ports[k].certResp = none)
  ) ∧ (
  ∀ (k : Fin 8) (s : State),
    let p := s.vlk.ports[k]
    (∀ r a, p.req = some r → expired r.handoff s.frame = true → p.down = false → vlkAnswer s k r = some a → r.stop = false →
      ∃ t, exec (.responseHandoff k) s = .next t ∧ t.outbox = s.outbox ++ [.vehicle k r.kind a (vlkFields s k r.kind)]
        ∧ t.vlk.ports[k].req = none ∧ t.vlk.ports[k].lastReq = some r.kind
        ∧ t.vlk.ports[k].timers.seq = some (s.frame + pget s 0x200B 0) ∧ t.outlets = s.outlets)
    ∧ (∀ r, p.req = some r → vlkAnswer s k r = none → exec (.responseHandoff k) s = .next s)
    ∧ (∀ n, p.awaiting = some n → expired p.timers.host s.frame = true → p.down = false → ∃ t, exec (.vlkHostWait k) s = .next t
      ∧ t.vlk.ports[k].awaiting = none ∧ t.vlk.ports[k].timers.host = none
      ∧ t.vlk.ports[k].schedule = (if n = 4 then some (defaultSchedule s k) else p.schedule)
      ∧ t.vlk.ports[k].certResp = (if n = 5 then some (1, []) else p.certResp))
    ∧ (p.st = .session → p.lastReq = some .currentDemand ∨ p.lastReq = some .chargingStatus → p.lastRec + pget s 0x200F 0 ≤ s.frame →
      ∃ t, exec (.vehicleStatusRecord k) s = .next t ∧ t.vlk.ports[k].lastRec = s.frame
        ∧ (pget s 0x200E 0 / 64 % 2 = 1 → s.queues[1].recs.length ≤ 2040 → t.queues[1].recs.length = s.queues[1].recs.length + 2))
    ∧ (p.lastReq ≠ some .currentDemand → p.lastReq ≠ some .chargingStatus → exec (.vehicleStatusRecord k) s = .next s))

/-- The link commands (R134, R254, R259, R260): content in parts is stored part by part and taken at the edge when it is whole; keys are
made, given a chain and cleared in their slots; a loopback test holds its port and ends after 40 frames with its result; a gap of
more than 8,000 frames breaks a sequence of parts. -/
def Obligations.LinkCommandsTakeEffect : Prop :=
  ∀ (h : Hdr) (k : Fin 8) (s : State), fencedDomain s k = false →
    let p := s.vlk.ports[k]
    (Passes h 0x2000 true true s → exec (.vlkStatus h k) s = .next (accepted (.vlkStatus h k) h 0x2000 0 none s))
    ∧ (∀ total part data, p.st = .session → p.stopped = false → p.down = false → 0 < part → part ≤ total → p.schedPart = {} → 1 < total →
      data ≠ [] → data.length ≤ 1000 → Passes h 0x2001 true true s → ∃ t, exec (.vlkSchedule h k part total data) s = .next t
        ∧ t.vlk.ports[k].schedPart = { total := total, last := s.frame, got := [(part, data)] } ∧ t.vlk.ports[k].schedule = p.schedule
        ∧ t.due = s.due ++ [waitingCmd (.vlkSchedule h k part total data) h 0x2001 0 none s])
    ∧ (∀ (u : State) part total data b, partsWhole u.vlk.ports[k].schedPart = some b →
      let t := atEdge (.vlkSchedule h k part total data) h 0x2001 0 none u
      t.vlk.ports[k].schedule = some b ∧ t.vlk.ports[k].schedPart = {})
    ∧ (∀ total part data, p.st = .session → p.awaiting = some 5 → p.down = false → 0 < part → part ≤ total → p.certPart = {} → 1 < total →
      data ≠ [] → data.length ≤ 1000 → Passes h 0x2002 true true s → ∃ t, exec (.vlkCertResp h k part total 0 data) s = .next t
        ∧ t.vlk.ports[k].certPart = { total := total, last := s.frame, got := [(part, data)] })
    ∧ (Passes h 0x2003 true true s → exec (.vlkStatsClear h k) s = .next (accepted (.vlkStatsClear h k) h 0x2003 0 none s))
    ∧ (∀ u, (atEdge (.vlkStatsClear h k) h 0x2003 0 none u).vlk.ports[k] =
        { u.vlk.ports[k] with decoded := 0, misses := 0, failed := 0, raUses := 0, raDrops := 0 })
    ∧ (∀ curve, curve ≤ 2 → keyInUse s k = false → s.vlk.keygen = none → Passes h 0x2080 true true s →
      exec (.vlkKeygenX h k curve) s = .next { accepted (.vlkKeygenX h k curve) h 0x2080 0 none s with
        vlk := { s.vlk with keygen := some (k, s.frame) } })
    ∧ (∀ curve u, let t := atEdge (.vlkKeygenX h k curve) h 0x2080 0 none u
      t.vlk.keys[k].key ≠ none ∧ t.vlk.keys[k].curve = curve ∧ t.vlk.keys[k].chain = none ∧ t.vlk.keygen = none)
    ∧ (∀ total part data, keyInUse s k = false → 0 < part → part ≤ total → s.vlk.keys[k].parts = {} → 1 < total → data ≠ [] →
      data.length ≤ 1000 → Passes h 0x2081 true true s → ∃ t, exec (.vlkCertLoadX h k part total data) s = .next t
        ∧ t.vlk.keys[k].parts = { total := total, last := s.frame, got := [(part, data)] } ∧ t.vlk.keys[k].key = s.vlk.keys[k].key)
    ∧ (keyInUse s k = false → Passes h 0x2082 true true s →
      exec (.vlkKeyClearX h k) s = .next (accepted (.vlkKeyClearX h k) h 0x2082 0 none s))
    ∧ (∀ u, (atEdge (.vlkKeyClearX h k) h 0x2082 0 none u).vlk.keys[k] = {})
    ∧ (s.outlets[k].st = .unavailable ∨ s.outlets[k].st = .idle → s.vlk.loopTest = none → Passes h 0x2083 true true s →
      ∃ t, exec (.vlkLoopbackX h k) s = .next t ∧ t.vlk.loopTest = some (k, s.frame) ∧ t.vlk.ports = s.vlk.ports)
    ∧ (∀ q, p.schedPart = q → q.got ≠ [] → exec (.partSequenceTimeout (.schedule k)) s = .next (if s.frame ≤ q.last + 8000 then s else
        { s with vlk := { s.vlk with ports := s.vlk.ports.set k { p with schedPart := { broken := true } } } }))

/-! ### Metrology (chapter 08) -/

/-- Inputs, crossings and outputs of the metering engine (R268, R280, R284, R285, R287 to R290, R533): a fault flags its input and 80
good frames clear it; a validated crossing or a settlement boundary takes what is pending of a slot into force; a crossing that
does not come in time is lost with 0x73; pulses leave at their pins when they are due; harmonics are renewed every period; the
engine's failure stops it until its restart. -/
def Obligations.MeteringFollowsItsInputs : Prop :=
  ∀ (s : State),
    (∀ (n : Fin 48) (c : Nat), 1 ≤ c → c ≤ 3 → ∃ t, exec (.mtrModFault n c) s = .next t
      ∧ t.mtr.inputs[n].faulted = some (if s.mtr.inputs[n].faulted = some 1 then 1 else if s.mtr.inputs[n].faulted = some 2 then 2 else c)
      ∧ t.mtr.inputs[n].goodRun = 0 ∧ (∀ j : Fin 48, j ≠ n → t.mtr.inputs[j] = s.mtr.inputs[j]) ∧ t.params = s.params)
    ∧ (∀ n : Fin 48, s.mtr.inputs[n].faulted ≠ none → 80 ≤ s.mtr.inputs[n].goodRun → ∃ t, exec (.mtrModOk n) s = .next t
      ∧ t.mtr.inputs[n].faulted = none ∧ t.mtr.slots = s.mtr.slots ∧ ∀ j : Fin 48, j ≠ n → t.mtr.inputs[j] = s.mtr.inputs[j])
    ∧ (∀ n : Fin 48, s.mtr.inputs[n].goodRun < 80 → exec (.mtrModOk n) s = .next s)
    ∧ (∀ m : Fin 9, let x := s.mtr.slots[m]
      (∀ n r rest, x.cand = some n → x.hist = r :: rest → slotServed s m = true → n + 7 = s.frame → r.frame = s.frame →
        (pget s 0x3020 m : Rat) ≤ sampleOf s m 0 r → ∃ t, exec (.zeroCrossing m) s = .next t ∧ t.mtr.slots[m].cand = none
          ∧ t.mtr.slots[m].lastZc = some n ∧ t.mtr.slots[m].zcLost = false ∧ (t.mtr.slots[m].mode, t.mtr.slots[m].band) = pendAt x n
          ∧ t.params = s.params)
      ∧ (slotAc s m = true → slotServed s m = true → x.zcLost = false → x.lastZc.getD 0 + zcTimeout s m ≤ s.frame → x.cand = none →
        exec (.mtrZcLost m) s =
          let lost : MeterSlot := { x with zcLost := true, freq := none, zcPhases := [], harmAt := none }
          .next (evNext 0x73 (slotDomain m) 0 m { s with mtr := { s.mtr with slots := s.mtr.slots.set m lost } }))
      ∧ (s.frame < x.lastZc.getD 0 + zcTimeout s m → exec (.mtrZcLost m) s = .next s)
      ∧ (slotKind s m = 3 → slotServed s m = true → s.frame % 8000 = 0 → ∃ t, exec (.settleBoundary m) s = .next t
        ∧ (t.mtr.slots[m].mode, t.mtr.slots[m].band) = pendAt x s.frame ∧ t.params = s.params)
      ∧ (s.frame % 8000 ≠ 0 → exec (.settleBoundary m) s = .next s)
      ∧ (s.sys.vioLow = false → ∃ t, exec (.pulseOutput m) s = .next t
        ∧ t.mtr.slots[m].pulse.edges = x.pulse.edges.dropWhile (fun e => decide (e < (s.frame + 1) * 125))
        ∧ t.outbox = s.outbox ++ (x.pulse.edges.takeWhile fun e => decide (e < (s.frame + 1) * 125)).flatMap fun e =>
            (pulsePins s m).map fun i => .pulse i e)
      ∧ (slotServed s m = true → slotAc s m = true → pbool s 0x3021 m = true → x.zcLost = false → effMode s m x.mode x.band ≠ 0 →
        (∀ f, x.harmAt = some f → f + pget s 0x3022 0 ≤ s.frame) → ∃ t, exec (.harmonicsRefresh m) s = .next t
          ∧ t.mtr.slots[m].harmAt = some s.frame ∧ t.mtr.slots[m].harm.length = 7 ∧ t.mtr.inputs = s.mtr.inputs)
      ∧ (∀ f, x.harmAt = some f → s.frame < f + pget s 0x3022 0 → exec (.harmonicsRefresh m) s = .next s))
    ∧ (s.mtr.down = false → ∃ t, exec .fltMtrEngine s = .next t ∧ t.mtr.down = true ∧ t.flt.mtrFenced = true
      ∧ t.flt.mtrRestart = some (frameAfter s.frame 800) ∧ t.mtr.inputs = s.mtr.inputs ∧ t.onyx = s.onyx)
    ∧ (s.mtr.down = true → exec .mtrEngineRestart s = .next { s with
        mtr := { s.mtr with down := false }, flt := { s.flt with mtrRestart := some s.frame, mtrFenced := false } })

/-- The metrology commands (R293 to R297, R299): the reads of a slot that has a kind are answered; calibration state opens on a free slot
with sealed access, makes its outlets UNAVAILABLE and has the trial set pending; a measurement is set up, ends when the last
sample of its window is committed, is read, and its trial set sealed into the band; closing waits for the next boundary. -/
def Obligations.CalibrationRunsAsCommanded : Prop :=
  ∀ (h : Hdr) (m : Fin 9) (s : State), slotNamed s m = true →
    let x := s.mtr.slots[m]
    (Passes h 0x3000 true true s → exec (.mtrRead h m) s = .next (accepted (.mtrRead h m) h 0x3000 0 none s))
    ∧ (∀ c, c ≤ 6 → slotHas s m c = true → slotInput s m c ≠ none → Passes h 0x3001 true true s →
      exec (.mtrHarm h m c) s = .next (accepted (.mtrHarm h m c) h 0x3001 0 none s))
    ∧ (Passes h 0x3002 true true s → exec (.mtrCalInfo h m) s = .next (accepted (.mtrCalInfo h m) h 0x3002 0 none s))
    ∧ (∀ b, b ≤ 7 → (∀ j : Fin 9, s.mtr.slots[j].calBand = none) → slotBusy s m = false → s.onyx.access ≠ none →
      Passes h 0x3080 true true s → exec (.mtrCalOpenX h m b) s = .next (accepted (.mtrCalOpenX h m b) h 0x3080 0x0100 none s))
    ∧ (∀ b u, let t := atEdge (.mtrCalOpenX h m b) h 0x3080 0x0100 none u
      t.mtr.slots[m].calBand = some b ∧ t.mtr.slots[m].closing = false ∧ t.mtr.slots[m].pendMode = some (u.frame, 2)
        ∧ ∀ k : Fin 8, m.val = 0 ∨ k.val + 1 = m.val → t.outlets[k].st = .unavailable)
    ∧ (∀ n, inCal s m = true → 0 < n → n ≤ (if slotAc s m then 1000 else 100) → measuring s m = false → Passes h 0x3081 true true s →
      exec (.mtrCalMeasureX h m n) s = .next (accepted (.mtrCalMeasureX h m n) h 0x3081 0x0100 none s))
    ∧ (∀ n u, (atEdge (.mtrCalMeasureX h m n) h 0x3081 0x0100 none u).mtr.slots[m] =
        { u.mtr.slots[m] with meas := some { count := n } })
    ∧ (∀ c e, x.meas = some c → c.endAt = some e → c.running = true → e + 7 ≤ s.frame → exec (.mtrCalDone m) s =
        let st := if c.tempOut then 3 else 0
        let ended : MeterSlot := { x with meas := some { c with running := false, status := st }, measOk := st == 0 }
        .next (evNext 0x78 (slotDomain m) 0 (st * 256 + m) { s with mtr := { s.mtr with slots := s.mtr.slots.set m ended } }))
    ∧ (∀ c, inCal s m = true → x.meas = some c → c.running = false → Passes h 0x3082 true true s →
      exec (.mtrCalResultX h m) s = .next (accepted (.mtrCalResultX h m) h 0x3082 0 none s))
    ∧ (inCal s m = true → x.measOk = true → s.onyx.access ≠ none → auditFree s ≠ 0 → Passes h 0x3083 true true s →
      exec (.mtrCalSealX h m) s = .next (accepted (.mtrCalSealX h m) h 0x3083 0 none s))
    ∧ (∀ b u, b < 8 → storeWf u.params → u.mtr.slots[m].calBand = some b →
      let t := atEdge (.mtrCalSealX h m) h 0x3083 0 none u
      pget t 0x301A (8 * m + b) = 1 ∧ (∀ j, j < 10 → pget t (0x3010 + j) (8 * m + b) = pget u (0x3090 + j) m)
        ∧ t.mtr.slots[m].digest = slotDigest t m)
    ∧ (inCal s m = true → Passes h 0x3084 true true s →
      exec (.mtrCalCloseX h m) s = .next (accepted (.mtrCalCloseX h m) h 0x3084 0 none s))
    ∧ (∀ u, let t := atEdge (.mtrCalCloseX h m) h 0x3084 0 none u
      t.mtr.slots[m].pendMode = some (u.frame, 1) ∧ t.params = u.params
        ∧ (u.mtr.slots[m].mode ≠ 2 → t.mtr.slots[m].calBand = none) ∧ (u.mtr.slots[m].mode = 2 → t.mtr.slots[m].closing = true))

/-! ### Onyx (chapter 09) -/

/-- Intervals, tariffs, clock and persistence (R303, R305 to R312, R313 to R320, R326): a boundary closes the running interval with its books
and opens the next; the table's tariff comes into force unless a selection holds, a selection comes into force at its frame; an
adjustment within LEG.CLK.SLEW.MAX is absorbed, a larger one steps the clock to the value set; the write set of a boundary persists
the registers with the legal time. -/
def Obligations.OnyxKeepsTimeAndTariffs : Prop :=
  ∀ (s : State),
    let o := s.onyx
    let m := (o.wall / 1000 / demandLen s).floor.toNat
    (boundariesRun s = true → o.wallValid = true → o.live.interval < m → ∃ t c, exec .legInterval s = .next t
      ∧ t.onyx.live.interval = m ∧ t.onyx.live.segment = 0 ∧ t.onyx.live.intStart = o.legal ∧ t.onyx.live.books = .replicate 9 {}
      ∧ t.onyx.closings = o.closings ++ [c] ∧ c.interval = o.live.interval ∧ c.ends = true ∧ c.books = o.live.books ∧ t.params = s.params)
    ∧ (o.wallValid = true → m ≤ o.live.interval → exec .legInterval s = .next s)
    ∧ (boundariesRun s = true → o.wallValid = false → demandLen s * tickHz ≤ o.legal - o.live.intStart →
      ∃ t, exec .legInterval s = .next t ∧ t.onyx.live.interval = o.live.interval + 1 ∧ t.onyx.live.intStart = o.legal)
    ∧ (∀ x, boundariesRun s = true → o.hold = false → o.tarFrom ≤ s.frame → evalTable s = some x → o.overTable ≠ some x →
      ∃ t, exec .legTariff s = .next t ∧ t.onyx.live.tariff = x ∧ t.onyx.live.regs = o.live.regs ∧ t.params = s.params)
    ∧ (o.hold = true ∨ evalTable s = none → exec .legTariff s = .next s)
    ∧ (∀ f x hold, o.selects.find? (fun y => decide (y.1 ≤ s.frame)) = some (f, x, hold) → boundariesRun s = true → x ≠ 0xFF →
      ∃ t, exec .tariffSelectionApply s = .next t ∧ t.onyx.live.tariff = x ∧ t.onyx.selects = o.selects.erase (f, x, hold)
        ∧ t.onyx.hold = (o.hold || hold == 1))
    ∧ (o.slewing = true → o.slew = 0 → exec .slewComplete s = .next { s with onyx := { s.onyx with slewing := false } })
    ∧ (∀ f, o.wallValid = true → o.live.highWater ≤ o.wall → o.fold = some f → ∃ t, exec .foldEnd s = .next t ∧ t.onyx.fold = none
      ∧ t.onyx.live = o.live ∧ t.params = s.params)
    ∧ (s.sys.onyxUp = true → s.sys.powerFail = none → exec .persistWriteSet s = .next (if s.frame % 8000 = 0 then
        { s with onyx := { s.onyx with saved := { o.live with legal := o.legal } } } else s))
    ∧ (∀ v, s.sys.onyxUp = true → o.checkAt ≤ o.legal → exec (.checkValueRecompute v) s = .next { s with onyx := { s.onyx with
        checkAt := o.checkAt + 86400 * 32768, checkBad := o.checkBad || v != leBytes 8 Config.onyxCheck.toNat } })
    ∧ (∀ v : Int, o.wallValid = true → absRat (v : Rat) ≤ pget s 0x3801 0 → let t := (applyClockSet 1 v s).1
      t.onyx.slew = v ∧ t.onyx.slewing = true ∧ t.onyx.wall = o.wall ∧ t.onyx.live = o.live)
    ∧ (∀ v : Int, (o.wallValid = false ∨ (pget s 0x3801 0 : Rat) < absRat (v - o.wall)) → let t := (applyClockSet 0 v s).1
      t.onyx.wall = v ∧ t.onyx.wallValid = true ∧ t.onyx.slew = 0 ∧ t.beryl.rtc = v ∧ t.onyx.jump = some s.frame)

/-- R323: booking adds exactly the energy given; what is finer than the unit of a register is carried forward, never lost, and a
register never runs back. -/
def Obligations.BookingLosesNoEnergy : Prop :=
  ∀ (x : Rat) (r : Reg), 0 ≤ x → 0 ≤ r.rem → r.rem < 1 →
    ((regAdd x r).units : Rat) + (regAdd x r).rem = (r.units : Rat) + r.rem + x
      ∧ 0 ≤ (regAdd x r).rem ∧ (regAdd x r).rem < 1 ∧ r.units ≤ (regAdd x r).units

/-- Signed readings (R332, R333, R338): a reading takes the next counter, its snapshot is taken from the registers eight frames on, at most
20 signatures start in 8,000 frames, oldest reading first, and the finished record is kept among the 64 newest and told in the next
frame; it can be fetched until then only as busy. -/
def Obligations.ReadingsAreSignedInOrder : Prop :=
  ∀ (h : Hdr) (s : State),
    let o := s.onyx
    (∀ (m : Fin 9) kind curve, 1 ≤ kind → kind ≤ 3 → curve ≤ 1 → s.sys.powerFail = none → o.pending.length < 8 → Passes h 0x3801 true true s →
      ∃ p, p.counter = o.counter ∧ p.slot = m ∧ p.kind = kind ∧ p.curve = curve ∧ p.frame = s.frame ∧ p.snap = none ∧ p.start = none
        ∧ exec (.legReading h m kind curve) s = .next {
            accepted (.legReading h m kind curve) h 0x3801 0x0100 (some (leBytes 4 o.counter)) s with
              onyx := { s.onyx with counter := o.counter + 1, pending := o.pending ++ [p] } })
    ∧ (∀ c p, o.pending.find? (fun x => x.counter == c && x.snap.isNone) = some p → p.frame + 8 < s.frame →
      ∃ t, exec (.readingSnapshot c) s = .next t ∧ t.onyx.pending = o.pending.map (fun x => if x.counter = p.counter then
          { x with snap := some (recordBody s p) } else x) ∧ t.onyx.live = o.live)
    ∧ (∀ c p, o.pending.find? (fun x => x.counter == c && x.snap.isNone) = some p → s.frame < p.frame + 8 →
      exec (.readingSnapshot c) s = .next s)
    ∧ (∀ p, o.pending.find? (fun x => x.start.isNone) = some p → s.sys.onyxUp = true → p.snap ≠ none →
      let recent := o.starts.filter fun t => decide (s.frame < t + 8000)
      (recent.length < 20 → exec .signatureStart s = .next { s with onyx := { s.onyx with starts := s.frame :: recent
                                                                                          pending := o.pending.map fun x =>
          if x.counter = p.counter then { x with start := some s.frame } else x } })
      ∧ (20 ≤ recent.length → exec .signatureStart s = .next s))
    ∧ (∀ c p b, o.pending.find? (fun x => x.counter == c && x.start.isSome) = some p → p.snap = some b → p.restart = false →
      ∃ t, exec (.legReadingReady c) s = .next t ∧ t.onyx.records = ((c, fit 144 b ++ signBody p.curve (fit 144 b)) :: o.records).take 64
        ∧ t.onyx.pending = o.pending.filter (fun x => x.counter != c)
        ∧ t.garnet.evNext = s.garnet.evNext ++ [(0x82, 13, p.slot * 256 + p.kind, c)])
    ∧ (∀ c x, (∀ p ∈ o.pending, p.counter ≠ c) → o.records.find? (fun y => y.1 == c) = some x → Passes h 0x3802 true true s →
      exec (.legReadingGet h c) s = .next (accepted (.legReadingGet h c) h 0x3802 0 (some x.2) s))
    ∧ (∀ c, (∃ p ∈ o.pending, p.counter = c) → Passes h 0x3802 true true s →
      exec (.legReadingGet h c) s = .next (refused h 0x3802 0x2001 [] s))

/-- The commands of Onyx (R308, R317, R320, R331, R339, R340, R343, R585): each that passes its own rules waits for the edge; there access opens
for LEG.ACCESS.TMO and closes again, by command, by timeout and by SEAL_N, with the staged set lost; a staged set is sealed into the
pending configuration or discarded; a whole tariff table replaces its slot; the reads change nothing. -/
def Obligations.OnyxCommandsTakeEffect : Prop :=
  ∀ (h : Hdr) (s : State),
    let o := s.onyx
    (∀ (m : Fin 9) codes, codes ≠ [] → codes.length ≤ 32 → codes.all (regCodeOk (slotKind s m)) = true → Passes h 0x3800 true true s →
      exec (.legRead h m codes.length codes) s = .next (accepted (.legRead h m codes.length codes) h 0x3800 0 none s))
    ∧ (∀ area n first, area ≤ 1 → 0 < n → n ≤ 30 → Passes h 0x3807 true true s →
      exec (.legLogRead h area n first) s = .next (accepted (.legLogRead h area n first) h 0x3807 0 none s))
    ∧ (∀ m n first, m ≤ 8 → 0 < n → n ≤ 16 → Passes h 0x3808 true true s →
      exec (.legProfileRead h m n first) s = .next (accepted (.legProfileRead h m n first) h 0x3808 0 none s))
    ∧ (Passes h 0x3809 true true s → exec (.legInfo h) s = .next (accepted (.legInfo h) h 0x3809 0 none s))
    ∧ (∀ v, Passes h 0x3803 true true s → exec (.legClockSet h 1 v) s = .next (accepted (.legClockSet h 1 v) h 0x3803 0 none s))
    ∧ (Passes h 0x3804 true true s → exec (.legClockRead h) s = .next (accepted (.legClockRead h) h 0x3804 0 none s))
    ∧ (∀ x hold, x ≤ 15 → hold ≤ 1 → Passes h 0x3805 true true s →
      exec (.legTariffSet h x hold 0 0) s = .next (accepted (.legTariffSet h x hold 0 0) h 0x3805 0 none s))
    ∧ (∀ x hold u, x ≤ 15 → (atEdge (.legTariffSet h x hold 0 0) h 0x3805 0 none u).onyx.live.tariff = x)
    ∧ (Passes h 0x3806 true true s → exec (.legTariffInfo h) s = .next (accepted (.legTariffInfo h) h 0x3806 0 none s))
    ∧ (∀ v, -720 ≤ v → v ≤ 840 → auditFree s ≠ 0 → Passes h 0x380A true true s →
      exec (.legTzSet h v) s = .next (accepted (.legTzSet h v) h 0x380A 0 none s))
    ∧ (∀ v u, storeWf u.params → pget (atEdge (.legTzSet h v) h 0x380A 0 none u) 0x3804 0 = leNat (leInt 2 v))
    ∧ (∀ (slot : Fin 4) off data, off ∈ [0, 128, 256, 384] → data.length = 128 → pget s 0x3805 0 ≠ slot.val → auditFree s ≠ 0 →
      (∀ img, chunkImage [0, 128, 256, 384] (putChunk off data o.loads[slot]) = some img → tableOk img = true) → Passes h 0x3880 true true s →
      exec (.legTariffLoadX h slot off data) s = .next { accepted (.legTariffLoadX h slot off data) h 0x3880 0 none s with
        onyx := { s.onyx with loads := o.loads.set slot (putChunk off data o.loads[slot]) } })
    ∧ (∀ (slot : Fin 4) off data img u, chunkImage [0, 128, 256, 384] u.onyx.loads[slot] = some img →
      (atEdge (.legTariffLoadX h slot off data) h 0x3880 0 none u).onyx.tables[slot] = some img)
    ∧ (s.sys.service = .full → o.sealHigh = false → 3 ≤ auditFree s → Passes h 0x3881 true true s →
      exec (.legAccessX h 1) s = .next (accepted (.legAccessX h 1) h 0x3881 0 none s))
    ∧ (∀ u, (atEdge (.legAccessX h 1) h 0x3881 0 none u).onyx.access = some (u.frame + pget u 0x3803 0))
    ∧ (∀ u, let t := atEdge (.legAccessX h 0) h 0x3881 0 none u
      t.onyx.access = none ∧ (u.onyx.access ≠ none → t.onyx.staged = none))
    ∧ (∀ f, o.access = some f → f ≤ s.frame → ∃ t, exec .accessTimeout s = .next t ∧ t.onyx.access = none ∧ t.onyx.staged = none
      ∧ t.params = s.params)
    ∧ (∀ f, o.access = some f → s.frame < f → exec .accessTimeout s = .next s)
    ∧ (∃ t, exec (.sealN true) s = .next t ∧ t.onyx.sealHigh = true ∧ t.onyx.access = none)
    ∧ (s.sys.vioLow = false → exec (.sealN false) s = .next { s with onyx := { s.onyx with sealHigh := false } })
    ∧ (∀ es : List PEntry, o.access ≠ none → entriesLayout es.length es = true → es.all lengthOk = true → (∀ e ∈ es, cfgEntry e = none) →
      Passes h 0x3882 true true s → exec (.legCfgStageX h es.length es) s =
        .next (accepted (.legCfgStageX h es.length es) h 0x3882 0 (some (writeResult es.length 0xFF 0)) s))
    ∧ (∀ es u, (atEdge (.legCfgStageX h es.length es) h 0x3882 0 none u).onyx.staged ≠ none)
    ∧ (o.access ≠ none → slotBusy s 0 = false → anyCal s = false → o.staged ≠ none → auditFree s ≠ 0 → cfgFirstBad s = 0xFF →
      Passes h 0x3883 true true s →
      exec (.legCfgSealX h) s = .next (accepted (.legCfgSealX h) h 0x3883 0 (some [0xFF, 0, 0, 0]) s))
    ∧ (∀ u, u.onyx.staged ≠ none → let t := atEdge (.legCfgSealX h) h 0x3883 0 none u
      t.onyx.staged = none ∧ t.mtr.pending ≠ none ∧ t.params = u.params)
    ∧ (o.staged ≠ none → Passes h 0x3884 true true s →
      exec (.legCfgDiscardX h) s = .next (accepted (.legCfgDiscardX h) h 0x3884 0 none s))
    ∧ (∀ u, atEdge (.legCfgDiscardX h) h 0x3884 0 none u = { u with onyx := { u.onyx with staged := none } })

/-! ### Earth fault and insulation (chapter 10) -/

/-- Residual direct current and protective earth (R348 to R353, R366, R367, R372): of an active channel that runs, the first stage complete
trips the outlet for the next frame, once; the offset is renewed every 8,000 frames in IDLE and stands outside; a self-test is
judged on the mean of its last 160 frames; a sensor fault trips as a stage; the third bad measurement of PE fails the check
and trips an outlet whose contactors are closed, the third good one clears it. -/
def Obligations.ResidualCurrentAndEarthAreSupervised : Prop :=
  ∀ (k : Fin 8) (s : State), efiRuns s k = true →
    let r := s.efi.rdc[k]
    let p := s.efi.pe[k]
    let withRdc (x : RdcSt) : State := { s with efi := { s.efi with rdc := s.efi.rdc.set k x } }
    let full (n : Nat) : Bool := match n with
      | 1 => decide (pget s 0x4042 0 ≤ r.run1)
      | 2 => decide (r.run1 < pget s 0x4042 0 ∧ pget s 0x4043 0 ≤ r.run2)
      | 3 => decide (r.run1 < pget s 0x4042 0 ∧ r.run2 < pget s 0x4043 0 ∧ pget s 0x4044 0 ≤ r.run3)
      | _ => false
    let limit := pget s 0x4052 k
    (rdcActive s k = true →
      (∀ n, full n = true → r.tripped = none → ∃ t, exec (.efiRdcTrip k) s = .next t
        ∧ t.efi.rdc = s.efi.rdc.set k { r with tripped := some s.frame } ∧ t.garnet.trips[k] = some s.frame
        ∧ t.garnet.evNext = s.garnet.evNext ++ [(0x90, k.val, 0, n * 2 ^ 24 + leNat (leInt 2 (tenths r.dc)))]
        ∧ t.outlets = s.outlets ∧ t.garnet.outs = s.garnet.outs ∧ t.params = s.params)
      ∧ (r.tripped ≠ none ∨ (∀ n, full n = false) → exec (.efiRdcTrip k) s = .next s)
      ∧ (rdcW s k ≤ r.win.length → r.testEnd = none → s.outlets[k].st = .idle → r.zeroed = false ∨ r.nextOfs ≤ s.frame →
        exec (.rdcOffsetMeasure k) s = .next (withRdc { r with
          offset := meanOf (rdcW s k) r.win, zeroed := true, nextOfs := frameAfter s.frame 8000 }))
      ∧ (r.zeroed = true → s.frame < r.nextOfs ∨ s.outlets[k].st ≠ .idle → exec (.rdcOffsetMeasure k) s = .next s)
      ∧ (∀ n, rdcFaultKind s k = some n → r.fault = false → ∃ t, exec (.efiRdcFault k) s = .next t
        ∧ t.efi.rdc = s.efi.rdc.set k { r with fault := true, faultA := false, tripped := some s.frame } ∧ t.garnet.trips[k] = some s.frame
        ∧ t.garnet.evNext = s.garnet.evNext ++
            [(0x91, k.val, 0, n), (0x90, k.val, 0, 4 * 2 ^ 24 + leNat (leInt 2 (tenths r.dc)))])
      ∧ (∀ h, s.outlets[k].st = .idle ∨ s.outlets[k].st = .connected ∨ s.outlets[k].st = .ended → Passes h 0x4041 true true s →
        exec (.efiRdcTest h k) s = .next (accepted (.efiRdcTest h k) h 0x4041 0x0100 none s)))
    ∧ (∀ h, atEdge (.efiRdcTest h k) h 0x4041 0x0100 none s = withRdc { r with testEnd := some (frameAfter s.frame 400) })
    ∧ (∀ e, r.testEnd = some e → e ≤ s.frame → r.fault = false →
      let x := meanOf 160 r.win - r.offset
      let ok := decide (8 ≤ x ∧ x ≤ 12)
      exec (.rdcSelfTestEnd k) s = .next (ev 0x92 k 0 (leNat (leSat 2 (tenths (absRat x)).toNat) * 2 ^ 16 + (if ok then 0 else 1))
        (withRdc { r with testEnd := none, passed := r.passed || ok, failed := !ok, lastTest := x })))
    ∧ (∀ e, r.testEnd = some e → s.frame < e → exec (.rdcSelfTestEnd k) s = .next s)
    ∧ (pget s 0x4051 0 / 2 ^ k.val % 2 = 1 → p.next ≤ s.frame →
      (∀ mOhm, limit < mOhm → 2 ≤ p.bad → p.failed = false → ∃ t, exec (.peMeasurement k mOhm) s = .next t
        ∧ t.efi.pe[k].failed = true ∧ t.efi.pe[k].last = mOhm ∧ t.efi.pe[k].next = frameAfter s.frame 8000
        ∧ t.garnet.evNext = s.garnet.evNext ++ [(0x97, k.val, 0, mOhm)] ∧ t.efi.rdc = s.efi.rdc
        ∧ t.garnet.trips = if mainClosed s k then s.garnet.trips.set k (some s.frame) else s.garnet.trips)
      ∧ (∀ mOhm, mOhm ≤ limit → 2 ≤ p.good → p.failed = true → ∃ t, exec (.peMeasurement k mOhm) s = .next t
        ∧ t.efi.pe[k].failed = false ∧ t.garnet.evNext = s.garnet.evNext ++ [(0x98, k.val, 0, mOhm)] ∧ t.garnet.trips = s.garnet.trips)
      ∧ (∀ mOhm, limit < mOhm → p.bad < 2 → ∃ t, exec (.peMeasurement k mOhm) s = .next t
        ∧ t.efi.pe[k].failed = p.failed ∧ t.efi.pe[k].bad = p.bad + 1 ∧ t.efi.pe[k].good = 0 ∧ t.garnet = s.garnet))
    ∧ (∀ mOhm, s.frame < p.next → exec (.peMeasurement k mOhm) s = .next s)

/-- Insulation monitoring (R356 to R365): a free port takes the first candidate for the next edge; a result below the fault threshold
trips an energised outlet with path 1 and fails a cable check with its kΩ, two at or above it pass the check; the slice of an
energised outlet ends after EFI.IMD.SLICE; the stale count, the balance estimate and the coupling check trip with their
paths; a failed read-back or reference test makes a port faulty, and a passed test brings it back. -/
def Obligations.InsulationIsMeasuredInSlices : Prop :=
  ∀ (h : Hdr) (p : Fin 4) (k : Fin 8) (s : State),
    let x := s.efi.ports[p]
    let i := s.efi.imd[k]
    let due := x.start + 160 + (2 + x.results) * pget s 0x404B 0
    (∀ rest, imReady s p = true → x.outlet = none → x.freeAt ≤ s.frame → imCandidates s = k :: rest →
      ∃ t, exec (.portAssignment p) s = .next t ∧ t.efi.ports[p].outlet = some k ∧ t.efi.ports[p].start = frameAfter s.frame 1
        ∧ t.efi.ports[p].cable = (s.outlets[k].st == .cableCheck) ∧ t.efi.imd[k].port = some p ∧ t.efi.rdc = s.efi.rdc
        ∧ t.garnet = s.garnet ∧ t.outlets = s.outlets)
    ∧ (imReady s p = false ∨ x.outlet ≠ none ∨ s.frame < x.freeAt → exec (.portAssignment p) s = .next s)
    ∧ (x.outlet = some k → i.port = some p →
      (x.start ≤ s.frame → s.frame ≤ x.start + 159 → ∃ t, exec (.sliceReadbackFail p) s = .next t ∧ t.efi.ports[p].outlet = none
        ∧ t.efi.ports[p].faulty = true ∧ t.efi.imd[k].port = none ∧ t.efi.imd[k].head = true ∧ t.efi.imd[k].lastEnd = i.lastEnd
        ∧ t.efi.imd[k].tripped = i.tripped)
      ∧ (x.start + 160 ≤ s.frame → exec (.sliceReadbackFail p) s = .next s)
      ∧ (x.cable = false → x.start + pget s 0x404C 0 ≤ s.frame → ∃ t, exec (.sliceEnd p) s = .next t ∧ t.efi.ports[p].outlet = none
        ∧ t.efi.ports[p].freeAt = frameAfter s.frame 1 ∧ t.efi.imd[k].port = none ∧ t.efi.imd[k].lastEnd = s.frame
        ∧ t.garnet = s.garnet)
      ∧ (s.frame < x.start + pget s 0x404C 0 → exec (.sliceEnd p) s = .next s)
      ∧ (∀ q, s.frame < due → exec (.insulationResult p q) s = .next s)
      ∧ (due ≤ s.frame → x.cable = false → imdEnergised s k = true →
        (∀ q, q ≤ 10000 → q * 1000 < imdFaultOhm s k → i.tripped = false →
          ∃ t, exec (.insulationResult p q) s = .next t ∧ ImdTripped k (2 ^ 28 + q) s t)
        ∧ (∀ q, q ≤ 10000 → imdFaultOhm s k ≤ q * 1000 → ∃ t, exec (.insulationResult p q) s = .next t
          ∧ t.efi.imd[k].result = some (q, s.frame) ∧ t.efi.imd[k].base = s.frame ∧ t.efi.imd[k].tripped = i.tripped
          ∧ t.efi.imd[k].warned = decide (q * 1000 < imdWarnOhm s k) ∧ t.garnet = s.garnet ∧ t.outlets = s.outlets))
      ∧ (due ≤ s.frame → x.cable = true → s.outlets[k].st = .cableCheck → isDc s k = true → s.outlets[k].pend = none →
        (∀ q, q ≤ 10000 → q * 1000 < imdFaultOhm s k → ∃ t, exec (.insulationResult p q) s = .next t ∧ t.efi.ports[p].outlet = none
          ∧ t.outlets[k].pend = some { dest := .stopping, reason := some 0x07, frame := s.frame }
          ∧ t.garnet.evNext = s.garnet.evNext ++ [(0x49, k.val, 0, q)])
        ∧ (∀ q, q ≤ 10000 → imdFaultOhm s k ≤ q * 1000 → i.cc = [] → ∃ t, exec (.insulationResult p q) s = .next t
          ∧ t.efi.imd[k].cc = [q] ∧ t.efi.ports[p].outlet = some k ∧ t.outlets = s.outlets ∧ t.garnet = s.garnet)
        ∧ (∀ q c, q ≤ 10000 → imdFaultOhm s k ≤ q * 1000 → i.cc = [c] → ∃ t, exec (.insulationResult p q) s = .next t
          ∧ t.outlets[k].pend = some { dest := .precharge, frame := s.frame } ∧ t.efi.ports[p].outlet = none
          ∧ t.efi.imd[k].warned = decide (min c q * 1000 < imdWarnOhm s k) ∧ t.garnet = s.garnet)))
    ∧ (isDc s k = true → imdEnergised s k = true → efiRuns s k = true → i.tripped = false → i.base + pget s 0x404E 0 ≤ s.frame →
      ∃ t, exec (.imdStaleTrip k) s = .next t ∧ ImdTripped k (3 * 2 ^ 28) s t)
    ∧ (i.tripped = true ∨ s.frame < i.base + pget s 0x404E 0 → exec (.imdStaleTrip k) s = .next s)
    ∧ (pget s 0x4050 0 ≤ i.balRun → i.tripped = false →
      ∃ t, exec (.balanceTrip k) s = .next t ∧ ImdTripped k (2 * 2 ^ 28 + (i.estimate.getD 0).floor.toNat % 2 ^ 28) s t)
    ∧ (i.balRun < pget s 0x4050 0 → exec (.balanceTrip k) s = .next s)
    ∧ (80 ≤ i.coupRun → i.coupling = false → s.outlets[k].st ≠ .cableCheck → mainClosed s k = true → i.tripped = false →
      ∃ t, exec (.efiCouplingFault k) s = .next t ∧ t.efi.imd[k].coupling = true ∧ ImdTripped k (4 * 2 ^ 28) s t)
    ∧ (i.coupRun < 80 → exec (.efiCouplingFault k) s = .next s)
    ∧ (pget s 0x4048 0 / 2 ^ p.val % 2 = 1 → x.outlet = none → watching s = false → x.testing = true ∨ x.nextTest ≤ s.frame →
      s.sys.service ≠ .bringUp →
      (∃ t, exec (.referenceTest p true) s = .next t ∧ t.efi.ports[p].faulty = false ∧ t.efi.ports[p].testing = false
        ∧ t.efi.imd = s.efi.imd ∧ t.garnet = s.garnet)
      ∧ (∃ t, exec (.referenceTest p false) s = .next t ∧ (x.faulty = false → t.efi.ports[p].faulty = true) ∧ t.efi.imd = s.efi.imd))
    ∧ (Passes h 0x4040 true true s → exec (.efiStatus h k) s = .next (accepted (.efiStatus h k) h 0x4040 0 none s))
    ∧ (pget s 0x4048 0 / 2 ^ p.val % 2 = 1 → x.outlet = none → Passes h 0x40C0 true true s →
      exec (.efiImdTestX h p) s = .next (accepted (.efiImdTestX h p) h 0x40C0 0x0100 none s))
    ∧ (atEdge (.efiImdTestX h p) h 0x40C0 0x0100 none s =
        let tested : ImPort := { x with testing := true }
        { s with efi := { s.efi with ports := s.efi.ports.set p tested } })

/-! ### Garnet (chapter 11) -/

/-- Safe inputs and outputs, feedback and the island (R13, R377, R380 to R393, R408): a change stamped long enough is accepted; a demand of
a stop function latches, trips the outlets in scope and is told in the next frame; a discrepancy or three missing pulses fault
the input; a failed test or an overcurrent holds an output off; the stop of the island drives every output off; a loss of the pilot
removes the grants of its outlet; SCFG_N high discards the staged set. -/
def Obligations.SafeInputsAndOutputsAreSupervised : Prop :=
  ∀ (s : State),
    (∀ (i : Fin 16) (b : Bool), let x := s.garnet.inputs[i]
      let c := if b then x.b else x.a
      let func := pget s 0x4000 i
      (c.run ≤ pget s 0x4003 i → exec (.safeInputAccepted i b) s = .next s)
      ∧ (pget s 0x4003 i < c.run → x.faulted = false → x.demand = false → levelDemand s i b c.stamp = true → func = 1 ∨ func = 2 →
        ∃ t, exec (.safeInputAccepted i b) s = .next t ∧ (if b then t.garnet.inputs[i].b else t.garnet.inputs[i].a).accepted = c.stamp
          ∧ t.garnet.inputs[i].demand = true ∧ t.garnet.inputs[i].latch = true ∧ t.garnet.outs = s.garnet.outs
          ∧ t.garnet.evNext = s.garnet.evNext ++ [(0xA0, 14, 0, func * 65536 + i.val * 256 + 1)] ∧ t.outlets = s.outlets
          ∧ ∀ k : Fin 8, t.garnet.trips[k] = if inScope s i (2 * k.val) then some s.frame else s.garnet.trips[k])
      ∧ (pget s 0x4003 i < c.run → x.faulted = false → x.demand = true → levelDemand s i b c.stamp = false →
        levelDemand s i (!b) (if b then x.a else x.b).accepted = false → func = 1 ∨ func = 2 →
        ∃ t, exec (.safeInputAccepted i b) s = .next t ∧ t.garnet.inputs[i].demand = false ∧ t.garnet.inputs[i].latch = x.latch
          ∧ t.garnet.trips = s.garnet.trips ∧ t.garnet.outs = s.garnet.outs)
      ∧ (∀ f, x.discBy = some f → f ≤ s.frame → func ≠ 0 → x.faulted = false → ∃ t, exec (.safeInputDiscrepancy i) s = .next t
        ∧ t.garnet.inputs[i].faulted = true ∧ t.garnet.inputs[i].faultLatch = true ∧ t.garnet.inputs[i].demand = true)
      ∧ (x.discBy = none → exec (.safeInputDiscrepancy i) s = .next s)
      ∧ (3 ≤ (if b then x.missB else x.missA) → func ≠ 0 → x.faulted = false → ∃ t, exec (.testPulseMissing i b) s = .next t
        ∧ t.garnet.inputs[i].faulted = true ∧ t.garnet.inputs[i].faultLatch = true ∧ t.garnet.inputs[i].demand = true)
      ∧ ((if b then x.missB else x.missA) < 3 → exec (.testPulseMissing i b) s = .next s))
    ∧ (∀ o : Fin 32, let x := s.garnet.outs[o]
      let tested : SafeOut := { x with testNext := frameAfter s.frame (pget s 0x4009 o) }
      (s.garnet.st = .run → pget s 0x4008 0 / 2 ^ o.val % 2 = 1 → x.testNext ≤ s.frame → x.offAt ≠ some s.frame →
        (exec (.outputTest (Fin.castLE (by decide) o) 0) s =
          .next { s with garnet := { s.garnet with outs := s.garnet.outs.set o { tested with testOk := true } } })
        ∧ (∀ kind, 1 ≤ kind → kind ≤ 5 → ∃ t, exec (.outputTest (Fin.castLE (by decide) o) kind) s = .next t
          ∧ t.garnet.outs = s.garnet.outs.set o { tested with fault := some kind, testOk := false, granted := false }
          ∧ t.garnet.inputs = s.garnet.inputs ∧ t.outlets = s.outlets))
      ∧ (s.frame < x.testNext → ∀ kind, exec (.outputTest (Fin.castLE (by decide) o) kind) s = .next s)
      ∧ (x.driven = true → ∃ t, exec (.soOvercurrent o) s = .next t
        ∧ t.garnet.outs = s.garnet.outs.set o { x with fault := some 4, testOk := false, granted := false })
      ∧ (x.driven = false → exec (.soOvercurrent o) s = .next s)
      ∧ (o.val < 24 → s.txn.txns = [] → pget s 0x400B 0 < x.fb.run → ∃ t, exec (.contactorFeedback o) s = .next t
        ∧ t.garnet.outs[o].fb = filtAccept x.fb s.frame ∧ t.garnet.outs[o].driven = x.driven ∧ (∀ j, j ≠ o → t.garnet.outs[j] = s.garnet.outs[j])
        ∧ (∀ f, x.offAt = some f → x.fb.stamp = true → x.driven = false → f + pget s 0x400C 0 ≤ s.frame → t.garnet.outs[o].contact = true)
        ∧ (x.fb.stamp = false → t.garnet.outs[o].contact = x.contact)))
    ∧ (∀ d : Fin 4, let c : Fin 2 := ⟨d.val / 2, by omega⟩
      s.garnet.st = .run → cdOutlet s c ≠ none →
      (exec (.outputTest (Fin.natAdd 32 d) 0) s = .next { s with
        garnet := { s.garnet with cdTestOk := s.garnet.cdTestOk.set d true } })
      ∧ (∀ kind, 1 ≤ kind → kind ≤ 5 → s.garnet.cds[c].st ≠ .unused → ∃ t, exec (.outputTest (Fin.natAdd 32 d) kind) s = .next t
        ∧ t.garnet.cdFault = s.garnet.cdFault.set d (some kind) ∧ t.garnet.cds[c].next = some (.faulted, frameAfter s.frame 1)
        ∧ t.garnet.outs = s.garnet.outs))
    ∧ (s.garnet.st ≠ .stop → ∀ cause, ∃ t, exec (.garnetStop cause) s = .next t ∧ t.garnet.st = .stop
      ∧ (∀ o : Fin 32, t.garnet.outs[o].driven = false ∧ t.garnet.outs[o].granted = false)
      ∧ (∀ c : Fin 2, t.garnet.cds[c].st = .stopped ∨ t.garnet.cds[c].st = .unused) ∧ t.params = s.params)
    ∧ (s.garnet.st = .stop → ∀ cause, exec (.garnetStop cause) s = .next s)
    ∧ (∀ beat, (if beat then s.sys.beatMissing else s.sys.onyxMissing) = 16 → ∃ t, exec (.sysPartnerLost beat) s = .next t
      ∧ t.garnet.partner = true ∧ t.sys.partnerLost = true ∧ t.garnet.outs = s.garnet.outs)
    ∧ (∀ beat, (if beat then s.sys.beatMissing else s.sys.onyxMissing) < 16 → exec (.sysPartnerLost beat) s = .next s)
    ∧ (∀ k : Fin 8, let p := s.garnet.pilots[k]
      (holdsGrant s k = true → pget s 0x4010 k < p.lossRun → ∃ t, exec (.safCpLoss k) s = .next t
        ∧ (∀ o : Fin 32, t.garnet.outs[o] = if o ∈ soOutlet k then { s.garnet.outs[o] with granted := false } else s.garnet.outs[o])
        ∧ t.garnet.evNext = s.garnet.evNext ++ [(0xA5, k.val, 0, pilotCode p.cls * 256 + 1)])
      ∧ (holdsGrant s k = true → p.lossRun ≤ pget s 0x4010 k → pget s 0x4011 k ≤ p.bRun → ∃ t, exec (.safCpLoss k) s = .next t
        ∧ holdsGrant t k = false ∧ t.garnet.evNext = s.garnet.evNext ++ [(0xA5, k.val, 0, pilotCode p.cls * 256 + 2)])
      ∧ (holdsGrant s k = false → exec (.safCpLoss k) s = .next s))
    ∧ (∃ t, exec (.scfgN true) s = .next t ∧ t.garnet.scfgHigh = true ∧ t.garnet.staged = none ∧ t.garnet.committed = s.garnet.committed)
    ∧ (exec (.scfgN false) s = .next { s with garnet := { s.garnet with scfgHigh := false } })

/-- Connection devices, latches and the configuration procedure (R394 to R402, R407 to R410): an enable that Table SAF-5 permits has the
device enabling at the next edge and its brake released SAF.CD.BRK.DLY later; SS1 and the brake test end at their times; a test
falls due again SAF.BT.INT after its last pass; SAF_RESET is accepted where it clears a latch; a set is staged under a low SCFG_N,
verified, committed for the next reset by its signature, or discarded. -/
def Obligations.DevicesAndConfigurationFollowTheirRules : Prop :=
  ∀ (h : Hdr) (c : Fin 2) (s : State),
    let x := s.garnet.cds[c]
    let withCd (y : CdSt) (u : State) : State := { u with garnet := { s.garnet with cds := s.garnet.cds.set c y } }
    let edge := frameAfter s.frame 1
    (cdSoon s c = .stopped → brakeRunning s = false → grantCause s (32 + c.val) = 0 → Passes h 0x4002 true true s →
      exec (.safCdEnable h c 1) s = .next (withCd { x with brkAt := some (frameAfter s.frame (1 + pget s 0x401B c)), next := some (.enabling, edge) }
        (accepted (.safCdEnable h c 1) h 0x4002 0 none s)))
    ∧ (cdSoon s c = .enabling ∨ cdSoon s c = .enabled ∨ cdSoon s c = .ss1 → Passes h 0x4002 true true s →
      exec (.safCdEnable h c 0) s = .next (withCd { x with brkAt := none, ss1End := none, next := some (.stopped, edge) }
        (accepted (.safCdEnable h c 0) h 0x4002 0 none s)))
    ∧ (cdSoon s c = .stopped → Passes h 0x4002 true true s →
      exec (.safCdEnable h c 0) s = .next (accepted (.safCdEnable h c 0) h 0x4002 0x0001 none s))
    ∧ (∀ b, x.st = .enabling → x.brkAt = some b → x.next = none →
      (b ≤ s.frame → grantCause s (32 + c.val) = 0 → ∃ t, exec (.brakeRelease c) s = .next t ∧ t.garnet.cds[c].st = .enabled
        ∧ t.garnet.cds[c].brkAt = none ∧ t.garnet.outs = s.garnet.outs)
      ∧ (s.frame < b → exec (.brakeRelease c) s = .next s))
    ∧ (∀ e, x.st = .ss1 → x.ss1End = some e →
      (e ≤ s.frame → ∃ t, exec (.ss1Timeout c) s = .next t ∧ t.garnet.cds[c].st = .stopped ∧ t.garnet.cds[c].cdstop = false
        ∧ t.garnet.cds[c].ss1End = none ∧ t.garnet.outs = s.garnet.outs)
      ∧ (s.frame < e → exec (.ss1Timeout c) s = .next s))
    ∧ (cdSoon s c = .stopped → brakeRunning s = false → (∀ y ∈ grantFails s true (32 + c.val), y.1 ≠ 12 → y.2 = false) →
      Passes h 0x4003 true true s →
      let w := frameAfter s.frame (1 + pget s 0x401B c)
      let b : BrakeTest := { winAt := w, winEnd := frameAfter w (pget s 0x4021 c), lastSt := w, torque := pget s 0x4020 c }
      exec (.safBrakeTest h c) s = .next (withCd { x with test := some b, next := some (.brakeTest, edge) }
        (accepted (.safBrakeTest h c) h 0x4003 0x0100 none s)))
    ∧ (∀ b p, x.test = some b → x.st = .brakeTest → cdProfile s c = some p →
      let id := u32At p 24 + pget s 0x401E c * u16At p 28
      (b.winAt ≤ s.frame → b.started = false → ∃ t, exec (.brakeTestWindowStart c) s = .next t
        ∧ t.garnet.cds[c].test = some { b with started := true, alive := b.alive + 1 }
        ∧ t.outbox = s.outbox ++ [.can (pget s 0x401C c) id (setpointPayload p 0 b.torque b.alive)])
      ∧ (s.frame < b.winAt → exec (.brakeTestWindowStart c) s = .next s)
      ∧ (b.result = none → b.winEnd ≤ s.frame → ∃ t, exec (.brakeTestEnd c) s = .next t ∧ t.garnet.cds[c].st = .stopped
        ∧ t.garnet.cds[c].test = none ∧ (∃ more, t.outbox = s.outbox ++ .can (pget s 0x401C c) id (setpointPayload p 0 0 b.alive) :: more)
        ∧ (b.reached = true → t.garnet.cds[c].due = false ∧ t.garnet.cds[c].failed = false ∧ t.garnet.cds[c].lastPass = some s.frame)
        ∧ (b.reached = false → t.garnet.cds[c].due = x.due ∧ t.garnet.cds[c].failed = true ∧ t.garnet.cds[c].lastPass = x.lastPass))
      ∧ (∀ r, b.result = some r → r ≠ 0 → r ≠ 3 → ∃ t, exec (.brakeTestEnd c) s = .next t ∧ t.garnet.cds[c].test = none
        ∧ t.garnet.cds[c].failed = true ∧ t.garnet.cds[c].next = some (.stopped, edge))
      ∧ (b.result = none → s.frame < b.winEnd → s.frame < b.lastSt + u16At p 36 → exec (.brakeTestEnd c) s = .next s))
    ∧ (∀ f, x.lastPass = some f →
      (x.st ≠ .unused → x.due = false → f + pget s 0x4023 c ≤ s.frame → exec (.safBrakeDue c) s =
        .next (ev 0xA8 (cdDomain s c) 0 c (withCd { x with due := true } s)))
      ∧ (s.frame < f + pget s 0x4023 c → exec (.safBrakeDue c) s = .next s))
    ∧ (Passes h 0x4000 true true s → exec (.safStatus h) s = .next (accepted (.safStatus h) h 0x4000 0 none s))
    ∧ (∀ object, object < 34 → Passes h 0x4001 true true s →
      exec (.safWhy h object) s = .next (accepted (.safWhy h object) h 0x4001 0 none s))
    ∧ (Passes h 0x4005 true true s → exec (.safInfo h) s = .next (accepted (.safInfo h) h 0x4005 0 none s))
    ∧ (∀ mask, latchesCleared s (clearLatches (maskBits (mask &&& pget s 0x4012 0)) s) ≠ 0 → Passes h 0x4004 true true s →
      exec (.safReset h mask) s = .next (accepted (.safReset h mask) h 0x4004 0 none s))
    ∧ (∀ mask, (mask &&& pget s 0x4012 0) % 2 = 1 → 800 ≤ s.garnet.partnerOk →
      let t := atEdge (.safReset h mask) h 0x4004 0 none s
      t.garnet.partner = false ∧ t.params = s.params ∧ ∀ o : Fin 32, t.garnet.outs[o].granted = s.garnet.outs[o].granted)
    ∧ (∀ es : List PEntry, s.garnet.scfgHigh = false → (∀ k : Fin 8, s.outlets[k].st = .unavailable ∨ s.outlets[k].st = .idle) →
      (∀ d : Fin 2, s.garnet.cds[d].st = .stopped ∨ s.garnet.cds[d].st = .unused) → entriesLayout es.length es = true →
      es.all lengthOk = true → (∀ e ∈ es, safEntry e = none) → Passes h 0x4080 true true s → exec (.safCfgStageX h es.length es) s =
        .next (accepted (.safCfgStageX h es.length es) h 0x4080 0 (some (writeResult es.length 0xFF 0)) s))
    ∧ (∀ es : List PEntry, let t := atEdge (.safCfgStageX h es.length es) h 0x4080 0 none s
      t.garnet.staged ≠ none ∧ t.garnet.verified = none ∧ t.params = s.params)
    ∧ (s.garnet.staged ≠ none → safFirstBad s = 0xFF → Passes h 0x4081 true true s → exec (.safCfgVerifyX h) s =
        .next (accepted (.safCfgVerifyX h) h 0x4081 0 (some (safVerifyResult s)) s))
    ∧ (atEdge (.safCfgVerifyX h) h 0x4081 0 none s =
        { s with garnet := { s.garnet with verified := some (garnetSig (stagedGet s)) } })
    ∧ (∀ sig, s.garnet.staged ≠ none → s.garnet.verified = some sig → Passes h 0x4082 true true s →
      exec (.safCfgCommitX h sig) s = .next (accepted (.safCfgCommitX h sig) h 0x4082 0 none s))
    ∧ (∀ sig, let t := atEdge (.safCfgCommitX h sig) h 0x4082 0 none s
      t.garnet.committed ≠ none ∧ t.garnet.staged = none ∧ t.params = s.params)
    ∧ (s.garnet.staged ≠ none → Passes h 0x4083 true true s →
      exec (.safCfgDiscardX h) s = .next (accepted (.safCfgDiscardX h) h 0x4083 0 none s))
    ∧ (let t := atEdge (.safCfgDiscardX h) h 0x4083 0 none s
      t.garnet.staged = none ∧ t.garnet.committed = s.garnet.committed)

/-! ### Switch bank (chapter 12) -/

/-- Channels of the switch bank (R414 to R417, R421 to R431, R436, R437): a short, an overcurrent and an over-temperature trip the channel with its
delay, or lock it with no retry left; open load comes and goes by its counts; the queue's head starts when it fits the budget, and
its claim goes with its blanking; a tripped channel queues again after its delay; a supply out of range turns every channel
off and its return queues them; AUX_SET builds its action for the next frame, AUX_CLEAR frees a locked channel at the edge. -/
def Obligations.ChannelsStartTripAndReturn : Prop :=
  ∀ (h : Hdr) (n : Fin 12) (s : State),
    let c := s.aux.ch[n]
    let withCh (x : AuxCh) (u : State) : State := { u with aux := { s.aux with ch := s.aux.ch.set n x } }
    let rest (t : State) : Prop := (∀ j : Fin 12, j ≠ n → t.aux.ch[j] = s.aux.ch[j]) ∧ t.params = s.params ∧ t.txn = s.txn
    let tripped (cause : Nat) (t : State) : Prop := t.aux.ch[n].cause = cause ∧ t.aux.ch[n].lastTrip = some s.frame
      ∧ t.aux.ch[n].claim = 0 ∧ t.aux.ch[n].retries = c.retries ∧ rest t
      ∧ (0 < c.retries → t.aux.ch[n].st = .tripped ∧ t.aux.ch[n].retryAt = some (frameAfter s.frame c.retryDly))
      ∧ (c.retries = 0 → t.aux.ch[n].st = .locked)
    (c.isOn = true → ∃ t, exec (.shortCircuit n) s = .next t ∧ tripped 1 t)
    ∧ (c.isOn = false → exec (.shortCircuit n) s = .next s)
    ∧ (c.st = .on → pget s 0x4801 n ≤ c.ocRun → ∃ t, exec (.overcurrentTrip n) s = .next t ∧ tripped 2 t)
    ∧ (c.ocRun < pget s 0x4801 n → exec (.overcurrentTrip n) s = .next s)
    ∧ (150 ≤ c.temp → c.latch = false → ∃ t, exec (.thermalTrip n) s = .next t ∧ t.aux.ch[n].latch = true
      ∧ (c.isOn = true → tripped 3 t) ∧ (c.isOn = false → t.aux.ch[n].st = c.st ∧ rest t))
    ∧ (c.temp < 150 → exec (.thermalTrip n) s = .next s)
    ∧ (c.latch = true → c.temp ≤ 135 →
      (c.st ≠ .tripped → exec (.thermalLatchClear n) s = .next (withCh { c with latch := false } s))
      ∧ (c.st = .tripped → c.retryAt = none → 0 < c.retries → c.mode ≠ 0 → s.aux.uv = 0 → exec (.thermalLatchClear n) s =
          .next (withCh { c with latch := false, st := .queued, startAt := s.frame } s)))
    ∧ (135 < c.temp → exec (.thermalLatchClear n) s = .next s)
    ∧ (c.st = .on → c.open_ = false → pbool s 0x4807 n = true → pget s 0x4806 n ≤ c.olRun → exec (.auxOpenLoad n) s =
        .next (ev 0xB3 8 0 (c.current % 65536 * 65536 + n) (withCh { c with open_ := true } s)))
    ∧ (c.olRun < pget s 0x4806 n ∨ pbool s 0x4807 n = false → exec (.auxOpenLoad n) s = .next s)
    ∧ (c.st = .on → c.open_ = true → pget s 0x4806 n ≤ c.okRun → exec (.auxLoadOk n) s =
        .next (ev 0xB4 8 0 (c.current % 65536 * 65536 + n) (withCh { c with open_ := false } s)))
    ∧ (∀ others, auxQueue s = n :: others → (∀ j : Fin 12, s.aux.ch[j].turnOn = false) →
      (auxFits s n = true → exec .queuedStart s = .next (withCh { c with turnOn := true, claim := auxOwnClaim s n } s))
      ∧ (auxFits s n = false → exec .queuedStart s = .next s))
    ∧ (auxQueue s = [] → exec .queuedStart s = .next s)
    ∧ (∀ e, c.st = .blanking → c.blankEnd = some e → exec (.blankingEnd n) s =
        .next (if e ≤ s.frame then withCh { c with st := .on, claim := 0, blankEnd := none } s else s))
    ∧ (∀ f, c.st = .tripped → c.retryAt = some f →
      (f ≤ s.frame → c.latch = false → 0 < c.retries → c.mode ≠ 0 → s.aux.uv = 0 →
        exec (.retryDelayEnd n) s = .next (withCh { c with st := .queued, startAt := s.frame, retryAt := none } s))
      ∧ (s.frame < f → exec (.retryDelayEnd n) s = .next s))
    ∧ (∀ f, c.lastTrip = some f → exec (.retryWindowEnd n) s =
        .next (if f + c.winLen ≤ s.frame then withCh { c with retries := c.retryN, lastTrip := none } s else s))
    ∧ (s.aux.uv = 0 → s.aux.vbank < 9000 ∨ 33000 < s.aux.vbank → ∃ t, exec .auxUv s = .next t
      ∧ t.aux.uv = (if s.aux.vbank < 9000 then 1 else 2) ∧ t.aux.ch[n].claim = 0 ∧ t.aux.ch[n].retries = c.retries
      ∧ (c.st = .queued ∨ c.isOn = true → t.aux.ch[n].st = .bankOff) ∧ (c.st ≠ .queued → c.isOn = false → t.aux.ch[n].st = c.st))
    ∧ (9000 ≤ s.aux.vbank → s.aux.vbank ≤ 33000 → exec .auxUv s = .next s)
    ∧ (∀ f, s.aux.okAt = some f → f < s.frame → ∃ t, exec .auxUvOk s = .next t ∧ t.aux.uv = 0 ∧ t.aux.okAt = none
      ∧ t.aux.ch[n] = if c.st = .bankOff then { c with st := .queued, startAt := s.frame, retryAt := none } else c)
    ∧ (s.aux.okAt = none → exec .auxUvOk s = .next s)
    ∧ (∀ check, ∃ t, exec (.auxCtrlFault check) s = .next t ∧ t.flt.domains[(8 : Fin 12)].selfAt = some s.frame ∧ t.aux = s.aux)
    ∧ (∀ mode duty, mode ≤ 2 → (mode = 2 → 10 ≤ duty ∧ duty ≤ 1000) → c.st ≠ .locked → s.aux.fenced = false →
      (∀ k : Fin 8, s.outlets[k].claim.held = true → pget s 0x1005 k ≠ n.val) → (∀ t ∈ s.txn.txns, t.isHost = false) →
      freeInternal s ≠ none → Passes h 0x4800 true true s → ∃ t, exec (.auxSet h n mode duty) s = .next t
        ∧ t.due = s.due ++ [waitingCmd (.auxSet h n mode duty) h 0x4800 0x0100 none s] ∧ t.aux = s.aux
        ∧ ∃ x ∈ t.txn.txns, x.purpose = .aux ∧ x.commitFrame = some (frameAfter s.frame 1)
            ∧ x.actions.map (fun a => a.act) = [.aux n mode duty])
    ∧ (Passes h 0x4801 true true s → exec (.auxStatus h) s = .next (accepted (.auxStatus h) h 0x4801 0 none s))
    ∧ (∀ reason, c.st = .locked → s.aux.fenced = false → objRetired s 4 n = false → Passes h 0x4802 true true s →
      exec (.auxClear h n reason) s = .next (accepted (.auxClear h n reason) h 0x4802 0 none s))
    ∧ (∀ reason, let t := atEdge (.auxClear h n reason) h 0x4802 0 none s
      t.aux.ch[n].st = .off ∧ t.aux.ch[n].mode = 0 ∧ t.aux.ch[n].retries = pget s 0x4808 n ∧ rest t)

/-! ### Site link (chapter 13) -/

/-- The mesh (R443, R444, R446 to R449, R466): a frame that fails its check is counted, one that does not authenticate is rejected, one for
another node is relayed below eight hops, a HELLO enters its node in the table, a HELLO of another part under the own address
is a conflict for 24,000 frames; frames without their acknowledgement are sent again up to SLK.RETRY times; a node not heard for
24,000 frames leaves; HELLOs, tone maps and wake requests go out at their times. -/
def Obligations.TheMeshCarriesFrames : Prop :=
  ∀ (s : State),
    (∀ f : PlcFrame, slkListens s = false → exec (.plcFrameReceived f) s = .next s)
    ∧ (∀ f : PlcFrame, slkListens s = true →
      (f.crcOk = false → exec (.plcFrameReceived f) s = .next { s with slk := { s.slk with failed := satInc s.slk.failed } })
      ∧ (f.crcOk = true → f.macOk = false → ∃ t, exec (.plcFrameReceived f) s = .next t ∧ t.slk.rejected = satInc s.slk.rejected
        ∧ t.slk.nodes = s.slk.nodes ∧ t.slk.sources = s.slk.sources ∧ t.params = s.params)
      ∧ (f.crcOk = true → f.macOk = true → f.src = ownAddr s → f.type = plcHello → leNat (f.body.take 8) ≠ Config.serial.toNat →
        ∃ t, exec (.plcFrameReceived f) s = .next t ∧ t.slk = { s.slk with conflict := some s.frame })
      ∧ (f.crcOk = true → f.macOk = true → f.src ≠ ownAddr s → s.slk.key ≠ none → plcCounterOk s f.src f.counter = true →
        (f.dst ≠ ownAddr s → f.dst ≠ 0xFF → f.via = ownAddr s → 8 ≤ f.hops →
          exec (.plcFrameReceived f) s = .next (notePlc f.src f.counter s))
        ∧ (f.dst ≠ ownAddr s → f.dst ≠ 0xFF → f.via = ownAddr s → f.hops < 8 → ∃ t, exec (.plcFrameReceived f) s = .next t
          ∧ t.slk.nodes = s.slk.nodes ∧ ∃ p ∈ t.slk.pend, p.dest = f.dst ∧ p.type = f.type ∧ p.body = f.body ∧ p.sent = 1)
        ∧ (f.dst ≠ ownAddr s → f.dst ≠ 0xFF → f.via ≠ ownAddr s → exec (.plcFrameReceived f) s = .next (notePlc f.src f.counter s))
        ∧ (f.dst = 0xFF → f.type = plcHello → ∃ t n, exec (.plcFrameReceived f) s = .next t ∧ findNode t f.src = some n
          ∧ n.last = s.frame ∧ n.profile = u8At f.body 8 ∧ n.boot = u32At f.body 12 ∧ t.slk.align = s.slk.align)))
    ∧ (∀ c, s.slk.conflict = some c → exec .addrConflictEnd s =
        .next (if c + 24000 ≤ s.frame then { s with slk := { s.slk with conflict := none } } else s))
    ∧ (∀ a n, findNode s a = some n →
      (n.last + 24000 ≤ s.frame → ∃ t, exec (.slkNode a) s = .next t ∧ t.slk.nodes = s.slk.nodes.filter (·.addr != a)
        ∧ (∀ p ∈ t.slk.pend, p.dest ≠ a) ∧ t.slk.align = s.slk.align)
      ∧ (s.frame < n.last + 24000 → exec (.slkNode a) s = .next s)
      ∧ (∀ m, n.mapAt = some m → m + pget s 0x5006 0 ≤ s.frame → s.slk.align ≠ .off → ∃ t x, exec (.toneMapRefresh a) s = .next t
        ∧ findNode t a = some x ∧ x.robust = true ∧ x.mapAt = some s.frame ∧ t.slk.pend = s.slk.pend)
      ∧ (∀ m, n.mapAt = some m → s.frame < m + pget s 0x5006 0 → exec (.toneMapRefresh a) s = .next s))
    ∧ (∀ a p, s.slk.pend.find? (fun q => q.dest == a && decide (q.nextAt ≤ s.frame)) = some p →
      let others := s.slk.pend.filter fun q => q != p
      (p.sent ≤ pget s 0x5008 0 → ∃ t q, exec (.plcRetransmit a) s = .next t ∧ t.slk.pend = others ++ [q] ∧ q.sent = p.sent + 1
        ∧ q.dest = p.dest ∧ q.type = p.type ∧ q.body = p.body ∧ q.msg = p.msg ∧ s.frame + 8 ≤ q.nextAt ∧ q.nextAt ≤ s.frame + 64)
      ∧ (pget s 0x5008 0 < p.sent → ∃ t, exec (.plcRetransmit a) s = .next t ∧ t.slk.pend = others))
    ∧ (∀ a, s.slk.pend.find? (fun q => q.dest == a && decide (q.nextAt ≤ s.frame)) = none → exec (.plcRetransmit a) s = .next s)
    ∧ (s.slk.align ≠ .off → s.slk.helloAt ≤ s.frame → ∃ t, exec .helloSend s = .next t ∧ t.slk.helloAt = s.frame + 8000
      ∧ (powerFailed s = false → .plc 0xFF 0xFF plcHello (s.slk.txCount + 1) (helloBody s) ∈ t.outbox))
    ∧ (s.frame < s.slk.helloAt → exec .helloSend s = .next s)
    ∧ (∀ a w, s.slk.wakes.find? (fun y => y.dest == a) = some w →
      (w.until_ < s.frame → ∃ t, exec (.wakeRequestSend a) s = .next t ∧ w ∉ t.slk.wakes ∧ t.slk.pend = s.slk.pend)
      ∧ (∀ x n, s.frame ≤ w.until_ → findNode s a = some x → siteNow s = some n → 1 ≤ x.hop → x.hop ≤ 8 → n % 800 / 80 = x.hop - 1 →
        w.lastTx = 0 → s.slk.align ≠ .off → s.slk.conflict = none → powerFailed s = false → ∃ t, exec (.wakeRequestSend a) s = .next t
          ∧ .plc a a plcWake (s.slk.txCount + 1) [] ∈ t.outbox ∧ { w with lastTx := s.frame } ∈ t.slk.wakes))

/-- Alignment and the root (R450 to R460, Table SLK-1): the first good beacon gives the offset, the root and the hop count; a measurement
of the own root within its limits keeps the node aligned; a root of lower address is taken; 16,000 frames without a
measurement are HOLDOVER and 80,000 more SEARCHING; 24,000 frames of silence make a root; the root's beacon and its relays leave
at their site frames, and a raised profile comes into force at the one announced. -/
def Obligations.NodesAlignToTheRoot : Prop :=
  ∀ (s : State), let x := s.slk
    (∀ b : Beacon, slkListens s = true → b.macOk = true → x.key ≠ none → b.peakOk = true →
      let o : Int := (beaconCount b : Int) - b.at_
      (x.align = .searching → ∃ t, exec (.beaconReceived b) s = .next t ∧ t.slk.align = .acquiring ∧ t.slk.offset = some o
        ∧ t.slk.root = b.root ∧ t.slk.hop = b.hop + 1 ∧ t.slk.running = b.profile ∧ t.slk.nodes = x.nodes)
      ∧ (x.align = .acquiring ∨ x.align = .aligned ∨ x.align = .holdover → b.root = x.root → b.error.natAbs ≤ 10000 →
        x.align = .acquiring ∨ (b.error - x.phase).natAbs ≤ 3000 → ∃ t, exec (.beaconReceived b) s = .next t
          ∧ t.slk.align = .aligned ∧ t.slk.lastOk = s.frame ∧ t.slk.error = b.error ∧ t.slk.hop = b.hop + 1
          ∧ t.slk.offset = if 1 < (o - x.offset.getD 0).natAbs then some o else x.offset)
      ∧ (x.align = .root → b.root < x.root → ∃ t, exec (.beaconReceived b) s = .next t ∧ t.slk.root = b.root ∧ t.slk.offset = some o
        ∧ t.slk.align = if b.error.natAbs ≤ 10000 then .aligned else .acquiring)
      ∧ (x.align = .root → x.root ≤ b.root → exec (.beaconReceived b) s = .next s))
    ∧ (∀ b : Beacon, b.macOk = false ∨ slkListens s = false → exec (.beaconReceived b) s = .next s)
    ∧ (x.align = .aligned → x.lastOk + 16000 ≤ s.frame → ∃ t, exec .holdoverStart s = .next t ∧ t.slk.align = .holdover
      ∧ t.slk.since = s.frame ∧ t.slk.offset = x.offset ∧ t.slk.root = x.root)
    ∧ (s.frame < x.lastOk + 16000 → exec .holdoverStart s = .next s)
    ∧ (x.align = .holdover → x.since + 80000 ≤ s.frame → ∃ t, exec .holdoverExpiry s = .next t ∧ t.slk.align = .searching
      ∧ t.slk.root = 0xFF ∧ t.slk.hop = 0xFF ∧ t.slk.running = 0 ∧ t.slk.offset = x.offset)
    ∧ (s.frame < x.since + 80000 → exec .holdoverExpiry s = .next s)
    ∧ (x.align = .searching → pbool s 0x5005 0 = true → x.since + 24000 ≤ s.frame → x.lastBcn = none → ∃ t,
      exec .rootElection s = .next t ∧ t.slk.align = .root ∧ t.slk.root = ownAddr s ∧ t.slk.hop = 0 ∧ t.slk.offset = some 0
        ∧ t.slk.running = siteProfile s)
    ∧ (s.frame < x.since + 24000 → exec .rootElection s = .next s)
    ∧ (∀ n, x.align = .aligned ∨ x.align = .holdover → pbool s 0x5005 0 = true → x.lastBcn = none → x.nodes = [] → siteNow s = some n →
      n % 8000 = 0 → ∃ t, exec .rootTakeover s = .next t ∧ t.slk.align = .root ∧ t.slk.root = ownAddr s ∧ t.slk.hop = 0
        ∧ t.slk.offset = x.offset)
    ∧ (∀ b, x.lastBcn = some b → s.frame < b + 24000 → exec .rootTakeover s = .next s)
    ∧ (∀ n, siteNow s = some n → n % 8000 = 0 → x.align = .root → powerFailed s = false → ∃ t, exec .beaconSend s = .next t
      ∧ .beacon x.root n 0 0 t.slk.running t.slk.raising ∈ t.outbox ∧ (siteProfile s < x.running → t.slk.running = siteProfile s)
      ∧ (x.running < siteProfile s → t.slk.running = x.running ∧ ∃ a, t.slk.raising = some (siteProfile s, a)))
    ∧ (x.align ≠ .root → exec .beaconSend s = .next s)
    ∧ (∀ n b hop, siteNow s = some n → x.heard = some (b, hop) → x.align = .aligned → n = b + 80 * x.hop → x.nodes = [] →
      powerFailed s = false → exec (.beaconRelay x.hop) s =
        .next { s with outbox := s.outbox ++ [.beacon x.root b x.hop x.error x.running x.raising] })
    ∧ (∀ hop, x.hop ≠ hop → exec (.beaconRelay hop) s = .next s)
    ∧ (∀ p a n, x.raising = some (p, a) → siteNow s = some n → x.align ≠ .off →
      (a ≤ n → ∃ t, exec .slkProfile s = .next t ∧ t.slk.running = p ∧ t.slk.raising = none ∧ t.slk.align = x.align)
      ∧ (n < a → exec .slkProfile s = .next s))

/-- Scheduled actions and the commands of the site link (R445, R461 to R464, R466, R471): an action that passes its rules gets the next
number and is distributed; its acknowledgements are awaited until C − 1,600, its outcome until all reports are in; a member holds
it for its local frame, drops it on a cancel in time and applies it there; messages, keys, lists and tone maps as asked. -/
def Obligations.ScheduledActionsReachTheirFrame : Prop :=
  ∀ (h : Hdr) (s : State), let x := s.slk
    (∀ (type siteC group n : Nat) (body : List Byte), fencedDomain s 9 = false → x.align = .aligned ∨ x.align = .root → 1 ≤ type → type ≤ 3 →
      siteNow s = some n → n + 16000 ≤ siteC → siteC ≤ n + 4800000 → (∀ a ∈ groupMembers group, a = ownAddr s ∨ findNode s a ≠ none) →
      schedBodyOk type body = true → x.dist.length < 8 → Passes h 0x5003 true true s →
      exec (.slkSched h type siteC group body) s = .next (accepted (.slkSched h type siteC group body) h 0x5003 0x0100 none s))
    ∧ (∀ (type siteC group : Nat) (body : List Byte), let t := atEdge (.slkSched h type siteC group body) h 0x5003 0x0100 none s
      t.slk.actNext = x.actNext % 255 + 1 ∧ ∃ d ∈ t.slk.dist, d.num = x.actNext ∧ d.type = type ∧ d.siteC = siteC ∧ d.group = group
        ∧ d.body = body ∧ (d.state = 1 ∨ d.state = 2 ∨ d.state = 3))
    ∧ (∀ num d n, x.dist.find? (·.num == num) = some d → siteNow s = some n →
      let moved (st : Nat) (t : State) : Prop := ∃ y ∈ t.slk.dist, y.num = num ∧ y.type = d.type ∧ y.state = st
      (fencedDomain s 9 = false → 1 ≤ d.state → d.state ≤ 4 → n + 801 ≤ d.siteC → Passes h 0x5004 true true s →
        exec (.slkSchedCancel h num) s = .next (accepted (.slkSchedCancel h num) h 0x5004 0 none s))
      ∧ moved 6 (atEdge (.slkSchedCancel h num) h 0x5004 0 none s)
      ∧ (d.state = 2 → n + 1600 ≤ d.siteC → d.lastTx = 0 ∨ d.lastTx + 400 ≤ s.frame → x.align ≠ .off → ∃ t,
        exec (.schedDistribute num) s = .next t ∧ moved 2 t
          ∧ ∀ a ∈ unacked s d, ∃ p ∈ t.slk.pend, p.dest = a ∧ p.type = plcSched)
      ∧ (d.state = 2 → d.lastTx ≠ 0 → s.frame < d.lastTx + 400 → exec (.schedDistribute num) s = .next s)
      ∧ (1600 ≤ d.siteC → d.siteC < n + 1600 → d.state = 1 → ∃ t, exec (.schedAckDeadline num) s = .next t ∧ moved 7 t)
      ∧ (1600 ≤ d.siteC → d.siteC < n + 1600 → d.state = 2 → ∃ t, exec (.schedAckDeadline num) s = .next t
        ∧ ∃ y ∈ t.slk.dist, y.num = num ∧ y.state = 4 ∧ y.missing = unacked s d)
      ∧ (n + 1600 ≤ d.siteC → exec (.schedAckDeadline num) s = .next s)
      ∧ (d.state = 3 ∨ d.state = 4 → d.siteC ≤ n → (∀ a ∈ d.acks, a ∈ d.applied ∨ a ∈ d.refused ∨ a ∈ d.missing) →
        ∃ t, exec (.schedOutcome num) s = .next t ∧ moved 5 t)
      ∧ (n < d.siteC → exec (.schedOutcome num) s = .next s))
    ∧ (∀ source num type siteC group f body, slkListens s = true → ownAddr s ∈ groupMembers group → localFrame s siteC = some f →
      x.member.length < 16 → s.frame < f → type ≠ 1 → (∀ m ∈ x.member, m.num ≠ num) → ∃ t,
      exec (.schedActionReceived source num type siteC group body) s = .next t
        ∧ t.slk.member = x.member ++ [{ source := source, num := num, type := type, siteC := siteC, group := group, body := body, localF := f }]
        ∧ ∃ p ∈ t.slk.pend, p.dest = source ∧ p.type = plcSchedAck ∧ p.body = leBytes 1 num ++ [boolByte false])
    ∧ (∀ source num type siteC group body, ownAddr s ∉ groupMembers group →
      exec (.schedActionReceived source num type siteC group body) s = .next s)
    ∧ (∀ source num siteC identity f, slkListens s = true → localFrame s siteC = some f → x.member.length < 16 → s.frame < f →
      s.upd.regions[0].st = .written → s.upd.regions[0].identity = identity → identity < 2 ^ 64 → (∀ m ∈ x.member, m.num ≠ num) → ∃ t,
      exec (.updateActReceived source num siteC identity) s = .next t ∧ t.upd.due = some f ∧ t.upd.regions[0].st = .scheduled
        ∧ ∃ m ∈ t.slk.member, m.source = source ∧ m.num = num ∧ m.type = 1 ∧ m.localF = f)
    ∧ (∀ source num m, x.member.find? (fun y => y.source == source && y.num == num) = some m →
      (slkListens s = true → s.frame + 800 ≤ m.localF → ∃ t, exec (.schedCancelReceived source num) s = .next t ∧ m ∉ t.slk.member)
      ∧ (m.localF < s.frame + 800 → exec (.schedCancelReceived source num) s = .next s)
      ∧ (m.type = 3 → m.localF ≤ s.frame + 1 → powerFailed s = false → ∃ t, exec (.schedActionApply source num) s = .next t
        ∧ m ∉ t.slk.member ∧ (watching s = true → t.sys.wakeCause ≠ none))
      ∧ (∀ off imp exp, m.type = 2 → (planSteps m.body)[m.steps]? = some (off, imp, exp) → m.localF + off ≤ s.frame + 1 →
        powerFailed s = false → freeInternal s ≠ none → ∃ t, exec (.schedActionApply source num) s = .next t
          ∧ { m with steps := m.steps + 1 } ∈ t.slk.member ∧ ∃ y ∈ t.txn.txns, y.purpose = .sched
            ∧ y.commitFrame = some (frameAfter s.frame 1) ∧ y.actions.map (fun a => a.act) = [.powerLimit 0 imp exp])
      ∧ (powerFailed s = true → exec (.schedActionApply source num) s = .next s))
    ∧ (∀ dest flags data, fencedDomain s 9 = false → dest < 64 → x.align ≠ .off → findNode s dest ≠ none → data ≠ [] → data.length ≤ 236 →
      messagesWaiting s + s.due.length < 8 → Passes h 0x5002 true true s →
      exec (.slkSend h dest flags data) s = .next (accepted (.slkSend h dest flags data) h 0x5002 0x0100 none s))
    ∧ (∀ dest flags data n, dest ≠ 0xFF → findNode s dest = some n → flags % 2 = 0 → x.align ≠ .off →
      let t := atEdge (.slkSend h dest flags data) h 0x5002 0x0100 none s
      t.slk.msgNext = (x.msgNext + 1) % 65536 ∧ ∃ p ∈ t.slk.pend, p.dest = dest ∧ p.type = plcMsg ∧ p.msg = some x.msgNext)
    ∧ (fencedDomain s 9 = false →
      (Passes h 0x5005 true true s → exec (.slkSchedList h) s = .next (accepted (.slkSchedList h) h 0x5005 0 none s))
      ∧ (Passes h 0x5000 true true s → exec (.slkStatus h) s = .next (accepted (.slkStatus h) h 0x5000 0 none s))
      ∧ (∀ page, page ≤ 3 → Passes h 0x5001 true true s →
        exec (.slkNodes h page) s = .next (accepted (.slkNodes h page) h 0x5001 0 none s))
      ∧ (∀ key : List Byte, key.length = 16 → h.link = .spi → Passes h 0x5080 true true s → exec (.slkKeySetX h key) s =
          .next (accepted (.slkKeySetX h key) h 0x5080 0 (some ((sha256 key).take 4)) s))
      ∧ (∀ node action, action ≤ 1 → findNode s node ≠ none → Passes h 0x5081 true true s →
        exec (.slkTonemapX h node action) s = .next (accepted (.slkTonemapX h node action) h 0x5081 0 none s)))
    ∧ (∀ key : List Byte, atEdge (.slkKeySetX h key) h 0x5080 0 (some ((sha256 key).take 4)) s =
        { s with slk := { s.slk with key := some key } })

/-! ### Contactless (chapter 14) -/

/-- The reader (R476 to R485, R496): a card of a running poll takes the lowest free handle; an absent card and an idle one lose theirs; an
exchange ends with its answer; the ping measures the detuning against the reference that the calibration takes; the reader's
commands poll, exchange and release at the edge. -/
def Obligations.CardsHoldHandles : Prop :=
  ∀ (h : Hdr) (s : State), let n := s.nfc
    let withNfc (x : NfcSt) (u : State) : State := { u with nfc := x }
    (readerOn s = false → (∀ l, exec (.poll l) s = .next s) ∧ ∀ c, exec (.cardSelected c) s = .next s)
    ∧ (n.polling = false → pget s 0x5804 0 = 0 → ∀ l, exec (.poll l) s = .next s)
    ∧ (readerOn s = true → n.polling = true → ∃ t, exec (.poll []) s = .next t ∧ t.nfc.polling = false ∧ t.nfc.handles = n.handles
      ∧ t.nfc.field = (n.field && decide (0 < openHandles s)) ∧ t.queues = s.queues)
    ∧ (∀ (c : CardAnswer) (i : Fin 8), readerOn s = true → n.polling = true → c.crcOk = true → n.pollFound < pget s 0x5803 0 →
      pget s 0x5801 0 / 2 ^ c.tech % 2 = 1 → n.handles[i] = none → (∀ j : Fin 8, j.val < i.val → n.handles[j] ≠ none) →
      ∃ t, exec (.cardSelected c) s = .next t ∧ t.nfc.pollFound = n.pollFound + 1 ∧ t.nfc.handles = n.handles.set i
        (some { tech := c.tech, uid := c.uid, lastUse := s.frame, checkAt := s.frame + 800 }))
    ∧ (∀ (i : Fin 8) (x : Handle), n.handles[i] = some x →
      (x.checkAt ≤ s.frame → exec (.presenceCheck (i.val + 1) true) s =
        .next (withNfc { n with handles := n.handles.set i (some { x with checkAt := s.frame + 800 }) } s))
      ∧ (x.checkAt ≤ s.frame → ∃ t, exec (.presenceCheck (i.val + 1) false) s = .next t ∧ t.nfc.handles = n.handles.set i none
        ∧ ∀ y, t.nfc.xchg = some y → y.handle ≠ i.val + 1)
      ∧ (s.frame < x.checkAt → ∀ b, exec (.presenceCheck (i.val + 1) b) s = .next s)
      ∧ (x.lastUse + pget s 0x5806 0 ≤ s.frame → n.xchg = none → ∃ t, exec (.handleIdleTimeout (i.val + 1)) s = .next t
        ∧ t.nfc.handles = n.handles.set i none)
      ∧ (s.frame < x.lastUse + pget s 0x5806 0 → exec (.handleIdleTimeout (i.val + 1)) s = .next s)
      ∧ (∀ (data : List Byte), fencedDomain s 10 = false → readerMode s = true → n.polling = false → n.xchg = none → data.length ≤ 256 →
        Passes h 0x5802 true true s → let c : Instr := .nfcRdXchg h (i.val + 1) data.length data
        exec c s = .next (withNfc { n with
            xchg := some { num := n.xchgNext, handle := i.val + 1, data := data }, xchgNext := (n.xchgNext + 1) % 65536
            handles := n.handles.set i (some { x with lastUse := s.frame }) }
          (accepted c h 0x5802 0x0100 (some (leBytes 2 n.xchgNext ++ [0, 0])) s)))
      ∧ (fencedDomain s 10 = false → Passes h 0x5803 true true s →
        exec (.nfcRdRelease h (i.val + 1)) s = .next (accepted (.nfcRdRelease h (i.val + 1)) h 0x5803 0 none s))
      ∧ (atEdge (.nfcRdRelease h (i.val + 1)) h 0x5803 0 none s).nfc.handles = n.handles.set i none)
    ∧ (∀ x, n.xchg = some x → (∀ st data, ∃ t, exec (.exchangeAnswer st data) s = .next t ∧ t.nfc.xchg = none ∧ t.nfc.mem = n.mem)
      ∧ atEdge (.nfcRdXchg h x.handle x.data.length x.data) h 0x5802 0x0100 none s =
          { s with outbox := s.outbox ++ [.card x.data] })
    ∧ (n.xchg = none → ∀ st data, exec (.exchangeAnswer st data) s = .next s)
    ∧ (∀ re im, pingOn s = true → s.frame % 2000 = 5 → let d := detuningOf s re im
      let thr := pget s 0x5808 0
      exec (.lpPing re im) s = .next (withNfc { n with
        detuning := d, detected := if thr ≤ d ∧ ¬ n.antFault then some d else none
        detFlag := if d < thr then false else n.detFlag } s))
    ∧ (∀ re im, pingOn s = false ∨ s.frame % 2000 ≠ 5 → exec (.lpPing re im) s = .next s)
    ∧ (∀ re im, pingOn s = true → n.calReq = true → let ref := Config.antennaAmp * Config.antennaAmp
      let ok := ref / 4 ≤ normSq re im ∧ normSq re im ≤ ref * 9 / 4
      ∃ t, exec (.lpCalibration re im) s = .next t ∧ t.nfc.calReq = false ∧ t.nfc.calDue = s.frame + pget s 0x5809 0
        ∧ (ok → t.nfc.refRe = re ∧ t.nfc.refIm = im ∧ t.nfc.antFault = false)
        ∧ (¬ ok → t.nfc.refRe = n.refRe ∧ t.nfc.refIm = n.refIm ∧ t.nfc.antFault = true))
    ∧ (pingOn s = false → ∀ re im, exec (.lpCalibration re im) s = .next s)
    ∧ (fencedDomain s 10 = false → readerMode s = true →
      (n.extField = false → n.polling = false → n.xchg = none → Passes h 0x5801 true true s →
        exec (.nfcRdPoll h) s = .next (accepted (.nfcRdPoll h) h 0x5801 0x0100 none s))
      ∧ (Passes h 0x5881 true true s → exec (.nfcLpCalX h) s = .next (accepted (.nfcLpCalX h) h 0x5881 0 none s)))
    ∧ (readerOn s = true → n.polling = false → atEdge (.nfcRdPoll h) h 0x5801 0x0100 none s =
        withNfc { n with polling := true, pollByLp := false, pollFound := 0, field := true, pollAt := s.frame } s)
    ∧ (atEdge (.nfcLpCalX h) h 0x5881 0 none s = withNfc { n with calReq := true } s)
    ∧ (Passes h 0x5800 true true s → exec (.nfcStatus h) s = .next (accepted (.nfcStatus h) h 0x5800 0 none s))
    ∧ (Passes h 0x5806 true true s → exec (.nfcInfo h) s = .next (accepted (.nfcInfo h) h 0x5806 0 none s))
    ∧ (∀ (slot : Fin 4) (p : List Byte), p.length = 192 → Passes h 0x5880 true true s →
      (sigProfileOk p = true → exec (.nfcSigLoadX h slot p) s = .next (accepted (.nfcSigLoadX h slot p) h 0x5880 0 none s))
      ∧ (sigProfileOk p = false → exec (.nfcSigLoadX h slot p) s = .next (refused h 0x5880 0x11D1 [] s)))
    ∧ (∀ (slot : Fin 4) (p : List Byte), atEdge (.nfcSigLoadX h slot p) h 0x5880 0 none s =
        withNfc { n with profiles := n.profiles.set slot (some p) } s)

/-- The tag and its memory (R486 to R495): the words of a write are copied whole and once, in ascending sequence number at a start; a host write
is committed at the edge and done by its row, a phone's while the tag is on; a write of the phone begins with its shadow and its
commit word; the field's coming and going resets the card's state; FD follows its causes. -/
def Obligations.TagMemoryIsWrittenWhole : Prop :=
  ∀ (h : Hdr) (s : State), let n := s.nfc
    let good (w : TagWrite) : Prop := w.set = true ∧ w.valid = true
    let copied (w : TagWrite) (m : List Host.Cell) : List Host.Cell := memWrite m w.off w.data
    (∀ w v, n.shadowH = some w → n.shadowF = some v → good w → good v → n.hostBusy = false → ∃ t, exec .tagStart s = .next t
      ∧ t.nfc.mem = (if w.seq ≤ v.seq then copied v (copied w n.mem) else copied w (copied v n.mem))
      ∧ t.nfc.shadowH = none ∧ t.nfc.shadowF = none)
    ∧ (∀ v, n.shadowF = some v → n.hostBusy = true → good v → ∃ t, exec .tagStart s = .next t ∧ t.nfc.mem = copied v n.mem
      ∧ t.nfc.shadowH = n.shadowH ∧ t.nfc.hostBusy = true)
    ∧ (n.shadowF = none → (∀ w, n.shadowH = some w → w.set = false ∨ w.valid = false) → ∃ t, exec .tagStart s = .next t
      ∧ t.nfc.mem = n.mem)
    ∧ (∀ w, n.shadowH = some w → w.set = true → n.hostBusy = true →
      (n.phoneWait = none → ∃ t, exec .nfcTagDone s = .next t ∧ t.nfc.mem = copied w n.mem ∧ t.nfc.shadowH = none
        ∧ t.nfc.hostBusy = false ∧ t.nfc.shadowF = n.shadowF)
      ∧ (∀ off data, n.phoneWait = some (off, data) → ∃ t x, exec .nfcTagDone s = .next t ∧ t.nfc.mem = copied w n.mem
        ∧ t.nfc.shadowF = some x ∧ x.off = off ∧ x.data = data ∧ x.seq = n.seqNext ∧ good x ∧ t.nfc.seqNext = n.seqNext + 1))
    ∧ (n.hostBusy = false → exec .nfcTagDone s = .next s)
    ∧ (∀ w, n.shadowF = some w → w.set = true → tagOn s = true → ∃ t c b, exec .phoneUpdateBinary s = .next t
      ∧ t.nfc.mem = copied w n.mem ∧ t.nfc.shadowF = none ∧ t.nfc.phoneCnt = n.phoneCnt + 1
      ∧ .phone c (withCrcA b) ∈ t.outbox ∧ b = [n.pcb, 0x90, 0x00]
      ∧ (s.sys.inReset = true → n.offWrites = none → t.nfc.offWrites = some (w.off, w.off + w.data.length, w.seq)))
    ∧ (tagOn s = false → exec .phoneUpdateBinary s = .next s ∧ ∀ f, exec (.tagFrameReceived f) s = .next s)
    ∧ (tagOn s = true → n.isoState = 0 → ∃ t, exec (.tagFrameReceived [0x26]) s = .next t ∧ t.nfc.isoState = 1
      ∧ .phone (frameDelay [0x26] 9) [0x44, 0x00] ∈ t.outbox)
    ∧ (tagOn s = true → n.isoState = 3 → exec (.tagFrameReceived (withCrcA [0x50, 0x00])) s =
        .next { s with nfc := { n with isoState := 5 } })
    ∧ (∀ (off : Nat) (data : List Byte), tagOn s = true → n.isoState = 4 → n.file = 0xE104 → pbool s 0x580A 0 = true → data.length ≤ 240 →
      off + data.length ≤ 6144 →
      let f := withCrcA ([0x02, 0x00, 0xD6, BitVec.ofNat 8 (off / 256), BitVec.ofNat 8 off, BitVec.ofNat 8 data.length] ++ data)
      (n.hostBusy = false → ∃ t x, exec (.tagFrameReceived f) s = .next t ∧ t.nfc.shadowF = some x ∧ x.off = off ∧ x.data = data
        ∧ good x ∧ t.nfc.mem = n.mem)
      ∧ (n.hostBusy = true → ∃ t, exec (.tagFrameReceived f) s = .next t ∧ t.nfc.phoneWait = some (off, data)
        ∧ t.nfc.shadowF = n.shadowF ∧ t.nfc.mem = n.mem))
    ∧ (∀ b, b ≠ n.extField → ∃ t, exec (.nfcField b) s = .next t ∧ t.nfc.extField = b ∧ t.nfc.isoState = 0 ∧ t.nfc.app = false
      ∧ t.nfc.phoneWait = none ∧ t.nfc.fd = (n.fd || (b && pbool s 0x580B 0)) ∧ t.nfc.mem = n.mem)
    ∧ (exec (.nfcField n.extField) s = .next s)
    ∧ (exec .fdRelease s = .next (if (n.extField = true ∧ pbool s 0x580B 0 = true) ∨ n.fdLp = true then s else
        { s with nfc := { n with fd := false } }))
    ∧ (∀ file off len, tagRange file off len = none → Passes h 0x5804 true true s →
      exec (.nfcTagRead h file off len) s = .next (accepted (.nfcTagRead h file off len) h 0x5804 0 none s))
    ∧ (∀ (off : Nat) (data : List Byte), 0 < data.length → data.length ≤ 240 → off + data.length ≤ 6144 → fencedDomain s 10 = false →
      n.hostBusy = false → Passes h 0x5805 true true s → let c : Instr := .nfcTagWrite h 0xE104 off data.length data
      exec c s = .next { accepted c h 0x5805 0x0100 (some (leBytes 4 n.seqNext)) s with nfc := { n with
        shadowH := some (newShadow s off data), hostBusy := true, seqNext := n.seqNext + 1 } })
    ∧ (∀ off len data, atEdge (.nfcTagWrite h 0xE104 off len data) h 0x5805 0x0100 none s = { s with
        nfc := { n with shadowH := n.shadowH.map fun w => { w with set := true } } })

/-! ### Legal display (chapter 15) -/

/-- The legal display (R501, R505, R507 to R509, R511, R516, R517): Onyx composes at its times and on a request for the check values; eight
matching frames bring the legal rows back; a bias out of range for 80 frames is told; the host writes rows 16 to 63 only, whole and
at the edge, and every other byte of the frame memory stands; a map is taken chunk by chunk, and lost by a gap. -/
def Obligations.LegalRowsAreOnyxs : Prop :=
  ∀ (h : Hdr) (s : State), let d := s.dsp
    let withDsp (x : DspSt) (u : State) : State := { u with dsp := x }
    (composes s = true → d.next = none →
      (d.showReq = none → d.checkEnd = none → s.frame % 8000 = 0 ∨ d.wantComp = true ∨ d.shown = false →
        exec .legalComposition s = .next (withDsp { d with next := some (compose false false s), wantComp := false } s))
      ∧ (∀ f, d.showReq = some f → f < s.frame → exec .legalComposition s =
          .next (withDsp { d with next := some (compose true true s), wantComp := false, showReq := none } s)))
    ∧ (composes s = false ∨ d.next ≠ none → exec .legalComposition s = .next s)
    ∧ (∀ e, d.checkEnd = some e →
      exec .checkScreenEnd s = .next (if e ≤ s.frame then withDsp { d with checkEnd := none } s else s))
    ∧ (d.blank = true → 8 ≤ d.okRun → exec .dspCrcOk s =
        .next (ev 0xE1 11 0 (s.frame - d.blankFrom) (withDsp { d with blank := false, okRun := 0 } s)))
    ∧ (d.blank = false ∨ d.okRun < 8 → exec .dspCrcOk s = .next s)
    ∧ (exec .dspBiasFault s = .next (if 80 ≤ d.biasRun then ev 0xE2 11 0 d.vlcd (withDsp { d with biasRun := 0 } s) else s))
    ∧ (d.mapLoad.got ≠ [] → exec .mapChunkTimeout s =
        .next (if d.mapLoad.last + 8000 < s.frame then withDsp { d with mapLoad := { broken := true } } s else s))
    ∧ (Passes h 0x6000 true true s → exec (.dspStatus h) s = .next (accepted (.dspStatus h) h 0x6000 0 none s))
    ∧ (∀ row count, 0 < count → count ≤ 16 → row + count ≤ 64 →
      (Passes h 0x6002 true true s → exec (.dspRead h row count) s = .next (accepted (.dspRead h row count) h 0x6002 0 none s))
      ∧ (∀ u, resultIn (.dspRead h row count) h u = memRead u.dsp.mem (48 * row) (48 * count))
      ∧ (∀ data : List Byte, data.length = 48 * count → Passes h 0x6001 true true s →
        (16 ≤ row → fencedDomain s 11 = false →
          exec (.dspWrite h row count data) s = .next (accepted (.dspWrite h row count data) h 0x6001 0 none s))
        ∧ (row < 16 → exec (.dspWrite h row count data) s = .next (refused h 0x6001 0x13E0 [] s)))
      ∧ (∀ (data : List Byte) (u : State), data.length = 48 * count → memWf u.dsp.mem = true →
        let t := atEdge (.dspWrite h row count data) h 0x6001 0 none u
        memRead t.dsp.mem (48 * row) (48 * count) = data
          ∧ (∀ a, a < 48 * row ∨ 48 * (row + count) ≤ a → memGet t.dsp.mem a = memGet u.dsp.mem a)
          ∧ t.dsp.opal = u.dsp.opal ∧ t.dsp.crc = u.dsp.crc ∧ t.onyx = u.onyx))
    ∧ (fencedDomain s 11 = false →
      (Passes h 0x6003 true true s → exec (.dspShowCheck h) s =
        .next (withDsp { d with showReq := some s.frame } (accepted (.dspShowCheck h) h 0x6003 0 none s)))
      ∧ (∀ chunk (data : List Byte), chunk ≤ 11 → data.length = 256 → Passes h 0x6080 true true s →
        (d.mapLoad.broken = false → exec (.dspMapLoadX h chunk data) s =
          .next (withDsp { d with mapLoad := partsPut s.frame 12 (chunk + 1) data d.mapLoad }
            (accepted (.dspMapLoadX h chunk data) h 0x6080 0 none s)))
        ∧ (d.mapLoad.broken = true → exec (.dspMapLoadX h chunk data) s =
          .next (refuseNow h 0x6080 0x10E0 [] (withDsp { d with mapLoad := {} } (entered h s))))))
    ∧ (∀ chunk data, atEdge (.dspMapLoadX h chunk data) h 0x6080 0 none s = (match partsWhole d.mapLoad with
      | some m => withDsp { d with mapNext := some m, mapLoad := {} } s
      | none => s))

/-! ### Faults and containment (chapter 16) -/

/-- Fences, returns and retirement (R19, R522 to R526, R528, R529, R532, R535, R536, R538): a noted fault has its fence built in a
later frame, one each frame in ascending domain number; the frame after that the domain is fenced, or retired when the fault is
permanent or its count is exceeded; it returns once its time and its cause have passed; the commands return and retire domains and
objects; records due are written; an overrun's result is discarded, a failed self-check is a fault, and a failure of the shared units
discards the frames in flight. -/
def Obligations.FaultsFenceRetireAndReturn : Prop :=
  ∀ (h : Hdr) (s : State),
    ((∀ d : Fin 12, s.flt.domains[d].fault = none) → exec .fenceBuild s = .next s)
    ∧ (∀ (d : Fin 12) (p : PendFault), s.flt.domains[d].fault = some p → p.built = none → p.frame < s.frame →
      (∀ e : Fin 12, e < d → s.flt.domains[e].fault = none) →
      (∀ (e : Fin 12) (q : PendFault), s.flt.domains[e].fault = some q → q.built ≠ some s.frame) → freeInternal s ≠ none → ∃ t,
      exec .fenceBuild s = .next t ∧ t.flt.domains[d].fault = some { p with built := some s.frame }
        ∧ (∀ e : Fin 12, e ≠ d → t.flt.domains[e] = s.flt.domains[e])
        ∧ ∃ x ∈ t.txn.txns, x.purpose = .fence d ∧ x.state = .pending ∧ x.commitFrame = some (frameAfter s.frame 1)
            ∧ x.actions.map (fun a => a.act) = fenceActs s d)
    ∧ (∀ (d : Fin 12) (p : PendFault) (b : Nat), s.flt.domains[d].fault = some p → p.built = some b →
      let n := (fencesNow s d).length + 1
      (s.frame ≤ b → exec (.fltFence d) s = .next s)
      ∧ (b < s.frame → ∃ t, exec (.fltFence d) s = .next t ∧ t.flt.domains[d].cause = p.cause ∧ t.flt.domains[d].changed = s.frame
        ∧ (p.permanent = true ∨ (p.counted = true ∧ pget s 0x7000 d < n) → t.flt.domains[d].state = 2 ∧ t.flt.domains[d].retAt = none)
        ∧ (p.permanent = false → p.counted = false ∨ n ≤ pget s 0x7000 d → t.flt.domains[d].state = 1
          ∧ t.flt.domains[d].retAt = some (if p.cause = 0xF6 then s.frame else frameAfter s.frame (pget s 0x7002 d)))
        ∧ (∀ k : Fin 8, k.val = d.val → t.outlets[k].st = .unavailable)
        ∧ (∀ e : Fin 12, e ≠ d → t.flt.domains[e].state = s.flt.domains[e].state) ∧ t.params = s.params))
    ∧ (∀ d : Fin 12, s.flt.domains[d].fault = none → exec (.fltFence d) s = .next s)
    ∧ (∀ (d : Fin 12) (f : Nat), s.flt.domains[d].state = 1 → s.flt.domains[d].retAt = some f →
      (s.frame < f → exec (.fltReturn d) s = .next s)
      ∧ (f ≤ s.frame → s.flt.domains[d].fault = none → causeCleared s d s.flt.domains[d].cause = true → grantsPossible s = true → ∃ t,
        exec (.fltReturn d) s = .next t ∧ t.flt.domains[d].state = 0 ∧ t.flt.domains[d].retAt = none
          ∧ t.flt.domains[d].changed = s.frame ∧ t.flt.domains[d].counts = s.flt.domains[d].counts ∧ t.params = s.params))
    ∧ (∀ (kind number : Nat) (reason : List Byte), reason.length = 32 → faultObject kind number = none →
      (s.sys.service = .full → isRetired s kind number = true → returnCleared s kind number = true → latchOn s kind number = false →
        textEmpty reason = false → faultStamped s (faultDomain s kind number) = false → Passes h 0x7080 true true s →
        exec (.fltReturnX h kind number reason) s = .next (accepted (.fltReturnX h kind number reason) h 0x7080 0 none s))
      ∧ (isRetired s kind number = false → Passes h 0x7081 true true s →
        exec (.fltRetireX h kind number reason) s = .next (accepted (.fltRetireX h kind number reason) h 0x7081 0 none s)))
    ∧ (∀ (d : Fin 12) (reason : List Byte), let t := atEdge (.fltReturnX h 0 d reason) h 0x7080 0 none s
      t.flt.domains[d].state = 0 ∧ t.flt.domains[d].counts = [] ∧ t.flt.domains[d].retAt = none
        ∧ ∃ r ∈ t.flt.log, r.kind = 0 ∧ r.number = d.val ∧ r.action = 3 ∧ r.reason = reason)
    ∧ (∀ (kind number : Nat) (reason : List Byte), 2 ≤ kind → kind ≤ 5 →
      objRetired (atEdge (.fltReturnX h kind number reason) h 0x7080 0 none s) kind number = false)
    ∧ (∀ (d : Fin 12) (reason : List Byte), s.flt.domains[d].state ≠ 2 → ∃ p,
      (atEdge (.fltRetireX h 0 d reason) h 0x7081 0 none s).flt.domains[d].fault = some p ∧ p.permanent = true)
    ∧ (∀ (kind number : Nat) (reason : List Byte), kind ≠ 0 →
      objRetired (atEdge (.fltRetireX h kind number reason) h 0x7081 0 none s) kind number = true)
    ∧ (Passes h 0x7003 true true s → exec (.fltStatus h) s = .next (accepted (.fltStatus h) h 0x7003 0 none s))
    ∧ (∀ first count, 0 < count → count ≤ 20 → Passes h 0x7004 true true s →
      exec (.fltLogRead h first count) s = .next (accepted (.fltLogRead h first count) h 0x7004 0 none s))
    ∧ (recordsDue s = true → ∃ t, exec .retirementRecord s = .next t ∧ t.flt.flash = flashImage s ∧ (∀ r ∈ t.flt.log, r.by_ = none)
      ∧ t.flt.log.map (fun r => r.seq) = s.flt.log.map (fun r => r.seq) ∧ t.flt.domains = s.flt.domains ∧ t.flt.objs = s.flt.objs)
    ∧ (recordsDue s = false → exec .retirementRecord s = .next s)
    ∧ (∀ job, ∃ t, exec (.sysSlotOvrun job) s = .next t ∧ (job ≠ .edge → t.sys.skips = job :: s.sys.skips) ∧ t.params = s.params
      ∧ t.txn = s.txn ∧ ∀ d : Fin 12, (jobDomain job).2 = some d →
        let old := s.flt.domains[d].overs.filter fun n => decide (s.frame < n + 8000)
        (old.length + 1 < pget s 0x7003 0 → t.flt.domains[d].overs = s.frame :: old ∧ t.flt.domains[d].fault = s.flt.domains[d].fault)
        ∧ (pget s 0x7003 0 ≤ old.length + 1 → t.flt.domains[d].overs = [s.frame]
          ∧ (s.flt.domains[d].state = 0 → t.flt.domains[d].fault ≠ none)))
    ∧ (∀ (d : Fin 12) check, ∃ t, exec (.fltSelfcheck d check) s = .next t ∧ t.flt.domains[d].selfAt = some s.frame
      ∧ (s.flt.domains[d].state = 0 → t.flt.domains[d].fault ≠ none)
      ∧ (s.flt.domains[d].state = 1 ∨ s.flt.domains[d].state = 2 → t.flt.domains[d].fault = s.flt.domains[d].fault)
      ∧ (∀ e : Fin 12, e ≠ d → t.flt.domains[e] = s.flt.domains[e]))
    ∧ (s.flt.agate = 0 → let n := (s.flt.agateRuns.filter fun n => decide (s.frame < n + 8000)).length
      (n < 3 → ∃ t, exec .fltAgate s = .next t ∧ t.flt.agate = 0 ∧ t.vlk.restartBy = some (frameAfter s.frame 8)
        ∧ (∀ i : Fin 4, t.vlk.lanes[i] = none)
        ∧ ∀ (k : Fin 8) (r : RxFrame), s.vlk.ports[k].rx = some r → r.done = false → t.vlk.ports[k].rx = none ∧ t.vlk.ports[k].sack = .allFailed)
      ∧ (3 ≤ n → ∃ t, exec .fltAgate s = .next t ∧ t.flt.agate = 1))
    ∧ (s.flt.agate ≠ 0 → exec .fltAgate s = .next s)
    ∧ (∀ f, s.vlk.restartBy = some f → s.flt.agate = 0 → exec .agateUnitsRestarted s = .next { s with vlk := { s.vlk with restartBy := none } })
    ∧ (s.vlk.restartBy = none → exec .agateUnitsRestarted s = .next s)

/-! ### Firmware update (chapter 17) -/

/-- Update (R545 to R552, R558): a region opens anew or with its record kept, takes each 16-byte unit once, reports a unit that fails, is
WRITTEN when whole, or is given up; a written image is scheduled, cancelled, and activated in the first frame that nothing blocks, or
the schedule ends after its wait; region 0 goes out over the site link block by block and is received the same way. -/
def Obligations.UpdatesTransferScheduleAndActivate : Prop :=
  ∀ (h : Hdr) (s : State), let u := s.upd
    (∀ (r : Fin 2) (flags length identity : Nat), watching s = false → lengthFits r length = true →
      flags % 2 = 1 ∨ (u.regions[r].st.running = false ∧ u.recv = none) →
      (flags / 2 % 2 = 1 → u.regions[r].st = .blank ∧ u.regions[r].length = length ∧ u.regions[r].identity = identity) →
      Passes h 0x7880 true true s →
      exec (.updOpenX h r flags length identity) s = .next (accepted (.updOpenX h r flags length identity) h 0x7880 0 none s))
    ∧ (∀ (r : Fin 2) (flags length identity : Nat), let t := atEdge (.updOpenX h r flags length identity) h 0x7880 0 none s
      (flags / 2 % 2 = 1 → t.upd.regions[r] = { u.regions[r] with st := .open, site := false })
      ∧ (flags / 2 % 2 = 0 → t.upd.regions[r] = { st := .open, length := length, identity := identity }))
    ∧ (∀ (r : Fin 2) (len offset : Nat) (data : List Byte) (bad : Option Nat), u.regions[r].st = .open → len % 16 = 0 → 16 ≤ len →
      len ≤ 1008 → offset % 16 = 0 → offset + len ≤ u.regions[r].length → data.length = len →
      unitsClash u.regions[r] offset (chunks 16 63 data) = false → Passes h 0x7881 true true s →
      let c : Instr := .updWriteX h r len offset data bad
      (sameUnits u.regions[r] offset (chunks 16 63 data) = true → exec c s = .next (accepted c h 0x7881 0x0001 none s))
      ∧ (sameUnits u.regions[r] offset (chunks 16 63 data) = false → bad = none → ∃ t, exec c s = .next t
        ∧ t.due = s.due ++ [waitingCmd c h 0x7881 0 none s]
        ∧ (∀ i, i < len / 16 → t.upd.regions[r].unit (offset + 16 * i) = some ((data.drop (16 * i)).take 16))
        ∧ (∀ o, (∀ i, i < len / 16 → o ≠ offset + 16 * i) → t.upd.regions[r].unit o = u.regions[r].unit o)
        ∧ t.upd.regions[r].st = .open ∧ t.params = s.params)
      ∧ (∀ b, bad = some b → offset ≤ b → b < offset + len → b % 16 = 0 → u.regions[r].unit b = none → ∃ t, exec c s = .next t
        ∧ t.due = s.due ∧ t.upd.regions[r].unit b = none
        ∧ ((u.regions[r].fails.find? fun x => x.1 == b) = some (b, 2) → t.upd.regions[r].st = .blank)
        ∧ ((u.regions[r].fails.find? fun x => x.1 == b) = none → t.upd.regions[r].st = .open)))
    ∧ (∀ (r : Fin 2) len offset data bad, let t := atEdge (.updWriteX h r len offset data bad) h 0x7881 0 none s
      t.upd.regions[r].units = u.regions[r].units
        ∧ t.upd.regions[r].told = max u.regions[r].told (progSteps s u.regions[r].bytes u.regions[r].length))
    ∧ (∀ r : Fin 2, u.regions[r].st = .open →
      (u.regions[r].firstMissing = none → Passes h 0x7882 true true s → exec (.updFinishX h r) s = .next
        (accepted (.updFinishX h r) h 0x7882 0 (some (imageDigest u.regions[r] ++ leBytes 4 0xFFFFFFFF ++ [0, 0, 0, 0])) s))
      ∧ (∀ res, let t := atEdge (.updFinishX h r) h 0x7882 0 res s
        t.upd.regions[r].st = .written ∧ t.upd.regions[r].units = u.regions[r].units))
    ∧ (∀ r : Fin 2, u.regions[r].st.running = true →
      (Passes h 0x7885 true true s → exec (.updAbandonX h r) s = .next (accepted (.updAbandonX h r) h 0x7885 0 none s))
      ∧ (let t := atEdge (.updAbandonX h r) h 0x7885 0 none s
        t.upd.regions[r].st = .blank ∧ t.upd.regions[r].units = u.regions[r].units
          ∧ (u.regions[r].st = .scheduled → t.upd.mask = 0 ∧ t.upd.due = none)))
    ∧ (∀ (mask mode frame f : Nat), 0 < mask → mask ≤ 3 → mode ≤ 1 → maskWritten mask s = true →
      (h.flags.getLsbD 5 = true → fencedDomain s 9 = false) → scheduleFrame h mode frame s = .inr f →
      let c : Instr := .updScheduleX h mask mode frame
      (Passes h 0x7883 true true s → exec c s = .next (accepted c h 0x7883 0x0100 (some (leBytes 6 f ++ [0, 0])) s))
      ∧ (f < 2 ^ 48 → let t := atEdge c h 0x7883 0x0100 (some (leBytes 6 f ++ [0, 0])) s
        t.upd.due = some f ∧ t.upd.mask = mask ||| u.mask
          ∧ ∀ r : Fin 2, mask / 2 ^ r.val % 2 = 1 → t.upd.regions[r].st = .scheduled ∧ t.upd.regions[r].due = some f))
    ∧ (u.mask ≠ 0 → Passes h 0x7884 true true s → exec (.updCancelX h) s = .next (accepted (.updCancelX h) h 0x7884 0 none s))
    ∧ (∀ f, u.due = some f → u.resetBy = none → let t := atEdge (.updCancelX h) h 0x7884 0 none s
      t.upd.due = none ∧ t.upd.mask = 0 ∧ ∀ r : Fin 2, u.regions[r].st = .scheduled → t.upd.regions[r].st = .written)
    ∧ (∀ group, fencedDomain s 9 = false → u.regions[0].st = .written → u.send = none → Passes h 0x7886 true true s →
      exec (.updSiteSendX h 0 group) s = .next (accepted (.updSiteSendX h 0 group) h 0x7886 0 none s))
    ∧ (∀ group, (atEdge (.updSiteSendX h 0 group) h 0x7886 0 none s).upd.send = some { number := u.sendNext, group := group })
    ∧ (u.send = none → exec .siteBlockSend s = .next s)
    ∧ (∀ x, u.send = some x → u.regions[0].st = .written ∨ u.regions[0].st = .scheduled →
      let block (o : Nat) : List Byte := leBytes 1 x.number ++ leBytes 4 o
        ++ ((List.range 12).map fun i => o + 16 * i).flatMap fun a => (u.regions[0].unit a).getD []
      let sends : Prop := s.slk.align ≠ .off ∧ s.slk.conflict = none ∧ powerFailed s = false
      (s.frame < x.lastTx + pget s 0x7802 0 → exec .siteBlockSend s = .next s)
      ∧ (x.lastTx + pget s 0x7802 0 ≤ s.frame → x.next < u.regions[0].length → ∃ t y, exec .siteBlockSend s = .next t
        ∧ t.upd.send = some y ∧ y.next = x.next + 192 ∧ y.lastTx = s.frame ∧ y.number = x.number ∧ y.repair = x.repair
        ∧ (sends → .plc 0xFF 0xFF plcBlock (s.slk.txCount + 1) (block x.next) ∈ t.outbox))
      ∧ (∀ o others, x.lastTx + pget s 0x7802 0 ≤ s.frame → u.regions[0].length ≤ x.next → x.repair = o :: others →
        ∃ t, exec .siteBlockSend s = .next t ∧ t.upd.send = some { x with repair := others, lastTx := s.frame }
          ∧ (sends → .plc 0xFF 0xFF plcBlock (s.slk.txCount + 1) (block o) ∈ t.outbox))
      ∧ (x.lastTx + pget s 0x7802 0 ≤ s.frame → u.regions[0].length ≤ x.next → x.repair = [] →
        (∀ a ∈ groupMembers x.group, a = ownAddr s ∨ a ∈ x.done) → exec .siteBlockSend s = .next { s with upd := { u with send := none } }))
    ∧ (∀ source number offset data, pbool s 0x7801 0 = true → slkListens s = true → s.sys.service = .full →
      (u.recv = some (source, number) → u.regions[0].st = .open → offset % 192 = 0 →
        data.length = min 192 (u.regions[0].length - offset) → unitsClash u.regions[0] offset (chunks 16 12 data) = false → ∃ t,
        exec (.siteBlockReceived source number offset data) s = .next t
          ∧ (∀ i, 16 * i < data.length → t.upd.regions[0].unit (offset + 16 * i) = some ((data.drop (16 * i)).take 16))
          ∧ (t.upd.regions[0].firstMissing = none → t.upd.regions[0].finishAt = some (frameAfter s.frame 1)))
      ∧ (u.recv ≠ some (source, number) → u.regions[0].st.running = false → data.length = 192 → lengthFits 0 (u32At data 20) = true →
        ∃ t, exec (.siteBlockReceived source number 0 data) s = .next t ∧ t.upd.recv = some (source, number)
          ∧ t.upd.regions[0].st = .open ∧ t.upd.regions[0].site = true ∧ t.upd.regions[0].length = u32At data 20
          ∧ t.upd.regions[0].unit 0 = some (data.take 16)))
    ∧ (∀ source number offset data, pbool s 0x7801 0 = false → exec (.siteBlockReceived source number offset data) s = .next s)
    ∧ (u.due = none → exec .updActivation s = .next s ∧ exec .activationWaitExpiry s = .next s)
    ∧ (∀ f, u.due = some f → u.mask ≠ 0 → u.resetBy = none →
      (s.frame < f → exec .updActivation s = .next s)
      ∧ (f ≤ s.frame → powerFailed s = false → activationClear s = true → ∃ t, exec .updActivation s = .next t
        ∧ t.upd.activated = some u.mask ∧ t.upd.resetBy = some (frameAfter s.frame 8) ∧ t.upd.regions = u.regions
        ∧ t.onyx.saved = { s.onyx.live with legal := s.onyx.legal } ∧ t.params = s.params)
      ∧ (f ≤ s.frame → powerFailed s = false → activationClear s = false → u.deferred = false → ∃ t, exec .updActivation s = .next t
        ∧ t.upd = { u with deferred := true } ∧ t.params = s.params)
      ∧ (activationClear s = false → u.deferred = true → exec .updActivation s = .next s)
      ∧ (f + pget s 0x7800 0 ≤ s.frame → activationClear s = false → ∃ t, exec .activationWaitExpiry s = .next t
        ∧ t.upd.due = none ∧ t.upd.mask = 0 ∧ ∀ r : Fin 2, u.regions[r].st = .scheduled → t.upd.regions[r].st = .written)
      ∧ (s.frame < f + pget s 0x7800 0 → exec .activationWaitExpiry s = .next s))
    ∧ (Passes h 0x7800 true true s → exec (.updStatus h) s = .next (accepted (.updStatus h) h 0x7800 0 none s))
end

