-- ==== Sys2Proof/Laws/Edge.lean ====
section
/-! SUPPORT. What each accepted host command does at step 6 of its edge (R23), one equation for each: the operation of its
chapter, or nothing. -/

namespace Sys2Proof.Machine

@[simp] theorem atEdge_ethHello (h : Hdr) (slot : Nat) (nonce : List Byte) (h' : Hdr) (op detail' : Nat) (res : Option (List Byte)) (s : State) :
    atEdge (.ethHello h slot nonce) h' op detail' res s = (applyHello h slot nonce s).1 := by
  simp only [atEdge, applyCmd, applyFirst, Option.getD_some]
@[simp] theorem atEdge_pskSet (h : Hdr) (slot : Nat) (key : List Byte) (h' : Hdr) (op detail' : Nat) (res : Option (List Byte)) (s : State) :
    atEdge (.pskSet h slot key) h' op detail' res s = (applyPskSet slot key s) := by
  simp only [atEdge, applyCmd, applyFirst, Option.getD_some, plain]
@[simp] theorem atEdge_pskClear (h : Hdr) (slot : Nat) (h' : Hdr) (op detail' : Nat) (res : Option (List Byte)) (s : State) :
    atEdge (.pskClear h slot) h' op detail' res s = (applyPskClear slot s) := by
  simp only [atEdge, applyCmd, applyFirst, Option.getD_some, plain]
@[simp] theorem atEdge_reset (h : Hdr) (reason : Nat) (h' : Hdr) (op detail' : Nat) (res : Option (List Byte)) (s : State) :
    atEdge (.reset h reason) h' op detail' res s = (applyReset reason s) := by
  simp only [atEdge, applyCmd, applyFirst, Option.getD_some, plain]
@[simp] theorem atEdge_paramWrite (h : Hdr) (count : Nat) (es : List PEntry) (h' : Hdr) (op detail' : Nat) (res : Option (List Byte)) (s : State) :
    atEdge (.paramWrite h count es) h' op detail' res s = (applyParamWrite h es s) := by
  simp only [atEdge, applyCmd, applyFirst, Option.getD_some, plain]
@[simp] theorem atEdge_paramWriteX (h : Hdr) (count : Nat) (es : List PEntry) (h' : Hdr) (op detail' : Nat) (res : Option (List Byte)) (s : State) :
    atEdge (.paramWriteX h count es) h' op detail' res s = (applyParamWrite h es s) := by
  simp only [atEdge, applyCmd, applyFirst, Option.getD_some, plain]
@[simp] theorem atEdge_paramDefaultX (h : Hdr) (area : Nat) (h' : Hdr) (op detail' : Nat) (res : Option (List Byte)) (s : State) :
    atEdge (.paramDefaultX h area) h' op detail' res s = (applyWrites (defaultWrites area) s) := by
  simp only [atEdge, applyCmd, applyFirst, Option.getD_some, plain]
@[simp] theorem atEdge_outPilotX (h : Hdr) (outlet : Nat) (mode : Nat) (duty : Nat) (h' : Hdr) (op detail' : Nat) (res : Option (List Byte)) (s : State) :
    atEdge (.outPilotX h outlet mode duty) h' op detail' res s = (applyOutPilot outlet mode duty s) := by
  simp only [atEdge, applyCmd, applyFirst, Option.getD_some, plain]
@[simp] theorem atEdge_polProfileLoadX (h : Hdr) (slot : Nat) (offset : Nat) (data : List Byte) (h' : Hdr) (op detail' : Nat) (res : Option (List Byte)) (s : State) :
    atEdge (.polProfileLoadX h slot offset data) h' op detail' res s = (applyProfileLoad slot s) := by
  simp only [atEdge, applyCmd, applyFirst, Option.getD_some, plain]
@[simp] theorem atEdge_polPgClearX (h : Hdr) (g : Nat) (reason : Nat) (h' : Hdr) (op detail' : Nat) (res : Option (List Byte)) (s : State) :
    atEdge (.polPgClearX h g reason) h' op detail' res s = (applyPgClear g reason s) := by
  simp only [atEdge, applyCmd, applyFirst, Option.getD_some, plain]
@[simp] theorem atEdge_vlkSchedule (h : Hdr) (outlet : Nat) (part : Nat) (total : Nat) (data : List Byte) (h' : Hdr) (op detail' : Nat) (res : Option (List Byte)) (s : State) :
    atEdge (.vlkSchedule h outlet part total data) h' op detail' res s = (applySchedule outlet s) := by
  simp only [atEdge, applyCmd, applyFirst, Option.getD_some, plain]
@[simp] theorem atEdge_vlkCertResp (h : Hdr) (outlet : Nat) (part : Nat) (total : Nat) (status : Nat) (data : List Byte) (h' : Hdr) (op detail' : Nat) (res : Option (List Byte)) (s : State) :
    atEdge (.vlkCertResp h outlet part total status data) h' op detail' res s = (applyCertResp outlet status s) := by
  simp only [atEdge, applyCmd, applyFirst, Option.getD_some, plain]
@[simp] theorem atEdge_vlkStatsClear (h : Hdr) (outlet : Nat) (h' : Hdr) (op detail' : Nat) (res : Option (List Byte)) (s : State) :
    atEdge (.vlkStatsClear h outlet) h' op detail' res s = (applyStatsClear outlet s) := by
  simp only [atEdge, applyCmd, applyFirst, Option.getD_some, plain]
@[simp] theorem atEdge_vlkKeygenX (h : Hdr) (slot : Nat) (curve : Nat) (h' : Hdr) (op detail' : Nat) (res : Option (List Byte)) (s : State) :
    atEdge (.vlkKeygenX h slot curve) h' op detail' res s = (applyKeygen slot curve s) := by
  simp only [atEdge, applyCmd, applyFirst, Option.getD_some, plain]
@[simp] theorem atEdge_vlkCertLoadX (h : Hdr) (slot : Nat) (part : Nat) (total : Nat) (data : List Byte) (h' : Hdr) (op detail' : Nat) (res : Option (List Byte)) (s : State) :
    atEdge (.vlkCertLoadX h slot part total data) h' op detail' res s = (applyCertLoad slot s) := by
  simp only [atEdge, applyCmd, applyFirst, Option.getD_some, plain]
@[simp] theorem atEdge_vlkKeyClearX (h : Hdr) (slot : Nat) (h' : Hdr) (op detail' : Nat) (res : Option (List Byte)) (s : State) :
    atEdge (.vlkKeyClearX h slot) h' op detail' res s = (applyKeyClear slot s) := by
  simp only [atEdge, applyCmd, applyFirst, Option.getD_some, plain]
@[simp] theorem atEdge_mtrCalOpenX (h : Hdr) (slot : Nat) (band : Nat) (h' : Hdr) (op detail' : Nat) (res : Option (List Byte)) (s : State) :
    atEdge (.mtrCalOpenX h slot band) h' op detail' res s = (applyCalOpen slot band s) := by
  simp only [atEdge, applyCmd, applyFirst, applySecond, Option.getD_none, Option.getD_some, plain]
@[simp] theorem atEdge_mtrCalMeasureX (h : Hdr) (slot : Nat) (count : Nat) (h' : Hdr) (op detail' : Nat) (res : Option (List Byte)) (s : State) :
    atEdge (.mtrCalMeasureX h slot count) h' op detail' res s = (applyCalMeasure slot count s) := by
  simp only [atEdge, applyCmd, applyFirst, applySecond, Option.getD_none, Option.getD_some, plain]
@[simp] theorem atEdge_mtrCalSealX (h : Hdr) (slot : Nat) (h' : Hdr) (op detail' : Nat) (res : Option (List Byte)) (s : State) :
    atEdge (.mtrCalSealX h slot) h' op detail' res s = (applyCalSeal slot s) := by
  simp only [atEdge, applyCmd, applyFirst, applySecond, Option.getD_none, Option.getD_some, plain]
@[simp] theorem atEdge_mtrCalCloseX (h : Hdr) (slot : Nat) (h' : Hdr) (op detail' : Nat) (res : Option (List Byte)) (s : State) :
    atEdge (.mtrCalCloseX h slot) h' op detail' res s = (applyCalClose slot s) := by
  simp only [atEdge, applyCmd, applyFirst, applySecond, Option.getD_none, Option.getD_some, plain]
@[simp] theorem atEdge_legClockSet (h : Hdr) (mode : Nat) (value : Int) (h' : Hdr) (op detail' : Nat) (res : Option (List Byte)) (s : State) :
    atEdge (.legClockSet h mode value) h' op detail' res s = ((applyClockSet mode value s)).1 := by
  simp only [atEdge, applyCmd, applyFirst, applySecond, Option.getD_none, Option.getD_some, withBytes]
@[simp] theorem atEdge_legTariffSet (h : Hdr) (tariff : Nat) (hold : Nat) (mode : Nat) (frame : Nat) (h' : Hdr) (op detail' : Nat) (res : Option (List Byte)) (s : State) :
    atEdge (.legTariffSet h tariff hold mode frame) h' op detail' res s = (if mode = 0 then selectTariff tariff hold s else s) := by
  simp only [atEdge, applyCmd, applyFirst, applySecond, Option.getD_none, Option.getD_some, plain]
@[simp] theorem atEdge_legTzSet (h : Hdr) (offset : Int) (h' : Hdr) (op detail' : Nat) (res : Option (List Byte)) (s : State) :
    atEdge (.legTzSet h offset) h' op detail' res s = (applyTzSet offset s) := by
  simp only [atEdge, applyCmd, applyFirst, applySecond, Option.getD_none, Option.getD_some, plain]
@[simp] theorem atEdge_legTariffLoadX (h : Hdr) (slot : Nat) (offset : Nat) (data : List Byte) (h' : Hdr) (op detail' : Nat) (res : Option (List Byte)) (s : State) :
    atEdge (.legTariffLoadX h slot offset data) h' op detail' res s = (applyTariffLoad slot s) := by
  simp only [atEdge, applyCmd, applyFirst, applySecond, Option.getD_none, Option.getD_some, plain]
@[simp] theorem atEdge_legAccessX (h : Hdr) (action : Nat) (h' : Hdr) (op detail' : Nat) (res : Option (List Byte)) (s : State) :
    atEdge (.legAccessX h action) h' op detail' res s = (applyAccess action s) := by
  simp only [atEdge, applyCmd, applyFirst, applySecond, Option.getD_none, Option.getD_some, plain]
@[simp] theorem atEdge_legCfgStageX (h : Hdr) (count : Nat) (es : List PEntry) (h' : Hdr) (op detail' : Nat) (res : Option (List Byte)) (s : State) :
    atEdge (.legCfgStageX h count es) h' op detail' res s = (applyCfgStage es s) := by
  simp only [atEdge, applyCmd, applyFirst, applySecond, Option.getD_none, Option.getD_some, plain]
@[simp] theorem atEdge_legCfgSealX (h : Hdr) (h' : Hdr) (op detail' : Nat) (res : Option (List Byte)) (s : State) :
    atEdge (.legCfgSealX h) h' op detail' res s = (applyCfgSeal s) := by
  simp only [atEdge, applyCmd, applyFirst, applySecond, Option.getD_none, Option.getD_some, plain]
@[simp] theorem atEdge_legCfgDiscardX (h : Hdr) (h' : Hdr) (op detail' : Nat) (res : Option (List Byte)) (s : State) :
    atEdge (.legCfgDiscardX h) h' op detail' res s = (applyCfgDiscard s) := by
  simp only [atEdge, applyCmd, applyFirst, applySecond, Option.getD_none, Option.getD_some, plain]
@[simp] theorem atEdge_efiRdcTest (h : Hdr) (outlet : Nat) (h' : Hdr) (op detail' : Nat) (res : Option (List Byte)) (s : State) :
    atEdge (.efiRdcTest h outlet) h' op detail' res s = (applyRdcTest outlet s) := by
  simp only [atEdge, applyCmd, applyFirst, applySecond, Option.getD_none, Option.getD_some, plain]
@[simp] theorem atEdge_efiImdTestX (h : Hdr) (port : Nat) (h' : Hdr) (op detail' : Nat) (res : Option (List Byte)) (s : State) :
    atEdge (.efiImdTestX h port) h' op detail' res s = (applyImdTest port s) := by
  simp only [atEdge, applyCmd, applyFirst, applySecond, Option.getD_none, Option.getD_some, plain]
@[simp] theorem atEdge_safCfgStageX (h : Hdr) (count : Nat) (es : List PEntry) (h' : Hdr) (op detail' : Nat) (res : Option (List Byte)) (s : State) :
    atEdge (.safCfgStageX h count es) h' op detail' res s = (applySafStage es s) := by
  simp only [atEdge, applyCmd, applyFirst, applySecond, Option.getD_none, Option.getD_some, plain]
@[simp] theorem atEdge_safCfgVerifyX (h : Hdr) (h' : Hdr) (op detail' : Nat) (res : Option (List Byte)) (s : State) :
    atEdge (.safCfgVerifyX h) h' op detail' res s = (applySafVerify s) := by
  simp only [atEdge, applyCmd, applyFirst, applySecond, Option.getD_none, Option.getD_some, plain]
@[simp] theorem atEdge_safCfgCommitX (h : Hdr) (signature : Nat) (h' : Hdr) (op detail' : Nat) (res : Option (List Byte)) (s : State) :
    atEdge (.safCfgCommitX h signature) h' op detail' res s = (applySafCommit s) := by
  simp only [atEdge, applyCmd, applyFirst, applySecond, Option.getD_none, Option.getD_some, plain]
@[simp] theorem atEdge_safCfgDiscardX (h : Hdr) (h' : Hdr) (op detail' : Nat) (res : Option (List Byte)) (s : State) :
    atEdge (.safCfgDiscardX h) h' op detail' res s = (safDiscard s) := by
  simp only [atEdge, applyCmd, applyFirst, applySecond, Option.getD_none, Option.getD_some, plain]
@[simp] theorem atEdge_safReset (h : Hdr) (mask : Nat) (h' : Hdr) (op detail' : Nat) (res : Option (List Byte)) (s : State) :
    atEdge (.safReset h mask) h' op detail' res s = (applySafReset mask s) := by
  simp only [atEdge, applyCmd, applyFirst, applySecond, Option.getD_none, Option.getD_some, plain]
@[simp] theorem atEdge_auxClear (h : Hdr) (channel : Nat) (reason : Nat) (h' : Hdr) (op detail' : Nat) (res : Option (List Byte)) (s : State) :
    atEdge (.auxClear h channel reason) h' op detail' res s = (applyAuxClear channel reason s) := by
  simp only [atEdge, applyCmd, applyFirst, applySecond, Option.getD_none, Option.getD_some, plain]
@[simp] theorem atEdge_slkSend (h : Hdr) (dest : Nat) (flags : Nat) (data : List Byte) (h' : Hdr) (op detail' : Nat) (res : Option (List Byte)) (s : State) :
    atEdge (.slkSend h dest flags data) h' op detail' res s = ((applySlkSend dest flags data s)).1 := by
  simp only [atEdge, applyCmd, applyFirst, applySecond, applyThird, Option.getD_none, withBytes]
@[simp] theorem atEdge_slkSched (h : Hdr) (type : Nat) (c : Nat) (group : Nat) (body : List Byte) (h' : Hdr) (op detail' : Nat) (res : Option (List Byte)) (s : State) :
    atEdge (.slkSched h type c group body) h' op detail' res s = ((applySched type c group body s)).1 := by
  simp only [atEdge, applyCmd, applyFirst, applySecond, applyThird, Option.getD_none, withBytes]
@[simp] theorem atEdge_slkSchedCancel (h : Hdr) (num : Nat) (h' : Hdr) (op detail' : Nat) (res : Option (List Byte)) (s : State) :
    atEdge (.slkSchedCancel h num) h' op detail' res s = (applySchedCancel num s) := by
  simp only [atEdge, applyCmd, applyFirst, applySecond, applyThird, Option.getD_none, plain]
@[simp] theorem atEdge_slkKeySetX (h : Hdr) (key : List Byte) (h' : Hdr) (op detail' : Nat) (res : Option (List Byte)) (s : State) :
    atEdge (.slkKeySetX h key) h' op detail' res s = (applySlkKey key s) := by
  simp only [atEdge, applyCmd, applyFirst, applySecond, applyThird, Option.getD_none, plain]
@[simp] theorem atEdge_slkTonemapX (h : Hdr) (node : Nat) (action : Nat) (h' : Hdr) (op detail' : Nat) (res : Option (List Byte)) (s : State) :
    atEdge (.slkTonemapX h node action) h' op detail' res s = (applyTonemap node action s) := by
  simp only [atEdge, applyCmd, applyFirst, applySecond, applyThird, Option.getD_none, plain]
@[simp] theorem atEdge_nfcRdPoll (h : Hdr) (h' : Hdr) (op detail' : Nat) (res : Option (List Byte)) (s : State) :
    atEdge (.nfcRdPoll h) h' op detail' res s = (applyRdPoll s) := by
  simp only [atEdge, applyCmd, applyFirst, applySecond, applyThird, Option.getD_none, plain]
@[simp] theorem atEdge_nfcRdXchg (h : Hdr) (handle : Nat) (len : Nat) (data : List Byte) (h' : Hdr) (op detail' : Nat) (res : Option (List Byte)) (s : State) :
    atEdge (.nfcRdXchg h handle len data) h' op detail' res s = (applyRdXchg s) := by
  simp only [atEdge, applyCmd, applyFirst, applySecond, applyThird, Option.getD_none, plain]
@[simp] theorem atEdge_nfcRdRelease (h : Hdr) (handle : Nat) (h' : Hdr) (op detail' : Nat) (res : Option (List Byte)) (s : State) :
    atEdge (.nfcRdRelease h handle) h' op detail' res s = (applyRdRelease handle s) := by
  simp only [atEdge, applyCmd, applyFirst, applySecond, applyThird, Option.getD_none, plain]
@[simp] theorem atEdge_nfcTagWrite (h : Hdr) (file : Nat) (offset : Nat) (len : Nat) (data : List Byte) (h' : Hdr) (op detail' : Nat) (res : Option (List Byte)) (s : State) :
    atEdge (.nfcTagWrite h file offset len data) h' op detail' res s = (applyTagWrite s) := by
  simp only [atEdge, applyCmd, applyFirst, applySecond, applyThird, Option.getD_none, plain]
@[simp] theorem atEdge_nfcSigLoadX (h : Hdr) (slot : Nat) (profile : List Byte) (h' : Hdr) (op detail' : Nat) (res : Option (List Byte)) (s : State) :
    atEdge (.nfcSigLoadX h slot profile) h' op detail' res s = (applySigLoad slot profile s) := by
  simp only [atEdge, applyCmd, applyFirst, applySecond, applyThird, Option.getD_none, plain]
@[simp] theorem atEdge_nfcLpCalX (h : Hdr) (h' : Hdr) (op detail' : Nat) (res : Option (List Byte)) (s : State) :
    atEdge (.nfcLpCalX h) h' op detail' res s = (applyLpCal s) := by
  simp only [atEdge, applyCmd, applyFirst, applySecond, applyThird, Option.getD_none, plain]
@[simp] theorem atEdge_dspWrite (h : Hdr) (row : Nat) (count : Nat) (data : List Byte) (h' : Hdr) (op detail' : Nat) (res : Option (List Byte)) (s : State) :
    atEdge (.dspWrite h row count data) h' op detail' res s = (applyDspWrite row data s) := by
  simp only [atEdge, applyCmd, applyFirst, applySecond, applyThird, Option.getD_none, plain]
@[simp] theorem atEdge_dspMapLoadX (h : Hdr) (chunk : Nat) (data : List Byte) (h' : Hdr) (op detail' : Nat) (res : Option (List Byte)) (s : State) :
    atEdge (.dspMapLoadX h chunk data) h' op detail' res s = (applyMapLoad s) := by
  simp only [atEdge, applyCmd, applyFirst, applySecond, applyThird, Option.getD_none, plain]
@[simp] theorem atEdge_fltReturnX (h : Hdr) (kind : Nat) (number : Nat) (reason : List Byte) (h' : Hdr) (op detail' : Nat) (res : Option (List Byte)) (s : State) :
    atEdge (.fltReturnX h kind number reason) h' op detail' res s = (applyFltReturn kind number reason s) := by
  simp only [atEdge, applyCmd, applyFirst, applySecond, applyThird, Option.getD_none, plain]
@[simp] theorem atEdge_fltRetireX (h : Hdr) (kind : Nat) (number : Nat) (reason : List Byte) (h' : Hdr) (op detail' : Nat) (res : Option (List Byte)) (s : State) :
    atEdge (.fltRetireX h kind number reason) h' op detail' res s = (applyFltRetire kind number reason s) := by
  simp only [atEdge, applyCmd, applyFirst, applySecond, applyThird, Option.getD_none, plain]
@[simp] theorem atEdge_updOpenX (h : Hdr) (region : Nat) (flags : Nat) (length : Nat) (identity : Nat) (h' : Hdr) (op detail' : Nat) (res : Option (List Byte)) (s : State) :
    atEdge (.updOpenX h region flags length identity) h' op detail' res s = (applyUpdOpen region flags length identity s) := by
  simp only [atEdge, applyCmd, applyFirst, applySecond, applyThird, Option.getD_none, plain]
@[simp] theorem atEdge_updWriteX (h : Hdr) (region : Nat) (len : Nat) (offset : Nat) (data : List Byte) (bad : Option Nat) (h' : Hdr) (op detail' : Nat) (res : Option (List Byte)) (s : State) :
    atEdge (.updWriteX h region len offset data bad) h' op detail' res s = (applyUpdWrite region s) := by
  simp only [atEdge, applyCmd, applyFirst, applySecond, applyThird, Option.getD_none, plain]
@[simp] theorem atEdge_updFinishX (h : Hdr) (region : Nat) (h' : Hdr) (op detail' : Nat) (res : Option (List Byte)) (s : State) :
    atEdge (.updFinishX h region) h' op detail' res s = (applyUpdFinish region s) := by
  simp only [atEdge, applyCmd, applyFirst, applySecond, applyThird, Option.getD_none, plain]
@[simp] theorem atEdge_updAbandonX (h : Hdr) (region : Nat) (h' : Hdr) (op detail' : Nat) (res : Option (List Byte)) (s : State) :
    atEdge (.updAbandonX h region) h' op detail' res s = (applyUpdAbandon region s) := by
  simp only [atEdge, applyCmd, applyFirst, applySecond, applyThird, Option.getD_none, plain]
@[simp] theorem atEdge_updScheduleX (h : Hdr) (mask : Nat) (mode : Nat) (frame : Nat) (h' : Hdr) (op detail' : Nat) (res : Option (List Byte)) (s : State) :
    atEdge (.updScheduleX h mask mode frame) h' op detail' res s = (applyUpdSchedule mask (leNat ((res.getD []).take 6)) s) := by
  simp only [atEdge, applyCmd, applyFirst, applySecond, applyThird, Option.getD_none, plain]
@[simp] theorem atEdge_updCancelX (h : Hdr) (h' : Hdr) (op detail' : Nat) (res : Option (List Byte)) (s : State) :
    atEdge (.updCancelX h) h' op detail' res s = (applyUpdCancel s) := by
  simp only [atEdge, applyCmd, applyFirst, applySecond, applyThird, Option.getD_none, plain]
@[simp] theorem atEdge_updSiteSendX (h : Hdr) (region : Nat) (group : Nat) (h' : Hdr) (op detail' : Nat) (res : Option (List Byte)) (s : State) :
    atEdge (.updSiteSendX h region group) h' op detail' res s = ((applyUpdSiteSend group s)).1 := by
  simp only [atEdge, applyCmd, applyFirst, applySecond, applyThird, Option.getD_none, withBytes]
@[simp] theorem atEdge_nop (h : Hdr) (h' : Hdr) (op detail' : Nat) (res : Option (List Byte)) (s : State) :
    atEdge (.nop h) h' op detail' res s = s := by
  simp only [atEdge, applyCmd, applyFirst, applySecond, applyThird, Option.getD_none, plain]
@[simp] theorem atEdge_identify (h : Hdr) (h' : Hdr) (op detail' : Nat) (res : Option (List Byte)) (s : State) :
    atEdge (.identify h) h' op detail' res s = s := by
  simp only [atEdge, applyCmd, applyFirst, applySecond, applyThird, Option.getD_none, plain]
@[simp] theorem atEdge_linkInfo (h : Hdr) (flags : Nat) (h' : Hdr) (op detail' : Nat) (res : Option (List Byte)) (s : State) :
    atEdge (.linkInfo h flags) h' op detail' res s = s := by
  simp only [atEdge, applyCmd, applyFirst, applySecond, applyThird, Option.getD_none, plain]
@[simp] theorem atEdge_ethClose (h : Hdr) (h' : Hdr) (op detail' : Nat) (res : Option (List Byte)) (s : State) :
    atEdge (.ethClose h) h' op detail' res s = s := by
  simp only [atEdge, applyCmd, applyFirst, applySecond, applyThird, Option.getD_none, plain]
@[simp] theorem atEdge_frameRead (h : Hdr) (h' : Hdr) (op detail' : Nat) (res : Option (List Byte)) (s : State) :
    atEdge (.frameRead h) h' op detail' res s = s := by
  simp only [atEdge, applyCmd, applyFirst, applySecond, applyThird, Option.getD_none, plain]
@[simp] theorem atEdge_paramRead (h : Hdr) (count : Nat) (entries : List PRef) (h' : Hdr) (op detail' : Nat) (res : Option (List Byte)) (s : State) :
    atEdge (.paramRead h count entries) h' op detail' res s = s := by
  simp only [atEdge, applyCmd, applyFirst, applySecond, applyThird, Option.getD_none, plain]
@[simp] theorem atEdge_paramInfo (h : Hdr) (id : Nat) (h' : Hdr) (op detail' : Nat) (res : Option (List Byte)) (s : State) :
    atEdge (.paramInfo h id) h' op detail' res s = s := by
  simp only [atEdge, applyCmd, applyFirst, applySecond, applyThird, Option.getD_none, plain]
@[simp] theorem atEdge_paramList (h : Hdr) (area : Nat) (page : Nat) (h' : Hdr) (op detail' : Nat) (res : Option (List Byte)) (s : State) :
    atEdge (.paramList h area page) h' op detail' res s = s := by
  simp only [atEdge, applyCmd, applyFirst, applySecond, applyThird, Option.getD_none, plain]
@[simp] theorem atEdge_queueRead (h : Hdr) (queue : Nat) (words : Nat) (h' : Hdr) (op detail' : Nat) (res : Option (List Byte)) (s : State) :
    atEdge (.queueRead h queue words) h' op detail' res s = s := by
  simp only [atEdge, applyCmd, applyFirst, applySecond, applyThird, Option.getD_none, plain]
@[simp] theorem atEdge_queueDrop (h : Hdr) (queue : Nat) (h' : Hdr) (op detail' : Nat) (res : Option (List Byte)) (s : State) :
    atEdge (.queueDrop h queue) h' op detail' res s = s := by
  simp only [atEdge, applyCmd, applyFirst, applySecond, applyThird, Option.getD_none, plain]
@[simp] theorem atEdge_queueStatus (h : Hdr) (queue : Nat) (flags : Nat) (h' : Hdr) (op detail' : Nat) (res : Option (List Byte)) (s : State) :
    atEdge (.queueStatus h queue flags) h' op detail' res s = s := by
  simp only [atEdge, applyCmd, applyFirst, applySecond, applyThird, Option.getD_none, plain]
@[simp] theorem atEdge_txnOpen (h : Hdr) (h' : Hdr) (op detail' : Nat) (res : Option (List Byte)) (s : State) :
    atEdge (.txnOpen h) h' op detail' res s = s := by
  simp only [atEdge, applyCmd, applyFirst, applySecond, applyThird, Option.getD_none, plain]
@[simp] theorem atEdge_txnStage (h : Hdr) (count : Nat) (acts : List ActRec) (h' : Hdr) (op detail' : Nat) (res : Option (List Byte)) (s : State) :
    atEdge (.txnStage h count acts) h' op detail' res s = s := by
  simp only [atEdge, applyCmd, applyFirst, applySecond, applyThird, Option.getD_none, plain]
@[simp] theorem atEdge_txnCheck (h : Hdr) (h' : Hdr) (op detail' : Nat) (res : Option (List Byte)) (s : State) :
    atEdge (.txnCheck h) h' op detail' res s = s := by
  simp only [atEdge, applyCmd, applyFirst, applySecond, applyThird, Option.getD_none, plain]
@[simp] theorem atEdge_txnCommit (h : Hdr) (mode : Nat) (frame : Nat) (h' : Hdr) (op detail' : Nat) (res : Option (List Byte)) (s : State) :
    atEdge (.txnCommit h mode frame) h' op detail' res s = s := by
  simp only [atEdge, applyCmd, applyFirst, applySecond, applyThird, Option.getD_none, plain]
@[simp] theorem atEdge_txnAbort (h : Hdr) (h' : Hdr) (op detail' : Nat) (res : Option (List Byte)) (s : State) :
    atEdge (.txnAbort h) h' op detail' res s = s := by
  simp only [atEdge, applyCmd, applyFirst, applySecond, applyThird, Option.getD_none, plain]
@[simp] theorem atEdge_txnQuery (h : Hdr) (h' : Hdr) (op detail' : Nat) (res : Option (List Byte)) (s : State) :
    atEdge (.txnQuery h) h' op detail' res s = s := by
  simp only [atEdge, applyCmd, applyFirst, applySecond, applyThird, Option.getD_none, plain]
@[simp] theorem atEdge_txnList (h : Hdr) (h' : Hdr) (op detail' : Nat) (res : Option (List Byte)) (s : State) :
    atEdge (.txnList h) h' op detail' res s = s := by
  simp only [atEdge, applyCmd, applyFirst, applySecond, applyThird, Option.getD_none, plain]
@[simp] theorem atEdge_outStart (h : Hdr) (outlet : Nat) (profile : Nat) (limImp : Nat) (limExp : Nat) (cur : Nat) (session : List Byte) (h' : Hdr) (op detail' : Nat) (res : Option (List Byte)) (s : State) :
    atEdge (.outStart h outlet profile limImp limExp cur session) h' op detail' res s = s := by
  simp only [atEdge, applyCmd, applyFirst, applySecond, applyThird, Option.getD_none, plain]
@[simp] theorem atEdge_outStop (h : Hdr) (outlet : Nat) (reason : Nat) (h' : Hdr) (op detail' : Nat) (res : Option (List Byte)) (s : State) :
    atEdge (.outStop h outlet reason) h' op detail' res s = s := by
  simp only [atEdge, applyCmd, applyFirst, applySecond, applyThird, Option.getD_none, plain]
@[simp] theorem atEdge_outLimit (h : Hdr) (outlet : Nat) (limImp : Nat) (limExp : Nat) (cur : Nat) (h' : Hdr) (op detail' : Nat) (res : Option (List Byte)) (s : State) :
    atEdge (.outLimit h outlet limImp limExp cur) h' op detail' res s = s := by
  simp only [atEdge, applyCmd, applyFirst, applySecond, applyThird, Option.getD_none, plain]
@[simp] theorem atEdge_outDeny (h : Hdr) (outlet : Nat) (reason : Nat) (h' : Hdr) (op detail' : Nat) (res : Option (List Byte)) (s : State) :
    atEdge (.outDeny h outlet reason) h' op detail' res s = s := by
  simp only [atEdge, applyCmd, applyFirst, applySecond, applyThird, Option.getD_none, plain]
@[simp] theorem atEdge_outStatus (h : Hdr) (outlet : Nat) (h' : Hdr) (op detail' : Nat) (res : Option (List Byte)) (s : State) :
    atEdge (.outStatus h outlet) h' op detail' res s = s := by
  simp only [atEdge, applyCmd, applyFirst, applySecond, applyThird, Option.getD_none, plain]
@[simp] theorem atEdge_polAssign (h : Hdr) (outlet : Nat) (mask : Nat) (h' : Hdr) (op detail' : Nat) (res : Option (List Byte)) (s : State) :
    atEdge (.polAssign h outlet mask) h' op detail' res s = s := by
  simp only [atEdge, applyCmd, applyFirst, applySecond, applyThird, Option.getD_none, plain]
@[simp] theorem atEdge_polStatus (h : Hdr) (h' : Hdr) (op detail' : Nat) (res : Option (List Byte)) (s : State) :
    atEdge (.polStatus h) h' op detail' res s = s := by
  simp only [atEdge, applyCmd, applyFirst, applySecond, applyThird, Option.getD_none, plain]
@[simp] theorem atEdge_polProfileInfo (h : Hdr) (slot : Nat) (h' : Hdr) (op detail' : Nat) (res : Option (List Byte)) (s : State) :
    atEdge (.polProfileInfo h slot) h' op detail' res s = s := by
  simp only [atEdge, applyCmd, applyFirst, applySecond, applyThird, Option.getD_none, plain]
@[simp] theorem atEdge_vlkStatus (h : Hdr) (outlet : Nat) (h' : Hdr) (op detail' : Nat) (res : Option (List Byte)) (s : State) :
    atEdge (.vlkStatus h outlet) h' op detail' res s = s := by
  simp only [atEdge, applyCmd, applyFirst, applySecond, applyThird, Option.getD_none, plain]
@[simp] theorem atEdge_vlkLoopbackX (h : Hdr) (outlet : Nat) (h' : Hdr) (op detail' : Nat) (res : Option (List Byte)) (s : State) :
    atEdge (.vlkLoopbackX h outlet) h' op detail' res s = s := by
  simp only [atEdge, applyCmd, applyFirst, applySecond, applyThird, Option.getD_none, plain]
@[simp] theorem atEdge_mtrRead (h : Hdr) (slot : Nat) (h' : Hdr) (op detail' : Nat) (res : Option (List Byte)) (s : State) :
    atEdge (.mtrRead h slot) h' op detail' res s = s := by
  simp only [atEdge, applyCmd, applyFirst, applySecond, applyThird, Option.getD_none, plain]
@[simp] theorem atEdge_mtrHarm (h : Hdr) (slot : Nat) (channel : Nat) (h' : Hdr) (op detail' : Nat) (res : Option (List Byte)) (s : State) :
    atEdge (.mtrHarm h slot channel) h' op detail' res s = s := by
  simp only [atEdge, applyCmd, applyFirst, applySecond, applyThird, Option.getD_none, plain]
@[simp] theorem atEdge_mtrCalInfo (h : Hdr) (slot : Nat) (h' : Hdr) (op detail' : Nat) (res : Option (List Byte)) (s : State) :
    atEdge (.mtrCalInfo h slot) h' op detail' res s = s := by
  simp only [atEdge, applyCmd, applyFirst, applySecond, applyThird, Option.getD_none, plain]
@[simp] theorem atEdge_mtrCalResultX (h : Hdr) (slot : Nat) (h' : Hdr) (op detail' : Nat) (res : Option (List Byte)) (s : State) :
    atEdge (.mtrCalResultX h slot) h' op detail' res s = s := by
  simp only [atEdge, applyCmd, applyFirst, applySecond, applyThird, Option.getD_none, plain]
@[simp] theorem atEdge_legRead (h : Hdr) (slot : Nat) (count : Nat) (codes : List Nat) (h' : Hdr) (op detail' : Nat) (res : Option (List Byte)) (s : State) :
    atEdge (.legRead h slot count codes) h' op detail' res s = s := by
  simp only [atEdge, applyCmd, applyFirst, applySecond, applyThird, Option.getD_none, plain]
@[simp] theorem atEdge_legReading (h : Hdr) (slot : Nat) (kind : Nat) (curve : Nat) (h' : Hdr) (op detail' : Nat) (res : Option (List Byte)) (s : State) :
    atEdge (.legReading h slot kind curve) h' op detail' res s = s := by
  simp only [atEdge, applyCmd, applyFirst, applySecond, applyThird, Option.getD_none, plain]
@[simp] theorem atEdge_legReadingGet (h : Hdr) (counter : Nat) (h' : Hdr) (op detail' : Nat) (res : Option (List Byte)) (s : State) :
    atEdge (.legReadingGet h counter) h' op detail' res s = s := by
  simp only [atEdge, applyCmd, applyFirst, applySecond, applyThird, Option.getD_none, plain]
@[simp] theorem atEdge_legClockRead (h : Hdr) (h' : Hdr) (op detail' : Nat) (res : Option (List Byte)) (s : State) :
    atEdge (.legClockRead h) h' op detail' res s = s := by
  simp only [atEdge, applyCmd, applyFirst, applySecond, applyThird, Option.getD_none, plain]
@[simp] theorem atEdge_legTariffInfo (h : Hdr) (h' : Hdr) (op detail' : Nat) (res : Option (List Byte)) (s : State) :
    atEdge (.legTariffInfo h) h' op detail' res s = s := by
  simp only [atEdge, applyCmd, applyFirst, applySecond, applyThird, Option.getD_none, plain]
@[simp] theorem atEdge_legLogRead (h : Hdr) (area : Nat) (count : Nat) (first : Nat) (h' : Hdr) (op detail' : Nat) (res : Option (List Byte)) (s : State) :
    atEdge (.legLogRead h area count first) h' op detail' res s = s := by
  simp only [atEdge, applyCmd, applyFirst, applySecond, applyThird, Option.getD_none, plain]
@[simp] theorem atEdge_legProfileRead (h : Hdr) (slot : Nat) (count : Nat) (first : Nat) (h' : Hdr) (op detail' : Nat) (res : Option (List Byte)) (s : State) :
    atEdge (.legProfileRead h slot count first) h' op detail' res s = s := by
  simp only [atEdge, applyCmd, applyFirst, applySecond, applyThird, Option.getD_none, plain]
@[simp] theorem atEdge_legInfo (h : Hdr) (h' : Hdr) (op detail' : Nat) (res : Option (List Byte)) (s : State) :
    atEdge (.legInfo h) h' op detail' res s = s := by
  simp only [atEdge, applyCmd, applyFirst, applySecond, applyThird, Option.getD_none, plain]
@[simp] theorem atEdge_efiStatus (h : Hdr) (outlet : Nat) (h' : Hdr) (op detail' : Nat) (res : Option (List Byte)) (s : State) :
    atEdge (.efiStatus h outlet) h' op detail' res s = s := by
  simp only [atEdge, applyCmd, applyFirst, applySecond, applyThird, Option.getD_none, plain]
@[simp] theorem atEdge_safCdEnable (h : Hdr) (cd : Nat) (action : Nat) (h' : Hdr) (op detail' : Nat) (res : Option (List Byte)) (s : State) :
    atEdge (.safCdEnable h cd action) h' op detail' res s = s := by
  simp only [atEdge, applyCmd, applyFirst, applySecond, applyThird, Option.getD_none, plain]
@[simp] theorem atEdge_safBrakeTest (h : Hdr) (cd : Nat) (h' : Hdr) (op detail' : Nat) (res : Option (List Byte)) (s : State) :
    atEdge (.safBrakeTest h cd) h' op detail' res s = s := by
  simp only [atEdge, applyCmd, applyFirst, applySecond, applyThird, Option.getD_none, plain]
@[simp] theorem atEdge_safStatus (h : Hdr) (h' : Hdr) (op detail' : Nat) (res : Option (List Byte)) (s : State) :
    atEdge (.safStatus h) h' op detail' res s = s := by
  simp only [atEdge, applyCmd, applyFirst, applySecond, applyThird, Option.getD_none, plain]
@[simp] theorem atEdge_safWhy (h : Hdr) (object : Nat) (h' : Hdr) (op detail' : Nat) (res : Option (List Byte)) (s : State) :
    atEdge (.safWhy h object) h' op detail' res s = s := by
  simp only [atEdge, applyCmd, applyFirst, applySecond, applyThird, Option.getD_none, plain]
@[simp] theorem atEdge_safInfo (h : Hdr) (h' : Hdr) (op detail' : Nat) (res : Option (List Byte)) (s : State) :
    atEdge (.safInfo h) h' op detail' res s = s := by
  simp only [atEdge, applyCmd, applyFirst, applySecond, applyThird, Option.getD_none, plain]
@[simp] theorem atEdge_auxSet (h : Hdr) (channel : Nat) (mode : Nat) (duty : Nat) (h' : Hdr) (op detail' : Nat) (res : Option (List Byte)) (s : State) :
    atEdge (.auxSet h channel mode duty) h' op detail' res s = s := by
  simp only [atEdge, applyCmd, applyFirst, applySecond, applyThird, Option.getD_none, plain]
@[simp] theorem atEdge_auxStatus (h : Hdr) (h' : Hdr) (op detail' : Nat) (res : Option (List Byte)) (s : State) :
    atEdge (.auxStatus h) h' op detail' res s = s := by
  simp only [atEdge, applyCmd, applyFirst, applySecond, applyThird, Option.getD_none, plain]
@[simp] theorem atEdge_slkStatus (h : Hdr) (h' : Hdr) (op detail' : Nat) (res : Option (List Byte)) (s : State) :
    atEdge (.slkStatus h) h' op detail' res s = s := by
  simp only [atEdge, applyCmd, applyFirst, applySecond, applyThird, Option.getD_none, plain]
@[simp] theorem atEdge_slkNodes (h : Hdr) (page : Nat) (h' : Hdr) (op detail' : Nat) (res : Option (List Byte)) (s : State) :
    atEdge (.slkNodes h page) h' op detail' res s = s := by
  simp only [atEdge, applyCmd, applyFirst, applySecond, applyThird, Option.getD_none, plain]
@[simp] theorem atEdge_slkSchedList (h : Hdr) (h' : Hdr) (op detail' : Nat) (res : Option (List Byte)) (s : State) :
    atEdge (.slkSchedList h) h' op detail' res s = s := by
  simp only [atEdge, applyCmd, applyFirst, applySecond, applyThird, Option.getD_none, plain]
@[simp] theorem atEdge_nfcStatus (h : Hdr) (h' : Hdr) (op detail' : Nat) (res : Option (List Byte)) (s : State) :
    atEdge (.nfcStatus h) h' op detail' res s = s := by
  simp only [atEdge, applyCmd, applyFirst, applySecond, applyThird, Option.getD_none, plain]
@[simp] theorem atEdge_nfcTagRead (h : Hdr) (file : Nat) (offset : Nat) (len : Nat) (h' : Hdr) (op detail' : Nat) (res : Option (List Byte)) (s : State) :
    atEdge (.nfcTagRead h file offset len) h' op detail' res s = s := by
  simp only [atEdge, applyCmd, applyFirst, applySecond, applyThird, Option.getD_none, plain]
@[simp] theorem atEdge_nfcInfo (h : Hdr) (h' : Hdr) (op detail' : Nat) (res : Option (List Byte)) (s : State) :
    atEdge (.nfcInfo h) h' op detail' res s = s := by
  simp only [atEdge, applyCmd, applyFirst, applySecond, applyThird, Option.getD_none, plain]
@[simp] theorem atEdge_dspStatus (h : Hdr) (h' : Hdr) (op detail' : Nat) (res : Option (List Byte)) (s : State) :
    atEdge (.dspStatus h) h' op detail' res s = s := by
  simp only [atEdge, applyCmd, applyFirst, applySecond, applyThird, Option.getD_none, plain]
@[simp] theorem atEdge_dspRead (h : Hdr) (row : Nat) (count : Nat) (h' : Hdr) (op detail' : Nat) (res : Option (List Byte)) (s : State) :
    atEdge (.dspRead h row count) h' op detail' res s = s := by
  simp only [atEdge, applyCmd, applyFirst, applySecond, applyThird, Option.getD_none, plain]
@[simp] theorem atEdge_dspShowCheck (h : Hdr) (h' : Hdr) (op detail' : Nat) (res : Option (List Byte)) (s : State) :
    atEdge (.dspShowCheck h) h' op detail' res s = s := by
  simp only [atEdge, applyCmd, applyFirst, applySecond, applyThird, Option.getD_none, plain]
@[simp] theorem atEdge_fltStatus (h : Hdr) (h' : Hdr) (op detail' : Nat) (res : Option (List Byte)) (s : State) :
    atEdge (.fltStatus h) h' op detail' res s = s := by
  simp only [atEdge, applyCmd, applyFirst, applySecond, applyThird, Option.getD_none, plain]
@[simp] theorem atEdge_fltLogRead (h : Hdr) (first : Nat) (count : Nat) (h' : Hdr) (op detail' : Nat) (res : Option (List Byte)) (s : State) :
    atEdge (.fltLogRead h first count) h' op detail' res s = s := by
  simp only [atEdge, applyCmd, applyFirst, applySecond, applyThird, Option.getD_none, plain]
@[simp] theorem atEdge_updStatus (h : Hdr) (h' : Hdr) (op detail' : Nat) (res : Option (List Byte)) (s : State) :
    atEdge (.updStatus h) h' op detail' res s = s := by
  simp only [atEdge, applyCmd, applyFirst, applySecond, applyThird, Option.getD_none, plain]

end Sys2Proof.Machine
end

