-- ==== Sys2Proof/Laws/State.lean ====
section
/-! SUPPORT. The small lemmas of the state: each operation that changes one part of the state, field by field, so that no proof
unfolds a record update; and an entry of a fixed array after one entry of it was changed. -/

namespace Sys2Proof.Machine

/-! ### One entry of a fixed array changed -/

@[simp] theorem upd_get_self {α : Type} {n : Nat} (v : Vector α n) (i : Fin n) (f : α → α) : (upd v i f)[(i : Nat)] = f v[(i : Nat)] := by
  simp [upd]

theorem upd_get_ne {α : Type} {n : Nat} (v : Vector α n) (i j : Fin n) (f : α → α) (h : j ≠ i) : (upd v i f)[(j : Nat)] = v[(j : Nat)] := by
  simp only [upd]; rw [Vector.getElem_set_ne]; omega

theorem upd_get {α : Type} {n : Nat} (v : Vector α n) (i j : Fin n) (f : α → α) :
    (upd v i f)[(j : Nat)] = if j = i then f v[(i : Nat)] else v[(j : Nat)] := by
  by_cases h : j = i
  · subst h; simp
  · simp [h, upd_get_ne]

/-! ### modOut -/

@[simp] theorem modOut_outlets (k : Fin 8) (f : Outlet → Outlet) (s : State) : (modOut k f s).outlets = upd s.outlets k f := rfl
@[simp] theorem modOut_pending (k : Fin 8) (f : Outlet → Outlet) (s : State) : (modOut k f s).pending = s.pending := rfl
@[simp] theorem modOut_frame (k : Fin 8) (f : Outlet → Outlet) (s : State) : (modOut k f s).frame = s.frame := rfl
@[simp] theorem modOut_params (k : Fin 8) (f : Outlet → Outlet) (s : State) : (modOut k f s).params = s.params := rfl
@[simp] theorem modOut_persisted (k : Fin 8) (f : Outlet → Outlet) (s : State) : (modOut k f s).persisted = s.persisted := rfl
@[simp] theorem modOut_queues (k : Fin 8) (f : Outlet → Outlet) (s : State) : (modOut k f s).queues = s.queues := rfl
@[simp] theorem modOut_due (k : Fin 8) (f : Outlet → Outlet) (s : State) : (modOut k f s).due = s.due := rfl
@[simp] theorem modOut_outbox (k : Fin 8) (f : Outlet → Outlet) (s : State) : (modOut k f s).outbox = s.outbox := rfl
@[simp] theorem modOut_rnd (k : Fin 8) (f : Outlet → Outlet) (s : State) : (modOut k f s).rnd = s.rnd := rfl
@[simp] theorem modOut_sys (k : Fin 8) (f : Outlet → Outlet) (s : State) : (modOut k f s).sys = s.sys := rfl
@[simp] theorem modOut_beryl (k : Fin 8) (f : Outlet → Outlet) (s : State) : (modOut k f s).beryl = s.beryl := rfl
@[simp] theorem modOut_link (k : Fin 8) (f : Outlet → Outlet) (s : State) : (modOut k f s).link = s.link := rfl
@[simp] theorem modOut_txn (k : Fin 8) (f : Outlet → Outlet) (s : State) : (modOut k f s).txn = s.txn := rfl
@[simp] theorem modOut_pool (k : Fin 8) (f : Outlet → Outlet) (s : State) : (modOut k f s).pool = s.pool := rfl
@[simp] theorem modOut_vlk (k : Fin 8) (f : Outlet → Outlet) (s : State) : (modOut k f s).vlk = s.vlk := rfl
@[simp] theorem modOut_mtr (k : Fin 8) (f : Outlet → Outlet) (s : State) : (modOut k f s).mtr = s.mtr := rfl
@[simp] theorem modOut_onyx (k : Fin 8) (f : Outlet → Outlet) (s : State) : (modOut k f s).onyx = s.onyx := rfl
@[simp] theorem modOut_efi (k : Fin 8) (f : Outlet → Outlet) (s : State) : (modOut k f s).efi = s.efi := rfl
@[simp] theorem modOut_garnet (k : Fin 8) (f : Outlet → Outlet) (s : State) : (modOut k f s).garnet = s.garnet := rfl
@[simp] theorem modOut_aux (k : Fin 8) (f : Outlet → Outlet) (s : State) : (modOut k f s).aux = s.aux := rfl
@[simp] theorem modOut_slk (k : Fin 8) (f : Outlet → Outlet) (s : State) : (modOut k f s).slk = s.slk := rfl
@[simp] theorem modOut_nfc (k : Fin 8) (f : Outlet → Outlet) (s : State) : (modOut k f s).nfc = s.nfc := rfl
@[simp] theorem modOut_dsp (k : Fin 8) (f : Outlet → Outlet) (s : State) : (modOut k f s).dsp = s.dsp := rfl
@[simp] theorem modOut_flt (k : Fin 8) (f : Outlet → Outlet) (s : State) : (modOut k f s).flt = s.flt := rfl
@[simp] theorem modOut_upd (k : Fin 8) (f : Outlet → Outlet) (s : State) : (modOut k f s).upd = s.upd := rfl
@[simp] theorem modOut_pget (k : Fin 8) (f : Outlet → Outlet) (s : State) (id' inst : Nat) : pget (modOut k f s) id' inst = pget s id' inst := rfl
@[simp] theorem modOut_pbool (k : Fin 8) (f : Outlet → Outlet) (s : State) (id' inst : Nat) : pbool (modOut k f s) id' inst = pbool s id' inst := rfl

/-! ### modPilot -/

@[simp] theorem modPilot_outlets (k : Fin 8) (f : PilotIn → PilotIn) (s : State) : (modPilot k f s).outlets = upd s.outlets k (fun o => { o with pilot := f o.pilot }) := rfl
@[simp] theorem modPilot_pending (k : Fin 8) (f : PilotIn → PilotIn) (s : State) : (modPilot k f s).pending = s.pending := rfl
@[simp] theorem modPilot_frame (k : Fin 8) (f : PilotIn → PilotIn) (s : State) : (modPilot k f s).frame = s.frame := rfl
@[simp] theorem modPilot_params (k : Fin 8) (f : PilotIn → PilotIn) (s : State) : (modPilot k f s).params = s.params := rfl
@[simp] theorem modPilot_persisted (k : Fin 8) (f : PilotIn → PilotIn) (s : State) : (modPilot k f s).persisted = s.persisted := rfl
@[simp] theorem modPilot_queues (k : Fin 8) (f : PilotIn → PilotIn) (s : State) : (modPilot k f s).queues = s.queues := rfl
@[simp] theorem modPilot_due (k : Fin 8) (f : PilotIn → PilotIn) (s : State) : (modPilot k f s).due = s.due := rfl
@[simp] theorem modPilot_outbox (k : Fin 8) (f : PilotIn → PilotIn) (s : State) : (modPilot k f s).outbox = s.outbox := rfl
@[simp] theorem modPilot_rnd (k : Fin 8) (f : PilotIn → PilotIn) (s : State) : (modPilot k f s).rnd = s.rnd := rfl
@[simp] theorem modPilot_sys (k : Fin 8) (f : PilotIn → PilotIn) (s : State) : (modPilot k f s).sys = s.sys := rfl
@[simp] theorem modPilot_beryl (k : Fin 8) (f : PilotIn → PilotIn) (s : State) : (modPilot k f s).beryl = s.beryl := rfl
@[simp] theorem modPilot_link (k : Fin 8) (f : PilotIn → PilotIn) (s : State) : (modPilot k f s).link = s.link := rfl
@[simp] theorem modPilot_txn (k : Fin 8) (f : PilotIn → PilotIn) (s : State) : (modPilot k f s).txn = s.txn := rfl
@[simp] theorem modPilot_pool (k : Fin 8) (f : PilotIn → PilotIn) (s : State) : (modPilot k f s).pool = s.pool := rfl
@[simp] theorem modPilot_vlk (k : Fin 8) (f : PilotIn → PilotIn) (s : State) : (modPilot k f s).vlk = s.vlk := rfl
@[simp] theorem modPilot_mtr (k : Fin 8) (f : PilotIn → PilotIn) (s : State) : (modPilot k f s).mtr = s.mtr := rfl
@[simp] theorem modPilot_onyx (k : Fin 8) (f : PilotIn → PilotIn) (s : State) : (modPilot k f s).onyx = s.onyx := rfl
@[simp] theorem modPilot_efi (k : Fin 8) (f : PilotIn → PilotIn) (s : State) : (modPilot k f s).efi = s.efi := rfl
@[simp] theorem modPilot_garnet (k : Fin 8) (f : PilotIn → PilotIn) (s : State) : (modPilot k f s).garnet = s.garnet := rfl
@[simp] theorem modPilot_aux (k : Fin 8) (f : PilotIn → PilotIn) (s : State) : (modPilot k f s).aux = s.aux := rfl
@[simp] theorem modPilot_slk (k : Fin 8) (f : PilotIn → PilotIn) (s : State) : (modPilot k f s).slk = s.slk := rfl
@[simp] theorem modPilot_nfc (k : Fin 8) (f : PilotIn → PilotIn) (s : State) : (modPilot k f s).nfc = s.nfc := rfl
@[simp] theorem modPilot_dsp (k : Fin 8) (f : PilotIn → PilotIn) (s : State) : (modPilot k f s).dsp = s.dsp := rfl
@[simp] theorem modPilot_flt (k : Fin 8) (f : PilotIn → PilotIn) (s : State) : (modPilot k f s).flt = s.flt := rfl
@[simp] theorem modPilot_upd (k : Fin 8) (f : PilotIn → PilotIn) (s : State) : (modPilot k f s).upd = s.upd := rfl
@[simp] theorem modPilot_pget (k : Fin 8) (f : PilotIn → PilotIn) (s : State) (id' inst : Nat) : pget (modPilot k f s) id' inst = pget s id' inst := rfl
@[simp] theorem modPilot_pbool (k : Fin 8) (f : PilotIn → PilotIn) (s : State) (id' inst : Nat) : pbool (modPilot k f s) id' inst = pbool s id' inst := rfl

/-! ### modClaim -/

@[simp] theorem modClaim_outlets (k : Fin 8) (f : Claim → Claim) (s : State) : (modClaim k f s).outlets = upd s.outlets k (fun o => { o with claim := f o.claim }) := rfl
@[simp] theorem modClaim_pending (k : Fin 8) (f : Claim → Claim) (s : State) : (modClaim k f s).pending = s.pending := rfl
@[simp] theorem modClaim_frame (k : Fin 8) (f : Claim → Claim) (s : State) : (modClaim k f s).frame = s.frame := rfl
@[simp] theorem modClaim_params (k : Fin 8) (f : Claim → Claim) (s : State) : (modClaim k f s).params = s.params := rfl
@[simp] theorem modClaim_persisted (k : Fin 8) (f : Claim → Claim) (s : State) : (modClaim k f s).persisted = s.persisted := rfl
@[simp] theorem modClaim_queues (k : Fin 8) (f : Claim → Claim) (s : State) : (modClaim k f s).queues = s.queues := rfl
@[simp] theorem modClaim_due (k : Fin 8) (f : Claim → Claim) (s : State) : (modClaim k f s).due = s.due := rfl
@[simp] theorem modClaim_outbox (k : Fin 8) (f : Claim → Claim) (s : State) : (modClaim k f s).outbox = s.outbox := rfl
@[simp] theorem modClaim_rnd (k : Fin 8) (f : Claim → Claim) (s : State) : (modClaim k f s).rnd = s.rnd := rfl
@[simp] theorem modClaim_sys (k : Fin 8) (f : Claim → Claim) (s : State) : (modClaim k f s).sys = s.sys := rfl
@[simp] theorem modClaim_beryl (k : Fin 8) (f : Claim → Claim) (s : State) : (modClaim k f s).beryl = s.beryl := rfl
@[simp] theorem modClaim_link (k : Fin 8) (f : Claim → Claim) (s : State) : (modClaim k f s).link = s.link := rfl
@[simp] theorem modClaim_txn (k : Fin 8) (f : Claim → Claim) (s : State) : (modClaim k f s).txn = s.txn := rfl
@[simp] theorem modClaim_pool (k : Fin 8) (f : Claim → Claim) (s : State) : (modClaim k f s).pool = s.pool := rfl
@[simp] theorem modClaim_vlk (k : Fin 8) (f : Claim → Claim) (s : State) : (modClaim k f s).vlk = s.vlk := rfl
@[simp] theorem modClaim_mtr (k : Fin 8) (f : Claim → Claim) (s : State) : (modClaim k f s).mtr = s.mtr := rfl
@[simp] theorem modClaim_onyx (k : Fin 8) (f : Claim → Claim) (s : State) : (modClaim k f s).onyx = s.onyx := rfl
@[simp] theorem modClaim_efi (k : Fin 8) (f : Claim → Claim) (s : State) : (modClaim k f s).efi = s.efi := rfl
@[simp] theorem modClaim_garnet (k : Fin 8) (f : Claim → Claim) (s : State) : (modClaim k f s).garnet = s.garnet := rfl
@[simp] theorem modClaim_aux (k : Fin 8) (f : Claim → Claim) (s : State) : (modClaim k f s).aux = s.aux := rfl
@[simp] theorem modClaim_slk (k : Fin 8) (f : Claim → Claim) (s : State) : (modClaim k f s).slk = s.slk := rfl
@[simp] theorem modClaim_nfc (k : Fin 8) (f : Claim → Claim) (s : State) : (modClaim k f s).nfc = s.nfc := rfl
@[simp] theorem modClaim_dsp (k : Fin 8) (f : Claim → Claim) (s : State) : (modClaim k f s).dsp = s.dsp := rfl
@[simp] theorem modClaim_flt (k : Fin 8) (f : Claim → Claim) (s : State) : (modClaim k f s).flt = s.flt := rfl
@[simp] theorem modClaim_upd (k : Fin 8) (f : Claim → Claim) (s : State) : (modClaim k f s).upd = s.upd := rfl
@[simp] theorem modClaim_pget (k : Fin 8) (f : Claim → Claim) (s : State) (id' inst : Nat) : pget (modClaim k f s) id' inst = pget s id' inst := rfl
@[simp] theorem modClaim_pbool (k : Fin 8) (f : Claim → Claim) (s : State) (id' inst : Nat) : pbool (modClaim k f s) id' inst = pbool s id' inst := rfl

/-! ### modPool -/

@[simp] theorem modPool_pool (f : PoolSt → PoolSt) (s : State) : (modPool f s).pool = f s.pool := rfl
@[simp] theorem modPool_pending (f : PoolSt → PoolSt) (s : State) : (modPool f s).pending = s.pending := rfl
@[simp] theorem modPool_frame (f : PoolSt → PoolSt) (s : State) : (modPool f s).frame = s.frame := rfl
@[simp] theorem modPool_params (f : PoolSt → PoolSt) (s : State) : (modPool f s).params = s.params := rfl
@[simp] theorem modPool_persisted (f : PoolSt → PoolSt) (s : State) : (modPool f s).persisted = s.persisted := rfl
@[simp] theorem modPool_queues (f : PoolSt → PoolSt) (s : State) : (modPool f s).queues = s.queues := rfl
@[simp] theorem modPool_due (f : PoolSt → PoolSt) (s : State) : (modPool f s).due = s.due := rfl
@[simp] theorem modPool_outbox (f : PoolSt → PoolSt) (s : State) : (modPool f s).outbox = s.outbox := rfl
@[simp] theorem modPool_rnd (f : PoolSt → PoolSt) (s : State) : (modPool f s).rnd = s.rnd := rfl
@[simp] theorem modPool_sys (f : PoolSt → PoolSt) (s : State) : (modPool f s).sys = s.sys := rfl
@[simp] theorem modPool_beryl (f : PoolSt → PoolSt) (s : State) : (modPool f s).beryl = s.beryl := rfl
@[simp] theorem modPool_link (f : PoolSt → PoolSt) (s : State) : (modPool f s).link = s.link := rfl
@[simp] theorem modPool_txn (f : PoolSt → PoolSt) (s : State) : (modPool f s).txn = s.txn := rfl
@[simp] theorem modPool_outlets (f : PoolSt → PoolSt) (s : State) : (modPool f s).outlets = s.outlets := rfl
@[simp] theorem modPool_vlk (f : PoolSt → PoolSt) (s : State) : (modPool f s).vlk = s.vlk := rfl
@[simp] theorem modPool_mtr (f : PoolSt → PoolSt) (s : State) : (modPool f s).mtr = s.mtr := rfl
@[simp] theorem modPool_onyx (f : PoolSt → PoolSt) (s : State) : (modPool f s).onyx = s.onyx := rfl
@[simp] theorem modPool_efi (f : PoolSt → PoolSt) (s : State) : (modPool f s).efi = s.efi := rfl
@[simp] theorem modPool_garnet (f : PoolSt → PoolSt) (s : State) : (modPool f s).garnet = s.garnet := rfl
@[simp] theorem modPool_aux (f : PoolSt → PoolSt) (s : State) : (modPool f s).aux = s.aux := rfl
@[simp] theorem modPool_slk (f : PoolSt → PoolSt) (s : State) : (modPool f s).slk = s.slk := rfl
@[simp] theorem modPool_nfc (f : PoolSt → PoolSt) (s : State) : (modPool f s).nfc = s.nfc := rfl
@[simp] theorem modPool_dsp (f : PoolSt → PoolSt) (s : State) : (modPool f s).dsp = s.dsp := rfl
@[simp] theorem modPool_flt (f : PoolSt → PoolSt) (s : State) : (modPool f s).flt = s.flt := rfl
@[simp] theorem modPool_upd (f : PoolSt → PoolSt) (s : State) : (modPool f s).upd = s.upd := rfl
@[simp] theorem modPool_pget (f : PoolSt → PoolSt) (s : State) (id' inst : Nat) : pget (modPool f s) id' inst = pget s id' inst := rfl
@[simp] theorem modPool_pbool (f : PoolSt → PoolSt) (s : State) (id' inst : Nat) : pbool (modPool f s) id' inst = pbool s id' inst := rfl

/-! ### modPg -/

@[simp] theorem modPg_pool (g : Fin 16) (f : PowerGroup → PowerGroup) (s : State) : (modPg g f s).pool = { s.pool with groups := upd s.pool.groups g f } := rfl
@[simp] theorem modPg_pending (g : Fin 16) (f : PowerGroup → PowerGroup) (s : State) : (modPg g f s).pending = s.pending := rfl
@[simp] theorem modPg_frame (g : Fin 16) (f : PowerGroup → PowerGroup) (s : State) : (modPg g f s).frame = s.frame := rfl
@[simp] theorem modPg_params (g : Fin 16) (f : PowerGroup → PowerGroup) (s : State) : (modPg g f s).params = s.params := rfl
@[simp] theorem modPg_persisted (g : Fin 16) (f : PowerGroup → PowerGroup) (s : State) : (modPg g f s).persisted = s.persisted := rfl
@[simp] theorem modPg_queues (g : Fin 16) (f : PowerGroup → PowerGroup) (s : State) : (modPg g f s).queues = s.queues := rfl
@[simp] theorem modPg_due (g : Fin 16) (f : PowerGroup → PowerGroup) (s : State) : (modPg g f s).due = s.due := rfl
@[simp] theorem modPg_outbox (g : Fin 16) (f : PowerGroup → PowerGroup) (s : State) : (modPg g f s).outbox = s.outbox := rfl
@[simp] theorem modPg_rnd (g : Fin 16) (f : PowerGroup → PowerGroup) (s : State) : (modPg g f s).rnd = s.rnd := rfl
@[simp] theorem modPg_sys (g : Fin 16) (f : PowerGroup → PowerGroup) (s : State) : (modPg g f s).sys = s.sys := rfl
@[simp] theorem modPg_beryl (g : Fin 16) (f : PowerGroup → PowerGroup) (s : State) : (modPg g f s).beryl = s.beryl := rfl
@[simp] theorem modPg_link (g : Fin 16) (f : PowerGroup → PowerGroup) (s : State) : (modPg g f s).link = s.link := rfl
@[simp] theorem modPg_txn (g : Fin 16) (f : PowerGroup → PowerGroup) (s : State) : (modPg g f s).txn = s.txn := rfl
@[simp] theorem modPg_outlets (g : Fin 16) (f : PowerGroup → PowerGroup) (s : State) : (modPg g f s).outlets = s.outlets := rfl
@[simp] theorem modPg_vlk (g : Fin 16) (f : PowerGroup → PowerGroup) (s : State) : (modPg g f s).vlk = s.vlk := rfl
@[simp] theorem modPg_mtr (g : Fin 16) (f : PowerGroup → PowerGroup) (s : State) : (modPg g f s).mtr = s.mtr := rfl
@[simp] theorem modPg_onyx (g : Fin 16) (f : PowerGroup → PowerGroup) (s : State) : (modPg g f s).onyx = s.onyx := rfl
@[simp] theorem modPg_efi (g : Fin 16) (f : PowerGroup → PowerGroup) (s : State) : (modPg g f s).efi = s.efi := rfl
@[simp] theorem modPg_garnet (g : Fin 16) (f : PowerGroup → PowerGroup) (s : State) : (modPg g f s).garnet = s.garnet := rfl
@[simp] theorem modPg_aux (g : Fin 16) (f : PowerGroup → PowerGroup) (s : State) : (modPg g f s).aux = s.aux := rfl
@[simp] theorem modPg_slk (g : Fin 16) (f : PowerGroup → PowerGroup) (s : State) : (modPg g f s).slk = s.slk := rfl
@[simp] theorem modPg_nfc (g : Fin 16) (f : PowerGroup → PowerGroup) (s : State) : (modPg g f s).nfc = s.nfc := rfl
@[simp] theorem modPg_dsp (g : Fin 16) (f : PowerGroup → PowerGroup) (s : State) : (modPg g f s).dsp = s.dsp := rfl
@[simp] theorem modPg_flt (g : Fin 16) (f : PowerGroup → PowerGroup) (s : State) : (modPg g f s).flt = s.flt := rfl
@[simp] theorem modPg_upd (g : Fin 16) (f : PowerGroup → PowerGroup) (s : State) : (modPg g f s).upd = s.upd := rfl
@[simp] theorem modPg_pget (g : Fin 16) (f : PowerGroup → PowerGroup) (s : State) (id' inst : Nat) : pget (modPg g f s) id' inst = pget s id' inst := rfl
@[simp] theorem modPg_pbool (g : Fin 16) (f : PowerGroup → PowerGroup) (s : State) (id' inst : Nat) : pbool (modPg g f s) id' inst = pbool s id' inst := rfl

/-! ### modTie -/

@[simp] theorem modTie_pool (k : Fin 8) (f : TieSt → TieSt) (s : State) : (modTie k f s).pool = { s.pool with ties := upd s.pool.ties k f } := rfl
@[simp] theorem modTie_pending (k : Fin 8) (f : TieSt → TieSt) (s : State) : (modTie k f s).pending = s.pending := rfl
@[simp] theorem modTie_frame (k : Fin 8) (f : TieSt → TieSt) (s : State) : (modTie k f s).frame = s.frame := rfl
@[simp] theorem modTie_params (k : Fin 8) (f : TieSt → TieSt) (s : State) : (modTie k f s).params = s.params := rfl
@[simp] theorem modTie_persisted (k : Fin 8) (f : TieSt → TieSt) (s : State) : (modTie k f s).persisted = s.persisted := rfl
@[simp] theorem modTie_queues (k : Fin 8) (f : TieSt → TieSt) (s : State) : (modTie k f s).queues = s.queues := rfl
@[simp] theorem modTie_due (k : Fin 8) (f : TieSt → TieSt) (s : State) : (modTie k f s).due = s.due := rfl
@[simp] theorem modTie_outbox (k : Fin 8) (f : TieSt → TieSt) (s : State) : (modTie k f s).outbox = s.outbox := rfl
@[simp] theorem modTie_rnd (k : Fin 8) (f : TieSt → TieSt) (s : State) : (modTie k f s).rnd = s.rnd := rfl
@[simp] theorem modTie_sys (k : Fin 8) (f : TieSt → TieSt) (s : State) : (modTie k f s).sys = s.sys := rfl
@[simp] theorem modTie_beryl (k : Fin 8) (f : TieSt → TieSt) (s : State) : (modTie k f s).beryl = s.beryl := rfl
@[simp] theorem modTie_link (k : Fin 8) (f : TieSt → TieSt) (s : State) : (modTie k f s).link = s.link := rfl
@[simp] theorem modTie_txn (k : Fin 8) (f : TieSt → TieSt) (s : State) : (modTie k f s).txn = s.txn := rfl
@[simp] theorem modTie_outlets (k : Fin 8) (f : TieSt → TieSt) (s : State) : (modTie k f s).outlets = s.outlets := rfl
@[simp] theorem modTie_vlk (k : Fin 8) (f : TieSt → TieSt) (s : State) : (modTie k f s).vlk = s.vlk := rfl
@[simp] theorem modTie_mtr (k : Fin 8) (f : TieSt → TieSt) (s : State) : (modTie k f s).mtr = s.mtr := rfl
@[simp] theorem modTie_onyx (k : Fin 8) (f : TieSt → TieSt) (s : State) : (modTie k f s).onyx = s.onyx := rfl
@[simp] theorem modTie_efi (k : Fin 8) (f : TieSt → TieSt) (s : State) : (modTie k f s).efi = s.efi := rfl
@[simp] theorem modTie_garnet (k : Fin 8) (f : TieSt → TieSt) (s : State) : (modTie k f s).garnet = s.garnet := rfl
@[simp] theorem modTie_aux (k : Fin 8) (f : TieSt → TieSt) (s : State) : (modTie k f s).aux = s.aux := rfl
@[simp] theorem modTie_slk (k : Fin 8) (f : TieSt → TieSt) (s : State) : (modTie k f s).slk = s.slk := rfl
@[simp] theorem modTie_nfc (k : Fin 8) (f : TieSt → TieSt) (s : State) : (modTie k f s).nfc = s.nfc := rfl
@[simp] theorem modTie_dsp (k : Fin 8) (f : TieSt → TieSt) (s : State) : (modTie k f s).dsp = s.dsp := rfl
@[simp] theorem modTie_flt (k : Fin 8) (f : TieSt → TieSt) (s : State) : (modTie k f s).flt = s.flt := rfl
@[simp] theorem modTie_upd (k : Fin 8) (f : TieSt → TieSt) (s : State) : (modTie k f s).upd = s.upd := rfl
@[simp] theorem modTie_pget (k : Fin 8) (f : TieSt → TieSt) (s : State) (id' inst : Nat) : pget (modTie k f s) id' inst = pget s id' inst := rfl
@[simp] theorem modTie_pbool (k : Fin 8) (f : TieSt → TieSt) (s : State) (id' inst : Nat) : pbool (modTie k f s) id' inst = pbool s id' inst := rfl

/-! ### modPort -/

@[simp] theorem modPort_pool (p : Fin 2) (f : CanPort → CanPort) (s : State) : (modPort p f s).pool = { s.pool with ports := upd s.pool.ports p f } := rfl
@[simp] theorem modPort_pending (p : Fin 2) (f : CanPort → CanPort) (s : State) : (modPort p f s).pending = s.pending := rfl
@[simp] theorem modPort_frame (p : Fin 2) (f : CanPort → CanPort) (s : State) : (modPort p f s).frame = s.frame := rfl
@[simp] theorem modPort_params (p : Fin 2) (f : CanPort → CanPort) (s : State) : (modPort p f s).params = s.params := rfl
@[simp] theorem modPort_persisted (p : Fin 2) (f : CanPort → CanPort) (s : State) : (modPort p f s).persisted = s.persisted := rfl
@[simp] theorem modPort_queues (p : Fin 2) (f : CanPort → CanPort) (s : State) : (modPort p f s).queues = s.queues := rfl
@[simp] theorem modPort_due (p : Fin 2) (f : CanPort → CanPort) (s : State) : (modPort p f s).due = s.due := rfl
@[simp] theorem modPort_outbox (p : Fin 2) (f : CanPort → CanPort) (s : State) : (modPort p f s).outbox = s.outbox := rfl
@[simp] theorem modPort_rnd (p : Fin 2) (f : CanPort → CanPort) (s : State) : (modPort p f s).rnd = s.rnd := rfl
@[simp] theorem modPort_sys (p : Fin 2) (f : CanPort → CanPort) (s : State) : (modPort p f s).sys = s.sys := rfl
@[simp] theorem modPort_beryl (p : Fin 2) (f : CanPort → CanPort) (s : State) : (modPort p f s).beryl = s.beryl := rfl
@[simp] theorem modPort_link (p : Fin 2) (f : CanPort → CanPort) (s : State) : (modPort p f s).link = s.link := rfl
@[simp] theorem modPort_txn (p : Fin 2) (f : CanPort → CanPort) (s : State) : (modPort p f s).txn = s.txn := rfl
@[simp] theorem modPort_outlets (p : Fin 2) (f : CanPort → CanPort) (s : State) : (modPort p f s).outlets = s.outlets := rfl
@[simp] theorem modPort_vlk (p : Fin 2) (f : CanPort → CanPort) (s : State) : (modPort p f s).vlk = s.vlk := rfl
@[simp] theorem modPort_mtr (p : Fin 2) (f : CanPort → CanPort) (s : State) : (modPort p f s).mtr = s.mtr := rfl
@[simp] theorem modPort_onyx (p : Fin 2) (f : CanPort → CanPort) (s : State) : (modPort p f s).onyx = s.onyx := rfl
@[simp] theorem modPort_efi (p : Fin 2) (f : CanPort → CanPort) (s : State) : (modPort p f s).efi = s.efi := rfl
@[simp] theorem modPort_garnet (p : Fin 2) (f : CanPort → CanPort) (s : State) : (modPort p f s).garnet = s.garnet := rfl
@[simp] theorem modPort_aux (p : Fin 2) (f : CanPort → CanPort) (s : State) : (modPort p f s).aux = s.aux := rfl
@[simp] theorem modPort_slk (p : Fin 2) (f : CanPort → CanPort) (s : State) : (modPort p f s).slk = s.slk := rfl
@[simp] theorem modPort_nfc (p : Fin 2) (f : CanPort → CanPort) (s : State) : (modPort p f s).nfc = s.nfc := rfl
@[simp] theorem modPort_dsp (p : Fin 2) (f : CanPort → CanPort) (s : State) : (modPort p f s).dsp = s.dsp := rfl
@[simp] theorem modPort_flt (p : Fin 2) (f : CanPort → CanPort) (s : State) : (modPort p f s).flt = s.flt := rfl
@[simp] theorem modPort_upd (p : Fin 2) (f : CanPort → CanPort) (s : State) : (modPort p f s).upd = s.upd := rfl
@[simp] theorem modPort_pget (p : Fin 2) (f : CanPort → CanPort) (s : State) (id' inst : Nat) : pget (modPort p f s) id' inst = pget s id' inst := rfl
@[simp] theorem modPort_pbool (p : Fin 2) (f : CanPort → CanPort) (s : State) (id' inst : Nat) : pbool (modPort p f s) id' inst = pbool s id' inst := rfl

/-! ### modVlk -/

@[simp] theorem modVlk_vlk (f : VlkSt → VlkSt) (s : State) : (modVlk f s).vlk = f s.vlk := rfl
@[simp] theorem modVlk_pending (f : VlkSt → VlkSt) (s : State) : (modVlk f s).pending = s.pending := rfl
@[simp] theorem modVlk_frame (f : VlkSt → VlkSt) (s : State) : (modVlk f s).frame = s.frame := rfl
@[simp] theorem modVlk_params (f : VlkSt → VlkSt) (s : State) : (modVlk f s).params = s.params := rfl
@[simp] theorem modVlk_persisted (f : VlkSt → VlkSt) (s : State) : (modVlk f s).persisted = s.persisted := rfl
@[simp] theorem modVlk_queues (f : VlkSt → VlkSt) (s : State) : (modVlk f s).queues = s.queues := rfl
@[simp] theorem modVlk_due (f : VlkSt → VlkSt) (s : State) : (modVlk f s).due = s.due := rfl
@[simp] theorem modVlk_outbox (f : VlkSt → VlkSt) (s : State) : (modVlk f s).outbox = s.outbox := rfl
@[simp] theorem modVlk_rnd (f : VlkSt → VlkSt) (s : State) : (modVlk f s).rnd = s.rnd := rfl
@[simp] theorem modVlk_sys (f : VlkSt → VlkSt) (s : State) : (modVlk f s).sys = s.sys := rfl
@[simp] theorem modVlk_beryl (f : VlkSt → VlkSt) (s : State) : (modVlk f s).beryl = s.beryl := rfl
@[simp] theorem modVlk_link (f : VlkSt → VlkSt) (s : State) : (modVlk f s).link = s.link := rfl
@[simp] theorem modVlk_txn (f : VlkSt → VlkSt) (s : State) : (modVlk f s).txn = s.txn := rfl
@[simp] theorem modVlk_outlets (f : VlkSt → VlkSt) (s : State) : (modVlk f s).outlets = s.outlets := rfl
@[simp] theorem modVlk_pool (f : VlkSt → VlkSt) (s : State) : (modVlk f s).pool = s.pool := rfl
@[simp] theorem modVlk_mtr (f : VlkSt → VlkSt) (s : State) : (modVlk f s).mtr = s.mtr := rfl
@[simp] theorem modVlk_onyx (f : VlkSt → VlkSt) (s : State) : (modVlk f s).onyx = s.onyx := rfl
@[simp] theorem modVlk_efi (f : VlkSt → VlkSt) (s : State) : (modVlk f s).efi = s.efi := rfl
@[simp] theorem modVlk_garnet (f : VlkSt → VlkSt) (s : State) : (modVlk f s).garnet = s.garnet := rfl
@[simp] theorem modVlk_aux (f : VlkSt → VlkSt) (s : State) : (modVlk f s).aux = s.aux := rfl
@[simp] theorem modVlk_slk (f : VlkSt → VlkSt) (s : State) : (modVlk f s).slk = s.slk := rfl
@[simp] theorem modVlk_nfc (f : VlkSt → VlkSt) (s : State) : (modVlk f s).nfc = s.nfc := rfl
@[simp] theorem modVlk_dsp (f : VlkSt → VlkSt) (s : State) : (modVlk f s).dsp = s.dsp := rfl
@[simp] theorem modVlk_flt (f : VlkSt → VlkSt) (s : State) : (modVlk f s).flt = s.flt := rfl
@[simp] theorem modVlk_upd (f : VlkSt → VlkSt) (s : State) : (modVlk f s).upd = s.upd := rfl
@[simp] theorem modVlk_pget (f : VlkSt → VlkSt) (s : State) (id' inst : Nat) : pget (modVlk f s) id' inst = pget s id' inst := rfl
@[simp] theorem modVlk_pbool (f : VlkSt → VlkSt) (s : State) (id' inst : Nat) : pbool (modVlk f s) id' inst = pbool s id' inst := rfl

/-! ### modV -/

@[simp] theorem modV_vlk (k : Fin 8) (f : VPort → VPort) (s : State) : (modV k f s).vlk = { s.vlk with ports := upd s.vlk.ports k f } := rfl
@[simp] theorem modV_pending (k : Fin 8) (f : VPort → VPort) (s : State) : (modV k f s).pending = s.pending := rfl
@[simp] theorem modV_frame (k : Fin 8) (f : VPort → VPort) (s : State) : (modV k f s).frame = s.frame := rfl
@[simp] theorem modV_params (k : Fin 8) (f : VPort → VPort) (s : State) : (modV k f s).params = s.params := rfl
@[simp] theorem modV_persisted (k : Fin 8) (f : VPort → VPort) (s : State) : (modV k f s).persisted = s.persisted := rfl
@[simp] theorem modV_queues (k : Fin 8) (f : VPort → VPort) (s : State) : (modV k f s).queues = s.queues := rfl
@[simp] theorem modV_due (k : Fin 8) (f : VPort → VPort) (s : State) : (modV k f s).due = s.due := rfl
@[simp] theorem modV_outbox (k : Fin 8) (f : VPort → VPort) (s : State) : (modV k f s).outbox = s.outbox := rfl
@[simp] theorem modV_rnd (k : Fin 8) (f : VPort → VPort) (s : State) : (modV k f s).rnd = s.rnd := rfl
@[simp] theorem modV_sys (k : Fin 8) (f : VPort → VPort) (s : State) : (modV k f s).sys = s.sys := rfl
@[simp] theorem modV_beryl (k : Fin 8) (f : VPort → VPort) (s : State) : (modV k f s).beryl = s.beryl := rfl
@[simp] theorem modV_link (k : Fin 8) (f : VPort → VPort) (s : State) : (modV k f s).link = s.link := rfl
@[simp] theorem modV_txn (k : Fin 8) (f : VPort → VPort) (s : State) : (modV k f s).txn = s.txn := rfl
@[simp] theorem modV_outlets (k : Fin 8) (f : VPort → VPort) (s : State) : (modV k f s).outlets = s.outlets := rfl
@[simp] theorem modV_pool (k : Fin 8) (f : VPort → VPort) (s : State) : (modV k f s).pool = s.pool := rfl
@[simp] theorem modV_mtr (k : Fin 8) (f : VPort → VPort) (s : State) : (modV k f s).mtr = s.mtr := rfl
@[simp] theorem modV_onyx (k : Fin 8) (f : VPort → VPort) (s : State) : (modV k f s).onyx = s.onyx := rfl
@[simp] theorem modV_efi (k : Fin 8) (f : VPort → VPort) (s : State) : (modV k f s).efi = s.efi := rfl
@[simp] theorem modV_garnet (k : Fin 8) (f : VPort → VPort) (s : State) : (modV k f s).garnet = s.garnet := rfl
@[simp] theorem modV_aux (k : Fin 8) (f : VPort → VPort) (s : State) : (modV k f s).aux = s.aux := rfl
@[simp] theorem modV_slk (k : Fin 8) (f : VPort → VPort) (s : State) : (modV k f s).slk = s.slk := rfl
@[simp] theorem modV_nfc (k : Fin 8) (f : VPort → VPort) (s : State) : (modV k f s).nfc = s.nfc := rfl
@[simp] theorem modV_dsp (k : Fin 8) (f : VPort → VPort) (s : State) : (modV k f s).dsp = s.dsp := rfl
@[simp] theorem modV_flt (k : Fin 8) (f : VPort → VPort) (s : State) : (modV k f s).flt = s.flt := rfl
@[simp] theorem modV_upd (k : Fin 8) (f : VPort → VPort) (s : State) : (modV k f s).upd = s.upd := rfl
@[simp] theorem modV_pget (k : Fin 8) (f : VPort → VPort) (s : State) (id' inst : Nat) : pget (modV k f s) id' inst = pget s id' inst := rfl
@[simp] theorem modV_pbool (k : Fin 8) (f : VPort → VPort) (s : State) (id' inst : Nat) : pbool (modV k f s) id' inst = pbool s id' inst := rfl

/-! ### modMtr -/

@[simp] theorem modMtr_mtr (f : MtrSt → MtrSt) (s : State) : (modMtr f s).mtr = f s.mtr := rfl
@[simp] theorem modMtr_pending (f : MtrSt → MtrSt) (s : State) : (modMtr f s).pending = s.pending := rfl
@[simp] theorem modMtr_frame (f : MtrSt → MtrSt) (s : State) : (modMtr f s).frame = s.frame := rfl
@[simp] theorem modMtr_params (f : MtrSt → MtrSt) (s : State) : (modMtr f s).params = s.params := rfl
@[simp] theorem modMtr_persisted (f : MtrSt → MtrSt) (s : State) : (modMtr f s).persisted = s.persisted := rfl
@[simp] theorem modMtr_queues (f : MtrSt → MtrSt) (s : State) : (modMtr f s).queues = s.queues := rfl
@[simp] theorem modMtr_due (f : MtrSt → MtrSt) (s : State) : (modMtr f s).due = s.due := rfl
@[simp] theorem modMtr_outbox (f : MtrSt → MtrSt) (s : State) : (modMtr f s).outbox = s.outbox := rfl
@[simp] theorem modMtr_rnd (f : MtrSt → MtrSt) (s : State) : (modMtr f s).rnd = s.rnd := rfl
@[simp] theorem modMtr_sys (f : MtrSt → MtrSt) (s : State) : (modMtr f s).sys = s.sys := rfl
@[simp] theorem modMtr_beryl (f : MtrSt → MtrSt) (s : State) : (modMtr f s).beryl = s.beryl := rfl
@[simp] theorem modMtr_link (f : MtrSt → MtrSt) (s : State) : (modMtr f s).link = s.link := rfl
@[simp] theorem modMtr_txn (f : MtrSt → MtrSt) (s : State) : (modMtr f s).txn = s.txn := rfl
@[simp] theorem modMtr_outlets (f : MtrSt → MtrSt) (s : State) : (modMtr f s).outlets = s.outlets := rfl
@[simp] theorem modMtr_pool (f : MtrSt → MtrSt) (s : State) : (modMtr f s).pool = s.pool := rfl
@[simp] theorem modMtr_vlk (f : MtrSt → MtrSt) (s : State) : (modMtr f s).vlk = s.vlk := rfl
@[simp] theorem modMtr_onyx (f : MtrSt → MtrSt) (s : State) : (modMtr f s).onyx = s.onyx := rfl
@[simp] theorem modMtr_efi (f : MtrSt → MtrSt) (s : State) : (modMtr f s).efi = s.efi := rfl
@[simp] theorem modMtr_garnet (f : MtrSt → MtrSt) (s : State) : (modMtr f s).garnet = s.garnet := rfl
@[simp] theorem modMtr_aux (f : MtrSt → MtrSt) (s : State) : (modMtr f s).aux = s.aux := rfl
@[simp] theorem modMtr_slk (f : MtrSt → MtrSt) (s : State) : (modMtr f s).slk = s.slk := rfl
@[simp] theorem modMtr_nfc (f : MtrSt → MtrSt) (s : State) : (modMtr f s).nfc = s.nfc := rfl
@[simp] theorem modMtr_dsp (f : MtrSt → MtrSt) (s : State) : (modMtr f s).dsp = s.dsp := rfl
@[simp] theorem modMtr_flt (f : MtrSt → MtrSt) (s : State) : (modMtr f s).flt = s.flt := rfl
@[simp] theorem modMtr_upd (f : MtrSt → MtrSt) (s : State) : (modMtr f s).upd = s.upd := rfl
@[simp] theorem modMtr_pget (f : MtrSt → MtrSt) (s : State) (id' inst : Nat) : pget (modMtr f s) id' inst = pget s id' inst := rfl
@[simp] theorem modMtr_pbool (f : MtrSt → MtrSt) (s : State) (id' inst : Nat) : pbool (modMtr f s) id' inst = pbool s id' inst := rfl

/-! ### modSlot -/

@[simp] theorem modSlot_mtr (m : Fin 9) (f : MeterSlot → MeterSlot) (s : State) : (modSlot m f s).mtr = { s.mtr with slots := upd s.mtr.slots m f } := rfl
@[simp] theorem modSlot_pending (m : Fin 9) (f : MeterSlot → MeterSlot) (s : State) : (modSlot m f s).pending = s.pending := rfl
@[simp] theorem modSlot_frame (m : Fin 9) (f : MeterSlot → MeterSlot) (s : State) : (modSlot m f s).frame = s.frame := rfl
@[simp] theorem modSlot_params (m : Fin 9) (f : MeterSlot → MeterSlot) (s : State) : (modSlot m f s).params = s.params := rfl
@[simp] theorem modSlot_persisted (m : Fin 9) (f : MeterSlot → MeterSlot) (s : State) : (modSlot m f s).persisted = s.persisted := rfl
@[simp] theorem modSlot_queues (m : Fin 9) (f : MeterSlot → MeterSlot) (s : State) : (modSlot m f s).queues = s.queues := rfl
@[simp] theorem modSlot_due (m : Fin 9) (f : MeterSlot → MeterSlot) (s : State) : (modSlot m f s).due = s.due := rfl
@[simp] theorem modSlot_outbox (m : Fin 9) (f : MeterSlot → MeterSlot) (s : State) : (modSlot m f s).outbox = s.outbox := rfl
@[simp] theorem modSlot_rnd (m : Fin 9) (f : MeterSlot → MeterSlot) (s : State) : (modSlot m f s).rnd = s.rnd := rfl
@[simp] theorem modSlot_sys (m : Fin 9) (f : MeterSlot → MeterSlot) (s : State) : (modSlot m f s).sys = s.sys := rfl
@[simp] theorem modSlot_beryl (m : Fin 9) (f : MeterSlot → MeterSlot) (s : State) : (modSlot m f s).beryl = s.beryl := rfl
@[simp] theorem modSlot_link (m : Fin 9) (f : MeterSlot → MeterSlot) (s : State) : (modSlot m f s).link = s.link := rfl
@[simp] theorem modSlot_txn (m : Fin 9) (f : MeterSlot → MeterSlot) (s : State) : (modSlot m f s).txn = s.txn := rfl
@[simp] theorem modSlot_outlets (m : Fin 9) (f : MeterSlot → MeterSlot) (s : State) : (modSlot m f s).outlets = s.outlets := rfl
@[simp] theorem modSlot_pool (m : Fin 9) (f : MeterSlot → MeterSlot) (s : State) : (modSlot m f s).pool = s.pool := rfl
@[simp] theorem modSlot_vlk (m : Fin 9) (f : MeterSlot → MeterSlot) (s : State) : (modSlot m f s).vlk = s.vlk := rfl
@[simp] theorem modSlot_onyx (m : Fin 9) (f : MeterSlot → MeterSlot) (s : State) : (modSlot m f s).onyx = s.onyx := rfl
@[simp] theorem modSlot_efi (m : Fin 9) (f : MeterSlot → MeterSlot) (s : State) : (modSlot m f s).efi = s.efi := rfl
@[simp] theorem modSlot_garnet (m : Fin 9) (f : MeterSlot → MeterSlot) (s : State) : (modSlot m f s).garnet = s.garnet := rfl
@[simp] theorem modSlot_aux (m : Fin 9) (f : MeterSlot → MeterSlot) (s : State) : (modSlot m f s).aux = s.aux := rfl
@[simp] theorem modSlot_slk (m : Fin 9) (f : MeterSlot → MeterSlot) (s : State) : (modSlot m f s).slk = s.slk := rfl
@[simp] theorem modSlot_nfc (m : Fin 9) (f : MeterSlot → MeterSlot) (s : State) : (modSlot m f s).nfc = s.nfc := rfl
@[simp] theorem modSlot_dsp (m : Fin 9) (f : MeterSlot → MeterSlot) (s : State) : (modSlot m f s).dsp = s.dsp := rfl
@[simp] theorem modSlot_flt (m : Fin 9) (f : MeterSlot → MeterSlot) (s : State) : (modSlot m f s).flt = s.flt := rfl
@[simp] theorem modSlot_upd (m : Fin 9) (f : MeterSlot → MeterSlot) (s : State) : (modSlot m f s).upd = s.upd := rfl
@[simp] theorem modSlot_pget (m : Fin 9) (f : MeterSlot → MeterSlot) (s : State) (id' inst : Nat) : pget (modSlot m f s) id' inst = pget s id' inst := rfl
@[simp] theorem modSlot_pbool (m : Fin 9) (f : MeterSlot → MeterSlot) (s : State) (id' inst : Nat) : pbool (modSlot m f s) id' inst = pbool s id' inst := rfl

/-! ### modOnyx -/

@[simp] theorem modOnyx_onyx (f : OnyxSt → OnyxSt) (s : State) : (modOnyx f s).onyx = f s.onyx := rfl
@[simp] theorem modOnyx_pending (f : OnyxSt → OnyxSt) (s : State) : (modOnyx f s).pending = s.pending := rfl
@[simp] theorem modOnyx_frame (f : OnyxSt → OnyxSt) (s : State) : (modOnyx f s).frame = s.frame := rfl
@[simp] theorem modOnyx_params (f : OnyxSt → OnyxSt) (s : State) : (modOnyx f s).params = s.params := rfl
@[simp] theorem modOnyx_persisted (f : OnyxSt → OnyxSt) (s : State) : (modOnyx f s).persisted = s.persisted := rfl
@[simp] theorem modOnyx_queues (f : OnyxSt → OnyxSt) (s : State) : (modOnyx f s).queues = s.queues := rfl
@[simp] theorem modOnyx_due (f : OnyxSt → OnyxSt) (s : State) : (modOnyx f s).due = s.due := rfl
@[simp] theorem modOnyx_outbox (f : OnyxSt → OnyxSt) (s : State) : (modOnyx f s).outbox = s.outbox := rfl
@[simp] theorem modOnyx_rnd (f : OnyxSt → OnyxSt) (s : State) : (modOnyx f s).rnd = s.rnd := rfl
@[simp] theorem modOnyx_sys (f : OnyxSt → OnyxSt) (s : State) : (modOnyx f s).sys = s.sys := rfl
@[simp] theorem modOnyx_beryl (f : OnyxSt → OnyxSt) (s : State) : (modOnyx f s).beryl = s.beryl := rfl
@[simp] theorem modOnyx_link (f : OnyxSt → OnyxSt) (s : State) : (modOnyx f s).link = s.link := rfl
@[simp] theorem modOnyx_txn (f : OnyxSt → OnyxSt) (s : State) : (modOnyx f s).txn = s.txn := rfl
@[simp] theorem modOnyx_outlets (f : OnyxSt → OnyxSt) (s : State) : (modOnyx f s).outlets = s.outlets := rfl
@[simp] theorem modOnyx_pool (f : OnyxSt → OnyxSt) (s : State) : (modOnyx f s).pool = s.pool := rfl
@[simp] theorem modOnyx_vlk (f : OnyxSt → OnyxSt) (s : State) : (modOnyx f s).vlk = s.vlk := rfl
@[simp] theorem modOnyx_mtr (f : OnyxSt → OnyxSt) (s : State) : (modOnyx f s).mtr = s.mtr := rfl
@[simp] theorem modOnyx_efi (f : OnyxSt → OnyxSt) (s : State) : (modOnyx f s).efi = s.efi := rfl
@[simp] theorem modOnyx_garnet (f : OnyxSt → OnyxSt) (s : State) : (modOnyx f s).garnet = s.garnet := rfl
@[simp] theorem modOnyx_aux (f : OnyxSt → OnyxSt) (s : State) : (modOnyx f s).aux = s.aux := rfl
@[simp] theorem modOnyx_slk (f : OnyxSt → OnyxSt) (s : State) : (modOnyx f s).slk = s.slk := rfl
@[simp] theorem modOnyx_nfc (f : OnyxSt → OnyxSt) (s : State) : (modOnyx f s).nfc = s.nfc := rfl
@[simp] theorem modOnyx_dsp (f : OnyxSt → OnyxSt) (s : State) : (modOnyx f s).dsp = s.dsp := rfl
@[simp] theorem modOnyx_flt (f : OnyxSt → OnyxSt) (s : State) : (modOnyx f s).flt = s.flt := rfl
@[simp] theorem modOnyx_upd (f : OnyxSt → OnyxSt) (s : State) : (modOnyx f s).upd = s.upd := rfl
@[simp] theorem modOnyx_pget (f : OnyxSt → OnyxSt) (s : State) (id' inst : Nat) : pget (modOnyx f s) id' inst = pget s id' inst := rfl
@[simp] theorem modOnyx_pbool (f : OnyxSt → OnyxSt) (s : State) (id' inst : Nat) : pbool (modOnyx f s) id' inst = pbool s id' inst := rfl

/-! ### modLive -/

@[simp] theorem modLive_onyx (f : OnyxLive → OnyxLive) (s : State) : (modLive f s).onyx = { s.onyx with live := f s.onyx.live } := rfl
@[simp] theorem modLive_pending (f : OnyxLive → OnyxLive) (s : State) : (modLive f s).pending = s.pending := rfl
@[simp] theorem modLive_frame (f : OnyxLive → OnyxLive) (s : State) : (modLive f s).frame = s.frame := rfl
@[simp] theorem modLive_params (f : OnyxLive → OnyxLive) (s : State) : (modLive f s).params = s.params := rfl
@[simp] theorem modLive_persisted (f : OnyxLive → OnyxLive) (s : State) : (modLive f s).persisted = s.persisted := rfl
@[simp] theorem modLive_queues (f : OnyxLive → OnyxLive) (s : State) : (modLive f s).queues = s.queues := rfl
@[simp] theorem modLive_due (f : OnyxLive → OnyxLive) (s : State) : (modLive f s).due = s.due := rfl
@[simp] theorem modLive_outbox (f : OnyxLive → OnyxLive) (s : State) : (modLive f s).outbox = s.outbox := rfl
@[simp] theorem modLive_rnd (f : OnyxLive → OnyxLive) (s : State) : (modLive f s).rnd = s.rnd := rfl
@[simp] theorem modLive_sys (f : OnyxLive → OnyxLive) (s : State) : (modLive f s).sys = s.sys := rfl
@[simp] theorem modLive_beryl (f : OnyxLive → OnyxLive) (s : State) : (modLive f s).beryl = s.beryl := rfl
@[simp] theorem modLive_link (f : OnyxLive → OnyxLive) (s : State) : (modLive f s).link = s.link := rfl
@[simp] theorem modLive_txn (f : OnyxLive → OnyxLive) (s : State) : (modLive f s).txn = s.txn := rfl
@[simp] theorem modLive_outlets (f : OnyxLive → OnyxLive) (s : State) : (modLive f s).outlets = s.outlets := rfl
@[simp] theorem modLive_pool (f : OnyxLive → OnyxLive) (s : State) : (modLive f s).pool = s.pool := rfl
@[simp] theorem modLive_vlk (f : OnyxLive → OnyxLive) (s : State) : (modLive f s).vlk = s.vlk := rfl
@[simp] theorem modLive_mtr (f : OnyxLive → OnyxLive) (s : State) : (modLive f s).mtr = s.mtr := rfl
@[simp] theorem modLive_efi (f : OnyxLive → OnyxLive) (s : State) : (modLive f s).efi = s.efi := rfl
@[simp] theorem modLive_garnet (f : OnyxLive → OnyxLive) (s : State) : (modLive f s).garnet = s.garnet := rfl
@[simp] theorem modLive_aux (f : OnyxLive → OnyxLive) (s : State) : (modLive f s).aux = s.aux := rfl
@[simp] theorem modLive_slk (f : OnyxLive → OnyxLive) (s : State) : (modLive f s).slk = s.slk := rfl
@[simp] theorem modLive_nfc (f : OnyxLive → OnyxLive) (s : State) : (modLive f s).nfc = s.nfc := rfl
@[simp] theorem modLive_dsp (f : OnyxLive → OnyxLive) (s : State) : (modLive f s).dsp = s.dsp := rfl
@[simp] theorem modLive_flt (f : OnyxLive → OnyxLive) (s : State) : (modLive f s).flt = s.flt := rfl
@[simp] theorem modLive_upd (f : OnyxLive → OnyxLive) (s : State) : (modLive f s).upd = s.upd := rfl
@[simp] theorem modLive_pget (f : OnyxLive → OnyxLive) (s : State) (id' inst : Nat) : pget (modLive f s) id' inst = pget s id' inst := rfl
@[simp] theorem modLive_pbool (f : OnyxLive → OnyxLive) (s : State) (id' inst : Nat) : pbool (modLive f s) id' inst = pbool s id' inst := rfl

/-! ### modEfi -/

@[simp] theorem modEfi_efi (f : EfiSt → EfiSt) (s : State) : (modEfi f s).efi = f s.efi := rfl
@[simp] theorem modEfi_pending (f : EfiSt → EfiSt) (s : State) : (modEfi f s).pending = s.pending := rfl
@[simp] theorem modEfi_frame (f : EfiSt → EfiSt) (s : State) : (modEfi f s).frame = s.frame := rfl
@[simp] theorem modEfi_params (f : EfiSt → EfiSt) (s : State) : (modEfi f s).params = s.params := rfl
@[simp] theorem modEfi_persisted (f : EfiSt → EfiSt) (s : State) : (modEfi f s).persisted = s.persisted := rfl
@[simp] theorem modEfi_queues (f : EfiSt → EfiSt) (s : State) : (modEfi f s).queues = s.queues := rfl
@[simp] theorem modEfi_due (f : EfiSt → EfiSt) (s : State) : (modEfi f s).due = s.due := rfl
@[simp] theorem modEfi_outbox (f : EfiSt → EfiSt) (s : State) : (modEfi f s).outbox = s.outbox := rfl
@[simp] theorem modEfi_rnd (f : EfiSt → EfiSt) (s : State) : (modEfi f s).rnd = s.rnd := rfl
@[simp] theorem modEfi_sys (f : EfiSt → EfiSt) (s : State) : (modEfi f s).sys = s.sys := rfl
@[simp] theorem modEfi_beryl (f : EfiSt → EfiSt) (s : State) : (modEfi f s).beryl = s.beryl := rfl
@[simp] theorem modEfi_link (f : EfiSt → EfiSt) (s : State) : (modEfi f s).link = s.link := rfl
@[simp] theorem modEfi_txn (f : EfiSt → EfiSt) (s : State) : (modEfi f s).txn = s.txn := rfl
@[simp] theorem modEfi_outlets (f : EfiSt → EfiSt) (s : State) : (modEfi f s).outlets = s.outlets := rfl
@[simp] theorem modEfi_pool (f : EfiSt → EfiSt) (s : State) : (modEfi f s).pool = s.pool := rfl
@[simp] theorem modEfi_vlk (f : EfiSt → EfiSt) (s : State) : (modEfi f s).vlk = s.vlk := rfl
@[simp] theorem modEfi_mtr (f : EfiSt → EfiSt) (s : State) : (modEfi f s).mtr = s.mtr := rfl
@[simp] theorem modEfi_onyx (f : EfiSt → EfiSt) (s : State) : (modEfi f s).onyx = s.onyx := rfl
@[simp] theorem modEfi_garnet (f : EfiSt → EfiSt) (s : State) : (modEfi f s).garnet = s.garnet := rfl
@[simp] theorem modEfi_aux (f : EfiSt → EfiSt) (s : State) : (modEfi f s).aux = s.aux := rfl
@[simp] theorem modEfi_slk (f : EfiSt → EfiSt) (s : State) : (modEfi f s).slk = s.slk := rfl
@[simp] theorem modEfi_nfc (f : EfiSt → EfiSt) (s : State) : (modEfi f s).nfc = s.nfc := rfl
@[simp] theorem modEfi_dsp (f : EfiSt → EfiSt) (s : State) : (modEfi f s).dsp = s.dsp := rfl
@[simp] theorem modEfi_flt (f : EfiSt → EfiSt) (s : State) : (modEfi f s).flt = s.flt := rfl
@[simp] theorem modEfi_upd (f : EfiSt → EfiSt) (s : State) : (modEfi f s).upd = s.upd := rfl
@[simp] theorem modEfi_pget (f : EfiSt → EfiSt) (s : State) (id' inst : Nat) : pget (modEfi f s) id' inst = pget s id' inst := rfl
@[simp] theorem modEfi_pbool (f : EfiSt → EfiSt) (s : State) (id' inst : Nat) : pbool (modEfi f s) id' inst = pbool s id' inst := rfl

/-! ### modRdc -/

@[simp] theorem modRdc_efi (k : Fin 8) (f : RdcSt → RdcSt) (s : State) : (modRdc k f s).efi = { s.efi with rdc := upd s.efi.rdc k f } := rfl
@[simp] theorem modRdc_pending (k : Fin 8) (f : RdcSt → RdcSt) (s : State) : (modRdc k f s).pending = s.pending := rfl
@[simp] theorem modRdc_frame (k : Fin 8) (f : RdcSt → RdcSt) (s : State) : (modRdc k f s).frame = s.frame := rfl
@[simp] theorem modRdc_params (k : Fin 8) (f : RdcSt → RdcSt) (s : State) : (modRdc k f s).params = s.params := rfl
@[simp] theorem modRdc_persisted (k : Fin 8) (f : RdcSt → RdcSt) (s : State) : (modRdc k f s).persisted = s.persisted := rfl
@[simp] theorem modRdc_queues (k : Fin 8) (f : RdcSt → RdcSt) (s : State) : (modRdc k f s).queues = s.queues := rfl
@[simp] theorem modRdc_due (k : Fin 8) (f : RdcSt → RdcSt) (s : State) : (modRdc k f s).due = s.due := rfl
@[simp] theorem modRdc_outbox (k : Fin 8) (f : RdcSt → RdcSt) (s : State) : (modRdc k f s).outbox = s.outbox := rfl
@[simp] theorem modRdc_rnd (k : Fin 8) (f : RdcSt → RdcSt) (s : State) : (modRdc k f s).rnd = s.rnd := rfl
@[simp] theorem modRdc_sys (k : Fin 8) (f : RdcSt → RdcSt) (s : State) : (modRdc k f s).sys = s.sys := rfl
@[simp] theorem modRdc_beryl (k : Fin 8) (f : RdcSt → RdcSt) (s : State) : (modRdc k f s).beryl = s.beryl := rfl
@[simp] theorem modRdc_link (k : Fin 8) (f : RdcSt → RdcSt) (s : State) : (modRdc k f s).link = s.link := rfl
@[simp] theorem modRdc_txn (k : Fin 8) (f : RdcSt → RdcSt) (s : State) : (modRdc k f s).txn = s.txn := rfl
@[simp] theorem modRdc_outlets (k : Fin 8) (f : RdcSt → RdcSt) (s : State) : (modRdc k f s).outlets = s.outlets := rfl
@[simp] theorem modRdc_pool (k : Fin 8) (f : RdcSt → RdcSt) (s : State) : (modRdc k f s).pool = s.pool := rfl
@[simp] theorem modRdc_vlk (k : Fin 8) (f : RdcSt → RdcSt) (s : State) : (modRdc k f s).vlk = s.vlk := rfl
@[simp] theorem modRdc_mtr (k : Fin 8) (f : RdcSt → RdcSt) (s : State) : (modRdc k f s).mtr = s.mtr := rfl
@[simp] theorem modRdc_onyx (k : Fin 8) (f : RdcSt → RdcSt) (s : State) : (modRdc k f s).onyx = s.onyx := rfl
@[simp] theorem modRdc_garnet (k : Fin 8) (f : RdcSt → RdcSt) (s : State) : (modRdc k f s).garnet = s.garnet := rfl
@[simp] theorem modRdc_aux (k : Fin 8) (f : RdcSt → RdcSt) (s : State) : (modRdc k f s).aux = s.aux := rfl
@[simp] theorem modRdc_slk (k : Fin 8) (f : RdcSt → RdcSt) (s : State) : (modRdc k f s).slk = s.slk := rfl
@[simp] theorem modRdc_nfc (k : Fin 8) (f : RdcSt → RdcSt) (s : State) : (modRdc k f s).nfc = s.nfc := rfl
@[simp] theorem modRdc_dsp (k : Fin 8) (f : RdcSt → RdcSt) (s : State) : (modRdc k f s).dsp = s.dsp := rfl
@[simp] theorem modRdc_flt (k : Fin 8) (f : RdcSt → RdcSt) (s : State) : (modRdc k f s).flt = s.flt := rfl
@[simp] theorem modRdc_upd (k : Fin 8) (f : RdcSt → RdcSt) (s : State) : (modRdc k f s).upd = s.upd := rfl
@[simp] theorem modRdc_pget (k : Fin 8) (f : RdcSt → RdcSt) (s : State) (id' inst : Nat) : pget (modRdc k f s) id' inst = pget s id' inst := rfl
@[simp] theorem modRdc_pbool (k : Fin 8) (f : RdcSt → RdcSt) (s : State) (id' inst : Nat) : pbool (modRdc k f s) id' inst = pbool s id' inst := rfl

/-! ### modImd -/

@[simp] theorem modImd_efi (k : Fin 8) (f : ImdSt → ImdSt) (s : State) : (modImd k f s).efi = { s.efi with imd := upd s.efi.imd k f } := rfl
@[simp] theorem modImd_pending (k : Fin 8) (f : ImdSt → ImdSt) (s : State) : (modImd k f s).pending = s.pending := rfl
@[simp] theorem modImd_frame (k : Fin 8) (f : ImdSt → ImdSt) (s : State) : (modImd k f s).frame = s.frame := rfl
@[simp] theorem modImd_params (k : Fin 8) (f : ImdSt → ImdSt) (s : State) : (modImd k f s).params = s.params := rfl
@[simp] theorem modImd_persisted (k : Fin 8) (f : ImdSt → ImdSt) (s : State) : (modImd k f s).persisted = s.persisted := rfl
@[simp] theorem modImd_queues (k : Fin 8) (f : ImdSt → ImdSt) (s : State) : (modImd k f s).queues = s.queues := rfl
@[simp] theorem modImd_due (k : Fin 8) (f : ImdSt → ImdSt) (s : State) : (modImd k f s).due = s.due := rfl
@[simp] theorem modImd_outbox (k : Fin 8) (f : ImdSt → ImdSt) (s : State) : (modImd k f s).outbox = s.outbox := rfl
@[simp] theorem modImd_rnd (k : Fin 8) (f : ImdSt → ImdSt) (s : State) : (modImd k f s).rnd = s.rnd := rfl
@[simp] theorem modImd_sys (k : Fin 8) (f : ImdSt → ImdSt) (s : State) : (modImd k f s).sys = s.sys := rfl
@[simp] theorem modImd_beryl (k : Fin 8) (f : ImdSt → ImdSt) (s : State) : (modImd k f s).beryl = s.beryl := rfl
@[simp] theorem modImd_link (k : Fin 8) (f : ImdSt → ImdSt) (s : State) : (modImd k f s).link = s.link := rfl
@[simp] theorem modImd_txn (k : Fin 8) (f : ImdSt → ImdSt) (s : State) : (modImd k f s).txn = s.txn := rfl
@[simp] theorem modImd_outlets (k : Fin 8) (f : ImdSt → ImdSt) (s : State) : (modImd k f s).outlets = s.outlets := rfl
@[simp] theorem modImd_pool (k : Fin 8) (f : ImdSt → ImdSt) (s : State) : (modImd k f s).pool = s.pool := rfl
@[simp] theorem modImd_vlk (k : Fin 8) (f : ImdSt → ImdSt) (s : State) : (modImd k f s).vlk = s.vlk := rfl
@[simp] theorem modImd_mtr (k : Fin 8) (f : ImdSt → ImdSt) (s : State) : (modImd k f s).mtr = s.mtr := rfl
@[simp] theorem modImd_onyx (k : Fin 8) (f : ImdSt → ImdSt) (s : State) : (modImd k f s).onyx = s.onyx := rfl
@[simp] theorem modImd_garnet (k : Fin 8) (f : ImdSt → ImdSt) (s : State) : (modImd k f s).garnet = s.garnet := rfl
@[simp] theorem modImd_aux (k : Fin 8) (f : ImdSt → ImdSt) (s : State) : (modImd k f s).aux = s.aux := rfl
@[simp] theorem modImd_slk (k : Fin 8) (f : ImdSt → ImdSt) (s : State) : (modImd k f s).slk = s.slk := rfl
@[simp] theorem modImd_nfc (k : Fin 8) (f : ImdSt → ImdSt) (s : State) : (modImd k f s).nfc = s.nfc := rfl
@[simp] theorem modImd_dsp (k : Fin 8) (f : ImdSt → ImdSt) (s : State) : (modImd k f s).dsp = s.dsp := rfl
@[simp] theorem modImd_flt (k : Fin 8) (f : ImdSt → ImdSt) (s : State) : (modImd k f s).flt = s.flt := rfl
@[simp] theorem modImd_upd (k : Fin 8) (f : ImdSt → ImdSt) (s : State) : (modImd k f s).upd = s.upd := rfl
@[simp] theorem modImd_pget (k : Fin 8) (f : ImdSt → ImdSt) (s : State) (id' inst : Nat) : pget (modImd k f s) id' inst = pget s id' inst := rfl
@[simp] theorem modImd_pbool (k : Fin 8) (f : ImdSt → ImdSt) (s : State) (id' inst : Nat) : pbool (modImd k f s) id' inst = pbool s id' inst := rfl

/-! ### modPe -/

@[simp] theorem modPe_efi (k : Fin 8) (f : PeSt → PeSt) (s : State) : (modPe k f s).efi = { s.efi with pe := upd s.efi.pe k f } := rfl
@[simp] theorem modPe_pending (k : Fin 8) (f : PeSt → PeSt) (s : State) : (modPe k f s).pending = s.pending := rfl
@[simp] theorem modPe_frame (k : Fin 8) (f : PeSt → PeSt) (s : State) : (modPe k f s).frame = s.frame := rfl
@[simp] theorem modPe_params (k : Fin 8) (f : PeSt → PeSt) (s : State) : (modPe k f s).params = s.params := rfl
@[simp] theorem modPe_persisted (k : Fin 8) (f : PeSt → PeSt) (s : State) : (modPe k f s).persisted = s.persisted := rfl
@[simp] theorem modPe_queues (k : Fin 8) (f : PeSt → PeSt) (s : State) : (modPe k f s).queues = s.queues := rfl
@[simp] theorem modPe_due (k : Fin 8) (f : PeSt → PeSt) (s : State) : (modPe k f s).due = s.due := rfl
@[simp] theorem modPe_outbox (k : Fin 8) (f : PeSt → PeSt) (s : State) : (modPe k f s).outbox = s.outbox := rfl
@[simp] theorem modPe_rnd (k : Fin 8) (f : PeSt → PeSt) (s : State) : (modPe k f s).rnd = s.rnd := rfl
@[simp] theorem modPe_sys (k : Fin 8) (f : PeSt → PeSt) (s : State) : (modPe k f s).sys = s.sys := rfl
@[simp] theorem modPe_beryl (k : Fin 8) (f : PeSt → PeSt) (s : State) : (modPe k f s).beryl = s.beryl := rfl
@[simp] theorem modPe_link (k : Fin 8) (f : PeSt → PeSt) (s : State) : (modPe k f s).link = s.link := rfl
@[simp] theorem modPe_txn (k : Fin 8) (f : PeSt → PeSt) (s : State) : (modPe k f s).txn = s.txn := rfl
@[simp] theorem modPe_outlets (k : Fin 8) (f : PeSt → PeSt) (s : State) : (modPe k f s).outlets = s.outlets := rfl
@[simp] theorem modPe_pool (k : Fin 8) (f : PeSt → PeSt) (s : State) : (modPe k f s).pool = s.pool := rfl
@[simp] theorem modPe_vlk (k : Fin 8) (f : PeSt → PeSt) (s : State) : (modPe k f s).vlk = s.vlk := rfl
@[simp] theorem modPe_mtr (k : Fin 8) (f : PeSt → PeSt) (s : State) : (modPe k f s).mtr = s.mtr := rfl
@[simp] theorem modPe_onyx (k : Fin 8) (f : PeSt → PeSt) (s : State) : (modPe k f s).onyx = s.onyx := rfl
@[simp] theorem modPe_garnet (k : Fin 8) (f : PeSt → PeSt) (s : State) : (modPe k f s).garnet = s.garnet := rfl
@[simp] theorem modPe_aux (k : Fin 8) (f : PeSt → PeSt) (s : State) : (modPe k f s).aux = s.aux := rfl
@[simp] theorem modPe_slk (k : Fin 8) (f : PeSt → PeSt) (s : State) : (modPe k f s).slk = s.slk := rfl
@[simp] theorem modPe_nfc (k : Fin 8) (f : PeSt → PeSt) (s : State) : (modPe k f s).nfc = s.nfc := rfl
@[simp] theorem modPe_dsp (k : Fin 8) (f : PeSt → PeSt) (s : State) : (modPe k f s).dsp = s.dsp := rfl
@[simp] theorem modPe_flt (k : Fin 8) (f : PeSt → PeSt) (s : State) : (modPe k f s).flt = s.flt := rfl
@[simp] theorem modPe_upd (k : Fin 8) (f : PeSt → PeSt) (s : State) : (modPe k f s).upd = s.upd := rfl
@[simp] theorem modPe_pget (k : Fin 8) (f : PeSt → PeSt) (s : State) (id' inst : Nat) : pget (modPe k f s) id' inst = pget s id' inst := rfl
@[simp] theorem modPe_pbool (k : Fin 8) (f : PeSt → PeSt) (s : State) (id' inst : Nat) : pbool (modPe k f s) id' inst = pbool s id' inst := rfl

/-! ### modIm -/

@[simp] theorem modIm_efi (p : Fin 4) (f : ImPort → ImPort) (s : State) : (modIm p f s).efi = { s.efi with ports := upd s.efi.ports p f } := rfl
@[simp] theorem modIm_pending (p : Fin 4) (f : ImPort → ImPort) (s : State) : (modIm p f s).pending = s.pending := rfl
@[simp] theorem modIm_frame (p : Fin 4) (f : ImPort → ImPort) (s : State) : (modIm p f s).frame = s.frame := rfl
@[simp] theorem modIm_params (p : Fin 4) (f : ImPort → ImPort) (s : State) : (modIm p f s).params = s.params := rfl
@[simp] theorem modIm_persisted (p : Fin 4) (f : ImPort → ImPort) (s : State) : (modIm p f s).persisted = s.persisted := rfl
@[simp] theorem modIm_queues (p : Fin 4) (f : ImPort → ImPort) (s : State) : (modIm p f s).queues = s.queues := rfl
@[simp] theorem modIm_due (p : Fin 4) (f : ImPort → ImPort) (s : State) : (modIm p f s).due = s.due := rfl
@[simp] theorem modIm_outbox (p : Fin 4) (f : ImPort → ImPort) (s : State) : (modIm p f s).outbox = s.outbox := rfl
@[simp] theorem modIm_rnd (p : Fin 4) (f : ImPort → ImPort) (s : State) : (modIm p f s).rnd = s.rnd := rfl
@[simp] theorem modIm_sys (p : Fin 4) (f : ImPort → ImPort) (s : State) : (modIm p f s).sys = s.sys := rfl
@[simp] theorem modIm_beryl (p : Fin 4) (f : ImPort → ImPort) (s : State) : (modIm p f s).beryl = s.beryl := rfl
@[simp] theorem modIm_link (p : Fin 4) (f : ImPort → ImPort) (s : State) : (modIm p f s).link = s.link := rfl
@[simp] theorem modIm_txn (p : Fin 4) (f : ImPort → ImPort) (s : State) : (modIm p f s).txn = s.txn := rfl
@[simp] theorem modIm_outlets (p : Fin 4) (f : ImPort → ImPort) (s : State) : (modIm p f s).outlets = s.outlets := rfl
@[simp] theorem modIm_pool (p : Fin 4) (f : ImPort → ImPort) (s : State) : (modIm p f s).pool = s.pool := rfl
@[simp] theorem modIm_vlk (p : Fin 4) (f : ImPort → ImPort) (s : State) : (modIm p f s).vlk = s.vlk := rfl
@[simp] theorem modIm_mtr (p : Fin 4) (f : ImPort → ImPort) (s : State) : (modIm p f s).mtr = s.mtr := rfl
@[simp] theorem modIm_onyx (p : Fin 4) (f : ImPort → ImPort) (s : State) : (modIm p f s).onyx = s.onyx := rfl
@[simp] theorem modIm_garnet (p : Fin 4) (f : ImPort → ImPort) (s : State) : (modIm p f s).garnet = s.garnet := rfl
@[simp] theorem modIm_aux (p : Fin 4) (f : ImPort → ImPort) (s : State) : (modIm p f s).aux = s.aux := rfl
@[simp] theorem modIm_slk (p : Fin 4) (f : ImPort → ImPort) (s : State) : (modIm p f s).slk = s.slk := rfl
@[simp] theorem modIm_nfc (p : Fin 4) (f : ImPort → ImPort) (s : State) : (modIm p f s).nfc = s.nfc := rfl
@[simp] theorem modIm_dsp (p : Fin 4) (f : ImPort → ImPort) (s : State) : (modIm p f s).dsp = s.dsp := rfl
@[simp] theorem modIm_flt (p : Fin 4) (f : ImPort → ImPort) (s : State) : (modIm p f s).flt = s.flt := rfl
@[simp] theorem modIm_upd (p : Fin 4) (f : ImPort → ImPort) (s : State) : (modIm p f s).upd = s.upd := rfl
@[simp] theorem modIm_pget (p : Fin 4) (f : ImPort → ImPort) (s : State) (id' inst : Nat) : pget (modIm p f s) id' inst = pget s id' inst := rfl
@[simp] theorem modIm_pbool (p : Fin 4) (f : ImPort → ImPort) (s : State) (id' inst : Nat) : pbool (modIm p f s) id' inst = pbool s id' inst := rfl

/-! ### modGar -/

@[simp] theorem modGar_garnet (f : GarnetSt → GarnetSt) (s : State) : (modGar f s).garnet = f s.garnet := rfl
@[simp] theorem modGar_pending (f : GarnetSt → GarnetSt) (s : State) : (modGar f s).pending = s.pending := rfl
@[simp] theorem modGar_frame (f : GarnetSt → GarnetSt) (s : State) : (modGar f s).frame = s.frame := rfl
@[simp] theorem modGar_params (f : GarnetSt → GarnetSt) (s : State) : (modGar f s).params = s.params := rfl
@[simp] theorem modGar_persisted (f : GarnetSt → GarnetSt) (s : State) : (modGar f s).persisted = s.persisted := rfl
@[simp] theorem modGar_queues (f : GarnetSt → GarnetSt) (s : State) : (modGar f s).queues = s.queues := rfl
@[simp] theorem modGar_due (f : GarnetSt → GarnetSt) (s : State) : (modGar f s).due = s.due := rfl
@[simp] theorem modGar_outbox (f : GarnetSt → GarnetSt) (s : State) : (modGar f s).outbox = s.outbox := rfl
@[simp] theorem modGar_rnd (f : GarnetSt → GarnetSt) (s : State) : (modGar f s).rnd = s.rnd := rfl
@[simp] theorem modGar_sys (f : GarnetSt → GarnetSt) (s : State) : (modGar f s).sys = s.sys := rfl
@[simp] theorem modGar_beryl (f : GarnetSt → GarnetSt) (s : State) : (modGar f s).beryl = s.beryl := rfl
@[simp] theorem modGar_link (f : GarnetSt → GarnetSt) (s : State) : (modGar f s).link = s.link := rfl
@[simp] theorem modGar_txn (f : GarnetSt → GarnetSt) (s : State) : (modGar f s).txn = s.txn := rfl
@[simp] theorem modGar_outlets (f : GarnetSt → GarnetSt) (s : State) : (modGar f s).outlets = s.outlets := rfl
@[simp] theorem modGar_pool (f : GarnetSt → GarnetSt) (s : State) : (modGar f s).pool = s.pool := rfl
@[simp] theorem modGar_vlk (f : GarnetSt → GarnetSt) (s : State) : (modGar f s).vlk = s.vlk := rfl
@[simp] theorem modGar_mtr (f : GarnetSt → GarnetSt) (s : State) : (modGar f s).mtr = s.mtr := rfl
@[simp] theorem modGar_onyx (f : GarnetSt → GarnetSt) (s : State) : (modGar f s).onyx = s.onyx := rfl
@[simp] theorem modGar_efi (f : GarnetSt → GarnetSt) (s : State) : (modGar f s).efi = s.efi := rfl
@[simp] theorem modGar_aux (f : GarnetSt → GarnetSt) (s : State) : (modGar f s).aux = s.aux := rfl
@[simp] theorem modGar_slk (f : GarnetSt → GarnetSt) (s : State) : (modGar f s).slk = s.slk := rfl
@[simp] theorem modGar_nfc (f : GarnetSt → GarnetSt) (s : State) : (modGar f s).nfc = s.nfc := rfl
@[simp] theorem modGar_dsp (f : GarnetSt → GarnetSt) (s : State) : (modGar f s).dsp = s.dsp := rfl
@[simp] theorem modGar_flt (f : GarnetSt → GarnetSt) (s : State) : (modGar f s).flt = s.flt := rfl
@[simp] theorem modGar_upd (f : GarnetSt → GarnetSt) (s : State) : (modGar f s).upd = s.upd := rfl
@[simp] theorem modGar_pget (f : GarnetSt → GarnetSt) (s : State) (id' inst : Nat) : pget (modGar f s) id' inst = pget s id' inst := rfl
@[simp] theorem modGar_pbool (f : GarnetSt → GarnetSt) (s : State) (id' inst : Nat) : pbool (modGar f s) id' inst = pbool s id' inst := rfl

/-! ### modSi -/

@[simp] theorem modSi_garnet (i : Fin 16) (f : SafeIn → SafeIn) (s : State) : (modSi i f s).garnet = { s.garnet with inputs := upd s.garnet.inputs i f } := rfl
@[simp] theorem modSi_pending (i : Fin 16) (f : SafeIn → SafeIn) (s : State) : (modSi i f s).pending = s.pending := rfl
@[simp] theorem modSi_frame (i : Fin 16) (f : SafeIn → SafeIn) (s : State) : (modSi i f s).frame = s.frame := rfl
@[simp] theorem modSi_params (i : Fin 16) (f : SafeIn → SafeIn) (s : State) : (modSi i f s).params = s.params := rfl
@[simp] theorem modSi_persisted (i : Fin 16) (f : SafeIn → SafeIn) (s : State) : (modSi i f s).persisted = s.persisted := rfl
@[simp] theorem modSi_queues (i : Fin 16) (f : SafeIn → SafeIn) (s : State) : (modSi i f s).queues = s.queues := rfl
@[simp] theorem modSi_due (i : Fin 16) (f : SafeIn → SafeIn) (s : State) : (modSi i f s).due = s.due := rfl
@[simp] theorem modSi_outbox (i : Fin 16) (f : SafeIn → SafeIn) (s : State) : (modSi i f s).outbox = s.outbox := rfl
@[simp] theorem modSi_rnd (i : Fin 16) (f : SafeIn → SafeIn) (s : State) : (modSi i f s).rnd = s.rnd := rfl
@[simp] theorem modSi_sys (i : Fin 16) (f : SafeIn → SafeIn) (s : State) : (modSi i f s).sys = s.sys := rfl
@[simp] theorem modSi_beryl (i : Fin 16) (f : SafeIn → SafeIn) (s : State) : (modSi i f s).beryl = s.beryl := rfl
@[simp] theorem modSi_link (i : Fin 16) (f : SafeIn → SafeIn) (s : State) : (modSi i f s).link = s.link := rfl
@[simp] theorem modSi_txn (i : Fin 16) (f : SafeIn → SafeIn) (s : State) : (modSi i f s).txn = s.txn := rfl
@[simp] theorem modSi_outlets (i : Fin 16) (f : SafeIn → SafeIn) (s : State) : (modSi i f s).outlets = s.outlets := rfl
@[simp] theorem modSi_pool (i : Fin 16) (f : SafeIn → SafeIn) (s : State) : (modSi i f s).pool = s.pool := rfl
@[simp] theorem modSi_vlk (i : Fin 16) (f : SafeIn → SafeIn) (s : State) : (modSi i f s).vlk = s.vlk := rfl
@[simp] theorem modSi_mtr (i : Fin 16) (f : SafeIn → SafeIn) (s : State) : (modSi i f s).mtr = s.mtr := rfl
@[simp] theorem modSi_onyx (i : Fin 16) (f : SafeIn → SafeIn) (s : State) : (modSi i f s).onyx = s.onyx := rfl
@[simp] theorem modSi_efi (i : Fin 16) (f : SafeIn → SafeIn) (s : State) : (modSi i f s).efi = s.efi := rfl
@[simp] theorem modSi_aux (i : Fin 16) (f : SafeIn → SafeIn) (s : State) : (modSi i f s).aux = s.aux := rfl
@[simp] theorem modSi_slk (i : Fin 16) (f : SafeIn → SafeIn) (s : State) : (modSi i f s).slk = s.slk := rfl
@[simp] theorem modSi_nfc (i : Fin 16) (f : SafeIn → SafeIn) (s : State) : (modSi i f s).nfc = s.nfc := rfl
@[simp] theorem modSi_dsp (i : Fin 16) (f : SafeIn → SafeIn) (s : State) : (modSi i f s).dsp = s.dsp := rfl
@[simp] theorem modSi_flt (i : Fin 16) (f : SafeIn → SafeIn) (s : State) : (modSi i f s).flt = s.flt := rfl
@[simp] theorem modSi_upd (i : Fin 16) (f : SafeIn → SafeIn) (s : State) : (modSi i f s).upd = s.upd := rfl
@[simp] theorem modSi_pget (i : Fin 16) (f : SafeIn → SafeIn) (s : State) (id' inst : Nat) : pget (modSi i f s) id' inst = pget s id' inst := rfl
@[simp] theorem modSi_pbool (i : Fin 16) (f : SafeIn → SafeIn) (s : State) (id' inst : Nat) : pbool (modSi i f s) id' inst = pbool s id' inst := rfl

/-! ### modSo -/

@[simp] theorem modSo_garnet (o : Fin 32) (f : SafeOut → SafeOut) (s : State) : (modSo o f s).garnet = { s.garnet with outs := upd s.garnet.outs o f } := rfl
@[simp] theorem modSo_pending (o : Fin 32) (f : SafeOut → SafeOut) (s : State) : (modSo o f s).pending = s.pending := rfl
@[simp] theorem modSo_frame (o : Fin 32) (f : SafeOut → SafeOut) (s : State) : (modSo o f s).frame = s.frame := rfl
@[simp] theorem modSo_params (o : Fin 32) (f : SafeOut → SafeOut) (s : State) : (modSo o f s).params = s.params := rfl
@[simp] theorem modSo_persisted (o : Fin 32) (f : SafeOut → SafeOut) (s : State) : (modSo o f s).persisted = s.persisted := rfl
@[simp] theorem modSo_queues (o : Fin 32) (f : SafeOut → SafeOut) (s : State) : (modSo o f s).queues = s.queues := rfl
@[simp] theorem modSo_due (o : Fin 32) (f : SafeOut → SafeOut) (s : State) : (modSo o f s).due = s.due := rfl
@[simp] theorem modSo_outbox (o : Fin 32) (f : SafeOut → SafeOut) (s : State) : (modSo o f s).outbox = s.outbox := rfl
@[simp] theorem modSo_rnd (o : Fin 32) (f : SafeOut → SafeOut) (s : State) : (modSo o f s).rnd = s.rnd := rfl
@[simp] theorem modSo_sys (o : Fin 32) (f : SafeOut → SafeOut) (s : State) : (modSo o f s).sys = s.sys := rfl
@[simp] theorem modSo_beryl (o : Fin 32) (f : SafeOut → SafeOut) (s : State) : (modSo o f s).beryl = s.beryl := rfl
@[simp] theorem modSo_link (o : Fin 32) (f : SafeOut → SafeOut) (s : State) : (modSo o f s).link = s.link := rfl
@[simp] theorem modSo_txn (o : Fin 32) (f : SafeOut → SafeOut) (s : State) : (modSo o f s).txn = s.txn := rfl
@[simp] theorem modSo_outlets (o : Fin 32) (f : SafeOut → SafeOut) (s : State) : (modSo o f s).outlets = s.outlets := rfl
@[simp] theorem modSo_pool (o : Fin 32) (f : SafeOut → SafeOut) (s : State) : (modSo o f s).pool = s.pool := rfl
@[simp] theorem modSo_vlk (o : Fin 32) (f : SafeOut → SafeOut) (s : State) : (modSo o f s).vlk = s.vlk := rfl
@[simp] theorem modSo_mtr (o : Fin 32) (f : SafeOut → SafeOut) (s : State) : (modSo o f s).mtr = s.mtr := rfl
@[simp] theorem modSo_onyx (o : Fin 32) (f : SafeOut → SafeOut) (s : State) : (modSo o f s).onyx = s.onyx := rfl
@[simp] theorem modSo_efi (o : Fin 32) (f : SafeOut → SafeOut) (s : State) : (modSo o f s).efi = s.efi := rfl
@[simp] theorem modSo_aux (o : Fin 32) (f : SafeOut → SafeOut) (s : State) : (modSo o f s).aux = s.aux := rfl
@[simp] theorem modSo_slk (o : Fin 32) (f : SafeOut → SafeOut) (s : State) : (modSo o f s).slk = s.slk := rfl
@[simp] theorem modSo_nfc (o : Fin 32) (f : SafeOut → SafeOut) (s : State) : (modSo o f s).nfc = s.nfc := rfl
@[simp] theorem modSo_dsp (o : Fin 32) (f : SafeOut → SafeOut) (s : State) : (modSo o f s).dsp = s.dsp := rfl
@[simp] theorem modSo_flt (o : Fin 32) (f : SafeOut → SafeOut) (s : State) : (modSo o f s).flt = s.flt := rfl
@[simp] theorem modSo_upd (o : Fin 32) (f : SafeOut → SafeOut) (s : State) : (modSo o f s).upd = s.upd := rfl
@[simp] theorem modSo_pget (o : Fin 32) (f : SafeOut → SafeOut) (s : State) (id' inst : Nat) : pget (modSo o f s) id' inst = pget s id' inst := rfl
@[simp] theorem modSo_pbool (o : Fin 32) (f : SafeOut → SafeOut) (s : State) (id' inst : Nat) : pbool (modSo o f s) id' inst = pbool s id' inst := rfl

/-! ### modCd -/

@[simp] theorem modCd_garnet (c : Fin 2) (f : CdSt → CdSt) (s : State) : (modCd c f s).garnet = { s.garnet with cds := upd s.garnet.cds c f } := rfl
@[simp] theorem modCd_pending (c : Fin 2) (f : CdSt → CdSt) (s : State) : (modCd c f s).pending = s.pending := rfl
@[simp] theorem modCd_frame (c : Fin 2) (f : CdSt → CdSt) (s : State) : (modCd c f s).frame = s.frame := rfl
@[simp] theorem modCd_params (c : Fin 2) (f : CdSt → CdSt) (s : State) : (modCd c f s).params = s.params := rfl
@[simp] theorem modCd_persisted (c : Fin 2) (f : CdSt → CdSt) (s : State) : (modCd c f s).persisted = s.persisted := rfl
@[simp] theorem modCd_queues (c : Fin 2) (f : CdSt → CdSt) (s : State) : (modCd c f s).queues = s.queues := rfl
@[simp] theorem modCd_due (c : Fin 2) (f : CdSt → CdSt) (s : State) : (modCd c f s).due = s.due := rfl
@[simp] theorem modCd_outbox (c : Fin 2) (f : CdSt → CdSt) (s : State) : (modCd c f s).outbox = s.outbox := rfl
@[simp] theorem modCd_rnd (c : Fin 2) (f : CdSt → CdSt) (s : State) : (modCd c f s).rnd = s.rnd := rfl
@[simp] theorem modCd_sys (c : Fin 2) (f : CdSt → CdSt) (s : State) : (modCd c f s).sys = s.sys := rfl
@[simp] theorem modCd_beryl (c : Fin 2) (f : CdSt → CdSt) (s : State) : (modCd c f s).beryl = s.beryl := rfl
@[simp] theorem modCd_link (c : Fin 2) (f : CdSt → CdSt) (s : State) : (modCd c f s).link = s.link := rfl
@[simp] theorem modCd_txn (c : Fin 2) (f : CdSt → CdSt) (s : State) : (modCd c f s).txn = s.txn := rfl
@[simp] theorem modCd_outlets (c : Fin 2) (f : CdSt → CdSt) (s : State) : (modCd c f s).outlets = s.outlets := rfl
@[simp] theorem modCd_pool (c : Fin 2) (f : CdSt → CdSt) (s : State) : (modCd c f s).pool = s.pool := rfl
@[simp] theorem modCd_vlk (c : Fin 2) (f : CdSt → CdSt) (s : State) : (modCd c f s).vlk = s.vlk := rfl
@[simp] theorem modCd_mtr (c : Fin 2) (f : CdSt → CdSt) (s : State) : (modCd c f s).mtr = s.mtr := rfl
@[simp] theorem modCd_onyx (c : Fin 2) (f : CdSt → CdSt) (s : State) : (modCd c f s).onyx = s.onyx := rfl
@[simp] theorem modCd_efi (c : Fin 2) (f : CdSt → CdSt) (s : State) : (modCd c f s).efi = s.efi := rfl
@[simp] theorem modCd_aux (c : Fin 2) (f : CdSt → CdSt) (s : State) : (modCd c f s).aux = s.aux := rfl
@[simp] theorem modCd_slk (c : Fin 2) (f : CdSt → CdSt) (s : State) : (modCd c f s).slk = s.slk := rfl
@[simp] theorem modCd_nfc (c : Fin 2) (f : CdSt → CdSt) (s : State) : (modCd c f s).nfc = s.nfc := rfl
@[simp] theorem modCd_dsp (c : Fin 2) (f : CdSt → CdSt) (s : State) : (modCd c f s).dsp = s.dsp := rfl
@[simp] theorem modCd_flt (c : Fin 2) (f : CdSt → CdSt) (s : State) : (modCd c f s).flt = s.flt := rfl
@[simp] theorem modCd_upd (c : Fin 2) (f : CdSt → CdSt) (s : State) : (modCd c f s).upd = s.upd := rfl
@[simp] theorem modCd_pget (c : Fin 2) (f : CdSt → CdSt) (s : State) (id' inst : Nat) : pget (modCd c f s) id' inst = pget s id' inst := rfl
@[simp] theorem modCd_pbool (c : Fin 2) (f : CdSt → CdSt) (s : State) (id' inst : Nat) : pbool (modCd c f s) id' inst = pbool s id' inst := rfl

/-! ### evNext -/

@[simp] theorem evNext_garnet (id dom detail arg : Nat) (s : State) : (evNext id dom detail arg s).garnet = { s.garnet with evNext := s.garnet.evNext ++ [(id, dom, detail, arg)] } := rfl
@[simp] theorem evNext_pending (id dom detail arg : Nat) (s : State) : (evNext id dom detail arg s).pending = s.pending := rfl
@[simp] theorem evNext_frame (id dom detail arg : Nat) (s : State) : (evNext id dom detail arg s).frame = s.frame := rfl
@[simp] theorem evNext_params (id dom detail arg : Nat) (s : State) : (evNext id dom detail arg s).params = s.params := rfl
@[simp] theorem evNext_persisted (id dom detail arg : Nat) (s : State) : (evNext id dom detail arg s).persisted = s.persisted := rfl
@[simp] theorem evNext_queues (id dom detail arg : Nat) (s : State) : (evNext id dom detail arg s).queues = s.queues := rfl
@[simp] theorem evNext_due (id dom detail arg : Nat) (s : State) : (evNext id dom detail arg s).due = s.due := rfl
@[simp] theorem evNext_outbox (id dom detail arg : Nat) (s : State) : (evNext id dom detail arg s).outbox = s.outbox := rfl
@[simp] theorem evNext_rnd (id dom detail arg : Nat) (s : State) : (evNext id dom detail arg s).rnd = s.rnd := rfl
@[simp] theorem evNext_sys (id dom detail arg : Nat) (s : State) : (evNext id dom detail arg s).sys = s.sys := rfl
@[simp] theorem evNext_beryl (id dom detail arg : Nat) (s : State) : (evNext id dom detail arg s).beryl = s.beryl := rfl
@[simp] theorem evNext_link (id dom detail arg : Nat) (s : State) : (evNext id dom detail arg s).link = s.link := rfl
@[simp] theorem evNext_txn (id dom detail arg : Nat) (s : State) : (evNext id dom detail arg s).txn = s.txn := rfl
@[simp] theorem evNext_outlets (id dom detail arg : Nat) (s : State) : (evNext id dom detail arg s).outlets = s.outlets := rfl
@[simp] theorem evNext_pool (id dom detail arg : Nat) (s : State) : (evNext id dom detail arg s).pool = s.pool := rfl
@[simp] theorem evNext_vlk (id dom detail arg : Nat) (s : State) : (evNext id dom detail arg s).vlk = s.vlk := rfl
@[simp] theorem evNext_mtr (id dom detail arg : Nat) (s : State) : (evNext id dom detail arg s).mtr = s.mtr := rfl
@[simp] theorem evNext_onyx (id dom detail arg : Nat) (s : State) : (evNext id dom detail arg s).onyx = s.onyx := rfl
@[simp] theorem evNext_efi (id dom detail arg : Nat) (s : State) : (evNext id dom detail arg s).efi = s.efi := rfl
@[simp] theorem evNext_aux (id dom detail arg : Nat) (s : State) : (evNext id dom detail arg s).aux = s.aux := rfl
@[simp] theorem evNext_slk (id dom detail arg : Nat) (s : State) : (evNext id dom detail arg s).slk = s.slk := rfl
@[simp] theorem evNext_nfc (id dom detail arg : Nat) (s : State) : (evNext id dom detail arg s).nfc = s.nfc := rfl
@[simp] theorem evNext_dsp (id dom detail arg : Nat) (s : State) : (evNext id dom detail arg s).dsp = s.dsp := rfl
@[simp] theorem evNext_flt (id dom detail arg : Nat) (s : State) : (evNext id dom detail arg s).flt = s.flt := rfl
@[simp] theorem evNext_upd (id dom detail arg : Nat) (s : State) : (evNext id dom detail arg s).upd = s.upd := rfl
@[simp] theorem evNext_pget (id dom detail arg : Nat) (s : State) (id' inst : Nat) : pget (evNext id dom detail arg s) id' inst = pget s id' inst := rfl
@[simp] theorem evNext_pbool (id dom detail arg : Nat) (s : State) (id' inst : Nat) : pbool (evNext id dom detail arg s) id' inst = pbool s id' inst := rfl

/-! ### modAux -/

@[simp] theorem modAux_aux (n : Fin 12) (f : AuxCh → AuxCh) (s : State) : (modAux n f s).aux = { s.aux with ch := upd s.aux.ch n f } := rfl
@[simp] theorem modAux_pending (n : Fin 12) (f : AuxCh → AuxCh) (s : State) : (modAux n f s).pending = s.pending := rfl
@[simp] theorem modAux_frame (n : Fin 12) (f : AuxCh → AuxCh) (s : State) : (modAux n f s).frame = s.frame := rfl
@[simp] theorem modAux_params (n : Fin 12) (f : AuxCh → AuxCh) (s : State) : (modAux n f s).params = s.params := rfl
@[simp] theorem modAux_persisted (n : Fin 12) (f : AuxCh → AuxCh) (s : State) : (modAux n f s).persisted = s.persisted := rfl
@[simp] theorem modAux_queues (n : Fin 12) (f : AuxCh → AuxCh) (s : State) : (modAux n f s).queues = s.queues := rfl
@[simp] theorem modAux_due (n : Fin 12) (f : AuxCh → AuxCh) (s : State) : (modAux n f s).due = s.due := rfl
@[simp] theorem modAux_outbox (n : Fin 12) (f : AuxCh → AuxCh) (s : State) : (modAux n f s).outbox = s.outbox := rfl
@[simp] theorem modAux_rnd (n : Fin 12) (f : AuxCh → AuxCh) (s : State) : (modAux n f s).rnd = s.rnd := rfl
@[simp] theorem modAux_sys (n : Fin 12) (f : AuxCh → AuxCh) (s : State) : (modAux n f s).sys = s.sys := rfl
@[simp] theorem modAux_beryl (n : Fin 12) (f : AuxCh → AuxCh) (s : State) : (modAux n f s).beryl = s.beryl := rfl
@[simp] theorem modAux_link (n : Fin 12) (f : AuxCh → AuxCh) (s : State) : (modAux n f s).link = s.link := rfl
@[simp] theorem modAux_txn (n : Fin 12) (f : AuxCh → AuxCh) (s : State) : (modAux n f s).txn = s.txn := rfl
@[simp] theorem modAux_outlets (n : Fin 12) (f : AuxCh → AuxCh) (s : State) : (modAux n f s).outlets = s.outlets := rfl
@[simp] theorem modAux_pool (n : Fin 12) (f : AuxCh → AuxCh) (s : State) : (modAux n f s).pool = s.pool := rfl
@[simp] theorem modAux_vlk (n : Fin 12) (f : AuxCh → AuxCh) (s : State) : (modAux n f s).vlk = s.vlk := rfl
@[simp] theorem modAux_mtr (n : Fin 12) (f : AuxCh → AuxCh) (s : State) : (modAux n f s).mtr = s.mtr := rfl
@[simp] theorem modAux_onyx (n : Fin 12) (f : AuxCh → AuxCh) (s : State) : (modAux n f s).onyx = s.onyx := rfl
@[simp] theorem modAux_efi (n : Fin 12) (f : AuxCh → AuxCh) (s : State) : (modAux n f s).efi = s.efi := rfl
@[simp] theorem modAux_garnet (n : Fin 12) (f : AuxCh → AuxCh) (s : State) : (modAux n f s).garnet = s.garnet := rfl
@[simp] theorem modAux_slk (n : Fin 12) (f : AuxCh → AuxCh) (s : State) : (modAux n f s).slk = s.slk := rfl
@[simp] theorem modAux_nfc (n : Fin 12) (f : AuxCh → AuxCh) (s : State) : (modAux n f s).nfc = s.nfc := rfl
@[simp] theorem modAux_dsp (n : Fin 12) (f : AuxCh → AuxCh) (s : State) : (modAux n f s).dsp = s.dsp := rfl
@[simp] theorem modAux_flt (n : Fin 12) (f : AuxCh → AuxCh) (s : State) : (modAux n f s).flt = s.flt := rfl
@[simp] theorem modAux_upd (n : Fin 12) (f : AuxCh → AuxCh) (s : State) : (modAux n f s).upd = s.upd := rfl
@[simp] theorem modAux_pget (n : Fin 12) (f : AuxCh → AuxCh) (s : State) (id' inst : Nat) : pget (modAux n f s) id' inst = pget s id' inst := rfl
@[simp] theorem modAux_pbool (n : Fin 12) (f : AuxCh → AuxCh) (s : State) (id' inst : Nat) : pbool (modAux n f s) id' inst = pbool s id' inst := rfl

/-! ### modSlk -/

@[simp] theorem modSlk_slk (f : SlkSt → SlkSt) (s : State) : (modSlk f s).slk = f s.slk := rfl
@[simp] theorem modSlk_pending (f : SlkSt → SlkSt) (s : State) : (modSlk f s).pending = s.pending := rfl
@[simp] theorem modSlk_frame (f : SlkSt → SlkSt) (s : State) : (modSlk f s).frame = s.frame := rfl
@[simp] theorem modSlk_params (f : SlkSt → SlkSt) (s : State) : (modSlk f s).params = s.params := rfl
@[simp] theorem modSlk_persisted (f : SlkSt → SlkSt) (s : State) : (modSlk f s).persisted = s.persisted := rfl
@[simp] theorem modSlk_queues (f : SlkSt → SlkSt) (s : State) : (modSlk f s).queues = s.queues := rfl
@[simp] theorem modSlk_due (f : SlkSt → SlkSt) (s : State) : (modSlk f s).due = s.due := rfl
@[simp] theorem modSlk_outbox (f : SlkSt → SlkSt) (s : State) : (modSlk f s).outbox = s.outbox := rfl
@[simp] theorem modSlk_rnd (f : SlkSt → SlkSt) (s : State) : (modSlk f s).rnd = s.rnd := rfl
@[simp] theorem modSlk_sys (f : SlkSt → SlkSt) (s : State) : (modSlk f s).sys = s.sys := rfl
@[simp] theorem modSlk_beryl (f : SlkSt → SlkSt) (s : State) : (modSlk f s).beryl = s.beryl := rfl
@[simp] theorem modSlk_link (f : SlkSt → SlkSt) (s : State) : (modSlk f s).link = s.link := rfl
@[simp] theorem modSlk_txn (f : SlkSt → SlkSt) (s : State) : (modSlk f s).txn = s.txn := rfl
@[simp] theorem modSlk_outlets (f : SlkSt → SlkSt) (s : State) : (modSlk f s).outlets = s.outlets := rfl
@[simp] theorem modSlk_pool (f : SlkSt → SlkSt) (s : State) : (modSlk f s).pool = s.pool := rfl
@[simp] theorem modSlk_vlk (f : SlkSt → SlkSt) (s : State) : (modSlk f s).vlk = s.vlk := rfl
@[simp] theorem modSlk_mtr (f : SlkSt → SlkSt) (s : State) : (modSlk f s).mtr = s.mtr := rfl
@[simp] theorem modSlk_onyx (f : SlkSt → SlkSt) (s : State) : (modSlk f s).onyx = s.onyx := rfl
@[simp] theorem modSlk_efi (f : SlkSt → SlkSt) (s : State) : (modSlk f s).efi = s.efi := rfl
@[simp] theorem modSlk_garnet (f : SlkSt → SlkSt) (s : State) : (modSlk f s).garnet = s.garnet := rfl
@[simp] theorem modSlk_aux (f : SlkSt → SlkSt) (s : State) : (modSlk f s).aux = s.aux := rfl
@[simp] theorem modSlk_nfc (f : SlkSt → SlkSt) (s : State) : (modSlk f s).nfc = s.nfc := rfl
@[simp] theorem modSlk_dsp (f : SlkSt → SlkSt) (s : State) : (modSlk f s).dsp = s.dsp := rfl
@[simp] theorem modSlk_flt (f : SlkSt → SlkSt) (s : State) : (modSlk f s).flt = s.flt := rfl
@[simp] theorem modSlk_upd (f : SlkSt → SlkSt) (s : State) : (modSlk f s).upd = s.upd := rfl
@[simp] theorem modSlk_pget (f : SlkSt → SlkSt) (s : State) (id' inst : Nat) : pget (modSlk f s) id' inst = pget s id' inst := rfl
@[simp] theorem modSlk_pbool (f : SlkSt → SlkSt) (s : State) (id' inst : Nat) : pbool (modSlk f s) id' inst = pbool s id' inst := rfl

/-! ### modNfc -/

@[simp] theorem modNfc_nfc (f : NfcSt → NfcSt) (s : State) : (modNfc f s).nfc = f s.nfc := rfl
@[simp] theorem modNfc_pending (f : NfcSt → NfcSt) (s : State) : (modNfc f s).pending = s.pending := rfl
@[simp] theorem modNfc_frame (f : NfcSt → NfcSt) (s : State) : (modNfc f s).frame = s.frame := rfl
@[simp] theorem modNfc_params (f : NfcSt → NfcSt) (s : State) : (modNfc f s).params = s.params := rfl
@[simp] theorem modNfc_persisted (f : NfcSt → NfcSt) (s : State) : (modNfc f s).persisted = s.persisted := rfl
@[simp] theorem modNfc_queues (f : NfcSt → NfcSt) (s : State) : (modNfc f s).queues = s.queues := rfl
@[simp] theorem modNfc_due (f : NfcSt → NfcSt) (s : State) : (modNfc f s).due = s.due := rfl
@[simp] theorem modNfc_outbox (f : NfcSt → NfcSt) (s : State) : (modNfc f s).outbox = s.outbox := rfl
@[simp] theorem modNfc_rnd (f : NfcSt → NfcSt) (s : State) : (modNfc f s).rnd = s.rnd := rfl
@[simp] theorem modNfc_sys (f : NfcSt → NfcSt) (s : State) : (modNfc f s).sys = s.sys := rfl
@[simp] theorem modNfc_beryl (f : NfcSt → NfcSt) (s : State) : (modNfc f s).beryl = s.beryl := rfl
@[simp] theorem modNfc_link (f : NfcSt → NfcSt) (s : State) : (modNfc f s).link = s.link := rfl
@[simp] theorem modNfc_txn (f : NfcSt → NfcSt) (s : State) : (modNfc f s).txn = s.txn := rfl
@[simp] theorem modNfc_outlets (f : NfcSt → NfcSt) (s : State) : (modNfc f s).outlets = s.outlets := rfl
@[simp] theorem modNfc_pool (f : NfcSt → NfcSt) (s : State) : (modNfc f s).pool = s.pool := rfl
@[simp] theorem modNfc_vlk (f : NfcSt → NfcSt) (s : State) : (modNfc f s).vlk = s.vlk := rfl
@[simp] theorem modNfc_mtr (f : NfcSt → NfcSt) (s : State) : (modNfc f s).mtr = s.mtr := rfl
@[simp] theorem modNfc_onyx (f : NfcSt → NfcSt) (s : State) : (modNfc f s).onyx = s.onyx := rfl
@[simp] theorem modNfc_efi (f : NfcSt → NfcSt) (s : State) : (modNfc f s).efi = s.efi := rfl
@[simp] theorem modNfc_garnet (f : NfcSt → NfcSt) (s : State) : (modNfc f s).garnet = s.garnet := rfl
@[simp] theorem modNfc_aux (f : NfcSt → NfcSt) (s : State) : (modNfc f s).aux = s.aux := rfl
@[simp] theorem modNfc_slk (f : NfcSt → NfcSt) (s : State) : (modNfc f s).slk = s.slk := rfl
@[simp] theorem modNfc_dsp (f : NfcSt → NfcSt) (s : State) : (modNfc f s).dsp = s.dsp := rfl
@[simp] theorem modNfc_flt (f : NfcSt → NfcSt) (s : State) : (modNfc f s).flt = s.flt := rfl
@[simp] theorem modNfc_upd (f : NfcSt → NfcSt) (s : State) : (modNfc f s).upd = s.upd := rfl
@[simp] theorem modNfc_pget (f : NfcSt → NfcSt) (s : State) (id' inst : Nat) : pget (modNfc f s) id' inst = pget s id' inst := rfl
@[simp] theorem modNfc_pbool (f : NfcSt → NfcSt) (s : State) (id' inst : Nat) : pbool (modNfc f s) id' inst = pbool s id' inst := rfl

/-! ### modDsp -/

@[simp] theorem modDsp_dsp (f : DspSt → DspSt) (s : State) : (modDsp f s).dsp = f s.dsp := rfl
@[simp] theorem modDsp_pending (f : DspSt → DspSt) (s : State) : (modDsp f s).pending = s.pending := rfl
@[simp] theorem modDsp_frame (f : DspSt → DspSt) (s : State) : (modDsp f s).frame = s.frame := rfl
@[simp] theorem modDsp_params (f : DspSt → DspSt) (s : State) : (modDsp f s).params = s.params := rfl
@[simp] theorem modDsp_persisted (f : DspSt → DspSt) (s : State) : (modDsp f s).persisted = s.persisted := rfl
@[simp] theorem modDsp_queues (f : DspSt → DspSt) (s : State) : (modDsp f s).queues = s.queues := rfl
@[simp] theorem modDsp_due (f : DspSt → DspSt) (s : State) : (modDsp f s).due = s.due := rfl
@[simp] theorem modDsp_outbox (f : DspSt → DspSt) (s : State) : (modDsp f s).outbox = s.outbox := rfl
@[simp] theorem modDsp_rnd (f : DspSt → DspSt) (s : State) : (modDsp f s).rnd = s.rnd := rfl
@[simp] theorem modDsp_sys (f : DspSt → DspSt) (s : State) : (modDsp f s).sys = s.sys := rfl
@[simp] theorem modDsp_beryl (f : DspSt → DspSt) (s : State) : (modDsp f s).beryl = s.beryl := rfl
@[simp] theorem modDsp_link (f : DspSt → DspSt) (s : State) : (modDsp f s).link = s.link := rfl
@[simp] theorem modDsp_txn (f : DspSt → DspSt) (s : State) : (modDsp f s).txn = s.txn := rfl
@[simp] theorem modDsp_outlets (f : DspSt → DspSt) (s : State) : (modDsp f s).outlets = s.outlets := rfl
@[simp] theorem modDsp_pool (f : DspSt → DspSt) (s : State) : (modDsp f s).pool = s.pool := rfl
@[simp] theorem modDsp_vlk (f : DspSt → DspSt) (s : State) : (modDsp f s).vlk = s.vlk := rfl
@[simp] theorem modDsp_mtr (f : DspSt → DspSt) (s : State) : (modDsp f s).mtr = s.mtr := rfl
@[simp] theorem modDsp_onyx (f : DspSt → DspSt) (s : State) : (modDsp f s).onyx = s.onyx := rfl
@[simp] theorem modDsp_efi (f : DspSt → DspSt) (s : State) : (modDsp f s).efi = s.efi := rfl
@[simp] theorem modDsp_garnet (f : DspSt → DspSt) (s : State) : (modDsp f s).garnet = s.garnet := rfl
@[simp] theorem modDsp_aux (f : DspSt → DspSt) (s : State) : (modDsp f s).aux = s.aux := rfl
@[simp] theorem modDsp_slk (f : DspSt → DspSt) (s : State) : (modDsp f s).slk = s.slk := rfl
@[simp] theorem modDsp_nfc (f : DspSt → DspSt) (s : State) : (modDsp f s).nfc = s.nfc := rfl
@[simp] theorem modDsp_flt (f : DspSt → DspSt) (s : State) : (modDsp f s).flt = s.flt := rfl
@[simp] theorem modDsp_upd (f : DspSt → DspSt) (s : State) : (modDsp f s).upd = s.upd := rfl
@[simp] theorem modDsp_pget (f : DspSt → DspSt) (s : State) (id' inst : Nat) : pget (modDsp f s) id' inst = pget s id' inst := rfl
@[simp] theorem modDsp_pbool (f : DspSt → DspSt) (s : State) (id' inst : Nat) : pbool (modDsp f s) id' inst = pbool s id' inst := rfl

/-! ### modFlt -/

@[simp] theorem modFlt_flt (f : FltSt → FltSt) (s : State) : (modFlt f s).flt = f s.flt := rfl
@[simp] theorem modFlt_pending (f : FltSt → FltSt) (s : State) : (modFlt f s).pending = s.pending := rfl
@[simp] theorem modFlt_frame (f : FltSt → FltSt) (s : State) : (modFlt f s).frame = s.frame := rfl
@[simp] theorem modFlt_params (f : FltSt → FltSt) (s : State) : (modFlt f s).params = s.params := rfl
@[simp] theorem modFlt_persisted (f : FltSt → FltSt) (s : State) : (modFlt f s).persisted = s.persisted := rfl
@[simp] theorem modFlt_queues (f : FltSt → FltSt) (s : State) : (modFlt f s).queues = s.queues := rfl
@[simp] theorem modFlt_due (f : FltSt → FltSt) (s : State) : (modFlt f s).due = s.due := rfl
@[simp] theorem modFlt_outbox (f : FltSt → FltSt) (s : State) : (modFlt f s).outbox = s.outbox := rfl
@[simp] theorem modFlt_rnd (f : FltSt → FltSt) (s : State) : (modFlt f s).rnd = s.rnd := rfl
@[simp] theorem modFlt_sys (f : FltSt → FltSt) (s : State) : (modFlt f s).sys = s.sys := rfl
@[simp] theorem modFlt_beryl (f : FltSt → FltSt) (s : State) : (modFlt f s).beryl = s.beryl := rfl
@[simp] theorem modFlt_link (f : FltSt → FltSt) (s : State) : (modFlt f s).link = s.link := rfl
@[simp] theorem modFlt_txn (f : FltSt → FltSt) (s : State) : (modFlt f s).txn = s.txn := rfl
@[simp] theorem modFlt_outlets (f : FltSt → FltSt) (s : State) : (modFlt f s).outlets = s.outlets := rfl
@[simp] theorem modFlt_pool (f : FltSt → FltSt) (s : State) : (modFlt f s).pool = s.pool := rfl
@[simp] theorem modFlt_vlk (f : FltSt → FltSt) (s : State) : (modFlt f s).vlk = s.vlk := rfl
@[simp] theorem modFlt_mtr (f : FltSt → FltSt) (s : State) : (modFlt f s).mtr = s.mtr := rfl
@[simp] theorem modFlt_onyx (f : FltSt → FltSt) (s : State) : (modFlt f s).onyx = s.onyx := rfl
@[simp] theorem modFlt_efi (f : FltSt → FltSt) (s : State) : (modFlt f s).efi = s.efi := rfl
@[simp] theorem modFlt_garnet (f : FltSt → FltSt) (s : State) : (modFlt f s).garnet = s.garnet := rfl
@[simp] theorem modFlt_aux (f : FltSt → FltSt) (s : State) : (modFlt f s).aux = s.aux := rfl
@[simp] theorem modFlt_slk (f : FltSt → FltSt) (s : State) : (modFlt f s).slk = s.slk := rfl
@[simp] theorem modFlt_nfc (f : FltSt → FltSt) (s : State) : (modFlt f s).nfc = s.nfc := rfl
@[simp] theorem modFlt_dsp (f : FltSt → FltSt) (s : State) : (modFlt f s).dsp = s.dsp := rfl
@[simp] theorem modFlt_upd (f : FltSt → FltSt) (s : State) : (modFlt f s).upd = s.upd := rfl
@[simp] theorem modFlt_pget (f : FltSt → FltSt) (s : State) (id' inst : Nat) : pget (modFlt f s) id' inst = pget s id' inst := rfl
@[simp] theorem modFlt_pbool (f : FltSt → FltSt) (s : State) (id' inst : Nat) : pbool (modFlt f s) id' inst = pbool s id' inst := rfl

/-! ### modDomain -/

@[simp] theorem modDomain_flt (d : Fin 12) (f : Domain → Domain) (s : State) : (modDomain d f s).flt = { s.flt with domains := upd s.flt.domains d f } := rfl
@[simp] theorem modDomain_pending (d : Fin 12) (f : Domain → Domain) (s : State) : (modDomain d f s).pending = s.pending := rfl
@[simp] theorem modDomain_frame (d : Fin 12) (f : Domain → Domain) (s : State) : (modDomain d f s).frame = s.frame := rfl
@[simp] theorem modDomain_params (d : Fin 12) (f : Domain → Domain) (s : State) : (modDomain d f s).params = s.params := rfl
@[simp] theorem modDomain_persisted (d : Fin 12) (f : Domain → Domain) (s : State) : (modDomain d f s).persisted = s.persisted := rfl
@[simp] theorem modDomain_queues (d : Fin 12) (f : Domain → Domain) (s : State) : (modDomain d f s).queues = s.queues := rfl
@[simp] theorem modDomain_due (d : Fin 12) (f : Domain → Domain) (s : State) : (modDomain d f s).due = s.due := rfl
@[simp] theorem modDomain_outbox (d : Fin 12) (f : Domain → Domain) (s : State) : (modDomain d f s).outbox = s.outbox := rfl
@[simp] theorem modDomain_rnd (d : Fin 12) (f : Domain → Domain) (s : State) : (modDomain d f s).rnd = s.rnd := rfl
@[simp] theorem modDomain_sys (d : Fin 12) (f : Domain → Domain) (s : State) : (modDomain d f s).sys = s.sys := rfl
@[simp] theorem modDomain_beryl (d : Fin 12) (f : Domain → Domain) (s : State) : (modDomain d f s).beryl = s.beryl := rfl
@[simp] theorem modDomain_link (d : Fin 12) (f : Domain → Domain) (s : State) : (modDomain d f s).link = s.link := rfl
@[simp] theorem modDomain_txn (d : Fin 12) (f : Domain → Domain) (s : State) : (modDomain d f s).txn = s.txn := rfl
@[simp] theorem modDomain_outlets (d : Fin 12) (f : Domain → Domain) (s : State) : (modDomain d f s).outlets = s.outlets := rfl
@[simp] theorem modDomain_pool (d : Fin 12) (f : Domain → Domain) (s : State) : (modDomain d f s).pool = s.pool := rfl
@[simp] theorem modDomain_vlk (d : Fin 12) (f : Domain → Domain) (s : State) : (modDomain d f s).vlk = s.vlk := rfl
@[simp] theorem modDomain_mtr (d : Fin 12) (f : Domain → Domain) (s : State) : (modDomain d f s).mtr = s.mtr := rfl
@[simp] theorem modDomain_onyx (d : Fin 12) (f : Domain → Domain) (s : State) : (modDomain d f s).onyx = s.onyx := rfl
@[simp] theorem modDomain_efi (d : Fin 12) (f : Domain → Domain) (s : State) : (modDomain d f s).efi = s.efi := rfl
@[simp] theorem modDomain_garnet (d : Fin 12) (f : Domain → Domain) (s : State) : (modDomain d f s).garnet = s.garnet := rfl
@[simp] theorem modDomain_aux (d : Fin 12) (f : Domain → Domain) (s : State) : (modDomain d f s).aux = s.aux := rfl
@[simp] theorem modDomain_slk (d : Fin 12) (f : Domain → Domain) (s : State) : (modDomain d f s).slk = s.slk := rfl
@[simp] theorem modDomain_nfc (d : Fin 12) (f : Domain → Domain) (s : State) : (modDomain d f s).nfc = s.nfc := rfl
@[simp] theorem modDomain_dsp (d : Fin 12) (f : Domain → Domain) (s : State) : (modDomain d f s).dsp = s.dsp := rfl
@[simp] theorem modDomain_upd (d : Fin 12) (f : Domain → Domain) (s : State) : (modDomain d f s).upd = s.upd := rfl
@[simp] theorem modDomain_pget (d : Fin 12) (f : Domain → Domain) (s : State) (id' inst : Nat) : pget (modDomain d f s) id' inst = pget s id' inst := rfl
@[simp] theorem modDomain_pbool (d : Fin 12) (f : Domain → Domain) (s : State) (id' inst : Nat) : pbool (modDomain d f s) id' inst = pbool s id' inst := rfl

/-! ### modUpd -/

@[simp] theorem modUpd_upd (f : UpdSt → UpdSt) (s : State) : (modUpd f s).upd = f s.upd := rfl
@[simp] theorem modUpd_pending (f : UpdSt → UpdSt) (s : State) : (modUpd f s).pending = s.pending := rfl
@[simp] theorem modUpd_frame (f : UpdSt → UpdSt) (s : State) : (modUpd f s).frame = s.frame := rfl
@[simp] theorem modUpd_params (f : UpdSt → UpdSt) (s : State) : (modUpd f s).params = s.params := rfl
@[simp] theorem modUpd_persisted (f : UpdSt → UpdSt) (s : State) : (modUpd f s).persisted = s.persisted := rfl
@[simp] theorem modUpd_queues (f : UpdSt → UpdSt) (s : State) : (modUpd f s).queues = s.queues := rfl
@[simp] theorem modUpd_due (f : UpdSt → UpdSt) (s : State) : (modUpd f s).due = s.due := rfl
@[simp] theorem modUpd_outbox (f : UpdSt → UpdSt) (s : State) : (modUpd f s).outbox = s.outbox := rfl
@[simp] theorem modUpd_rnd (f : UpdSt → UpdSt) (s : State) : (modUpd f s).rnd = s.rnd := rfl
@[simp] theorem modUpd_sys (f : UpdSt → UpdSt) (s : State) : (modUpd f s).sys = s.sys := rfl
@[simp] theorem modUpd_beryl (f : UpdSt → UpdSt) (s : State) : (modUpd f s).beryl = s.beryl := rfl
@[simp] theorem modUpd_link (f : UpdSt → UpdSt) (s : State) : (modUpd f s).link = s.link := rfl
@[simp] theorem modUpd_txn (f : UpdSt → UpdSt) (s : State) : (modUpd f s).txn = s.txn := rfl
@[simp] theorem modUpd_outlets (f : UpdSt → UpdSt) (s : State) : (modUpd f s).outlets = s.outlets := rfl
@[simp] theorem modUpd_pool (f : UpdSt → UpdSt) (s : State) : (modUpd f s).pool = s.pool := rfl
@[simp] theorem modUpd_vlk (f : UpdSt → UpdSt) (s : State) : (modUpd f s).vlk = s.vlk := rfl
@[simp] theorem modUpd_mtr (f : UpdSt → UpdSt) (s : State) : (modUpd f s).mtr = s.mtr := rfl
@[simp] theorem modUpd_onyx (f : UpdSt → UpdSt) (s : State) : (modUpd f s).onyx = s.onyx := rfl
@[simp] theorem modUpd_efi (f : UpdSt → UpdSt) (s : State) : (modUpd f s).efi = s.efi := rfl
@[simp] theorem modUpd_garnet (f : UpdSt → UpdSt) (s : State) : (modUpd f s).garnet = s.garnet := rfl
@[simp] theorem modUpd_aux (f : UpdSt → UpdSt) (s : State) : (modUpd f s).aux = s.aux := rfl
@[simp] theorem modUpd_slk (f : UpdSt → UpdSt) (s : State) : (modUpd f s).slk = s.slk := rfl
@[simp] theorem modUpd_nfc (f : UpdSt → UpdSt) (s : State) : (modUpd f s).nfc = s.nfc := rfl
@[simp] theorem modUpd_dsp (f : UpdSt → UpdSt) (s : State) : (modUpd f s).dsp = s.dsp := rfl
@[simp] theorem modUpd_flt (f : UpdSt → UpdSt) (s : State) : (modUpd f s).flt = s.flt := rfl
@[simp] theorem modUpd_pget (f : UpdSt → UpdSt) (s : State) (id' inst : Nat) : pget (modUpd f s) id' inst = pget s id' inst := rfl
@[simp] theorem modUpd_pbool (f : UpdSt → UpdSt) (s : State) (id' inst : Nat) : pbool (modUpd f s) id' inst = pbool s id' inst := rfl

/-! ### modRegion -/

@[simp] theorem modRegion_upd (r : Fin 2) (f : Region → Region) (s : State) : (modRegion r f s).upd = { s.upd with regions := upd s.upd.regions r f } := rfl
@[simp] theorem modRegion_pending (r : Fin 2) (f : Region → Region) (s : State) : (modRegion r f s).pending = s.pending := rfl
@[simp] theorem modRegion_frame (r : Fin 2) (f : Region → Region) (s : State) : (modRegion r f s).frame = s.frame := rfl
@[simp] theorem modRegion_params (r : Fin 2) (f : Region → Region) (s : State) : (modRegion r f s).params = s.params := rfl
@[simp] theorem modRegion_persisted (r : Fin 2) (f : Region → Region) (s : State) : (modRegion r f s).persisted = s.persisted := rfl
@[simp] theorem modRegion_queues (r : Fin 2) (f : Region → Region) (s : State) : (modRegion r f s).queues = s.queues := rfl
@[simp] theorem modRegion_due (r : Fin 2) (f : Region → Region) (s : State) : (modRegion r f s).due = s.due := rfl
@[simp] theorem modRegion_outbox (r : Fin 2) (f : Region → Region) (s : State) : (modRegion r f s).outbox = s.outbox := rfl
@[simp] theorem modRegion_rnd (r : Fin 2) (f : Region → Region) (s : State) : (modRegion r f s).rnd = s.rnd := rfl
@[simp] theorem modRegion_sys (r : Fin 2) (f : Region → Region) (s : State) : (modRegion r f s).sys = s.sys := rfl
@[simp] theorem modRegion_beryl (r : Fin 2) (f : Region → Region) (s : State) : (modRegion r f s).beryl = s.beryl := rfl
@[simp] theorem modRegion_link (r : Fin 2) (f : Region → Region) (s : State) : (modRegion r f s).link = s.link := rfl
@[simp] theorem modRegion_txn (r : Fin 2) (f : Region → Region) (s : State) : (modRegion r f s).txn = s.txn := rfl
@[simp] theorem modRegion_outlets (r : Fin 2) (f : Region → Region) (s : State) : (modRegion r f s).outlets = s.outlets := rfl
@[simp] theorem modRegion_pool (r : Fin 2) (f : Region → Region) (s : State) : (modRegion r f s).pool = s.pool := rfl
@[simp] theorem modRegion_vlk (r : Fin 2) (f : Region → Region) (s : State) : (modRegion r f s).vlk = s.vlk := rfl
@[simp] theorem modRegion_mtr (r : Fin 2) (f : Region → Region) (s : State) : (modRegion r f s).mtr = s.mtr := rfl
@[simp] theorem modRegion_onyx (r : Fin 2) (f : Region → Region) (s : State) : (modRegion r f s).onyx = s.onyx := rfl
@[simp] theorem modRegion_efi (r : Fin 2) (f : Region → Region) (s : State) : (modRegion r f s).efi = s.efi := rfl
@[simp] theorem modRegion_garnet (r : Fin 2) (f : Region → Region) (s : State) : (modRegion r f s).garnet = s.garnet := rfl
@[simp] theorem modRegion_aux (r : Fin 2) (f : Region → Region) (s : State) : (modRegion r f s).aux = s.aux := rfl
@[simp] theorem modRegion_slk (r : Fin 2) (f : Region → Region) (s : State) : (modRegion r f s).slk = s.slk := rfl
@[simp] theorem modRegion_nfc (r : Fin 2) (f : Region → Region) (s : State) : (modRegion r f s).nfc = s.nfc := rfl
@[simp] theorem modRegion_dsp (r : Fin 2) (f : Region → Region) (s : State) : (modRegion r f s).dsp = s.dsp := rfl
@[simp] theorem modRegion_flt (r : Fin 2) (f : Region → Region) (s : State) : (modRegion r f s).flt = s.flt := rfl
@[simp] theorem modRegion_pget (r : Fin 2) (f : Region → Region) (s : State) (id' inst : Nat) : pget (modRegion r f s) id' inst = pget s id' inst := rfl
@[simp] theorem modRegion_pbool (r : Fin 2) (f : Region → Region) (s : State) (id' inst : Nat) : pbool (modRegion r f s) id' inst = pbool s id' inst := rfl

/-! ### modLink -/

@[simp] theorem modLink_link (f : LinkSt → LinkSt) (s : State) : (modLink f s).link = f s.link := rfl
@[simp] theorem modLink_pending (f : LinkSt → LinkSt) (s : State) : (modLink f s).pending = s.pending := rfl
@[simp] theorem modLink_frame (f : LinkSt → LinkSt) (s : State) : (modLink f s).frame = s.frame := rfl
@[simp] theorem modLink_params (f : LinkSt → LinkSt) (s : State) : (modLink f s).params = s.params := rfl
@[simp] theorem modLink_persisted (f : LinkSt → LinkSt) (s : State) : (modLink f s).persisted = s.persisted := rfl
@[simp] theorem modLink_queues (f : LinkSt → LinkSt) (s : State) : (modLink f s).queues = s.queues := rfl
@[simp] theorem modLink_due (f : LinkSt → LinkSt) (s : State) : (modLink f s).due = s.due := rfl
@[simp] theorem modLink_outbox (f : LinkSt → LinkSt) (s : State) : (modLink f s).outbox = s.outbox := rfl
@[simp] theorem modLink_rnd (f : LinkSt → LinkSt) (s : State) : (modLink f s).rnd = s.rnd := rfl
@[simp] theorem modLink_sys (f : LinkSt → LinkSt) (s : State) : (modLink f s).sys = s.sys := rfl
@[simp] theorem modLink_beryl (f : LinkSt → LinkSt) (s : State) : (modLink f s).beryl = s.beryl := rfl
@[simp] theorem modLink_txn (f : LinkSt → LinkSt) (s : State) : (modLink f s).txn = s.txn := rfl
@[simp] theorem modLink_outlets (f : LinkSt → LinkSt) (s : State) : (modLink f s).outlets = s.outlets := rfl
@[simp] theorem modLink_pool (f : LinkSt → LinkSt) (s : State) : (modLink f s).pool = s.pool := rfl
@[simp] theorem modLink_vlk (f : LinkSt → LinkSt) (s : State) : (modLink f s).vlk = s.vlk := rfl
@[simp] theorem modLink_mtr (f : LinkSt → LinkSt) (s : State) : (modLink f s).mtr = s.mtr := rfl
@[simp] theorem modLink_onyx (f : LinkSt → LinkSt) (s : State) : (modLink f s).onyx = s.onyx := rfl
@[simp] theorem modLink_efi (f : LinkSt → LinkSt) (s : State) : (modLink f s).efi = s.efi := rfl
@[simp] theorem modLink_garnet (f : LinkSt → LinkSt) (s : State) : (modLink f s).garnet = s.garnet := rfl
@[simp] theorem modLink_aux (f : LinkSt → LinkSt) (s : State) : (modLink f s).aux = s.aux := rfl
@[simp] theorem modLink_slk (f : LinkSt → LinkSt) (s : State) : (modLink f s).slk = s.slk := rfl
@[simp] theorem modLink_nfc (f : LinkSt → LinkSt) (s : State) : (modLink f s).nfc = s.nfc := rfl
@[simp] theorem modLink_dsp (f : LinkSt → LinkSt) (s : State) : (modLink f s).dsp = s.dsp := rfl
@[simp] theorem modLink_flt (f : LinkSt → LinkSt) (s : State) : (modLink f s).flt = s.flt := rfl
@[simp] theorem modLink_upd (f : LinkSt → LinkSt) (s : State) : (modLink f s).upd = s.upd := rfl
@[simp] theorem modLink_pget (f : LinkSt → LinkSt) (s : State) (id' inst : Nat) : pget (modLink f s) id' inst = pget s id' inst := rfl
@[simp] theorem modLink_pbool (f : LinkSt → LinkSt) (s : State) (id' inst : Nat) : pbool (modLink f s) id' inst = pbool s id' inst := rfl

/-! ### modCounters -/

@[simp] theorem modCounters_link (f : LinkCounters → LinkCounters) (s : State) : (modCounters f s).link = { s.link with counters := f s.link.counters } := rfl
@[simp] theorem modCounters_pending (f : LinkCounters → LinkCounters) (s : State) : (modCounters f s).pending = s.pending := rfl
@[simp] theorem modCounters_frame (f : LinkCounters → LinkCounters) (s : State) : (modCounters f s).frame = s.frame := rfl
@[simp] theorem modCounters_params (f : LinkCounters → LinkCounters) (s : State) : (modCounters f s).params = s.params := rfl
@[simp] theorem modCounters_persisted (f : LinkCounters → LinkCounters) (s : State) : (modCounters f s).persisted = s.persisted := rfl
@[simp] theorem modCounters_queues (f : LinkCounters → LinkCounters) (s : State) : (modCounters f s).queues = s.queues := rfl
@[simp] theorem modCounters_due (f : LinkCounters → LinkCounters) (s : State) : (modCounters f s).due = s.due := rfl
@[simp] theorem modCounters_outbox (f : LinkCounters → LinkCounters) (s : State) : (modCounters f s).outbox = s.outbox := rfl
@[simp] theorem modCounters_rnd (f : LinkCounters → LinkCounters) (s : State) : (modCounters f s).rnd = s.rnd := rfl
@[simp] theorem modCounters_sys (f : LinkCounters → LinkCounters) (s : State) : (modCounters f s).sys = s.sys := rfl
@[simp] theorem modCounters_beryl (f : LinkCounters → LinkCounters) (s : State) : (modCounters f s).beryl = s.beryl := rfl
@[simp] theorem modCounters_txn (f : LinkCounters → LinkCounters) (s : State) : (modCounters f s).txn = s.txn := rfl
@[simp] theorem modCounters_outlets (f : LinkCounters → LinkCounters) (s : State) : (modCounters f s).outlets = s.outlets := rfl
@[simp] theorem modCounters_pool (f : LinkCounters → LinkCounters) (s : State) : (modCounters f s).pool = s.pool := rfl
@[simp] theorem modCounters_vlk (f : LinkCounters → LinkCounters) (s : State) : (modCounters f s).vlk = s.vlk := rfl
@[simp] theorem modCounters_mtr (f : LinkCounters → LinkCounters) (s : State) : (modCounters f s).mtr = s.mtr := rfl
@[simp] theorem modCounters_onyx (f : LinkCounters → LinkCounters) (s : State) : (modCounters f s).onyx = s.onyx := rfl
@[simp] theorem modCounters_efi (f : LinkCounters → LinkCounters) (s : State) : (modCounters f s).efi = s.efi := rfl
@[simp] theorem modCounters_garnet (f : LinkCounters → LinkCounters) (s : State) : (modCounters f s).garnet = s.garnet := rfl
@[simp] theorem modCounters_aux (f : LinkCounters → LinkCounters) (s : State) : (modCounters f s).aux = s.aux := rfl
@[simp] theorem modCounters_slk (f : LinkCounters → LinkCounters) (s : State) : (modCounters f s).slk = s.slk := rfl
@[simp] theorem modCounters_nfc (f : LinkCounters → LinkCounters) (s : State) : (modCounters f s).nfc = s.nfc := rfl
@[simp] theorem modCounters_dsp (f : LinkCounters → LinkCounters) (s : State) : (modCounters f s).dsp = s.dsp := rfl
@[simp] theorem modCounters_flt (f : LinkCounters → LinkCounters) (s : State) : (modCounters f s).flt = s.flt := rfl
@[simp] theorem modCounters_upd (f : LinkCounters → LinkCounters) (s : State) : (modCounters f s).upd = s.upd := rfl
@[simp] theorem modCounters_pget (f : LinkCounters → LinkCounters) (s : State) (id' inst : Nat) : pget (modCounters f s) id' inst = pget s id' inst := rfl
@[simp] theorem modCounters_pbool (f : LinkCounters → LinkCounters) (s : State) (id' inst : Nat) : pbool (modCounters f s) id' inst = pbool s id' inst := rfl

/-! ### modSys -/

@[simp] theorem modSys_sys (f : SysSt → SysSt) (s : State) : (modSys f s).sys = f s.sys := rfl
@[simp] theorem modSys_pending (f : SysSt → SysSt) (s : State) : (modSys f s).pending = s.pending := rfl
@[simp] theorem modSys_frame (f : SysSt → SysSt) (s : State) : (modSys f s).frame = s.frame := rfl
@[simp] theorem modSys_params (f : SysSt → SysSt) (s : State) : (modSys f s).params = s.params := rfl
@[simp] theorem modSys_persisted (f : SysSt → SysSt) (s : State) : (modSys f s).persisted = s.persisted := rfl
@[simp] theorem modSys_queues (f : SysSt → SysSt) (s : State) : (modSys f s).queues = s.queues := rfl
@[simp] theorem modSys_due (f : SysSt → SysSt) (s : State) : (modSys f s).due = s.due := rfl
@[simp] theorem modSys_outbox (f : SysSt → SysSt) (s : State) : (modSys f s).outbox = s.outbox := rfl
@[simp] theorem modSys_rnd (f : SysSt → SysSt) (s : State) : (modSys f s).rnd = s.rnd := rfl
@[simp] theorem modSys_beryl (f : SysSt → SysSt) (s : State) : (modSys f s).beryl = s.beryl := rfl
@[simp] theorem modSys_link (f : SysSt → SysSt) (s : State) : (modSys f s).link = s.link := rfl
@[simp] theorem modSys_txn (f : SysSt → SysSt) (s : State) : (modSys f s).txn = s.txn := rfl
@[simp] theorem modSys_outlets (f : SysSt → SysSt) (s : State) : (modSys f s).outlets = s.outlets := rfl
@[simp] theorem modSys_pool (f : SysSt → SysSt) (s : State) : (modSys f s).pool = s.pool := rfl
@[simp] theorem modSys_vlk (f : SysSt → SysSt) (s : State) : (modSys f s).vlk = s.vlk := rfl
@[simp] theorem modSys_mtr (f : SysSt → SysSt) (s : State) : (modSys f s).mtr = s.mtr := rfl
@[simp] theorem modSys_onyx (f : SysSt → SysSt) (s : State) : (modSys f s).onyx = s.onyx := rfl
@[simp] theorem modSys_efi (f : SysSt → SysSt) (s : State) : (modSys f s).efi = s.efi := rfl
@[simp] theorem modSys_garnet (f : SysSt → SysSt) (s : State) : (modSys f s).garnet = s.garnet := rfl
@[simp] theorem modSys_aux (f : SysSt → SysSt) (s : State) : (modSys f s).aux = s.aux := rfl
@[simp] theorem modSys_slk (f : SysSt → SysSt) (s : State) : (modSys f s).slk = s.slk := rfl
@[simp] theorem modSys_nfc (f : SysSt → SysSt) (s : State) : (modSys f s).nfc = s.nfc := rfl
@[simp] theorem modSys_dsp (f : SysSt → SysSt) (s : State) : (modSys f s).dsp = s.dsp := rfl
@[simp] theorem modSys_flt (f : SysSt → SysSt) (s : State) : (modSys f s).flt = s.flt := rfl
@[simp] theorem modSys_upd (f : SysSt → SysSt) (s : State) : (modSys f s).upd = s.upd := rfl
@[simp] theorem modSys_pget (f : SysSt → SysSt) (s : State) (id' inst : Nat) : pget (modSys f s) id' inst = pget s id' inst := rfl
@[simp] theorem modSys_pbool (f : SysSt → SysSt) (s : State) (id' inst : Nat) : pbool (modSys f s) id' inst = pbool s id' inst := rfl

/-! ### emit -/

@[simp] theorem emit_outbox (o : Out) (s : State) : (emit o s).outbox = s.outbox ++ [o] := rfl
@[simp] theorem emit_pending (o : Out) (s : State) : (emit o s).pending = s.pending := rfl
@[simp] theorem emit_frame (o : Out) (s : State) : (emit o s).frame = s.frame := rfl
@[simp] theorem emit_params (o : Out) (s : State) : (emit o s).params = s.params := rfl
@[simp] theorem emit_persisted (o : Out) (s : State) : (emit o s).persisted = s.persisted := rfl
@[simp] theorem emit_queues (o : Out) (s : State) : (emit o s).queues = s.queues := rfl
@[simp] theorem emit_due (o : Out) (s : State) : (emit o s).due = s.due := rfl
@[simp] theorem emit_rnd (o : Out) (s : State) : (emit o s).rnd = s.rnd := rfl
@[simp] theorem emit_sys (o : Out) (s : State) : (emit o s).sys = s.sys := rfl
@[simp] theorem emit_beryl (o : Out) (s : State) : (emit o s).beryl = s.beryl := rfl
@[simp] theorem emit_link (o : Out) (s : State) : (emit o s).link = s.link := rfl
@[simp] theorem emit_txn (o : Out) (s : State) : (emit o s).txn = s.txn := rfl
@[simp] theorem emit_outlets (o : Out) (s : State) : (emit o s).outlets = s.outlets := rfl
@[simp] theorem emit_pool (o : Out) (s : State) : (emit o s).pool = s.pool := rfl
@[simp] theorem emit_vlk (o : Out) (s : State) : (emit o s).vlk = s.vlk := rfl
@[simp] theorem emit_mtr (o : Out) (s : State) : (emit o s).mtr = s.mtr := rfl
@[simp] theorem emit_onyx (o : Out) (s : State) : (emit o s).onyx = s.onyx := rfl
@[simp] theorem emit_efi (o : Out) (s : State) : (emit o s).efi = s.efi := rfl
@[simp] theorem emit_garnet (o : Out) (s : State) : (emit o s).garnet = s.garnet := rfl
@[simp] theorem emit_aux (o : Out) (s : State) : (emit o s).aux = s.aux := rfl
@[simp] theorem emit_slk (o : Out) (s : State) : (emit o s).slk = s.slk := rfl
@[simp] theorem emit_nfc (o : Out) (s : State) : (emit o s).nfc = s.nfc := rfl
@[simp] theorem emit_dsp (o : Out) (s : State) : (emit o s).dsp = s.dsp := rfl
@[simp] theorem emit_flt (o : Out) (s : State) : (emit o s).flt = s.flt := rfl
@[simp] theorem emit_upd (o : Out) (s : State) : (emit o s).upd = s.upd := rfl
@[simp] theorem emit_pget (o : Out) (s : State) (id' inst : Nat) : pget (emit o s) id' inst = pget s id' inst := rfl
@[simp] theorem emit_pbool (o : Out) (s : State) (id' inst : Nat) : pbool (emit o s) id' inst = pbool s id' inst := rfl

/-! ### State.draw -/

@[simp] theorem draw_rnd (s : State) : (State.draw s).rnd = s.rnd + 1 := rfl
@[simp] theorem draw_pending (s : State) : (State.draw s).pending = s.pending := rfl
@[simp] theorem draw_frame (s : State) : (State.draw s).frame = s.frame := rfl
@[simp] theorem draw_params (s : State) : (State.draw s).params = s.params := rfl
@[simp] theorem draw_persisted (s : State) : (State.draw s).persisted = s.persisted := rfl
@[simp] theorem draw_queues (s : State) : (State.draw s).queues = s.queues := rfl
@[simp] theorem draw_due (s : State) : (State.draw s).due = s.due := rfl
@[simp] theorem draw_outbox (s : State) : (State.draw s).outbox = s.outbox := rfl
@[simp] theorem draw_sys (s : State) : (State.draw s).sys = s.sys := rfl
@[simp] theorem draw_beryl (s : State) : (State.draw s).beryl = s.beryl := rfl
@[simp] theorem draw_link (s : State) : (State.draw s).link = s.link := rfl
@[simp] theorem draw_txn (s : State) : (State.draw s).txn = s.txn := rfl
@[simp] theorem draw_outlets (s : State) : (State.draw s).outlets = s.outlets := rfl
@[simp] theorem draw_pool (s : State) : (State.draw s).pool = s.pool := rfl
@[simp] theorem draw_vlk (s : State) : (State.draw s).vlk = s.vlk := rfl
@[simp] theorem draw_mtr (s : State) : (State.draw s).mtr = s.mtr := rfl
@[simp] theorem draw_onyx (s : State) : (State.draw s).onyx = s.onyx := rfl
@[simp] theorem draw_efi (s : State) : (State.draw s).efi = s.efi := rfl
@[simp] theorem draw_garnet (s : State) : (State.draw s).garnet = s.garnet := rfl
@[simp] theorem draw_aux (s : State) : (State.draw s).aux = s.aux := rfl
@[simp] theorem draw_slk (s : State) : (State.draw s).slk = s.slk := rfl
@[simp] theorem draw_nfc (s : State) : (State.draw s).nfc = s.nfc := rfl
@[simp] theorem draw_dsp (s : State) : (State.draw s).dsp = s.dsp := rfl
@[simp] theorem draw_flt (s : State) : (State.draw s).flt = s.flt := rfl
@[simp] theorem draw_upd (s : State) : (State.draw s).upd = s.upd := rfl
@[simp] theorem draw_pget (s : State) (id' inst : Nat) : pget (State.draw s) id' inst = pget s id' inst := rfl
@[simp] theorem draw_pbool (s : State) (id' inst : Nat) : pbool (State.draw s) id' inst = pbool s id' inst := rfl

end Sys2Proof.Machine
end

