-- ==== Sys2Proof/Laws/Event.lean ====
section
/-! SUPPORT. What an event can do (R73 to R75, R49, R522): its records enter queue 0, the sessions may be notified, a fault may be
noted; every other part of the state is as it was. -/

namespace Sys2Proof.Machine

/-! ### Notifying the sessions changes the link and what leaves the part -/

theorem sendOn_eq (i : Fin 2) (p : List Byte) (s : State) :
    sendOn i p s = { s with link := (sendOn i p s).link, outbox := (sendOn i p s).outbox } := by
  unfold sendOn; split <;> rfl

theorem notifyHosts_eq (s : State) :
    notifyHosts s = { s with link := (notifyHosts s).link, outbox := (notifyHosts s).outbox } := by
  unfold notifyHosts
  split
  · simp only [allFin, List.finRange_succ, List.finRange_zero, List.foldl_cons, List.foldl_nil, List.map_cons, List.map_nil]
    rw [sendOn_eq _ _ (sendOn _ _ s), sendOn_eq _ _ s]
  · rfl

/-! ### An event changes queue 0, the link, the outbox and the fault book -/

theorem pushEvent_eq (id dom detail arg : Nat) (b : List Byte) (s : State) :
    pushEvent id dom detail arg b s =
      { s with queues := s.queues.set 0 (s.queues[0].push (if permanentEvent id detail arg then 4096 else 4032) s.frame id dom detail arg b),
               link := (pushEvent id dom detail arg b s).link, outbox := (pushEvent id dom detail arg b s).outbox } := by
  unfold pushEvent
  generalize (if permanentEvent id detail arg then 4096 else 4032) = cap
  simp only
  split
  · rw [notifyHosts_eq]
  · rfl

theorem noteFault_eq (d : Fin 12) (c : Nat) (p n m : Bool) (s : State) :
    noteFault d c p n m s = { s with flt := (noteFault d c p n m s).flt } := by
  unfold noteFault; simp only; split <;> (try split) <;> rfl

theorem evp_eq (id dom detail arg : Nat) (b : List Byte) (s : State) :
    evp id dom detail arg b s =
      { s with queues := s.queues.set 0 (s.queues[0].push (if permanentEvent id detail arg then 4096 else 4032) s.frame id dom detail arg b),
               link := (evp id dom detail arg b s).link, outbox := (evp id dom detail arg b s).outbox,
               flt := (evp id dom detail arg b s).flt } := by
  unfold evp
  simp only
  split
  · rw [pushEvent_eq]
  · split
    · rw [noteFault_eq, pushEvent_eq]
    · rw [pushEvent_eq]

@[simp] theorem evp_pending (id dom detail arg : Nat) (b : List Byte) (s : State) : (evp id dom detail arg b s).pending = s.pending := by rw [evp_eq]
@[simp] theorem evp_frame (id dom detail arg : Nat) (b : List Byte) (s : State) : (evp id dom detail arg b s).frame = s.frame := by rw [evp_eq]
@[simp] theorem evp_params (id dom detail arg : Nat) (b : List Byte) (s : State) : (evp id dom detail arg b s).params = s.params := by rw [evp_eq]
@[simp] theorem evp_persisted (id dom detail arg : Nat) (b : List Byte) (s : State) : (evp id dom detail arg b s).persisted = s.persisted := by rw [evp_eq]
@[simp] theorem evp_due (id dom detail arg : Nat) (b : List Byte) (s : State) : (evp id dom detail arg b s).due = s.due := by rw [evp_eq]
@[simp] theorem evp_rnd (id dom detail arg : Nat) (b : List Byte) (s : State) : (evp id dom detail arg b s).rnd = s.rnd := by rw [evp_eq]
@[simp] theorem evp_sys (id dom detail arg : Nat) (b : List Byte) (s : State) : (evp id dom detail arg b s).sys = s.sys := by rw [evp_eq]
@[simp] theorem evp_beryl (id dom detail arg : Nat) (b : List Byte) (s : State) : (evp id dom detail arg b s).beryl = s.beryl := by rw [evp_eq]
@[simp] theorem evp_txn (id dom detail arg : Nat) (b : List Byte) (s : State) : (evp id dom detail arg b s).txn = s.txn := by rw [evp_eq]
@[simp] theorem evp_outlets (id dom detail arg : Nat) (b : List Byte) (s : State) : (evp id dom detail arg b s).outlets = s.outlets := by rw [evp_eq]
@[simp] theorem evp_pool (id dom detail arg : Nat) (b : List Byte) (s : State) : (evp id dom detail arg b s).pool = s.pool := by rw [evp_eq]
@[simp] theorem evp_vlk (id dom detail arg : Nat) (b : List Byte) (s : State) : (evp id dom detail arg b s).vlk = s.vlk := by rw [evp_eq]
@[simp] theorem evp_mtr (id dom detail arg : Nat) (b : List Byte) (s : State) : (evp id dom detail arg b s).mtr = s.mtr := by rw [evp_eq]
@[simp] theorem evp_onyx (id dom detail arg : Nat) (b : List Byte) (s : State) : (evp id dom detail arg b s).onyx = s.onyx := by rw [evp_eq]
@[simp] theorem evp_efi (id dom detail arg : Nat) (b : List Byte) (s : State) : (evp id dom detail arg b s).efi = s.efi := by rw [evp_eq]
@[simp] theorem evp_garnet (id dom detail arg : Nat) (b : List Byte) (s : State) : (evp id dom detail arg b s).garnet = s.garnet := by rw [evp_eq]
@[simp] theorem evp_aux (id dom detail arg : Nat) (b : List Byte) (s : State) : (evp id dom detail arg b s).aux = s.aux := by rw [evp_eq]
@[simp] theorem evp_slk (id dom detail arg : Nat) (b : List Byte) (s : State) : (evp id dom detail arg b s).slk = s.slk := by rw [evp_eq]
@[simp] theorem evp_nfc (id dom detail arg : Nat) (b : List Byte) (s : State) : (evp id dom detail arg b s).nfc = s.nfc := by rw [evp_eq]
@[simp] theorem evp_dsp (id dom detail arg : Nat) (b : List Byte) (s : State) : (evp id dom detail arg b s).dsp = s.dsp := by rw [evp_eq]
@[simp] theorem evp_upd (id dom detail arg : Nat) (b : List Byte) (s : State) : (evp id dom detail arg b s).upd = s.upd := by rw [evp_eq]
@[simp] theorem evp_queues (id dom detail arg : Nat) (b : List Byte) (s : State) : (evp id dom detail arg b s).queues =
    s.queues.set 0 (s.queues[0].push (if permanentEvent id detail arg then 4096 else 4032) s.frame id dom detail arg b) := by rw [evp_eq]

@[simp] theorem ev_pending (id dom detail arg : Nat) (s : State) : (ev id dom detail arg s).pending = s.pending := evp_pending _ _ _ _ _ _
@[simp] theorem ev_frame (id dom detail arg : Nat) (s : State) : (ev id dom detail arg s).frame = s.frame := evp_frame _ _ _ _ _ _
@[simp] theorem ev_params (id dom detail arg : Nat) (s : State) : (ev id dom detail arg s).params = s.params := evp_params _ _ _ _ _ _
@[simp] theorem ev_persisted (id dom detail arg : Nat) (s : State) : (ev id dom detail arg s).persisted = s.persisted := evp_persisted _ _ _ _ _ _
@[simp] theorem ev_due (id dom detail arg : Nat) (s : State) : (ev id dom detail arg s).due = s.due := evp_due _ _ _ _ _ _
@[simp] theorem ev_rnd (id dom detail arg : Nat) (s : State) : (ev id dom detail arg s).rnd = s.rnd := evp_rnd _ _ _ _ _ _
@[simp] theorem ev_sys (id dom detail arg : Nat) (s : State) : (ev id dom detail arg s).sys = s.sys := evp_sys _ _ _ _ _ _
@[simp] theorem ev_beryl (id dom detail arg : Nat) (s : State) : (ev id dom detail arg s).beryl = s.beryl := evp_beryl _ _ _ _ _ _
@[simp] theorem ev_txn (id dom detail arg : Nat) (s : State) : (ev id dom detail arg s).txn = s.txn := evp_txn _ _ _ _ _ _
@[simp] theorem ev_outlets (id dom detail arg : Nat) (s : State) : (ev id dom detail arg s).outlets = s.outlets := evp_outlets _ _ _ _ _ _
@[simp] theorem ev_pool (id dom detail arg : Nat) (s : State) : (ev id dom detail arg s).pool = s.pool := evp_pool _ _ _ _ _ _
@[simp] theorem ev_vlk (id dom detail arg : Nat) (s : State) : (ev id dom detail arg s).vlk = s.vlk := evp_vlk _ _ _ _ _ _
@[simp] theorem ev_mtr (id dom detail arg : Nat) (s : State) : (ev id dom detail arg s).mtr = s.mtr := evp_mtr _ _ _ _ _ _
@[simp] theorem ev_onyx (id dom detail arg : Nat) (s : State) : (ev id dom detail arg s).onyx = s.onyx := evp_onyx _ _ _ _ _ _
@[simp] theorem ev_efi (id dom detail arg : Nat) (s : State) : (ev id dom detail arg s).efi = s.efi := evp_efi _ _ _ _ _ _
@[simp] theorem ev_garnet (id dom detail arg : Nat) (s : State) : (ev id dom detail arg s).garnet = s.garnet := evp_garnet _ _ _ _ _ _
@[simp] theorem ev_aux (id dom detail arg : Nat) (s : State) : (ev id dom detail arg s).aux = s.aux := evp_aux _ _ _ _ _ _
@[simp] theorem ev_slk (id dom detail arg : Nat) (s : State) : (ev id dom detail arg s).slk = s.slk := evp_slk _ _ _ _ _ _
@[simp] theorem ev_nfc (id dom detail arg : Nat) (s : State) : (ev id dom detail arg s).nfc = s.nfc := evp_nfc _ _ _ _ _ _
@[simp] theorem ev_dsp (id dom detail arg : Nat) (s : State) : (ev id dom detail arg s).dsp = s.dsp := evp_dsp _ _ _ _ _ _
@[simp] theorem ev_upd (id dom detail arg : Nat) (s : State) : (ev id dom detail arg s).upd = s.upd := evp_upd _ _ _ _ _ _
@[simp] theorem ev_queues (id dom detail arg : Nat) (s : State) : (ev id dom detail arg s).queues =
    s.queues.set 0 (s.queues[0].push (if permanentEvent id detail arg then 4096 else 4032) s.frame id dom detail arg []) := evp_queues _ _ _ _ _ _

theorem ev_get_other (id dom detail arg : Nat) (s : State) (q : Fin 4) (h : q ≠ 0) : (ev id dom detail arg s).queues[q] = s.queues[q] := by
  simp only [ev_queues, Fin.getElem_fin]
  rw [Vector.getElem_set_ne]
  intro hq; exact h (Fin.ext hq.symm)

end Sys2Proof.Machine
end

