-- ==== Sys2Proof/Laws/HostCmd.lean ====
section
/-! SUPPORT. What a host command can do in its frame: every part of the state but its link is as it was when its own rules are
asked, and it is accepted, refused or answered again. -/

namespace Sys2Proof.Machine

/-! ### Counting a command and entering it in its window change the link alone -/

theorem noteAdmitted_eq (l : LinkId) (s : State) : noteAdmitted l s = { s with link := (noteAdmitted l s).link } := by
  unfold noteAdmitted; split <;> rfl

theorem enterWindow_eq (h : Hdr) (s : State) : enterWindow h s = { s with link := (enterWindow h s).link } := by
  unfold enterWindow; split <;> (try split) <;> rfl

theorem entered_eq (h : Hdr) (s : State) : entered h s = { s with link := (entered h s).link } := by
  unfold entered; rw [enterWindow_eq, noteAdmitted_eq]

@[simp] theorem entered_frame (h : Hdr) (s : State) : (entered h s).frame = s.frame := by rw [entered_eq]
@[simp] theorem entered_pending (h : Hdr) (s : State) : (entered h s).pending = s.pending := by rw [entered_eq]
@[simp] theorem entered_params (h : Hdr) (s : State) : (entered h s).params = s.params := by rw [entered_eq]
@[simp] theorem entered_persisted (h : Hdr) (s : State) : (entered h s).persisted = s.persisted := by rw [entered_eq]
@[simp] theorem entered_queues (h : Hdr) (s : State) : (entered h s).queues = s.queues := by rw [entered_eq]
@[simp] theorem entered_due (h : Hdr) (s : State) : (entered h s).due = s.due := by rw [entered_eq]
@[simp] theorem entered_outbox (h : Hdr) (s : State) : (entered h s).outbox = s.outbox := by rw [entered_eq]
@[simp] theorem entered_rnd (h : Hdr) (s : State) : (entered h s).rnd = s.rnd := by rw [entered_eq]
@[simp] theorem entered_sys (h : Hdr) (s : State) : (entered h s).sys = s.sys := by rw [entered_eq]
@[simp] theorem entered_beryl (h : Hdr) (s : State) : (entered h s).beryl = s.beryl := by rw [entered_eq]
@[simp] theorem entered_txn (h : Hdr) (s : State) : (entered h s).txn = s.txn := by rw [entered_eq]
@[simp] theorem entered_outlets (h : Hdr) (s : State) : (entered h s).outlets = s.outlets := by rw [entered_eq]
@[simp] theorem entered_pool (h : Hdr) (s : State) : (entered h s).pool = s.pool := by rw [entered_eq]
@[simp] theorem entered_vlk (h : Hdr) (s : State) : (entered h s).vlk = s.vlk := by rw [entered_eq]
@[simp] theorem entered_mtr (h : Hdr) (s : State) : (entered h s).mtr = s.mtr := by rw [entered_eq]
@[simp] theorem entered_onyx (h : Hdr) (s : State) : (entered h s).onyx = s.onyx := by rw [entered_eq]
@[simp] theorem entered_efi (h : Hdr) (s : State) : (entered h s).efi = s.efi := by rw [entered_eq]
@[simp] theorem entered_garnet (h : Hdr) (s : State) : (entered h s).garnet = s.garnet := by rw [entered_eq]
@[simp] theorem entered_aux (h : Hdr) (s : State) : (entered h s).aux = s.aux := by rw [entered_eq]
@[simp] theorem entered_slk (h : Hdr) (s : State) : (entered h s).slk = s.slk := by rw [entered_eq]
@[simp] theorem entered_nfc (h : Hdr) (s : State) : (entered h s).nfc = s.nfc := by rw [entered_eq]
@[simp] theorem entered_dsp (h : Hdr) (s : State) : (entered h s).dsp = s.dsp := by rw [entered_eq]
@[simp] theorem entered_flt (h : Hdr) (s : State) : (entered h s).flt = s.flt := by rw [entered_eq]
@[simp] theorem entered_upd (h : Hdr) (s : State) : (entered h s).upd = s.upd := by rw [entered_eq]

@[simp] theorem noteAdmitted_window (l : LinkId) (s : State) : (noteAdmitted l s).link.window = s.link.window := by
  unfold noteAdmitted; split <;> rfl

@[simp] theorem noteAdmitted_sessions (l : LinkId) (s : State) : (noteAdmitted l s).link.sessions = s.link.sessions := by
  unfold noteAdmitted; split <;> rfl

@[simp] theorem noteAdmitted_replies (l : LinkId) (s : State) : (noteAdmitted l s).link.replies = s.link.replies := by
  unfold noteAdmitted; split <;> rfl

@[simp] theorem noteAdmitted_waiting (l : LinkId) (s : State) : (noteAdmitted l s).link.waiting = s.link.waiting := by
  unfold noteAdmitted; split <;> rfl

@[simp] theorem noteAdmitted_linkWindow (l k : LinkId) (s : State) : linkWindow (noteAdmitted l s) k = linkWindow s k := by
  simp [linkWindow]

/-! ### Parameters read the same in two states that agree on them -/

theorem pget_congr {s t : State} (hp : t.params = s.params) (hb : t.beryl = s.beryl) (id inst : Nat) :
    pget t id inst = pget s id inst := by
  simp [pget, hp, hb]

@[simp] theorem entered_pget (h : Hdr) (s : State) (id inst : Nat) : pget (entered h s) id inst = pget s id inst :=
  pget_congr (by simp) (by simp) id inst

@[simp] theorem entered_pbool (h : Hdr) (s : State) (id inst : Nat) : pbool (entered h s) id inst = pbool s id inst := by
  simp [pbool]

@[simp] theorem entered_psigned (h : Hdr) (s : State) (id inst len : Nat) :
    psigned (entered h s) id inst len = psigned s id inst len := by
  simp [psigned]

@[simp] theorem entered_watching (h : Hdr) (s : State) : watching (entered h s) = watching s := by simp [watching]

@[simp] theorem entered_fencedDomain (h : Hdr) (s : State) (d : Nat) : fencedDomain (entered h s) d = fencedDomain s d := by
  simp [fencedDomain]

@[simp] theorem entered_findTxn (h : Hdr) (s : State) (n : Nat) : findTxn (entered h s) n = findTxn s n := by simp [findTxn]

@[simp] theorem entered_stateCheck (h k : Hdr) (op : Nat) (s : State) : stateCheck k op (entered h s) = stateCheck k op s := by
  simp [stateCheck, available]

/-! ### What a host command can do -/

/-- A new command that passes the common checks goes to its own rules. -/
theorem hostCmd_passes {h : Hdr} {op : Nat} {c : Instr} {layout lengths : Bool} {bad : List Byte} {rules : State → Verdict}
    {s : State} (p : Passes h op layout lengths s) :
    hostCmd h op c layout lengths bad rules s = match rules (entered h s) with
      | .refuse d res => refused h op d res s
      | .reject d res now => refuseNow h op d res (now (entered h s))
      | .accept d res now => now (accepted c h op d res s) := by
  obtain ⟨⟨hl, hw⟩, hc, hs⟩ := p
  have hw' : List.find? (fun r => r.seq == h.seq) (linkWindow (noteAdmitted h.link s) h.link) = none := by simpa using hw
  have hs' : stateCheck h op (enterWindow h (noteAdmitted h.link s)) = none := by
    have := entered_stateCheck h h op s; unfold entered at this; rw [this]; exact hs
  unfold hostCmd inWindow
  simp only [hl, hw', hc, hs']
  simp only [refused, accepted, waitingCmd, entered, not_true_eq_false, ↓reduceIte]
  have hd : (enterWindow h (noteAdmitted h.link s)).due = s.due := entered_due h s
  have hf : (enterWindow h (noteAdmitted h.link s)).frame = s.frame := entered_frame h s
  rw [hd]
  cases rules (enterWindow h (noteAdmitted h.link s)) <;> simp [hf]

/-! ### The state in which an accepted command waits -/

@[simp] theorem accepted_pending (c : Instr) (h : Hdr) (op d : Nat) (res : Option (List Byte)) (s : State) : (accepted c h op d res s).pending = s.pending := by simp [accepted]
@[simp] theorem accepted_frame (c : Instr) (h : Hdr) (op d : Nat) (res : Option (List Byte)) (s : State) : (accepted c h op d res s).frame = s.frame := by simp [accepted]
@[simp] theorem accepted_params (c : Instr) (h : Hdr) (op d : Nat) (res : Option (List Byte)) (s : State) : (accepted c h op d res s).params = s.params := by simp [accepted]
@[simp] theorem accepted_persisted (c : Instr) (h : Hdr) (op d : Nat) (res : Option (List Byte)) (s : State) : (accepted c h op d res s).persisted = s.persisted := by simp [accepted]
@[simp] theorem accepted_queues (c : Instr) (h : Hdr) (op d : Nat) (res : Option (List Byte)) (s : State) : (accepted c h op d res s).queues = s.queues := by simp [accepted]
@[simp] theorem accepted_outbox (c : Instr) (h : Hdr) (op d : Nat) (res : Option (List Byte)) (s : State) : (accepted c h op d res s).outbox = s.outbox := by simp [accepted]
@[simp] theorem accepted_rnd (c : Instr) (h : Hdr) (op d : Nat) (res : Option (List Byte)) (s : State) : (accepted c h op d res s).rnd = s.rnd := by simp [accepted]
@[simp] theorem accepted_sys (c : Instr) (h : Hdr) (op d : Nat) (res : Option (List Byte)) (s : State) : (accepted c h op d res s).sys = s.sys := by simp [accepted]
@[simp] theorem accepted_beryl (c : Instr) (h : Hdr) (op d : Nat) (res : Option (List Byte)) (s : State) : (accepted c h op d res s).beryl = s.beryl := by simp [accepted]
@[simp] theorem accepted_txn (c : Instr) (h : Hdr) (op d : Nat) (res : Option (List Byte)) (s : State) : (accepted c h op d res s).txn = s.txn := by simp [accepted]
@[simp] theorem accepted_outlets (c : Instr) (h : Hdr) (op d : Nat) (res : Option (List Byte)) (s : State) : (accepted c h op d res s).outlets = s.outlets := by simp [accepted]
@[simp] theorem accepted_pool (c : Instr) (h : Hdr) (op d : Nat) (res : Option (List Byte)) (s : State) : (accepted c h op d res s).pool = s.pool := by simp [accepted]
@[simp] theorem accepted_vlk (c : Instr) (h : Hdr) (op d : Nat) (res : Option (List Byte)) (s : State) : (accepted c h op d res s).vlk = s.vlk := by simp [accepted]
@[simp] theorem accepted_mtr (c : Instr) (h : Hdr) (op d : Nat) (res : Option (List Byte)) (s : State) : (accepted c h op d res s).mtr = s.mtr := by simp [accepted]
@[simp] theorem accepted_onyx (c : Instr) (h : Hdr) (op d : Nat) (res : Option (List Byte)) (s : State) : (accepted c h op d res s).onyx = s.onyx := by simp [accepted]
@[simp] theorem accepted_efi (c : Instr) (h : Hdr) (op d : Nat) (res : Option (List Byte)) (s : State) : (accepted c h op d res s).efi = s.efi := by simp [accepted]
@[simp] theorem accepted_garnet (c : Instr) (h : Hdr) (op d : Nat) (res : Option (List Byte)) (s : State) : (accepted c h op d res s).garnet = s.garnet := by simp [accepted]
@[simp] theorem accepted_aux (c : Instr) (h : Hdr) (op d : Nat) (res : Option (List Byte)) (s : State) : (accepted c h op d res s).aux = s.aux := by simp [accepted]
@[simp] theorem accepted_slk (c : Instr) (h : Hdr) (op d : Nat) (res : Option (List Byte)) (s : State) : (accepted c h op d res s).slk = s.slk := by simp [accepted]
@[simp] theorem accepted_nfc (c : Instr) (h : Hdr) (op d : Nat) (res : Option (List Byte)) (s : State) : (accepted c h op d res s).nfc = s.nfc := by simp [accepted]
@[simp] theorem accepted_dsp (c : Instr) (h : Hdr) (op d : Nat) (res : Option (List Byte)) (s : State) : (accepted c h op d res s).dsp = s.dsp := by simp [accepted]
@[simp] theorem accepted_flt (c : Instr) (h : Hdr) (op d : Nat) (res : Option (List Byte)) (s : State) : (accepted c h op d res s).flt = s.flt := by simp [accepted]
@[simp] theorem accepted_upd (c : Instr) (h : Hdr) (op d : Nat) (res : Option (List Byte)) (s : State) : (accepted c h op d res s).upd = s.upd := by simp [accepted]
@[simp] theorem accepted_due (c : Instr) (h : Hdr) (op d : Nat) (res : Option (List Byte)) (s : State) : (accepted c h op d res s).due = s.due ++ [waitingCmd c h op d res s] := rfl
@[simp] theorem accepted_pget (c : Instr) (h : Hdr) (op d : Nat) (res : Option (List Byte)) (s : State) (id inst : Nat) : pget (accepted c h op d res s) id inst = pget s id inst :=
  pget_congr (by simp) (by simp) id inst

end Sys2Proof.Machine
end

