-- ==== Sys2Proof/Laws/Memory.lean ====
section
/-! SUPPORT. The addressed buffers: reading what was written, and the canonical form that every operation on them keeps. -/

namespace Sys2Proof.Machine

open Host (Cell)

/-- Every listed address is above a bound. -/
def Above (n : Nat) (m : List Cell) : Prop := ∀ c ∈ m, n < c.1

@[simp] theorem above_nil (n : Nat) : Above n [] := by simp [Above]

@[simp] theorem above_cons (n : Nat) (c : Cell) (m : List Cell) : Above n (c :: m) ↔ n < c.1 ∧ Above n m := by
  simp [Above]

theorem Above.mono {a b : Nat} {m : List Cell} (h : a ≤ b) (hb : Above b m) : Above a m :=
  fun c hc => Nat.lt_of_le_of_lt h (hb c hc)

@[simp] theorem memWf_nil : memWf [] = true := rfl

/-- The canonical form, one entry at a time. -/
theorem memWf_cons {k : Nat} {v : Byte} {r : List Cell} : memWf ((k, v) :: r) = true ↔ v ≠ 0 ∧ Above k r ∧ memWf r = true := by
  induction r generalizing k v with
  | nil => simp [memWf]
  | cons c r ih =>
    obtain ⟨l, w⟩ := c
    rw [memWf]
    simp only [Bool.and_eq_true, bne_iff_ne, ne_eq, decide_eq_true_eq, above_cons, ih]
    constructor
    · rintro ⟨⟨hv, hk⟩, hw, ha, hr⟩
      exact ⟨hv, ⟨hk, ha.mono (Nat.le_of_lt hk)⟩, hw, ha, hr⟩
    · rintro ⟨hv, ⟨hk, _⟩, hw, ha, hr⟩
      exact ⟨⟨hv, hk⟩, hw, ha, hr⟩

theorem memGet_above {m : List Cell} {x : Nat} (h : Above x m) : memGet m x = 0 := by
  cases m with
  | nil => rfl
  | cons c r =>
    obtain ⟨k, v⟩ := c
    have hk := ((above_cons _ _ _).mp h).1
    simp only at hk
    simp [memGet, hk, Nat.ne_of_gt hk]

theorem above_memDel {n : Nat} {m : List Cell} (x : Nat) (h : Above n m) : Above n (memDel m x) := by
  induction m with
  | nil => simp [memDel]
  | cons c r ih =>
    obtain ⟨k, v⟩ := c
    have h' := (above_cons _ _ _).mp h
    unfold memDel
    split
    · exact h'.2
    · split
      · exact h
      · exact (above_cons _ _ _).mpr ⟨h'.1, ih h'.2⟩

theorem above_memSet {n : Nat} {m : List Cell} {x : Nat} (y : Byte) (hx : n < x) (h : Above n m) : Above n (memSet m x y) := by
  induction m with
  | nil => simpa [memSet] using hx
  | cons c r ih =>
    obtain ⟨k, v⟩ := c
    have h' := (above_cons _ _ _).mp h
    unfold memSet
    split
    · exact (above_cons _ _ _).mpr ⟨hx, h'.2⟩
    · split
      · exact (above_cons _ _ _).mpr ⟨hx, h⟩
      · exact (above_cons _ _ _).mpr ⟨h'.1, ih h'.2⟩

theorem memWf_memDel {m : List Cell} (x : Nat) (h : memWf m = true) : memWf (memDel m x) = true := by
  induction m with
  | nil => rfl
  | cons c r ih =>
    obtain ⟨k, v⟩ := c
    obtain ⟨hv, ha, hr⟩ := memWf_cons.mp h
    unfold memDel
    split
    · exact hr
    · split
      · exact h
      · exact memWf_cons.mpr ⟨hv, above_memDel x ha, ih hr⟩

theorem memWf_memSet {m : List Cell} (x : Nat) {y : Byte} (hy : y ≠ 0) (h : memWf m = true) : memWf (memSet m x y) = true := by
  induction m with
  | nil => exact memWf_cons.mpr ⟨hy, above_nil x, rfl⟩
  | cons c r ih =>
    obtain ⟨k, v⟩ := c
    obtain ⟨hv, ha, hr⟩ := memWf_cons.mp h
    unfold memSet
    split
    · rename_i hk; exact memWf_cons.mpr ⟨hy, hk ▸ ha, hr⟩
    · split
      · rename_i hk
        exact memWf_cons.mpr ⟨hy, (above_cons _ _ _).mpr ⟨hk, ha.mono (Nat.le_of_lt hk)⟩, h⟩
      · rename_i h1 h2
        exact memWf_cons.mpr ⟨hv, above_memSet y (by omega) ha, ih hr⟩

/-- Writing a byte keeps the canonical form. -/
theorem memWf_memPut {m : List Cell} (x : Nat) (y : Byte) (h : memWf m = true) : memWf (memPut m x y) = true := by
  unfold memPut
  split
  · exact memWf_memDel x h
  · exact memWf_memSet x ‹_› h

/-- Writing bytes keeps the canonical form. -/
theorem memWf_memWrite {m : List Cell} (x : Nat) (b : List Byte) (h : memWf m = true) : memWf (memWrite m x b) = true := by
  induction b generalizing m x with
  | nil => exact h
  | cons y r ih => exact ih (x + 1) (memWf_memPut x y h)

theorem memGet_memDel_same {m : List Cell} (x : Nat) (h : memWf m = true) : memGet (memDel m x) x = 0 := by
  induction m with
  | nil => rfl
  | cons c r ih =>
    obtain ⟨k, v⟩ := c
    obtain ⟨_, ha, hr⟩ := memWf_cons.mp h
    unfold memDel
    split
    · rename_i hk; exact memGet_above (hk ▸ ha)
    · split
      · rename_i h1 h2; simp [memGet, h1, h2]
      · rename_i h1 h2; simp [memGet, h1, h2, ih hr]

theorem memGet_memDel_other {m : List Cell} {x z : Nat} (hz : z ≠ x) (h : memWf m = true) : memGet (memDel m x) z = memGet m z := by
  induction m with
  | nil => rfl
  | cons c r ih =>
    obtain ⟨k, v⟩ := c
    obtain ⟨_, ha, hr⟩ := memWf_cons.mp h
    unfold memDel
    split
    · rename_i hk
      subst hk
      simp only [memGet]
      rw [if_neg (Ne.symm hz)]
      split
      · exact memGet_above (ha.mono (by omega))
      · rfl
    · split
      · rfl
      · simp [memGet, ih hr]

theorem memGet_memSet_same (m : List Cell) (x : Nat) (y : Byte) : memGet (memSet m x y) x = y := by
  induction m with
  | nil => simp [memSet, memGet]
  | cons c r ih =>
    obtain ⟨k, v⟩ := c
    unfold memSet
    split
    · simp [memGet]
    · split
      · simp [memGet]
      · rename_i h1 h2; simp [memGet, h1, h2, ih]

theorem memGet_memSet_other {m : List Cell} {x z : Nat} (y : Byte) (hz : z ≠ x) : memGet (memSet m x y) z = memGet m z := by
  induction m with
  | nil => simp [memSet, memGet, Ne.symm hz]
  | cons c r ih =>
    obtain ⟨k, v⟩ := c
    unfold memSet
    split
    · rename_i hk; subst hk; simp [memGet, Ne.symm hz]
    · split
      · rename_i h1 h2
        simp only [memGet]
        rw [if_neg (Ne.symm hz)]
        split
        · rename_i h3; rw [if_neg (by omega), if_pos (by omega)]
        · rfl
      · simp [memGet, ih]

/-- A byte written reads back. -/
@[simp] theorem memGet_memPut_same {m : List Cell} (x : Nat) (y : Byte) (h : memWf m = true) : memGet (memPut m x y) x = y := by
  unfold memPut
  split
  · rename_i hy; rw [memGet_memDel_same x h, hy]
  · exact memGet_memSet_same m x y

/-- A byte written leaves every other byte alone. -/
theorem memGet_memPut_other {m : List Cell} {x z : Nat} (y : Byte) (hz : z ≠ x) (h : memWf m = true) :
    memGet (memPut m x y) z = memGet m z := by
  unfold memPut
  split
  · exact memGet_memDel_other hz h
  · exact memGet_memSet_other y hz

/-- Bytes written from an address on: inside the range each reads back, outside it nothing has changed. -/
theorem memGet_memWrite {m : List Cell} (x : Nat) (b : List Byte) (z : Nat) (h : memWf m = true) :
    memGet (memWrite m x b) z = if x ≤ z ∧ z < x + b.length then b.getD (z - x) 0 else memGet m z := by
  induction b generalizing m x with
  | nil => rw [memWrite, if_neg (by simp only [List.length_nil]; omega)]
  | cons y r ih =>
    rw [memWrite, ih (x + 1) (memWf_memPut x y h)]
    by_cases hx : z = x
    · subst hx
      rw [if_neg (by omega), memGet_memPut_same _ _ h, if_pos (by simp only [List.length_cons]; omega)]
      simp
    · rw [memGet_memPut_other y hx h]
      by_cases h1 : x + 1 ≤ z ∧ z < x + 1 + r.length
      · rw [if_pos h1, if_pos (by simp only [List.length_cons]; omega)]
        obtain ⟨k, hk⟩ : ∃ k, z - x = k + 1 := ⟨z - x - 1, by omega⟩
        rw [hk, List.getD_cons_succ]
        congr 1
        omega
      · rw [if_neg h1, if_neg (by simp only [List.length_cons]; omega)]

end Sys2Proof.Machine
end

