-- ==== Sys2Proof/WellFormed.lean ====
section
/-! DEFINITION. Which commands their sender can spell: every operand fits the field of the packet, frame or register that holds it.
An operand outside its field has no encoding; nothing else is refused here: what a command may ask is the machine's to judge. -/

namespace Sys2Proof

/-- An unsigned field of `n` bits. -/
def fits (n x : Nat) : Bool := decide (x < 2 ^ n)

/-- A two's-complement field of `n` bits. -/
def inRange (n : Nat) (x : Int) : Bool := decide (-(2 ^ (n - 1)) ≤ x) && decide (x < 2 ^ (n - 1))

/-- At most `n` bytes. -/
def short (n : Nat) (b : List Byte) : Bool := decide (b.length ≤ n)

/-- A header (Table CMD-1). -/
def Hdr.wf (h : Hdr) : Bool := fits 16 h.seq && fits 8 h.txn && fits 8 h.version

/-- An entry of PARAM_READ (R63). -/
def PRef.wf (e : PRef) : Bool := fits 16 e.id && fits 8 e.inst

/-- An entry of a parameter write: the value has the length given (R63). -/
def PEntry.wf (e : PEntry) : Bool := fits 16 e.id && fits 8 e.inst && fits 8 e.len && decide (e.val.length = e.len)

/-- An action record: its value field has 12 bytes (Table TXN-3). -/
def ActRec.wf (a : ActRec) : Bool := fits 8 a.type && fits 8 a.object && fits 8 a.node && decide (a.value.length = 12)

/-- A PLC frame: node addresses, hop count and payload type in their fields (R443). -/
def PlcFrame.wf (f : PlcFrame) : Bool :=
  fits 8 f.src && fits 8 f.dst && fits 8 f.via && fits 8 f.hops && fits 8 f.type && fits 32 f.counter

/-- A beacon (R451). -/
def Beacon.wf (b : Beacon) : Bool := fits 8 b.root && fits 48 b.site && fits 8 b.hop && fits 48 b.at_ && fits 8 b.profile

/-- A card's answer: a UID of at most 10 bytes (R478). -/
def CardAnswer.wf (c : CardAnswer) : Bool := fits 8 c.tech && short 10 c.uid

/-- What an edge stamps: each input at most once, and addresses inside the memories they name. -/
def EdgeIn.wf (e : EdgeIn) : Bool :=
  decide ((e.pilots.map (·.k)).Nodup) && decide ((e.gPilots.map (·.k)).Nodup) && decide ((e.prox.map (·.1)).Nodup)
    && decide ((e.aux.map (·.n)).Nodup) && decide ((e.mods.map (·.1)).Nodup) && decide ((e.si.map (·.1)).Nodup)
    && decide ((e.cfb.map (·.1)).Nodup) && decide ((e.rdc.map (·.1)).Nodup) && decide ((e.poles.map (·.1)).Nodup)
    && e.dspFlips.all (fun x => decide (x.2.1 < if x.1 then 384 else 3072))

/-- A command that its sender can spell: every operand fits the field or the register that holds it. -/
def Instr.wf : Instr → Bool
  | .frameTick e => e.wf
  | .sysPartnerLost _ => true
  | .sysSlotOvrun _ => true
  | .writePacket _ => true
  | .readReply _ => true
  | .readStatus => true
  | .linkSync => true
  | .linkReady => true
  | .datagramReceived _ _ => true
  | .packetAdmission => true
  | .ethSessionTimeout _ => true
  | .cmdHostLost => true
  | .nop h => h.wf
  | .identify h => h.wf
  | .linkInfo h flags => h.wf && fits 8 flags
  | .ethHello h slot nonce => h.wf && fits 8 slot && decide (nonce.length = 16)
  | .ethClose h => h.wf
  | .frameRead h => h.wf
  | .pskSet h slot key => h.wf && fits 8 slot && decide (key.length = 32)
  | .pskClear h slot => h.wf && fits 8 slot
  | .reset h reason => h.wf && fits 8 reason
  | .paramRead h count entries => h.wf && fits 8 count && decide (entries.length = count) && entries.all PRef.wf
  | .paramWrite h count entries => h.wf && fits 8 count && decide (entries.length = count) && entries.all PEntry.wf
  | .paramInfo h id => h.wf && fits 16 id
  | .paramList h area page => h.wf && fits 8 area && fits 8 page
  | .paramWriteX h count entries => h.wf && fits 8 count && decide (entries.length = count) && entries.all PEntry.wf
  | .paramDefaultX h area => h.wf && fits 8 area
  | .paramPersist => true
  | .queueRead h queue words => h.wf && fits 8 queue && fits 8 words
  | .queueDrop h queue => h.wf && fits 8 queue
  | .queueStatus h queue flags => h.wf && fits 8 queue && fits 8 flags
  | .txnOpen h => h.wf
  | .txnStage h count acts => h.wf && fits 8 count && decide (acts.length = count) && acts.all ActRec.wf
  | .txnCheck h => h.wf
  | .txnCommit h mode frame => h.wf && fits 8 mode && fits 48 frame
  | .txnAbort h => h.wf
  | .txnQuery h => h.wf
  | .txnList h => h.wf
  | .txnIdleTimeout n => fits 8 n
  | .finalCheck n => fits 8 n
  | .txnCommitted n => fits 8 n
  | .txnRollback n => fits 8 n
  | .rollbackPhase1 n => fits 8 n
  | .rollbackPhase2 n => fits 8 n
  | .setpointCurrentRestore n => fits 8 n
  | .stxnPrepareResend n => fits 8 n
  | .stxnPrepareReceived source number siteC acts => fits 6 source && fits 8 number && fits 48 siteC && acts.all ActRec.wf
  | .stxnVoteDeadline n => fits 8 n
  | .stxnAbortResend n => fits 8 n
  | .stxnAbortReceived source number => fits 6 source && fits 8 number
  | .stxnApply source number => fits 6 source && fits 8 number
  | .stxnOutcomeReport source number _ => fits 6 source && fits 8 number
  | .stxnDone n => fits 8 n
  | .powerOn vmain _ cell => fits 32 vmain && fits 32 cell
  | .mainInputLow vmain => fits 32 vmain
  | .rstN _ => true
  | .resetRelease => true
  | .garnetUp _ test fb => fits 8 test && decide (fb.length ≤ 32)
  | .onyxUp _ test => fits 8 test
  | .coarseService => true
  | .imageVerified _ => true
  | .loopbackSelfTest _ _ exchange snr => fits 8 exchange && fits 8 snr
  | .fullService => true
  | .cellMonitor mV => fits 32 mV
  | .tamperSample _ _ => true
  | .powerFailDetected e => e.wf
  | .powerDownOpen => true
  | .powerFailWriteSet => true
  | .tailRecord => true
  | .powerFailRecovery => true
  | .pilotStateAccepted _ => true
  | .proximityAccepted _ => true
  | .outStart h outlet profile limImp limExp cur session => h.wf && fits 8 outlet && fits 8 profile && fits 32 limImp && fits 32 limExp && fits 32 cur && decide (session.length = 16)
  | .outStop h outlet reason => h.wf && fits 8 outlet && fits 8 reason
  | .outLimit h outlet limImp limExp cur => h.wf && fits 8 outlet && fits 32 limImp && fits 32 limExp && fits 32 cur
  | .outDeny h outlet reason => h.wf && fits 8 outlet && fits 8 reason
  | .outStatus h outlet => h.wf && fits 8 outlet
  | .outPilotX h outlet mode duty => h.wf && fits 8 outlet && fits 8 mode && fits 16 duty
  | .deferredAdmission => true
  | .authTimeout _ => true
  | .deferralTimeout _ => true
  | .basicFallback _ => true
  | .cableCheckTimeout _ => true
  | .prechargeComplete _ => true
  | .prechargeTimeout _ => true
  | .acStopTimeout _ => true
  | .outOvercurrent _ => true
  | .stopOpening _ => true
  | .outStopLoad _ => true
  | .weldCheckDischarged _ => true
  | .outDischarge _ => true
  | .weldCheckEvaluation _ => true
  | .faultHoldEnd _ => true
  | .statusFrameReceived _ id data => fits 29 id && short 1024 data
  | .pgDeviationFail _ => true
  | .polPgLost _ => true
  | .groupRecovery _ => true
  | .setpointFrameSend _ => true
  | .polCanBusoff _ tec rec => fits 16 tec && fits 16 rec
  | .polCanRecover _ => true
  | .polAssign h outlet mask => h.wf && fits 8 outlet && fits 16 mask
  | .polStatus h => h.wf
  | .polProfileInfo h slot => h.wf && fits 8 slot
  | .polProfileLoadX h slot offset data => h.wf && fits 8 slot && fits 16 offset && decide (data.length = 64)
  | .polPgClearX h group reason => h.wf && fits 8 group && fits 8 reason
  | .moveRampDownEnd _ => true
  | .busMatch _ => true
  | .busMatchTimeout _ => true
  | .moveTakeUpEnd _ => true
  | .tieFeedback _ => true
  | .preambleDetected _ at_ => decide (0 ≤ at_)
  | .frameControlDecoded _ _ lenUs rifs at_ => decide (0 ≤ lenUs) && decide (0 ≤ rifs) && decide (0 ≤ at_)
  | .payloadDecoded _ _ at_ => decide (0 ≤ at_)
  | .vlkLaneMiss _ at_ => decide (0 ≤ at_)
  | .sackSent _ at_ => decide (0 ≤ at_)
  | .cmSlacParmReq _ runId => fits 64 runId
  | .mSound _ runId attenuation => fits 64 runId && fits 8 attenuation
  | .cmSlacMatchReq _ runId => fits 64 runId
  | .cmValidateReq _ runId => fits 64 runId
  | .vlkSlacRetry _ => true
  | .vlkSlacMatched _ => true
  | .vlkLinkLost _ cause => fits 8 cause
  | .slacInitTimeout _ => true
  | .slacJoinTimeout _ => true
  | .setupTimeout _ => true
  | .sequenceTimeout _ => true
  | .resumeTimeout _ => true
  | .sdpRequest _ _ => true
  | .tcpConnection _ => true
  | .tcpReset _ => true
  | .clientHello _ _ _ => true
  | .tlsHandshakeComplete _ _ alert => fits 8 alert
  | .supportedAppProtocolReq _ _ => true
  | .t1sPlcaRunning _ => true
  | .t1sLinkLoss _ _ => true
  | .sessionSetupReq _ evccid sessionId => fits 48 evccid && fits 64 sessionId
  | .authorizationReq _ payment _ => fits 8 payment
  | .paymentDetailsReq _ emaid _ leafKey => short 16 emaid && fits 8 leafKey
  | .serviceDiscoveryReq _ => true
  | .chargeParameterDiscoveryReq _ energy departure vMax _ maxP maxDis _ => fits 32 energy && fits 32 departure && fits 32 vMax && fits 32 maxP && fits 32 maxDis
  | .cableCheckReq _ => true
  | .preChargeReq _ target => fits 32 target
  | .powerDeliveryReqStart _ => true
  | .currentDemandReq _ target _ soc => fits 32 target && decide (soc ≤ 100)
  | .chargingStatusReq _ _ soc => decide (soc ≤ 100)
  | .powerDeliveryReqStop _ _ _ => true
  | .weldingDetectionReq _ => true
  | .meteringReceiptReq _ _ _ => true
  | .certificateInstallationReq _ _ body => short 1024 body
  | .responseHandoff _ => true
  | .vlkHostWait _ => true
  | .vehicleStatusRecord _ => true
  | .vlkStatus h outlet => h.wf && fits 8 outlet
  | .vlkSchedule h outlet part total data => h.wf && fits 8 outlet && fits 8 part && fits 8 total && short 1020 data
  | .vlkCertResp h outlet part total status data => h.wf && fits 8 outlet && fits 8 part && fits 8 total && fits 8 status && short 1020 data
  | .vlkStatsClear h outlet => h.wf && fits 8 outlet
  | .vlkKeygenX h slot curve => h.wf && fits 8 slot && fits 8 curve
  | .vlkCertLoadX h slot part total data => h.wf && fits 8 slot && fits 8 part && fits 8 total && short 1020 data
  | .vlkKeyClearX h slot => h.wf && fits 8 slot
  | .vlkLoopbackX h outlet => h.wf && fits 8 outlet
  | .partSequenceTimeout _ => true
  | .mtrModFault _ cause => fits 8 cause
  | .mtrModOk _ => true
  | .zeroCrossing _ => true
  | .mtrZcLost _ => true
  | .settleBoundary _ => true
  | .pulseOutput _ => true
  | .harmonicsRefresh _ => true
  | .mtrRead h slot => h.wf && fits 8 slot
  | .mtrHarm h slot channel => h.wf && fits 8 slot && fits 8 channel
  | .mtrCalInfo h slot => h.wf && fits 8 slot
  | .mtrCalOpenX h slot band => h.wf && fits 8 slot && fits 8 band
  | .mtrCalMeasureX h slot count => h.wf && fits 8 slot && fits 16 count
  | .mtrCalDone _ => true
  | .mtrCalResultX h slot => h.wf && fits 8 slot
  | .mtrCalSealX h slot => h.wf && fits 8 slot
  | .mtrCalCloseX h slot => h.wf && fits 8 slot
  | .fltMtrEngine => true
  | .mtrEngineRestart => true
  | .checkValueRecompute value => decide (value.length = 8)
  | .legInterval => true
  | .legTariff => true
  | .slewComplete => true
  | .foldEnd => true
  | .persistWriteSet => true
  | .readingSnapshot counter => fits 32 counter
  | .signatureStart => true
  | .legReadingReady counter => fits 32 counter
  | .accessTimeout => true
  | .sealN _ => true
  | .legRead h slot count codes => h.wf && fits 8 slot && fits 8 count && decide (codes.length = count) && codes.all (fits 16)
  | .legReading h slot kind curve => h.wf && fits 8 slot && fits 8 kind && fits 8 curve
  | .legReadingGet h counter => h.wf && fits 32 counter
  | .legClockSet h mode value => h.wf && fits 8 mode && inRange 64 value
  | .legClockRead h => h.wf
  | .legTariffSet h tariff hold mode frame => h.wf && fits 8 tariff && fits 8 hold && fits 8 mode && fits 48 frame
  | .tariffSelectionApply => true
  | .legTariffInfo h => h.wf
  | .legLogRead h area count first => h.wf && fits 8 area && fits 8 count && fits 32 first
  | .legProfileRead h slot count first => h.wf && fits 8 slot && fits 8 count && fits 32 first
  | .legInfo h => h.wf
  | .legTzSet h offset => h.wf && inRange 16 offset
  | .legTariffLoadX h slot offset data => h.wf && fits 8 slot && fits 16 offset && decide (data.length = 128)
  | .legAccessX h action => h.wf && fits 8 action
  | .legCfgStageX h count entries => h.wf && fits 8 count && decide (entries.length = count) && entries.all PEntry.wf
  | .legCfgSealX h => h.wf
  | .legCfgDiscardX h => h.wf
  | .efiRdcTrip _ => true
  | .rdcOffsetMeasure _ => true
  | .rdcSelfTestEnd _ => true
  | .efiRdcFault _ => true
  | .portAssignment _ => true
  | .sliceReadbackFail _ => true
  | .insulationResult _ kOhm => fits 32 kOhm
  | .sliceEnd _ => true
  | .imdStaleTrip _ => true
  | .balanceTrip _ => true
  | .efiCouplingFault _ => true
  | .referenceTest _ _ => true
  | .peMeasurement _ mOhm => fits 32 mOhm
  | .efiStatus h outlet => h.wf && fits 8 outlet
  | .efiRdcTest h outlet => h.wf && fits 8 outlet
  | .efiImdTestX h port => h.wf && fits 8 port
  | .safeInputAccepted _ _ => true
  | .safeInputDiscrepancy _ => true
  | .testPulseMissing _ _ => true
  | .outputTest _ kind => fits 8 kind
  | .soOvercurrent _ => true
  | .contactorFeedback _ => true
  | .garnetStop cause => fits 8 cause
  | .safCpLoss _ => true
  | .safCdEnable h cd action => h.wf && fits 8 cd && fits 8 action
  | .brakeRelease _ => true
  | .ss1Timeout _ => true
  | .safBrakeTest h cd => h.wf && fits 8 cd
  | .brakeTestWindowStart _ => true
  | .brakeTestEnd _ => true
  | .safBrakeDue _ => true
  | .scfgN _ => true
  | .safStatus h => h.wf
  | .safWhy h object => h.wf && fits 8 object
  | .safReset h mask => h.wf && fits 8 mask
  | .safInfo h => h.wf
  | .safCfgStageX h count entries => h.wf && fits 8 count && decide (entries.length = count) && entries.all PEntry.wf
  | .safCfgVerifyX h => h.wf
  | .safCfgCommitX h signature => h.wf && fits 32 signature
  | .safCfgDiscardX h => h.wf
  | .auxSet h channel mode duty => h.wf && fits 8 channel && fits 8 mode && fits 16 duty
  | .auxStatus h => h.wf
  | .auxClear h channel reason => h.wf && fits 8 channel && fits 8 reason
  | .shortCircuit _ => true
  | .thermalTrip _ => true
  | .thermalLatchClear _ => true
  | .overcurrentTrip _ => true
  | .auxOpenLoad _ => true
  | .auxLoadOk _ => true
  | .queuedStart => true
  | .blankingEnd _ => true
  | .retryDelayEnd _ => true
  | .retryWindowEnd _ => true
  | .auxUv => true
  | .auxUvOk => true
  | .auxCtrlFault check => fits 8 check
  | .plcFrameReceived f => f.wf
  | .addrConflictEnd => true
  | .helloSend => true
  | .slkNode addr => fits 6 addr
  | .plcRetransmit dest => fits 8 dest
  | .toneMapRefresh addr => fits 6 addr
  | .beaconSend => true
  | .beaconRelay hop => fits 4 hop
  | .beaconReceived b => b.wf
  | .holdoverStart => true
  | .holdoverExpiry => true
  | .rootElection => true
  | .rootTakeover => true
  | .slkProfile => true
  | .slkStatus h => h.wf
  | .slkNodes h page => h.wf && fits 8 page
  | .slkSend h dest flags data => h.wf && fits 8 dest && fits 8 flags && short 1020 data
  | .slkSched h type siteC group body => h.wf && fits 8 type && fits 48 siteC && fits 64 group && short 1008 body
  | .schedDistribute num => fits 8 num
  | .schedAckDeadline num => fits 8 num
  | .schedActionReceived source num type siteC group body => fits 6 source && fits 8 num && fits 8 type && fits 48 siteC && fits 64 group && short 1024 body
  | .schedActionApply source num => fits 6 source && fits 8 num
  | .schedCancelReceived source num => fits 6 source && fits 8 num
  | .slkSchedCancel h num => h.wf && fits 8 num
  | .slkSchedList h => h.wf
  | .schedOutcome num => fits 8 num
  | .wakeRequestSend dest => fits 8 dest
  | .slkKeySetX h key => h.wf && decide (key.length = 16)
  | .slkTonemapX h node action => h.wf && fits 8 node && fits 8 action
  | .lpPing _ _ => true
  | .lpCalibration _ _ => true
  | .poll found => found.all CardAnswer.wf
  | .cardSelected c => c.wf
  | .presenceCheck handle _ => fits 8 handle
  | .handleIdleTimeout handle => fits 8 handle
  | .exchangeAnswer status data => fits 8 status && short 1024 data
  | .nfcField _ => true
  | .tagFrameReceived frame => short 256 frame
  | .phoneUpdateBinary => true
  | .tagStart => true
  | .nfcTagDone => true
  | .fdRelease => true
  | .nfcStatus h => h.wf
  | .nfcRdPoll h => h.wf
  | .nfcRdXchg h handle len data => h.wf && fits 8 handle && fits 16 len && short 1020 data
  | .nfcRdRelease h handle => h.wf && fits 8 handle
  | .nfcTagRead h file offset len => h.wf && fits 16 file && fits 16 offset && fits 8 len
  | .nfcTagWrite h file offset len data => h.wf && fits 16 file && fits 16 offset && fits 8 len && short 1016 data
  | .nfcInfo h => h.wf
  | .nfcSigLoadX h slot profile => h.wf && fits 8 slot && decide (profile.length = 192)
  | .nfcLpCalX h => h.wf
  | .legalComposition => true
  | .dspCrcOk => true
  | .dspBiasFault => true
  | .checkScreenEnd => true
  | .mapChunkTimeout => true
  | .dspStatus h => h.wf
  | .dspWrite h row count data => h.wf && fits 8 row && fits 8 count && short 1020 data
  | .dspRead h row count => h.wf && fits 8 row && fits 8 count
  | .dspShowCheck h => h.wf
  | .dspMapLoadX h chunk data => h.wf && fits 8 chunk && decide (data.length = 256)
  | .fenceBuild => true
  | .fltFence _ => true
  | .retirementRecord => true
  | .fltReturn _ => true
  | .lockstepMismatch => true
  | .fltAgate => true
  | .fltSelfcheck _ check => fits 8 check
  | .fltStatus h => h.wf
  | .fltLogRead h first count => h.wf && fits 32 first && fits 8 count
  | .fltReturnX h kind number reason => h.wf && fits 8 kind && fits 8 number && decide (reason.length = 32)
  | .fltRetireX h kind number reason => h.wf && fits 8 kind && fits 8 number && decide (reason.length = 32)
  | .updStatus h => h.wf
  | .updOpenX h region flags length identity => h.wf && fits 8 region && fits 8 flags && fits 32 length && fits 64 identity
  | .updWriteX h region len offset data _ => h.wf && fits 8 region && fits 16 len && fits 32 offset && short 1016 data
  | .updFinishX h region => h.wf && fits 8 region
  | .updScheduleX h mask mode frame => h.wf && fits 8 mask && fits 8 mode && fits 48 frame
  | .updCancelX h => h.wf
  | .updAbandonX h region => h.wf && fits 8 region
  | .updSiteSendX h region group => h.wf && fits 8 region && fits 64 group
  | .siteBlockSend => true
  | .siteBlockReceived source number offset data => fits 6 source && fits 8 number && fits 32 offset && short 1024 data
  | .updateActReceived source num siteC identity => fits 6 source && fits 8 num && fits 48 siteC && fits 64 identity
  | .updActivation => true
  | .activationWaitExpiry => true
  | .vioLow => true
  | .pilotSupplyFault => true
  | .pilotSupplyOk => true
  | .vioRestored => true
  | .agateUnitsRestarted => true
  | .tieWeldCleared _ => true

/-- The packet header of a command of the host; none for an input, a message or an event of the part. -/
def Instr.header : Instr → Option Hdr
  | .frameTick _ => none
  | .sysPartnerLost _ => none
  | .sysSlotOvrun _ => none
  | .writePacket _ => none
  | .readReply _ => none
  | .readStatus => none
  | .linkSync => none
  | .linkReady => none
  | .datagramReceived _ _ => none
  | .packetAdmission => none
  | .ethSessionTimeout _ => none
  | .cmdHostLost => none
  | .nop h => some h
  | .identify h => some h
  | .linkInfo h _ => some h
  | .ethHello h _ _ => some h
  | .ethClose h => some h
  | .frameRead h => some h
  | .pskSet h _ _ => some h
  | .pskClear h _ => some h
  | .reset h _ => some h
  | .paramRead h _ _ => some h
  | .paramWrite h _ _ => some h
  | .paramInfo h _ => some h
  | .paramList h _ _ => some h
  | .paramWriteX h _ _ => some h
  | .paramDefaultX h _ => some h
  | .paramPersist => none
  | .queueRead h _ _ => some h
  | .queueDrop h _ => some h
  | .queueStatus h _ _ => some h
  | .txnOpen h => some h
  | .txnStage h _ _ => some h
  | .txnCheck h => some h
  | .txnCommit h _ _ => some h
  | .txnAbort h => some h
  | .txnQuery h => some h
  | .txnList h => some h
  | .txnIdleTimeout _ => none
  | .finalCheck _ => none
  | .txnCommitted _ => none
  | .txnRollback _ => none
  | .rollbackPhase1 _ => none
  | .rollbackPhase2 _ => none
  | .setpointCurrentRestore _ => none
  | .stxnPrepareResend _ => none
  | .stxnPrepareReceived _ _ _ _ => none
  | .stxnVoteDeadline _ => none
  | .stxnAbortResend _ => none
  | .stxnAbortReceived _ _ => none
  | .stxnApply _ _ => none
  | .stxnOutcomeReport _ _ _ => none
  | .stxnDone _ => none
  | .powerOn _ _ _ => none
  | .mainInputLow _ => none
  | .rstN _ => none
  | .resetRelease => none
  | .garnetUp _ _ _ => none
  | .onyxUp _ _ => none
  | .coarseService => none
  | .imageVerified _ => none
  | .loopbackSelfTest _ _ _ _ => none
  | .fullService => none
  | .cellMonitor _ => none
  | .tamperSample _ _ => none
  | .powerFailDetected _ => none
  | .powerDownOpen => none
  | .powerFailWriteSet => none
  | .tailRecord => none
  | .powerFailRecovery => none
  | .pilotStateAccepted _ => none
  | .proximityAccepted _ => none
  | .outStart h _ _ _ _ _ _ => some h
  | .outStop h _ _ => some h
  | .outLimit h _ _ _ _ => some h
  | .outDeny h _ _ => some h
  | .outStatus h _ => some h
  | .outPilotX h _ _ _ => some h
  | .deferredAdmission => none
  | .authTimeout _ => none
  | .deferralTimeout _ => none
  | .basicFallback _ => none
  | .cableCheckTimeout _ => none
  | .prechargeComplete _ => none
  | .prechargeTimeout _ => none
  | .acStopTimeout _ => none
  | .outOvercurrent _ => none
  | .stopOpening _ => none
  | .outStopLoad _ => none
  | .weldCheckDischarged _ => none
  | .outDischarge _ => none
  | .weldCheckEvaluation _ => none
  | .faultHoldEnd _ => none
  | .statusFrameReceived _ _ _ => none
  | .pgDeviationFail _ => none
  | .polPgLost _ => none
  | .groupRecovery _ => none
  | .setpointFrameSend _ => none
  | .polCanBusoff _ _ _ => none
  | .polCanRecover _ => none
  | .polAssign h _ _ => some h
  | .polStatus h => some h
  | .polProfileInfo h _ => some h
  | .polProfileLoadX h _ _ _ => some h
  | .polPgClearX h _ _ => some h
  | .moveRampDownEnd _ => none
  | .busMatch _ => none
  | .busMatchTimeout _ => none
  | .moveTakeUpEnd _ => none
  | .tieFeedback _ => none
  | .preambleDetected _ _ => none
  | .frameControlDecoded _ _ _ _ _ => none
  | .payloadDecoded _ _ _ => none
  | .vlkLaneMiss _ _ => none
  | .sackSent _ _ => none
  | .cmSlacParmReq _ _ => none
  | .mSound _ _ _ => none
  | .cmSlacMatchReq _ _ => none
  | .cmValidateReq _ _ => none
  | .vlkSlacRetry _ => none
  | .vlkSlacMatched _ => none
  | .vlkLinkLost _ _ => none
  | .slacInitTimeout _ => none
  | .slacJoinTimeout _ => none
  | .setupTimeout _ => none
  | .sequenceTimeout _ => none
  | .resumeTimeout _ => none
  | .sdpRequest _ _ => none
  | .tcpConnection _ => none
  | .tcpReset _ => none
  | .clientHello _ _ _ => none
  | .tlsHandshakeComplete _ _ _ => none
  | .supportedAppProtocolReq _ _ => none
  | .t1sPlcaRunning _ => none
  | .t1sLinkLoss _ _ => none
  | .sessionSetupReq _ _ _ => none
  | .authorizationReq _ _ _ => none
  | .paymentDetailsReq _ _ _ _ => none
  | .serviceDiscoveryReq _ => none
  | .chargeParameterDiscoveryReq _ _ _ _ _ _ _ _ => none
  | .cableCheckReq _ => none
  | .preChargeReq _ _ => none
  | .powerDeliveryReqStart _ => none
  | .currentDemandReq _ _ _ _ => none
  | .chargingStatusReq _ _ _ => none
  | .powerDeliveryReqStop _ _ _ => none
  | .weldingDetectionReq _ => none
  | .meteringReceiptReq _ _ _ => none
  | .certificateInstallationReq _ _ _ => none
  | .responseHandoff _ => none
  | .vlkHostWait _ => none
  | .vehicleStatusRecord _ => none
  | .vlkStatus h _ => some h
  | .vlkSchedule h _ _ _ _ => some h
  | .vlkCertResp h _ _ _ _ _ => some h
  | .vlkStatsClear h _ => some h
  | .vlkKeygenX h _ _ => some h
  | .vlkCertLoadX h _ _ _ _ => some h
  | .vlkKeyClearX h _ => some h
  | .vlkLoopbackX h _ => some h
  | .partSequenceTimeout _ => none
  | .mtrModFault _ _ => none
  | .mtrModOk _ => none
  | .zeroCrossing _ => none
  | .mtrZcLost _ => none
  | .settleBoundary _ => none
  | .pulseOutput _ => none
  | .harmonicsRefresh _ => none
  | .mtrRead h _ => some h
  | .mtrHarm h _ _ => some h
  | .mtrCalInfo h _ => some h
  | .mtrCalOpenX h _ _ => some h
  | .mtrCalMeasureX h _ _ => some h
  | .mtrCalDone _ => none
  | .mtrCalResultX h _ => some h
  | .mtrCalSealX h _ => some h
  | .mtrCalCloseX h _ => some h
  | .fltMtrEngine => none
  | .mtrEngineRestart => none
  | .checkValueRecompute _ => none
  | .legInterval => none
  | .legTariff => none
  | .slewComplete => none
  | .foldEnd => none
  | .persistWriteSet => none
  | .readingSnapshot _ => none
  | .signatureStart => none
  | .legReadingReady _ => none
  | .accessTimeout => none
  | .sealN _ => none
  | .legRead h _ _ _ => some h
  | .legReading h _ _ _ => some h
  | .legReadingGet h _ => some h
  | .legClockSet h _ _ => some h
  | .legClockRead h => some h
  | .legTariffSet h _ _ _ _ => some h
  | .tariffSelectionApply => none
  | .legTariffInfo h => some h
  | .legLogRead h _ _ _ => some h
  | .legProfileRead h _ _ _ => some h
  | .legInfo h => some h
  | .legTzSet h _ => some h
  | .legTariffLoadX h _ _ _ => some h
  | .legAccessX h _ => some h
  | .legCfgStageX h _ _ => some h
  | .legCfgSealX h => some h
  | .legCfgDiscardX h => some h
  | .efiRdcTrip _ => none
  | .rdcOffsetMeasure _ => none
  | .rdcSelfTestEnd _ => none
  | .efiRdcFault _ => none
  | .portAssignment _ => none
  | .sliceReadbackFail _ => none
  | .insulationResult _ _ => none
  | .sliceEnd _ => none
  | .imdStaleTrip _ => none
  | .balanceTrip _ => none
  | .efiCouplingFault _ => none
  | .referenceTest _ _ => none
  | .peMeasurement _ _ => none
  | .efiStatus h _ => some h
  | .efiRdcTest h _ => some h
  | .efiImdTestX h _ => some h
  | .safeInputAccepted _ _ => none
  | .safeInputDiscrepancy _ => none
  | .testPulseMissing _ _ => none
  | .outputTest _ _ => none
  | .soOvercurrent _ => none
  | .contactorFeedback _ => none
  | .garnetStop _ => none
  | .safCpLoss _ => none
  | .safCdEnable h _ _ => some h
  | .brakeRelease _ => none
  | .ss1Timeout _ => none
  | .safBrakeTest h _ => some h
  | .brakeTestWindowStart _ => none
  | .brakeTestEnd _ => none
  | .safBrakeDue _ => none
  | .scfgN _ => none
  | .safStatus h => some h
  | .safWhy h _ => some h
  | .safReset h _ => some h
  | .safInfo h => some h
  | .safCfgStageX h _ _ => some h
  | .safCfgVerifyX h => some h
  | .safCfgCommitX h _ => some h
  | .safCfgDiscardX h => some h
  | .auxSet h _ _ _ => some h
  | .auxStatus h => some h
  | .auxClear h _ _ => some h
  | .shortCircuit _ => none
  | .thermalTrip _ => none
  | .thermalLatchClear _ => none
  | .overcurrentTrip _ => none
  | .auxOpenLoad _ => none
  | .auxLoadOk _ => none
  | .queuedStart => none
  | .blankingEnd _ => none
  | .retryDelayEnd _ => none
  | .retryWindowEnd _ => none
  | .auxUv => none
  | .auxUvOk => none
  | .auxCtrlFault _ => none
  | .plcFrameReceived _ => none
  | .addrConflictEnd => none
  | .helloSend => none
  | .slkNode _ => none
  | .plcRetransmit _ => none
  | .toneMapRefresh _ => none
  | .beaconSend => none
  | .beaconRelay _ => none
  | .beaconReceived _ => none
  | .holdoverStart => none
  | .holdoverExpiry => none
  | .rootElection => none
  | .rootTakeover => none
  | .slkProfile => none
  | .slkStatus h => some h
  | .slkNodes h _ => some h
  | .slkSend h _ _ _ => some h
  | .slkSched h _ _ _ _ => some h
  | .schedDistribute _ => none
  | .schedAckDeadline _ => none
  | .schedActionReceived _ _ _ _ _ _ => none
  | .schedActionApply _ _ => none
  | .schedCancelReceived _ _ => none
  | .slkSchedCancel h _ => some h
  | .slkSchedList h => some h
  | .schedOutcome _ => none
  | .wakeRequestSend _ => none
  | .slkKeySetX h _ => some h
  | .slkTonemapX h _ _ => some h
  | .lpPing _ _ => none
  | .lpCalibration _ _ => none
  | .poll _ => none
  | .cardSelected _ => none
  | .presenceCheck _ _ => none
  | .handleIdleTimeout _ => none
  | .exchangeAnswer _ _ => none
  | .nfcField _ => none
  | .tagFrameReceived _ => none
  | .phoneUpdateBinary => none
  | .tagStart => none
  | .nfcTagDone => none
  | .fdRelease => none
  | .nfcStatus h => some h
  | .nfcRdPoll h => some h
  | .nfcRdXchg h _ _ _ => some h
  | .nfcRdRelease h _ => some h
  | .nfcTagRead h _ _ _ => some h
  | .nfcTagWrite h _ _ _ _ => some h
  | .nfcInfo h => some h
  | .nfcSigLoadX h _ _ => some h
  | .nfcLpCalX h => some h
  | .legalComposition => none
  | .dspCrcOk => none
  | .dspBiasFault => none
  | .checkScreenEnd => none
  | .mapChunkTimeout => none
  | .dspStatus h => some h
  | .dspWrite h _ _ _ => some h
  | .dspRead h _ _ => some h
  | .dspShowCheck h => some h
  | .dspMapLoadX h _ _ => some h
  | .fenceBuild => none
  | .fltFence _ => none
  | .retirementRecord => none
  | .fltReturn _ => none
  | .lockstepMismatch => none
  | .fltAgate => none
  | .fltSelfcheck _ _ => none
  | .fltStatus h => some h
  | .fltLogRead h _ _ => some h
  | .fltReturnX h _ _ _ => some h
  | .fltRetireX h _ _ _ => some h
  | .updStatus h => some h
  | .updOpenX h _ _ _ _ => some h
  | .updWriteX h _ _ _ _ _ => some h
  | .updFinishX h _ => some h
  | .updScheduleX h _ _ _ => some h
  | .updCancelX h => some h
  | .updAbandonX h _ => some h
  | .updSiteSendX h _ _ => some h
  | .siteBlockSend => none
  | .siteBlockReceived _ _ _ _ => none
  | .updateActReceived _ _ _ _ => none
  | .updActivation => none
  | .activationWaitExpiry => none
  | .vioLow => none
  | .pilotSupplyFault => none
  | .pilotSupplyOk => none
  | .vioRestored => none
  | .agateUnitsRestarted => none
  | .tieWeldCleared _ => none

end Sys2Proof
end

