-- ==== Sys2Proof/Laws/PerInstr.lean ====
section
/-! SUPPORT. The family Wf: a well-formed command of the host carries a well-formed header (Table CMD-1). The statement is about the
command as syntax; one lemma for each constructor of Instr. -/

/-- A well-formed command's header, where it has one, is well formed. -/
def Sys2Proof.Laws.Wf.Statement (i : Sys2Proof.Instr) : Prop := i.wf = true → ∀ h, i.header = some h → h.wf = true

namespace Sys2Proof.Laws.Wf

open Sys2Proof

/-- The first of two checks that both hold. -/
theorem left {a b : Bool} (h : (a && b) = true) : a = true := (Bool.and_eq_true _ _ ▸ h : a = true ∧ b = true).1

/-- A command whose header is `x` and whose checks begin with that of `x`. -/
theorem ofHeader {i : Instr} {x : Hdr} (e : i.header = some x) (w : i.wf = true → x.wf = true) : Statement i :=
  fun hi _ hh => Option.some.inj (e.symm.trans hh) ▸ w hi

/-- A command without a header. -/
theorem ofNone {i : Instr} (e : i.header = none) : Statement i := fun _ _ hh => nomatch e.symm.trans hh

theorem frameTick (e : EdgeIn) : Statement (.frameTick e) := ofNone rfl
theorem sysPartnerLost (beat : Bool) : Statement (.sysPartnerLost beat) := ofNone rfl
theorem sysSlotOvrun (job : SlotJob) : Statement (.sysSlotOvrun job) := ofNone rfl
theorem writePacket (bytes : List Byte) : Statement (.writePacket bytes) := ofNone rfl
theorem readReply (count : Nat) : Statement (.readReply count) := ofNone rfl
theorem readStatus : Statement (.readStatus) := ofNone rfl
theorem linkSync : Statement (.linkSync) := ofNone rfl
theorem linkReady : Statement (.linkReady) := ofNone rfl
theorem datagramReceived (peer : Nat) (bytes : List Byte) : Statement (.datagramReceived peer bytes) := ofNone rfl
theorem packetAdmission : Statement (.packetAdmission) := ofNone rfl
theorem ethSessionTimeout (i : Fin 2) : Statement (.ethSessionTimeout i) := ofNone rfl
theorem cmdHostLost : Statement (.cmdHostLost) := ofNone rfl
theorem nop (h : Hdr) : Statement (.nop h) := ofHeader rfl fun w => w
theorem identify (h : Hdr) : Statement (.identify h) := ofHeader rfl fun w => w
theorem linkInfo (h : Hdr) (flags : Nat) : Statement (.linkInfo h flags) := ofHeader rfl fun w => left w
theorem ethHello (h : Hdr) (slot : Nat) (nonce : List Byte) : Statement (.ethHello h slot nonce) := ofHeader rfl fun w => (left (left w))
theorem ethClose (h : Hdr) : Statement (.ethClose h) := ofHeader rfl fun w => w
theorem frameRead (h : Hdr) : Statement (.frameRead h) := ofHeader rfl fun w => w
theorem pskSet (h : Hdr) (slot : Nat) (key : List Byte) : Statement (.pskSet h slot key) := ofHeader rfl fun w => (left (left w))
theorem pskClear (h : Hdr) (slot : Nat) : Statement (.pskClear h slot) := ofHeader rfl fun w => left w
theorem reset (h : Hdr) (reason : Nat) : Statement (.reset h reason) := ofHeader rfl fun w => left w
theorem paramRead (h : Hdr) (count : Nat) (entries : List PRef) : Statement (.paramRead h count entries) := ofHeader rfl fun w => (left (left (left w)))
theorem paramWrite (h : Hdr) (count : Nat) (entries : List PEntry) : Statement (.paramWrite h count entries) := ofHeader rfl fun w => (left (left (left w)))
theorem paramInfo (h : Hdr) (id : Nat) : Statement (.paramInfo h id) := ofHeader rfl fun w => left w
theorem paramList (h : Hdr) (area : Nat) (page : Nat) : Statement (.paramList h area page) := ofHeader rfl fun w => (left (left w))
theorem paramWriteX (h : Hdr) (count : Nat) (entries : List PEntry) : Statement (.paramWriteX h count entries) := ofHeader rfl fun w => (left (left (left w)))
theorem paramDefaultX (h : Hdr) (area : Nat) : Statement (.paramDefaultX h area) := ofHeader rfl fun w => left w
theorem paramPersist : Statement (.paramPersist) := ofNone rfl
theorem queueRead (h : Hdr) (queue : Nat) (words : Nat) : Statement (.queueRead h queue words) := ofHeader rfl fun w => (left (left w))
theorem queueDrop (h : Hdr) (queue : Nat) : Statement (.queueDrop h queue) := ofHeader rfl fun w => left w
theorem queueStatus (h : Hdr) (queue : Nat) (flags : Nat) : Statement (.queueStatus h queue flags) := ofHeader rfl fun w => (left (left w))
theorem txnOpen (h : Hdr) : Statement (.txnOpen h) := ofHeader rfl fun w => w
theorem txnStage (h : Hdr) (count : Nat) (acts : List ActRec) : Statement (.txnStage h count acts) := ofHeader rfl fun w => (left (left (left w)))
theorem txnCheck (h : Hdr) : Statement (.txnCheck h) := ofHeader rfl fun w => w
theorem txnCommit (h : Hdr) (mode : Nat) (frame : Nat) : Statement (.txnCommit h mode frame) := ofHeader rfl fun w => (left (left w))
theorem txnAbort (h : Hdr) : Statement (.txnAbort h) := ofHeader rfl fun w => w
theorem txnQuery (h : Hdr) : Statement (.txnQuery h) := ofHeader rfl fun w => w
theorem txnList (h : Hdr) : Statement (.txnList h) := ofHeader rfl fun w => w
theorem txnIdleTimeout (n : Nat) : Statement (.txnIdleTimeout n) := ofNone rfl
theorem finalCheck (n : Nat) : Statement (.finalCheck n) := ofNone rfl
theorem txnCommitted (n : Nat) : Statement (.txnCommitted n) := ofNone rfl
theorem txnRollback (n : Nat) : Statement (.txnRollback n) := ofNone rfl
theorem rollbackPhase1 (n : Nat) : Statement (.rollbackPhase1 n) := ofNone rfl
theorem rollbackPhase2 (n : Nat) : Statement (.rollbackPhase2 n) := ofNone rfl
theorem setpointCurrentRestore (n : Nat) : Statement (.setpointCurrentRestore n) := ofNone rfl
theorem stxnPrepareResend (n : Nat) : Statement (.stxnPrepareResend n) := ofNone rfl
theorem stxnPrepareReceived (source : Nat) (number : Nat) (siteC : Nat) (acts : List ActRec) : Statement (.stxnPrepareReceived source number siteC acts) := ofNone rfl
theorem stxnVoteDeadline (n : Nat) : Statement (.stxnVoteDeadline n) := ofNone rfl
theorem stxnAbortResend (n : Nat) : Statement (.stxnAbortResend n) := ofNone rfl
theorem stxnAbortReceived (source : Nat) (number : Nat) : Statement (.stxnAbortReceived source number) := ofNone rfl
theorem stxnApply (source : Nat) (number : Nat) : Statement (.stxnApply source number) := ofNone rfl
theorem stxnOutcomeReport (source : Nat) (number : Nat) (applied : Bool) : Statement (.stxnOutcomeReport source number applied) := ofNone rfl
theorem stxnDone (n : Nat) : Statement (.stxnDone n) := ofNone rfl
theorem powerOn (vmain : Nat) (ticks : Nat) (cell : Nat) : Statement (.powerOn vmain ticks cell) := ofNone rfl
theorem mainInputLow (vmain : Nat) : Statement (.mainInputLow vmain) := ofNone rfl
theorem rstN (ns : Nat) : Statement (.rstN ns) := ofNone rfl
theorem resetRelease : Statement (.resetRelease) := ofNone rfl
theorem garnetUp (ok : Bool) (test : Nat) (fb : List Bool) : Statement (.garnetUp ok test fb) := ofNone rfl
theorem onyxUp (ok : Bool) (test : Nat) : Statement (.onyxUp ok test) := ofNone rfl
theorem coarseService : Statement (.coarseService) := ofNone rfl
theorem imageVerified (sigOk : Bool) : Statement (.imageVerified sigOk) := ofNone rfl
theorem loopbackSelfTest (port : Fin 8) (ok : Bool) (exchange : Nat) (snr : Nat) : Statement (.loopbackSelfTest port ok exchange snr) := ofNone rfl
theorem fullService : Statement (.fullService) := ofNone rfl
theorem cellMonitor (mV : Nat) : Statement (.cellMonitor mV) := ofNone rfl
theorem tamperSample (open0 : Bool) (open1 : Bool) : Statement (.tamperSample open0 open1) := ofNone rfl
theorem powerFailDetected (e : EdgeIn) : Statement (.powerFailDetected e) := ofNone rfl
theorem powerDownOpen : Statement (.powerDownOpen) := ofNone rfl
theorem powerFailWriteSet : Statement (.powerFailWriteSet) := ofNone rfl
theorem tailRecord : Statement (.tailRecord) := ofNone rfl
theorem powerFailRecovery : Statement (.powerFailRecovery) := ofNone rfl
theorem pilotStateAccepted (k : Fin 8) : Statement (.pilotStateAccepted k) := ofNone rfl
theorem proximityAccepted (k : Fin 8) : Statement (.proximityAccepted k) := ofNone rfl
theorem outStart (h : Hdr) (outlet : Nat) (profile : Nat) (limImp : Nat) (limExp : Nat) (cur : Nat) (session : List Byte) : Statement (.outStart h outlet profile limImp limExp cur session) := ofHeader rfl fun w => (left (left (left (left (left (left w))))))
theorem outStop (h : Hdr) (outlet : Nat) (reason : Nat) : Statement (.outStop h outlet reason) := ofHeader rfl fun w => (left (left w))
theorem outLimit (h : Hdr) (outlet : Nat) (limImp : Nat) (limExp : Nat) (cur : Nat) : Statement (.outLimit h outlet limImp limExp cur) := ofHeader rfl fun w => (left (left (left (left w))))
theorem outDeny (h : Hdr) (outlet : Nat) (reason : Nat) : Statement (.outDeny h outlet reason) := ofHeader rfl fun w => (left (left w))
theorem outStatus (h : Hdr) (outlet : Nat) : Statement (.outStatus h outlet) := ofHeader rfl fun w => left w
theorem outPilotX (h : Hdr) (outlet : Nat) (mode : Nat) (duty : Nat) : Statement (.outPilotX h outlet mode duty) := ofHeader rfl fun w => (left (left (left w)))
theorem deferredAdmission : Statement (.deferredAdmission) := ofNone rfl
theorem authTimeout (k : Fin 8) : Statement (.authTimeout k) := ofNone rfl
theorem deferralTimeout (k : Fin 8) : Statement (.deferralTimeout k) := ofNone rfl
theorem basicFallback (k : Fin 8) : Statement (.basicFallback k) := ofNone rfl
theorem cableCheckTimeout (k : Fin 8) : Statement (.cableCheckTimeout k) := ofNone rfl
theorem prechargeComplete (k : Fin 8) : Statement (.prechargeComplete k) := ofNone rfl
theorem prechargeTimeout (k : Fin 8) : Statement (.prechargeTimeout k) := ofNone rfl
theorem acStopTimeout (k : Fin 8) : Statement (.acStopTimeout k) := ofNone rfl
theorem outOvercurrent (k : Fin 8) : Statement (.outOvercurrent k) := ofNone rfl
theorem stopOpening (k : Fin 8) : Statement (.stopOpening k) := ofNone rfl
theorem outStopLoad (k : Fin 8) : Statement (.outStopLoad k) := ofNone rfl
theorem weldCheckDischarged (k : Fin 8) : Statement (.weldCheckDischarged k) := ofNone rfl
theorem outDischarge (k : Fin 8) : Statement (.outDischarge k) := ofNone rfl
theorem weldCheckEvaluation (k : Fin 8) : Statement (.weldCheckEvaluation k) := ofNone rfl
theorem faultHoldEnd (k : Fin 8) : Statement (.faultHoldEnd k) := ofNone rfl
theorem statusFrameReceived (port : Fin 2) (id : Nat) (data : List Byte) : Statement (.statusFrameReceived port id data) := ofNone rfl
theorem pgDeviationFail (g : Fin 16) : Statement (.pgDeviationFail g) := ofNone rfl
theorem polPgLost (g : Fin 16) : Statement (.polPgLost g) := ofNone rfl
theorem groupRecovery (g : Fin 16) : Statement (.groupRecovery g) := ofNone rfl
theorem setpointFrameSend (g : Fin 16) : Statement (.setpointFrameSend g) := ofNone rfl
theorem polCanBusoff (port : Fin 2) (tec : Nat) (rec : Nat) : Statement (.polCanBusoff port tec rec) := ofNone rfl
theorem polCanRecover (port : Fin 2) : Statement (.polCanRecover port) := ofNone rfl
theorem polAssign (h : Hdr) (outlet : Nat) (mask : Nat) : Statement (.polAssign h outlet mask) := ofHeader rfl fun w => (left (left w))
theorem polStatus (h : Hdr) : Statement (.polStatus h) := ofHeader rfl fun w => w
theorem polProfileInfo (h : Hdr) (slot : Nat) : Statement (.polProfileInfo h slot) := ofHeader rfl fun w => left w
theorem polProfileLoadX (h : Hdr) (slot : Nat) (offset : Nat) (data : List Byte) : Statement (.polProfileLoadX h slot offset data) := ofHeader rfl fun w => (left (left (left w)))
theorem polPgClearX (h : Hdr) (group : Nat) (reason : Nat) : Statement (.polPgClearX h group reason) := ofHeader rfl fun w => (left (left w))
theorem moveRampDownEnd (m : Fin 4) : Statement (.moveRampDownEnd m) := ofNone rfl
theorem busMatch (m : Fin 4) : Statement (.busMatch m) := ofNone rfl
theorem busMatchTimeout (m : Fin 4) : Statement (.busMatchTimeout m) := ofNone rfl
theorem moveTakeUpEnd (m : Fin 4) : Statement (.moveTakeUpEnd m) := ofNone rfl
theorem tieFeedback (t : Fin 8) : Statement (.tieFeedback t) := ofNone rfl
theorem preambleDetected (k : Fin 8) (at_ : Rat) : Statement (.preambleDetected k at_) := ofNone rfl
theorem frameControlDecoded (k : Fin 8) (own : Bool) (lenUs : Rat) (rifs : Rat) (at_ : Rat) : Statement (.frameControlDecoded k own lenUs rifs at_) := ofNone rfl
theorem payloadDecoded (k : Fin 8) (ok : Bool) (at_ : Rat) : Statement (.payloadDecoded k ok at_) := ofNone rfl
theorem vlkLaneMiss (k : Fin 8) (at_ : Rat) : Statement (.vlkLaneMiss k at_) := ofNone rfl
theorem sackSent (k : Fin 8) (at_ : Rat) : Statement (.sackSent k at_) := ofNone rfl
theorem cmSlacParmReq (k : Fin 8) (runId : Nat) : Statement (.cmSlacParmReq k runId) := ofNone rfl
theorem mSound (k : Fin 8) (runId : Nat) (attenuation : Nat) : Statement (.mSound k runId attenuation) := ofNone rfl
theorem cmSlacMatchReq (k : Fin 8) (runId : Nat) : Statement (.cmSlacMatchReq k runId) := ofNone rfl
theorem cmValidateReq (k : Fin 8) (runId : Nat) : Statement (.cmValidateReq k runId) := ofNone rfl
theorem vlkSlacRetry (k : Fin 8) : Statement (.vlkSlacRetry k) := ofNone rfl
theorem vlkSlacMatched (k : Fin 8) : Statement (.vlkSlacMatched k) := ofNone rfl
theorem vlkLinkLost (k : Fin 8) (cause : Nat) : Statement (.vlkLinkLost k cause) := ofNone rfl
theorem slacInitTimeout (k : Fin 8) : Statement (.slacInitTimeout k) := ofNone rfl
theorem slacJoinTimeout (k : Fin 8) : Statement (.slacJoinTimeout k) := ofNone rfl
theorem setupTimeout (k : Fin 8) : Statement (.setupTimeout k) := ofNone rfl
theorem sequenceTimeout (k : Fin 8) : Statement (.sequenceTimeout k) := ofNone rfl
theorem resumeTimeout (k : Fin 8) : Statement (.resumeTimeout k) := ofNone rfl
theorem sdpRequest (k : Fin 8) (tls : Bool) : Statement (.sdpRequest k tls) := ofNone rfl
theorem tcpConnection (k : Fin 8) : Statement (.tcpConnection k) := ofNone rfl
theorem tcpReset (k : Fin 8) : Statement (.tcpReset k) := ofNone rfl
theorem clientHello (k : Fin 8) (v13 : Bool) (acceptable : Bool) : Statement (.clientHello k v13 acceptable) := ofNone rfl
theorem tlsHandshakeComplete (k : Fin 8) (ok : Bool) (alert : Nat) : Statement (.tlsHandshakeComplete k ok alert) := ofNone rfl
theorem supportedAppProtocolReq (k : Fin 8) (offers : List (Nat × Nat)) : Statement (.supportedAppProtocolReq k offers) := ofNone rfl
theorem t1sPlcaRunning (port : Fin 2) : Statement (.t1sPlcaRunning port) := ofNone rfl
theorem t1sLinkLoss (port : Fin 2) (collision : Bool) : Statement (.t1sLinkLoss port collision) := ofNone rfl
theorem sessionSetupReq (k : Fin 8) (evccid : Nat) (sessionId : Nat) : Statement (.sessionSetupReq k evccid sessionId) := ofNone rfl
theorem authorizationReq (k : Fin 8) (payment : Nat) (sigOk : Bool) : Statement (.authorizationReq k payment sigOk) := ofNone rfl
theorem paymentDetailsReq (k : Fin 8) (emaid : List Byte) (chain : List Byte) (leafKey : Nat) : Statement (.paymentDetailsReq k emaid chain leafKey) := ofNone rfl
theorem serviceDiscoveryReq (k : Fin 8) : Statement (.serviceDiscoveryReq k) := ofNone rfl
theorem chargeParameterDiscoveryReq (k : Fin 8) (energy : Nat) (departure : Nat) (vMax : Nat) (maxI : Nat) (maxP : Nat) (maxDis : Nat) (bpt : Bool) : Statement (.chargeParameterDiscoveryReq k energy departure vMax maxI maxP maxDis bpt) := ofNone rfl
theorem cableCheckReq (k : Fin 8) : Statement (.cableCheckReq k) := ofNone rfl
theorem preChargeReq (k : Fin 8) (target : Nat) : Statement (.preChargeReq k target) := ofNone rfl
theorem powerDeliveryReqStart (k : Fin 8) : Statement (.powerDeliveryReqStart k) := ofNone rfl
theorem currentDemandReq (k : Fin 8) (target : Nat) (current : Int) (soc : Nat) : Statement (.currentDemandReq k target current soc) := ofNone rfl
theorem chargingStatusReq (k : Fin 8) (maxI : Option Nat) (soc : Nat) : Statement (.chargingStatusReq k maxI soc) := ofNone rfl
theorem powerDeliveryReqStop (k : Fin 8) (pause : Bool) (sessionStop : Bool) : Statement (.powerDeliveryReqStop k pause sessionStop) := ofNone rfl
theorem weldingDetectionReq (k : Fin 8) : Statement (.weldingDetectionReq k) := ofNone rfl
theorem meteringReceiptReq (k : Fin 8) (sigOk : Bool) (receipt : List Byte) : Statement (.meteringReceiptReq k sigOk receipt) := ofNone rfl
theorem certificateInstallationReq (k : Fin 8) (update : Bool) (body : List Byte) : Statement (.certificateInstallationReq k update body) := ofNone rfl
theorem responseHandoff (k : Fin 8) : Statement (.responseHandoff k) := ofNone rfl
theorem vlkHostWait (k : Fin 8) : Statement (.vlkHostWait k) := ofNone rfl
theorem vehicleStatusRecord (k : Fin 8) : Statement (.vehicleStatusRecord k) := ofNone rfl
theorem vlkStatus (h : Hdr) (outlet : Nat) : Statement (.vlkStatus h outlet) := ofHeader rfl fun w => left w
theorem vlkSchedule (h : Hdr) (outlet : Nat) (part : Nat) (total : Nat) (data : List Byte) : Statement (.vlkSchedule h outlet part total data) := ofHeader rfl fun w => (left (left (left (left w))))
theorem vlkCertResp (h : Hdr) (outlet : Nat) (part : Nat) (total : Nat) (status : Nat) (data : List Byte) : Statement (.vlkCertResp h outlet part total status data) := ofHeader rfl fun w => (left (left (left (left (left w)))))
theorem vlkStatsClear (h : Hdr) (outlet : Nat) : Statement (.vlkStatsClear h outlet) := ofHeader rfl fun w => left w
theorem vlkKeygenX (h : Hdr) (slot : Nat) (curve : Nat) : Statement (.vlkKeygenX h slot curve) := ofHeader rfl fun w => (left (left w))
theorem vlkCertLoadX (h : Hdr) (slot : Nat) (part : Nat) (total : Nat) (data : List Byte) : Statement (.vlkCertLoadX h slot part total data) := ofHeader rfl fun w => (left (left (left (left w))))
theorem vlkKeyClearX (h : Hdr) (slot : Nat) : Statement (.vlkKeyClearX h slot) := ofHeader rfl fun w => left w
theorem vlkLoopbackX (h : Hdr) (outlet : Nat) : Statement (.vlkLoopbackX h outlet) := ofHeader rfl fun w => left w
theorem partSequenceTimeout (of : PartsOf) : Statement (.partSequenceTimeout of) := ofNone rfl
theorem mtrModFault (n : Fin 48) (cause : Nat) : Statement (.mtrModFault n cause) := ofNone rfl
theorem mtrModOk (n : Fin 48) : Statement (.mtrModOk n) := ofNone rfl
theorem zeroCrossing (m : Fin 9) : Statement (.zeroCrossing m) := ofNone rfl
theorem mtrZcLost (m : Fin 9) : Statement (.mtrZcLost m) := ofNone rfl
theorem settleBoundary (m : Fin 9) : Statement (.settleBoundary m) := ofNone rfl
theorem pulseOutput (m : Fin 9) : Statement (.pulseOutput m) := ofNone rfl
theorem harmonicsRefresh (m : Fin 9) : Statement (.harmonicsRefresh m) := ofNone rfl
theorem mtrRead (h : Hdr) (slot : Nat) : Statement (.mtrRead h slot) := ofHeader rfl fun w => left w
theorem mtrHarm (h : Hdr) (slot : Nat) (channel : Nat) : Statement (.mtrHarm h slot channel) := ofHeader rfl fun w => (left (left w))
theorem mtrCalInfo (h : Hdr) (slot : Nat) : Statement (.mtrCalInfo h slot) := ofHeader rfl fun w => left w
theorem mtrCalOpenX (h : Hdr) (slot : Nat) (band : Nat) : Statement (.mtrCalOpenX h slot band) := ofHeader rfl fun w => (left (left w))
theorem mtrCalMeasureX (h : Hdr) (slot : Nat) (count : Nat) : Statement (.mtrCalMeasureX h slot count) := ofHeader rfl fun w => (left (left w))
theorem mtrCalDone (m : Fin 9) : Statement (.mtrCalDone m) := ofNone rfl
theorem mtrCalResultX (h : Hdr) (slot : Nat) : Statement (.mtrCalResultX h slot) := ofHeader rfl fun w => left w
theorem mtrCalSealX (h : Hdr) (slot : Nat) : Statement (.mtrCalSealX h slot) := ofHeader rfl fun w => left w
theorem mtrCalCloseX (h : Hdr) (slot : Nat) : Statement (.mtrCalCloseX h slot) := ofHeader rfl fun w => left w
theorem fltMtrEngine : Statement (.fltMtrEngine) := ofNone rfl
theorem mtrEngineRestart : Statement (.mtrEngineRestart) := ofNone rfl
theorem checkValueRecompute (value : List Byte) : Statement (.checkValueRecompute value) := ofNone rfl
theorem legInterval : Statement (.legInterval) := ofNone rfl
theorem legTariff : Statement (.legTariff) := ofNone rfl
theorem slewComplete : Statement (.slewComplete) := ofNone rfl
theorem foldEnd : Statement (.foldEnd) := ofNone rfl
theorem persistWriteSet : Statement (.persistWriteSet) := ofNone rfl
theorem readingSnapshot (counter : Nat) : Statement (.readingSnapshot counter) := ofNone rfl
theorem signatureStart : Statement (.signatureStart) := ofNone rfl
theorem legReadingReady (counter : Nat) : Statement (.legReadingReady counter) := ofNone rfl
theorem accessTimeout : Statement (.accessTimeout) := ofNone rfl
theorem sealN (high : Bool) : Statement (.sealN high) := ofNone rfl
theorem legRead (h : Hdr) (slot : Nat) (count : Nat) (codes : List Nat) : Statement (.legRead h slot count codes) := ofHeader rfl fun w => (left (left (left (left w))))
theorem legReading (h : Hdr) (slot : Nat) (kind : Nat) (curve : Nat) : Statement (.legReading h slot kind curve) := ofHeader rfl fun w => (left (left (left w)))
theorem legReadingGet (h : Hdr) (counter : Nat) : Statement (.legReadingGet h counter) := ofHeader rfl fun w => left w
theorem legClockSet (h : Hdr) (mode : Nat) (value : Int) : Statement (.legClockSet h mode value) := ofHeader rfl fun w => (left (left w))
theorem legClockRead (h : Hdr) : Statement (.legClockRead h) := ofHeader rfl fun w => w
theorem legTariffSet (h : Hdr) (tariff : Nat) (hold : Nat) (mode : Nat) (frame : Nat) : Statement (.legTariffSet h tariff hold mode frame) := ofHeader rfl fun w => (left (left (left (left w))))
theorem tariffSelectionApply : Statement (.tariffSelectionApply) := ofNone rfl
theorem legTariffInfo (h : Hdr) : Statement (.legTariffInfo h) := ofHeader rfl fun w => w
theorem legLogRead (h : Hdr) (area : Nat) (count : Nat) (first : Nat) : Statement (.legLogRead h area count first) := ofHeader rfl fun w => (left (left (left w)))
theorem legProfileRead (h : Hdr) (slot : Nat) (count : Nat) (first : Nat) : Statement (.legProfileRead h slot count first) := ofHeader rfl fun w => (left (left (left w)))
theorem legInfo (h : Hdr) : Statement (.legInfo h) := ofHeader rfl fun w => w
theorem legTzSet (h : Hdr) (offset : Int) : Statement (.legTzSet h offset) := ofHeader rfl fun w => left w
theorem legTariffLoadX (h : Hdr) (slot : Nat) (offset : Nat) (data : List Byte) : Statement (.legTariffLoadX h slot offset data) := ofHeader rfl fun w => (left (left (left w)))
theorem legAccessX (h : Hdr) (action : Nat) : Statement (.legAccessX h action) := ofHeader rfl fun w => left w
theorem legCfgStageX (h : Hdr) (count : Nat) (entries : List PEntry) : Statement (.legCfgStageX h count entries) := ofHeader rfl fun w => (left (left (left w)))
theorem legCfgSealX (h : Hdr) : Statement (.legCfgSealX h) := ofHeader rfl fun w => w
theorem legCfgDiscardX (h : Hdr) : Statement (.legCfgDiscardX h) := ofHeader rfl fun w => w
theorem efiRdcTrip (k : Fin 8) : Statement (.efiRdcTrip k) := ofNone rfl
theorem rdcOffsetMeasure (k : Fin 8) : Statement (.rdcOffsetMeasure k) := ofNone rfl
theorem rdcSelfTestEnd (k : Fin 8) : Statement (.rdcSelfTestEnd k) := ofNone rfl
theorem efiRdcFault (k : Fin 8) : Statement (.efiRdcFault k) := ofNone rfl
theorem portAssignment (p : Fin 4) : Statement (.portAssignment p) := ofNone rfl
theorem sliceReadbackFail (p : Fin 4) : Statement (.sliceReadbackFail p) := ofNone rfl
theorem insulationResult (p : Fin 4) (kOhm : Nat) : Statement (.insulationResult p kOhm) := ofNone rfl
theorem sliceEnd (p : Fin 4) : Statement (.sliceEnd p) := ofNone rfl
theorem imdStaleTrip (k : Fin 8) : Statement (.imdStaleTrip k) := ofNone rfl
theorem balanceTrip (k : Fin 8) : Statement (.balanceTrip k) := ofNone rfl
theorem efiCouplingFault (k : Fin 8) : Statement (.efiCouplingFault k) := ofNone rfl
theorem referenceTest (p : Fin 4) (ok : Bool) : Statement (.referenceTest p ok) := ofNone rfl
theorem peMeasurement (k : Fin 8) (mOhm : Nat) : Statement (.peMeasurement k mOhm) := ofNone rfl
theorem efiStatus (h : Hdr) (outlet : Nat) : Statement (.efiStatus h outlet) := ofHeader rfl fun w => left w
theorem efiRdcTest (h : Hdr) (outlet : Nat) : Statement (.efiRdcTest h outlet) := ofHeader rfl fun w => left w
theorem efiImdTestX (h : Hdr) (port : Nat) : Statement (.efiImdTestX h port) := ofHeader rfl fun w => left w
theorem safeInputAccepted (i : Fin 16) (b : Bool) : Statement (.safeInputAccepted i b) := ofNone rfl
theorem safeInputDiscrepancy (i : Fin 16) : Statement (.safeInputDiscrepancy i) := ofNone rfl
theorem testPulseMissing (i : Fin 16) (b : Bool) : Statement (.testPulseMissing i b) := ofNone rfl
theorem outputTest (out : Fin 36) (kind : Nat) : Statement (.outputTest out kind) := ofNone rfl
theorem soOvercurrent (so : Fin 32) : Statement (.soOvercurrent so) := ofNone rfl
theorem contactorFeedback (so : Fin 32) : Statement (.contactorFeedback so) := ofNone rfl
theorem garnetStop (cause : Nat) : Statement (.garnetStop cause) := ofNone rfl
theorem safCpLoss (k : Fin 8) : Statement (.safCpLoss k) := ofNone rfl
theorem safCdEnable (h : Hdr) (cd : Nat) (action : Nat) : Statement (.safCdEnable h cd action) := ofHeader rfl fun w => (left (left w))
theorem brakeRelease (c : Fin 2) : Statement (.brakeRelease c) := ofNone rfl
theorem ss1Timeout (c : Fin 2) : Statement (.ss1Timeout c) := ofNone rfl
theorem safBrakeTest (h : Hdr) (cd : Nat) : Statement (.safBrakeTest h cd) := ofHeader rfl fun w => left w
theorem brakeTestWindowStart (c : Fin 2) : Statement (.brakeTestWindowStart c) := ofNone rfl
theorem brakeTestEnd (c : Fin 2) : Statement (.brakeTestEnd c) := ofNone rfl
theorem safBrakeDue (c : Fin 2) : Statement (.safBrakeDue c) := ofNone rfl
theorem scfgN (high : Bool) : Statement (.scfgN high) := ofNone rfl
theorem safStatus (h : Hdr) : Statement (.safStatus h) := ofHeader rfl fun w => w
theorem safWhy (h : Hdr) (object : Nat) : Statement (.safWhy h object) := ofHeader rfl fun w => left w
theorem safReset (h : Hdr) (mask : Nat) : Statement (.safReset h mask) := ofHeader rfl fun w => left w
theorem safInfo (h : Hdr) : Statement (.safInfo h) := ofHeader rfl fun w => w
theorem safCfgStageX (h : Hdr) (count : Nat) (entries : List PEntry) : Statement (.safCfgStageX h count entries) := ofHeader rfl fun w => (left (left (left w)))
theorem safCfgVerifyX (h : Hdr) : Statement (.safCfgVerifyX h) := ofHeader rfl fun w => w
theorem safCfgCommitX (h : Hdr) (signature : Nat) : Statement (.safCfgCommitX h signature) := ofHeader rfl fun w => left w
theorem safCfgDiscardX (h : Hdr) : Statement (.safCfgDiscardX h) := ofHeader rfl fun w => w
theorem auxSet (h : Hdr) (channel : Nat) (mode : Nat) (duty : Nat) : Statement (.auxSet h channel mode duty) := ofHeader rfl fun w => (left (left (left w)))
theorem auxStatus (h : Hdr) : Statement (.auxStatus h) := ofHeader rfl fun w => w
theorem auxClear (h : Hdr) (channel : Nat) (reason : Nat) : Statement (.auxClear h channel reason) := ofHeader rfl fun w => (left (left w))
theorem shortCircuit (n : Fin 12) : Statement (.shortCircuit n) := ofNone rfl
theorem thermalTrip (n : Fin 12) : Statement (.thermalTrip n) := ofNone rfl
theorem thermalLatchClear (n : Fin 12) : Statement (.thermalLatchClear n) := ofNone rfl
theorem overcurrentTrip (n : Fin 12) : Statement (.overcurrentTrip n) := ofNone rfl
theorem auxOpenLoad (n : Fin 12) : Statement (.auxOpenLoad n) := ofNone rfl
theorem auxLoadOk (n : Fin 12) : Statement (.auxLoadOk n) := ofNone rfl
theorem queuedStart : Statement (.queuedStart) := ofNone rfl
theorem blankingEnd (n : Fin 12) : Statement (.blankingEnd n) := ofNone rfl
theorem retryDelayEnd (n : Fin 12) : Statement (.retryDelayEnd n) := ofNone rfl
theorem retryWindowEnd (n : Fin 12) : Statement (.retryWindowEnd n) := ofNone rfl
theorem auxUv : Statement (.auxUv) := ofNone rfl
theorem auxUvOk : Statement (.auxUvOk) := ofNone rfl
theorem auxCtrlFault (check : Nat) : Statement (.auxCtrlFault check) := ofNone rfl
theorem plcFrameReceived (f : PlcFrame) : Statement (.plcFrameReceived f) := ofNone rfl
theorem addrConflictEnd : Statement (.addrConflictEnd) := ofNone rfl
theorem helloSend : Statement (.helloSend) := ofNone rfl
theorem slkNode (addr : Nat) : Statement (.slkNode addr) := ofNone rfl
theorem plcRetransmit (dest : Nat) : Statement (.plcRetransmit dest) := ofNone rfl
theorem toneMapRefresh (addr : Nat) : Statement (.toneMapRefresh addr) := ofNone rfl
theorem beaconSend : Statement (.beaconSend) := ofNone rfl
theorem beaconRelay (hop : Nat) : Statement (.beaconRelay hop) := ofNone rfl
theorem beaconReceived (b : Beacon) : Statement (.beaconReceived b) := ofNone rfl
theorem holdoverStart : Statement (.holdoverStart) := ofNone rfl
theorem holdoverExpiry : Statement (.holdoverExpiry) := ofNone rfl
theorem rootElection : Statement (.rootElection) := ofNone rfl
theorem rootTakeover : Statement (.rootTakeover) := ofNone rfl
theorem slkProfile : Statement (.slkProfile) := ofNone rfl
theorem slkStatus (h : Hdr) : Statement (.slkStatus h) := ofHeader rfl fun w => w
theorem slkNodes (h : Hdr) (page : Nat) : Statement (.slkNodes h page) := ofHeader rfl fun w => left w
theorem slkSend (h : Hdr) (dest : Nat) (flags : Nat) (data : List Byte) : Statement (.slkSend h dest flags data) := ofHeader rfl fun w => (left (left (left w)))
theorem slkSched (h : Hdr) (type : Nat) (siteC : Nat) (group : Nat) (body : List Byte) : Statement (.slkSched h type siteC group body) := ofHeader rfl fun w => (left (left (left (left w))))
theorem schedDistribute (num : Nat) : Statement (.schedDistribute num) := ofNone rfl
theorem schedAckDeadline (num : Nat) : Statement (.schedAckDeadline num) := ofNone rfl
theorem schedActionReceived (source : Nat) (num : Nat) (type : Nat) (siteC : Nat) (group : Nat) (body : List Byte) : Statement (.schedActionReceived source num type siteC group body) := ofNone rfl
theorem schedActionApply (source : Nat) (num : Nat) : Statement (.schedActionApply source num) := ofNone rfl
theorem schedCancelReceived (source : Nat) (num : Nat) : Statement (.schedCancelReceived source num) := ofNone rfl
theorem slkSchedCancel (h : Hdr) (num : Nat) : Statement (.slkSchedCancel h num) := ofHeader rfl fun w => left w
theorem slkSchedList (h : Hdr) : Statement (.slkSchedList h) := ofHeader rfl fun w => w
theorem schedOutcome (num : Nat) : Statement (.schedOutcome num) := ofNone rfl
theorem wakeRequestSend (dest : Nat) : Statement (.wakeRequestSend dest) := ofNone rfl
theorem slkKeySetX (h : Hdr) (key : List Byte) : Statement (.slkKeySetX h key) := ofHeader rfl fun w => left w
theorem slkTonemapX (h : Hdr) (node : Nat) (action : Nat) : Statement (.slkTonemapX h node action) := ofHeader rfl fun w => (left (left w))
theorem lpPing (re : Rat) (im : Rat) : Statement (.lpPing re im) := ofNone rfl
theorem lpCalibration (re : Rat) (im : Rat) : Statement (.lpCalibration re im) := ofNone rfl
theorem poll (found : List CardAnswer) : Statement (.poll found) := ofNone rfl
theorem cardSelected (c : CardAnswer) : Statement (.cardSelected c) := ofNone rfl
theorem presenceCheck (handle : Nat) (present : Bool) : Statement (.presenceCheck handle present) := ofNone rfl
theorem handleIdleTimeout (handle : Nat) : Statement (.handleIdleTimeout handle) := ofNone rfl
theorem exchangeAnswer (status : Nat) (data : List Byte) : Statement (.exchangeAnswer status data) := ofNone rfl
theorem nfcField (on : Bool) : Statement (.nfcField on) := ofNone rfl
theorem tagFrameReceived (frame : List Byte) : Statement (.tagFrameReceived frame) := ofNone rfl
theorem phoneUpdateBinary : Statement (.phoneUpdateBinary) := ofNone rfl
theorem tagStart : Statement (.tagStart) := ofNone rfl
theorem nfcTagDone : Statement (.nfcTagDone) := ofNone rfl
theorem fdRelease : Statement (.fdRelease) := ofNone rfl
theorem nfcStatus (h : Hdr) : Statement (.nfcStatus h) := ofHeader rfl fun w => w
theorem nfcRdPoll (h : Hdr) : Statement (.nfcRdPoll h) := ofHeader rfl fun w => w
theorem nfcRdXchg (h : Hdr) (handle : Nat) (len : Nat) (data : List Byte) : Statement (.nfcRdXchg h handle len data) := ofHeader rfl fun w => (left (left (left w)))
theorem nfcRdRelease (h : Hdr) (handle : Nat) : Statement (.nfcRdRelease h handle) := ofHeader rfl fun w => left w
theorem nfcTagRead (h : Hdr) (file : Nat) (offset : Nat) (len : Nat) : Statement (.nfcTagRead h file offset len) := ofHeader rfl fun w => (left (left (left w)))
theorem nfcTagWrite (h : Hdr) (file : Nat) (offset : Nat) (len : Nat) (data : List Byte) : Statement (.nfcTagWrite h file offset len data) := ofHeader rfl fun w => (left (left (left (left w))))
theorem nfcInfo (h : Hdr) : Statement (.nfcInfo h) := ofHeader rfl fun w => w
theorem nfcSigLoadX (h : Hdr) (slot : Nat) (profile : List Byte) : Statement (.nfcSigLoadX h slot profile) := ofHeader rfl fun w => (left (left w))
theorem nfcLpCalX (h : Hdr) : Statement (.nfcLpCalX h) := ofHeader rfl fun w => w
theorem legalComposition : Statement (.legalComposition) := ofNone rfl
theorem dspCrcOk : Statement (.dspCrcOk) := ofNone rfl
theorem dspBiasFault : Statement (.dspBiasFault) := ofNone rfl
theorem checkScreenEnd : Statement (.checkScreenEnd) := ofNone rfl
theorem mapChunkTimeout : Statement (.mapChunkTimeout) := ofNone rfl
theorem dspStatus (h : Hdr) : Statement (.dspStatus h) := ofHeader rfl fun w => w
theorem dspWrite (h : Hdr) (row : Nat) (count : Nat) (data : List Byte) : Statement (.dspWrite h row count data) := ofHeader rfl fun w => (left (left (left w)))
theorem dspRead (h : Hdr) (row : Nat) (count : Nat) : Statement (.dspRead h row count) := ofHeader rfl fun w => (left (left w))
theorem dspShowCheck (h : Hdr) : Statement (.dspShowCheck h) := ofHeader rfl fun w => w
theorem dspMapLoadX (h : Hdr) (chunk : Nat) (data : List Byte) : Statement (.dspMapLoadX h chunk data) := ofHeader rfl fun w => (left (left w))
theorem fenceBuild : Statement (.fenceBuild) := ofNone rfl
theorem fltFence (d : Fin 12) : Statement (.fltFence d) := ofNone rfl
theorem retirementRecord : Statement (.retirementRecord) := ofNone rfl
theorem fltReturn (d : Fin 12) : Statement (.fltReturn d) := ofNone rfl
theorem lockstepMismatch : Statement (.lockstepMismatch) := ofNone rfl
theorem fltAgate : Statement (.fltAgate) := ofNone rfl
theorem fltSelfcheck (d : Fin 12) (check : Nat) : Statement (.fltSelfcheck d check) := ofNone rfl
theorem fltStatus (h : Hdr) : Statement (.fltStatus h) := ofHeader rfl fun w => w
theorem fltLogRead (h : Hdr) (first : Nat) (count : Nat) : Statement (.fltLogRead h first count) := ofHeader rfl fun w => (left (left w))
theorem fltReturnX (h : Hdr) (kind : Nat) (number : Nat) (reason : List Byte) : Statement (.fltReturnX h kind number reason) := ofHeader rfl fun w => (left (left (left w)))
theorem fltRetireX (h : Hdr) (kind : Nat) (number : Nat) (reason : List Byte) : Statement (.fltRetireX h kind number reason) := ofHeader rfl fun w => (left (left (left w)))
theorem updStatus (h : Hdr) : Statement (.updStatus h) := ofHeader rfl fun w => w
theorem updOpenX (h : Hdr) (region : Nat) (flags : Nat) (length : Nat) (identity : Nat) : Statement (.updOpenX h region flags length identity) := ofHeader rfl fun w => (left (left (left (left w))))
theorem updWriteX (h : Hdr) (region : Nat) (len : Nat) (offset : Nat) (data : List Byte) (bad : Option Nat) : Statement (.updWriteX h region len offset data bad) := ofHeader rfl fun w => (left (left (left (left w))))
theorem updFinishX (h : Hdr) (region : Nat) : Statement (.updFinishX h region) := ofHeader rfl fun w => left w
theorem updScheduleX (h : Hdr) (mask : Nat) (mode : Nat) (frame : Nat) : Statement (.updScheduleX h mask mode frame) := ofHeader rfl fun w => (left (left (left w)))
theorem updCancelX (h : Hdr) : Statement (.updCancelX h) := ofHeader rfl fun w => w
theorem updAbandonX (h : Hdr) (region : Nat) : Statement (.updAbandonX h region) := ofHeader rfl fun w => left w
theorem updSiteSendX (h : Hdr) (region : Nat) (group : Nat) : Statement (.updSiteSendX h region group) := ofHeader rfl fun w => (left (left w))
theorem siteBlockSend : Statement (.siteBlockSend) := ofNone rfl
theorem siteBlockReceived (source : Nat) (number : Nat) (offset : Nat) (data : List Byte) : Statement (.siteBlockReceived source number offset data) := ofNone rfl
theorem updateActReceived (source : Nat) (num : Nat) (siteC : Nat) (identity : Nat) : Statement (.updateActReceived source num siteC identity) := ofNone rfl
theorem updActivation : Statement (.updActivation) := ofNone rfl
theorem activationWaitExpiry : Statement (.activationWaitExpiry) := ofNone rfl
theorem vioLow : Statement (.vioLow) := ofNone rfl
theorem pilotSupplyFault : Statement (.pilotSupplyFault) := ofNone rfl
theorem pilotSupplyOk : Statement (.pilotSupplyOk) := ofNone rfl
theorem vioRestored : Statement (.vioRestored) := ofNone rfl
theorem agateUnitsRestarted : Statement (.agateUnitsRestarted) := ofNone rfl
theorem tieWeldCleared (t : Fin 8) : Statement (.tieWeldCleared t) := ofNone rfl

end Sys2Proof.Laws.Wf
end

