-- ==== Sys2Proof/Laws/Store.lean ====
section
/-! SUPPORT. The parameter store: reading what was written, and the order of its keys that every operation on it keeps. -/

namespace Sys2Proof.Machine

/-- Every listed key is above a bound. -/
def KeysAbove (n : Nat) (m : List (Nat × Nat)) : Prop := ∀ c ∈ m, n < c.1

@[simp] theorem keysAbove_nil (n : Nat) : KeysAbove n [] := by simp [KeysAbove]

@[simp] theorem keysAbove_cons (n : Nat) (c : Nat × Nat) (m : List (Nat × Nat)) :
    KeysAbove n (c :: m) ↔ n < c.1 ∧ KeysAbove n m := by simp [KeysAbove]

theorem KeysAbove.mono {a b : Nat} {m : List (Nat × Nat)} (h : a ≤ b) (hb : KeysAbove b m) : KeysAbove a m :=
  fun c hc => Nat.lt_of_le_of_lt h (hb c hc)

@[simp] theorem storeWf_nil : storeWf [] := List.Pairwise.nil

theorem storeWf_cons {c : Nat × Nat} {m : List (Nat × Nat)} : storeWf (c :: m) ↔ KeysAbove c.1 m ∧ storeWf m := by
  simp [storeWf, KeysAbove, List.pairwise_cons]

theorem storeGet_above {m : List (Nat × Nat)} {x : Nat} (h : KeysAbove x m) : storeGet m x = none := by
  cases m with
  | nil => rfl
  | cons c r =>
    obtain ⟨k, v⟩ := c
    have hk := ((keysAbove_cons _ _ _).mp h).1
    simp only at hk
    simp [storeGet, hk, Nat.ne_of_gt hk]

theorem keysAbove_storeDel {n : Nat} {m : List (Nat × Nat)} (x : Nat) (h : KeysAbove n m) : KeysAbove n (storeDel m x) := by
  induction m with
  | nil => simp [storeDel]
  | cons c r ih =>
    obtain ⟨k, v⟩ := c
    have h' := (keysAbove_cons _ _ _).mp h
    unfold storeDel
    split
    · exact h'.2
    · split
      · exact h
      · exact (keysAbove_cons _ _ _).mpr ⟨h'.1, ih h'.2⟩

theorem keysAbove_storeSet {n x : Nat} {m : List (Nat × Nat)} (y : Nat) (hx : n < x) (h : KeysAbove n m) :
    KeysAbove n (storeSet m x y) := by
  induction m with
  | nil => simpa [storeSet] using hx
  | cons c r ih =>
    obtain ⟨k, v⟩ := c
    have h' := (keysAbove_cons _ _ _).mp h
    unfold storeSet
    split
    · exact (keysAbove_cons _ _ _).mpr ⟨hx, h'.2⟩
    · split
      · exact (keysAbove_cons _ _ _).mpr ⟨hx, h⟩
      · exact (keysAbove_cons _ _ _).mpr ⟨h'.1, ih h'.2⟩

theorem storeWf_storeDel {m : List (Nat × Nat)} (x : Nat) (h : storeWf m) : storeWf (storeDel m x) := by
  induction m with
  | nil => exact h
  | cons c r ih =>
    obtain ⟨k, v⟩ := c
    obtain ⟨ha, hr⟩ := storeWf_cons.mp h
    unfold storeDel
    split
    · exact hr
    · split
      · exact h
      · exact storeWf_cons.mpr ⟨keysAbove_storeDel x ha, ih hr⟩

theorem storeWf_storeSet {m : List (Nat × Nat)} (x y : Nat) (h : storeWf m) : storeWf (storeSet m x y) := by
  induction m with
  | nil => exact storeWf_cons.mpr ⟨keysAbove_nil x, storeWf_nil⟩
  | cons c r ih =>
    obtain ⟨k, v⟩ := c
    obtain ⟨ha, hr⟩ := storeWf_cons.mp h
    unfold storeSet
    split
    · rename_i hk; exact storeWf_cons.mpr ⟨hk ▸ ha, hr⟩
    · split
      · rename_i hk
        exact storeWf_cons.mpr ⟨(keysAbove_cons _ _ _).mpr ⟨hk, ha.mono (Nat.le_of_lt hk)⟩, h⟩
      · exact storeWf_cons.mpr ⟨keysAbove_storeSet y (by simp only; omega) ha, ih hr⟩

/-- Writing an instance keeps the order of the keys. -/
theorem storeWf_storePut {m : List (Nat × Nat)} (id inst v : Nat) (h : storeWf m) : storeWf (storePut m id inst v) := by
  unfold storePut
  split
  · exact storeWf_storeDel _ h
  · exact storeWf_storeSet _ _ h

theorem storeGet_storeDel_same {m : List (Nat × Nat)} (x : Nat) (h : storeWf m) : storeGet (storeDel m x) x = none := by
  induction m with
  | nil => rfl
  | cons c r ih =>
    obtain ⟨k, v⟩ := c
    obtain ⟨ha, hr⟩ := storeWf_cons.mp h
    unfold storeDel
    split
    · rename_i hk; exact storeGet_above (hk ▸ ha)
    · split
      · rename_i h1 h2; simp [storeGet, h1, h2]
      · rename_i h1 h2; simp [storeGet, h1, h2, ih hr]

theorem storeGet_storeDel_other {m : List (Nat × Nat)} {x z : Nat} (hz : z ≠ x) (h : storeWf m) :
    storeGet (storeDel m x) z = storeGet m z := by
  induction m with
  | nil => rfl
  | cons c r ih =>
    obtain ⟨k, v⟩ := c
    obtain ⟨ha, hr⟩ := storeWf_cons.mp h
    unfold storeDel
    split
    · rename_i hk
      subst hk
      simp only [storeGet]
      rw [if_neg (Ne.symm hz)]
      split
      · exact storeGet_above (ha.mono (by simp only; omega))
      · rfl
    · split
      · rfl
      · simp [storeGet, ih hr]

theorem storeGet_storeSet_same (m : List (Nat × Nat)) (x y : Nat) : storeGet (storeSet m x y) x = some y := by
  induction m with
  | nil => simp [storeSet, storeGet]
  | cons c r ih =>
    obtain ⟨k, v⟩ := c
    unfold storeSet
    split
    · simp [storeGet]
    · split
      · simp [storeGet]
      · rename_i h1 h2; simp [storeGet, h1, h2, ih]

theorem storeGet_storeSet_other {m : List (Nat × Nat)} {x z : Nat} (y : Nat) (hz : z ≠ x) :
    storeGet (storeSet m x y) z = storeGet m z := by
  induction m with
  | nil => simp [storeSet, storeGet, Ne.symm hz]
  | cons c r ih =>
    obtain ⟨k, v⟩ := c
    unfold storeSet
    split
    · rename_i hk; subst hk; simp [storeGet, Ne.symm hz]
    · split
      · rename_i h1 h2
        simp only [storeGet]
        rw [if_neg (Ne.symm hz)]
        split
        · rename_i h3; rw [if_neg (by omega), if_pos (by omega)]
        · rfl
      · simp [storeGet, ih]

/-- An instance written reads back, at its default too. -/
@[simp] theorem storeGet_storePut_same {m : List (Nat × Nat)} (id inst v : Nat) (h : storeWf m) :
    (storeGet (storePut m id inst v) (pkey id inst)).getD (pdefault id inst) = v := by
  unfold storePut
  split
  · rename_i hv; rw [storeGet_storeDel_same _ h, hv]; rfl
  · rw [storeGet_storeSet_same]; rfl

/-- An instance written leaves every other key alone. -/
theorem storeGet_storePut_other {m : List (Nat × Nat)} {id inst v z : Nat} (hz : z ≠ pkey id inst) (h : storeWf m) :
    storeGet (storePut m id inst v) z = storeGet m z := by
  unfold storePut
  split
  · exact storeGet_storeDel_other hz h
  · exact storeGet_storeSet_other v hz

/-- Keys of instances below 256 name one parameter instance each. -/
theorem pkey_inj {id inst id' inst' : Nat} (h : inst < 256) (h' : inst' < 256) :
    pkey id inst = pkey id' inst' ↔ id = id' ∧ inst = inst' := by
  unfold pkey
  omega

end Sys2Proof.Machine
end

section
/-! SUPPORT. The packets of the host-read queues (R73 to R75, Table CMD-13): the fields of word 0 that R75 speaks of, the records
a packet is made of, and what a queue is after a packet was offered to it. -/

namespace Sys2Proof.Machine

/-! ### The fields of word 0 (Table CMD-13) -/

section Word0

variable {remain id dom pseq : Nat} (cont lost : Bool) (hr : remain < 16) (hi : id < 256) (hd : dom < 16)

/-- Word 0 as a sum of one number per field, so that linear arithmetic reads a field off. -/
theorem recWord0_eq_sum : recWord0 cont lost remain id dom pseq =
    2 ^ 31 + cont.toNat * 2 ^ 30 + lost.toNat * 2 ^ 28 + remain * 2 ^ 24 + id * 2 ^ 16 + dom * 2 ^ 12 + pseq % 256 := by
  cases cont <;> cases lost <;> rfl

include hr hi hd

theorem recWord0_div_cont : recWord0 cont lost remain id dom pseq / 2 ^ 30 % 2 = cont.toNat := by
  have := cont.toNat_lt
  have := lost.toNat_lt
  rw [recWord0_eq_sum]
  omega

theorem recWord0_div_lost : recWord0 cont lost remain id dom pseq / 2 ^ 28 % 2 = lost.toNat := by
  have := lost.toNat_lt
  rw [recWord0_eq_sum]
  omega

omit hr in
theorem recWord0_div_id : recWord0 cont lost remain id dom pseq / 2 ^ 16 % 2 ^ 8 = id := by
  rw [recWord0_eq_sum]
  omega

theorem recWord0_getLsbD_cont : (BitVec.ofNat 32 (recWord0 cont lost remain id dom pseq)).getLsbD 30 = cont := by
  rw [BitVec.getLsbD_ofNat, Nat.testBit_eq_decide_div_mod_eq, recWord0_div_cont cont lost hr hi hd]
  cases cont <;> rfl

theorem recWord0_getLsbD_lost : (BitVec.ofNat 32 (recWord0 cont lost remain id dom pseq)).getLsbD 28 = lost := by
  rw [BitVec.getLsbD_ofNat, Nat.testBit_eq_decide_div_mod_eq, recWord0_div_lost cont lost hr hi hd]
  cases lost <;> rfl

omit hr in
theorem recWord0_extract_id :
    (BitVec.ofNat 32 (recWord0 cont lost remain id dom pseq)).extractLsb' 16 8 = BitVec.ofNat 8 id := by
  have hfield := recWord0_div_id (remain := remain) (pseq := pseq) cont lost hi hd
  generalize recWord0 cont lost remain id dom pseq = w at hfield ⊢
  apply BitVec.eq_of_toNat_eq
  rw [BitVec.extractLsb'_toNat, BitVec.toNat_ofNat, BitVec.toNat_ofNat, Nat.shiftRight_eq_div_pow]
  omega

end Word0

/-! ### The records of a packet (R74) -/

/-- A payload that fits `fuel` continuation records fills as many of them as its twelves of bytes, a part of one counting whole. -/
theorem length_chunks_twelve (fuel : Nat) (bs : List Byte) (h : bs.length ≤ 12 * fuel) :
    (chunks 12 fuel bs).length = (bs.length + 11) / 12 := by
  induction fuel generalizing bs with
  | zero => simp only [chunks, List.length_nil]; omega
  | succ fuel ih =>
    cases bs with
    | nil => rfl
    | cons b bs =>
      have hrest := ih ((b :: bs).drop 12) (by simp only [List.length_drop]; omega)
      simp only [chunks, List.isEmpty_cons, Bool.false_eq_true, if_false, List.length_cons, List.length_drop] at hrest ⊢
      omega

/-- The records `rs` are one packet of `n` records under an ID: the first shows LOST as given, and each record behind it shows CONT
and no LOST (R74, R75). -/
def IsPacket (id n : Nat) (lost : Bool) (rs : List QRec) : Prop :=
  ∃ r others, rs = r :: others ∧ others.length + 1 = n
    ∧ r.w0.data.getLsbD 28 = lost ∧ r.w0.data.getLsbD 30 = false ∧ r.w0.data.extractLsb' 16 8 = BitVec.ofNat 8 id
    ∧ (∀ c ∈ others, c.w0.data.getLsbD 28 = false ∧ c.w0.data.getLsbD 30 = true)

section Packet

variable {id dom : Nat} {payload : List Byte}

theorem packetRecs_isPacket (frame detail arg pseq : Nat) (lost : Bool) (hi : id < 256) (hd : dom < 16)
    (hp : payload.length ≤ 180) :
    IsPacket id (1 + (payload.length + 11) / 12) lost (packetRecs frame id dom detail arg pseq lost payload) := by
  have hlen := length_chunks_twelve 15 payload hp
  have hremain : (chunks 12 15 payload).length < 16 := by omega
  refine ⟨_, _, rfl, ?length, recWord0_getLsbD_lost _ _ hremain hi hd, recWord0_getLsbD_cont _ _ hremain hi hd,
    recWord0_extract_id _ _ hi hd, ?conts⟩
  case length => simp only [List.length_map, List.length_zipIdx]; omega
  case conts =>
    intro c hc
    obtain ⟨⟨bytes, i⟩, -, rfl⟩ := List.mem_map.mp hc
    have hremain' : (chunks 12 15 payload).length - 1 - i < 16 := by omega
    exact ⟨recWord0_getLsbD_lost _ _ hremain' hi hd, recWord0_getLsbD_cont _ _ hremain' hi hd⟩

theorem IsPacket.length_eq {n : Nat} {lost : Bool} {rs : List QRec} (h : IsPacket id n lost rs) : rs.length = n := by
  obtain ⟨r, others, rfl, hn, -⟩ := h
  exact hn

/-! ### A packet offered to a queue (R75) -/

theorem Queue.push_of_fits {cap frame detail arg : Nat} {x : Queue}
    (h : 4 * (x.recs.length + (packetRecs frame id dom detail arg x.pseq x.lostMark payload).length) ≤ cap) :
    x.push cap frame id dom detail arg payload =
      { x with recs := x.recs ++ packetRecs frame id dom detail arg x.pseq x.lostMark payload,
               pseq := (x.pseq + 1) % 256, lostMark := false } :=
  if_pos h

theorem Queue.push_of_not_fits {cap frame detail arg : Nat} {x : Queue}
    (h : cap < 4 * (x.recs.length + (packetRecs frame id dom detail arg x.pseq x.lostMark payload).length)) :
    x.push cap frame id dom detail arg payload =
      { x with lost := min (x.lost + (packetRecs frame id dom detail arg x.pseq x.lostMark payload).length) (2 ^ 32 - 1),
               lostMark := true } :=
  if_neg (by omega)

/-- What R75 says of a queue `x` that becomes `y` when a packet of `n` records is offered to it with `room` words for it: the packet
stored whole, or discarded whole and counted. -/
def QueuedWholeOrNot (room id n : Nat) (x y : Queue) : Prop :=
  (4 * (x.recs.length + n) ≤ room → ∃ rs, y.recs = x.recs ++ rs ∧ IsPacket id n x.lostMark rs
    ∧ y.pseq = (x.pseq + 1) % 256 ∧ y.lostMark = false ∧ y.lost = x.lost)
  ∧ (room < 4 * (x.recs.length + n) → y.recs = x.recs ∧ y.pseq = x.pseq ∧ y.lostMark = true
    ∧ (x.lost + n < 2 ^ 32 → y.lost = x.lost + n))

theorem Queue.push_queuedWholeOrNot (room frame detail arg : Nat) (x : Queue) (hi : id < 256) (hd : dom < 16)
    (hp : payload.length ≤ 180) :
    QueuedWholeOrNot room id (1 + (payload.length + 11) / 12) x (x.push room frame id dom detail arg payload) := by
  have hpacket := packetRecs_isPacket frame detail arg x.pseq x.lostMark hi hd hp
  have hlen := hpacket.length_eq
  constructor
  · intro hfits
    rw [Queue.push_of_fits (hlen ▸ hfits)]
    exact ⟨_, rfl, hpacket, rfl, rfl, rfl⟩
  · intro hfull
    rw [Queue.push_of_not_fits (hlen ▸ hfull), hlen]
    exact ⟨rfl, rfl, rfl, fun hcount => Nat.min_eq_left (by omega)⟩

end Packet

/-! ### The queues after an event or a data packet -/

theorem pushEvent_queues_zero (id dom detail arg : Nat) (payload : List Byte) (s : State) :
    (pushEvent id dom detail arg payload s).queues[(0 : Fin 4)] =
      s.queues[(0 : Fin 4)].push (if permanentEvent id detail arg then 4096 else 4032) s.frame id dom detail arg payload := by
  rw [pushEvent_eq]
  exact Vector.getElem_set_self _

theorem pushEvent_queues_other (id dom detail arg : Nat) (payload : List Byte) (s : State) {q : Fin 4} (hq : q ≠ 0) :
    (pushEvent id dom detail arg payload s).queues[q] = s.queues[q] := by
  rw [pushEvent_eq]
  exact Vector.getElem_set_ne (by decide) q.isLt fun h => hq (Fin.ext h.symm)

/-- The notice CMD_QUEUE_DATA that may follow a data packet goes to queue 0 alone (R80). -/
theorem pushData_queues_self (id dom detail arg : Nat) (payload : List Byte) (s : State) {q : Fin 4} (hq : q ≠ 0) :
    (pushData q id dom detail arg payload s).queues[q] =
      s.queues[q].push (queueWords q) s.frame id dom detail arg payload := by
  unfold pushData
  simp only
  split
  · rw [pushEvent_queues_other _ _ _ _ _ _ hq]
    exact Vector.getElem_set_self _
  · exact Vector.getElem_set_self _

/-- Settles O2: queue 0 after an event and each other queue after a data packet are the queue with the packet offered to it, under
the words that R75 leaves to the packet. -/
theorem packetsAreQueuedWholeOrNotAtAll : Obligations.PacketsAreQueuedWholeOrNotAtAll := by
  intro id dom detail arg payload s hi hd hp n room after
  have after_of_push (q : Fin 4) (t : State)
      (h : t.queues[q] = s.queues[q].push (room q) s.frame id dom detail arg payload) : after q t := by
    obtain ⟨hstored, hdiscarded⟩ := Queue.push_queuedWholeOrNot (room q) s.frame detail arg s.queues[q] hi hd hp
    rw [← h] at hstored hdiscarded
    refine ⟨fun hfits => ?_, hdiscarded⟩
    obtain ⟨_, hrecs, ⟨r, others, rfl, hn, hlost, hcont, hid, hothers⟩, hcounters⟩ := hstored hfits
    exact ⟨r, others, hrecs, hn, hlost, hcont, hid, hothers, hcounters⟩
  refine ⟨after_of_push 0 _ ?_, fun q hq => after_of_push q _ ?_⟩
  · exact pushEvent_queues_zero id dom detail arg payload s
  · rw [pushData_queues_self id dom detail arg payload s hq, show room q = queueWords q from if_neg hq]

end Sys2Proof.Machine
end

section
/-! SUPPORT. The numbers that TXN_OPEN allocates (R82, R83): the ring 1 to 239, the first number of it that is not in use, and what
the command does in its own frame. -/

namespace Sys2Proof.Machine

/-! ### The ring of host numbers (R83) -/

/-- The number that stands `i` places behind the first candidate, after `last` was the last one allocated. -/
def candidate (last i : Nat) : Nat := (last + i) % 239 + 1

theorem nextNumber_eq_candidate {last : Nat} (hlast : last ≤ 239) : nextNumber last = candidate last 0 := by
  unfold nextNumber candidate
  split <;> omega

theorem nextNumber_candidate (last i : Nat) : nextNumber (candidate last i) = candidate last (i + 1) := by
  unfold nextNumber candidate
  split <;> omega

/-- One round of the ring names no number twice. -/
theorem candidate_inj {last i j : Nat} (hi : i < 239) (hj : j < 239) (heq : candidate last i = candidate last j) : i = j := by
  unfold candidate at heq
  omega

/-- A list that holds `n` different values has at least `n` members. -/
theorem le_length_of_injective_mem (f : Nat → Nat) (n : Nat) (l : List Nat)
    (hinj : ∀ i j, i < n → j < n → f i = f j → i = j) (hmem : ∀ i, i < n → f i ∈ l) : n ≤ l.length := by
  induction n generalizing l with
  | zero => exact Nat.zero_le _
  | succ n ih =>
    have hlast : f n ∈ l := hmem n n.lt_succ_self
    have hrest : n ≤ (l.erase (f n)).length := by
      refine ih _ (fun i j hi hj => hinj i j (by omega) (by omega)) fun i hi => ?_
      have hne : f i ≠ f n := fun heq => absurd (hinj i n (by omega) n.lt_succ_self heq) (by omega)
      exact (List.mem_erase_of_ne hne).mpr (hmem i (by omega))
    have hpos : 0 < l.length := List.length_pos_of_mem hlast
    rw [List.length_erase_of_mem hlast] at hrest
    omega

/-! ### The first number not in use (R83) -/

/-- A number is in use by an open transaction, or by the book of an ended site transaction (R113). -/
def InUse (s : State) (n : Nat) : Prop := ∃ t ∈ s.txn.txns ++ s.txn.books, t.num = n

theorem any_num_eq_true_iff_inUse (s : State) (n : Nat) :
    ((s.txn.txns ++ s.txn.books).any fun t => t.num == n) = true ↔ InUse s n := by
  simp only [List.any_eq_true, beq_iff_eq, InUse]

theorem freeNumber_succ_of_inUse {s : State} {n : Nat} (fuel : Nat) (h : InUse s n) :
    freeNumber s (fuel + 1) n = freeNumber s fuel (nextNumber n) :=
  if_pos ((any_num_eq_true_iff_inUse s n).mpr h)

theorem freeNumber_succ_of_not_inUse {s : State} {n : Nat} (fuel : Nat) (h : ¬ InUse s n) : freeNumber s (fuel + 1) n = n :=
  if_neg (mt (any_num_eq_true_iff_inUse s n).mp h)

/-- Where the fuel reaches a free candidate, the search ends at the first one. -/
theorem freeNumber_candidate {s : State} {last : Nat} (fuel k : Nat)
    (hex : ∃ j, j < fuel ∧ ¬ InUse s (candidate last (k + j))) :
    ∃ j, freeNumber s fuel (candidate last k) = candidate last (k + j)
      ∧ (∀ i, i < j → InUse s (candidate last (k + i))) ∧ ¬ InUse s (candidate last (k + j)) := by
  induction fuel generalizing k with
  | zero =>
    obtain ⟨j, hj, _⟩ := hex
    exact absurd hj j.not_lt_zero
  | succ fuel ih =>
    by_cases hk : InUse s (candidate last k)
    · have hshift (i : Nat) : k + 1 + i = k + (i + 1) := by omega
      have hlater : ∃ j, j < fuel ∧ ¬ InUse s (candidate last (k + 1 + j)) := by
        obtain ⟨j, hj, hfree⟩ := hex
        cases j with
        | zero => exact absurd hk hfree
        | succ j => exact ⟨j, Nat.lt_of_succ_lt_succ hj, hshift j ▸ hfree⟩
      obtain ⟨j, hnum, hused, hfree⟩ := ih (k + 1) hlater
      refine ⟨j + 1, ?_, fun i hi => ?_, hshift j ▸ hfree⟩
      · rw [freeNumber_succ_of_inUse fuel hk, nextNumber_candidate, hnum, hshift]
      · cases i with
        | zero => exact hk
        | succ i => exact hshift i ▸ hused i (Nat.lt_of_succ_lt_succ hi)
    · exact ⟨0, freeNumber_succ_of_not_inUse fuel hk, fun i hi => absurd hi i.not_lt_zero, hk⟩

/-- Fewer than 239 transactions and books leave a number of the ring free. -/
theorem exists_candidate_not_inUse {s : State} (last : Nat) (hlen : (s.txn.txns ++ s.txn.books).length < 239) :
    ∃ j, j < 239 ∧ ¬ InUse s (candidate last j) := by
  refine Classical.byContradiction fun hnone => ?_
  have hall (j : Nat) (hj : j < 239) : candidate last j ∈ (s.txn.txns ++ s.txn.books).map Txn.num :=
    List.mem_map.mpr (Classical.byContradiction fun hfree => hnone ⟨j, hj, hfree⟩)
  have hle := le_length_of_injective_mem (candidate last) 239 _ (fun _ _ hi hj => candidate_inj hi hj) hall
  rw [List.length_map] at hle
  omega

/-- TXN_OPEN finds the first number not in use behind the last one allocated. -/
theorem freeNumber_nextNumber {s : State} (hlast : s.txn.lastNum ≤ 239) (hlen : (s.txn.txns ++ s.txn.books).length < 239) :
    ∃ j, freeNumber s 239 (nextNumber s.txn.lastNum) = candidate s.txn.lastNum j
      ∧ (∀ i, i < j → InUse s (candidate s.txn.lastNum i)) ∧ ¬ InUse s (candidate s.txn.lastNum j) := by
  have h := freeNumber_candidate 239 0 (by simpa only [Nat.zero_add] using exists_candidate_not_inUse s.txn.lastNum hlen)
  rw [nextNumber_eq_candidate hlast]
  simpa only [Nat.zero_add] using h

/-! ### Internal numbers (R83, R107) -/

theorem freeInternal_eq_some {s : State} {m : Nat} (h : freeInternal s = some m) : 240 ≤ m ∧ m ≤ 255 ∧ findTxn s m = none := by
  obtain ⟨i, hi, rfl⟩ := List.mem_map.mp (List.mem_of_find?_eq_some h)
  have hfree : (findTxn s (i + 240)).isNone = true := List.find?_some (p := fun n => (findTxn s n).isNone) h
  have := List.mem_range.mp hi
  exact ⟨by omega, by omega, Option.isNone_iff_eq_none.mp hfree⟩

/-! ### TXN_OPEN in its own frame -/

/-- A transaction opened under a number: it is OPEN and empty, named in this frame, and the last one allocated (R82, R83). -/
def openTxn (n : Nat) (s : State) : State :=
  { s with txn := { s.txn with lastNum := n, txns := s.txn.txns ++ [{ num := n, lastNamed := s.frame }] } }

/-- The result of TXN_OPEN: the number allocated and the transactions then open. -/
def openResult (n count : Nat) : List Byte := leBytes 1 n ++ leBytes 1 count ++ [0, 0]

theorem freeNumber_congr {s t : State} (h : t.txn = s.txn) (fuel n : Nat) : freeNumber t fuel n = freeNumber s fuel n := by
  induction fuel generalizing n with
  | zero => rfl
  | succ fuel ih => simp only [freeNumber, h, ih]

@[simp] theorem entered_freeNumber (h : Hdr) (s : State) (fuel n : Nat) :
    freeNumber (entered h s) fuel n = freeNumber s fuel n :=
  freeNumber_congr (entered_txn h s) fuel n

@[simp] theorem entered_hostTxns (h : Hdr) (s : State) : hostTxns (entered h s) = hostTxns s := by
  simp only [hostTxns, entered_txn]

theorem txnOpenRules_full {s : State} (h : 8 ≤ (hostTxns s).length) : txnOpenRules s = no 0x2040 := if_pos h

theorem txnOpenRules_room {s : State} (h : (hostTxns s).length < 8) :
    txnOpenRules s = .accept 0 (some (openResult (freeNumber s 239 (nextNumber s.txn.lastNum)) ((hostTxns s).length + 1)))
      (openTxn (freeNumber s 239 (nextNumber s.txn.lastNum))) :=
  if_neg (Nat.not_le.mpr h)

theorem exec_txnOpen (h : Hdr) (s : State) :
    exec (.txnOpen h) s = .next (hostCmd h 0x0200 (.txnOpen h) true true [] txnOpenRules s) := by
  rfl

theorem exec_txnOpen_full {h : Hdr} {s : State} (p : Passes h 0x0200 true true s) (hfull : 8 ≤ (hostTxns s).length) :
    exec (.txnOpen h) s = .next (refused h 0x0200 0x2040 [] s) := by
  rw [exec_txnOpen, hostCmd_passes p, txnOpenRules_full (by simpa only [entered_hostTxns] using hfull), no]

theorem exec_txnOpen_room {h : Hdr} {s : State} (p : Passes h 0x0200 true true s) (hroom : (hostTxns s).length < 8) :
    exec (.txnOpen h) s = .next (openTxn (freeNumber s 239 (nextNumber s.txn.lastNum)) (accepted (.txnOpen h) h 0x0200 0
      (some (openResult (freeNumber s 239 (nextNumber s.txn.lastNum)) ((hostTxns s).length + 1))) s)) := by
  rw [exec_txnOpen, hostCmd_passes p, txnOpenRules_room (by simpa only [entered_hostTxns] using hroom)]
  simp only [entered_freeNumber, entered_hostTxns, entered_txn]

/-- Settles O14: the rules of TXN_OPEN refuse at the limit, and else open the first number free on the ring, which fewer than 239
transactions and books always leave. -/
theorem openAllocatesTheNextFreeNumber : Obligations.OpenAllocatesTheNextFreeNumber := by
  intro h s p hlast used
  refine ⟨exec_txnOpen_full p, fun hroom hlen => ?_, fun m => freeInternal_eq_some⟩
  obtain ⟨j, hnum, hused, hfree⟩ := freeNumber_nextNumber hlast hlen
  refine ⟨j, candidate s.txn.lastNum j, rfl, hused, hfree, ?_⟩
  rw [exec_txnOpen_room p hroom, hnum]
  simp only [openTxn, openResult, accepted_txn, accepted_frame]

/-! ### A state in which TXN_OPEN passes, at the wrap -/

/-- Full service, the SPI link ready, 238 allocated last, and the numbers 239 and 1 in use. -/
def openAtWrap : State :=
  { State.reset with
    sys := { State.reset.sys with service := .full }
    link := { State.reset.link with ready := true }
    txn := { lastNum := 238, txns := [{ num := 239 }], books := [{ num := 1 }] } }

theorem openAtWrap_passes : Passes {} 0x0200 true true openAtWrap where
  fresh := ⟨by decide, rfl⟩
  common := by decide
  state := by decide

/-- The allocation passes over 239, wraps and passes over 1. -/
theorem exec_txnOpen_openAtWrap : exec (.txnOpen {}) openAtWrap =
    .next (openTxn 2 (accepted (.txnOpen {}) {} 0x0200 0 (some (openResult 2 2)) openAtWrap)) :=
  exec_txnOpen_room openAtWrap_passes (by decide)

end Sys2Proof.Machine
end

section
/-! SUPPORT. What every operation of the model keeps: `Sound`, and with it the fields that only an edge, a reset or an overrun
changes (the queue of commands, the frame, the overruns, the supply, the power fail and the length of the frame). -/

namespace Sys2Proof.Machine

open Host (Cell Outcome)

/-- The fields that no row but an edge, a reset or an overrun changes; `asks` says whether the invariant is asked of the state too. -/
structure Fixed where
  asks      : Prop
  pending   : List Instr
  frame     : Nat
  skips     : List SlotJob
  vmain     : Nat
  powerFail : Option Nat
  cycles    : Nat

/-- The fixed fields of a state. -/
def fixedOf (asks : Prop) (s : State) : Fixed :=
  { asks := asks, pending := s.pending, frame := s.frame, skips := s.sys.skips, vmain := s.sys.vmain, powerFail := s.sys.powerFail,
    cycles := s.mtr.cycles }

/-- A state whose fixed fields are those given, and which is sound where that is asked. -/
structure Kept (fx : Fixed) (s : State) : Prop where
  sound : fx.asks → Sound s
  fixed : fixedOf fx.asks s = fx

variable {fx : Fixed} {s : State}

theorem kept_of_imp {p : Prop} (h : p → Sound s) : Kept (fixedOf p s) s := ⟨h, rfl⟩

/-- The fixed fields given are those of the state. -/
theorem Kept.source (h : Kept fx s) : ∃ p, (p → Sound s) ∧ fx = fixedOf p s := ⟨fx.asks, h.sound, h.fixed.symm⟩

/-- What holds of a sound state holds where the invariant is asked. -/
theorem Kept.asked {p : Prop} (h : Kept fx s) (hp : Sound s → p) : fx.asks → p := fun ha => hp (h.sound ha)

/-! ### The ways an operation is built -/

theorem kept_ite {p : Prop} [Decidable p] {a b : State} (ha : Kept fx a) (hb : Kept fx b) : Kept fx (if p then a else b) := by
  split
  · exact ha
  · exact hb

theorem kept_dite {p : Prop} [Decidable p] {a : p → State} {b : ¬ p → State} (ha : ∀ hp, Kept fx (a hp)) (hb : ∀ hp, Kept fx (b hp)) :
    Kept fx (if hp : p then a hp else b hp) := by
  split
  · exact ha _
  · exact hb _

theorem kept_foldl {α : Type} {f : State → α → State} {l : List α} (h : Kept fx s) (hf : ∀ s x, Kept fx s → Kept fx (f s x)) :
    Kept fx (l.foldl f s) := by
  induction l generalizing s with
  | nil => exact h
  | cons x l ih => exact ih (hf s x h)

/-- Every part that the invariant does not speak of may change. -/
theorem kept_with (h : Kept fx s) (due : List DueCmd) (outbox : List Out) (rnd : Nat) (beryl : BerylSt) (link : LinkSt) (txn : TxnSt)
    (outlets : Vector Outlet 8) (pool : PoolSt) (vlk : VlkSt) (onyx : OnyxSt) (efi : EfiSt) (garnet : GarnetSt) (aux : AuxSt)
    (slk : SlkSt) (flt : FltSt) (upd : UpdSt) :
    Kept fx { s with due := due, outbox := outbox, rnd := rnd, beryl := beryl, link := link, txn := txn, outlets := outlets,
                     pool := pool, vlk := vlk, onyx := onyx, efi := efi, garnet := garnet, aux := aux, slk := slk, flt := flt,
                     upd := upd } := by
  refine ⟨h.asked fun hs => ?_, h.fixed⟩
  obtain ⟨h1, h2, h3, h4, h5, h6, h7⟩ := hs
  exact ⟨h1, h2, h3, h4, h5, h6, h7⟩

theorem kept_other (h : Kept fx s) {due : List DueCmd} {outbox : List Out} {rnd : Nat} {beryl : BerylSt} {link : LinkSt} {txn : TxnSt}
    {outlets : Vector Outlet 8} {pool : PoolSt} {vlk : VlkSt} {onyx : OnyxSt} {efi : EfiSt} {garnet : GarnetSt} {aux : AuxSt}
    {slk : SlkSt} {flt : FltSt} {upd : UpdSt} :
    Kept fx { s with due := due, outbox := outbox, rnd := rnd, beryl := beryl, link := link, txn := txn, outlets := outlets,
                     pool := pool, vlk := vlk, onyx := onyx, efi := efi, garnet := garnet, aux := aux, slk := slk, flt := flt,
                     upd := upd } := kept_with h ..

/-- What the invariant speaks of in the part's own registers. -/
structure SameSys (x y : SysSt) : Prop where
  image : y.toPersist = x.toPersist
  skips : y.skips = x.skips
  vmain : y.vmain = x.vmain
  fail  : y.powerFail = x.powerFail

theorem kept_sys {y : SysSt} {due : List DueCmd} {outbox : List Out} {rnd : Nat}
    {beryl : BerylSt} {link : LinkSt} {txn : TxnSt} {outlets : Vector Outlet 8} {pool : PoolSt} {vlk : VlkSt} {onyx : OnyxSt}
    {efi : EfiSt} {garnet : GarnetSt} {aux : AuxSt} {slk : SlkSt} {flt : FltSt} {upd : UpdSt} (h : Kept fx s) (e : SameSys s.sys y) :
    Kept fx { s with sys := y, due := due, outbox := outbox, rnd := rnd, beryl := beryl, link := link, txn := txn,
                     outlets := outlets, pool := pool, vlk := vlk, onyx := onyx, efi := efi, garnet := garnet, aux := aux,
                     slk := slk, flt := flt, upd := upd } := by
  obtain ⟨e1, e2, e3, e4⟩ := e
  obtain ⟨p, hp, rfl⟩ := h.source
  refine ⟨fun ha => ?_, by simp only [fixedOf, e2, e3, e4]⟩
  obtain ⟨h1, h2, h3, h4, h5, h6, h7⟩ := hp ha
  exact ⟨h1, h2, h3, h4, fun img hi => h5 img (e1.symm.trans hi), h6, h7⟩

theorem kept_modSys {f : SysSt → SysSt} (h : Kept fx s) (e : ∀ y, SameSys y (f y)) : Kept fx (modSys f s) := kept_sys h (e s.sys)

theorem kept_modMtr {f : MtrSt → MtrSt} (h : Kept fx s) (e : ∀ x, (f x).cycles = x.cycles) : Kept fx (modMtr f s) := by
  obtain ⟨p, hp, rfl⟩ := h.source
  refine ⟨fun ha => ?_, by simp only [fixedOf, modMtr, e]⟩
  obtain ⟨h1, h2, h3, h4, h5, h6, h7⟩ := hp ha
  exact ⟨h1, h2, h3, h4, h5, h6, h7⟩

theorem kept_modNfc {f : NfcSt → NfcSt} (h : Kept fx s) (e : ∀ n : NfcSt, memWf n.mem = true → memWf (f n).mem = true) :
    Kept fx (modNfc f s) := by
  obtain ⟨p, hp, rfl⟩ := h.source
  refine ⟨fun ha => ?_, rfl⟩
  obtain ⟨h1, h2, h3, h4, h5, h6, h7⟩ := hp ha
  exact ⟨h1, h2, h3, h4, h5, e _ h6, h7⟩

/-- The three memories of the display in canonical form. -/
def PictureWf (d : DspSt) : Prop := memWf d.mem = true ∧ memWf d.opal = true ∧ memWf d.map = true

theorem kept_modDsp_of_wf {f : DspSt → DspSt} (h : Kept fx s) (e : ∀ d, PictureWf d → PictureWf (f d)) : Kept fx (modDsp f s) := by
  obtain ⟨p, hp, rfl⟩ := h.source
  refine ⟨fun ha => ?_, rfl⟩
  obtain ⟨h1, h2, h3, h4, h5, h6, h7⟩ := hp ha
  exact ⟨h1, h2, h3, h4, h5, h6, e _ h7⟩

/-- Display states with the same three memories. -/
structure SamePicture (x y : DspSt) : Prop where
  mem  : y.mem = x.mem
  opal : y.opal = x.opal
  map  : y.map = x.map

theorem kept_modDsp {f : DspSt → DspSt} (h : Kept fx s) (e : ∀ d, SamePicture d (f d)) : Kept fx (modDsp f s) :=
  kept_modDsp_of_wf h fun d hd => by simpa only [PictureWf, (e d).mem, (e d).opal, (e d).map] using hd

theorem kept_params {m : List (Nat × Nat)} (h : Kept fx s) (e : Sound s → storeWf m) : Kept fx { s with params := m } := by
  refine ⟨h.asked fun hs => ?_, h.fixed⟩
  have e := e hs
  obtain ⟨h1, h2, _, h4, h5, h6, h7⟩ := hs
  exact ⟨h1, h2, e, h4, h5, h6, h7⟩

theorem kept_queues {q : Nat} {hq : q < 4} {x : Queue} (h : Kept fx s) (e : Sound s → 4 * x.recs.length ≤ queueWords ⟨q, hq⟩) :
    Kept fx { s with queues := s.queues.set q x hq } := by
  refine ⟨h.asked fun hs => ?_, h.fixed⟩
  have e := e hs
  obtain ⟨h1, h2, h3, h4, h5, h6, h7⟩ := hs
  refine ⟨h1, fun i => ?_, h3, h4, h5, h6, h7⟩
  by_cases hi : q = i
  · subst hi
    simpa only [Fin.getElem_fin, Vector.getElem_set_self] using e
  · simpa only [Fin.getElem_fin, Vector.getElem_set_ne _ _ hi] using h2 i

/-- A queue that holds no more records than before. -/
theorem kept_queues_of_le {q : Nat} {hq : q < 4} {x : Queue} (h : Kept fx s) (e : x.recs.length ≤ s.queues[q].recs.length) :
    Kept fx { s with queues := s.queues.set q x hq } := by
  refine kept_queues h fun hs => ?_
  have hle : 4 * s.queues[q].recs.length ≤ queueWords ⟨q, hq⟩ := hs.queues ⟨q, hq⟩
  omega

/-! ### Verdicts and outcomes -/

/-- The change that a verdict makes in its own frame keeps what every operation keeps. -/
def Verdict.Keeps : Verdict → Prop
  | .refuse _ _ => True
  | .reject _ _ now => ∀ fx s, Kept fx s → Kept fx (now s)
  | .accept _ _ now => ∀ fx s, Kept fx s → Kept fx (now s)

theorem keeps_ite {p : Prop} [Decidable p] {a b : Verdict} (ha : a.Keeps) (hb : b.Keeps) : (if p then a else b).Keeps := by
  split
  · exact ha
  · exact hb

theorem keeps_dite {p : Prop} [Decidable p] {a : p → Verdict} {b : ¬ p → Verdict} (ha : ∀ hp, (a hp).Keeps) (hb : ∀ hp, (b hp).Keeps) :
    (if hp : p then a hp else b hp).Keeps := by
  split
  · exact ha _
  · exact hb _

theorem keeps_no (d : Nat) : (no d).Keeps := trivial

theorem keeps_refuse (d : Nat) (r : List Byte) : (Verdict.refuse d r).Keeps := trivial

theorem keeps_done : done.Keeps := fun _ _ h => h

theorem keeps_accept_id (d : Nat) (r : Option (List Byte)) : (Verdict.accept d r id).Keeps := fun _ _ h => h

/-- An answer that goes on to a state with the same queue of commands, sound where that is asked. -/
def Completes (fx : Fixed) (o : Outcome State Fault Refusal) : Prop := ∃ t, o = .next t ∧ (fx.asks → Sound t) ∧ t.pending = fx.pending

theorem completes_ans (h : Kept fx s) : Completes fx (ans s) := ⟨s, rfl, h.sound, by rw [← h.fixed]; rfl⟩

theorem completes_ite {p : Prop} [Decidable p] {a b : Outcome State Fault Refusal} (ha : Completes fx a)
    (hb : Completes fx b) : Completes fx (if p then a else b) := by
  split
  · exact ha
  · exact hb

theorem completes_dite {p : Prop} [Decidable p] {a : p → Outcome State Fault Refusal}
    {b : ¬ p → Outcome State Fault Refusal} (ha : ∀ hp, Completes fx (a hp)) (hb : ∀ hp, Completes fx (b hp)) :
    Completes fx (if hp : p then a hp else b hp) := by
  split
  · exact ha _
  · exact hb _

end Sys2Proof.Machine
end

section
/-! SUPPORT. The invariant kept by the operations every chapter shares: one lemma for each operation, in the order of the model. -/

namespace Sys2Proof.Machine

open Host (Cell Outcome)

variable {fx : Fixed} {s : State}

theorem kept_draw (hs : Kept fx s) : Kept fx s.draw := kept_other hs

theorem kept_pset {id inst v : Nat} (hs : Kept fx s) : Kept fx (pset id inst v s) := by
  unfold pset
  exact kept_ite (kept_other hs) (kept_params hs (fun hs => storeWf_storePut _ _ _ hs.params))

theorem kept_emit {o : Out} (hs : Kept fx s) : Kept fx (emit o s) := by
  unfold emit
  exact kept_other hs

theorem kept_sendOn {i : Fin 2} {packet : List Byte} (hs : Kept fx s) : Kept fx (sendOn i packet s) := by
  unfold sendOn
  split
  · exact hs
  · exact kept_emit (kept_other hs)

theorem kept_notifyHosts (hs : Kept fx s) : Kept fx (notifyHosts s) := by
  unfold notifyHosts
  exact kept_ite (kept_foldl hs (fun _ _ ht => kept_sendOn ht)) hs

theorem Queue.length_push {cap frame id dom detail arg : Nat} {payload : List Byte} {q : Queue} {w : Nat} (hcap : cap ≤ w)
    (h : 4 * q.recs.length ≤ w) : 4 * (q.push cap frame id dom detail arg payload).recs.length ≤ w := by
  simp only [Queue.push]
  split
  · simp only [List.length_append]
    omega
  · exact h

theorem kept_pushEvent {id dom detail arg : Nat} {payload : List Byte} (hs : Kept fx s) :
    Kept fx (pushEvent id dom detail arg payload s) := by
  have hq : Kept fx { s with queues := s.queues.set 0 (s.queues[(0 : Fin 4)].push
      (if permanentEvent id detail arg then 4096 else 4032) s.frame id dom detail arg payload) } := by
    refine kept_queues hs fun hs => Queue.length_push ?_ (hs.queues 0)
    simp only [queueWords]
    split <;> omega
  exact kept_ite (kept_notifyHosts hq) hq

theorem kept_pushData {q : Fin 4} {id dom detail arg : Nat} {payload : List Byte} (hs : Kept fx s) :
    Kept fx (pushData q id dom detail arg payload s) := by
  have hq : Kept fx { s with queues := s.queues.set q (s.queues[q].push (queueWords q) s.frame id dom detail arg payload) } :=
    kept_queues hs fun hs => Queue.length_push (Nat.le_refl _) (hs.queues q)
  exact kept_ite (kept_pushEvent hq) hq

theorem kept_noteFault {d : Fin 12} {cause : Nat} {permanent counted byCmd : Bool} (hs : Kept fx s) : Kept fx (noteFault d
    cause permanent counted byCmd s) := by
  unfold noteFault
  exact kept_ite hs (kept_other hs)

theorem kept_evp {id dom detail arg : Nat} {payload : List Byte} (hs : Kept fx s) : Kept fx (evp id dom detail arg payload s)
    := by
  unfold evp
  extract_lets s1
  have hs1 : Kept fx s1 := kept_pushEvent hs
  split
  · exact hs1
  · exact kept_dite (fun _ => kept_noteFault hs1) (fun _ => hs1)

theorem kept_ev {id dom detail arg : Nat} (hs : Kept fx s) : Kept fx (ev id dom detail arg s) := by
  unfold ev
  exact kept_evp hs

theorem kept_writeRecord {kind number action cause : Nat} {reason : List Byte} (hs : Kept fx s) : Kept fx (writeRecord kind
    number action cause reason s) := by
  unfold writeRecord
  exact kept_other hs

theorem kept_setObj {o : ObjFault} (hs : Kept fx s) : Kept fx (setObj o s) := by
  unfold setObj
  exact kept_other hs

theorem kept_retireObj {kind number dom cause action detail : Nat} {reason : List Byte} (hs : Kept fx s) : Kept fx (retireObj
    kind number dom cause action detail reason s) := by
  unfold retireObj
  exact kept_ite hs (kept_ev (kept_writeRecord (kept_setObj hs)))

theorem kept_objFailure {kind number dom cause : Nat} (hs : Kept fx s) : Kept fx (objFailure kind number dom cause s) := by
  unfold objFailure
  extract_lets o fails s1
  have hs1 : Kept fx s1 := kept_setObj hs
  exact kept_ite (kept_retireObj hs1) hs1

theorem kept_returnObj {kind number dom : Nat} {reason : List Byte} (hs : Kept fx s) : Kept fx (returnObj kind number dom
    reason s) := by
  unfold returnObj
  exact kept_ev (kept_writeRecord (kept_setObj hs))

theorem kept_sendReply {r : Reply} (hs : Kept fx s) : Kept fx (sendReply r s) := by
  unfold sendReply
  split
  · exact kept_other hs
  · split
    · exact hs
    · exact kept_sendOn (kept_other hs)
  · exact kept_emit hs

theorem kept_refuseNow {h : Hdr} {op detail : Nat} {result : List Byte} (hs : Kept fx s) : Kept fx (refuseNow h op detail
    result s) := by
  unfold refuseNow
  exact kept_sendReply hs

theorem kept_enterWindow {h : Hdr} (hs : Kept fx s) : Kept fx (enterWindow h s) := by
  unfold enterWindow
  dsimp only
  split
  · exact kept_other hs
  · split
    · exact kept_other hs
    · exact hs
  · exact hs

theorem kept_noteAdmitted {l : LinkId} (hs : Kept fx s) : Kept fx (noteAdmitted l s) := by
  unfold noteAdmitted
  exact kept_ite (kept_other hs) (kept_other hs)

theorem kept_inWindow {h : Hdr} {op : Nat} {k : State → State} (hk : ∀ c s, Kept c s → Kept c (k s)) (hs : Kept fx s) : Kept fx
    (inWindow h op k s) := by
  unfold inWindow
  refine kept_ite hs ?_
  extract_lets s1
  have hs1 : Kept fx s1 := kept_noteAdmitted hs
  split
  · refine kept_ite ?_ (kept_refuseNow hs1)
    split
    · exact kept_sendReply hs1
    · exact hs1
  · exact hk _ _ (kept_enterWindow hs1)

theorem kept_hostCmd {h : Hdr} {op : Nat} {cmd : Instr} {layout lengths : Bool} {bad : List Byte} {rules : State → Verdict}
    (hrules : ∀ s, (rules s).Keeps) (hs : Kept fx s) : Kept fx (hostCmd h op cmd layout lengths bad rules s) := by
  refine kept_inWindow (fun c s hs => ?_) hs
  split
  · exact kept_refuseNow hs
  · split
    · exact kept_refuseNow hs
    · have hr := hrules s
      split
      · exact kept_refuseNow hs
      case _ heq => rw [heq] at hr; exact kept_refuseNow (hr _ _ hs)
      case _ heq => rw [heq] at hr; exact hr _ _ (kept_other hs)

theorem kept_setTxn {t : Txn} (hs : Kept fx s) : Kept fx (setTxn t s) := by
  unfold setTxn
  exact kept_other hs

theorem kept_dropTxn {t : Txn} {o : TxnOutcome} (hs : Kept fx s) : Kept fx (dropTxn t o s) := by
  unfold dropTxn
  exact kept_other hs

theorem kept_leaveBook {t : Txn} (hs : Kept fx s) : Kept fx (leaveBook t s) := by
  unfold leaveBook
  exact kept_ite (kept_other hs) hs

theorem kept_preempt {n : Nat} {keys : List (Nat × Nat)} (hs : Kept fx s) : Kept fx (preempt n keys s) := by
  unfold preempt
  exact kept_foldl hs (fun _ _ ht => kept_ev (kept_leaveBook (kept_dropTxn ht)))

theorem kept_buildTxn {p : Purpose} {acts : List Action} {f : Nat} (hs : Kept fx s) : Kept fx (buildTxn p acts f s) := by
  unfold buildTxn
  split
  · exact hs
  · exact kept_preempt (kept_other hs)

end Sys2Proof.Machine
end

section
/-! SUPPORT. The invariant kept by the links, sessions, system opcodes and queues (chapter 02): one lemma for each operation, in the order of the model. -/

namespace Sys2Proof.Machine

open Host (Cell Outcome)

variable {fx : Fixed} {s : State}

theorem kept_modLink {f : LinkSt → LinkSt} (hs : Kept fx s) : Kept fx (modLink f s) := by
  unfold modLink
  exact kept_other hs

theorem kept_modCounters {f : LinkCounters → LinkCounters} (hs : Kept fx s) : Kept fx (modCounters f s) := by
  unfold modCounters
  exact kept_modLink hs

theorem completes_execWritePacket {bytes : List Byte} (hs : Kept fx s) : Completes fx (execWritePacket bytes s) := by
  unfold execWritePacket
  exact completes_ite (completes_ans hs) (completes_ite (completes_ans (kept_modCounters hs)) (completes_ite (completes_ans
    (kept_modCounters hs)) (completes_ite (completes_ans (kept_modCounters hs)) (completes_ite (completes_ans (kept_modCounters
    hs)) (completes_ite (completes_ans (kept_modCounters hs)) (completes_ans (kept_modLink hs)))))))

theorem kept_makeReady (hs : Kept fx s) : Kept fx (makeReady s) := by
  unfold makeReady
  exact kept_modLink hs

theorem completes_execLinkReady (hs : Kept fx s) : Completes fx (execLinkReady s) := by
  unfold execLinkReady
  split
  · exact completes_ite (completes_ans (kept_makeReady hs)) (completes_ans hs)
  · exact completes_ans hs

theorem kept_authFailReport {slot : Nat} (hs : Kept fx s) : Kept fx (authFailReport slot s) := by
  unfold authFailReport
  exact kept_dite (fun _ => kept_ite (kept_ev (kept_modLink hs)) (kept_modLink hs)) (fun _ => hs)

theorem kept_takePacket {l : LinkId} {p : List Byte} (hs : Kept fx s) : Kept fx (takePacket l p s) := by
  unfold takePacket
  exact kept_ite (kept_modCounters hs) (kept_ite hs (kept_modLink hs))

theorem completes_execDatagramReceived {peer : Nat} {bytes : List Byte} (hs : Kept fx s) : Completes fx (execDatagramReceived
    peer bytes s) := by
  unfold execDatagramReceived
  refine completes_ite (completes_ans hs) ?_
  refine completes_ite ?_ ?_
  · dsimp only
    split
    · exact completes_ite (completes_ans (kept_takePacket (kept_modCounters hs))) (completes_ans (kept_authFailReport
        (kept_modCounters hs)))
    · exact completes_ans (kept_authFailReport (kept_modCounters hs))
  · split
    · exact completes_ans (kept_modCounters hs)
    · split
      · exact completes_ans hs
      · exact completes_ite (completes_ans (kept_authFailReport (kept_modCounters hs))) (completes_ite (completes_ans
          (kept_authFailReport (kept_modCounters hs))) (completes_ans (kept_takePacket (kept_modCounters (kept_modLink hs)))))

theorem kept_closeSession {i : Fin 2} (hs : Kept fx s) : Kept fx (closeSession i s) := by
  unfold closeSession
  exact kept_modLink hs

theorem completes_execEthSessionTimeout {i : Fin 2} (hs : Kept fx s) : Completes fx (execEthSessionTimeout i s) := by
  unfold execEthSessionTimeout
  split
  · exact completes_ite (completes_ans (kept_ev (kept_closeSession hs))) (completes_ans hs)
  · exact completes_ans hs

theorem keeps_helloRules {h : Hdr} {slot : Nat} {s : State} : (helloRules h slot s).Keeps := by
  unfold helloRules
  split
  · exact keeps_ite (keeps_no _) (keeps_ite (keeps_no _) keeps_done)
  · exact keeps_no _

theorem completes_execEthHello {h : Hdr} {slot : Nat} {nonce : List Byte} (hs : Kept fx s) : Completes fx (execEthHello h slot
    nonce s) := by
  unfold execEthHello
  exact completes_ans (kept_hostCmd (fun _ => keeps_helloRules) hs)

theorem kept_applyHello {h : Hdr} {slot : Nat} {nonce : List Byte} (hs : Kept fx s) : Kept fx (applyHello h slot nonce s).1 :=
    by
  unfold applyHello
  split
  · dsimp only
    exact kept_modLink (kept_draw (kept_closeSession hs))
  · exact hs

theorem keeps_closeRules {h : Hdr} {s : State} : (closeRules h s).Keeps := by
  unfold closeRules
  split
  · exact keeps_done
  · exact keeps_no _

theorem completes_execEthClose {h : Hdr} (hs : Kept fx s) : Completes fx (execEthClose h s) := by
  unfold execEthClose
  exact completes_ans (kept_hostCmd (fun _ => keeps_closeRules) hs)

theorem completes_execNop {h : Hdr} (hs : Kept fx s) : Completes fx (execNop h s) := by
  unfold execNop
  exact completes_ans (kept_hostCmd (fun _ => keeps_done) hs)

theorem completes_execIdentify {h : Hdr} (hs : Kept fx s) : Completes fx (execIdentify h s) := by
  unfold execIdentify
  exact completes_ans (kept_hostCmd (fun _ => keeps_done) hs)

theorem completes_execLinkInfo {h : Hdr} {flags : Nat} (hs : Kept fx s) : Completes fx (execLinkInfo h flags s) := by
  unfold execLinkInfo
  exact completes_ans (kept_hostCmd (fun _ => keeps_done) hs)

theorem completes_execFrameRead {h : Hdr} (hs : Kept fx s) : Completes fx (execFrameRead h s) := by
  unfold execFrameRead
  exact completes_ans (kept_hostCmd (fun _ => keeps_done) hs)

theorem keeps_pskRules {h : Hdr} {slot : Nat} {s : State} : (pskRules h slot s).Keeps := by
  unfold pskRules
  exact keeps_ite (keeps_no _) (keeps_ite (keeps_no _) keeps_done)

theorem completes_execPskSet {h : Hdr} {slot : Nat} {key : List Byte} (hs : Kept fx s) : Completes fx (execPskSet h slot key s)
    := by
  unfold execPskSet
  exact completes_ans (kept_hostCmd (fun _ => keeps_pskRules) hs)

theorem kept_applyPskSet {slot : Nat} {key : List Byte} (hs : Kept fx s) : Kept fx (applyPskSet slot key s) := by
  unfold applyPskSet
  exact kept_dite (fun _ => kept_modLink hs) (fun _ => hs)

theorem completes_execPskClear {h : Hdr} {slot : Nat} (hs : Kept fx s) : Completes fx (execPskClear h slot s) := by
  unfold execPskClear
  exact completes_ans (kept_hostCmd (fun _ => keeps_pskRules) hs)

theorem kept_applyPskClear {slot : Nat} (hs : Kept fx s) : Kept fx (applyPskClear slot s) := by
  unfold applyPskClear
  refine kept_dite ?_ (fun _ => hs)
  intro _
  refine kept_foldl (kept_modLink hs) ?_
  intro _ _ hu
  split
  · exact kept_ite (kept_closeSession hu) hu
  · exact hu

theorem keeps_queueReadRules {queue words : Nat} {s : State} : (queueReadRules queue words s).Keeps := by
  unfold queueReadRules
  exact keeps_ite (keeps_no _) (keeps_ite (keeps_no _) keeps_done)

theorem completes_execQueueRead {h : Hdr} {queue words : Nat} (hs : Kept fx s) : Completes fx (execQueueRead h queue words s)
    := by
  unfold execQueueRead
  exact completes_ans (kept_hostCmd (fun _ => keeps_queueReadRules) hs)

theorem Queue.length_checkFirst_le (q : Queue) : q.checkFirst.1.recs.length ≤ q.recs.length := by
  unfold Queue.checkFirst
  split
  · exact Nat.le_refl _
  case _ r rest heq =>
    dsimp only
    split
    · simpa only [heq, List.length_cons] using Nat.le_succ_of_le (List.dropWhile_sublist _).length_le
    · split <;> simp only [heq, List.length_cons, Nat.le_refl]

/-- Delivered words leave the queue: its records grow no more. -/
theorem Queue.length_deliver_le (fuel n : Nat) (q : Queue) : (Queue.deliver fuel n q).1.recs.length ≤ q.recs.length := by
  induction fuel generalizing n q with
  | zero => exact Nat.le_refl _
  | succ fuel ih =>
    cases n with
    | zero => exact Nat.le_refl _
    | succ n =>
      rw [Queue.deliver]
      rotate_left
      · exact nofun
      have hfirst : (if q.pos = 0 then q.checkFirst else (q, none)).1.recs.length ≤ q.recs.length := by
        split
        · exact Queue.length_checkFirst_le q
        · exact Nat.le_refl _
      split
      case _ q' ws heq =>
        rw [heq] at hfirst
        exact Nat.le_trans (ih _ q') hfirst
      case _ q' heq =>
        rw [heq] at hfirst
        split
        · exact hfirst
        case _ r rest hrecs =>
          refine Nat.le_trans (ih _ _) (Nat.le_trans ?_ hfirst)
          split <;> simp only [hrecs, List.length_cons, Nat.le_succ, Nat.le_refl]

theorem kept_readQueue {queue words : Nat} (hs : Kept fx s) : Kept fx (readQueue queue words s).1 := by
  unfold readQueue
  split
  · exact kept_queues_of_le hs (Queue.length_deliver_le ..)
  · exact hs

theorem completes_execQueueDrop {h : Hdr} {queue : Nat} (hs : Kept fx s) : Completes fx (execQueueDrop h queue s) := by
  unfold execQueueDrop
  refine completes_ans ?_
  refine kept_hostCmd ?_ hs
  intro _
  refine keeps_ite (keeps_no _) ?_
  split
  · exact keeps_ite (keeps_accept_id _ _) keeps_done
  · exact keeps_done

theorem kept_dropQueue {queue : Nat} (hs : Kept fx s) : Kept fx (dropQueue queue s).1 := by
  unfold dropQueue
  split
  · dsimp only
    split
    · exact hs
    · refine kept_queues_of_le hs ?_
      dsimp only
      split
      case _ r rest heq =>
        simpa only [heq, List.length_cons] using Nat.le_succ_of_le (List.dropWhile_sublist _).length_le
      · exact Nat.zero_le _
  · exact hs

theorem completes_execQueueStatus {h : Hdr} {queue flags : Nat} (hs : Kept fx s) : Completes fx (execQueueStatus h queue flags
    s) := by
  unfold execQueueStatus
  exact completes_ans (kept_hostCmd (fun _ => keeps_ite (keeps_no _) keeps_done) hs)

theorem kept_statusQueue {queue flags : Nat} (hs : Kept fx s) : Kept fx (statusQueue queue flags s).1 := by
  unfold statusQueue
  split
  · exact kept_ite (kept_queues_of_le hs (Nat.le_refl _)) hs
  · exact hs

theorem kept_flipWord {queue : Fin 4} {rec word : Nat} {pat : BitVec 39} (hs : Kept fx s) :
    Kept fx (flipWord queue rec word pat s) :=
  kept_queues_of_le hs (by simp only [List.length_modify, Fin.getElem_fin, Nat.le_refl])

end Sys2Proof.Machine
end

section
/-! SUPPORT. The invariant kept by the switch bank (chapter 12): one lemma for each operation, in the order of the model. -/

namespace Sys2Proof.Machine

open Host (Cell Outcome)

variable {fx : Fixed} {s : State}

theorem kept_modAux {n : Fin 12} {f : AuxCh → AuxCh} (hs : Kept fx s) : Kept fx (modAux n f s) := by
  unfold modAux
  exact kept_other hs

theorem kept_auxReport {n : Fin 12} (hs : Kept fx s) : Kept fx (auxReport n s) := by
  unfold auxReport
  exact kept_ite hs (kept_ev (kept_modAux hs))

theorem kept_auxOn {n : Fin 12} (hs : Kept fx s) : Kept fx (auxOn n s) := by
  unfold auxOn
  exact kept_modAux hs

theorem kept_auxOff {st : AuxState} {n : Fin 12} (hs : Kept fx s) : Kept fx (auxOff st n s) := by
  unfold auxOff
  exact kept_modAux hs

theorem kept_auxEnqueue {n : Fin 12} (hs : Kept fx s) : Kept fx (auxEnqueue n s) := by
  unfold auxEnqueue
  exact kept_modAux hs

theorem kept_auxStart {n : Fin 12} (hs : Kept fx s) : Kept fx (auxStart n s) := by
  unfold auxStart
  exact kept_ite (kept_auxOff hs) (kept_ite (kept_modAux hs) (kept_ite (kept_auxOn (kept_modAux hs)) (kept_ev (kept_auxEnqueue
    hs))))

theorem kept_applyAux {n : Fin 12} {mode duty : Nat} (hs : Kept fx s) : Kept fx (applyAux n mode duty s) := by
  unfold applyAux
  refine kept_ite hs ?_
  refine kept_ite ?_ ?_
  · extract_lets s1
    have hs1 : Kept fx s1 := kept_modAux hs
    exact kept_ite hs1 (kept_auxOff (kept_modAux hs1))
  · extract_lets now s1
    have hs1 : Kept fx s1 := kept_modAux hs
    exact kept_ite (kept_auxStart hs1) hs1

theorem kept_applyAuxes {acts : List (Fin 12 × Nat × Nat)} (hs : Kept fx s) : Kept fx (applyAuxes acts s) := by
  unfold applyAuxes
  exact kept_foldl hs (fun _ _ ht => kept_applyAux ht)

theorem kept_auxRestart {n : Fin 12} (hs : Kept fx s) : Kept fx (auxRestart n s) := by
  unfold auxRestart
  exact kept_ite (kept_ite (kept_modAux hs) (kept_auxEnqueue hs)) hs

theorem kept_auxTrip {n : Fin 12} {cause : Nat} (hs : Kept fx s) : Kept fx (auxTrip n cause s) := by
  unfold auxTrip
  extract_lets c f s1 s2 s3
  have hs1 : Kept fx s1 := kept_modAux hs
  have hs2 : Kept fx s2 := kept_auxOff hs1
  have hs3 : Kept fx s3 := kept_modAux hs2
  exact kept_ite (kept_objFailure (kept_auxReport (kept_ev (kept_auxOff hs1)))) (kept_auxReport (kept_ev hs3))

theorem kept_auxCount {x : AuxSample} (hs : Kept fx s) : Kept fx (auxCount x s) := by
  unfold auxCount
  exact kept_modAux hs

theorem kept_auxSupply {v : Nat} (hs : Kept fx s) : Kept fx (auxSupply v s) := by
  unfold auxSupply
  exact kept_other hs

theorem kept_auxLamp {n : Fin 12} (hs : Kept fx s) : Kept fx (auxLamp n s) := by
  unfold auxLamp
  exact kept_modAux hs

theorem kept_auxLampSlot {n : Fin 12} (hs : Kept fx s) : Kept fx (auxLampSlot n s) := by
  unfold auxLampSlot
  exact kept_modAux hs

theorem kept_auxEdge {vbank : Option Nat} {xs : List AuxSample} (hs : Kept fx s) : Kept fx (auxEdge vbank xs s) := by
  unfold auxEdge
  refine kept_foldl ?_ (fun _ _ ht => kept_auxLamp (kept_auxReport ht))
  refine kept_foldl ?_ (fun _ _ ht => kept_auxCount ht)
  split
  · exact kept_auxSupply hs
  · exact kept_auxSupply hs

theorem kept_auxStep6 (hs : Kept fx s) : Kept fx (auxStep6 s) := by
  unfold auxStep6
  exact kept_foldl hs (fun _ _ ht => kept_ite (kept_auxOff ht) (kept_auxOn ht))

theorem kept_auxSlot (hs : Kept fx s) : Kept fx (auxSlot s) := by
  unfold auxSlot
  exact kept_foldl hs (fun _ _ ht => kept_auxLampSlot ht)

theorem kept_auxReserve {n : Fin 12} (hs : Kept fx s) : Kept fx (auxReserve n s) := by
  unfold auxReserve
  exact kept_modAux hs

theorem kept_auxPowerOff (hs : Kept fx s) : Kept fx (auxPowerOff s) := by
  unfold auxPowerOff
  exact kept_foldl hs (fun _ _ ht => kept_auxOff (kept_modAux ht))

theorem kept_auxFence (hs : Kept fx s) : Kept fx (auxFence s) := by
  unfold auxFence
  exact kept_foldl (kept_other hs) (fun _ _ ht => kept_auxOff ht)

theorem kept_auxReturn (hs : Kept fx s) : Kept fx (auxReturn s) := by
  unfold auxReturn
  exact kept_foldl (kept_other hs) (fun _ _ ht => kept_modAux ht)

theorem completes_execShortCircuit {n : Fin 12} (hs : Kept fx s) : Completes fx (execShortCircuit n s) := by
  unfold execShortCircuit
  exact completes_ite (completes_ans (kept_auxTrip hs)) (completes_ans hs)

theorem completes_execThermalTrip {n : Fin 12} (hs : Kept fx s) : Completes fx (execThermalTrip n s) := by
  unfold execThermalTrip
  exact completes_ite (completes_ite (completes_ans (kept_auxTrip (kept_modAux hs))) (completes_ans (kept_modAux hs)))
    (completes_ans hs)

theorem completes_execThermalLatchClear {n : Fin 12} (hs : Kept fx s) : Completes fx (execThermalLatchClear n s) := by
  unfold execThermalLatchClear
  exact completes_ite (completes_ans (kept_auxRestart (kept_modAux hs))) (completes_ans hs)

theorem completes_execOvercurrentTrip {n : Fin 12} (hs : Kept fx s) : Completes fx (execOvercurrentTrip n s) := by
  unfold execOvercurrentTrip
  exact completes_ite (completes_ans (kept_auxTrip hs)) (completes_ans hs)

theorem completes_execAuxOpenLoad {n : Fin 12} (hs : Kept fx s) : Completes fx (execAuxOpenLoad n s) := by
  unfold execAuxOpenLoad
  exact completes_ite (completes_ans (kept_ev (kept_modAux hs))) (completes_ans hs)

theorem completes_execAuxLoadOk {n : Fin 12} (hs : Kept fx s) : Completes fx (execAuxLoadOk n s) := by
  unfold execAuxLoadOk
  exact completes_ite (completes_ans (kept_ev (kept_modAux hs))) (completes_ans hs)

theorem completes_execQueuedStart (hs : Kept fx s) : Completes fx (execQueuedStart s) := by
  unfold execQueuedStart
  refine completes_ite (completes_ans hs) ?_
  split
  · exact completes_ans hs
  · exact completes_ite (completes_ans (kept_modAux hs)) (completes_ans hs)

theorem completes_execBlankingEnd {n : Fin 12} (hs : Kept fx s) : Completes fx (execBlankingEnd n s) := by
  unfold execBlankingEnd
  exact completes_ite (completes_ans (kept_modAux hs)) (completes_ans hs)

theorem completes_execRetryDelayEnd {n : Fin 12} (hs : Kept fx s) : Completes fx (execRetryDelayEnd n s) := by
  unfold execRetryDelayEnd
  exact completes_ite (completes_ans (kept_auxRestart (kept_modAux hs))) (completes_ans hs)

theorem completes_execRetryWindowEnd {n : Fin 12} (hs : Kept fx s) : Completes fx (execRetryWindowEnd n s) := by
  unfold execRetryWindowEnd
  split
  · exact completes_ite (completes_ans (kept_modAux hs)) (completes_ans hs)
  · exact completes_ans hs

theorem completes_execAuxUv (hs : Kept fx s) : Completes fx (execAuxUv s) := by
  unfold execAuxUv
  exact completes_ite (completes_ans (kept_foldl (kept_ev (kept_other hs)) (fun _ _ ht => kept_ite (kept_auxReport (kept_modAux
    (kept_auxOff ht))) (kept_modAux ht)))) (completes_ans hs)

theorem completes_execAuxUvOk (hs : Kept fx s) : Completes fx (execAuxUvOk s) := by
  unfold execAuxUvOk
  split
  · exact completes_ite (completes_ans (kept_foldl (kept_ev (kept_other hs)) (fun _ _ ht => kept_ite (kept_auxEnqueue ht) ht)))
      (completes_ans hs)
  · exact completes_ans hs

theorem completes_execAuxCtrlFault {check : Nat} (hs : Kept fx s) : Completes fx (execAuxCtrlFault check s) := by
  unfold execAuxCtrlFault
  exact completes_ans (kept_ev (kept_other hs))

theorem keeps_auxSetRules {channel mode duty : Nat} {s : State} : (auxSetRules channel mode duty s).Keeps := by
  unfold auxSetRules
  exact keeps_dite (fun _ => keeps_ite (keeps_no _) (keeps_ite (keeps_no _) (keeps_ite (keeps_no _) (keeps_ite (keeps_no _)
    (fun _ _ hu => kept_buildTxn hu))))) (fun _ => keeps_no _)

theorem completes_execAuxSet {h : Hdr} {channel mode duty : Nat} (hs : Kept fx s) : Completes fx (execAuxSet h channel mode
    duty s) := by
  unfold execAuxSet
  exact completes_ans (kept_hostCmd (fun _ => keeps_auxSetRules) hs)

theorem completes_execAuxStatus {h : Hdr} (hs : Kept fx s) : Completes fx (execAuxStatus h s) := by
  unfold execAuxStatus
  exact completes_ans (kept_hostCmd (fun _ => keeps_done) hs)

theorem keeps_auxClearRules {channel : Nat} {s : State} : (auxClearRules channel s).Keeps := by
  unfold auxClearRules
  exact keeps_dite (fun _ => keeps_ite (keeps_no _) (keeps_ite (keeps_no _) keeps_done)) (fun _ => keeps_no _)

theorem completes_execAuxClear {h : Hdr} {channel reason : Nat} (hs : Kept fx s) : Completes fx (execAuxClear h channel reason
    s) := by
  unfold execAuxClear
  exact completes_ans (kept_hostCmd (fun _ => keeps_auxClearRules) hs)

theorem kept_auxUnlock {n : Fin 12} (hs : Kept fx s) : Kept fx (auxUnlock n s) := by
  unfold auxUnlock
  exact kept_modAux hs

theorem kept_applyAuxClear {channel reason : Nat} (hs : Kept fx s) : Kept fx (applyAuxClear channel reason s) := by
  unfold applyAuxClear
  exact kept_dite (fun _ => kept_ev (kept_auxUnlock hs)) (fun _ => hs)

end Sys2Proof.Machine
end

section
/-! SUPPORT. The invariant kept by the power pool (chapter 06): one lemma for each operation, in the order of the model. -/

namespace Sys2Proof.Machine

open Host (Cell Outcome)

variable {fx : Fixed} {s : State}

theorem kept_modOut {k : Fin 8} {f : Outlet → Outlet} (hs : Kept fx s) : Kept fx (modOut k f s) := by
  unfold modOut
  exact kept_other hs

theorem kept_modPool {f : PoolSt → PoolSt} (hs : Kept fx s) : Kept fx (modPool f s) := by
  unfold modPool
  exact kept_other hs

theorem kept_modPg {g : Fin 16} {f : PowerGroup → PowerGroup} (hs : Kept fx s) : Kept fx (modPg g f s) := by
  unfold modPg
  exact kept_modPool hs

theorem kept_modTie {t : Fin 8} {f : TieSt → TieSt} (hs : Kept fx s) : Kept fx (modTie t f s) := by
  unfold modTie
  exact kept_modPool hs

theorem kept_pgTo {g : Fin 16} {st : PgState} (hs : Kept fx s) : Kept fx (pgTo g st s) := by
  unfold pgTo
  exact kept_ite hs (kept_ev (kept_modPg hs))

theorem kept_pgSet {g : Fin 16} {mV : Nat} {mA : Int} {now : Bool} (hs : Kept fx s) : Kept fx (pgSet g mV mA now s) := by
  unfold pgSet
  exact kept_modPg hs

theorem kept_poolConfig (hs : Kept fx s) : Kept fx (poolConfig s) := by
  unfold poolConfig
  refine kept_foldl hs ?_
  intro _ _ ht
  split
  · exact kept_ite ht (kept_pgTo (kept_pgSet ht))
  · exact kept_ite (kept_pgTo (kept_modPg ht)) (kept_ite (kept_pgSet ht) ht)

theorem kept_pgRefresh {g : Fin 16} (hs : Kept fx s) : Kept fx (pgRefresh g s) := by
  unfold pgRefresh
  exact kept_ite (kept_pgTo hs) hs

theorem kept_moveEnd {m : Fin 4} {outcome check : Nat} (hs : Kept fx s) : Kept fx (moveEnd m outcome check s) := by
  unfold moveEnd
  split
  · exact hs
  · extract_lets s1 s2 mask dom
    have hs1 : Kept fx s1 := kept_modPool hs
    have hs2 : Kept fx s2 := kept_ite (kept_foldl hs1 (fun _ _ ht => kept_pgSet (kept_pset ht))) hs1
    exact kept_ev hs2

theorem kept_failGroup {g : Fin 16} {id arg : Nat} (hs : Kept fx s) : Kept fx (failGroup g id arg s) := by
  unfold failGroup
  refine kept_ite hs ?_
  extract_lets dom s1 s2 s3 s4
  have hs1 : Kept fx s1 := kept_ev hs
  have hs2 : Kept fx s2 := kept_pgTo hs1
  have hs3 : Kept fx s3 := kept_modPg hs2
  have hs4 : Kept fx s4 := kept_objFailure hs3
  split
  · exact hs4
  · split
    · exact kept_ite (kept_moveEnd hs4) hs4
    · exact hs4

theorem kept_modPort {p : Fin 2} {f : CanPort → CanPort} (hs : Kept fx s) : Kept fx (modPort p f s) := by
  unfold modPort
  exact kept_modPool hs

theorem kept_poolStart (hs : Kept fx s) : Kept fx (poolStart s) := by
  unfold poolStart
  exact kept_foldl (kept_foldl hs (fun _ _ ht => kept_modPort ht)) (fun _ _ ht => kept_ite ht (kept_pgTo (kept_modPg ht)))

theorem kept_poolStop (hs : Kept fx s) : Kept fx (poolStop s) := by
  unfold poolStop
  exact kept_foldl hs (fun _ _ ht => kept_modPort ht)

theorem kept_stampStatus {g : Fin 16} {p data : List Byte} (hs : Kept fx s) : Kept fx (stampStatus g p data s) := by
  unfold stampStatus
  extract_lets f f7 s1
  have hs1 : Kept fx s1 := kept_modPg hs
  exact kept_ite (kept_failGroup (kept_modPg hs1)) (kept_ite (kept_ite hs1 (kept_pgTo (kept_modPg hs1))) (kept_pgRefresh hs1))

theorem kept_distribute {k : Fin 8} (hs : Kept fx s) : Kept fx (distribute k s) := by
  unfold distribute
  exact kept_foldl (kept_foldl hs (fun _ _ ht => kept_modPg (kept_pgSet ht))) (fun _ _ ht => kept_modPg (kept_pgSet ht))

theorem kept_moveSetpoints {m : Fin 4} (hs : Kept fx s) : Kept fx (moveSetpoints m s) := by
  unfold moveSetpoints
  split
  · exact hs
  · refine kept_ite hs ?_
    split
    · exact kept_foldl hs (fun _ _ ht => kept_ite (kept_pgSet ht) ht)
    · split
      · exact hs
      · exact kept_foldl hs (fun _ _ ht => kept_pgSet ht)
    · exact hs

theorem kept_poolZero {k : Fin 8} (hs : Kept fx s) : Kept fx (poolZero k s) := by
  unfold poolZero
  exact kept_foldl hs (fun _ _ ht => kept_pgSet ht)

theorem kept_poolSlot (hs : Kept fx s) : Kept fx (poolSlot s) := by
  unfold poolSlot
  exact kept_foldl (kept_foldl (kept_foldl (kept_foldl hs (fun _ _ ht => kept_ite (kept_distribute ht) ht)) (fun _ _ ht =>
    kept_moveSetpoints ht)) (fun _ _ ht => kept_ite (kept_pgSet ht) ht)) (fun _ _ ht => kept_pgRefresh ht)

theorem kept_poolCounts (hs : Kept fx s) : Kept fx (poolCounts s) := by
  unfold poolCounts
  refine kept_foldl ?_ ?_
  · refine kept_foldl hs ?_
    intro _ _ ht
    split
    · exact ht
    · exact kept_modPg ht
  · intro _ _ ht
    split
    · exact kept_ite (kept_modPool ht) ht
    · exact ht

theorem kept_moveEnter {m : Fin 4} {rank : Nat} (hs : Kept fx s) : Kept fx (moveEnter m rank s) := by
  unfold moveEnter
  split
  · exact hs
  · refine kept_ite (kept_modPool hs) ?_
    refine kept_ite (kept_buildTxn (kept_modPool hs)) ?_
    split
    · exact kept_moveEnd hs
    · exact kept_ite (kept_modPool hs) (kept_ite (kept_buildTxn (kept_modPool hs)) (kept_foldl (kept_modPool hs) (fun _ _ ht =>
        kept_modPg ht)))

theorem keeps_assignRules {outlet mask : Nat} {s : State} : (assignRules outlet mask s).Keeps := by
  unfold assignRules
  refine keeps_ite (keeps_no _) ?_
  refine keeps_ite (keeps_no _) ?_
  refine keeps_ite (keeps_no _) ?_
  refine keeps_ite (keeps_no _) ?_
  refine keeps_ite (keeps_no _) ?_
  refine keeps_ite (keeps_no _) ?_
  refine keeps_ite (keeps_no _) ?_
  refine keeps_ite (keeps_no _) ?_
  refine keeps_ite (keeps_accept_id _ _) ?_
  split
  · exact keeps_no _
  · exact fun _ _ ht => kept_moveEnter (kept_modPool ht)

theorem completes_execPolAssign {h : Hdr} {outlet mask : Nat} (hs : Kept fx s) : Completes fx (execPolAssign h outlet mask s)
    := by
  unfold execPolAssign
  exact completes_ans (kept_hostCmd (fun _ => keeps_assignRules) hs)

theorem completes_execMoveRampDownEnd {m : Fin 4} (hs : Kept fx s) : Completes fx (execMoveRampDownEnd m s) := by
  unfold execMoveRampDownEnd
  split
  · exact completes_ite (completes_ans (kept_moveEnter hs)) (completes_ans hs)
  · exact completes_ans hs

theorem completes_execBusMatch {m : Fin 4} (hs : Kept fx s) : Completes fx (execBusMatch m s) := by
  unfold execBusMatch
  split
  · exact completes_ite (completes_ans (kept_moveEnter hs)) (completes_ans hs)
  · exact completes_ans hs

theorem completes_execBusMatchTimeout {m : Fin 4} (hs : Kept fx s) : Completes fx (execBusMatchTimeout m s) := by
  unfold execBusMatchTimeout
  split
  · exact completes_ite (completes_ans (kept_moveEnd hs)) (completes_ans hs)
  · exact completes_ans hs

theorem completes_execMoveTakeUpEnd {m : Fin 4} (hs : Kept fx s) : Completes fx (execMoveTakeUpEnd m s) := by
  unfold execMoveTakeUpEnd
  split
  · exact completes_ite (completes_ans (kept_moveEnd hs)) (completes_ans hs)
  · exact completes_ans hs

theorem kept_cancelMoves {p : Fin 8 → Bool} (hs : Kept fx s) : Kept fx (cancelMoves p s) := by
  unfold cancelMoves
  refine kept_foldl hs ?_
  intro _ _ ht
  split
  · exact ht
  · exact kept_ite (kept_moveEnd ht) ht

theorem kept_tieDrop {t : Fin 8} (hs : Kept fx s) : Kept fx (tieDrop t s) := by
  unfold tieDrop
  exact kept_ite hs (kept_buildTxn hs)

theorem kept_tieFail {t : Fin 8} {close : Bool} (hs : Kept fx s) : Kept fx (tieFail t close s) := by
  unfold tieFail
  exact kept_objFailure (kept_ev hs)

theorem kept_tieWeld {t : Fin 8} (hs : Kept fx s) : Kept fx (tieWeld t s) := by
  unfold tieWeld
  exact kept_ite hs (kept_retireObj (kept_ev (kept_modTie hs)))

theorem completes_execTieWeldCleared {t : Fin 8} (hs : Kept fx s) : Completes fx (execTieWeldCleared t s) := by
  unfold execTieWeldCleared
  dsimp only
  split
  · exact completes_ite (completes_ans (kept_modTie hs)) (completes_ans hs)
  · exact completes_ans hs

theorem completes_execSetpointFrameSend {g : Fin 16} (hs : Kept fx s) : Completes fx (execSetpointFrameSend g s) := by
  unfold execSetpointFrameSend
  split
  · exact completes_ans hs
  · exact completes_ite (completes_ans (kept_modPg (kept_ite hs (kept_emit hs)))) (completes_ans hs)

theorem completes_execPolPgLost {g : Fin 16} (hs : Kept fx s) : Completes fx (execPolPgLost g s) := by
  unfold execPolPgLost
  split
  · exact completes_ite (completes_ans (kept_failGroup hs)) (completes_ans hs)
  · exact completes_ans hs

theorem completes_execPgDeviationFail {g : Fin 16} (hs : Kept fx s) : Completes fx (execPgDeviationFail g s) := by
  unfold execPgDeviationFail
  exact completes_ite (completes_ans (kept_failGroup hs)) (completes_ans hs)

theorem completes_execGroupRecovery {g : Fin 16} (hs : Kept fx s) : Completes fx (execGroupRecovery g s) := by
  unfold execGroupRecovery
  exact completes_ite (completes_ans (kept_pgTo (kept_modPg hs))) (completes_ans hs)

theorem completes_execPolCanBusoff {port : Fin 2} {tec rec : Nat} (hs : Kept fx s) : Completes fx (execPolCanBusoff port tec
    rec s) := by
  unfold execPolCanBusoff
  exact completes_ite (completes_ans hs) (completes_ans (kept_foldl (kept_ev (kept_modPort hs)) (fun _ _ ht => kept_ite
    (kept_failGroup ht) ht)))

theorem completes_execPolCanRecover {port : Fin 2} (hs : Kept fx s) : Completes fx (execPolCanRecover port s) := by
  unfold execPolCanRecover
  exact completes_ite (completes_ans (kept_ev (kept_modPort hs))) (completes_ans hs)

theorem kept_stampPort {port : Fin 2} {tec rec : Nat} (hs : Kept fx s) : Kept fx (stampPort port tec rec s) := by
  unfold stampPort
  exact kept_ite (kept_modPort hs) hs

theorem completes_execPolStatus {h : Hdr} (hs : Kept fx s) : Completes fx (execPolStatus h s) := by
  unfold execPolStatus
  exact completes_ans (kept_hostCmd (fun _ => keeps_done) hs)

theorem completes_execPolProfileInfo {h : Hdr} {slot : Nat} (hs : Kept fx s) : Completes fx (execPolProfileInfo h slot s) := by
  unfold execPolProfileInfo
  exact completes_ans (kept_hostCmd (fun _ => keeps_ite (keeps_no _) keeps_done) hs)

theorem keeps_profileLoadRules {slot offset : Nat} {data : List Byte} {s : State} : (profileLoadRules slot offset data s).Keeps
    := by
  unfold profileLoadRules
  refine keeps_dite ?_ (fun _ => keeps_no _)
  intro _
  refine keeps_ite (keeps_no _) ?_
  refine keeps_ite (keeps_no _) ?_
  dsimp only
  split
  · exact keeps_ite (fun _ _ hu => kept_modPool hu) (fun _ _ hu => kept_modPool hu)
  · exact fun _ _ hu => kept_modPool hu

theorem completes_execPolProfileLoadX {h : Hdr} {slot offset : Nat} {data : List Byte} (hs : Kept fx s) : Completes fx
    (execPolProfileLoadX h slot offset data s) := by
  unfold execPolProfileLoadX
  exact completes_ans (kept_hostCmd (fun _ => keeps_profileLoadRules) hs)

theorem kept_applyProfileLoad {slot : Nat} (hs : Kept fx s) : Kept fx (applyProfileLoad slot s) := by
  unfold applyProfileLoad
  refine kept_dite ?_ (fun _ => hs)
  intro _
  split
  · exact kept_ev (kept_modPool hs)
  · exact hs

theorem completes_execPolPgClearX {h : Hdr} {group reason : Nat} (hs : Kept fx s) : Completes fx (execPolPgClearX h group
    reason s) := by
  unfold execPolPgClearX
  exact completes_ans (kept_hostCmd (fun _ => keeps_ite (keeps_no _) (keeps_ite keeps_done (keeps_no _))) hs)

theorem kept_returnGroup {g : Fin 16} {reason : List Byte} (hs : Kept fx s) : Kept fx (returnGroup g reason s) := by
  unfold returnGroup
  extract_lets s1
  have hs1 : Kept fx s1 := kept_returnObj hs
  exact kept_ite (kept_pgTo (kept_modPg hs1)) hs1

theorem kept_applyPgClear {group reason : Nat} (hs : Kept fx s) : Kept fx (applyPgClear group reason s) := by
  unfold applyPgClear
  exact kept_dite (fun _ => kept_returnGroup hs) (fun _ => hs)

end Sys2Proof.Machine
end

section
/-! SUPPORT. The invariant kept by Garnet (chapter 11): one lemma for each operation, in the order of the model. -/

namespace Sys2Proof.Machine

open Host (Cell Outcome)

variable {fx : Fixed} {s : State}

theorem kept_modGar {f : GarnetSt → GarnetSt} (hs : Kept fx s) : Kept fx (modGar f s) := by
  unfold modGar
  exact kept_other hs

theorem kept_modSi {i : Fin 16} {f : SafeIn → SafeIn} (hs : Kept fx s) : Kept fx (modSi i f s) := by
  unfold modSi
  exact kept_modGar hs

theorem kept_modSo {o : Fin 32} {f : SafeOut → SafeOut} (hs : Kept fx s) : Kept fx (modSo o f s) := by
  unfold modSo
  exact kept_modGar hs

theorem kept_modCd {c : Fin 2} {f : CdSt → CdSt} (hs : Kept fx s) : Kept fx (modCd c f s) := by
  unfold modCd
  exact kept_modGar hs

theorem kept_evNext {id dom detail arg : Nat} (hs : Kept fx s) : Kept fx (evNext id dom detail arg s) := by
  unfold evNext
  exact kept_modGar hs

theorem kept_soOn {o : Fin 32} (hs : Kept fx s) : Kept fx (soOn o s) := by
  unfold soOn
  exact kept_modSo hs

theorem kept_soOff {o : Fin 32} (hs : Kept fx s) : Kept fx (soOff o s) := by
  unfold soOff
  exact kept_modSo hs

theorem kept_ungrant {o : Fin 32} (hs : Kept fx s) : Kept fx (ungrant o s) := by
  unfold ungrant
  exact kept_modSo hs

theorem kept_tripOutlet {k : Fin 8} (hs : Kept fx s) : Kept fx (tripOutlet k s) := by
  unfold tripOutlet
  exact kept_modGar hs

theorem kept_cdTo {c : Fin 2} {st : CdState} (hs : Kept fx s) : Kept fx (cdTo c st s) := by
  unfold cdTo
  exact kept_ite hs (kept_ev (kept_modCd hs))

theorem kept_cdNext {c : Fin 2} {st : CdState} (hs : Kept fx s) : Kept fx (cdNext c st s) := by
  unfold cdNext
  exact kept_modCd hs

theorem kept_cdStop {c : Fin 2} {limit : Option Nat} (hs : Kept fx s) : Kept fx (cdStop c limit s) := by
  unfold cdStop
  refine kept_ite (kept_cdNext (kept_modCd hs)) ?_
  refine kept_ite (kept_cdNext (kept_modCd hs)) ?_
  split
  · exact kept_modCd hs
  · exact hs

theorem kept_cdStopScope {i : Fin 16} (hs : Kept fx s) : Kept fx (cdStopScope i s) := by
  unfold cdStopScope
  exact kept_foldl hs (fun _ _ ht => kept_ite (kept_cdStop ht) ht)

theorem kept_cdStopAll {limit : Option Nat} (hs : Kept fx s) : Kept fx (cdStopAll limit s) := by
  unfold cdStopAll
  exact kept_foldl hs (fun _ _ ht => kept_cdStop ht)

theorem kept_cdFaulted {c : Fin 2} (hs : Kept fx s) : Kept fx (cdFaulted c s) := by
  unfold cdFaulted
  exact kept_ite hs (kept_cdNext (kept_modCd hs))

theorem kept_clearLatches {sel : Nat → Bool} (hs : Kept fx s) : Kept fx (clearLatches sel s) := by
  unfold clearLatches
  exact kept_foldl (kept_modGar (kept_foldl (kept_foldl (kept_foldl hs (fun _ _ ht => kept_modSi ht)) (fun _ _ ht => kept_modSo
    ht)) (fun _ _ ht => kept_ite (kept_modGar ht) ht))) (fun _ _ ht => kept_ite (kept_cdNext ht) ht)

theorem kept_resetInput {i : Fin 16} (hs : Kept fx s) : Kept fx (resetInput i s) := by
  unfold resetInput
  dsimp only
  split
  · exact kept_ite (kept_modSi hs) hs
  · exact kept_ite hs (kept_ite (kept_ev (kept_modSi hs)) (kept_ite (kept_ev (kept_modSi hs)) (kept_ev (kept_clearLatches
      (kept_modSi hs)))))

theorem kept_demandChange {i : Fin 16} (hs : Kept fx s) : Kept fx (demandChange i s) := by
  unfold demandChange
  extract_lets now was func s1 s2 s3
  have hs1 : Kept fx s1 := kept_modSi hs
  have hs2 : Kept fx s2 := kept_ite hs1 (kept_modSi hs1)
  have hs3 : Kept fx s3 := kept_foldl hs2 (fun _ _ ht => kept_ite (kept_tripOutlet ht) ht)
  exact kept_ite (kept_resetInput hs1) (kept_ite hs1 (kept_ite (kept_evNext (kept_cdStopScope hs3)) (kept_ev hs1)))

theorem kept_siFault {i : Fin 16} {how : Nat} (hs : Kept fx s) : Kept fx (siFault i how s) := by
  unfold siFault
  exact kept_ite hs (kept_demandChange (kept_ev (kept_modSi hs)))

theorem kept_siHeal {i : Fin 16} (hs : Kept fx s) : Kept fx (siHeal i s) := by
  unfold siHeal
  exact kept_ite hs (kept_ite (kept_modSi hs) (kept_ite (kept_modSi hs) hs))

theorem kept_siCompare {i : Fin 16} (hs : Kept fx s) : Kept fx (siCompare i s) := by
  unfold siCompare
  exact kept_modSi hs

theorem completes_execSafeInputAccepted {i : Fin 16} {b : Bool} (hs : Kept fx s) : Completes fx (execSafeInputAccepted i b s)
    := by
  unfold execSafeInputAccepted
  exact completes_ite (completes_ans (kept_demandChange (kept_siHeal (kept_siCompare (kept_modSi hs))))) (completes_ans hs)

theorem completes_execSafeInputDiscrepancy {i : Fin 16} (hs : Kept fx s) : Completes fx (execSafeInputDiscrepancy i s) := by
  unfold execSafeInputDiscrepancy
  exact completes_ite (completes_ans (kept_siFault hs)) (completes_ans hs)

theorem completes_execTestPulseMissing {i : Fin 16} {b : Bool} (hs : Kept fx s) : Completes fx (execTestPulseMissing i b s) :=
    by
  unfold execTestPulseMissing
  exact completes_ite (completes_ans (kept_siFault hs)) (completes_ans hs)

theorem kept_soFault {o : Fin 32} {kind : Nat} (hs : Kept fx s) : Kept fx (soFault o kind s) := by
  unfold soFault
  extract_lets s1 s2
  have hs1 : Kept fx s1 := kept_ungrant (kept_modSo hs)
  have hs2 : Kept fx s2 := kept_ev hs1
  split
  · exact kept_ite (kept_retireObj hs2) hs2
  · exact hs2

theorem completes_execOutputTest {out : Fin 36} {kind : Nat} (hs : Kept fx s) : Completes fx (execOutputTest out kind s) := by
  unfold execOutputTest
  refine completes_ite (completes_ans hs) ?_
  refine completes_dite ?_ (fun _ => completes_ite (completes_ans hs) (completes_ite (completes_ans (kept_modGar hs))
    (completes_ans (kept_cdFaulted (kept_ev (kept_modGar hs))))))
  intro _
  refine completes_ite (completes_ans hs) ?_
  extract_lets n s1
  have hs1 : Kept fx s1 := kept_modSo hs
  exact completes_ite (completes_ans (kept_modSo hs1)) (completes_ans (kept_soFault hs1))

theorem completes_execSoOvercurrent {so : Fin 32} (hs : Kept fx s) : Completes fx (execSoOvercurrent so s) := by
  unfold execSoOvercurrent
  exact completes_ite (completes_ans (kept_soFault hs)) (completes_ans hs)

theorem kept_acceptFeedback {o : Fin 32} (hs : Kept fx s) : Kept fx (acceptFeedback o s) := by
  unfold acceptFeedback
  extract_lets f s1 c
  have hs1 : Kept fx s1 := kept_ite (kept_modSo hs) hs
  split
  · exact kept_modTie hs1
  · exact hs1

theorem kept_contactFault {o : Fin 32} (hs : Kept fx s) : Kept fx (contactFault o s) := by
  unfold contactFault
  dsimp only
  split
  · exact kept_ite (kept_ev (kept_modSo hs)) hs
  · exact hs

theorem completes_execGarnetStop {cause : Nat} (hs : Kept fx s) : Completes fx (execGarnetStop cause s) := by
  unfold execGarnetStop
  exact completes_ite (completes_ans hs) (completes_ans (kept_ev (kept_foldl (kept_foldl (kept_modGar hs) (fun _ _ ht =>
    kept_soOff ht)) (fun _ _ ht => kept_ite ht (kept_cdTo (kept_modCd ht))))))

theorem completes_execSysPartnerLost {beat : Bool} (hs : Kept fx s) : Completes fx (execSysPartnerLost beat s) := by
  unfold execSysPartnerLost
  refine completes_ite ?_ (completes_ans hs)
  extract_lets s1 x s2
  have hs1 : Kept fx s1 := kept_modGar hs
  have hs2 : Kept fx s2 := kept_sys hs1 ⟨rfl, rfl, rfl, rfl⟩
  exact completes_ans (kept_cdStopAll (kept_ite hs2 (kept_ev hs2)))

theorem kept_tickCheck {cycles : Nat} (hs : Kept fx s) : Kept fx (tickCheck cycles s) := by
  unfold tickCheck
  exact kept_ite (kept_cdStopAll (kept_ev (kept_sys (kept_modGar hs) ⟨rfl, rfl, rfl, rfl⟩))) (kept_modGar hs)

theorem kept_garnetStart {fb : List Bool} (hs : Kept fx s) : Kept fx (garnetStart fb s) := by
  unfold garnetStart
  extract_lets f s1 s2 s3 s4
  have hs1 : Kept fx s1 := kept_modGar hs
  have hs2 : Kept fx s2 := kept_foldl hs1 (fun _ _ ht => kept_modSi (kept_siCompare (kept_modSi ht)))
  have hs3 : Kept fx s3 := by
    refine kept_foldl hs2 ?_
    intro _ _ ht
    extract_lets c s5 s6
    have hs5 : Kept fx s5 := kept_modSo ht
    have hs6 : Kept fx s6 := kept_acceptFeedback hs5
    exact kept_ite (kept_ev (kept_modSo hs6)) hs6
  have hs4 : Kept fx s4 := by
    refine kept_foldl hs3 ?_
    intro _ _ ht
    extract_lets used s5
    have hs5 : Kept fx s5 := kept_modCd ht
    exact kept_ite (kept_ev hs5) hs5
  exact kept_ite (kept_ev (kept_modGar hs4)) hs4

theorem kept_stampSi {i : Fin 16} {a b : Bool} (hs : Kept fx s) : Kept fx (stampSi i a b s) := by
  unfold stampSi
  exact kept_modSi hs

theorem kept_stampFb {o : Fin 32} {high : Bool} (hs : Kept fx s) : Kept fx (stampFb o high s) := by
  unfold stampFb
  exact kept_modSo hs

theorem kept_stampPulses {frameEnded : Nat} {high : List (Fin 16 × Bool)} (hs : Kept fx s) : Kept fx (stampPulses frameEnded
    high s) := by
  unfold stampPulses
  exact kept_foldl hs (fun _ _ ht => kept_modSi ht)

theorem kept_stampGPilots {xs : List PilotSample} {bad : List (Fin 8)} (hs : Kept fx s) : Kept fx (stampGPilots xs bad s) := by
  unfold stampGPilots
  exact kept_foldl hs (fun _ _ ht => kept_modGar ht)

theorem kept_garnetStep2 (hs : Kept fx s) : Kept fx (garnetStep2 s) := by
  unfold garnetStep2
  refine kept_foldl (kept_foldl hs (fun _ _ ht => kept_ite ht (kept_soOff ht))) ?_
  intro _ _ ht
  split
  · exact kept_ite (kept_cdTo (kept_modCd ht)) ht
  · exact ht

theorem kept_garnetDecide (hs : Kept fx s) : Kept fx (garnetDecide s) := by
  unfold garnetDecide
  exact kept_foldl (kept_foldl hs (fun _ _ ht => kept_ite (kept_ungrant ht) ht)) (fun _ _ ht => kept_ite (kept_cdNext
    (kept_modCd ht)) ht)

theorem kept_garnetEvents (hs : Kept fx s) : Kept fx (garnetEvents s) := by
  unfold garnetEvents
  exact kept_foldl (kept_modGar hs) (fun _ _ ht => kept_ev ht)

theorem completes_execSafCpLoss {k : Fin 8} (hs : Kept fx s) : Completes fx (execSafCpLoss k s) := by
  unfold execSafCpLoss
  exact completes_ite (completes_ans (kept_evNext (kept_foldl hs (fun _ _ ht => kept_ungrant ht)))) (completes_ans hs)

theorem keeps_cdEnableRules {cd action : Nat} {s : State} : (cdEnableRules cd action s).Keeps := by
  unfold cdEnableRules
  exact keeps_dite (fun _ => keeps_ite (keeps_no _) (keeps_ite (keeps_ite (keeps_no _) (keeps_ite (keeps_no _) (keeps_ite
    (keeps_no _) (fun _ _ hu => kept_cdNext (kept_modCd hu))))) (keeps_ite (keeps_accept_id _ _) (keeps_ite (fun _ _ hu =>
    kept_cdNext (kept_modCd hu)) (keeps_no _))))) (fun _ => keeps_no _)

theorem completes_execSafCdEnable {h : Hdr} {cd action : Nat} (hs : Kept fx s) : Completes fx (execSafCdEnable h cd action s)
    := by
  unfold execSafCdEnable
  exact completes_ans (kept_hostCmd (fun _ => keeps_cdEnableRules) hs)

theorem completes_execBrakeRelease {c : Fin 2} (hs : Kept fx s) : Completes fx (execBrakeRelease c s) := by
  unfold execBrakeRelease
  exact completes_ite (completes_ans (kept_cdTo (kept_modCd hs))) (completes_ans hs)

theorem completes_execSs1Timeout {c : Fin 2} (hs : Kept fx s) : Completes fx (execSs1Timeout c s) := by
  unfold execSs1Timeout
  exact completes_ite (completes_ans (kept_cdTo (kept_modCd hs))) (completes_ans hs)

theorem keeps_brakeTestRules {cd : Nat} {s : State} : (brakeTestRules cd s).Keeps := by
  unfold brakeTestRules
  exact keeps_dite (fun _ => keeps_ite (keeps_no _) (keeps_ite (keeps_no _) (keeps_ite (keeps_no _) (fun _ _ hu => kept_cdNext
    (kept_modCd hu))))) (fun _ => keeps_no _)

theorem completes_execSafBrakeTest {h : Hdr} {cd : Nat} (hs : Kept fx s) : Completes fx (execSafBrakeTest h cd s) := by
  unfold execSafBrakeTest
  exact completes_ans (kept_hostCmd (fun _ => keeps_brakeTestRules) hs)

theorem kept_cdRequest {c : Fin 2} {torque : Nat} (hs : Kept fx s) : Kept fx (cdRequest c torque s) := by
  unfold cdRequest
  split
  · exact kept_modCd (kept_emit hs)
  · exact hs

theorem completes_execBrakeTestWindowStart {c : Fin 2} (hs : Kept fx s) : Completes fx (execBrakeTestWindowStart c s) := by
  unfold execBrakeTestWindowStart
  split
  · exact completes_ite (completes_ans (kept_cdRequest (kept_modCd hs))) (completes_ans hs)
  · exact completes_ans hs

theorem kept_brakeTick {c : Fin 2} (hs : Kept fx s) : Kept fx (brakeTick c s) := by
  unfold brakeTick
  split
  · exact kept_ite (kept_cdRequest hs) hs
  · exact hs

theorem kept_brakeStatus {c : Fin 2} {f3 f4 : Int} (hs : Kept fx s) : Kept fx (brakeStatus c f3 f4 s) := by
  unfold brakeStatus
  split
  · exact hs
  · exact kept_ite hs (kept_modCd hs)

theorem kept_brakeEnd {c : Fin 2} {t : BrakeTest} {result : Nat} {atOnce : Bool} (hs : Kept fx s) : Kept fx (brakeEnd c t
    result atOnce s) := by
  unfold brakeEnd
  extract_lets f s1 s2 s3
  have hs1 : Kept fx s1 := kept_cdRequest hs
  have hs2 : Kept fx s2 := kept_modCd hs1
  have hs3 : Kept fx s3 := kept_ev hs2
  exact kept_ite hs3 (kept_ite (kept_cdTo hs3) (kept_cdNext hs3))

theorem completes_execBrakeTestEnd {c : Fin 2} (hs : Kept fx s) : Completes fx (execBrakeTestEnd c s) := by
  unfold execBrakeTestEnd
  split
  · exact completes_ans hs
  · dsimp only
    split
    · exact completes_ans (kept_brakeEnd hs)
    · exact completes_ite (completes_ans (kept_brakeEnd hs)) (completes_ite (completes_ans (kept_brakeEnd hs)) (completes_ans
        hs))

theorem completes_execSafBrakeDue {c : Fin 2} (hs : Kept fx s) : Completes fx (execSafBrakeDue c s) := by
  unfold execSafBrakeDue
  dsimp only
  split
  · exact completes_ite (completes_ans (kept_ev (kept_modCd hs))) (completes_ans hs)
  · exact completes_ans hs

theorem kept_safDiscard (hs : Kept fx s) : Kept fx (safDiscard s) := by
  unfold safDiscard
  exact kept_ite (kept_ev (kept_modGar hs)) hs

theorem completes_execScfgN {high : Bool} (hs : Kept fx s) : Completes fx (execScfgN high s) := by
  unfold execScfgN
  exact completes_ite (completes_ans (kept_safDiscard (kept_modGar hs))) (completes_ans (kept_modGar hs))

theorem keeps_safStageRules {es : List PEntry} {s : State} : (safStageRules es s).Keeps := by
  unfold safStageRules
  refine keeps_ite (keeps_refuse _ _) ?_
  refine keeps_ite (keeps_refuse _ _) ?_
  split
  · exact keeps_refuse _ _
  · exact keeps_accept_id _ _

theorem completes_execSafCfgStageX {h : Hdr} {count : Nat} {entries : List PEntry} (hs : Kept fx s) : Completes fx
    (execSafCfgStageX h count entries s) := by
  unfold execSafCfgStageX
  exact completes_ans (kept_hostCmd (fun _ => keeps_safStageRules) hs)

theorem kept_applySafStage {es : List PEntry} (hs : Kept fx s) : Kept fx (applySafStage es s) := by
  unfold applySafStage
  exact kept_modGar hs

theorem completes_execSafCfgVerifyX {h : Hdr} (hs : Kept fx s) : Completes fx (execSafCfgVerifyX h s) := by
  unfold execSafCfgVerifyX
  exact completes_ans (kept_hostCmd (fun _ => keeps_ite (keeps_no _) (keeps_ite (keeps_refuse _ _) (keeps_accept_id _ _))) hs)

theorem kept_applySafVerify (hs : Kept fx s) : Kept fx (applySafVerify s) := by
  unfold applySafVerify
  exact kept_modGar hs

theorem completes_execSafCfgCommitX {h : Hdr} {signature : Nat} (hs : Kept fx s) : Completes fx (execSafCfgCommitX h signature
    s) := by
  unfold execSafCfgCommitX
  exact completes_ans (kept_hostCmd (fun _ => keeps_ite (keeps_no _) (keeps_ite keeps_done (keeps_no _))) hs)

theorem kept_applySafCommit (hs : Kept fx s) : Kept fx (applySafCommit s) := by
  unfold applySafCommit
  exact kept_ev (kept_modGar hs)

theorem completes_execSafCfgDiscardX {h : Hdr} (hs : Kept fx s) : Completes fx (execSafCfgDiscardX h s) := by
  unfold execSafCfgDiscardX
  exact completes_ans (kept_hostCmd (fun _ => keeps_ite (keeps_accept_id _ _) keeps_done) hs)

theorem keeps_safResetRules {mask : Nat} {s : State} : (safResetRules mask s).Keeps := by
  unfold safResetRules
  exact keeps_ite (keeps_no _) keeps_done

theorem completes_execSafReset {h : Hdr} {mask : Nat} (hs : Kept fx s) : Completes fx (execSafReset h mask s) := by
  unfold execSafReset
  exact completes_ans (kept_hostCmd (fun _ => keeps_safResetRules) hs)

theorem kept_applySafReset {mask : Nat} (hs : Kept fx s) : Kept fx (applySafReset mask s) := by
  unfold applySafReset
  extract_lets t
  have ht : Kept fx t := kept_clearLatches hs
  exact kept_ev ht

theorem completes_execSafStatus {h : Hdr} (hs : Kept fx s) : Completes fx (execSafStatus h s) := by
  unfold execSafStatus
  exact completes_ans (kept_hostCmd (fun _ => keeps_done) hs)

theorem completes_execSafWhy {h : Hdr} {object : Nat} (hs : Kept fx s) : Completes fx (execSafWhy h object s) := by
  unfold execSafWhy
  exact completes_ans (kept_hostCmd (fun _ => keeps_ite (keeps_no _) keeps_done) hs)

theorem completes_execSafInfo {h : Hdr} (hs : Kept fx s) : Completes fx (execSafInfo h s) := by
  unfold execSafInfo
  exact completes_ans (kept_hostCmd (fun _ => keeps_done) hs)

end Sys2Proof.Machine
end

section
/-! SUPPORT. The invariant kept by the triggers of the session machine (R161 to R165): one lemma for each operation, in the order of the model. -/

namespace Sys2Proof.Machine

open Host (Cell Outcome)

variable {fx : Fixed} {s : State}

theorem kept_voidBuilt {k : Fin 8} (hs : Kept fx s) : Kept fx (voidBuilt k s) := by
  unfold voidBuilt
  exact kept_other hs

theorem kept_pendTo {k : Fin 8} {p : Pend} (hs : Kept fx s) : Kept fx (pendTo k p s) := by
  unfold pendTo
  split
  · exact kept_modOut hs
  · exact kept_ite (kept_modOut (kept_voidBuilt hs)) hs

theorem kept_goTo {k : Fin 8} {st : Sess} (hs : Kept fx s) : Kept fx (goTo k st s) := by
  unfold goTo
  exact kept_pendTo hs

theorem kept_openOutlet {k : Fin 8} {reason : Nat} (hs : Kept fx s) : Kept fx (openOutlet k reason s) := by
  unfold openOutlet
  exact kept_ite hs (kept_buildTxn (kept_modOut hs))

theorem kept_forceRollback {k : Fin 8} (hs : Kept fx s) : Kept fx (forceRollback k s) := by
  unfold forceRollback
  exact kept_other hs

theorem kept_addReason {k : Fin 8} {reason : Nat} (hs : Kept fx s) : Kept fx (addReason k reason s) := by
  unfold addReason
  exact kept_ite (kept_modOut hs) hs

theorem kept_stopSession {k : Fin 8} {reason hostReason : Nat} (hs : Kept fx s) : Kept fx (stopSession k reason hostReason s)
    := by
  unfold stopSession
  split
  · exact kept_addReason hs
  · exact kept_addReason hs
  · split
    · extract_lets s1
      have hs1 : Kept fx s1 := kept_pendTo hs
      exact kept_ite (kept_openOutlet hs1) hs1
    · exact hs

theorem kept_faultSession {k : Fin 8} {reason : Nat} (hs : Kept fx s) : Kept fx (faultSession k reason s) := by
  unfold faultSession
  exact kept_ite (kept_openOutlet (kept_forceRollback (kept_pendTo hs))) hs

theorem kept_unplugSession {k : Fin 8} (hs : Kept fx s) : Kept fx (unplugSession k s) := by
  unfold unplugSession
  split
  · exact kept_openOutlet (kept_forceRollback (kept_pendTo hs))
  · exact kept_openOutlet (kept_pendTo hs)
  · exact kept_openOutlet (kept_addReason hs)
  · exact kept_addReason hs
  · exact kept_pendTo hs
  · exact kept_pendTo hs
  · exact kept_pendTo hs
  · exact kept_pendTo hs
  · exact kept_pendTo hs
  · exact kept_openOutlet (kept_pendTo hs)
  · exact kept_openOutlet (kept_pendTo hs)
  · exact kept_openOutlet (kept_pendTo hs)
  · exact kept_pendTo hs
  · exact kept_goTo hs
  · exact hs

end Sys2Proof.Machine
end

section
/-! SUPPORT. The invariant kept by earth fault and insulation (chapter 10): one lemma for each operation, in the order of the model. -/

namespace Sys2Proof.Machine

open Host (Cell Outcome)

variable {fx : Fixed} {s : State}

theorem kept_modEfi {f : EfiSt → EfiSt} (hs : Kept fx s) : Kept fx (modEfi f s) := by
  unfold modEfi
  exact kept_other hs

theorem kept_modRdc {k : Fin 8} {f : RdcSt → RdcSt} (hs : Kept fx s) : Kept fx (modRdc k f s) := by
  unfold modRdc
  exact kept_modEfi hs

theorem kept_modImd {k : Fin 8} {f : ImdSt → ImdSt} (hs : Kept fx s) : Kept fx (modImd k f s) := by
  unfold modImd
  exact kept_modEfi hs

theorem kept_modPe {k : Fin 8} {f : PeSt → PeSt} (hs : Kept fx s) : Kept fx (modPe k f s) := by
  unfold modPe
  exact kept_modEfi hs

theorem kept_modIm {p : Fin 4} {f : ImPort → ImPort} (hs : Kept fx s) : Kept fx (modIm p f s) := by
  unfold modIm
  exact kept_modEfi hs

theorem kept_rdcTick {k : Fin 8} {sample : Option Rat} {exc : Nat} {winding : Bool} (hs : Kept fx s) : Kept fx (rdcTick k
    sample exc winding s) := by
  unfold rdcTick
  exact kept_ite (kept_modRdc hs) (kept_modRdc hs)

theorem kept_rdcTrip {k : Fin 8} {stage : Nat} (hs : Kept fx s) : Kept fx (rdcTrip k stage s) := by
  unfold rdcTrip
  exact kept_evNext (kept_tripOutlet (kept_modRdc hs))

theorem completes_execEfiRdcTrip {k : Fin 8} (hs : Kept fx s) : Completes fx (execEfiRdcTrip k s) := by
  unfold execEfiRdcTrip
  refine completes_ite ?_ (completes_ans hs)
  split
  · exact completes_ans (kept_rdcTrip hs)
  · exact completes_ans hs

theorem completes_execRdcOffsetMeasure {k : Fin 8} (hs : Kept fx s) : Completes fx (execRdcOffsetMeasure k s) := by
  unfold execRdcOffsetMeasure
  exact completes_ite (completes_ans (kept_modRdc hs)) (completes_ans hs)

theorem kept_rdcStartTest {k : Fin 8} (hs : Kept fx s) : Kept fx (rdcStartTest k s) := by
  unfold rdcStartTest
  exact kept_modRdc hs

theorem kept_rdcPilot {k : Fin 8} {p : PilotSt} {fromIdle : Bool} (hs : Kept fx s) : Kept fx (rdcPilot k p fromIdle s) := by
  unfold rdcPilot
  refine kept_ite hs ?_
  dsimp only
  split
  · exact kept_modRdc hs
  · exact kept_ite (kept_rdcStartTest hs) hs
  · exact kept_ite (kept_rdcStartTest hs) hs
  · exact kept_ite (kept_rdcStartTest hs) hs
  · exact hs

theorem completes_execRdcSelfTestEnd {k : Fin 8} (hs : Kept fx s) : Completes fx (execRdcSelfTestEnd k s) := by
  unfold execRdcSelfTestEnd
  exact completes_ite (completes_ans (kept_ev (kept_modRdc hs))) (completes_ans hs)

theorem completes_execEfiRdcFault {k : Fin 8} (hs : Kept fx s) : Completes fx (execEfiRdcFault k s) := by
  unfold execEfiRdcFault
  refine completes_ite ?_ (completes_ans hs)
  split
  · exact completes_ans (kept_rdcTrip (kept_evNext (kept_modRdc hs)))
  · exact completes_ans hs

theorem completes_execPortAssignment {p : Fin 4} (hs : Kept fx s) : Completes fx (execPortAssignment p s) := by
  unfold execPortAssignment
  refine completes_ite ?_ (completes_ans hs)
  split
  · exact completes_ans (kept_modIm (kept_modImd hs))
  · exact completes_ans hs

theorem kept_releasePort {p : Fin 4} (hs : Kept fx s) : Kept fx (releasePort p s) := by
  unfold releasePort
  split
  · exact hs
  · exact kept_modIm (kept_modImd hs)

theorem kept_portFault {p : Fin 4} {how : Nat} (hs : Kept fx s) : Kept fx (portFault p how s) := by
  unfold portFault
  refine kept_objFailure ?_
  refine kept_ev ?_
  refine kept_modIm ?_
  split
  · exact hs
  · exact kept_modImd hs

theorem completes_execSliceReadbackFail {p : Fin 4} (hs : Kept fx s) : Completes fx (execSliceReadbackFail p s) := by
  unfold execSliceReadbackFail
  exact completes_ite (completes_ans (kept_portFault hs)) (completes_ans hs)

theorem kept_imdTrip {k : Fin 8} {path kOhm : Nat} (hs : Kept fx s) : Kept fx (imdTrip k path kOhm s) := by
  unfold imdTrip
  exact kept_ite (kept_ite (kept_modGar hs) hs) (kept_evNext (kept_tripOutlet (kept_modImd hs)))

theorem kept_cableDecide {k : Fin 8} {kOhm : Nat} (hs : Kept fx s) : Kept fx (cableDecide k kOhm s) := by
  unfold cableDecide
  extract_lets cc s1 s2 s3 low warn s4 s5
  have hs1 : Kept fx s1 := kept_modImd hs
  have hs2 : Kept fx s2 := kept_modImd hs1
  have hs3 : Kept fx s3 := by
    dsimp only [s3]
    split
    · exact kept_releasePort hs2
    · exact hs2
  have hs4 : Kept fx s4 := kept_modImd hs1
  have hs5 : Kept fx s5 := by
    dsimp only [s5]
    split
    · exact kept_releasePort hs4
    · exact hs4
  exact kept_ite (kept_evNext (kept_stopSession hs3)) (kept_ite hs1 (kept_goTo (kept_ite (kept_ev hs5) hs5)))

theorem kept_sliceDecide {k : Fin 8} {kOhm : Nat} (hs : Kept fx s) : Kept fx (sliceDecide k kOhm s) := by
  unfold sliceDecide
  refine kept_ite (kept_imdTrip hs) ?_
  extract_lets low was s1
  have hs1 : Kept fx s1 := kept_modImd hs
  exact kept_ite (kept_ev hs1) hs1

theorem completes_execInsulationResult {p : Fin 4} {kOhm : Nat} (hs : Kept fx s) : Completes fx (execInsulationResult p kOhm s)
    := by
  unfold execInsulationResult
  dsimp only
  split
  · exact completes_ans hs
  · exact completes_ite (completes_ite (completes_ite (completes_ans (kept_cableDecide (kept_modImd (kept_modIm hs))))
      (completes_ans (kept_modImd (kept_modIm hs)))) (completes_ite (completes_ans (kept_sliceDecide (kept_modImd (kept_modIm
      hs)))) (completes_ans (kept_modImd (kept_modIm hs))))) (completes_ans hs)

theorem completes_execSliceEnd {p : Fin 4} (hs : Kept fx s) : Completes fx (execSliceEnd p s) := by
  unfold execSliceEnd
  exact completes_ite (completes_ans (kept_releasePort hs)) (completes_ans hs)

theorem kept_imdSlices (hs : Kept fx s) : Kept fx (imdSlices s) := by
  unfold imdSlices
  refine kept_foldl hs ?_
  intro _ _ ht
  split
  · exact ht
  · exact kept_ite (kept_releasePort ht) ht

theorem completes_execImdStaleTrip {k : Fin 8} (hs : Kept fx s) : Completes fx (execImdStaleTrip k s) := by
  unfold execImdStaleTrip
  exact completes_ite (completes_ans (kept_imdTrip hs)) (completes_ans hs)

theorem kept_imdTick {k : Fin 8} {sample : Option (Rat × Rat)} (hs : Kept fx s) : Kept fx (imdTick k sample s) := by
  unfold imdTick
  exact kept_ite (kept_modImd hs) (kept_modImd hs)

theorem completes_execBalanceTrip {k : Fin 8} (hs : Kept fx s) : Completes fx (execBalanceTrip k s) := by
  unfold execBalanceTrip
  exact completes_ite (completes_ans (kept_imdTrip hs)) (completes_ans hs)

theorem completes_execEfiCouplingFault {k : Fin 8} (hs : Kept fx s) : Completes fx (execEfiCouplingFault k s) := by
  unfold execEfiCouplingFault
  refine completes_ite ?_ (completes_ans hs)
  extract_lets arg s1
  have hs1 : Kept fx s1 := kept_ev (kept_modImd hs)
  exact completes_ite (completes_ans (kept_evNext (kept_stopSession hs1))) (completes_ite (completes_ans (kept_imdTrip hs1))
    (completes_ans hs1))

theorem completes_execReferenceTest {p : Fin 4} {ok : Bool} (hs : Kept fx s) : Completes fx (execReferenceTest p ok s) := by
  unfold execReferenceTest
  exact completes_ite (completes_ite (completes_ite (completes_ans (kept_ev (kept_modIm hs))) (completes_ans (kept_modIm hs)))
    (completes_ite (completes_ans (kept_modIm hs)) (completes_ans (kept_portFault hs)))) (completes_ans hs)

theorem kept_imdNewSession {k : Fin 8} (hs : Kept fx s) : Kept fx (imdNewSession k s) := by
  unfold imdNewSession
  exact kept_modImd hs

theorem kept_imdRequest {k : Fin 8} {vcc : Nat} (hs : Kept fx s) : Kept fx (imdRequest k vcc s) := by
  unfold imdRequest
  exact kept_modImd hs

theorem kept_imdEnergise {k : Fin 8} (hs : Kept fx s) : Kept fx (imdEnergise k s) := by
  unfold imdEnergise
  exact kept_modImd hs

theorem completes_execPeMeasurement {k : Fin 8} {mOhm : Nat} (hs : Kept fx s) : Completes fx (execPeMeasurement k mOhm s) := by
  unfold execPeMeasurement
  refine completes_ite ?_ (completes_ans hs)
  extract_lets bad s1 p s2
  have hs1 : Kept fx s1 := kept_modPe hs
  have hs2 : Kept fx s2 := kept_evNext (kept_modPe hs1)
  exact completes_ite (completes_ans (kept_ite (kept_tripOutlet hs2) hs2)) (completes_ite (completes_ans (kept_evNext
    (kept_modPe hs1))) (completes_ans hs1))

theorem kept_efiStop {k : Fin 8} (hs : Kept fx s) : Kept fx (efiStop k s) := by
  unfold efiStop
  refine kept_modPe ?_
  refine kept_modImd ?_
  refine kept_modRdc ?_
  split
  · exact kept_releasePort hs
  · exact hs

theorem kept_efiWake (hs : Kept fx s) : Kept fx (efiWake s) := by
  unfold efiWake
  exact kept_foldl hs (fun _ _ ht => kept_modPe (kept_modRdc ht))

theorem completes_execEfiStatus {h : Hdr} {outlet : Nat} (hs : Kept fx s) : Completes fx (execEfiStatus h outlet s) := by
  unfold execEfiStatus
  exact completes_ans (kept_hostCmd (fun _ => keeps_ite keeps_done (keeps_no _)) hs)

theorem keeps_rdcTestRules {outlet : Nat} {s : State} : (rdcTestRules outlet s).Keeps := by
  unfold rdcTestRules
  exact keeps_dite (fun _ => keeps_ite (keeps_no _) (keeps_ite (keeps_no _) (keeps_ite (keeps_accept_id _ _) (keeps_no _))))
    (fun _ => keeps_no _)

theorem completes_execEfiRdcTest {h : Hdr} {outlet : Nat} (hs : Kept fx s) : Completes fx (execEfiRdcTest h outlet s) := by
  unfold execEfiRdcTest
  exact completes_ans (kept_hostCmd (fun _ => keeps_rdcTestRules) hs)

theorem kept_applyRdcTest {outlet : Nat} (hs : Kept fx s) : Kept fx (applyRdcTest outlet s) := by
  unfold applyRdcTest
  exact kept_dite (fun _ => kept_rdcStartTest hs) (fun _ => hs)

theorem keeps_imdTestRules {port : Nat} {s : State} : (imdTestRules port s).Keeps := by
  unfold imdTestRules
  exact keeps_dite (fun _ => keeps_ite (keeps_no _) (keeps_ite (keeps_no _) (keeps_accept_id _ _))) (fun _ => keeps_no _)

theorem completes_execEfiImdTestX {h : Hdr} {port : Nat} (hs : Kept fx s) : Completes fx (execEfiImdTestX h port s) := by
  unfold execEfiImdTestX
  exact completes_ans (kept_hostCmd (fun _ => keeps_imdTestRules) hs)

theorem kept_applyImdTest {port : Nat} (hs : Kept fx s) : Kept fx (applyImdTest port s) := by
  unfold applyImdTest
  exact kept_dite (fun _ => kept_modIm hs) (fun _ => hs)

end Sys2Proof.Machine
end

section
/-! SUPPORT. The invariant kept by outlets and sessions (chapter 05): one lemma for each operation, in the order of the model. -/

namespace Sys2Proof.Machine

open Host (Cell Outcome)

variable {fx : Fixed} {s : State}

theorem kept_modPilot {k : Fin 8} {f : PilotIn → PilotIn} (hs : Kept fx s) : Kept fx (modPilot k f s) := by
  unfold modPilot
  exact kept_modOut hs

theorem kept_pilotStamp {k : Fin 8} {x : Option PilotSample} (hs : Kept fx s) : Kept fx (pilotStamp k x s) := by
  unfold pilotStamp
  exact kept_modPilot hs

theorem kept_proxStamp {k : Fin 8} {x : Option (Option Nat)} (hs : Kept fx s) : Kept fx (proxStamp k x s) := by
  unfold proxStamp
  split
  · exact kept_modPilot hs
  · exact kept_modPilot hs

theorem completes_execPilotStateAccepted {k : Fin 8} (hs : Kept fx s) : Completes fx (execPilotStateAccepted k s) := by
  unfold execPilotStateAccepted
  exact completes_ite (completes_ans (kept_rdcPilot (kept_modPilot (kept_ite (kept_modPilot hs) hs)))) (completes_ans (kept_ite
    (kept_modPilot hs) hs))

theorem completes_execProximityAccepted {k : Fin 8} (hs : Kept fx s) : Completes fx (execProximityAccepted k s) := by
  unfold execProximityAccepted
  refine completes_ite ?_ (completes_ans hs)
  refine completes_ite (completes_ans (kept_modPilot hs)) ?_
  extract_lets s'
  have hs' : Kept fx s' := kept_modPilot hs
  exact completes_ans (kept_ite hs' (kept_ev hs'))

theorem kept_modClaim {k : Fin 8} {f : Claim → Claim} (hs : Kept fx s) : Kept fx (modClaim k f s) := by
  unfold modClaim
  exact kept_modOut hs

theorem kept_deferPositions (hs : Kept fx s) : Kept fx (deferPositions s) := by
  unfold deferPositions
  refine kept_foldl hs ?_
  intro _ _ ht
  refine kept_ite ht ?_
  extract_lets s'
  have hs' : Kept fx s' := kept_modClaim ht
  split
  · exact kept_ite hs' (kept_evNext hs')
  · exact hs'

theorem kept_admitStart {k : Fin 8} (hs : Kept fx s) : Kept fx (admitStart k s) := by
  unfold admitStart
  split
  · exact hs
  · extract_lets f i e s1 s2
    have hs1 : Kept fx s1 := kept_modClaim hs
    have hs2 : Kept fx s2 := by
      dsimp only [s2]
      split
      · exact kept_modOut (kept_auxReserve hs1)
      · exact hs1
    exact kept_deferPositions (kept_buildTxn hs2)

theorem kept_unstop {k : Fin 8} {reason event : Nat} (hs : Kept fx s) : Kept fx (unstop k reason event s) := by
  unfold unstop
  split
  · exact kept_ite (kept_modGar (kept_modOut hs)) hs
  · exact hs

theorem kept_releaseClaim {k : Fin 8} (hs : Kept fx s) : Kept fx (releaseClaim k s) := by
  unfold releaseClaim
  refine kept_deferPositions ?_
  refine kept_modOut ?_
  split
  · exact kept_ite (kept_auxOff (kept_modAux hs)) hs
  · exact hs

theorem kept_setCut {k : Fin 8} {imp exp : Option Nat} (hs : Kept fx s) : Kept fx (setCut k imp exp s) := by
  unfold setCut
  exact kept_ite hs (kept_evNext (kept_modClaim hs))

theorem kept_cutImport {toZero : Bool} {order : List (Fin 8)} {excess : Nat} (hs : Kept fx s) :
    Kept fx (cutImport toZero order excess s).2 := by
  induction order generalizing excess s with
  | nil => exact hs
  | cons k r ih =>
    rw [cutImport, apply_ite Prod.snd]
    exact kept_ite (ih hs) (ih (kept_setCut hs))

theorem kept_cutExport {order : List (Fin 8)} {excess : Nat} (hs : Kept fx s) : Kept fx (cutExport order excess s) := by
  induction order generalizing excess s with
  | nil => exact hs
  | cons k r ih => exact kept_ite (ih hs) (ih (kept_setCut hs))

theorem kept_restoreCuts {order : List (Fin 8)} (hs : Kept fx s) : Kept fx (restoreCuts order s) := by
  unfold restoreCuts
  exact kept_foldl hs (fun _ _ ht => kept_setCut ht)

theorem kept_refreshClaim {k : Fin 8} (hs : Kept fx s) : Kept fx (refreshClaim k s) := by
  unfold refreshClaim
  exact kept_ite hs (kept_modClaim hs)

theorem kept_admitRaises {order : List (Fin 8)} (hs : Kept fx s) : Kept fx (admitRaises order s) := by
  unfold admitRaises
  exact kept_foldl hs (fun _ _ ht => kept_ite (kept_modClaim ht) ht)

theorem kept_budgetSlot (hs : Kept fx s) : Kept fx (budgetSlot s) := by
  unfold budgetSlot
  extract_lets s1 order gi ge s2 s3
  have hs1 : Kept fx s1 := kept_foldl hs (fun _ _ ht => kept_refreshClaim ht)
  have hs2 : Kept fx s2 := kept_ite hs1 (kept_cutImport (kept_cutImport hs1))
  have hs3 : Kept fx s3 := kept_ite hs2 (kept_cutExport hs2)
  exact kept_deferPositions (kept_admitRaises (kept_restoreCuts hs3))

theorem kept_energise {k : Fin 8} (hs : Kept fx s) : Kept fx (energise k s) := by
  unfold energise
  exact kept_goTo (kept_buildTxn hs)

theorem kept_linkFails {k : Fin 8} (hs : Kept fx s) : Kept fx (linkFails k s) := by
  unfold linkFails
  exact kept_ite (kept_modOut hs) (kept_stopSession hs)

theorem kept_toCableCheck {k : Fin 8} (hs : Kept fx s) : Kept fx (toCableCheck k s) := by
  unfold toCableCheck
  exact kept_goTo (kept_buildTxn hs)

theorem kept_pauseStop {k : Fin 8} {limit : Bool} (hs : Kept fx s) : Kept fx (pauseStop k limit s) := by
  unfold pauseStop
  exact kept_openOutlet (kept_pendTo hs)

theorem kept_weldFound {k : Fin 8} {finding : Nat} (hs : Kept fx s) : Kept fx (weldFound k finding s) := by
  unfold weldFound
  refine kept_ite hs ?_
  extract_lets s1
  have hs1 : Kept fx s1 := kept_evNext (kept_modOut hs)
  exact kept_ite (kept_modOut hs1) (kept_faultSession hs1)

theorem kept_tripEval {k : Fin 8} (hs : Kept fx s) : Kept fx (tripEval k s) := by
  unfold tripEval
  split
  · exact hs
  · exact kept_ite (kept_faultSession (kept_modGar hs)) hs

theorem kept_setpoints {k : Fin 8} (hs : Kept fx s) : Kept fx (setpoints k s) := by
  unfold setpoints
  refine kept_ite hs ?_
  dsimp only
  split
  · exact kept_ite (kept_modOut (kept_modOut hs)) (kept_ite (kept_modOut hs) (kept_modOut (kept_ev (kept_modOut hs))))
  · exact kept_ite (kept_modOut (kept_modOut hs)) (kept_ite (kept_modOut hs) (kept_modOut (kept_ev (kept_modOut hs))))
  · exact kept_ite (kept_modOut hs) hs
  · exact kept_modOut hs
  · exact kept_ite (kept_modOut hs) hs
  · exact kept_ite (kept_modOut hs) (kept_modOut hs)
  · exact kept_modOut hs
  · exact kept_modOut hs

theorem kept_limitsSlot {k : Fin 8} (hs : Kept fx s) : Kept fx (limitsSlot k s) := by
  unfold limitsSlot
  exact kept_modOut hs

theorem kept_sessionRun {k : Fin 8} (hs : Kept fx s) : Kept fx (sessionRun k s) := by
  unfold sessionRun
  dsimp only
  split
  · exact kept_ite (kept_ite (kept_goTo (kept_modOut hs)) (kept_goTo hs)) hs
  · exact kept_ite hs (kept_ite (kept_goTo hs) (kept_ite (kept_goTo hs) hs))
  · exact kept_ite (kept_ite (kept_goTo hs) hs) (kept_ite (kept_goTo hs) (kept_ite (kept_goTo hs) hs))
  · exact kept_ite (kept_goTo hs) (kept_ite (kept_goTo hs) hs)
  · exact kept_ite (kept_goTo hs) hs
  · exact kept_ite (kept_ite (kept_pendTo hs) (kept_ite (kept_energise hs) hs)) (kept_ite (kept_energise hs) hs)
  · exact kept_ite hs (kept_ite (kept_ite (kept_buildTxn (kept_goTo hs)) (kept_goTo hs)) (kept_ite (kept_stopSession hs) hs))
  · exact kept_ite (kept_ite (kept_pauseStop hs) (kept_ite (kept_pauseStop hs) hs)) (kept_ite (kept_stopSession hs) hs)
  · exact kept_ite (kept_ite (kept_goTo hs) hs) (kept_ite (kept_energise hs) hs)
  · exact kept_ite (kept_goTo (kept_ite (kept_openOutlet hs) hs)) (kept_ite (kept_openOutlet hs) hs)
  · exact kept_ite hs (kept_ite (kept_goTo hs) (kept_ite (kept_goTo hs) hs))
  · exact hs

theorem kept_sessionEval {k : Fin 8} (hs : Kept fx s) : Kept fx (sessionEval k s) := by
  unfold sessionEval
  refine kept_ite hs ?_
  extract_lets s1 n s2
  have hs1 : Kept fx s1 := kept_tripEval hs
  have hs2 : Kept fx s2 := kept_unplugSession hs1
  exact kept_ite (kept_ite hs1 (kept_evNext (kept_faultSession hs1))) (kept_ite (kept_ite (kept_sessionRun hs2) hs2) (kept_ite
    hs1 (kept_sessionRun hs1)))

theorem kept_sessionCount {k : Fin 8} (hs : Kept fx s) : Kept fx (sessionCount k s) := by
  unfold sessionCount
  exact kept_modOut hs

theorem kept_enterState {k : Fin 8} {p : Pend} (hs : Kept fx s) : Kept fx (enterState k p s) := by
  unfold enterState
  extract_lets o old st f fresh running had reason told host timers excess s1 s2 s3 s4 s5
  have hs1 : Kept fx s1 := kept_modOut hs
  have hs2 : Kept fx s2 := kept_ite (kept_imdNewSession hs1) hs1
  have hs3 : Kept fx s3 := kept_ite (kept_imdRequest hs2) (kept_ite (kept_imdEnergise hs2) hs2)
  have hs4 : Kept fx s4 := kept_ite (kept_poolZero hs3) (kept_ite (kept_distribute (kept_setpoints hs3)) hs3)
  have hs5 : Kept fx s5 := kept_ite (kept_releaseClaim hs4) (kept_ite (kept_deferPositions (kept_modClaim hs4)) hs4)
  exact kept_ite hs5 (kept_ev hs5)

theorem kept_applyPends (hs : Kept fx s) : Kept fx (applyPends s) := by
  unfold applyPends
  refine kept_foldl hs ?_
  intro _ _ ht
  split
  · exact kept_ite (kept_enterState ht) ht
  · exact ht

theorem kept_outletsAvail (hs : Kept fx s) : Kept fx (outletsAvail s) := by
  unfold outletsAvail
  exact kept_foldl hs (fun _ _ ht => kept_ite (kept_enterState (kept_modOut ht)) (kept_ite (kept_enterState (kept_modOut ht))
    ht))

theorem kept_pilotOutputs (hs : Kept fx s) : Kept fx (pilotOutputs s) := by
  unfold pilotOutputs
  refine kept_foldl hs ?_
  intro _ _ ht
  extract_lets f s1
  have hs1 : Kept fx s1 := by
    dsimp only [s1]
    split
    · exact ht
    · exact kept_modOut ht
    · exact kept_modOut ht
  exact kept_ite (kept_modOut hs1) hs1

theorem completes_execDeferredAdmission (hs : Kept fx s) : Completes fx (execDeferredAdmission s) := by
  unfold execDeferredAdmission
  split
  · exact completes_ans hs
  · split
    · exact completes_ans hs
    · exact completes_ite (completes_ans (kept_admitStart (kept_unstop hs))) (completes_ans hs)

theorem completes_execAuthTimeout {k : Fin 8} (hs : Kept fx s) : Completes fx (execAuthTimeout k s) := by
  unfold execAuthTimeout
  exact completes_ite (completes_ans (kept_pendTo hs)) (completes_ans hs)

theorem completes_execDeferralTimeout {k : Fin 8} (hs : Kept fx s) : Completes fx (execDeferralTimeout k s) := by
  unfold execDeferralTimeout
  exact completes_ite (completes_ans (kept_pendTo hs)) (completes_ans hs)

theorem completes_execBasicFallback {k : Fin 8} (hs : Kept fx s) : Completes fx (execBasicFallback k s) := by
  unfold execBasicFallback
  exact completes_ite (completes_ans (kept_goTo hs)) (completes_ans hs)

theorem completes_execCableCheckTimeout {k : Fin 8} (hs : Kept fx s) : Completes fx (execCableCheckTimeout k s) := by
  unfold execCableCheckTimeout
  exact completes_ite (completes_ans (kept_evNext (kept_stopSession hs))) (completes_ans hs)

theorem completes_execPrechargeComplete {k : Fin 8} (hs : Kept fx s) : Completes fx (execPrechargeComplete k s) := by
  unfold execPrechargeComplete
  exact completes_ite (completes_ans (kept_goTo (kept_modOut (kept_unstop hs)))) (completes_ans hs)

theorem completes_execPrechargeTimeout {k : Fin 8} (hs : Kept fx s) : Completes fx (execPrechargeTimeout k s) := by
  unfold execPrechargeTimeout
  exact completes_ite (completes_ans (kept_evNext (kept_stopSession hs))) (completes_ans hs)

theorem completes_execAcStopTimeout {k : Fin 8} (hs : Kept fx s) : Completes fx (execAcStopTimeout k s) := by
  unfold execAcStopTimeout
  exact completes_ite (completes_ans (kept_openOutlet hs)) (completes_ans hs)

theorem completes_execOutOvercurrent {k : Fin 8} (hs : Kept fx s) : Completes fx (execOutOvercurrent k s) := by
  unfold execOutOvercurrent
  exact completes_ite (completes_ans (kept_evNext (kept_stopSession hs))) (completes_ans hs)

theorem completes_execStopOpening {k : Fin 8} (hs : Kept fx s) : Completes fx (execStopOpening k s) := by
  unfold execStopOpening
  exact completes_ite (completes_ans (kept_openOutlet hs)) (completes_ans hs)

theorem completes_execOutStopLoad {k : Fin 8} (hs : Kept fx s) : Completes fx (execOutStopLoad k s) := by
  unfold execOutStopLoad
  exact completes_ite (completes_ans (kept_evNext (kept_openOutlet hs))) (completes_ans hs)

theorem kept_weldTest {k : Fin 8} (hs : Kept fx s) : Kept fx (weldTest k s) := by
  unfold weldTest
  exact kept_modOut hs

theorem completes_execWeldCheckDischarged {k : Fin 8} (hs : Kept fx s) : Completes fx (execWeldCheckDischarged k s) := by
  unfold execWeldCheckDischarged
  exact completes_ite (completes_ans (kept_weldTest hs)) (completes_ans hs)

theorem completes_execOutDischarge {k : Fin 8} (hs : Kept fx s) : Completes fx (execOutDischarge k s) := by
  unfold execOutDischarge
  exact completes_ite (completes_ans (kept_ev (kept_weldTest hs))) (completes_ans hs)

theorem completes_execWeldCheckEvaluation {k : Fin 8} (hs : Kept fx s) : Completes fx (execWeldCheckEvaluation k s) := by
  unfold execWeldCheckEvaluation
  refine completes_ite ?_ (completes_ans hs)
  extract_lets s1
  have hs1 : Kept fx s1 := kept_modOut hs
  split
  · exact completes_ite (completes_ans (kept_goTo hs1)) (completes_ite (completes_ans (kept_pendTo hs1)) (completes_ans
      (kept_goTo hs1)))
  · exact completes_ans (kept_weldFound hs1)

theorem completes_execFaultHoldEnd {k : Fin 8} (hs : Kept fx s) : Completes fx (execFaultHoldEnd k s) := by
  unfold execFaultHoldEnd
  exact completes_ite (completes_ans (kept_modOut hs)) (completes_ans hs)

theorem kept_takeStart {k : Fin 8} {r : StartReq} {ok : Bool} (hs : Kept fx s) : Kept fx (takeStart k r ok s) := by
  unfold takeStart
  extract_lets f s1 s2 s3
  have hs1 : Kept fx s1 := kept_unstop hs
  have hs2 : Kept fx s2 := kept_modOut hs1
  have hs3 : Kept fx s3 := kept_ite (kept_ite (kept_linkFails hs2) (kept_modOut hs2)) hs2
  exact kept_ite (kept_admitStart hs3) (kept_deferPositions (kept_modClaim hs3))

theorem keeps_outStartRules {outlet profile imp exp cur : Nat} {session : List Byte} {s : State} : (outStartRules outlet
    profile imp exp cur session s).Keeps := by
  unfold outStartRules
  exact keeps_dite (fun _ => keeps_ite (keeps_no _) (keeps_ite (keeps_no _) (keeps_ite (keeps_no _) (keeps_ite (keeps_no _)
    (keeps_ite (keeps_no _) (keeps_ite (keeps_no _) (keeps_ite (keeps_no _) (fun _ _ hu => kept_takeStart hu)))))))) (fun _ =>
    keeps_no _)

theorem completes_execOutStart {h : Hdr} {outlet profile limImp limExp cur : Nat} {session : List Byte} (hs : Kept fx s) :
    Completes fx (execOutStart h outlet profile limImp limExp cur session s) := by
  unfold execOutStart
  exact completes_ans (kept_hostCmd (fun _ => keeps_outStartRules) hs)

theorem kept_takeLimit {k : Fin 8} {imp exp cur : Nat} (hs : Kept fx s) : Kept fx (takeLimit k imp exp cur s) := by
  unfold takeLimit
  extract_lets f i e c s1 s2
  have hs1 : Kept fx s1 := kept_modOut hs
  have hs2 : Kept fx s2 := kept_ite (kept_deferPositions hs1) (kept_ite (kept_modClaim hs1) (kept_modClaim hs1))
  exact kept_buildTxn hs2

theorem keeps_outLimitRules {outlet imp exp cur : Nat} {s : State} : (outLimitRules outlet imp exp cur s).Keeps := by
  unfold outLimitRules
  exact keeps_dite (fun _ => keeps_ite (keeps_no _) (keeps_ite (keeps_no _) (keeps_ite (keeps_no _) (keeps_ite (keeps_no _)
    (fun _ _ hu => kept_takeLimit hu))))) (fun _ => keeps_no _)

theorem completes_execOutLimit {h : Hdr} {outlet limImp limExp cur : Nat} (hs : Kept fx s) : Completes fx (execOutLimit h
    outlet limImp limExp cur s) := by
  unfold execOutLimit
  exact completes_ans (kept_hostCmd (fun _ => keeps_outLimitRules) hs)

theorem keeps_outStopRules {outlet reason : Nat} {s : State} : (outStopRules outlet reason s).Keeps := by
  unfold outStopRules
  exact keeps_dite (fun _ => keeps_ite (keeps_no _) (keeps_ite (keeps_no _) (keeps_ite (keeps_accept_id _ _) (keeps_ite (fun _
    _ hu => kept_modOut (kept_stopSession hu)) (keeps_no _))))) (fun _ => keeps_no _)

theorem completes_execOutStop {h : Hdr} {outlet reason : Nat} (hs : Kept fx s) : Completes fx (execOutStop h outlet reason s)
    := by
  unfold execOutStop
  exact completes_ans (kept_hostCmd (fun _ => keeps_outStopRules) hs)

theorem keeps_outDenyRules {outlet : Nat} {s : State} : (outDenyRules outlet s).Keeps := by
  unfold outDenyRules
  exact keeps_dite (fun _ => keeps_ite (keeps_no _) (keeps_ite (keeps_no _) (keeps_ite (fun _ _ hu => kept_modOut (kept_pendTo
    (kept_other hu))) (keeps_no _)))) (fun _ => keeps_no _)

theorem completes_execOutDeny {h : Hdr} {outlet reason : Nat} (hs : Kept fx s) : Completes fx (execOutDeny h outlet reason s)
    := by
  unfold execOutDeny
  exact completes_ans (kept_hostCmd (fun _ => keeps_outDenyRules) hs)

theorem completes_execOutStatus {h : Hdr} {outlet : Nat} (hs : Kept fx s) : Completes fx (execOutStatus h outlet s) := by
  unfold execOutStatus
  exact completes_ans (kept_hostCmd (fun _ => keeps_ite (keeps_ite (keeps_no _) keeps_done) (keeps_no _)) hs)

theorem keeps_outPilotRules {outlet mode duty : Nat} {s : State} : (outPilotRules outlet mode duty s).Keeps := by
  unfold outPilotRules
  exact keeps_dite (fun _ => keeps_ite (keeps_no _) (keeps_ite (keeps_no _) (keeps_ite keeps_done (keeps_no _)))) (fun _ =>
    keeps_no _)

theorem completes_execOutPilotX {h : Hdr} {outlet mode duty : Nat} (hs : Kept fx s) : Completes fx (execOutPilotX h outlet mode
    duty s) := by
  unfold execOutPilotX
  exact completes_ans (kept_hostCmd (fun _ => keeps_outPilotRules) hs)

theorem kept_applyOutPilot {outlet mode duty : Nat} (hs : Kept fx s) : Kept fx (applyOutPilot outlet mode duty s) := by
  unfold applyOutPilot
  exact kept_dite (fun _ => kept_modOut hs) (fun _ => hs)

theorem kept_energiseEnd {k : Fin 8} {ok : Bool} {detail so : Nat} (hs : Kept fx s) : Kept fx (energiseEnd k ok detail so s) :=
    by
  unfold energiseEnd
  exact kept_ite hs (kept_ite (kept_goTo hs) (kept_ev (kept_stopSession hs)))

end Sys2Proof.Machine
end

section
/-! SUPPORT. The invariant kept by the metrology engine (chapter 08): one lemma for each operation, in the order of the model. -/

namespace Sys2Proof.Machine

open Host (Cell Outcome)

variable {fx : Fixed} {s : State}

theorem kept_modSlot {m : Fin 9} {f : MeterSlot → MeterSlot} (hs : Kept fx s) : Kept fx (modSlot m f s) := by
  unfold modSlot
  exact kept_modMtr hs (fun _ => rfl)

theorem kept_stampControls (hs : Kept fx s) : Kept fx (stampControls s) := by
  unfold stampControls
  exact kept_foldl hs (fun _ _ ht => kept_ite (kept_modOut ht) ht)

theorem kept_stampPool (hs : Kept fx s) : Kept fx (stampPool s) := by
  unfold stampPool
  exact kept_modPool hs

theorem kept_stampInputs {xs : List (Fin 48 × Int)} (hs : Kept fx s) : Kept fx (stampInputs xs s) := by
  unfold stampInputs
  exact kept_foldl (kept_modMtr hs (fun _ => rfl)) (fun _ _ ht => kept_modMtr ht (fun _ => rfl))

theorem kept_takeBoundary {m : Fin 9} {n : Nat} (hs : Kept fx s) : Kept fx (takeBoundary m n s) := by
  unfold takeBoundary
  exact kept_ite (kept_ite (kept_modSlot hs) (kept_evNext (kept_modSlot hs))) (kept_evNext (kept_ite (kept_modSlot hs)
    (kept_evNext (kept_modSlot hs))))

theorem kept_slotTick {m : Fin 9} (hs : Kept fx s) : Kept fx (slotTick m s) := by
  unfold slotTick
  exact kept_ite hs (kept_ite (kept_modSlot hs) (kept_modSlot (kept_foldl (kept_ite (kept_evNext hs) hs) (fun _ _ ht =>
    kept_evNext ht))))

theorem kept_bandDecide {m : Fin 9} (hs : Kept fx s) : Kept fx (bandDecide m s) := by
  unfold bandDecide
  dsimp only
  split
  · exact hs
  · exact kept_ite hs (kept_modSlot hs)

theorem kept_pulseCount {m : Fin 9} {r : MtrRec} (hs : Kept fx s) : Kept fx (pulseCount m r s) := by
  unfold pulseCount
  exact kept_ite (kept_modSlot hs) (kept_modSlot hs)

theorem kept_calCount {m : Fin 9} {h : List PipeRec} {r : PipeRec} (hs : Kept fx s) : Kept fx (calCount m h r s) := by
  unfold calCount
  dsimp only
  split
  · exact hs
  · exact kept_ite hs (kept_modSlot hs)

theorem kept_mtrCommit {m : Fin 9} (hs : Kept fx s) : Kept fx (mtrCommit m s).2 := by
  unfold mtrCommit
  split
  · exact hs
  · split
    · exact hs
    · split
      · exact hs
      · dsimp only
        exact kept_calCount (kept_ite hs (kept_pulseCount hs))

theorem kept_squashSlot {m : Fin 9} {mask first cause input : Nat} (hs : Kept fx s) : Kept fx (squashSlot m mask first cause
    input s) := by
  unfold squashSlot
  exact kept_ite hs (kept_modSlot hs)

theorem kept_modInputFault {n : Fin 48} {cause : Nat} (hs : Kept fx s) : Kept fx (modInputFault n cause s) := by
  unfold modInputFault
  refine kept_ite hs ?_
  extract_lets f x first c new s1 s2
  have hs1 : Kept fx s1 := kept_modMtr hs (fun _ => rfl)
  have hs2 : Kept fx s2 := kept_foldl hs1 (fun _ _ ht => kept_squashSlot ht)
  refine kept_ite hs2 ?_
  split
  · exact kept_evNext hs2
  · split
    · exact kept_evNext hs2
    · split
      · exact kept_evNext hs2
      · exact hs2

theorem completes_execMtrModFault {n : Fin 48} {cause : Nat} (hs : Kept fx s) : Completes fx (execMtrModFault n cause s) := by
  unfold execMtrModFault
  exact completes_ans (kept_modInputFault hs)

theorem completes_execMtrModOk {n : Fin 48} (hs : Kept fx s) : Completes fx (execMtrModOk n s) := by
  unfold execMtrModOk
  refine completes_ite ?_ (completes_ans hs)
  dsimp only
  split
  · exact completes_ans (kept_evNext (kept_modMtr hs (fun _ => rfl)))
  · exact completes_ans (kept_modMtr hs (fun _ => rfl))

theorem completes_execZeroCrossing {m : Fin 9} (hs : Kept fx s) : Completes fx (execZeroCrossing m s) := by
  unfold execZeroCrossing
  dsimp only
  split
  · exact completes_ite (completes_ans (kept_modSlot (kept_takeBoundary (kept_modSlot (kept_ite (kept_evNext (kept_ite
      (kept_evNext hs) hs)) (kept_ite (kept_evNext hs) hs)))))) (completes_ans hs)
  · exact completes_ans hs

theorem completes_execMtrZcLost {m : Fin 9} (hs : Kept fx s) : Completes fx (execMtrZcLost m s) := by
  unfold execMtrZcLost
  exact completes_ite (completes_ans (kept_evNext (kept_modSlot hs))) (completes_ans hs)

theorem completes_execSettleBoundary {m : Fin 9} (hs : Kept fx s) : Completes fx (execSettleBoundary m s) := by
  unfold execSettleBoundary
  exact completes_ite (completes_ans (kept_modSlot (kept_takeBoundary hs))) (completes_ans hs)

theorem completes_execPulseOutput {m : Fin 9} (hs : Kept fx s) : Completes fx (execPulseOutput m s) := by
  unfold execPulseOutput
  exact completes_ite (completes_ans (kept_evNext (kept_modSlot (kept_foldl (kept_modSlot hs) (fun _ _ ht => kept_foldl ht (fun
    _ _ hu => kept_ite hu (kept_emit hu))))))) (completes_ans (kept_foldl (kept_modSlot hs) (fun _ _ ht => kept_foldl ht (fun _
    _ hu => kept_ite hu (kept_emit hu)))))

theorem completes_execHarmonicsRefresh {m : Fin 9} (hs : Kept fx s) : Completes fx (execHarmonicsRefresh m s) := by
  unfold execHarmonicsRefresh
  exact completes_ite (completes_ans (kept_modSlot hs)) (completes_ans hs)

theorem completes_execMtrRead {h : Hdr} {slot : Nat} (hs : Kept fx s) : Completes fx (execMtrRead h slot s) := by
  unfold execMtrRead
  exact completes_ans (kept_hostCmd (fun _ => keeps_ite keeps_done (keeps_no _)) hs)

theorem keeps_mtrHarmRules {slot channel : Nat} {s : State} : (mtrHarmRules slot channel s).Keeps := by
  unfold mtrHarmRules
  exact keeps_ite (keeps_no _) (keeps_ite (keeps_no _) (keeps_ite (keeps_no _) keeps_done))

theorem completes_execMtrHarm {h : Hdr} {slot channel : Nat} (hs : Kept fx s) : Completes fx (execMtrHarm h slot channel s) :=
    by
  unfold execMtrHarm
  exact completes_ans (kept_hostCmd (fun _ => keeps_mtrHarmRules) hs)

theorem completes_execMtrCalInfo {h : Hdr} {slot : Nat} (hs : Kept fx s) : Completes fx (execMtrCalInfo h slot s) := by
  unfold execMtrCalInfo
  exact completes_ans (kept_hostCmd (fun _ => keeps_ite keeps_done (keeps_no _)) hs)

theorem keeps_calOpenRules {slot band : Nat} {s : State} : (calOpenRules slot band s).Keeps := by
  unfold calOpenRules
  exact keeps_ite (keeps_no _) (keeps_ite (keeps_no _) (keeps_ite (keeps_no _) (keeps_ite (keeps_no _) (keeps_ite (keeps_no _)
    (keeps_accept_id _ _)))))

theorem completes_execMtrCalOpenX {h : Hdr} {slot band : Nat} (hs : Kept fx s) : Completes fx (execMtrCalOpenX h slot band s)
    := by
  unfold execMtrCalOpenX
  exact completes_ans (kept_hostCmd (fun _ => keeps_calOpenRules) hs)

theorem kept_applyCalOpen {slot band : Nat} (hs : Kept fx s) : Kept fx (applyCalOpen slot band s) := by
  unfold applyCalOpen
  exact kept_dite (fun _ => kept_foldl (kept_modSlot (kept_foldl hs (fun _ _ hu => kept_pset hu))) (fun _ _ hu => kept_ite
    (kept_enterState hu) hu)) (fun _ => hs)

theorem keeps_calMeasureRules {slot count : Nat} {s : State} : (calMeasureRules slot count s).Keeps := by
  unfold calMeasureRules
  exact keeps_ite (keeps_no _) (keeps_ite (keeps_no _) (keeps_ite (keeps_no _) (keeps_ite (keeps_no _) (keeps_accept_id _ _))))

theorem completes_execMtrCalMeasureX {h : Hdr} {slot count : Nat} (hs : Kept fx s) : Completes fx (execMtrCalMeasureX h slot
    count s) := by
  unfold execMtrCalMeasureX
  exact completes_ans (kept_hostCmd (fun _ => keeps_calMeasureRules) hs)

theorem kept_applyCalMeasure {slot count : Nat} (hs : Kept fx s) : Kept fx (applyCalMeasure slot count s) := by
  unfold applyCalMeasure
  exact kept_dite (fun _ => kept_modSlot hs) (fun _ => hs)

theorem kept_calAbort {m : Fin 9} {status : Nat} (hs : Kept fx s) : Kept fx (calAbort m status s) := by
  unfold calAbort
  split
  · exact kept_ite (kept_evNext (kept_modSlot hs)) hs
  · exact hs

theorem kept_trialWritten {slot : Nat} (hs : Kept fx s) : Kept fx (trialWritten slot s) := by
  unfold trialWritten
  exact kept_dite (fun _ => kept_modSlot (kept_calAbort hs)) (fun _ => hs)

theorem completes_execMtrCalDone {m : Fin 9} (hs : Kept fx s) : Completes fx (execMtrCalDone m s) := by
  unfold execMtrCalDone
  split
  · split
    · exact completes_ite (completes_ans (kept_evNext (kept_modSlot hs))) (completes_ans hs)
    · exact completes_ans hs
  · exact completes_ans hs

theorem completes_execMtrCalResultX {h : Hdr} {slot : Nat} (hs : Kept fx s) : Completes fx (execMtrCalResultX h slot s) := by
  unfold execMtrCalResultX
  refine completes_ans ?_
  refine kept_hostCmd ?_ hs
  intro _
  refine keeps_ite (keeps_no _) ?_
  refine keeps_ite (keeps_no _) ?_
  split
  · exact keeps_ite keeps_done (keeps_no _)
  · exact keeps_no _

theorem completes_execMtrCalCloseX {h : Hdr} {slot : Nat} (hs : Kept fx s) : Completes fx (execMtrCalCloseX h slot s) := by
  unfold execMtrCalCloseX
  exact completes_ans (kept_hostCmd (fun _ => keeps_ite (keeps_no _) (keeps_ite (keeps_no _) keeps_done)) hs)

theorem kept_applyCalClose {slot : Nat} (hs : Kept fx s) : Kept fx (applyCalClose slot s) := by
  unfold applyCalClose
  exact kept_dite (fun _ => kept_modSlot (kept_calAbort hs)) (fun _ => hs)

theorem kept_mtrFull (hs : Kept fx s) : Kept fx (mtrFull s) := by
  unfold mtrFull
  exact kept_foldl hs (fun _ _ ht => kept_modSlot ht)

end Sys2Proof.Machine
end

section
/-! SUPPORT. The invariant kept by Onyx (chapter 09): one lemma for each operation, in the order of the model. -/

namespace Sys2Proof.Machine

open Host (Cell Outcome)

variable {fx : Fixed} {s : State}

theorem kept_modOnyx {f : OnyxSt → OnyxSt} (hs : Kept fx s) : Kept fx (modOnyx f s) := by
  unfold modOnyx
  exact kept_other hs

theorem kept_modLive {f : OnyxLive → OnyxLive} (hs : Kept fx s) : Kept fx (modLive f s) := by
  unfold modLive
  exact kept_modOnyx hs

theorem kept_logAt {type slot flags legal : Nat} {wall : Option Int} {data : List Byte} (hs : Kept fx s) : Kept fx (logAt type
    slot flags legal wall data s) := by
  unfold logAt
  refine kept_ite ?_ (kept_modOnyx hs)
  refine kept_ite hs ?_
  extract_lets n s1
  have hs1 : Kept fx s1 := kept_modOnyx hs
  exact kept_ite (kept_ev hs1) (kept_ite (kept_ev hs1) hs1)

theorem kept_logEntry {type slot flags : Nat} {data : List Byte} (hs : Kept fx s) : Kept fx (logEntry type slot flags data s)
    := by
  unfold logEntry
  exact kept_logAt hs

theorem kept_markBits {p : Nat → Bool} {bits : Nat} (hs : Kept fx s) : Kept fx (markBits p bits s) := by
  unfold markBits
  exact kept_modOnyx hs

theorem kept_persistLive (hs : Kept fx s) : Kept fx (persistLive s) := by
  unfold persistLive
  exact kept_modOnyx hs

theorem kept_writeSet (hs : Kept fx s) : Kept fx (writeSet s) := by
  unfold writeSet
  exact kept_ite hs (kept_persistLive hs)

theorem kept_noteEdge (hs : Kept fx s) : Kept fx (noteEdge s) := by
  unfold noteEdge
  exact kept_modOnyx hs

theorem kept_closeSegment {flags : Nat} {ends : Bool} (hs : Kept fx s) : Kept fx (closeSegment flags ends s) := by
  unfold closeSegment
  exact kept_modOnyx hs

theorem kept_openSegment {flags : Nat} (hs : Kept fx s) : Kept fx (openSegment flags s) := by
  unfold openSegment
  exact kept_modLive hs

theorem kept_openInterval {m flags : Nat} (hs : Kept fx s) : Kept fx (openInterval m flags s) := by
  unfold openInterval
  exact kept_modLive hs

theorem kept_closeInterval {m flags : Nat} (hs : Kept fx s) : Kept fx (closeInterval m flags s) := by
  unfold closeInterval
  extract_lets r s1 fl s2 s3 partialStart
  have hs1 : Kept fx s1 := kept_closeSegment hs
  have hs2 : Kept fx s2 := kept_ev hs1
  have hs3 : Kept fx s3 := kept_ite (kept_logEntry hs2) hs2
  exact kept_noteEdge (kept_openInterval hs3)

theorem kept_addProfile {m : Fin 9} {r : ProfRec} (hs : Kept fx s) : Kept fx (addProfile m r s) := by
  unfold addProfile
  exact kept_modOnyx hs

theorem kept_finishClosing {c : Closing} {rest : List Closing} (hs : Kept fx s) : Kept fx (finishClosing c rest s) := by
  unfold finishClosing
  refine kept_foldl (kept_modOnyx hs) ?_
  intro _ _ ht
  extract_lets b imp exp di de s1 carry
  have hs1 : Kept fx s1 := kept_ite (kept_addProfile ht) ht
  refine kept_ite (kept_modLive hs1) ?_
  split
  · exact kept_modOnyx hs1
  · exact kept_modLive hs1

theorem kept_finishClosings {n : Nat} (hs : Kept fx s) : Kept fx (finishClosings n s) := by
  induction n generalizing s with
  | zero => exact hs
  | succ n ih =>
    rw [finishClosings]
    split
    · exact kept_ite (ih (kept_writeSet (kept_finishClosing hs))) hs
    · exact hs

theorem kept_flushClosings {n : Nat} (hs : Kept fx s) : Kept fx (flushClosings n s) := by
  induction n generalizing s with
  | zero => exact hs
  | succ n ih =>
    rw [flushClosings]
    split
    · exact ih (kept_finishClosing hs)
    · exact hs

theorem completes_execLegInterval (hs : Kept fx s) : Completes fx (execLegInterval s) := by
  unfold execLegInterval
  exact completes_ite (completes_ans hs) (completes_ite (completes_ite (completes_ans (kept_closeInterval hs)) (completes_ans
    hs)) (completes_ite (completes_ans (kept_closeInterval hs)) (completes_ans hs)))

theorem kept_setTariff {t cause : Nat} (hs : Kept fx s) : Kept fx (setTariff t cause s) := by
  unfold setTariff
  extract_lets old f s1 s2 s3
  have hs1 : Kept fx s1 := kept_ev hs
  have hs2 : Kept fx s2 := kept_modOnyx hs1
  have hs3 : Kept fx s3 := kept_modLive hs2
  exact kept_ite hs1 (kept_writeSet (kept_noteEdge hs3))

theorem kept_tableSwitch (hs : Kept fx s) : Kept fx (tableSwitch s) := by
  unfold tableSwitch
  refine kept_ite hs ?_
  split
  · exact hs
  · refine kept_ite hs ?_
    extract_lets cause s1
    have hs1 : Kept fx s1 := kept_modOnyx hs
    exact kept_ite hs1 (kept_setTariff hs1)

theorem completes_execLegTariff (hs : Kept fx s) : Completes fx (execLegTariff s) := by
  unfold execLegTariff
  exact completes_ans (kept_tableSwitch hs)

theorem kept_selectTariff {t hold : Nat} (hs : Kept fx s) : Kept fx (selectTariff t hold s) := by
  unfold selectTariff
  extract_lets s1 s2 held e s3 s4
  have hs1 : Kept fx s1 := kept_tableSwitch hs
  have hs2 : Kept fx s2 := kept_modOnyx hs1
  have hs3 : Kept fx s3 := kept_logEntry hs1
  have hs4 : Kept fx s4 := kept_modOnyx hs3
  exact kept_ite (kept_setTariff hs2) (kept_setTariff hs4)

theorem completes_execTariffSelectionApply (hs : Kept fx s) : Completes fx (execTariffSelectionApply s) := by
  unfold execTariffSelectionApply
  split
  · exact completes_ite (completes_ans (kept_selectTariff (kept_modOnyx hs))) (completes_ans (kept_modOnyx hs))
  · exact completes_ans hs

theorem keeps_tariffSetRules {h : Hdr} {tariff hold mode frame : Nat} {s : State} : (tariffSetRules h tariff hold mode frame
    s).Keeps := by
  unfold tariffSetRules
  refine keeps_ite (keeps_no _) ?_
  refine keeps_ite keeps_done ?_
  split
  · exact keeps_no _
  · exact fun _ _ ht => kept_modOnyx ht

theorem completes_execLegTariffSet {h : Hdr} {tariff hold mode frame : Nat} (hs : Kept fx s) : Completes fx (execLegTariffSet h
    tariff hold mode frame s) := by
  unfold execLegTariffSet
  exact completes_ans (kept_hostCmd (fun _ => keeps_tariffSetRules) hs)

theorem kept_activateTable {slot cause : Nat} (hs : Kept fx s) : Kept fx (activateTable slot cause s) := by
  unfold activateTable
  exact kept_writeSet (kept_ev (kept_modOnyx (kept_logEntry (kept_pset hs))))

theorem keeps_tariffLoadRules {slot offset : Nat} {data : List Byte} {s : State} : (tariffLoadRules slot offset data s).Keeps
    := by
  unfold tariffLoadRules
  refine keeps_dite ?_ (fun _ => keeps_no _)
  intro _
  refine keeps_ite (keeps_no _) ?_
  refine keeps_ite (keeps_no _) ?_
  refine keeps_ite (keeps_no _) ?_
  dsimp only
  split
  · exact keeps_ite (fun _ _ hu => kept_modOnyx hu) (fun _ _ hu => kept_modOnyx hu)
  · exact fun _ _ hu => kept_modOnyx hu

theorem completes_execLegTariffLoadX {h : Hdr} {slot offset : Nat} {data : List Byte} (hs : Kept fx s) : Completes fx
    (execLegTariffLoadX h slot offset data s) := by
  unfold execLegTariffLoadX
  exact completes_ans (kept_hostCmd (fun _ => keeps_tariffLoadRules) hs)

theorem kept_applyTariffLoad {slot : Nat} (hs : Kept fx s) : Kept fx (applyTariffLoad slot s) := by
  unfold applyTariffLoad
  refine kept_dite ?_ (fun _ => hs)
  intro _
  split
  · exact kept_ev (kept_logEntry (kept_modOnyx hs))
  · exact hs

theorem completes_execLegTariffInfo {h : Hdr} (hs : Kept fx s) : Completes fx (execLegTariffInfo h s) := by
  unfold execLegTariffInfo
  exact completes_ans (kept_hostCmd (fun _ => keeps_done) hs)

theorem kept_onyxTick {ticks : Nat} (hs : Kept fx s) : Kept fx (onyxTick ticks s) := by
  unfold onyxTick
  extract_lets o dt part adj wall legal x s1 s2 fl s3 bits
  have hs1 : Kept fx s1 := kept_other hs
  have hs2 : Kept fx s2 := kept_modOnyx hs1
  have hs3 : Kept fx s3 := kept_modLive hs2
  exact kept_ite hs1 (kept_ite hs3 (kept_markBits hs3))

theorem completes_execSlewComplete (hs : Kept fx s) : Completes fx (execSlewComplete s) := by
  unfold execSlewComplete
  exact completes_ite (completes_ans (kept_modOnyx hs)) (completes_ans hs)

theorem kept_endFold (hs : Kept fx s) : Kept fx (endFold s) := by
  unfold endFold
  split
  · exact kept_ev (kept_logEntry (kept_modOnyx hs))
  · exact hs

theorem completes_execFoldEnd (hs : Kept fx s) : Completes fx (execFoldEnd s) := by
  unfold execFoldEnd
  exact completes_ite (completes_ans (kept_endFold hs)) (completes_ans hs)

theorem kept_clockStep {d : Rat} {fromInvalid : Bool} (hs : Kept fx s) : Kept fx (clockStep d fromInvalid s) := by
  unfold clockStep
  extract_lets f s1 s2 s3 w x s4 s5 di s6 s7 s8 s9 s10 s11
  have hs1 : Kept fx s1 := kept_modOnyx hs
  have hs2 : Kept fx s2 := kept_closeSegment hs1
  have hs3 : Kept fx s3 := kept_modOnyx hs2
  have hs4 : Kept fx s4 := kept_other hs3
  have hs5 : Kept fx s5 := kept_openSegment hs4
  have hs6 : Kept fx s6 := kept_ite (kept_logEntry hs5) (kept_logEntry hs5)
  have hs7 : Kept fx s7 := kept_ev hs6
  have hs8 : Kept fx s8 := kept_markBits hs7
  have hs9 : Kept fx s9 := kept_logEntry hs8
  have hs10 : Kept fx s10 := kept_modOnyx hs9
  have hs11 : Kept fx s11 := kept_ite (kept_ite hs8 (kept_ev (kept_markBits (kept_modLive hs10)))) (kept_endFold (kept_modLive
    hs8))
  exact kept_writeSet hs11

theorem keeps_clockSetRules {mode : Nat} {value : Int} {s : State} : (clockSetRules mode value s).Keeps := by
  unfold clockSetRules
  exact keeps_ite (keeps_no _) (keeps_ite (keeps_no _) keeps_done)

theorem completes_execLegClockSet {h : Hdr} {mode : Nat} {value : Int} (hs : Kept fx s) : Completes fx (execLegClockSet h mode
    value s) := by
  unfold execLegClockSet
  exact completes_ans (kept_hostCmd (fun _ => keeps_clockSetRules) hs)

theorem kept_applyClockSet {mode : Nat} {value : Int} (hs : Kept fx s) : Kept fx (applyClockSet mode value s).1 := by
  unfold applyClockSet
  dsimp only
  split
  · dsimp only
    exact kept_clockStep hs
  · split
    · split
      · dsimp only
        exact kept_ev (kept_modOnyx (kept_logEntry hs))
      · dsimp only
        exact kept_clockStep hs
    · split
      · dsimp only
        exact kept_ev (kept_modOnyx (kept_logEntry hs))
      · dsimp only
        exact kept_clockStep hs

theorem completes_execLegClockRead {h : Hdr} (hs : Kept fx s) : Completes fx (execLegClockRead h s) := by
  unfold execLegClockRead
  exact completes_ans (kept_hostCmd (fun _ => keeps_done) hs)

theorem completes_execLegTzSet {h : Hdr} {offset : Int} (hs : Kept fx s) : Completes fx (execLegTzSet h offset s) := by
  unfold execLegTzSet
  exact completes_ans (kept_hostCmd (fun _ => keeps_ite (keeps_no _) (keeps_ite (keeps_no _) keeps_done)) hs)

theorem kept_applyTzSet {offset : Int} (hs : Kept fx s) : Kept fx (applyTzSet offset s) := by
  unfold applyTzSet
  exact kept_logEntry (kept_pset hs)

theorem kept_inSegment {m : Fin 9} {frame : Nat} {f : SegBook → SegBook} (hs : Kept fx s) : Kept fx (inSegment m frame f s) :=
    by
  unfold inSegment
  split
  · exact kept_modOnyx hs
  · exact kept_modLive hs

theorem kept_digestSeen {m : Fin 9} {ok : Bool} {d : List Byte} (hs : Kept fx s) : Kept fx (digestSeen m ok d s) := by
  unfold digestSeen
  refine kept_ite (kept_ite (kept_ev (kept_modOnyx hs)) hs) ?_
  extract_lets s1
  have hs1 : Kept fx s1 := kept_markBits hs
  exact kept_ite hs1 (kept_ev (kept_logEntry (kept_modOnyx hs1)))

theorem kept_bookRec {m : Fin 9} {r : MtrRec} (hs : Kept fx s) : Kept fx (bookRec m r s) := by
  unfold bookRec
  refine kept_ite hs ?_
  extract_lets s1 ok s2 s3 whole ac t s4
  have hs1 : Kept fx s1 := kept_modOnyx hs
  have hs2 : Kept fx s2 := kept_digestSeen hs1
  have hs3 : Kept fx s3 := kept_ite (kept_markBits hs2) hs2
  have hs4 : Kept fx s4 := kept_dite (fun _ => kept_modLive hs3) (fun _ => hs3)
  exact kept_ite hs1 (kept_inSegment hs4)

theorem kept_bookGap {m : Fin 9} {g : Gap} (hs : Kept fx s) : Kept fx (bookGap m g s) := by
  unfold bookGap
  extract_lets n s1 s2 mark s3
  have hs1 : Kept fx s1 := kept_logEntry hs
  have hs2 : Kept fx s2 := kept_markBits (kept_modOnyx hs1)
  have hs3 : Kept fx s3 := kept_modOnyx hs2
  exact kept_ite (kept_modLive hs3) hs3

theorem kept_bookGaps {m : Fin 9} (hs : Kept fx s) : Kept fx (bookGaps m s) := by
  unfold bookGaps
  extract_lets gs s1
  have hs1 : Kept fx s1 := kept_ite hs (kept_modSlot hs)
  exact kept_ite (kept_foldl hs1 (fun _ _ ht => kept_bookGap ht)) hs1

theorem kept_splitGaps {p : Nat} {m : Fin 9} (hs : Kept fx s) : Kept fx (splitGaps p m s) := by
  unfold splitGaps
  exact kept_foldl (kept_modSlot hs) (fun _ _ ht => kept_bookGap (kept_evNext ht))

theorem kept_onyxCommit (hs : Kept fx s) : Kept fx (onyxCommit s) := by
  unfold onyxCommit
  extract_lets s1
  have hs1 : Kept fx s1 := by
    refine kept_foldl hs ?_
    intro _ _ ht
    refine kept_bookGaps ?_
    split
    · exact kept_bookRec (kept_mtrCommit ht)
    · exact kept_mtrCommit ht
  split
  · exact kept_finishClosings hs1
  · extract_lets s2 x live open_
    have hs2 : Kept fx s2 := kept_ite (kept_foldl hs1 (fun _ _ ht => kept_splitGaps ht)) hs1
    exact kept_ite (kept_modOnyx hs2) (kept_ite (kept_modOnyx hs2) hs2)

theorem completes_execPersistWriteSet (hs : Kept fx s) : Completes fx (execPersistWriteSet s) := by
  unfold execPersistWriteSet
  exact completes_ite (completes_ans (kept_persistLive hs)) (completes_ans hs)

theorem keeps_readingRules {slot kind curve : Nat} {s : State} : (readingRules slot kind curve s).Keeps := by
  unfold readingRules
  exact keeps_dite (fun _ => keeps_ite (keeps_no _) (keeps_ite (keeps_no _) (keeps_ite (keeps_no _) (fun _ _ hu => kept_modOnyx
    hu)))) (fun _ => keeps_no _)

theorem completes_execLegReading {h : Hdr} {slot kind curve : Nat} (hs : Kept fx s) : Completes fx (execLegReading h slot kind
    curve s) := by
  unfold execLegReading
  exact completes_ans (kept_hostCmd (fun _ => keeps_readingRules) hs)

theorem kept_stampReadings (hs : Kept fx s) : Kept fx (stampReadings s) := by
  unfold stampReadings
  exact kept_modOnyx hs

theorem kept_takeSnapshot {at_ : State} {p : PendReading} (hs : Kept fx s) : Kept fx (takeSnapshot at_ p s) := by
  unfold takeSnapshot
  exact kept_modOnyx hs

theorem completes_execReadingSnapshot {counter : Nat} (hs : Kept fx s) : Completes fx (execReadingSnapshot counter s) := by
  unfold execReadingSnapshot
  split
  · exact completes_ite (completes_ans (kept_takeSnapshot hs)) (completes_ans hs)
  · exact completes_ans hs

theorem completes_execSignatureStart (hs : Kept fx s) : Completes fx (execSignatureStart s) := by
  unfold execSignatureStart
  dsimp only
  split
  · exact completes_ite (completes_ans (kept_modOnyx hs)) (completes_ans hs)
  · exact completes_ans hs

theorem completes_execLegReadingReady {counter : Nat} (hs : Kept fx s) : Completes fx (execLegReadingReady counter s) := by
  unfold execLegReadingReady
  split
  · exact completes_ans (kept_evNext (kept_modOnyx hs))
  · exact completes_ans hs

theorem completes_execLegReadingGet {h : Hdr} {counter : Nat} (hs : Kept fx s) : Completes fx (execLegReadingGet h counter s)
    := by
  unfold execLegReadingGet
  refine completes_ans ?_
  refine kept_hostCmd ?_ hs
  intro _
  refine keeps_ite (keeps_no _) ?_
  split
  · exact keeps_accept_id _ _
  · exact keeps_no _

theorem keeps_legReadRules {slot count : Nat} {codes : List Nat} {s : State} : (legReadRules slot count codes s).Keeps := by
  unfold legReadRules
  exact keeps_ite (keeps_no _) (keeps_ite (keeps_no _) keeps_done)

theorem completes_execLegRead {h : Hdr} {slot count : Nat} {codes : List Nat} (hs : Kept fx s) : Completes fx (execLegRead h
    slot count codes s) := by
  unfold execLegRead
  exact completes_ans (kept_hostCmd (fun _ => keeps_legReadRules) hs)

theorem completes_execLegLogRead {h : Hdr} {area count first : Nat} (hs : Kept fx s) : Completes fx (execLegLogRead h area
    count first s) := by
  unfold execLegLogRead
  exact completes_ans (kept_hostCmd (fun _ => keeps_ite (keeps_no _) (keeps_ite (keeps_no _) keeps_done)) hs)

theorem completes_execLegProfileRead {h : Hdr} {slot count first : Nat} (hs : Kept fx s) : Completes fx (execLegProfileRead h
    slot count first s) := by
  unfold execLegProfileRead
  exact completes_ans (kept_hostCmd (fun _ => keeps_ite (keeps_no _) (keeps_ite (keeps_no _) keeps_done)) hs)

theorem completes_execLegInfo {h : Hdr} (hs : Kept fx s) : Completes fx (execLegInfo h s) := by
  unfold execLegInfo
  exact completes_ans (kept_hostCmd (fun _ => keeps_done) hs)

theorem kept_closeAccess {cause : Nat} (hs : Kept fx s) : Kept fx (closeAccess cause s) := by
  unfold closeAccess
  exact kept_ite (kept_ev (kept_logEntry (kept_modOnyx hs))) hs

theorem keeps_accessRules {action : Nat} {s : State} : (accessRules action s).Keeps := by
  unfold accessRules
  exact keeps_ite (keeps_no _) (keeps_ite (keeps_ite keeps_done (keeps_accept_id _ _)) (keeps_ite (keeps_no _) (keeps_ite
    (keeps_no _) keeps_done)))

theorem completes_execLegAccessX {h : Hdr} {action : Nat} (hs : Kept fx s) : Completes fx (execLegAccessX h action s) := by
  unfold execLegAccessX
  exact completes_ans (kept_hostCmd (fun _ => keeps_accessRules) hs)

theorem kept_applyAccess {action : Nat} (hs : Kept fx s) : Kept fx (applyAccess action s) := by
  unfold applyAccess
  exact kept_ite (kept_closeAccess hs) (kept_ev (kept_logEntry (kept_modOnyx hs)))

theorem completes_execAccessTimeout (hs : Kept fx s) : Completes fx (execAccessTimeout s) := by
  unfold execAccessTimeout
  exact completes_ite (completes_ans (kept_closeAccess hs)) (completes_ans hs)

theorem kept_sealStamp {high : Bool} (hs : Kept fx s) : Kept fx (sealStamp high s) := by
  unfold sealStamp
  extract_lets high1 s1
  have hs1 : Kept fx s1 := kept_modOnyx hs
  exact kept_ite (kept_closeAccess hs1) hs1

theorem completes_execSealN {high : Bool} (hs : Kept fx s) : Completes fx (execSealN high s) := by
  unfold execSealN
  exact completes_ans (kept_sealStamp hs)

theorem keeps_cfgStageRules {es : List PEntry} {s : State} : (cfgStageRules es s).Keeps := by
  unfold cfgStageRules
  refine keeps_ite (keeps_refuse _ _) ?_
  split
  · exact keeps_refuse _ _
  · exact keeps_accept_id _ _

theorem completes_execLegCfgStageX {h : Hdr} {count : Nat} {entries : List PEntry} (hs : Kept fx s) : Completes fx
    (execLegCfgStageX h count entries s) := by
  unfold execLegCfgStageX
  exact completes_ans (kept_hostCmd (fun _ => keeps_cfgStageRules) hs)

theorem kept_applyCfgStage {es : List PEntry} (hs : Kept fx s) : Kept fx (applyCfgStage es s) := by
  unfold applyCfgStage
  exact kept_modOnyx hs

theorem keeps_cfgSealRules {s : State} : (cfgSealRules s).Keeps := by
  unfold cfgSealRules
  exact keeps_ite (keeps_no _) (keeps_ite (keeps_no _) (keeps_ite (keeps_no _) (keeps_ite (keeps_no _) (keeps_ite (keeps_refuse
    _ _) (keeps_accept_id _ _)))))

theorem completes_execLegCfgSealX {h : Hdr} (hs : Kept fx s) : Completes fx (execLegCfgSealX h s) := by
  unfold execLegCfgSealX
  exact completes_ans (kept_hostCmd (fun _ => keeps_cfgSealRules) hs)

theorem kept_notePending (hs : Kept fx s) : Kept fx (notePending s) := by
  unfold notePending
  split
  · exact hs
  · exact kept_modOnyx hs

theorem kept_applyCfgSeal (hs : Kept fx s) : Kept fx (applyCfgSeal s) := by
  unfold applyCfgSeal
  split
  · exact hs
  · exact kept_writeSet (kept_ev (kept_modOnyx (kept_logEntry (kept_draw (kept_notePending (kept_modMtr hs (fun _ => rfl)))))))

theorem completes_execLegCfgDiscardX {h : Hdr} (hs : Kept fx s) : Completes fx (execLegCfgDiscardX h s) := by
  unfold execLegCfgDiscardX
  exact completes_ans (kept_hostCmd (fun _ => keeps_ite (keeps_accept_id _ _) keeps_done) hs)

theorem kept_applyCfgDiscard (hs : Kept fx s) : Kept fx (applyCfgDiscard s) := by
  unfold applyCfgDiscard
  exact kept_modOnyx hs

theorem keeps_calSealRules {slot : Nat} {s : State} : (calSealRules slot s).Keeps := by
  unfold calSealRules
  exact keeps_ite (keeps_no _) (keeps_ite (keeps_no _) (keeps_ite (keeps_no _) (keeps_ite (keeps_no _) (keeps_ite (keeps_no _)
    keeps_done))))

theorem completes_execMtrCalSealX {h : Hdr} {slot : Nat} (hs : Kept fx s) : Completes fx (execMtrCalSealX h slot s) := by
  unfold execMtrCalSealX
  exact completes_ans (kept_hostCmd (fun _ => keeps_calSealRules) hs)

theorem kept_applyCalSeal {slot : Nat} (hs : Kept fx s) : Kept fx (applyCalSeal slot s) := by
  unfold applyCalSeal
  refine kept_dite ?_ (fun _ => hs)
  intro _
  dsimp only
  split
  · exact hs
  · exact kept_writeSet (kept_ev (kept_logEntry (kept_notePending (kept_modOnyx (kept_modSlot (kept_pset (kept_foldl hs (fun _
      _ hu => kept_pset hu))))))))

theorem completes_execCheckValueRecompute {value : List Byte} (hs : Kept fx s) : Completes fx (execCheckValueRecompute value s)
    := by
  unfold execCheckValueRecompute
  exact completes_ite (completes_ans (kept_modOnyx hs)) (completes_ans hs)

theorem kept_onyxPowerFail (hs : Kept fx s) : Kept fx (onyxPowerFail s) := by
  unfold onyxPowerFail
  exact kept_ite (kept_modOnyx hs) hs

theorem completes_execPowerFailWriteSet (hs : Kept fx s) : Completes fx (execPowerFailWriteSet s) := by
  unfold execPowerFailWriteSet
  split
  · split
    · exact completes_ite (completes_ans hs) (completes_ans (kept_modOnyx (kept_foldl (kept_finishClosings (kept_logAt hs))
        (fun _ _ ht => kept_ite (kept_takeSnapshot ht) ht))))
    · exact completes_ans hs
  · exact completes_ans hs

theorem completes_execTailRecord (hs : Kept fx s) : Completes fx (execTailRecord s) := by
  unfold execTailRecord
  split
  · split
    · exact completes_ite (completes_ans hs) (completes_ans (kept_modOnyx (kept_logEntry hs)))
    · exact completes_ans hs
  · exact completes_ans hs

theorem kept_onyxReset {source : Nat} (hs : Kept fx s) : Kept fx (onyxReset source s) := by
  unfold onyxReset
  exact kept_modOnyx hs

theorem kept_startInterval (hs : Kept fx s) : Kept fx (startInterval s) := by
  unfold startInterval
  extract_lets l f s1 same m
  have hs1 : Kept fx s1 := kept_modOnyx hs
  exact kept_ite (kept_openSegment (kept_closeSegment hs1)) (kept_ite (kept_closeInterval hs1) (kept_openSegment
    (kept_closeSegment hs1)))

theorem kept_onyxStart (hs : Kept fx s) : Kept fx (onyxStart s) := by
  unfold onyxStart
  extract_lets f lost last legal x x1 s1 wasOpen s2 s3 kind s4 s5 s6 s7 x2 s8 s9 s10
  have hs1 : Kept fx s1 := kept_sys hs ⟨rfl, rfl, rfl, rfl⟩
  have hs2 : Kept fx s2 := kept_modOnyx hs1
  have hs3 : Kept fx s3 := kept_modMtr hs2 (fun _ => rfl)
  have hs4 : Kept fx s4 := kept_ite (kept_logEntry hs3) hs3
  have hs5 : Kept fx s5 := kept_ite (kept_ev (kept_logEntry hs4)) hs4
  have hs6 : Kept fx s6 := kept_ite (kept_logEntry hs5) (kept_ite (kept_logEntry hs5) hs5)
  have hs7 : Kept fx s7 := by
    refine kept_foldl hs6 ?_
    intro _ _ ht
    refine kept_ite ht ?_
    extract_lets s11
    have hs11 : Kept fx s11 := kept_markBits (kept_logEntry ht)
    exact kept_ite hs11 (kept_ev hs11)
  have hs8 : Kept fx s8 := kept_other hs7
  have hs9 : Kept fx s9 := kept_foldl hs8 (fun _ _ ht => kept_ite (kept_logEntry ht) ht)
  have hs10 : Kept fx s10 := kept_ite (kept_markBits hs9) hs9
  exact kept_persistLive (kept_startInterval (kept_ev hs10))

theorem completes_execOnyxUp {ok : Bool} {test : Nat} (hs : Kept fx s) : Completes fx (execOnyxUp ok test s) := by
  unfold execOnyxUp
  exact completes_ite (completes_ans hs) (completes_ite (completes_ans (kept_onyxStart hs)) (completes_ans (kept_ev (kept_sys
    hs ⟨rfl, rfl, rfl, rfl⟩))))

end Sys2Proof.Machine
end

section
/-! SUPPORT. The invariant kept by the vehicle links (chapter 07): one lemma for each operation, in the order of the model. -/

namespace Sys2Proof.Machine

open Host (Cell Outcome)

variable {fx : Fixed} {s : State}

theorem kept_modVlk {f : VlkSt → VlkSt} (hs : Kept fx s) : Kept fx (modVlk f s) := by
  unfold modVlk
  exact kept_other hs

theorem kept_modV {k : Fin 8} {f : VPort → VPort} (hs : Kept fx s) : Kept fx (modV k f s) := by
  unfold modV
  exact kept_modVlk hs

theorem kept_toV {k : Fin 8} {st : VState} (hs : Kept fx s) : Kept fx (toV k st s) := by
  unfold toV
  exact kept_modV hs

theorem kept_claimLane {k : Fin 8} {l : Fin 4} {t : Rat} (hs : Kept fx s) : Kept fx (claimLane k l t s) := by
  unfold claimLane
  exact kept_modV (kept_modVlk hs)

theorem kept_grantLane {t : Rat} (hs : Kept fx s) : Kept fx (grantLane t s) := by
  unfold grantLane
  split
  · exact kept_claimLane hs
  · exact hs

theorem kept_releaseLane {k : Fin 8} {t : Rat} (hs : Kept fx s) : Kept fx (releaseLane k t s) := by
  unfold releaseLane
  split
  · exact kept_grantLane (kept_modV (kept_modVlk hs))
  · exact hs

theorem kept_prepare {k : Fin 8} (hs : Kept fx s) : Kept fx (prepare k s) := by
  unfold prepare
  exact kept_ite (kept_modV hs) hs

theorem kept_lineTime {t : Rat} (hs : Kept fx s) : Kept fx (lineTime t s) := by
  unfold lineTime
  exact kept_modVlk hs

theorem completes_execPreambleDetected {k : Fin 8} {at_ : Rat} (hs : Kept fx s) : Completes fx (execPreambleDetected k at_ s)
    := by
  unfold execPreambleDetected
  refine completes_ite (completes_ans hs) ?_
  dsimp only
  split
  · exact completes_ans (kept_claimLane (kept_prepare (kept_lineTime (kept_modV hs))))
  · exact completes_ans (kept_prepare (kept_lineTime (kept_modV hs)))

theorem completes_execFrameControlDecoded {k : Fin 8} {own : Bool} {lenUs rifs at_ : Rat} (hs : Kept fx s) : Completes fx
    (execFrameControlDecoded k own lenUs rifs at_ s) := by
  unfold execFrameControlDecoded
  split
  · exact completes_ans hs
  · exact completes_ite (completes_ans hs) (completes_ite (completes_ans (kept_lineTime (kept_modV hs))) (completes_ans
      (kept_modV (kept_releaseLane (kept_lineTime hs)))))

theorem completes_execPayloadDecoded {k : Fin 8} {ok : Bool} {at_ : Rat} (hs : Kept fx s) : Completes fx (execPayloadDecoded k
    ok at_ s) := by
  unfold execPayloadDecoded
  split
  · exact completes_ans hs
  · exact completes_ite (completes_ans hs) (completes_ans (kept_releaseLane (kept_modV (kept_lineTime hs))))

theorem kept_laneMiss {k : Fin 8} (hs : Kept fx s) : Kept fx (laneMiss k s) := by
  unfold laneMiss
  extract_lets p n f s1
  have hs1 : Kept fx s1 := kept_modV hs
  exact kept_ite (kept_ev (kept_modV hs1)) hs1

theorem completes_execVlkLaneMiss {k : Fin 8} {at_ : Rat} (hs : Kept fx s) : Completes fx (execVlkLaneMiss k at_ s) := by
  unfold execVlkLaneMiss
  split
  · exact completes_ans hs
  · exact completes_ite (completes_ans hs) (completes_ans (kept_laneMiss (kept_lineTime hs)))

theorem completes_execSackSent {k : Fin 8} {at_ : Rat} (hs : Kept fx s) : Completes fx (execSackSent k at_ s) := by
  unfold execSackSent
  split
  · exact completes_ans hs
  · refine completes_ite (completes_ans hs) ?_
    extract_lets s1 s2
    have hs1 : Kept fx s1 := kept_ite hs (kept_laneMiss hs)
    have hs2 : Kept fx s2 := by
      dsimp only [s2]
      split
      · exact hs1
      · exact kept_emit hs1
      · exact kept_emit hs1
    exact completes_ans (kept_lineTime (kept_modV hs2))

theorem kept_vlkOff {k : Fin 8} (hs : Kept fx s) : Kept fx (vlkOff k s) := by
  unfold vlkOff
  extract_lets f s1 s2
  have hs1 : Kept fx s1 := kept_releaseLane hs
  have hs2 : Kept fx s2 := kept_ite (kept_emit hs1) hs1
  exact kept_modVlk (kept_modV hs2)

theorem kept_vlkStart {k : Fin 8} (hs : Kept fx s) : Kept fx (vlkStart k s) := by
  unfold vlkStart
  refine kept_ite hs ?_
  extract_lets s1
  have hs1 : Kept fx s1 := kept_modV (kept_vlkOff hs)
  split
  · exact kept_ite (kept_toV (kept_modV hs1)) hs1
  · exact kept_toV (kept_modV hs1)

theorem kept_linkFail {k : Fin 8} {cause : Nat} (hs : Kept fx s) : Kept fx (linkFail k cause s) := by
  unfold linkFail
  refine kept_ite hs ?_
  extract_lets st s1
  have hs1 : Kept fx s1 := kept_evNext (kept_modV hs)
  exact kept_ite (kept_linkFails hs1) (kept_stopSession hs1)

theorem completes_execVlkLinkLost {k : Fin 8} {cause : Nat} (hs : Kept fx s) : Completes fx (execVlkLinkLost k cause s) := by
  unfold execVlkLinkLost
  exact completes_ite (completes_ans (kept_linkFail hs)) (completes_ans hs)

theorem completes_execSlacInitTimeout {k : Fin 8} (hs : Kept fx s) : Completes fx (execSlacInitTimeout k s) := by
  unfold execSlacInitTimeout
  exact completes_ite (completes_ans (kept_linkFail hs)) (completes_ans hs)

theorem completes_execSlacJoinTimeout {k : Fin 8} (hs : Kept fx s) : Completes fx (execSlacJoinTimeout k s) := by
  unfold execSlacJoinTimeout
  exact completes_ite (completes_ans (kept_linkFail hs)) (completes_ans hs)

theorem completes_execSetupTimeout {k : Fin 8} (hs : Kept fx s) : Completes fx (execSetupTimeout k s) := by
  unfold execSetupTimeout
  exact completes_ite (completes_ans (kept_linkFail hs)) (completes_ans hs)

theorem completes_execSequenceTimeout {k : Fin 8} (hs : Kept fx s) : Completes fx (execSequenceTimeout k s) := by
  unfold execSequenceTimeout
  exact completes_ite (completes_ans (kept_linkFail hs)) (completes_ans hs)

theorem completes_execResumeTimeout {k : Fin 8} (hs : Kept fx s) : Completes fx (execResumeTimeout k s) := by
  unfold execResumeTimeout
  exact completes_ite (completes_ans (kept_vlkOff hs)) (completes_ans hs)

theorem kept_vlkClose {k : Fin 8} (hs : Kept fx s) : Kept fx (vlkClose k s) := by
  unfold vlkClose
  exact kept_ite (kept_vlkOff hs) (kept_toV (kept_modV hs))

theorem completes_execCmSlacParmReq {k : Fin 8} {runId : Nat} (hs : Kept fx s) : Completes fx (execCmSlacParmReq k runId s) :=
    by
  unfold execCmSlacParmReq
  exact completes_ite (completes_ans (kept_emit (kept_toV (kept_modV hs)))) (completes_ans hs)

theorem completes_execMSound {k : Fin 8} {runId attenuation : Nat} (hs : Kept fx s) : Completes fx (execMSound k runId
    attenuation s) := by
  unfold execMSound
  exact completes_ite (completes_ans (kept_emit (kept_modV hs))) (completes_ans hs)

theorem completes_execCmSlacMatchReq {k : Fin 8} {runId : Nat} (hs : Kept fx s) : Completes fx (execCmSlacMatchReq k runId s)
    := by
  unfold execCmSlacMatchReq
  exact completes_ite (completes_ans (kept_emit (kept_modV (kept_draw hs)))) (completes_ans hs)

theorem completes_execCmValidateReq {k : Fin 8} {runId : Nat} (hs : Kept fx s) : Completes fx (execCmValidateReq k runId s) :=
    by
  unfold execCmValidateReq
  exact completes_ite (completes_ite (completes_ans (kept_emit (kept_modV hs))) (completes_ans (kept_emit hs))) (completes_ans
    hs)

theorem kept_vlkToggles (hs : Kept fx s) : Kept fx (vlkToggles s) := by
  unfold vlkToggles
  exact kept_foldl hs (fun _ _ ht => kept_modV ht)

theorem completes_execVlkSlacRetry {k : Fin 8} (hs : Kept fx s) : Completes fx (execVlkSlacRetry k s) := by
  unfold execVlkSlacRetry
  exact completes_ite (completes_ans (kept_ev (kept_toV (kept_modV hs)))) (completes_ans hs)

theorem completes_execVlkSlacMatched {k : Fin 8} (hs : Kept fx s) : Completes fx (execVlkSlacMatched k s) := by
  unfold execVlkSlacMatched
  exact completes_ite (completes_ans (kept_ev (kept_toV (kept_modV hs)))) (completes_ans hs)

theorem completes_execT1sPlcaRunning {port : Fin 2} (hs : Kept fx s) : Completes fx (execT1sPlcaRunning port s) := by
  unfold execT1sPlcaRunning
  split
  · exact completes_ans hs
  · exact completes_ite (completes_ans hs) (completes_ite (completes_ans (kept_toV (kept_modV (kept_ev (kept_modVlk hs)))))
      (completes_ans (kept_ev (kept_modVlk hs))))

theorem completes_execT1sLinkLoss {port : Fin 2} {collision : Bool} (hs : Kept fx s) : Completes fx (execT1sLinkLoss port
    collision s) := by
  unfold execT1sLinkLoss
  split
  · exact completes_ans hs
  · exact completes_ite (completes_ans hs) (completes_ans (kept_linkFail (kept_ev (kept_modVlk hs))))

theorem completes_execSdpRequest {k : Fin 8} {tls : Bool} (hs : Kept fx s) : Completes fx (execSdpRequest k tls s) := by
  unfold execSdpRequest
  exact completes_ite (completes_ans (kept_emit (kept_modV hs))) (completes_ans hs)

theorem completes_execTcpConnection {k : Fin 8} (hs : Kept fx s) : Completes fx (execTcpConnection k s) := by
  unfold execTcpConnection
  refine completes_ite (completes_ans (kept_emit hs)) ?_
  refine completes_ite ?_ (completes_ans hs)
  extract_lets s1
  have hs1 : Kept fx s1 := kept_emit (kept_modV hs)
  exact completes_ans (kept_ite hs1 (kept_toV hs1))

theorem completes_execTcpReset {k : Fin 8} (hs : Kept fx s) : Completes fx (execTcpReset k s) := by
  unfold execTcpReset
  refine completes_ite (completes_ans hs) ?_
  refine completes_ite (completes_ans (kept_ite (kept_vlkClose hs) (kept_linkFail (kept_modV hs)))) ?_
  extract_lets s1
  have hs1 : Kept fx s1 := kept_modVlk (kept_modV hs)
  exact completes_ans (kept_ite (kept_toV hs1) hs1)

theorem kept_tlsFail {k : Fin 8} {alert : Nat} (hs : Kept fx s) : Kept fx (tlsFail k alert s) := by
  unfold tlsFail
  exact kept_linkFail (kept_evNext hs)

theorem completes_execClientHello {k : Fin 8} {v13 acceptable : Bool} (hs : Kept fx s) : Completes fx (execClientHello k v13
    acceptable s) := by
  unfold execClientHello
  exact completes_ite (completes_ite (completes_ans (kept_modVlk (kept_modV (kept_ite (kept_toV hs) hs)))) (completes_ans
    (kept_tlsFail hs))) (completes_ans hs)

theorem completes_execTlsHandshakeComplete {k : Fin 8} {ok : Bool} {alert : Nat} (hs : Kept fx s) : Completes fx
    (execTlsHandshakeComplete k ok alert s) := by
  unfold execTlsHandshakeComplete
  refine completes_ite (completes_ans hs) ?_
  extract_lets s1 p s2
  have hs1 : Kept fx s1 := kept_modVlk hs
  have hs2 : Kept fx s2 := kept_modV hs1
  exact completes_ite (completes_ans hs1) (completes_ite (completes_ans (kept_ite (kept_toV hs2) hs2)) (completes_ans
    (kept_tlsFail hs1)))

theorem completes_execSupportedAppProtocolReq {k : Fin 8} {offers : List (Nat × Nat)} (hs : Kept fx s) : Completes fx
    (execSupportedAppProtocolReq k offers s) := by
  unfold execSupportedAppProtocolReq
  refine completes_ite ?_ (completes_ans hs)
  split
  · exact completes_ans (kept_linkFail (kept_emit hs))
  · exact completes_ite (completes_ans (kept_toV (kept_modV (kept_ev (kept_emit (kept_modV hs)))))) (completes_ans (kept_ev
      (kept_emit (kept_modV hs))))

theorem kept_vlkContent {k : Fin 8} {type : Nat} {item : List Byte} (hs : Kept fx s) : Kept fx (vlkContent k type item s) := by
  unfold vlkContent
  exact kept_ite (kept_foldl hs (fun _ _ ht => kept_pushData (kept_draw ht))) hs

theorem completes_takeReq {k : Fin 8} {kind : ReqKind} {answer : Answer} {f : State → State} (hf : ∀ c s, Kept c s → Kept c (f
    s)) (hs : Kept fx s) : Completes fx (takeReq k kind answer f s) := by
  unfold takeReq
  exact completes_ite (completes_ans (hf _ _ (kept_modV (kept_ite (kept_prepare hs) hs)))) (completes_ans hs)

theorem completes_refuseReq {k : Fin 8} {kind : ReqKind} (hs : Kept fx s) : Completes fx (refuseReq k kind s) := by
  unfold refuseReq
  exact completes_ite (completes_ans (kept_linkFail (kept_emit hs))) (completes_ans hs)

theorem completes_execSessionSetupReq {k : Fin 8} {evccid sessionId : Nat} (hs : Kept fx s) : Completes fx (execSessionSetupReq
    k evccid sessionId s) := by
  unfold execSessionSetupReq
  refine completes_takeReq ?_ (kept_ite (kept_toV (kept_modV hs)) hs)
  intro fx _ ht
  extract_lets fresh id s1 s2
  have hs1 : Kept fx s1 := kept_modV (kept_draw ht)
  have hs2 : Kept fx s2 := kept_ite (kept_goTo hs1) hs1
  exact kept_vlkContent hs2

theorem completes_execAuthorizationReq {k : Fin 8} {payment : Nat} {sigOk : Bool} (hs : Kept fx s) : Completes fx
    (execAuthorizationReq k payment sigOk s) := by
  unfold execAuthorizationReq
  refine completes_takeReq ?_ hs
  intro fx _ ht
  extract_lets s1 s2
  have hs1 : Kept fx s1 := kept_modV ht
  have hs2 : Kept fx s2 := kept_vlkContent hs1
  exact kept_ite (kept_stopSession (kept_evNext hs2)) (kept_ite (kept_modOut hs2) hs2)

theorem completes_execPaymentDetailsReq {k : Fin 8} {emaid chain : List Byte} {leafKey : Nat} (hs : Kept fx s) : Completes fx
    (execPaymentDetailsReq k emaid chain leafKey s) := by
  unfold execPaymentDetailsReq
  exact completes_ite (completes_refuseReq hs) (completes_takeReq (fun fx _ ht => kept_vlkContent (kept_modV (kept_draw ht)))
    hs)

theorem completes_execServiceDiscoveryReq {k : Fin 8} (hs : Kept fx s) : Completes fx (execServiceDiscoveryReq k s) := by
  unfold execServiceDiscoveryReq
  exact completes_takeReq (fun fx _ ht => ht) hs

theorem kept_awaitHost {k : Fin 8} {type : Nat} (hs : Kept fx s) : Kept fx (awaitHost k type s) := by
  unfold awaitHost
  exact kept_ite hs (kept_modV hs)

theorem completes_execChargeParameterDiscoveryReq {k : Fin 8} {energy departure vMax maxI maxP maxDis : Nat} {bpt : Bool} (hs :
    Kept fx s) : Completes fx (execChargeParameterDiscoveryReq k energy departure vMax maxI maxP maxDis bpt s) := by
  unfold execChargeParameterDiscoveryReq
  refine completes_takeReq ?_ hs
  intro fx _ ht
  extract_lets s1 s2
  have hs1 : Kept fx s1 := kept_modOut ht
  have hs2 : Kept fx s2 := kept_vlkContent hs1
  exact kept_ite (kept_awaitHost hs2) hs2

theorem completes_execCableCheckReq {k : Fin 8} (hs : Kept fx s) : Completes fx (execCableCheckReq k s) := by
  unfold execCableCheckReq
  exact completes_ite (completes_refuseReq hs) (completes_takeReq (fun fx _ ht => kept_ite (kept_toCableCheck (kept_modV ht))
    ht) hs)

theorem completes_execPreChargeReq {k : Fin 8} {target : Nat} (hs : Kept fx s) : Completes fx (execPreChargeReq k target s) :=
    by
  unfold execPreChargeReq
  exact completes_ite (completes_refuseReq hs) (completes_takeReq (fun fx _ ht => kept_modOut ht) hs)

theorem completes_execPowerDeliveryReqStart {k : Fin 8} (hs : Kept fx s) : Completes fx (execPowerDeliveryReqStart k s) := by
  unfold execPowerDeliveryReqStart
  exact completes_takeReq (fun fx _ ht => kept_ite (kept_modOut ht) (kept_ite (kept_goTo ht) ht)) hs

theorem completes_execCurrentDemandReq {k : Fin 8} {target : Nat} {current : Int} {soc : Nat} (hs : Kept fx s) : Completes fx
    (execCurrentDemandReq k target current soc s) := by
  unfold execCurrentDemandReq
  exact completes_ite (completes_refuseReq hs) (completes_takeReq (fun fx _ ht => kept_modV (kept_modOut ht)) hs)

theorem completes_execChargingStatusReq {k : Fin 8} {maxI : Option Nat} {soc : Nat} (hs : Kept fx s) : Completes fx
    (execChargingStatusReq k maxI soc s) := by
  unfold execChargingStatusReq
  exact completes_ite (completes_refuseReq hs) (completes_takeReq (fun fx _ ht => kept_modV (kept_modOut ht)) hs)

theorem completes_execPowerDeliveryReqStop {k : Fin 8} {pause sessionStop : Bool} (hs : Kept fx s) : Completes fx
    (execPowerDeliveryReqStop k pause sessionStop s) := by
  unfold execPowerDeliveryReqStop
  refine completes_takeReq ?_ hs
  intro fx _ ht
  extract_lets s1 s2
  have hs1 : Kept fx s1 := kept_modV ht
  have hs2 : Kept fx s2 := kept_vlkContent hs1
  exact kept_ite (kept_ite (kept_pauseStop hs2) hs2) (kept_stopSession hs2)

theorem completes_execWeldingDetectionReq {k : Fin 8} (hs : Kept fx s) : Completes fx (execWeldingDetectionReq k s) := by
  unfold execWeldingDetectionReq
  exact completes_ite (completes_refuseReq hs) (completes_takeReq (fun fx _ ht => ht) hs)

theorem completes_execMeteringReceiptReq {k : Fin 8} {sigOk : Bool} {receipt : List Byte} (hs : Kept fx s) : Completes fx
    (execMeteringReceiptReq k sigOk receipt s) := by
  unfold execMeteringReceiptReq
  exact completes_ite (completes_refuseReq hs) (completes_takeReq (fun fx _ ht => kept_vlkContent (kept_ite ht (kept_evNext
    ht))) hs)

theorem completes_execCertificateInstallationReq {k : Fin 8} {update : Bool} {body : List Byte} (hs : Kept fx s) : Completes fx
    (execCertificateInstallationReq k update body s) := by
  unfold execCertificateInstallationReq
  exact completes_ite (completes_refuseReq hs) (completes_takeReq (fun fx _ ht => kept_awaitHost (kept_vlkContent (kept_modV
    ht))) hs)

theorem kept_vlkDecide {k : Fin 8} (hs : Kept fx s) : Kept fx (vlkDecide k s) := by
  unfold vlkDecide
  dsimp only
  split
  · exact hs
  · exact kept_ite hs (kept_modV hs)

theorem completes_execResponseHandoff {k : Fin 8} (hs : Kept fx s) : Completes fx (execResponseHandoff k s) := by
  unfold execResponseHandoff
  split
  · exact completes_ans hs
  · refine completes_ite (completes_ans hs) ?_
    split
    · exact completes_ans hs
    · exact completes_ite (completes_ans (kept_vlkClose (kept_modV (kept_emit hs)))) (completes_ans (kept_modV (kept_emit hs)))

theorem completes_execVlkHostWait {k : Fin 8} (hs : Kept fx s) : Completes fx (execVlkHostWait k s) := by
  unfold execVlkHostWait
  refine completes_ite ?_ (completes_ans hs)
  dsimp only
  split
  · exact completes_ans (kept_ev (kept_modV hs))
  · exact completes_ans hs

theorem completes_execVehicleStatusRecord {k : Fin 8} (hs : Kept fx s) : Completes fx (execVehicleStatusRecord k s) := by
  unfold execVehicleStatusRecord
  exact completes_ite (completes_ans (kept_vlkContent (kept_modV hs))) (completes_ans hs)

theorem kept_vlkStep6 {gone : Fin 8 → Bool} (hs : Kept fx s) : Kept fx (vlkStep6 gone s) := by
  unfold vlkStep6
  refine kept_foldl hs ?_
  intro _ _ ht
  extract_lets o p off s1 s2
  have hs1 : Kept fx s1 := by
    refine kept_ite ?_ ht
    split
    · exact kept_modVlk ht
    · exact ht
  have hs2 : Kept fx s2 := kept_ite (kept_vlkStart hs1) (kept_ite (kept_vlkClose hs1) hs1)
  exact kept_ite (kept_ite hs1 (kept_vlkOff hs1)) (kept_vlkDecide hs2)

theorem completes_execVlkStatus {h : Hdr} {outlet : Nat} (hs : Kept fx s) : Completes fx (execVlkStatus h outlet s) := by
  unfold execVlkStatus
  exact completes_ans (kept_hostCmd (fun _ => keeps_ite keeps_done (keeps_no _)) hs)

theorem keeps_partsRules {p : Parts} {total part : Nat} {data : List Byte} {put : Parts → State → State} {ok : List Byte →
    Bool} {bad : Nat} {s : State} (hput : ∀ y0 c s, Kept c s → Kept c (put y0 s)) : (partsRules p total part data put ok bad
    s).Keeps := by
  unfold partsRules
  split
  · exact fun _ _ ht => hput _ _ _ ht
  · exact keeps_no _
  · dsimp only
    split
    · exact keeps_ite (fun _ _ ht => hput _ _ _ ht) (fun _ _ ht => hput _ _ _ ht)
    · exact fun _ _ ht => hput _ _ _ ht

theorem keeps_scheduleRules {outlet part total : Nat} {data : List Byte} {s : State} : (scheduleRules outlet part total data
    s).Keeps := by
  unfold scheduleRules
  exact keeps_dite (fun _ => keeps_ite (keeps_no _) (keeps_ite (keeps_no _) (keeps_partsRules (fun _ fx _ hu => kept_modV
    hu)))) (fun _ => keeps_no _)

theorem completes_execVlkSchedule {h : Hdr} {outlet part total : Nat} {data : List Byte} (hs : Kept fx s) : Completes fx
    (execVlkSchedule h outlet part total data s) := by
  unfold execVlkSchedule
  exact completes_ans (kept_hostCmd (fun _ => keeps_scheduleRules) hs)

theorem kept_applySchedule {outlet : Nat} (hs : Kept fx s) : Kept fx (applySchedule outlet s) := by
  unfold applySchedule
  refine kept_dite ?_ (fun _ => hs)
  intro _
  dsimp only
  split
  · exact kept_modV hs
  · exact hs

theorem keeps_certRespRules {outlet part total status : Nat} {data : List Byte} {s : State} : (certRespRules outlet part total
    status data s).Keeps := by
  unfold certRespRules
  exact keeps_dite (fun _ => keeps_ite (keeps_no _) (keeps_ite (keeps_no _) (keeps_ite (keeps_no _) (keeps_partsRules (fun _ fx
    _ hu => kept_modV hu))))) (fun _ => keeps_no _)

theorem completes_execVlkCertResp {h : Hdr} {outlet part total status : Nat} {data : List Byte} (hs : Kept fx s) : Completes fx
    (execVlkCertResp h outlet part total status data s) := by
  unfold execVlkCertResp
  exact completes_ans (kept_hostCmd (fun _ => keeps_certRespRules) hs)

theorem kept_applyCertResp {outlet status : Nat} (hs : Kept fx s) : Kept fx (applyCertResp outlet status s) := by
  unfold applyCertResp
  refine kept_dite ?_ (fun _ => hs)
  intro _
  dsimp only
  split
  · exact kept_modV hs
  · exact hs

theorem completes_execVlkStatsClear {h : Hdr} {outlet : Nat} (hs : Kept fx s) : Completes fx (execVlkStatsClear h outlet s) :=
    by
  unfold execVlkStatsClear
  exact completes_ans (kept_hostCmd (fun _ => keeps_ite keeps_done (keeps_no _)) hs)

theorem kept_applyStatsClear {outlet : Nat} (hs : Kept fx s) : Kept fx (applyStatsClear outlet s) := by
  unfold applyStatsClear
  exact kept_dite (fun _ => kept_modV hs) (fun _ => hs)

theorem kept_modKey {slot : Nat} {f : KeySlot → KeySlot} (hs : Kept fx s) : Kept fx (modKey slot f s) := by
  unfold modKey
  exact kept_dite (fun _ => kept_modVlk hs) (fun _ => hs)

theorem keeps_keygenRules {slot curve : Nat} {s : State} : (keygenRules slot curve s).Keeps := by
  unfold keygenRules
  exact keeps_ite (keeps_no _) (keeps_ite (keeps_no _) (keeps_ite (keeps_no _) (keeps_ite (keeps_no _) (fun _ _ ht =>
    kept_modVlk ht))))

theorem completes_execVlkKeygenX {h : Hdr} {slot curve : Nat} (hs : Kept fx s) : Completes fx (execVlkKeygenX h slot curve s)
    := by
  unfold execVlkKeygenX
  exact completes_ans (kept_hostCmd (fun _ => keeps_keygenRules) hs)

theorem kept_keyEvent {slot what : Nat} (hs : Kept fx s) : Kept fx (keyEvent slot what s) := by
  unfold keyEvent
  exact kept_ev (kept_draw hs)

theorem kept_applyKeygen {slot curve : Nat} (hs : Kept fx s) : Kept fx (applyKeygen slot curve s) := by
  unfold applyKeygen
  exact kept_keyEvent (kept_modVlk (kept_modKey (kept_draw hs)))

theorem keeps_certLoadRules {slot part total : Nat} {data : List Byte} {s : State} : (certLoadRules slot part total data
    s).Keeps := by
  unfold certLoadRules
  split
  · exact keeps_no _
  · exact keeps_ite (keeps_no _) (keeps_partsRules (fun _ fx _ ht => kept_modKey ht))

theorem completes_execVlkCertLoadX {h : Hdr} {slot part total : Nat} {data : List Byte} (hs : Kept fx s) : Completes fx
    (execVlkCertLoadX h slot part total data s) := by
  unfold execVlkCertLoadX
  exact completes_ans (kept_hostCmd (fun _ => keeps_certLoadRules) hs)

theorem kept_applyCertLoad {slot : Nat} (hs : Kept fx s) : Kept fx (applyCertLoad slot s) := by
  unfold applyCertLoad
  split
  · exact kept_keyEvent (kept_modKey hs)
  · exact hs

theorem completes_execVlkKeyClearX {h : Hdr} {slot : Nat} (hs : Kept fx s) : Completes fx (execVlkKeyClearX h slot s) := by
  unfold execVlkKeyClearX
  exact completes_ans (kept_hostCmd (fun _ => keeps_ite (keeps_no _) (keeps_ite (keeps_no _) keeps_done)) hs)

theorem kept_applyKeyClear {slot : Nat} (hs : Kept fx s) : Kept fx (applyKeyClear slot s) := by
  unfold applyKeyClear
  exact kept_keyEvent (kept_modKey hs)

theorem keeps_loopbackRules {outlet : Nat} {s : State} : (loopbackRules outlet s).Keeps := by
  unfold loopbackRules
  exact keeps_dite (fun _ => keeps_ite (keeps_no _) (keeps_ite (keeps_no _) (fun _ _ hu => kept_modVlk (kept_other hu)))) (fun
    _ => keeps_no _)

theorem completes_execVlkLoopbackX {h : Hdr} {outlet : Nat} (hs : Kept fx s) : Completes fx (execVlkLoopbackX h outlet s) := by
  unfold execVlkLoopbackX
  exact completes_ans (kept_hostCmd (fun _ => keeps_loopbackRules) hs)

theorem kept_loopbackFail {k : Fin 8} {exchange snr : Nat} (hs : Kept fx s) : Kept fx (loopbackFail k exchange snr s) := by
  unfold loopbackFail
  exact kept_ev (kept_modV hs)

theorem kept_loopbackCount {k : Fin 8} {ok : Bool} (hs : Kept fx s) : Kept fx (loopbackCount k ok s) := by
  unfold loopbackCount
  extract_lets o fails s1
  have hs1 : Kept fx s1 := kept_setObj hs
  exact kept_ite (kept_retireObj hs1) hs1

theorem kept_setLoopFails {k : Fin 8} {n : Nat} (hs : Kept fx s) : Kept fx (setLoopFails k n s) := by
  unfold setLoopFails
  exact kept_sys hs ⟨rfl, rfl, rfl, rfl⟩

theorem completes_execLoopbackSelfTest {port : Fin 8} {ok : Bool} {exchange snr : Nat} (hs : Kept fx s) : Completes fx
    (execLoopbackSelfTest port ok exchange snr s) := by
  unfold execLoopbackSelfTest
  split
  · refine completes_ite (completes_ans hs) ?_
    extract_lets n res s1 s2
    have hs1 : Kept fx s1 := kept_modVlk (kept_other hs)
    have hs2 : Kept fx s2 := kept_ite (kept_setLoopFails (kept_modV hs1)) (kept_loopbackFail (kept_setLoopFails hs1))
    exact completes_ans (kept_grantLane hs2)
  · refine completes_ite (completes_ans hs) ?_
    refine completes_ans ?_
    refine kept_sys ?_ ⟨rfl, rfl, rfl, rfl⟩
    refine kept_ite (kept_loopbackCount (kept_sys hs ⟨rfl, rfl, rfl, rfl⟩)) ?_
    extract_lets s1
    have hs1 : Kept fx s1 := kept_setLoopFails hs
    exact kept_ite hs1 (kept_loopbackCount (kept_loopbackFail hs1))

theorem completes_execPartSequenceTimeout {of : PartsOf} (hs : Kept fx s) : Completes fx (execPartSequenceTimeout of s) := by
  unfold execPartSequenceTimeout
  refine completes_ite (completes_ans hs) ?_
  dsimp only
  split
  · exact completes_ans (kept_modV hs)
  · exact completes_ans (kept_modV hs)
  · exact completes_ans (kept_modKey hs)

end Sys2Proof.Machine
end

section
/-! SUPPORT. The invariant kept by the contactless reader and tag (chapter 14): one lemma for each operation, in the order of the model. -/

namespace Sys2Proof.Machine

open Host (Cell Outcome)

variable {fx : Fixed} {s : State}

theorem kept_cardRec {type handle : Nat} {payload : List Byte} (hs : Kept fx s) : Kept fx (cardRec type handle payload s) := by
  unfold cardRec
  exact kept_pushData (kept_draw hs)

theorem kept_startPoll {byLp : Bool} (hs : Kept fx s) : Kept fx (startPoll byLp s) := by
  unfold startPoll
  exact kept_modNfc hs (fun _ hm => hm)

theorem kept_fieldEnd (hs : Kept fx s) : Kept fx (fieldEnd s) := by
  unfold fieldEnd
  exact kept_ite hs (kept_modNfc hs (fun _ hm => hm))

theorem kept_endPoll (hs : Kept fx s) : Kept fx (endPoll s) := by
  unfold endPoll
  exact kept_fieldEnd (kept_modNfc hs (fun _ hm => hm))

theorem kept_loseHandle {i : Fin 8} {cause : Nat} (hs : Kept fx s) : Kept fx (loseHandle i cause s) := by
  unfold loseHandle
  split
  · exact hs
  · refine kept_fieldEnd ?_
    refine kept_cardRec ?_
    refine kept_modNfc ?_ (fun _ hm => hm)
    split
    · exact kept_ite (kept_cardRec (kept_modNfc hs (fun _ hm => hm))) hs
    · exact hs

theorem kept_readerOff {cause : Nat} (hs : Kept fx s) : Kept fx (readerOff cause s) := by
  unfold readerOff
  exact kept_modNfc (kept_foldl (kept_modNfc hs (fun _ hm => hm)) (fun _ _ ht => kept_loseHandle ht)) (fun _ hm => hm)

theorem kept_cardFound {c : CardAnswer} (hs : Kept fx s) : Kept fx (cardFound c s) := by
  unfold cardFound
  dsimp only
  split
  · exact hs
  · refine kept_ite hs ?_
    split
    · exact kept_ite (kept_ev (kept_ite (kept_cardRec (kept_modNfc hs (fun _ hm => hm))) (kept_ev (kept_cardRec (kept_modNfc hs
        (fun _ hm => hm)))))) (kept_ite (kept_cardRec (kept_modNfc hs (fun _ hm => hm))) (kept_ev (kept_cardRec (kept_modNfc hs
        (fun _ hm => hm)))))
    · exact kept_ite (kept_cardRec (kept_modNfc hs (fun _ hm => hm))) (kept_ev (kept_cardRec (kept_modNfc hs (fun _ hm => hm))))

theorem completes_execPoll {found : List CardAnswer} (hs : Kept fx s) : Completes fx (execPoll found s) := by
  unfold execPoll
  exact completes_ite (completes_ans hs) (completes_ans (kept_endPoll (kept_foldl (kept_ite hs (kept_startPoll hs)) (fun _ _ ht
    => kept_cardFound ht))))

theorem completes_execCardSelected {c : CardAnswer} (hs : Kept fx s) : Completes fx (execCardSelected c s) := by
  unfold execCardSelected
  exact completes_ite (completes_ans (kept_cardFound hs)) (completes_ans hs)

theorem completes_execPresenceCheck {handle : Nat} {present : Bool} (hs : Kept fx s) : Completes fx (execPresenceCheck handle
    present s) := by
  unfold execPresenceCheck
  split
  · exact completes_ans hs
  · split
    · exact completes_ans hs
    · exact completes_ite (completes_ans hs) (completes_ite (completes_ans (kept_modNfc hs (fun _ hm => hm))) (completes_ans
        (kept_loseHandle hs)))

theorem completes_execHandleIdleTimeout {handle : Nat} (hs : Kept fx s) : Completes fx (execHandleIdleTimeout handle s) := by
  unfold execHandleIdleTimeout
  split
  · exact completes_ans hs
  · split
    · exact completes_ans hs
    · exact completes_ite (completes_ans hs) (completes_ans (kept_loseHandle hs))

theorem completes_execExchangeAnswer {status : Nat} {data : List Byte} (hs : Kept fx s) : Completes fx (execExchangeAnswer
    status data s) := by
  unfold execExchangeAnswer
  split
  · exact completes_ans hs
  · extract_lets f d s1 s2 head s3
    have hs1 : Kept fx s1 := kept_modNfc hs (fun _ hm => hm)
    have hs2 : Kept fx s2 := by
      dsimp only [s2]
      split
      · exact kept_modNfc hs1 (fun _ hm => hm)
      · exact hs1
    have hs3 : Kept fx s3 := kept_cardRec hs2
    exact completes_ans (kept_ite hs3 (kept_cardRec hs3))

theorem completes_execLpPing {re im : Rat} (hs : Kept fx s) : Completes fx (execLpPing re im s) := by
  unfold execLpPing
  exact completes_ite (completes_ans hs) (completes_ans (kept_modNfc hs (fun _ hm => hm)))

theorem kept_detectStamp (hs : Kept fx s) : Kept fx (detectStamp s) := by
  unfold detectStamp
  split
  · exact kept_ite hs (kept_modNfc hs (fun _ hm => hm))
  · exact hs

theorem kept_detectStep6 (hs : Kept fx s) : Kept fx (detectStep6 s) := by
  unfold detectStep6
  split
  · exact hs
  · extract_lets s1
    have hs1 : Kept fx s1 := kept_ev (kept_modNfc hs (fun _ hm => hm))
    exact kept_ite (kept_startPoll hs1) hs1

theorem completes_execLpCalibration {re im : Rat} (hs : Kept fx s) : Completes fx (execLpCalibration re im s) := by
  unfold execLpCalibration
  exact completes_ite (completes_ans hs) (completes_ite (completes_ans (kept_modNfc hs (fun _ hm => hm))) (completes_ans
    (kept_ev (kept_modNfc hs (fun _ hm => hm)))))

theorem kept_copyShadow {w : TagWrite} (hs : Kept fx s) : Kept fx (copyShadow w s) :=
  kept_modNfc hs fun _ hm => memWf_memWrite _ _ hm

theorem kept_nfcFlush (hs : Kept fx s) : Kept fx (nfcFlush s) := by
  unfold nfcFlush
  exact kept_ite (kept_foldl (kept_modNfc hs (fun _ hm => hm)) (fun _ _ ht => kept_ite (kept_ev ht) (kept_ev ht))) hs

theorem kept_rollWord {code : Nat} {w : Option TagWrite} (hs : Kept fx s) : Kept fx (rollWord code w s) := by
  unfold rollWord
  split
  · exact kept_ite hs (kept_ite (kept_modNfc (kept_copyShadow hs) (fun _ hm => hm)) (kept_modNfc hs (fun _ hm => hm)))
  · exact hs

theorem kept_tagRoll {keepHost : Bool} (hs : Kept fx s) : Kept fx (tagRoll keepHost s) := by
  unfold tagRoll
  extract_lets host seqOf field s1
  have hs1 : Kept fx s1 := kept_modNfc hs (fun _ hm => hm)
  exact kept_nfcFlush (kept_ite (kept_rollWord (kept_rollWord hs1)) (kept_rollWord (kept_rollWord hs1)))

theorem completes_execTagStart (hs : Kept fx s) : Completes fx (execTagStart s) := by
  unfold execTagStart
  exact completes_ans (kept_tagRoll hs)

theorem kept_beginPhone {off : Nat} {data : List Byte} (hs : Kept fx s) : Kept fx (beginPhone off data s) := by
  unfold beginPhone
  exact kept_modNfc hs (fun _ hm => hm)

theorem completes_execNfcTagDone (hs : Kept fx s) : Completes fx (execNfcTagDone s) := by
  unfold execNfcTagDone
  split
  · exact completes_ans hs
  · refine completes_ite (completes_ans hs) ?_
    dsimp only
    split
    · exact completes_ans (kept_beginPhone (kept_ev (kept_modNfc (kept_copyShadow hs) (fun _ hm => hm))))
    · exact completes_ans (kept_ev (kept_modNfc (kept_copyShadow hs) (fun _ hm => hm)))

theorem completes_execPhoneUpdateBinary (hs : Kept fx s) : Completes fx (execPhoneUpdateBinary s) := by
  unfold execPhoneUpdateBinary
  split
  · exact completes_ans hs
  · refine completes_ite (completes_ans hs) ?_
    extract_lets n s1 k s2
    have hs1 : Kept fx s1 := kept_modNfc (kept_copyShadow hs) (fun _ hm => hm)
    have hs2 : Kept fx s2 := kept_emit (kept_draw hs1)
    exact completes_ite (completes_ans (kept_modNfc hs2 (fun _ hm => hm))) (completes_ans (kept_cardRec hs2))

theorem kept_tagApdu {a : List Byte} (hs : Kept fx s) : Kept fx (tagApdu a s).2 := by
  unfold tagApdu
  dsimp only
  split
  · split
    · split
      · dsimp only
        exact kept_modNfc hs (fun _ hm => hm)
      · exact hs
    · split
      · dsimp only
        exact kept_modNfc hs (fun _ hm => hm)
      · exact hs
  · split
    · exact hs
    · split
      · exact hs
      · exact hs
  · split
    · exact hs
    · split
      · dsimp only
        exact kept_modNfc hs (fun _ hm => hm)
      · dsimp only
        exact kept_beginPhone hs
  · exact hs

theorem kept_tagSelect {level nvb : Nat} {known : List Byte} (hs : Kept fx s) : Kept fx (tagSelect level nvb known s).2 := by
  unfold tagSelect
  dsimp only
  split
  · split
    · split
      · dsimp only
        exact kept_modNfc hs (fun _ hm => hm)
      · exact hs
    · split
      · dsimp only
        exact kept_modNfc hs (fun _ hm => hm)
      · exact hs
  · split
    · exact hs
    · exact hs

theorem completes_execTagFrameReceived {frame : List Byte} (hs : Kept fx s) : Completes fx (execTagFrameReceived frame s) := by
  unfold execTagFrameReceived
  refine completes_ite (completes_ans hs) ?_
  dsimp only
  split
  · exact completes_ite (completes_ans (kept_emit (kept_modNfc (kept_tagRoll hs) (fun _ hm => hm)))) (completes_ans
      (kept_modNfc hs (fun _ hm => hm)))
  · exact completes_ite (completes_ans (kept_emit (kept_modNfc (kept_tagRoll hs) (fun _ hm => hm)))) (completes_ans
      (kept_modNfc hs (fun _ hm => hm)))
  · refine completes_ite ?_ ?_
    · split
      · exact completes_ans (kept_emit (kept_tagSelect hs))
      · exact completes_ans (kept_modNfc (kept_tagSelect hs) (fun _ hm => hm))
    · refine completes_ite (completes_ans hs) ?_
      refine completes_ite (completes_ans (kept_modNfc hs (fun _ hm => hm))) ?_
      refine completes_ite (completes_ans (kept_emit (kept_modNfc (kept_modNfc (kept_draw hs) (fun _ hm => hm)) (fun _ hm =>
        hm)))) ?_
      refine completes_ite (completes_ans (kept_emit (kept_modNfc (kept_draw hs) (fun _ hm => hm)))) ?_
      refine completes_ite ?_ (completes_ans hs)
      split
      · exact completes_ans (kept_emit (kept_tagApdu (kept_modNfc (kept_draw hs) (fun _ hm => hm))))
      · exact completes_ans (kept_tagApdu (kept_modNfc (kept_draw hs) (fun _ hm => hm)))
  · exact completes_ans hs

theorem completes_execNfcField {on : Bool} (hs : Kept fx s) : Completes fx (execNfcField on s) := by
  unfold execNfcField
  refine completes_ite (completes_ans hs) ?_
  extract_lets s1 s2
  have hs1 : Kept fx s1 := kept_modNfc hs (fun _ hm => hm)
  have hs2 : Kept fx s2 := kept_ite (kept_modNfc hs1 (fun _ hm => hm)) hs1
  exact completes_ite (completes_ans hs2) (completes_ans (kept_ev hs2))

theorem completes_execFdRelease (hs : Kept fx s) : Completes fx (execFdRelease s) := by
  unfold execFdRelease
  exact completes_ite (completes_ans hs) (completes_ans (kept_modNfc hs (fun _ hm => hm)))

theorem kept_nfcStart (hs : Kept fx s) : Kept fx (nfcStart s) := by
  unfold nfcStart
  extract_lets s1
  have hs1 : Kept fx s1 := kept_nfcFlush (kept_modNfc hs (fun _ hm => hm))
  split
  · exact kept_cardRec (kept_modNfc hs1 (fun _ hm => hm))
  · exact hs1

theorem kept_nfcFence (hs : Kept fx s) : Kept fx (nfcFence s) := by
  unfold nfcFence
  exact kept_tagRoll (kept_modNfc (kept_readerOff hs) (fun _ hm => hm))

theorem kept_nfcReset (hs : Kept fx s) : Kept fx (nfcReset s) := by
  unfold nfcReset
  exact kept_modNfc hs (fun _ hm => hm)

theorem completes_execNfcStatus {h : Hdr} (hs : Kept fx s) : Completes fx (execNfcStatus h s) := by
  unfold execNfcStatus
  exact completes_ans (kept_hostCmd (fun _ => keeps_done) hs)

theorem keeps_rdPollRules {s : State} : (rdPollRules s).Keeps := by
  unfold rdPollRules
  exact keeps_ite (keeps_no _) (keeps_ite (keeps_no _) (keeps_ite (keeps_no _) (keeps_accept_id _ _)))

theorem completes_execNfcRdPoll {h : Hdr} (hs : Kept fx s) : Completes fx (execNfcRdPoll h s) := by
  unfold execNfcRdPoll
  exact completes_ans (kept_hostCmd (fun _ => keeps_rdPollRules) hs)

theorem kept_applyRdPoll (hs : Kept fx s) : Kept fx (applyRdPoll s) := by
  unfold applyRdPoll
  exact kept_ite (kept_startPoll hs) hs

theorem keeps_rdXchgRules {handle len : Nat} {data : List Byte} {s : State} : (rdXchgRules handle len data s).Keeps := by
  unfold rdXchgRules
  refine keeps_ite (keeps_no _) ?_
  refine keeps_ite (keeps_no _) ?_
  split
  · exact keeps_no _
  · exact keeps_ite (keeps_no _) (keeps_ite (keeps_no _) (fun _ _ ht => kept_modNfc ht (fun _ hm => hm)))

theorem completes_execNfcRdXchg {h : Hdr} {handle len : Nat} {data : List Byte} (hs : Kept fx s) : Completes fx (execNfcRdXchg
    h handle len data s) := by
  unfold execNfcRdXchg
  exact completes_ans (kept_hostCmd (fun _ => keeps_rdXchgRules) hs)

theorem kept_applyRdXchg (hs : Kept fx s) : Kept fx (applyRdXchg s) := by
  unfold applyRdXchg
  split
  · exact kept_emit hs
  · exact hs

theorem completes_execNfcRdRelease {h : Hdr} {handle : Nat} (hs : Kept fx s) : Completes fx (execNfcRdRelease h handle s) := by
  unfold execNfcRdRelease
  exact completes_ans (kept_hostCmd (fun _ => keeps_ite (keeps_no _) (keeps_ite keeps_done (keeps_no _))) hs)

theorem kept_applyRdRelease {handle : Nat} (hs : Kept fx s) : Kept fx (applyRdRelease handle s) := by
  unfold applyRdRelease
  split
  · exact kept_loseHandle hs
  · exact hs

theorem completes_execNfcTagRead {h : Hdr} {file offset len : Nat} (hs : Kept fx s) : Completes fx (execNfcTagRead h file
    offset len s) := by
  unfold execNfcTagRead
  refine completes_ans ?_
  refine kept_hostCmd ?_ hs
  intro _
  split
  · exact keeps_no _
  · exact keeps_done

theorem keeps_tagWriteRules {file off len : Nat} {data : List Byte} {s : State} : (tagWriteRules file off len data s).Keeps :=
    by
  unfold tagWriteRules
  refine keeps_ite (keeps_no _) ?_
  split
  · exact keeps_no _
  · exact keeps_ite (keeps_no _) (keeps_ite (keeps_no _) (fun _ _ ht => kept_modNfc ht (fun _ hm => hm)))

theorem completes_execNfcTagWrite {h : Hdr} {file offset len : Nat} {data : List Byte} (hs : Kept fx s) : Completes fx
    (execNfcTagWrite h file offset len data s) := by
  unfold execNfcTagWrite
  exact completes_ans (kept_hostCmd (fun _ => keeps_tagWriteRules) hs)

theorem kept_applyTagWrite (hs : Kept fx s) : Kept fx (applyTagWrite s) := by
  unfold applyTagWrite
  exact kept_modNfc hs (fun _ hm => hm)

theorem completes_execNfcInfo {h : Hdr} (hs : Kept fx s) : Completes fx (execNfcInfo h s) := by
  unfold execNfcInfo
  exact completes_ans (kept_hostCmd (fun _ => keeps_done) hs)

theorem completes_execNfcSigLoadX {h : Hdr} {slot : Nat} {profile : List Byte} (hs : Kept fx s) : Completes fx (execNfcSigLoadX
    h slot profile s) := by
  unfold execNfcSigLoadX
  exact completes_ans (kept_hostCmd (fun _ => keeps_ite (keeps_no _) (keeps_ite keeps_done (keeps_no _))) hs)

theorem kept_applySigLoad {slot : Nat} {profile : List Byte} (hs : Kept fx s) : Kept fx (applySigLoad slot profile s) := by
  unfold applySigLoad
  exact kept_dite (fun _ => kept_modNfc hs (fun _ hm => hm)) (fun _ => hs)

theorem completes_execNfcLpCalX {h : Hdr} (hs : Kept fx s) : Completes fx (execNfcLpCalX h s) := by
  unfold execNfcLpCalX
  exact completes_ans (kept_hostCmd (fun _ => keeps_ite (keeps_no _) (keeps_ite keeps_done (keeps_no _))) hs)

theorem kept_applyLpCal (hs : Kept fx s) : Kept fx (applyLpCal s) := by
  unfold applyLpCal
  exact kept_modNfc hs (fun _ hm => hm)

end Sys2Proof.Machine
end

section
/-! SUPPORT. The invariant kept by the legal display (chapter 15): one lemma for each operation, in the order of the model. -/

namespace Sys2Proof.Machine

open Host (Cell Outcome)

variable {fx : Fixed} {s : State}

theorem completes_execLegalComposition (hs : Kept fx s) : Completes fx (execLegalComposition s) := by
  unfold execLegalComposition
  exact completes_ite (completes_ans hs) (completes_ans (kept_modDsp hs (fun _ => ⟨rfl, rfl, rfl⟩)))

theorem completes_execCheckScreenEnd (hs : Kept fx s) : Completes fx (execCheckScreenEnd s) := by
  unfold execCheckScreenEnd
  exact completes_ite (completes_ans (kept_modDsp hs (fun _ => ⟨rfl, rfl, rfl⟩))) (completes_ans hs)

theorem kept_dspFlip {l : List (Bool × Nat × Byte)} (hs : Kept fx s) : Kept fx (dspFlip l s) := by
  unfold dspFlip
  refine kept_ite hs (kept_modDsp (kept_foldl hs fun s x hs => kept_ite (kept_ite ?_ hs) (kept_ite ?_ hs)) fun _ => ⟨rfl, rfl, rfl⟩)
  · exact kept_modDsp_of_wf hs fun _ ⟨hm, ho, hmap⟩ => ⟨hm, memWf_memPut _ _ ho, hmap⟩
  · exact kept_modDsp_of_wf hs fun _ ⟨hm, ho, hmap⟩ => ⟨memWf_memPut _ _ hm, ho, hmap⟩

theorem kept_dspBlank (hs : Kept fx s) : Kept fx (dspBlank s) := by
  unfold dspBlank
  exact kept_modDsp hs (fun _ => ⟨rfl, rfl, rfl⟩)

theorem kept_dspCheck (hs : Kept fx s) : Kept fx (dspCheck s) := by
  unfold dspCheck
  refine kept_ite hs ?_
  extract_lets bad f miss s1 s2
  have hs1 : Kept fx s1 := kept_ev (kept_dspBlank (kept_modDsp hs (fun _ => ⟨rfl, rfl, rfl⟩)))
  have hs2 : Kept fx s2 := kept_ite (kept_ite (kept_modDsp hs (fun _ => ⟨rfl, rfl, rfl⟩)) hs) (kept_ite hs (kept_ite
    (kept_noteFault hs1) hs1))
  exact kept_ite (kept_ite hs2 (kept_dspBlank hs2)) hs2

theorem kept_dspEffect (hs : Kept fx s) : Kept fx (dspEffect s) := by
  unfold dspEffect
  split
  · exact hs
  · have hshown {f : DspSt → DspSt} (hf : ∀ d, PictureWf d → PictureWf (f d)) : Kept fx (modDsp f s) := kept_modDsp_of_wf hs hf
    refine kept_ite (kept_ev (hshown ?_)) (hshown ?_) <;>
      exact fun _ ⟨hm, ho, hmap⟩ => ⟨memWf_memWrite _ _ hm, memWf_memWrite _ _ ho, hmap⟩

theorem kept_dspMap (hs : Kept fx s) : Kept fx (dspMap s) := by
  unfold dspMap
  split
  · refine kept_ite (kept_ev (kept_modDsp_of_wf hs fun _ ⟨hm, ho, _⟩ => ⟨hm, ho, ?_⟩)) hs
    exact memWf_memWrite _ _ memWf_nil
  · exact hs

theorem kept_dspStamp {v : Option Nat} (hs : Kept fx s) : Kept fx (dspStamp v s) := by
  unfold dspStamp
  extract_lets s1 d t s2 d1 out counts
  have hs1 : Kept fx s1 := by
    dsimp only [s1]
    split
    · exact kept_modDsp hs (fun _ => ⟨rfl, rfl, rfl⟩)
    · exact hs
  have hs2 : Kept fx s2 := kept_ite (kept_modDsp hs1 (fun _ => ⟨rfl, rfl, rfl⟩)) hs1
  exact kept_modDsp hs2 (fun _ => ⟨rfl, rfl, rfl⟩)

theorem kept_dspTick (hs : Kept fx s) : Kept fx (dspTick s) := by
  unfold dspTick
  exact kept_dspMap (kept_dspEffect (kept_dspCheck hs))

theorem kept_dspStep6 (hs : Kept fx s) : Kept fx (dspStep6 s) := by
  unfold dspStep6
  exact kept_ite hs (kept_ev (kept_modDsp hs (fun _ => ⟨rfl, rfl, rfl⟩)))

theorem completes_execDspCrcOk (hs : Kept fx s) : Completes fx (execDspCrcOk s) := by
  unfold execDspCrcOk
  exact completes_ite (completes_ans (kept_ev (kept_modDsp hs (fun _ => ⟨rfl, rfl, rfl⟩)))) (completes_ans hs)

theorem completes_execDspBiasFault (hs : Kept fx s) : Completes fx (execDspBiasFault s) := by
  unfold execDspBiasFault
  exact completes_ite (completes_ans (kept_ev (kept_modDsp hs (fun _ => ⟨rfl, rfl, rfl⟩)))) (completes_ans hs)

theorem completes_execMapChunkTimeout (hs : Kept fx s) : Completes fx (execMapChunkTimeout s) := by
  unfold execMapChunkTimeout
  exact completes_ite (completes_ans hs) (completes_ans (kept_modDsp hs (fun _ => ⟨rfl, rfl, rfl⟩)))

theorem kept_dspReset (hs : Kept fx s) : Kept fx (dspReset s) :=
  kept_modDsp_of_wf hs fun _ ⟨_, _, hmap⟩ => ⟨rfl, rfl, hmap⟩

theorem completes_execDspStatus {h : Hdr} (hs : Kept fx s) : Completes fx (execDspStatus h s) := by
  unfold execDspStatus
  exact completes_ans (kept_hostCmd (fun _ => keeps_done) hs)

theorem keeps_dspWriteRules {row count : Nat} {s : State} : (dspWriteRules row count s).Keeps := by
  unfold dspWriteRules
  exact keeps_ite (keeps_no _) (keeps_ite (keeps_no _) (keeps_ite (keeps_no _) (keeps_ite (keeps_no _) keeps_done)))

theorem completes_execDspWrite {h : Hdr} {row count : Nat} {data : List Byte} (hs : Kept fx s) : Completes fx (execDspWrite h
    row count data s) := by
  unfold execDspWrite
  exact completes_ans (kept_hostCmd (fun _ => keeps_dspWriteRules) hs)

theorem kept_applyDspWrite {row : Nat} {data : List Byte} (hs : Kept fx s) : Kept fx (applyDspWrite row data s) :=
  kept_modDsp_of_wf hs fun _ ⟨hm, ho, hmap⟩ => ⟨memWf_memWrite _ _ hm, ho, hmap⟩

theorem completes_execDspRead {h : Hdr} {row count : Nat} (hs : Kept fx s) : Completes fx (execDspRead h row count s) := by
  unfold execDspRead
  exact completes_ans (kept_hostCmd (fun _ => keeps_ite (keeps_no _) (keeps_ite (keeps_no _) keeps_done)) hs)

theorem completes_execDspShowCheck {h : Hdr} (hs : Kept fx s) : Completes fx (execDspShowCheck h s) := by
  unfold execDspShowCheck
  exact completes_ans (kept_hostCmd (fun _ => keeps_ite (keeps_no _) (fun _ _ hu => kept_modDsp hu (fun _ => ⟨rfl, rfl, rfl⟩)))
    hs)

theorem keeps_mapLoadRules {chunk : Nat} {data : List Byte} {s : State} : (mapLoadRules chunk data s).Keeps := by
  unfold mapLoadRules
  exact keeps_ite (keeps_no _) (keeps_ite (keeps_no _) (keeps_ite (fun _ _ ht => kept_modDsp ht (fun _ => ⟨rfl, rfl, rfl⟩))
    (fun _ _ ht => kept_modDsp ht (fun _ => ⟨rfl, rfl, rfl⟩))))

theorem completes_execDspMapLoadX {h : Hdr} {chunk : Nat} {data : List Byte} (hs : Kept fx s) : Completes fx (execDspMapLoadX h
    chunk data s) := by
  unfold execDspMapLoadX
  exact completes_ans (kept_hostCmd (fun _ => keeps_mapLoadRules) hs)

theorem kept_applyMapLoad (hs : Kept fx s) : Kept fx (applyMapLoad s) := by
  unfold applyMapLoad
  split
  · exact kept_modDsp hs (fun _ => ⟨rfl, rfl, rfl⟩)
  · exact hs

end Sys2Proof.Machine
end

section
/-! SUPPORT. The invariant kept by the site link (chapter 13): one lemma for each operation, in the order of the model. -/

namespace Sys2Proof.Machine

open Host (Cell Outcome)

variable {fx : Fixed} {s : State}

theorem kept_modSlk {f : SlkSt → SlkSt} (hs : Kept fx s) : Kept fx (modSlk f s) := by
  unfold modSlk
  exact kept_other hs

theorem kept_wake {cause : Nat} (hs : Kept fx s) : Kept fx (wake cause s) := by
  unfold wake
  exact kept_sys hs ⟨rfl, rfl, rfl, rfl⟩

theorem kept_setNode {n : SiteNode} (hs : Kept fx s) : Kept fx (setNode n s) := by
  unfold setNode
  exact kept_modSlk hs

theorem kept_slkTo {a : AlignState} (hs : Kept fx s) : Kept fx (slkTo a s) := by
  unfold slkTo
  exact kept_ite hs (kept_ev (kept_modSlk hs))

theorem kept_plcSend {via dest type : Nat} {body : List Byte} (hs : Kept fx s) : Kept fx (plcSend via dest type body s) := by
  unfold plcSend
  exact kept_ite hs (kept_emit (kept_modSlk hs))

theorem kept_plcCast {type : Nat} {body : List Byte} (hs : Kept fx s) : Kept fx (plcCast type body s) := by
  unfold plcCast
  exact kept_plcSend hs

theorem kept_plcUnicast {dest type : Nat} {body : List Byte} {msg : Option Nat} (hs : Kept fx s) : Kept fx (plcUnicast dest
    type body msg s) := by
  unfold plcUnicast
  exact kept_ite hs (kept_plcSend (kept_modSlk (kept_draw hs)))

theorem kept_soundNode {a : Nat} (hs : Kept fx s) : Kept fx (soundNode a s) := by
  unfold soundNode
  split
  · exact hs
  · exact kept_plcSend (kept_setNode hs)

theorem completes_execPlcRetransmit {dest : Nat} (hs : Kept fx s) : Completes fx (execPlcRetransmit dest s) := by
  unfold execPlcRetransmit
  split
  · exact completes_ans hs
  · refine completes_ite ?_ ?_
    · refine completes_ans ?_
      refine kept_plcSend ?_
      refine kept_modSlk ?_
      refine kept_draw ?_
      split
      · exact kept_ite (kept_soundNode hs) (kept_setNode hs)
      · exact hs
    · extract_lets s1
      have hs1 : Kept fx s1 := by
        refine kept_modSlk ?_
        split
        · exact kept_ite (kept_soundNode hs) (kept_setNode hs)
        · exact hs
      refine completes_ans ?_
      split
      · exact kept_ev hs1
      · exact hs1

theorem completes_execToneMapRefresh {addr : Nat} (hs : Kept fx s) : Completes fx (execToneMapRefresh addr s) := by
  unfold execToneMapRefresh
  split
  · exact completes_ans hs
  · exact completes_ite (completes_ans (kept_soundNode hs)) (completes_ans hs)

theorem completes_execHelloSend (hs : Kept fx s) : Completes fx (execHelloSend s) := by
  unfold execHelloSend
  exact completes_ite (completes_ans hs) (completes_ans (kept_plcCast (kept_modSlk hs)))

theorem kept_setDist {d : SchedDist} (hs : Kept fx s) : Kept fx (setDist d s) := by
  unfold setDist
  exact kept_modSlk hs

theorem kept_distTo {d : SchedDist} {st : Nat} (hs : Kept fx s) : Kept fx (distTo d st s) := by
  unfold distTo
  exact kept_evp (kept_setDist hs)

theorem kept_distReady (hs : Kept fx s) : Kept fx (distReady s) := by
  unfold distReady
  exact kept_foldl hs (fun _ _ ht => kept_ite (kept_distTo ht) ht)

theorem kept_distAck {src num : Nat} {ok : Bool} (hs : Kept fx s) : Kept fx (distAck src num ok s) := by
  unfold distAck
  split
  · exact kept_ite (kept_ite (kept_distTo hs) (kept_setDist hs)) hs
  · exact hs

theorem kept_distReport {src num outcome : Nat} (hs : Kept fx s) : Kept fx (distReport src num outcome s) := by
  unfold distReport
  split
  · exact kept_ite hs (kept_setDist hs)
  · exact hs

theorem kept_distReboot {src : Nat} (hs : Kept fx s) : Kept fx (distReboot src s) := by
  unfold distReboot
  exact kept_foldl hs (fun _ _ ht => kept_ite (kept_ite (kept_distTo ht) (kept_setDist ht)) ht)

theorem kept_noteNode {num src : Nat} {f : NodeBook → NodeBook} (hs : Kept fx s) : Kept fx (noteNode num src f s) := by
  unfold noteNode
  exact kept_other hs

theorem kept_siteVote {src num : Nat} {yes : Bool} (hs : Kept fx s) : Kept fx (siteVote src num yes s) := by
  unfold siteVote
  split
  · exact kept_ite (kept_noteNode hs) hs
  · exact hs

theorem kept_notePlc {src c : Nat} (hs : Kept fx s) : Kept fx (notePlc src c s) := by
  unfold notePlc
  exact kept_modSlk hs

theorem kept_plcReject (hs : Kept fx s) : Kept fx (plcReject s) := by
  unfold plcReject
  extract_lets f n s1
  have hs1 : Kept fx s1 := kept_modSlk hs
  exact kept_ite (kept_ev (kept_modSlk hs1)) hs1

theorem kept_hearHello {src : Nat} {b : List Byte} (hs : Kept fx s) : Kept fx (hearHello src b s) := by
  unfold hearHello
  refine kept_distReady ?_
  split
  · exact kept_ev (kept_setNode hs)
  · exact kept_ite (kept_ite (kept_setNode hs) (kept_distReboot (kept_setNode hs))) (kept_ev (kept_ite (kept_setNode hs)
      (kept_distReboot (kept_setNode hs))))

theorem kept_hearAck {src : Nat} (hs : Kept fx s) : Kept fx (hearAck src s) := by
  unfold hearAck
  extract_lets s1
  have hs1 : Kept fx s1 := by
    dsimp only [s1]
    split
    · exact kept_setNode hs
    · exact hs
  split
  · extract_lets s2
    have hs2 : Kept fx s2 := kept_modSlk hs1
    split
    · exact kept_plcUnicast hs2
    · exact hs2
  · split
    · extract_lets s2
      have hs2 : Kept fx s2 := kept_modSlk hs1
      split
      · exact kept_ev hs2
      · exact hs2
    · exact hs1

theorem kept_missingAnswer {src num : Nat} (hs : Kept fx s) : Kept fx (missingAnswer src num s) := by
  unfold missingAnswer
  exact kept_ite (kept_plcUnicast hs) hs

theorem kept_missingHeard {src num : Nat} {offs : List Nat} (hs : Kept fx s) : Kept fx (missingHeard src num offs s) := by
  unfold missingHeard
  split
  · exact kept_ite hs (kept_other hs)
  · exact hs

theorem kept_plcHandle {f : PlcFrame} (hs : Kept fx s) : Kept fx (plcHandle f s) := by
  unfold plcHandle
  refine kept_ite (kept_hearHello hs) ?_
  refine kept_ite (kept_hearAck hs) ?_
  refine kept_ite (kept_plcSend (kept_draw hs)) ?_
  refine kept_ite ?_ ?_
  · split
    · exact kept_setNode hs
    · exact hs
  · refine kept_ite (kept_ite (kept_pushData (kept_draw (kept_ite hs (kept_plcSend hs)))) (kept_ite hs (kept_plcSend hs))) ?_
    refine kept_ite (kept_ev hs) ?_
    refine kept_ite (kept_ite (kept_wake (kept_ite hs (kept_plcSend hs))) (kept_ite hs (kept_plcSend hs))) ?_
    refine kept_ite (kept_distAck (kept_ite hs (kept_plcSend hs))) ?_
    refine kept_ite (kept_modSlk (kept_ite hs (kept_plcSend hs))) ?_
    refine kept_ite (kept_distReport (kept_ite hs (kept_plcSend hs))) ?_
    refine kept_ite (kept_siteVote (kept_ite hs (kept_plcSend hs))) ?_
    refine kept_ite ?_ (kept_ite (kept_noteNode (kept_ite hs (kept_plcSend hs))) hs)
    extract_lets s1
    have hs1 : Kept fx s1 := kept_ite hs (kept_plcSend hs)
    exact kept_ite (kept_missingAnswer hs1) (kept_missingHeard hs1)

theorem completes_execPlcFrameReceived {f : PlcFrame} (hs : Kept fx s) : Completes fx (execPlcFrameReceived f s) := by
  unfold execPlcFrameReceived
  exact completes_ite (completes_ans hs) (completes_ite (completes_ans (kept_modSlk hs)) (completes_ite (completes_ite
    (completes_ans hs) (completes_ans (kept_ite (kept_ev (kept_modSlk hs)) (kept_modSlk hs)))) (completes_ite (completes_ans
    (kept_plcReject hs)) (completes_ite (completes_ans (kept_plcHandle (kept_ite (kept_ite (kept_notePlc hs) (kept_ite
    (kept_ite (kept_plcCast (kept_notePlc hs)) (kept_notePlc hs)) (kept_plcUnicast (kept_plcSend (kept_notePlc hs)))))
    (kept_notePlc hs)))) (completes_ite (completes_ans (kept_ite (kept_notePlc hs) (kept_ite (kept_ite (kept_plcCast
    (kept_notePlc hs)) (kept_notePlc hs)) (kept_plcUnicast (kept_plcSend (kept_notePlc hs)))))) (completes_ans (kept_notePlc
    hs)))))))

theorem completes_execAddrConflictEnd (hs : Kept fx s) : Completes fx (execAddrConflictEnd s) := by
  unfold execAddrConflictEnd
  exact completes_ite (completes_ans (kept_modSlk hs)) (completes_ans hs)

theorem completes_execSlkNode {addr : Nat} (hs : Kept fx s) : Completes fx (execSlkNode addr s) := by
  unfold execSlkNode
  split
  · refine completes_ite ?_ (completes_ans hs)
    refine completes_ans ?_
    refine kept_distReady ?_
    refine kept_foldl (kept_ev (kept_modSlk hs)) ?_
    intro _ _ ht
    split
    · exact kept_ev ht
    · exact ht
  · exact completes_ans hs

theorem kept_setRoot {r hop : Nat} (hs : Kept fx s) : Kept fx (setRoot r hop s) := by
  unfold setRoot
  exact kept_ite (kept_modSlk hs) (kept_ev (kept_modSlk hs))

theorem kept_setOffset {o : Int} {report : Bool} (hs : Kept fx s) : Kept fx (setOffset o report s) := by
  unfold setOffset
  dsimp only
  split
  · exact kept_ite (kept_ev (kept_modSlk hs)) (kept_modSlk hs)
  · exact kept_modSlk hs

theorem kept_setProfile {n : Nat} (hs : Kept fx s) : Kept fx (setProfile n s) := by
  unfold setProfile
  refine kept_ite hs ?_
  extract_lets s1
  have hs1 : Kept fx s1 := kept_modSlk hs
  exact kept_ite hs1 (kept_ev hs1)

theorem kept_acceptBeacon {b : Beacon} (hs : Kept fx s) : Kept fx (acceptBeacon b s) := by
  unfold acceptBeacon
  exact kept_modSlk (kept_draw hs)

theorem kept_beaconProfile {b : Beacon} (hs : Kept fx s) : Kept fx (beaconProfile b s) := by
  unfold beaconProfile
  exact kept_setProfile (kept_modSlk hs)

theorem kept_takeRoot {b : Beacon} (hs : Kept fx s) : Kept fx (takeRoot b s) := by
  unfold takeRoot
  exact kept_slkTo (kept_beaconProfile (kept_acceptBeacon (kept_setOffset (kept_setRoot hs))))

theorem completes_execBeaconReceived {b : Beacon} (hs : Kept fx s) : Completes fx (execBeaconReceived b s) := by
  unfold execBeaconReceived
  refine completes_ite (completes_ans hs) ?_
  extract_lets f s1 o s2 s3
  have hs1 : Kept fx s1 := kept_modSlk hs
  have hs2 : Kept fx s2 := kept_ite (kept_setOffset hs1) hs1
  have hs3 : Kept fx s3 := kept_beaconProfile (kept_acceptBeacon (kept_setRoot hs2))
  split
  · exact completes_ans hs1
  · exact completes_ite (completes_ans hs1) (completes_ans (kept_slkTo (kept_beaconProfile (kept_acceptBeacon (kept_setOffset
      (kept_setRoot hs1))))))
  · exact completes_ite (completes_ans (kept_takeRoot hs1)) (completes_ans hs1)
  · exact completes_ite (completes_ite (completes_ans (kept_takeRoot hs1)) (completes_ans hs1)) (completes_ite (completes_ans
      hs1) (completes_ite (completes_ans hs1) (completes_ans (kept_ite (kept_slkTo hs3) hs3))))

theorem completes_execHoldoverStart (hs : Kept fx s) : Completes fx (execHoldoverStart s) := by
  unfold execHoldoverStart
  exact completes_ite (completes_ans (kept_slkTo hs)) (completes_ans hs)

theorem kept_slkLost {a : AlignState} (hs : Kept fx s) : Kept fx (slkLost a s) := by
  unfold slkLost
  exact kept_slkTo (kept_modSlk hs)

theorem completes_execHoldoverExpiry (hs : Kept fx s) : Completes fx (execHoldoverExpiry s) := by
  unfold execHoldoverExpiry
  exact completes_ite (completes_ans (kept_slkLost hs)) (completes_ans hs)

theorem kept_becomeRoot (hs : Kept fx s) : Kept fx (becomeRoot s) := by
  unfold becomeRoot
  exact kept_setProfile (kept_slkTo (kept_setRoot (kept_modSlk hs)))

theorem completes_execRootElection (hs : Kept fx s) : Completes fx (execRootElection s) := by
  unfold execRootElection
  exact completes_ite (completes_ans (kept_becomeRoot (kept_setOffset hs))) (completes_ans hs)

theorem completes_execRootTakeover (hs : Kept fx s) : Completes fx (execRootTakeover s) := by
  unfold execRootTakeover
  exact completes_ite (completes_ans (kept_becomeRoot hs)) (completes_ans hs)

theorem completes_execBeaconSend (hs : Kept fx s) : Completes fx (execBeaconSend s) := by
  unfold execBeaconSend
  split
  · exact completes_ans hs
  · exact completes_ite (completes_ans hs) (completes_ans (kept_emit (kept_ite (kept_setProfile (kept_modSlk hs)) (kept_ite
      (kept_modSlk hs) (kept_ite hs (kept_modSlk hs))))))

theorem completes_execBeaconRelay {hop : Nat} (hs : Kept fx s) : Completes fx (execBeaconRelay hop s) := by
  unfold execBeaconRelay
  split
  · exact completes_ite (completes_ans (kept_emit hs)) (completes_ans hs)
  · exact completes_ans hs

theorem completes_execSlkProfile (hs : Kept fx s) : Completes fx (execSlkProfile s) := by
  unfold execSlkProfile
  split
  · exact completes_ite (completes_ans (kept_setProfile (kept_modSlk hs))) (completes_ans hs)
  · exact completes_ans hs

theorem kept_slkTrim (hs : Kept fx s) : Kept fx (slkTrim s) := by
  unfold slkTrim
  extract_lets on k byRate byPhase t x s1
  have hs1 : Kept fx s1 := kept_sys hs ⟨rfl, rfl, rfl, rfl⟩
  exact kept_ite (kept_modSlk hs1) hs1

theorem keeps_schedRules {type siteC group : Nat} {body : List Byte} {s : State} : (schedRules type siteC group body s).Keeps
    := by
  unfold schedRules
  exact keeps_ite (keeps_no _) (keeps_ite (keeps_no _) (keeps_ite (keeps_no _) (keeps_ite (keeps_no _) (keeps_ite (keeps_no _)
    (keeps_ite (keeps_no _) (keeps_ite (keeps_no _) (keeps_accept_id _ _)))))))

theorem completes_execSlkSched {h : Hdr} {type siteC group : Nat} {body : List Byte} (hs : Kept fx s) : Completes fx
    (execSlkSched h type siteC group body s) := by
  unfold execSlkSched
  exact completes_ans (kept_hostCmd (fun _ => keeps_schedRules) hs)

theorem kept_setSchedule {mask f : Nat} (hs : Kept fx s) : Kept fx (setSchedule mask f s) := by
  unfold setSchedule
  exact kept_ev (kept_other hs)

theorem kept_memberHold {source num type siteC group : Nat} {body : List Byte} (hs : Kept fx s) : Kept fx (memberHold source
    num type siteC group body s).2 := by
  unfold memberHold
  split
  · exact hs
  · split
    · exact hs
    · split
      · exact hs
      · dsimp only
        exact kept_ite (kept_setSchedule (kept_modSlk hs)) (kept_modSlk hs)

theorem kept_applySched {type siteC group : Nat} {body : List Byte} (hs : Kept fx s) : Kept fx (applySched type siteC group
    body s).1 := by
  unfold applySched
  dsimp only
  split
  · exact kept_ite (kept_distTo (kept_ite (kept_setDist (kept_memberHold (kept_distTo (kept_modSlk hs)))) (kept_distTo
      (kept_modSlk hs)))) (kept_ite (kept_setDist (kept_memberHold (kept_distTo (kept_modSlk hs)))) (kept_distTo (kept_modSlk
      hs)))
  · exact kept_ite (kept_setDist (kept_memberHold (kept_distTo (kept_modSlk hs)))) (kept_distTo (kept_modSlk hs))

theorem completes_execSchedDistribute {num : Nat} (hs : Kept fx s) : Completes fx (execSchedDistribute num s) := by
  unfold execSchedDistribute
  split
  · exact completes_ite (completes_ans (kept_foldl (kept_setDist hs) (fun _ _ ht => kept_plcUnicast ht))) (completes_ite
      (completes_ans (kept_foldl (kept_setDist hs) (fun _ _ ht => kept_plcUnicast ht))) (completes_ans hs))
  · exact completes_ans hs

theorem completes_execSchedAckDeadline {num : Nat} (hs : Kept fx s) : Completes fx (execSchedAckDeadline num s) := by
  unfold execSchedAckDeadline
  split
  · exact completes_ite (completes_ans hs) (completes_ite (completes_ans (kept_distTo (kept_modSlk hs))) (completes_ite
      (completes_ans (kept_distTo hs)) (completes_ans hs)))
  · exact completes_ans hs

theorem kept_memberAnswer {source num : Nat} {ok : Bool} (hs : Kept fx s) : Kept fx (memberAnswer source num ok s) := by
  unfold memberAnswer
  exact kept_plcUnicast (kept_plcSend hs)

theorem kept_memberReport {source num outcome : Nat} (hs : Kept fx s) : Kept fx (memberReport source num outcome s) := by
  unfold memberReport
  exact kept_ite (kept_distReport hs) (kept_plcUnicast hs)

theorem completes_execSchedActionReceived {source num type siteC group : Nat} {body : List Byte} (hs : Kept fx s) : Completes
    fx (execSchedActionReceived source num type siteC group body s) := by
  unfold execSchedActionReceived
  exact completes_ite (completes_ans hs) (completes_ans (kept_ite (kept_memberAnswer (kept_memberHold hs)) (kept_memberReport
    (kept_memberAnswer (kept_memberHold hs)))))

theorem completes_execUpdateActReceived {source num siteC identity : Nat} (hs : Kept fx s) : Completes fx
    (execUpdateActReceived source num siteC identity s) := by
  unfold execUpdateActReceived
  exact completes_ite (completes_ans hs) (completes_ans (kept_ite (kept_memberAnswer (kept_memberHold hs)) (kept_memberReport
    (kept_memberAnswer (kept_memberHold hs)))))

theorem completes_execSchedCancelReceived {source num : Nat} (hs : Kept fx s) : Completes fx (execSchedCancelReceived source
    num s) := by
  unfold execSchedCancelReceived
  split
  · exact completes_ite (completes_ans (kept_plcUnicast (kept_plcSend (kept_ite (kept_ev (kept_other (kept_modSlk hs)))
      (kept_modSlk hs))))) (completes_ans hs)
  · exact completes_ans hs

theorem completes_execSchedActionApply {source num : Nat} (hs : Kept fx s) : Completes fx (execSchedActionApply source num s)
    := by
  unfold execSchedActionApply
  split
  · exact completes_ans hs
  · refine completes_ite (completes_ans hs) ?_
    refine completes_ite ?_ (completes_ite (completes_ite (completes_ans (kept_memberReport (kept_modSlk (kept_ite (kept_wake
      hs) hs)))) (completes_ans hs)) (completes_ite (completes_ans (kept_memberReport (kept_modSlk hs))) (completes_ans hs)))
    split
    · exact completes_ite (completes_ans (kept_memberReport (kept_modSlk hs))) (completes_ans hs)
    · exact completes_ite (completes_ans (kept_modSlk (kept_buildTxn hs))) (completes_ans hs)

theorem completes_execSchedOutcome {num : Nat} (hs : Kept fx s) : Completes fx (execSchedOutcome num s) := by
  unfold execSchedOutcome
  split
  · exact completes_ite (completes_ans (kept_distTo hs)) (completes_ans hs)
  · exact completes_ans hs

theorem keeps_schedCancelRules {num : Nat} {s : State} : (schedCancelRules num s).Keeps := by
  unfold schedCancelRules
  refine keeps_ite (keeps_no _) ?_
  split
  · exact keeps_ite keeps_done (keeps_no _)
  · exact keeps_no _

theorem completes_execSlkSchedCancel {h : Hdr} {num : Nat} (hs : Kept fx s) : Completes fx (execSlkSchedCancel h num s) := by
  unfold execSlkSchedCancel
  exact completes_ans (kept_hostCmd (fun _ => keeps_schedCancelRules) hs)

theorem kept_applySchedCancel {num : Nat} (hs : Kept fx s) : Kept fx (applySchedCancel num s) := by
  unfold applySchedCancel
  split
  · exact kept_distTo (kept_modSlk hs)
  · exact hs

theorem completes_execSlkSchedList {h : Hdr} (hs : Kept fx s) : Completes fx (execSlkSchedList h s) := by
  unfold execSlkSchedList
  exact completes_ans (kept_hostCmd (fun _ => keeps_ite (keeps_no _) keeps_done) hs)

theorem keeps_slkSendRules {dest : Nat} {s : State} : (slkSendRules dest s).Keeps := by
  unfold slkSendRules
  exact keeps_ite (keeps_no _) (keeps_ite (keeps_no _) (keeps_ite (keeps_no _) (keeps_ite (keeps_no _) (keeps_ite (keeps_no _)
    (keeps_accept_id _ _)))))

theorem completes_execSlkSend {h : Hdr} {dest flags : Nat} {data : List Byte} (hs : Kept fx s) : Completes fx (execSlkSend h
    dest flags data s) := by
  unfold execSlkSend
  exact completes_ans (kept_hostCmd (fun _ => keeps_slkSendRules) hs)

theorem kept_applySlkSend {dest flags : Nat} {data : List Byte} (hs : Kept fx s) : Kept fx (applySlkSend dest flags data s).1
    := by
  unfold applySlkSend
  dsimp only
  split
  · dsimp only
    exact kept_ev (kept_plcCast (kept_modSlk hs))
  · split
    · dsimp only
      exact kept_ev (kept_modSlk hs)
    · split
      · dsimp only
        exact kept_modSlk (kept_modSlk hs)
      · dsimp only
        exact kept_plcUnicast (kept_modSlk hs)

theorem completes_execWakeRequestSend {dest : Nat} (hs : Kept fx s) : Completes fx (execWakeRequestSend dest s) := by
  unfold execWakeRequestSend
  split
  · exact completes_ans hs
  · refine completes_ite ?_ ?_
    · extract_lets s1
      have hs1 : Kept fx s1 := kept_modSlk hs
      refine completes_ans ?_
      split
      · exact kept_ev hs1
      · exact hs1
    · split
      · exact completes_ite (completes_ans (kept_plcSend (kept_modSlk hs))) (completes_ans hs)
      · exact completes_ans hs

theorem kept_slkStart (hs : Kept fx s) : Kept fx (slkStart s) := by
  unfold slkStart
  exact kept_slkLost (kept_modSlk hs)

theorem kept_slkRestart (hs : Kept fx s) : Kept fx (slkRestart s) := by
  unfold slkRestart
  exact kept_slkStart (kept_modSlk hs)

theorem kept_slkFence (hs : Kept fx s) : Kept fx (slkFence s) := by
  unfold slkFence
  exact kept_slkLost (kept_modSlk hs)

theorem kept_slkReturn (hs : Kept fx s) : Kept fx (slkReturn s) := by
  unfold slkReturn
  exact kept_slkStart (kept_modSlk hs)

theorem kept_slkWake (hs : Kept fx s) : Kept fx (slkWake s) := by
  unfold slkWake
  exact kept_ite hs (kept_slkLost hs)

theorem kept_slkPowerFail (hs : Kept fx s) : Kept fx (slkPowerFail s) := by
  unfold slkPowerFail
  exact kept_plcCast hs

theorem kept_slkReset (hs : Kept fx s) : Kept fx (slkReset s) := by
  unfold slkReset
  exact kept_modSlk hs

theorem completes_execSlkStatus {h : Hdr} (hs : Kept fx s) : Completes fx (execSlkStatus h s) := by
  unfold execSlkStatus
  exact completes_ans (kept_hostCmd (fun _ => keeps_ite (keeps_no _) keeps_done) hs)

theorem completes_execSlkNodes {h : Hdr} {page : Nat} (hs : Kept fx s) : Completes fx (execSlkNodes h page s) := by
  unfold execSlkNodes
  exact completes_ans (kept_hostCmd (fun _ => keeps_ite (keeps_no _) (keeps_ite (keeps_no _) keeps_done)) hs)

theorem completes_execSlkKeySetX {h : Hdr} {key : List Byte} (hs : Kept fx s) : Completes fx (execSlkKeySetX h key s) := by
  unfold execSlkKeySetX
  exact completes_ans (kept_hostCmd (fun _ => keeps_ite (keeps_no _) (keeps_ite (keeps_no _) (keeps_accept_id _ _))) hs)

theorem kept_applySlkKey {key : List Byte} (hs : Kept fx s) : Kept fx (applySlkKey key s) := by
  unfold applySlkKey
  exact kept_modSlk hs

theorem completes_execSlkTonemapX {h : Hdr} {node action : Nat} (hs : Kept fx s) : Completes fx (execSlkTonemapX h node action
    s) := by
  unfold execSlkTonemapX
  exact completes_ans (kept_hostCmd (fun _ => keeps_ite (keeps_no _) (keeps_ite (keeps_no _) (keeps_ite (keeps_no _)
    keeps_done))) hs)

theorem kept_applyTonemap {node action : Nat} (hs : Kept fx s) : Kept fx (applyTonemap node action s) := by
  unfold applyTonemap
  exact kept_ite (kept_soundNode hs) hs

end Sys2Proof.Machine
end

section
/-! SUPPORT. The invariant kept by faults and containment (chapter 16): one lemma for each operation, in the order of the model. -/

namespace Sys2Proof.Machine

open Host (Cell Outcome)

variable {fx : Fixed} {s : State}

theorem kept_modFlt {f : FltSt → FltSt} (hs : Kept fx s) : Kept fx (modFlt f s) := by
  unfold modFlt
  exact kept_other hs

theorem kept_modDomain {d : Fin 12} {f : Domain → Domain} (hs : Kept fx s) : Kept fx (modDomain d f s) := by
  unfold modDomain
  exact kept_modFlt hs

theorem completes_execFenceBuild (hs : Kept fx s) : Completes fx (execFenceBuild s) := by
  unfold execFenceBuild
  refine completes_ite (completes_ans hs) ?_
  split
  · exact completes_ans hs
  · exact completes_ite (completes_ans hs) (completes_ans (kept_buildTxn (kept_modDomain hs)))

theorem kept_saveCounts {d : Fin 12} (hs : Kept fx s) : Kept fx (saveCounts d s) := by
  unfold saveCounts
  exact kept_modFlt hs

theorem kept_fenceRollback {d : Fin 12} (hs : Kept fx s) : Kept fx (fenceRollback d s) := by
  unfold fenceRollback
  exact kept_other hs

theorem kept_fenceActions {d : Fin 12} (hs : Kept fx s) : Kept fx (fenceActions d s) := by
  unfold fenceActions
  split
  · extract_lets s1 s2 s3 s4 s5
    have hs1 : Kept fx s1 := kept_cancelMoves hs
    have hs2 : Kept fx s2 := kept_foldl hs1 (fun _ _ ht => kept_pgSet ht)
    have hs3 : Kept fx s3 := by
      dsimp only [s3]
      split
      · exact kept_applyAux hs2
      · exact hs2
    have hs4 : Kept fx s4 := kept_efiStop (kept_vlkOff hs3)
    have hs5 : Kept fx s5 := kept_enterState hs4
    exact kept_modOut hs5
  · exact kept_ite (kept_auxFence hs) (kept_ite (kept_slkFence hs) (kept_ite (kept_nfcFence hs) (kept_dspStep6 (kept_dspReset
      hs))))

theorem kept_applyFenceTxn {d : Fin 12} (hs : Kept fx s) : Kept fx (applyFenceTxn d s) := by
  unfold applyFenceTxn
  exact kept_other hs

theorem completes_execFltFence {d : Fin 12} (hs : Kept fx s) : Completes fx (execFltFence d s) := by
  unfold execFltFence
  split
  · exact completes_ans hs
  · split
    · exact completes_ans hs
    · refine completes_ite (completes_ans hs) ?_
      extract_lets f counts retire back why s1 s2 s3
      have hs1 : Kept fx s1 := kept_fenceRollback hs
      have hs2 : Kept fx s2 := kept_modDomain hs1
      have hs3 : Kept fx s3 := kept_applyFenceTxn (kept_fenceActions hs2)
      exact completes_ite (completes_ans (kept_ev (kept_writeRecord hs3))) (completes_ans (kept_ev (kept_saveCounts hs3)))

theorem kept_returnActions {d : Fin 12} (hs : Kept fx s) : Kept fx (returnActions d s) := by
  unfold returnActions
  split
  · extract_lets s1
    have hs1 : Kept fx s1 := kept_modOut hs
    exact kept_pilotOutputs (kept_ite (kept_enterState hs1) hs1)
  · exact kept_ite (kept_auxReturn hs) (kept_ite (kept_slkReturn hs) (kept_ite (kept_nfcStart hs) (kept_dspStep6 hs)))

theorem kept_returnDomain {d : Fin 12} (hs : Kept fx s) : Kept fx (returnDomain d s) := by
  unfold returnDomain
  exact kept_returnActions (kept_modDomain hs)

theorem completes_execFltReturn {d : Fin 12} (hs : Kept fx s) : Completes fx (execFltReturn d s) := by
  unfold execFltReturn
  exact completes_ite (completes_ans (kept_ev (kept_returnDomain hs))) (completes_ans hs)

theorem keeps_fltReturnRules {kind number : Nat} {reason : List Byte} {s : State} : (fltReturnRules kind number reason s).Keeps
    := by
  unfold fltReturnRules
  refine keeps_ite (keeps_no _) ?_
  split
  · exact keeps_no _
  · exact keeps_ite (keeps_no _) (keeps_ite (keeps_no _) (keeps_ite (keeps_no _) (keeps_ite (keeps_no _) (keeps_ite (keeps_no
      _) keeps_done))))

theorem completes_execFltReturnX {h : Hdr} {kind number : Nat} {reason : List Byte} (hs : Kept fx s) : Completes fx
    (execFltReturnX h kind number reason s) := by
  unfold execFltReturnX
  exact completes_ans (kept_hostCmd (fun _ => keeps_fltReturnRules) hs)

theorem kept_applyFltReturn {kind number : Nat} {reason : List Byte} (hs : Kept fx s) : Kept fx (applyFltReturn kind number
    reason s) := by
  unfold applyFltReturn
  refine kept_ite (kept_dite (fun _ => kept_ev (kept_writeRecord (kept_returnDomain (kept_modDomain hs)))) (fun _ => hs)) ?_
  refine kept_ite (kept_dite (fun _ => kept_returnGroup hs) (fun _ => hs)) ?_
  extract_lets s1 f
  have hs1 : Kept fx s1 := kept_returnObj hs
  exact kept_ite (kept_dite (fun _ => kept_modIm hs1) (fun _ => hs1)) (kept_ite (kept_dite (fun _ => kept_ite hs1
    (kept_auxUnlock hs1)) (fun _ => hs1)) hs1)

theorem keeps_fltRetireRules {kind number : Nat} {s : State} : (fltRetireRules kind number s).Keeps := by
  unfold fltRetireRules
  split
  · exact keeps_no _
  · exact keeps_ite (keeps_no _) keeps_done

theorem completes_execFltRetireX {h : Hdr} {kind number : Nat} {reason : List Byte} (hs : Kept fx s) : Completes fx
    (execFltRetireX h kind number reason s) := by
  unfold execFltRetireX
  exact completes_ans (kept_hostCmd (fun _ => keeps_fltRetireRules) hs)

theorem kept_retireActions {kind number : Nat} (hs : Kept fx s) : Kept fx (retireActions kind number s) := by
  unfold retireActions
  split
  · exact kept_dite (fun _ => kept_ite hs (kept_pgTo (kept_pgSet (kept_modPg hs)))) (fun _ => hs)
  · exact kept_dite (fun _ => kept_releasePort hs) (fun _ => hs)
  · exact kept_dite (fun _ => kept_auxOff hs) (fun _ => hs)
  · exact hs

theorem kept_applyFltRetire {kind number : Nat} {reason : List Byte} (hs : Kept fx s) : Kept fx (applyFltRetire kind number
    reason s) := by
  unfold applyFltRetire
  exact kept_ite (kept_dite (fun _ => kept_noteFault (kept_modDomain hs)) (fun _ => hs)) (kept_retireObj (kept_retireActions
    hs))

theorem completes_execFltStatus {h : Hdr} (hs : Kept fx s) : Completes fx (execFltStatus h s) := by
  unfold execFltStatus
  exact completes_ans (kept_hostCmd (fun _ => keeps_done) hs)

theorem completes_execFltLogRead {h : Hdr} {first count : Nat} (hs : Kept fx s) : Completes fx (execFltLogRead h first count s)
    := by
  unfold execFltLogRead
  exact completes_ans (kept_hostCmd (fun _ => keeps_ite (keeps_no _) keeps_done) hs)

theorem kept_writeRecords (hs : Kept fx s) : Kept fx (writeRecords s) := by
  unfold writeRecords
  exact kept_modFlt hs

theorem completes_execRetirementRecord (hs : Kept fx s) : Completes fx (execRetirementRecord s) := by
  unfold execRetirementRecord
  exact completes_ite (completes_ans (kept_writeRecords hs)) (completes_ans hs)

theorem kept_fltReset {lost : Bool} (hs : Kept fx s) : Kept fx (fltReset lost s) := by
  unfold fltReset
  exact kept_modFlt (kept_ite (kept_modFlt hs) (kept_writeRecords hs))

theorem kept_retirementsRestored (hs : Kept fx s) : Kept fx (retirementsRestored s) := by
  unfold retirementsRestored
  exact kept_foldl (kept_foldl hs (fun _ _ ht => kept_ite (kept_ev ht) ht)) (fun _ _ ht => kept_ite (kept_ev ht) ht)

theorem Kept.withSkips (hs : Kept fx s) (l : List SlotJob) :
    Kept { fx with skips := l } { s with sys := { s.sys with skips := l } } := by
  obtain ⟨p, hp, rfl⟩ := hs.source
  refine ⟨fun ha => ?_, rfl⟩
  obtain ⟨h1, h2, h3, h4, h5, h6, h7⟩ := hp ha
  exact ⟨h1, h2, h3, h4, h5, h6, h7⟩

/-- An answer whose fixed fields are others than before, the queue of commands among them unchanged. -/
theorem Kept.completes {g : Fixed} (h : Kept fx s) (ha : g.asks → fx.asks) (hp : fx.pending = g.pending) : Completes g (ans s) :=
  ⟨s, rfl, fun hg => h.sound (ha hg), (congrArg Fixed.pending h.fixed).trans hp⟩

theorem completes_execSysSlotOvrun {job : SlotJob} (hs : Kept fx s) : Completes fx (execSysSlotOvrun job s) := by
  unfold execSysSlotOvrun
  extract_lets f sys s1 s2 s3
  have h1 : Kept { fx with skips := if job = .edge then s.sys.skips else job :: s.sys.skips } s1 := hs.withSkips _
  have h2 : Kept { fx with skips := if job = .edge then s.sys.skips else job :: s.sys.skips } s2 := by
    cases job with
    | meterSlot m => exact kept_squashSlot h1
    | _ => exact h1
  have h3 : Kept { fx with skips := if job = .edge then s.sys.skips else job :: s.sys.skips } s3 := kept_ev (kept_draw h2)
  split
  · exact h3.completes id rfl
  · exact completes_ite (Kept.completes (kept_noteFault (kept_modDomain (kept_modDomain h3))) id rfl)
      (Kept.completes (kept_modDomain h3) id rfl)

theorem completes_execFltSelfcheck {d : Fin 12} {check : Nat} (hs : Kept fx s) : Completes fx (execFltSelfcheck d check s) := by
  unfold execFltSelfcheck
  exact completes_ans (kept_ev (kept_modDomain hs))

theorem completes_execFltAgate (hs : Kept fx s) : Completes fx (execFltAgate s) := by
  unfold execFltAgate
  exact completes_ite (completes_ans hs) (completes_ite (completes_ans (kept_foldl (kept_ev (kept_modFlt (kept_modVlk hs)))
    (fun _ _ ht => kept_linkFail ht))) (completes_ans (kept_ev (kept_modFlt (kept_modVlk hs)))))

theorem completes_execAgateUnitsRestarted (hs : Kept fx s) : Completes fx (execAgateUnitsRestarted s) := by
  unfold execAgateUnitsRestarted
  exact completes_ite (completes_ans (kept_modVlk hs)) (completes_ans hs)

theorem completes_execFltMtrEngine (hs : Kept fx s) : Completes fx (execFltMtrEngine s) := by
  unfold execFltMtrEngine
  exact completes_ite (completes_ans hs) (completes_ans (kept_foldl (kept_ev (kept_modFlt (kept_modMtr (kept_foldl hs (fun _ _
    ht => kept_squashSlot ht)) (fun _ => rfl)))) (fun _ _ ht => kept_noteFault ht)))

theorem completes_execMtrEngineRestart (hs : Kept fx s) : Completes fx (execMtrEngineRestart s) := by
  unfold execMtrEngineRestart
  exact completes_ite (completes_ans (kept_modFlt (kept_modMtr hs (fun _ => rfl)))) (completes_ans hs)

end Sys2Proof.Machine
end

section
/-! SUPPORT. The invariant kept by firmware update (chapter 17): one lemma for each operation, in the order of the model. -/

namespace Sys2Proof.Machine

open Host (Cell Outcome)

variable {fx : Fixed} {s : State}

theorem kept_modUpd {f : UpdSt → UpdSt} (hs : Kept fx s) : Kept fx (modUpd f s) := by
  unfold modUpd
  exact kept_other hs

theorem kept_modRegion {r : Fin 2} {f : Region → Region} (hs : Kept fx s) : Kept fx (modRegion r f s) := by
  unfold modRegion
  exact kept_modUpd hs

theorem kept_tellProgress {r : Fin 2} (hs : Kept fx s) : Kept fx (tellProgress r s) := by
  unfold tellProgress
  exact kept_ite (kept_ev (kept_modRegion hs)) hs

theorem kept_unschedule (hs : Kept fx s) : Kept fx (unschedule s) := by
  unfold unschedule
  exact kept_modUpd hs

theorem kept_abandon {r : Fin 2} {cause : Nat} (hs : Kept fx s) : Kept fx (abandon r cause s) := by
  unfold abandon
  extract_lets s1 s2
  have hs1 : Kept fx s1 := kept_ite (kept_unschedule hs) hs
  have hs2 : Kept fx s2 := kept_ite (kept_modUpd hs1) hs1
  exact kept_ev (kept_modRegion hs2)

theorem kept_openRegion {r : Fin 2} {site : Bool} {length identity : Nat} (hs : Kept fx s) : Kept fx (openRegion r site length
    identity s) := by
  unfold openRegion
  exact kept_modRegion hs

theorem keeps_updOpenRules {region flags length identity : Nat} {s : State} : (updOpenRules region flags length identity
    s).Keeps := by
  unfold updOpenRules
  split
  · exact keeps_no _
  · exact keeps_ite (keeps_no _) (keeps_ite (keeps_no _) (keeps_ite (keeps_no _) (keeps_ite (keeps_no _) (keeps_ite (keeps_no
      _) keeps_done))))

theorem completes_execUpdOpenX {h : Hdr} {region flags length identity : Nat} (hs : Kept fx s) : Completes fx (execUpdOpenX h
    region flags length identity s) := by
  unfold execUpdOpenX
  exact completes_ans (kept_hostCmd (fun _ => keeps_updOpenRules) hs)

theorem kept_applyUpdOpen {region flags length identity : Nat} (hs : Kept fx s) : Kept fx (applyUpdOpen region flags length
    identity s) := by
  unfold applyUpdOpen
  exact kept_dite (fun _ => kept_ite (kept_modRegion hs) (kept_openRegion (kept_ite (kept_abandon hs) hs))) (fun _ => hs)

theorem kept_flashFault {r : Fin 2} {off : Nat} (hs : Kept fx s) : Kept fx (flashFault r off s) := by
  unfold flashFault
  extract_lets n s1
  have hs1 : Kept fx s1 := kept_ev (kept_modRegion hs)
  exact kept_ite (kept_abandon hs1) hs1

theorem keeps_updWriteRules {region len offset : Nat} {data : List Byte} {bad : Option Nat} {s : State} : (updWriteRules region
    len offset data bad s).Keeps := by
  unfold updWriteRules
  refine keeps_dite ?_ (fun _ => keeps_no _)
  intro _
  refine keeps_ite (keeps_no _) ?_
  refine keeps_ite (keeps_no _) ?_
  refine keeps_ite (keeps_no _) ?_
  refine keeps_ite (keeps_accept_id _ _) ?_
  split
  · exact keeps_ite (fun _ _ hu => kept_flashFault (kept_modRegion hu)) (fun _ _ hu => kept_modRegion hu)
  · exact fun _ _ hu => kept_modRegion hu

theorem completes_execUpdWriteX {h : Hdr} {region len offset : Nat} {data : List Byte} {bad : Option Nat} (hs : Kept fx s) :
    Completes fx (execUpdWriteX h region len offset data bad s) := by
  unfold execUpdWriteX
  exact completes_ans (kept_hostCmd (fun _ => keeps_updWriteRules) hs)

theorem kept_applyUpdWrite {region : Nat} (hs : Kept fx s) : Kept fx (applyUpdWrite region s) := by
  unfold applyUpdWrite
  exact kept_dite (fun _ => kept_tellProgress hs) (fun _ => hs)

theorem kept_finishRegion {r : Fin 2} (hs : Kept fx s) : Kept fx (finishRegion r s) := by
  unfold finishRegion
  exact kept_ev (kept_modRegion (kept_ite (kept_modUpd hs) hs))

theorem keeps_updFinishRules {region : Nat} {s : State} : (updFinishRules region s).Keeps := by
  unfold updFinishRules
  split
  · exact keeps_no _
  · refine keeps_ite (keeps_no _) ?_
    split
    · exact keeps_refuse _ _
    · exact keeps_accept_id _ _

theorem completes_execUpdFinishX {h : Hdr} {region : Nat} (hs : Kept fx s) : Completes fx (execUpdFinishX h region s) := by
  unfold execUpdFinishX
  exact completes_ans (kept_hostCmd (fun _ => keeps_updFinishRules) hs)

theorem kept_applyUpdFinish {region : Nat} (hs : Kept fx s) : Kept fx (applyUpdFinish region s) := by
  unfold applyUpdFinish
  exact kept_dite (fun _ => kept_ite (kept_finishRegion hs) hs) (fun _ => hs)

theorem completes_execUpdAbandonX {h : Hdr} {region : Nat} (hs : Kept fx s) : Completes fx (execUpdAbandonX h region s) := by
  unfold execUpdAbandonX
  refine completes_ans ?_
  refine kept_hostCmd ?_ hs
  intro _
  split
  · exact keeps_no _
  · exact keeps_ite keeps_done (keeps_no _)

theorem kept_applyUpdAbandon {region : Nat} (hs : Kept fx s) : Kept fx (applyUpdAbandon region s) := by
  unfold applyUpdAbandon
  exact kept_dite (fun _ => kept_ite (kept_abandon hs) hs) (fun _ => hs)

theorem keeps_updSiteSendRules {region : Nat} {s : State} : (updSiteSendRules region s).Keeps := by
  unfold updSiteSendRules
  exact keeps_ite (keeps_no _) (keeps_ite (keeps_no _) (keeps_ite (keeps_no _) (keeps_ite (keeps_no _) keeps_done)))

theorem completes_execUpdSiteSendX {h : Hdr} {region group : Nat} (hs : Kept fx s) : Completes fx (execUpdSiteSendX h region
    group s) := by
  unfold execUpdSiteSendX
  exact completes_ans (kept_hostCmd (fun _ => keeps_updSiteSendRules) hs)

theorem kept_applyUpdSiteSend {group : Nat} (hs : Kept fx s) : Kept fx (applyUpdSiteSend group s).1 := by
  unfold applyUpdSiteSend
  dsimp only
  exact kept_modUpd hs

theorem kept_sendBlock {num off : Nat} (hs : Kept fx s) : Kept fx (sendBlock num off s) := by
  unfold sendBlock
  exact kept_plcCast hs

theorem completes_execSiteBlockSend (hs : Kept fx s) : Completes fx (execSiteBlockSend s) := by
  unfold execSiteBlockSend
  split
  · exact completes_ans hs
  · refine completes_ite (completes_ans (kept_modUpd hs)) ?_
    refine completes_ite (completes_ans hs) ?_
    refine completes_ite ?_ ?_
    · extract_lets n s1 s2
      have hs1 : Kept fx s1 := kept_sendBlock hs
      have hs2 : Kept fx s2 := kept_ite (kept_ev hs1) hs1
      exact completes_ans (kept_modUpd hs2)
    · split
      · exact completes_ans (kept_modUpd (kept_sendBlock hs))
      · exact completes_ite (completes_ans (kept_modUpd hs)) (completes_ans (kept_modUpd (kept_foldl hs (fun _ _ ht =>
          kept_plcUnicast ht))))

theorem completes_execSiteBlockReceived {source number offset : Nat} {data : List Byte} (hs : Kept fx s) : Completes fx
    (execSiteBlockReceived source number offset data s) := by
  unfold execSiteBlockReceived
  refine completes_ite (completes_ans hs) ?_
  refine completes_ite ?_ (completes_ans (kept_ite hs (kept_ite hs (kept_modUpd (kept_openRegion hs)))))
  extract_lets e s1
  have hs1 : Kept fx s1 := kept_tellProgress (kept_modRegion (kept_ite hs (kept_ite hs (kept_modUpd (kept_openRegion hs)))))
  exact completes_ans (kept_ite (kept_modRegion hs1) hs1)

theorem kept_updStep6 (hs : Kept fx s) : Kept fx (updStep6 s) := by
  unfold updStep6
  exact kept_ite (kept_finishRegion hs) hs

theorem keeps_updScheduleRules {h : Hdr} {mask mode frame : Nat} {s : State} : (updScheduleRules h mask mode frame s).Keeps :=
    by
  unfold updScheduleRules
  refine keeps_ite (keeps_no _) ?_
  refine keeps_ite (keeps_no _) ?_
  refine keeps_ite (keeps_no _) ?_
  split
  · exact keeps_no _
  · exact keeps_accept_id _ _

theorem completes_execUpdScheduleX {h : Hdr} {mask mode frame : Nat} (hs : Kept fx s) : Completes fx (execUpdScheduleX h mask
    mode frame s) := by
  unfold execUpdScheduleX
  exact completes_ans (kept_hostCmd (fun _ => keeps_updScheduleRules) hs)

theorem kept_applyUpdSchedule {mask f : Nat} (hs : Kept fx s) : Kept fx (applyUpdSchedule mask f s) := by
  unfold applyUpdSchedule
  exact kept_ite (kept_setSchedule hs) hs

theorem completes_execUpdCancelX {h : Hdr} (hs : Kept fx s) : Completes fx (execUpdCancelX h s) := by
  unfold execUpdCancelX
  exact completes_ans (kept_hostCmd (fun _ => keeps_ite (keeps_no _) keeps_done) hs)

theorem kept_applyUpdCancel (hs : Kept fx s) : Kept fx (applyUpdCancel s) := by
  unfold applyUpdCancel
  split
  · exact kept_ite hs (kept_ev (kept_unschedule hs))
  · exact hs

theorem completes_execUpdActivation (hs : Kept fx s) : Completes fx (execUpdActivation s) := by
  unfold execUpdActivation
  split
  · exact completes_ans hs
  · exact completes_ite (completes_ans hs) (completes_ite (completes_ans (kept_modUpd (kept_persistLive (kept_ev hs))))
      (completes_ite (completes_ans hs) (completes_ans (kept_ev (kept_modUpd hs)))))

theorem completes_execActivationWaitExpiry (hs : Kept fx s) : Completes fx (execActivationWaitExpiry s) := by
  unfold execActivationWaitExpiry
  split
  · exact completes_ans hs
  · exact completes_ite (completes_ans (kept_ev (kept_unschedule hs))) (completes_ans hs)

theorem completes_execUpdStatus {h : Hdr} (hs : Kept fx s) : Completes fx (execUpdStatus h s) := by
  unfold execUpdStatus
  exact completes_ans (kept_hostCmd (fun _ => keeps_done) hs)

theorem kept_takeImage {r : Fin 2} (hs : Kept fx s) : Kept fx (takeImage r s) := by
  unfold takeImage
  exact kept_modRegion (kept_modUpd hs)

theorem kept_updReset (hs : Kept fx s) : Kept fx (updReset s) := by
  unfold updReset
  exact kept_modUpd hs

theorem kept_bootLoader (hs : Kept fx s) : Kept fx (bootLoader s) := by
  unfold bootLoader
  split
  · exact hs
  · exact kept_ite hs (kept_ite (kept_takeImage (kept_modUpd hs)) (kept_ev hs))

theorem kept_bootImage {sigOk : Bool} (hs : Kept fx s) : Kept fx (bootImage sigOk s).1 := by
  unfold bootImage
  dsimp only
  split
  · split
    · split
      · dsimp only
        exact kept_modUpd (kept_ev (kept_modUpd hs))
      · split
        · dsimp only
          exact kept_modUpd (kept_ev (kept_modUpd hs))
        · dsimp only
          exact kept_modUpd hs
    · split
      · dsimp only
        exact kept_modUpd (kept_ev (kept_modUpd hs))
      · split
        · dsimp only
          exact kept_modUpd (kept_ev (kept_modUpd hs))
        · dsimp only
          exact kept_modUpd hs
  · split
    · dsimp only
      exact kept_modUpd (kept_ev (kept_modUpd hs))
    · split
      · dsimp only
        exact kept_modUpd (kept_ev (kept_takeImage (kept_modUpd (kept_modUpd hs))))
      · dsimp only
        exact kept_takeImage (kept_modUpd (kept_modUpd hs))

end Sys2Proof.Machine
end

section
/-! SUPPORT. The invariant kept by the parameter opcodes (chapter 02): one lemma for each operation, in the order of the model. -/

namespace Sys2Proof.Machine

open Host (Cell Outcome)

variable {fx : Fixed} {s : State}

theorem kept_enterWatch (hs : Kept fx s) : Kept fx (enterWatch s) := by
  unfold enterWatch
  exact kept_readerOff (kept_poolStop (kept_cancelMoves (kept_pset hs)))

theorem kept_leaveWatch {cause : Nat} (hs : Kept fx s) : Kept fx (leaveWatch cause s) := by
  unfold leaveWatch
  exact kept_slkWake (kept_efiWake (kept_poolStart (kept_ev (kept_sys (kept_pset hs) ⟨rfl, rfl, rfl, rfl⟩))))

theorem kept_wakeStep (hs : Kept fx s) : Kept fx (wakeStep s) := by
  unfold wakeStep
  refine kept_ite ?_ (kept_sys hs ⟨rfl, rfl, rfl, rfl⟩)
  split
  · exact kept_leaveWatch hs
  · exact hs

theorem kept_applyParam {id inst v : Nat} (hs : Kept fx s) : Kept fx (applyParam id inst v s) := by
  unfold applyParam
  refine kept_ite (kept_ite (kept_enterWatch hs) (kept_ite (kept_leaveWatch hs) hs)) ?_
  refine kept_ite hs ?_
  extract_lets reader s1
  have hs1 : Kept fx s1 := kept_pset hs
  exact kept_ite (kept_ite hs1 (kept_modLink hs1)) (kept_ite (kept_trialWritten hs1) (kept_ite (kept_slkRestart hs1) (kept_ite
    (kept_ite (kept_ite hs1 (kept_applyLpCal hs1)) (kept_ite (kept_readerOff hs1) hs1)) hs1)))

theorem kept_applyWrites {ws : List (Nat × Nat × Nat)} (hs : Kept fx s) : Kept fx (applyWrites ws s) := by
  unfold applyWrites
  exact kept_foldl hs (fun _ _ ht => kept_applyParam ht)

theorem kept_closeChanged (hs : Kept fx s) : Kept fx (closeChanged s) := by
  unfold closeChanged
  exact kept_ite (kept_modLink (kept_foldl hs (fun _ _ ht => kept_closeSession ht))) hs

theorem storeWf_filter {m : List (Nat × Nat)} (p : Nat × Nat → Bool) (h : storeWf m) : storeWf (m.filter p) :=
  h.sublist ((List.filter_sublist).map _)

theorem kept_persistStamp (hs : Kept fx s) : Kept fx (persistStamp s) := by
  refine ⟨hs.asked fun hs => ?_, hs.fixed⟩
  obtain ⟨h1, h2, h3, h4, h5, h6, h7⟩ := hs
  refine ⟨h1, h2, h3, h4, fun img hi => ?_, h6, h7⟩
  obtain ⟨_, hi⟩ := Option.ite_none_right_eq_some.mp hi
  exact Option.some.inj hi ▸ storeWf_filter _ h3

theorem completes_execParamPersist (hs : Kept fx s) : Completes fx (execParamPersist s) := by
  unfold execParamPersist
  split
  case _ img himg =>
    refine completes_ans ⟨hs.asked fun hs => ?_, hs.fixed⟩
    obtain ⟨h1, h2, h3, h4, h5, h6, h7⟩ := hs
    exact ⟨h1, h2, h3, h5 img himg, nofun, h6, h7⟩
  · exact completes_ans hs

theorem kept_nameTxn {n : Nat} (hs : Kept fx s) : Kept fx (nameTxn n s) := by
  unfold nameTxn
  split
  · exact kept_setTxn hs
  · exact hs

theorem keeps_named {n : Nat} {v : Verdict} (hv : v.Keeps) : (named n v).Keeps := by
  cases v with
  | refuse d r => exact fun _ _ hs => kept_nameTxn hs
  | reject d r now => exact fun _ _ hs => hv _ _ (kept_nameTxn hs)
  | accept d r now => exact fun _ _ hs => hv _ _ (kept_nameTxn hs)

theorem keeps_stageInto {n : Nat} {acts : List (Nat × Action)} {bad good : List Byte} {s : State} :
    (stageInto n acts bad good s).Keeps := by
  unfold stageInto
  split
  · exact keeps_refuse _ _
  · refine keeps_ite (keeps_refuse _ _) (keeps_ite (keeps_refuse _ _) fun _ _ hs => ?_)
    dsimp only
    split
    · exact kept_setTxn hs
    · exact hs

theorem keeps_paramWriteRules {h : Hdr} {expert : Bool} {es : List PEntry} {s : State} : (paramWriteRules h expert es s).Keeps
    := by
  unfold paramWriteRules
  refine keeps_ite ?_ ?_
  · refine keeps_ite (keeps_refuse _ _) ?_
    split
    · exact keeps_refuse _ _
    · exact keeps_ite (keeps_accept_id _ _) keeps_stageInto
  · refine keeps_named ?_
    refine keeps_ite (keeps_refuse _ _) ?_
    split
    · exact keeps_refuse _ _
    · exact keeps_ite (keeps_accept_id _ _) keeps_stageInto

theorem completes_execParamWrite {h : Hdr} {count : Nat} {entries : List PEntry} (hs : Kept fx s) : Completes fx
    (execParamWrite h count entries s) := by
  unfold execParamWrite
  exact completes_ans (kept_hostCmd (fun _ => keeps_paramWriteRules) hs)

theorem completes_execParamWriteX {h : Hdr} {count : Nat} {entries : List PEntry} (hs : Kept fx s) : Completes fx
    (execParamWriteX h count entries s) := by
  unfold execParamWriteX
  exact completes_ans (kept_hostCmd (fun _ => keeps_paramWriteRules) hs)

theorem kept_applyParamWrite {h : Hdr} {es : List PEntry} (hs : Kept fx s) : Kept fx (applyParamWrite h es s) := by
  unfold applyParamWrite
  exact kept_ite (kept_applyWrites hs) hs

theorem keeps_paramReadRules {es : List PRef} {s : State} : (paramReadRules es s).Keeps := by
  unfold paramReadRules
  refine keeps_ite (keeps_no _) ?_
  split
  · exact keeps_refuse _ _
  · exact keeps_ite (keeps_refuse _ _) keeps_done

theorem completes_execParamRead {h : Hdr} {count : Nat} {entries : List PRef} (hs : Kept fx s) : Completes fx (execParamRead h
    count entries s) := by
  unfold execParamRead
  exact completes_ans (kept_hostCmd (fun _ => keeps_paramReadRules) hs)

theorem completes_execParamInfo {h : Hdr} {id : Nat} (hs : Kept fx s) : Completes fx (execParamInfo h id s) := by
  unfold execParamInfo
  exact completes_ans (kept_hostCmd (fun _ => keeps_ite keeps_done (keeps_no _)) hs)

theorem completes_execParamList {h : Hdr} {area page : Nat} (hs : Kept fx s) : Completes fx (execParamList h area page s) := by
  unfold execParamList
  exact completes_ans (kept_hostCmd (fun _ => keeps_done) hs)

theorem keeps_paramDefaultRules {area : Nat} {s : State} : (paramDefaultRules area s).Keeps := by
  unfold paramDefaultRules
  exact keeps_ite (keeps_no _) (keeps_ite (keeps_no _) keeps_done)

theorem completes_execParamDefaultX {h : Hdr} {area : Nat} (hs : Kept fx s) : Completes fx (execParamDefaultX h area s) := by
  unfold execParamDefaultX
  exact completes_ans (kept_hostCmd (fun _ => keeps_paramDefaultRules) hs)

theorem kept_measFault {r : CheckResult} {acts : List (Nat × Action)} (hs : Kept fx s) : Kept fx (measFault r acts s) := by
  unfold measFault
  refine kept_ite ?_ hs
  split
  · exact kept_ev hs
  · exact hs

end Sys2Proof.Machine
end

section
/-! SUPPORT. The invariant kept by transactions (chapter 03): one lemma for each operation, in the order of the model. -/

namespace Sys2Proof.Machine

open Host (Cell Outcome)

variable {fx : Fixed} {s : State}

theorem kept_txnEv {id detail : Nat} {t : Txn} {idx check other : Nat} (hs : Kept fx s) : Kept fx (txnEv id detail t idx check
    other s) := by
  unfold txnEv
  exact kept_ev hs

theorem kept_modTxn {n : Nat} {f : Txn → Txn} (hs : Kept fx s) : Kept fx (modTxn n f s) := by
  unfold modTxn
  split
  · exact kept_setTxn hs
  · exact hs

theorem kept_step2Act {a : Action} (hs : Kept fx s) : Kept fx (step2Act a s) := by
  unfold step2Act
  split
  · exact kept_ite (kept_soOn hs) (kept_soOff hs)
  · exact kept_modTie (kept_ite (kept_soOn hs) (kept_soOff hs))
  · exact hs

theorem kept_step6Act {host : Bool} {cause : Nat} {a : Action} (hs : Kept fx s) : Kept fx (step6Act host cause a s) := by
  unfold step6Act
  split
  · exact kept_applyParam hs
  · exact kept_modPg (kept_ite (kept_pgSet hs) (kept_pgSet hs))
  · exact kept_activateTable hs
  · exact kept_pset (kept_pset hs)
  · exact hs

theorem kept_applyActs {host : Bool} {cause : Nat} {acts : List Action} (hs : Kept fx s) : Kept fx (applyActs host cause acts
    s) := by
  unfold applyActs
  exact kept_applyAuxes (kept_foldl (kept_foldl hs (fun _ _ ht => kept_step2Act ht)) (fun _ _ ht => kept_step6Act ht))

theorem kept_afterParams (hs : Kept fx s) : Kept fx (afterParams s) := by
  unfold afterParams
  exact kept_poolConfig (kept_pilotOutputs (kept_outletsAvail hs))

theorem kept_prechargeFail {k : Fin 8} {detail so : Nat} (hs : Kept fx s) : Kept fx (prechargeFail k detail so s) := by
  unfold prechargeFail
  exact kept_ev (kept_stopSession hs)

theorem kept_purposeFailed {t : Txn} {detail outcome check : Nat} (hs : Kept fx s) : Kept fx (purposeFailed t detail outcome
    check s) := by
  unfold purposeFailed
  split
  · exact kept_energiseEnd hs
  · exact kept_prechargeFail hs
  · exact kept_moveEnd hs
  · exact hs

theorem kept_purposeDone {t : Txn} (hs : Kept fx s) : Kept fx (purposeDone t s) := by
  unfold purposeDone
  split
  · exact kept_energiseEnd hs
  · split
    · exact kept_moveEnter hs
    · exact hs
  · exact hs

theorem kept_hostCtrFail {t : Txn} {detail : Nat} (hs : Kept fx s) : Kept fx (hostCtrFail t detail s) := by
  unfold hostCtrFail
  refine kept_ite hs ?_
  split
  · split
    · exact kept_ev hs
    · exact hs
  · exact hs

theorem kept_finalCheck {n : Nat} (hs : Kept fx s) : Kept fx (finalCheck n s) := by
  unfold finalCheck
  split
  · exact kept_measFault (kept_setTxn hs)
  · exact hs

theorem completes_execFinalCheck {n : Nat} (hs : Kept fx s) : Completes fx (execFinalCheck n s) := by
  unfold execFinalCheck
  split
  · exact completes_ite (completes_ans (kept_finalCheck hs)) (completes_ans hs)
  · exact completes_ans hs

theorem kept_finalChecks (hs : Kept fx s) : Kept fx (finalChecks s) := by
  unfold finalChecks
  refine kept_foldl hs ?_
  intro _ _ ht
  split
  · exact kept_ite (kept_finalCheck ht) ht
  · exact ht

theorem kept_refuseTxn {t : Txn} {r : CheckResult} (hs : Kept fx s) : Kept fx (refuseTxn t r s) := by
  unfold refuseTxn
  extract_lets so s1
  have hs1 : Kept fx s1 := kept_txnEv (kept_dropTxn hs)
  split
  · exact kept_energiseEnd hs1
  · exact kept_prechargeFail hs1
  · exact kept_purposeFailed hs1

theorem kept_refuseDue (hs : Kept fx s) : Kept fx (refuseDue s) := by
  unfold refuseDue
  refine kept_foldl hs ?_
  intro _ _ ht
  split
  · split
    · exact kept_ite (kept_refuseTxn ht) ht
    · exact ht
  · exact ht

theorem kept_hostEnergise {t : Txn} (hs : Kept fx s) : Kept fx (hostEnergise t s) := by
  unfold hostEnergise
  exact kept_ite hs (kept_foldl hs (fun _ _ ht => kept_ite (kept_enterState ht) ht))

theorem kept_tieBackDone {t : Txn} {before : State} (hs : Kept fx s) : Kept fx (tieBackDone t before s) := by
  unfold tieBackDone
  split
  · exact kept_ev (kept_foldl hs (fun _ _ ht => kept_pgSet ht))
  · exact hs

theorem kept_endConfirmed {n : Nat} (hs : Kept fx s) : Kept fx (endConfirmed n s) := by
  unfold endConfirmed
  split
  · refine kept_ite ?_ hs
    extract_lets s1
    have hs1 : Kept fx s1 := kept_dropTxn hs
    exact kept_purposeDone (kept_ite (kept_txnEv hs1) hs1)
  · exact hs

theorem kept_commitTxn {t : Txn} (hs : Kept fx s) : Kept fx (commitTxn t s) := by
  unfold commitTxn
  extract_lets f acts undo s' window x s'1 s'2
  have hs' : Kept fx s' := kept_applyActs hs
  have hs'1 : Kept fx s'1 := kept_setTxn hs'
  have hs'2 : Kept fx s'2 := kept_ite (kept_txnEv hs'1) hs'1
  exact kept_endConfirmed (kept_tieBackDone (kept_afterParams (kept_hostEnergise hs'2)))

theorem completes_execTxnCommitted {n : Nat} (hs : Kept fx s) : Completes fx (execTxnCommitted n s) := by
  unfold execTxnCommitted
  split
  · exact completes_ite (completes_ans hs) (completes_ite (completes_ans (kept_ite (kept_txnEv (kept_leaveBook (kept_dropTxn
      hs))) hs)) (completes_ite (completes_ans (kept_commitTxn hs)) (completes_ans hs)))
  · exact completes_ans hs

theorem kept_restoreFrom {n f : Nat} (hs : Kept fx s) : Kept fx (restoreFrom n f s) := by
  unfold restoreFrom
  exact kept_other hs

theorem kept_endRollback {t : Txn} (hs : Kept fx s) : Kept fx (endRollback t s) := by
  unfold endRollback
  refine kept_ite (kept_hostCtrFail (kept_purposeFailed (kept_txnEv (kept_dropTxn hs)))) ?_
  extract_lets s1 s2 x s3
  have hs1 : Kept fx s1 := kept_txnEv (kept_dropTxn hs)
  have hs2 : Kept fx s2 := kept_foldl hs1 (fun _ _ ht => kept_noteFault ht)
  have hs3 : Kept fx s3 := kept_other hs2
  exact kept_hostCtrFail (kept_purposeFailed hs3)

theorem kept_settleTxn {n : Nat} (hs : Kept fx s) : Kept fx (settleTxn n s) := by
  unfold settleTxn
  split
  · refine kept_ite ?_ hs
    extract_lets s1
    have hs1 : Kept fx s1 := kept_ite (kept_restoreFrom hs) hs
    exact kept_ite (kept_endRollback hs1) hs1
  · exact hs

theorem kept_confirmTxn {n : Nat} (hs : Kept fx s) : Kept fx (confirmTxn n s) := by
  unfold confirmTxn
  split
  · exact hs
  · split
    · exact kept_endConfirmed (kept_setTxn hs)
    · exact kept_settleTxn (kept_setTxn hs)
    · exact hs

theorem kept_confirmAll (hs : Kept fx s) : Kept fx (confirmAll s) := by
  unfold confirmAll
  exact kept_foldl hs (fun _ _ ht => kept_confirmTxn ht)

theorem kept_missedFinding {a : Action} (hs : Kept fx s) : Kept fx (missedFinding a s) := by
  unfold missedFinding
  split
  · refine kept_ite ?_ hs
    split
    · exact kept_weldFound hs
    · exact hs
  · extract_lets s1
    have hs1 : Kept fx s1 := kept_tieFail hs
    exact kept_ite (kept_tieWeld hs1) hs1
  · exact hs

theorem kept_startRollback {t : Txn} (hs : Kept fx s) : Kept fx (startRollback t s) := by
  unfold startRollback
  exact kept_foldl (kept_txnEv (kept_setTxn hs)) (fun _ _ ht => kept_missedFinding ht)

theorem completes_execTxnRollback {n : Nat} (hs : Kept fx s) : Completes fx (execTxnRollback n s) := by
  unfold execTxnRollback
  dsimp only
  split
  · exact completes_ite (completes_ans (kept_startRollback (kept_confirmTxn hs))) (completes_ans (kept_confirmTxn hs))
  · exact completes_ans (kept_confirmTxn hs)

theorem kept_forcedRollbacks (hs : Kept fx s) : Kept fx (forcedRollbacks s) := by
  unfold forcedRollbacks
  refine kept_foldl hs ?_
  intro _ _ ht
  split
  · exact kept_ite (kept_startRollback ht) ht
  · exact ht

theorem kept_moveZero {t : Txn} (hs : Kept fx s) : Kept fx (moveZero t s) := by
  unfold moveZero
  split
  · split
    · exact kept_foldl hs (fun _ _ ht => kept_pgSet ht)
    · exact hs
  · exact hs

theorem kept_phase1 {t : Txn} (hs : Kept fx s) : Kept fx (phase1 t s) := by
  unfold phase1
  exact kept_settleTxn (kept_afterParams (kept_moveZero (kept_other (kept_applyActs (kept_setTxn hs)))))

theorem completes_execRollbackPhase1 {n : Nat} (hs : Kept fx s) : Completes fx (execRollbackPhase1 n s) := by
  unfold execRollbackPhase1
  split
  · exact completes_ite (completes_ans (kept_phase1 hs)) (completes_ans hs)
  · exact completes_ans hs

theorem kept_phase2Decide {n : Nat} (hs : Kept fx s) : Kept fx (phase2Decide n s) := by
  unfold phase2Decide
  split
  · exact kept_ite hs (kept_ite (kept_settleTxn (kept_setTxn hs)) hs)
  · exact hs

theorem kept_phase2Slot (hs : Kept fx s) : Kept fx (phase2Slot s) := by
  unfold phase2Slot
  exact kept_foldl hs (fun _ _ ht => kept_phase2Decide ht)

theorem completes_execRollbackPhase2 {n : Nat} (hs : Kept fx s) : Completes fx (execRollbackPhase2 n s) := by
  unfold execRollbackPhase2
  split
  · exact completes_ite (completes_ans (kept_foldl (kept_setTxn hs) (fun _ _ ht => kept_step2Act ht))) (completes_ans hs)
  · exact completes_ans hs

theorem kept_settleExpired (hs : Kept fx s) : Kept fx (settleExpired s) := by
  unfold settleExpired
  refine kept_foldl hs ?_
  intro _ _ ht
  split
  · exact kept_ite (kept_settleTxn (kept_foldl (kept_setTxn ht) (fun _ _ hu => kept_missedFinding hu))) ht
  · exact ht

theorem completes_execSetpointCurrentRestore {n : Nat} (hs : Kept fx s) : Completes fx (execSetpointCurrentRestore n s) := by
  unfold execSetpointCurrentRestore
  split
  · exact completes_ans (kept_foldl (kept_other hs) (fun _ _ ht => kept_ite (kept_pgSet ht) ht))
  · exact completes_ans hs

theorem kept_contactorWeld {o : Fin 32} (hs : Kept fx s) : Kept fx (contactorWeld o s) := by
  unfold contactorWeld
  split
  · exact kept_ite (kept_missedFinding hs) hs
  · exact hs

theorem completes_execContactorFeedback {so : Fin 32} (hs : Kept fx s) : Completes fx (execContactorFeedback so s) := by
  unfold execContactorFeedback
  exact completes_ite (completes_ans (kept_confirmAll (kept_contactorWeld (kept_contactFault (kept_acceptFeedback hs)))))
    (completes_ans hs)

theorem kept_tieFinding2 {t : Fin 8} (hs : Kept fx s) : Kept fx (tieFinding2 t s) := by
  unfold tieFinding2
  refine kept_ite hs ?_
  refine kept_ite (kept_tieDrop hs) ?_
  refine kept_ite ?_ hs
  split
  · exact kept_ite (kept_tieWeld hs) hs
  · exact hs

theorem completes_execTieFeedback {t : Fin 8} (hs : Kept fx s) : Completes fx (execTieFeedback t s) := by
  unfold execTieFeedback
  exact completes_ans (kept_tieFinding2 (kept_confirmAll (kept_contactFault (kept_acceptFeedback hs))))

theorem completes_execStatusFrameReceived {port : Fin 2} {id : Nat} {data : List Byte} (hs : Kept fx s) : Completes fx
    (execStatusFrameReceived port id data s) := by
  unfold execStatusFrameReceived
  refine completes_ite (completes_ans hs) ?_
  split
  · split
    · exact completes_ans (kept_confirmAll (kept_stampStatus hs))
    · exact completes_ans hs
  · split
    · exact completes_ans (kept_brakeStatus hs)
    · exact completes_ans (kept_modPort hs)

theorem keeps_txnOpenRules {s : State} : (txnOpenRules s).Keeps := by
  unfold txnOpenRules
  exact keeps_ite (keeps_no _) (fun _ _ ht => kept_other ht)

theorem completes_execTxnOpen {h : Hdr} (hs : Kept fx s) : Completes fx (execTxnOpen h s) := by
  unfold execTxnOpen
  exact completes_ans (kept_hostCmd (fun _ => keeps_txnOpenRules) hs)

theorem keeps_txnStageRules {h : Hdr} {acts : List ActRec} {s : State} : (txnStageRules h acts s).Keeps := by
  unfold txnStageRules
  refine keeps_named ?_
  refine keeps_ite (keeps_refuse _ _) ?_
  refine keeps_ite (keeps_refuse _ _) ?_
  split
  · exact keeps_refuse _ _
  · exact keeps_stageInto

theorem completes_execTxnStage {h : Hdr} {count : Nat} {acts : List ActRec} (hs : Kept fx s) : Completes fx (execTxnStage h
    count acts s) := by
  unfold execTxnStage
  exact completes_ans (kept_hostCmd (fun _ => keeps_txnStageRules) hs)

theorem kept_toState {n : Nat} {st : TxnState} (hs : Kept fx s) : Kept fx (toState n st s) := by
  unfold toState
  exact kept_modTxn hs

theorem keeps_txnCheckRules {n : Nat} {s : State} : (txnCheckRules n s).Keeps := by
  unfold txnCheckRules
  split
  · exact keeps_no _
  · exact keeps_ite (keeps_no _) (keeps_ite (fun _ _ ht => kept_toState ht) (fun _ _ ht => kept_measFault (kept_toState ht)))

theorem completes_execTxnCheck {h : Hdr} (hs : Kept fx s) : Completes fx (execTxnCheck h s) := by
  unfold execTxnCheck
  exact completes_ans (kept_hostCmd (fun _ => keeps_named keeps_txnCheckRules) hs)

theorem kept_sendPrepare {t : Txn} {node : Nat} (hs : Kept fx s) : Kept fx (sendPrepare t node s) := by
  unfold sendPrepare
  exact kept_plcUnicast hs

theorem kept_toNodes {l : List Nat} {send : Nat → State → State} (hsend : ∀ y0 c s, Kept c s → Kept c (send y0 s)) (hs : Kept
    fx s) : Kept fx (toNodes l send s) := by
  unfold toNodes
  exact kept_foldl hs (fun _ _ ht => hsend _ _ _ ht)

theorem kept_commitSite {n c : Nat} (hs : Kept fx s) : Kept fx (commitSite n c s) := by
  unfold commitSite
  split
  · exact hs
  · exact kept_toNodes (fun _ fx _ ht => kept_sendPrepare ht) (kept_setTxn hs)

theorem keeps_txnCommitRules {h : Hdr} {mode frame : Nat} {s : State} : (txnCommitRules h mode frame s).Keeps := by
  unfold txnCommitRules
  dsimp only
  split
  · exact keeps_no _
  · refine keeps_ite (keeps_no _) ?_
    refine keeps_ite (keeps_no _) ?_
    refine keeps_ite ?_ ?_
    · split
      · exact keeps_no _
      · exact keeps_ite (fun _ _ ht => kept_commitSite ht) (fun _ _ ht => kept_measFault ht)
    · split
      · exact keeps_no _
      · exact keeps_ite (fun _ _ ht => kept_modTxn ht) (fun _ _ ht => kept_measFault ht)

theorem completes_execTxnCommit {h : Hdr} {mode frame : Nat} (hs : Kept fx s) : Completes fx (execTxnCommit h mode frame s) :=
    by
  unfold execTxnCommit
  exact completes_ans (kept_hostCmd (fun _ => keeps_named keeps_txnCommitRules) hs)

theorem kept_sendAbort {t : Txn} {node : Nat} (hs : Kept fx s) : Kept fx (sendAbort t node s) := by
  unfold sendAbort
  exact kept_plcUnicast hs

theorem kept_abortSite {t : Txn} (hs : Kept fx s) : Kept fx (abortSite t s) := by
  unfold abortSite
  exact kept_toNodes (fun _ fx _ ht => kept_sendAbort ht) (kept_other (kept_dropTxn hs))

theorem kept_abortTxn {n : Nat} (hs : Kept fx s) : Kept fx (abortTxn n s) := by
  unfold abortTxn
  split
  · exact kept_ite (kept_abortSite hs) (kept_dropTxn hs)
  · exact hs

theorem keeps_txnAbortRules {n : Nat} {s : State} : (txnAbortRules n s).Keeps := by
  unfold txnAbortRules
  split
  · exact keeps_no _
  · exact keeps_ite (fun _ _ ht => kept_abortTxn ht) (keeps_no _)

theorem completes_execTxnAbort {h : Hdr} (hs : Kept fx s) : Completes fx (execTxnAbort h s) := by
  unfold execTxnAbort
  exact completes_ans (kept_hostCmd (fun _ => keeps_named keeps_txnAbortRules) hs)

theorem completes_execTxnIdleTimeout {n : Nat} (hs : Kept fx s) : Completes fx (execTxnIdleTimeout n s) := by
  unfold execTxnIdleTimeout
  split
  · exact completes_ite (completes_ans (kept_txnEv (kept_dropTxn hs))) (completes_ans hs)
  · exact completes_ans hs

theorem completes_execTxnQuery {h : Hdr} (hs : Kept fx s) : Completes fx (execTxnQuery h s) := by
  unfold execTxnQuery
  exact completes_ans (kept_hostCmd (fun _ => keeps_named (keeps_ite keeps_done (keeps_no _))) hs)

theorem completes_execTxnList {h : Hdr} (hs : Kept fx s) : Completes fx (execTxnList h s) := by
  unfold execTxnList
  exact completes_ans (kept_hostCmd (fun _ => keeps_done) hs)

theorem kept_modBook {t : Txn} (hs : Kept fx s) : Kept fx (modBook t s) := by
  unfold modBook
  exact kept_other hs

theorem completes_execStxnPrepareResend {n : Nat} (hs : Kept fx s) : Completes fx (execStxnPrepareResend n s) := by
  unfold execStxnPrepareResend
  split
  · exact completes_ite (completes_ans (kept_toNodes (fun _ fx _ ht => kept_sendPrepare ht) (kept_setTxn hs))) (completes_ans
      hs)
  · exact completes_ans hs

theorem completes_execStxnVoteDeadline {n : Nat} (hs : Kept fx s) : Completes fx (execStxnVoteDeadline n s) := by
  unfold execStxnVoteDeadline
  split
  · exact completes_ite (completes_ite (completes_ans (kept_setTxn hs)) (completes_ans (kept_abortSite hs))) (completes_ans hs)
  · exact completes_ans hs

theorem completes_execStxnAbortResend {n : Nat} (hs : Kept fx s) : Completes fx (execStxnAbortResend n s) := by
  unfold execStxnAbortResend
  split
  · exact completes_ite (completes_ans (kept_toNodes (fun _ fx _ ht => kept_sendAbort ht) (kept_modBook hs))) (completes_ans hs)
  · exact completes_ans hs

theorem kept_applyCoordinator {t : Txn} (hs : Kept fx s) : Kept fx (applyCoordinator t s) := by
  unfold applyCoordinator
  exact kept_other (kept_txnEv (kept_txnEv (kept_afterParams (kept_applyActs (kept_dropTxn hs)))))

theorem completes_execStxnOutcomeReport {source number : Nat} {applied : Bool} (hs : Kept fx s) : Completes fx
    (execStxnOutcomeReport source number applied s) := by
  unfold execStxnOutcomeReport
  split
  · exact completes_ite (completes_ans (kept_noteNode hs)) (completes_ans hs)
  · exact completes_ans hs

theorem completes_execStxnDone {n : Nat} (hs : Kept fx s) : Completes fx (execStxnDone n s) := by
  unfold execStxnDone
  split
  · exact completes_ite (completes_ans (kept_evp (kept_other hs))) (completes_ans hs)
  · exact completes_ans hs

theorem kept_setPart {p : SitePart} (hs : Kept fx s) : Kept fx (setPart p s) := by
  unfold setPart
  exact kept_other hs

theorem kept_sendVote {source number : Nat} {yes : Bool} (hs : Kept fx s) : Kept fx (sendVote source number yes s) := by
  unfold sendVote
  exact kept_plcUnicast hs

theorem kept_takePrepare {source number siteC : Nat} {acts : List ActRec} (hs : Kept fx s) : Kept fx (takePrepare source number
    siteC acts s) := by
  unfold takePrepare
  exact kept_sendVote (kept_ev (kept_measFault (kept_ite (kept_preempt (kept_other (kept_setPart hs))) (kept_setPart hs))))

theorem completes_execStxnPrepareReceived {source number siteC : Nat} {acts : List ActRec} (hs : Kept fx s) : Completes fx
    (execStxnPrepareReceived source number siteC acts s) := by
  unfold execStxnPrepareReceived
  split
  · exact completes_ans hs
  · refine completes_ite (completes_ans hs) ?_
    extract_lets x s'
    have hs' : Kept fx s' := kept_other hs
    split
    · exact completes_ite (completes_ans (kept_sendVote hs')) (completes_ans (kept_takePrepare hs'))
    · exact completes_ans (kept_takePrepare hs')

theorem kept_releasePart {p : SitePart} (hs : Kept fx s) : Kept fx (releasePart p s) := by
  unfold releasePart
  exact kept_other hs

theorem completes_execStxnAbortReceived {source number : Nat} (hs : Kept fx s) : Completes fx (execStxnAbortReceived source
    number s) := by
  unfold execStxnAbortReceived
  split
  · exact completes_ite (completes_ans (kept_plcUnicast (kept_releasePart (kept_setPart hs)))) (completes_ans hs)
  · exact completes_ans hs

theorem kept_sendReport {p : SitePart} {outcome : Nat} (hs : Kept fx s) : Kept fx (sendReport p outcome s) := by
  unfold sendReport
  exact kept_plcUnicast hs

theorem kept_applyPart {p : SitePart} (hs : Kept fx s) : Kept fx (applyPart p s) := by
  unfold applyPart
  extract_lets held x s1
  have hs1 : Kept fx s1 := kept_releasePart (kept_other hs)
  exact kept_ite hs1 (kept_ite (kept_sendReport hs1) (kept_sendReport (kept_afterParams (kept_applyActs hs1))))

theorem completes_execStxnApply {source number : Nat} (hs : Kept fx s) : Completes fx (execStxnApply source number s) := by
  unfold execStxnApply
  split
  · exact completes_ans hs
  · refine completes_ite (completes_ans hs) ?_
    refine completes_ite ?_ ?_
    · split
      · exact completes_ite (completes_ans (kept_applyCoordinator hs)) (completes_ans hs)
      · exact completes_ans hs
    · split
      · exact completes_ite (completes_ans (kept_applyPart hs)) (completes_ans hs)
      · exact completes_ans hs

theorem kept_markParts (hs : Kept fx s) : Kept fx (markParts s) := by
  unfold markParts
  exact kept_other hs

end Sys2Proof.Machine
end

section
/-! SUPPORT. The invariant kept by resets, bring-up, the vault, supplies and power fail (chapter 04): one lemma for each operation, in the order of the model. -/

namespace Sys2Proof.Machine

open Host (Cell Outcome)

variable {fx : Fixed} {s : State}

theorem storeWf_foldl_storePut {l m : List (Nat × Nat)} (h : storeWf m) :
    storeWf (l.foldl (fun m x => storePut m (x.1 / 256) (x.1 % 256) x.2) m) := by
  induction l generalizing m with
  | nil => exact h
  | cons x l ih => exact ih (storeWf_storePut _ _ _ h)

/-- The parameter values of a start are those persisted, with others put to them. -/
theorem storeWf_startParams0 {pendings : Bool} (h : storeWf s.persisted) : storeWf (startParams0 pendings s) := by
  have hstart := storeWf_foldl_storePut (l := s.params.filter fun x => sealedKey x.1) (storeWf_filter (fun x => persistable x.1) h)
  unfold startParams0
  extract_lets put m
  split
  · exact storeWf_foldl_storePut (storeWf_foldl_storePut hstart)
  · exact hstart

/-- What a module reset or a restart of the cores starts with. -/
theorem sound_of_emptyQueues {t : State} (hs : Sound s) (hf : t.frame < 2 ^ 48) (hq : t.queues = .replicate 4 {})
    (hp : storeWf t.params) (hflash : t.persisted = s.persisted) (himg : t.sys.toPersist = none) (hn : t.nfc = s.nfc)
    (hd : t.dsp = s.dsp) : Sound t where
  frame := hf
  queues q := by simp only [hq, Fin.getElem_fin, Vector.getElem_replicate, List.length_nil]; omega
  params := hp
  persisted := hflash ▸ hs.persisted
  image := by simp only [himg, reduceCtorEq, false_implies, implies_true]
  tag := hn ▸ hs.tag
  picture := hd ▸ hs.picture

/-- The fixed fields after a module reset. -/
def Fixed.afterReset (fx : Fixed) : Fixed :=
  { fx with frame := 0, skips := [], powerFail := none, cycles := State.reset.mtr.cycles }

theorem kept_moduleReset {source reason : Nat} (hs : Kept fx s) : Kept fx.afterReset (moduleReset source reason s) := by
  unfold moduleReset
  extract_lets t
  have ht : Kept fx t := kept_slkReset (kept_nfcReset (kept_dspReset (kept_updReset (kept_onyxReset (kept_fltReset hs)))))
  clear_value t
  obtain ⟨p, hp, rfl⟩ := ht.source
  refine ⟨fun ha => ?_, rfl⟩
  exact sound_of_emptyQueues (hp ha) (Nat.two_pow_pos 48) rfl (storeWf_startParams0 (pendings := true) (hp ha).persisted) rfl rfl rfl rfl

theorem kept_releaseReset {source : Nat} (hs : Kept fx s) : Kept fx (releaseReset source s) := by
  unfold releaseReset
  extract_lets src beryl s1 s2
  have hsrc : Kept fx src := kept_modSys hs fun _ => ⟨rfl, rfl, rfl, rfl⟩
  have hs1 : Kept fx s1 := kept_other hsrc
  have hs2 : Kept fx s2 := kept_retirementsRestored (kept_ev hs1)
  exact kept_ite (kept_bootLoader hs2) hs2

theorem kept_resetHeld {source : Nat} (hs : Kept fx s) : Kept fx.afterReset (resetHeld source s) :=
  kept_modSys (kept_moduleReset hs) fun _ => ⟨rfl, rfl, rfl, rfl⟩

theorem kept_resetNow {source reason : Nat} (hs : Kept fx s) : Kept fx.afterReset (resetNow source reason s) :=
  kept_releaseReset (kept_moduleReset hs)

theorem Kept.withVmain (hs : Kept fx s) (v : Nat) : Kept { fx with vmain := v } (modSys (fun y => { y with vmain := v }) s) := by
  obtain ⟨p, hp, rfl⟩ := hs.source
  refine ⟨fun ha => ?_, rfl⟩
  obtain ⟨h1, h2, h3, h4, h5, h6, h7⟩ := hp ha
  exact ⟨h1, h2, h3, h4, h5, h6, h7⟩

theorem completes_execMainInputLow {vmain : Nat} (hs : Kept fx s) : Completes fx (execMainInputLow vmain s) := by
  unfold execMainInputLow
  exact completes_ite ((kept_resetHeld (hs.withVmain vmain)).completes id rfl) ((hs.withVmain vmain).completes id rfl)

theorem kept_vaultLoss (hs : Kept fx s) : Kept fx (vaultLoss s) := by
  unfold vaultLoss
  exact kept_draw (kept_other hs)

theorem completes_execPowerOn {vmain ticks cell : Nat} (hs : Kept fx s) : Completes fx (execPowerOn vmain ticks cell s) := by
  unfold execPowerOn
  refine completes_ite (Kept.completes (fx := { fx with vmain := vmain }) (kept_releaseReset ?_) id rfl) (completes_ans hs)
  exact kept_ite (kept_vaultLoss (kept_other (hs.withVmain vmain))) (kept_other (hs.withVmain vmain))

theorem completes_execRstN {ns : Nat} (hs : Kept fx s) : Completes fx (execRstN ns s) := by
  unfold execRstN
  exact completes_ite ((kept_resetNow hs).completes id rfl) (completes_ans hs)

theorem keeps_resetRules {s : State} : (resetRules s).Keeps := by
  unfold resetRules
  exact keeps_ite (keeps_no _) keeps_done

theorem completes_execReset {h : Hdr} {reason : Nat} (hs : Kept fx s) : Completes fx (execReset h reason s) := by
  unfold execReset
  exact completes_ans (kept_hostCmd (fun _ => keeps_resetRules) hs)

theorem kept_applyReset {reason : Nat} (hs : Kept fx s) : Kept fx (applyReset reason s) := by
  unfold applyReset
  exact kept_modSys (kept_persistLive hs) (fun _ => ⟨rfl, rfl, rfl, rfl⟩)

theorem completes_execResetRelease (hs : Kept fx s) : Completes fx (execResetRelease s) := by
  unfold execResetRelease
  exact completes_ite (completes_ans hs) (completes_ite ((kept_resetNow (kept_writeRecords hs)).completes id rfl)
    (completes_ite ((kept_resetNow (kept_writeRecords hs)).completes id rfl) (completes_ans hs)))

theorem completes_execGarnetUp {ok : Bool} {test : Nat} {fb : List Bool} (hs : Kept fx s) : Completes fx (execGarnetUp ok test
    fb s) := by
  unfold execGarnetUp
  exact completes_ite (completes_ans hs) (completes_ite (completes_ans (kept_garnetStart (kept_modSys hs (fun _ => ⟨rfl, rfl,
    rfl, rfl⟩)))) (completes_ans (kept_ev (kept_modGar (kept_modSys hs (fun _ => ⟨rfl, rfl, rfl, rfl⟩))))))

theorem kept_loaderOutlet {k : Fin 8} (hs : Kept fx s) : Kept fx (loaderOutlet k s) := by
  unfold loaderOutlet
  refine kept_ite hs ?_
  extract_lets live acts s1
  have hs1 : Kept fx s1 := kept_enterState hs
  exact kept_ite hs1 (kept_buildTxn hs1)

theorem kept_enterService {v : Service} (hs : Kept fx s) : Kept fx (enterService v s) := by
  unfold enterService
  extract_lets s1 s2
  have hs1 : Kept fx s1 := kept_modSys hs (fun _ => ⟨rfl, rfl, rfl, rfl⟩)
  have hs2 : Kept fx s2 := kept_ite (kept_modLink hs1) (kept_ite (kept_makeReady hs1) hs1)
  exact kept_ev hs2

theorem kept_enterLoader (hs : Kept fx s) : Kept fx (enterLoader s) := by
  unfold enterLoader
  exact kept_outletsAvail (kept_foldl (kept_enterService hs) (fun _ _ ht => kept_loaderOutlet ht))

theorem completes_execCoarseService (hs : Kept fx s) : Completes fx (execCoarseService s) := by
  unfold execCoarseService
  exact completes_ite (completes_ans (kept_ite (kept_enterLoader (kept_pilotOutputs (kept_outletsAvail (kept_enterService
    (kept_other hs))))) (kept_pilotOutputs (kept_outletsAvail (kept_enterService (kept_other hs)))))) (completes_ans hs)

theorem completes_execImageVerified {sigOk : Bool} (hs : Kept fx s) : Completes fx (execImageVerified sigOk s) := by
  unfold execImageVerified
  exact completes_ite (completes_ans hs) (completes_ans (kept_ite (kept_pilotOutputs (kept_enterLoader (kept_modSys
    (kept_bootImage hs) (fun _ => ⟨rfl, rfl, rfl, rfl⟩)))) (kept_modSys (kept_bootImage hs) (fun _ => ⟨rfl, rfl, rfl, rfl⟩))))

theorem completes_execFullService (hs : Kept fx s) : Completes fx (execFullService s) := by
  unfold execFullService
  exact completes_ite (completes_ans (kept_pilotOutputs (kept_outletsAvail (kept_slkStart (kept_nfcStart (kept_poolStart
    (kept_poolConfig (kept_mtrFull (kept_enterService (kept_modSys hs (fun _ => ⟨rfl, rfl, rfl, rfl⟩))))))))))) (completes_ans
    hs)

theorem completes_execCellMonitor {mV : Nat} (hs : Kept fx s) : Completes fx (execCellMonitor mV s) := by
  unfold execCellMonitor
  extract_lets x s1
  have hs1 : Kept fx s1 := kept_other hs
  exact completes_ite (completes_ans (kept_modSys hs1 (fun _ => ⟨rfl, rfl, rfl, rfl⟩))) (completes_ite (completes_ans hs1)
    (completes_ans (kept_ev (kept_modSys hs1 (fun _ => ⟨rfl, rfl, rfl, rfl⟩)))))

theorem kept_tamperOpen {loop : Nat} (hs : Kept fx s) : Kept fx (tamperOpen loop s) := by
  unfold tamperOpen
  extract_lets up told b t s1 s2
  have hs1 : Kept fx s1 := kept_other hs
  have hs2 : Kept fx s2 := kept_ite (kept_markBits (kept_logEntry hs1)) hs1
  exact kept_ite (kept_ev hs2) hs2

theorem completes_execTamperSample {open0 open1 : Bool} (hs : Kept fx s) : Completes fx (execTamperSample open0 open1 s) := by
  unfold execTamperSample
  refine completes_ite (completes_ans hs) ?_
  extract_lets s1
  have hs1 : Kept fx s1 := kept_ite (kept_tamperOpen hs) hs
  exact completes_ans (kept_ite (kept_tamperOpen hs1) hs1)

theorem kept_powerFailTxns (hs : Kept fx s) : Kept fx (powerFailTxns s) := by
  unfold powerFailTxns
  exact kept_other (kept_foldl hs (fun _ _ ht => kept_ite (kept_txnEv (kept_leaveBook (kept_dropTxn ht))) (kept_other ht)))

theorem kept_reserveAll (hs : Kept fx s) : Kept fx (reserveAll s) := by
  unfold reserveAll
  dsimp only
  split
  · exact hs
  · exact kept_other hs

theorem kept_powerDownOutlet {k : Fin 8} (hs : Kept fx s) : Kept fx (powerDownOutlet k s) := by
  unfold powerDownOutlet
  exact kept_vlkOff (kept_modOut (kept_enterState hs))

theorem kept_powerFailStep3 (hs : Kept fx s) : Kept { fx with powerFail := some fx.frame } (powerFailStep3 s) := by
  unfold powerFailStep3
  have hfail : Kept { fx with powerFail := some fx.frame }
      (modSys (fun y => { y with powerFail := some s.frame, resetDue := none }) s) := by
    obtain ⟨p, hp, rfl⟩ := hs.source
    refine ⟨fun ha => ?_, rfl⟩
    obtain ⟨h1, h2, h3, h4, h5, h6, h7⟩ := hp ha
    exact ⟨h1, h2, h3, h4, h5, h6, h7⟩
  exact kept_cdStopAll (kept_onyxPowerFail (kept_reserveAll (kept_powerFailTxns (kept_cancelMoves hfail))))

theorem kept_powerFailStep6 (hs : Kept fx s) : Kept fx (powerFailStep6 s) := by
  unfold powerFailStep6
  exact kept_ev (kept_writeRecords (kept_slkPowerFail (kept_readerOff (kept_auxPowerOff (kept_foldl (kept_foldl hs (fun _ _ ht
    => kept_ite ht (kept_pgSet ht))) (fun _ _ ht => kept_powerDownOutlet ht))))))

theorem completes_execPowerDownOpen (hs : Kept fx s) : Completes fx (execPowerDownOpen s) := by
  unfold execPowerDownOpen
  split
  · exact completes_ans hs
  · exact completes_ite (completes_ans hs) (completes_ans (kept_foldl (kept_foldl hs (fun _ _ ht => kept_ite (kept_step2Act ht)
      ht)) (fun _ _ ht => kept_ite (kept_step2Act ht) ht)))

theorem kept_recoverStamp (hs : Kept fx s) : Kept fx (recoverStamp s) := by
  unfold recoverStamp
  split
  · exact hs
  · exact kept_ite hs (kept_ite (kept_modSys hs (fun _ => ⟨rfl, rfl, rfl, rfl⟩)) (kept_modSys hs (fun _ => ⟨rfl, rfl, rfl,
      rfl⟩)))

theorem completes_execPowerFailRecovery (hs : Kept fx s) : Completes fx (execPowerFailRecovery s) := by
  unfold execPowerFailRecovery
  split
  · exact completes_ans hs
  · exact completes_ite (Kept.completes (kept_ite (kept_resetHeld hs) (kept_resetNow hs)) id rfl) (completes_ans hs)

theorem completes_execVioLow (hs : Kept fx s) : Completes fx (execVioLow s) := by
  unfold execVioLow
  exact completes_ans (kept_sealStamp (kept_foldl (kept_modLink (kept_modSys hs (fun _ => ⟨rfl, rfl, rfl, rfl⟩))) (fun _ _ ht
    => kept_modInputFault ht)))

theorem completes_execVioRestored (hs : Kept fx s) : Completes fx (execVioRestored s) := by
  unfold execVioRestored
  exact completes_ans (kept_modSys hs (fun _ => ⟨rfl, rfl, rfl, rfl⟩))

theorem completes_execPilotSupplyFault (hs : Kept fx s) : Completes fx (execPilotSupplyFault s) := by
  unfold execPilotSupplyFault
  exact completes_ans (kept_foldl hs (fun _ _ ht => kept_modOut ht))

theorem completes_execPilotSupplyOk (hs : Kept fx s) : Completes fx (execPilotSupplyOk s) := by
  unfold execPilotSupplyOk
  exact completes_ans (kept_pilotOutputs (kept_foldl hs (fun _ _ ht => kept_modOut ht)))

theorem kept_coresRestart (hs : Kept fx s) : Kept { fx with skips := [] } (coresRestart s) := by
  unfold coresRestart
  extract_lets agate restarts t t'
  have ht : Kept fx t := kept_slkReset (kept_nfcReset (kept_dspReset (kept_updReset (kept_fltReset hs))))
  have ht' : Kept fx t' := kept_foldl (kept_auxPowerOff ht) fun _ _ h => kept_vlkOff h
  clear_value t'
  obtain ⟨p, hp, rfl⟩ := ht'.source
  refine ⟨fun ha => ?_, rfl⟩
  exact sound_of_emptyQueues (hp ha) (hp ha).frame rfl (storeWf_startParams0 (pendings := false) (hp ha).persisted) rfl rfl rfl rfl

theorem completes_execLockstepMismatch (hs : Kept fx s) : Completes fx (execLockstepMismatch s) := by
  unfold execLockstepMismatch
  refine completes_ite (completes_ans hs) (completes_ite (Kept.completes (fx := { fx with skips := [] }) ?_ id rfl)
    (Kept.completes (fx := { fx with skips := [] }) ?_ id rfl))
  · exact kept_modSys (kept_coresRestart hs) fun _ => ⟨rfl, rfl, rfl, rfl⟩
  · exact kept_ev (kept_ev (kept_ev (kept_coresRestart hs)))

theorem kept_hostLossOutlet {k : Fin 8} (hs : Kept fx s) : Kept fx (hostLossOutlet k s) := by
  unfold hostLossOutlet
  exact kept_ite (kept_stopSession hs) hs

theorem completes_execCmdHostLost (hs : Kept fx s) : Completes fx (execCmdHostLost s) := by
  unfold execCmdHostLost
  exact completes_ite (completes_ans (kept_foldl (kept_ev (kept_modLink hs)) (fun _ _ ht => kept_hostLossOutlet ht)))
    (completes_ans hs)

end Sys2Proof.Machine
end

section
/-! SUPPORT. The invariant kept by admission, effects and replies (chapter 02): one lemma for each operation, in the order of the model. -/

namespace Sys2Proof.Machine

open Host (Cell Outcome)

variable {fx : Fixed} {s : State}

theorem Completes.kept_nextOf {o : Outcome State Fault Refusal} (h : Completes fx o) (s : State) :
    (fx.asks → Sound (nextOf s o)) ∧ (nextOf s o).pending = fx.pending := by
  obtain ⟨t, rfl, ht, hp⟩ := h
  exact ⟨ht, hp⟩

/-- Every command that an opcode's row may spell completes. -/
def OpCompletes (x : HostOp) : Prop :=
  ∀ h b m, x.2 h b = some m → ∀ fx s, Kept fx s → Completes fx (m s)

theorem opCompletes_fixed {op : Nat} {n : List Byte → Nat} {m : Hdr → List Byte → State → Outcome State Fault Refusal}
    (hm : ∀ {h b fx s}, Kept fx s → Completes fx (m h b s)) : OpCompletes (op, fun h p => fixed (n p) p (m h p)) := by
  intro h b m' hsome fx s hs
  obtain ⟨_, hsome⟩ := Option.ite_none_right_eq_some.mp hsome
  exact Option.some.inj hsome ▸ hm hs

theorem opCompletes_atLeast {op : Nat} {n : List Byte → Nat} {m : Hdr → List Byte → State → Outcome State Fault Refusal}
    (hm : ∀ {h b fx s}, Kept fx s → Completes fx (m h b s)) : OpCompletes (op, fun h p => atLeast (n p) p (m h p)) := by
  intro h b m' hsome fx s hs
  obtain ⟨_, hsome⟩ := Option.ite_none_right_eq_some.mp hsome
  exact Option.some.inj hsome ▸ hm hs

theorem opCompletes_entryField {op : Nat} {m : Hdr → Nat → List PEntry → State → Outcome State Fault Refusal}
    (hm : ∀ {h n es fx s}, Kept fx s → Completes fx (m h n es s)) : OpCompletes (op, fun h p => entryField p (m h)) := by
  intro h b m' hsome fx s hs
  obtain ⟨_, hsome⟩ := Option.ite_none_left_eq_some.mp hsome
  obtain ⟨es, _, rfl⟩ := Option.map_eq_some_iff.mp hsome
  exact hm hs

theorem opCompletes_systemOps : ∀ x ∈ systemOps, OpCompletes x := by
  simp only [systemOps, List.forall_mem_cons]
  exact ⟨opCompletes_fixed fun hs => completes_execNop hs,
    opCompletes_fixed fun hs => completes_execIdentify hs,
    opCompletes_fixed fun hs => completes_execLinkInfo hs,
    opCompletes_fixed fun hs => completes_execEthHello hs,
    opCompletes_fixed fun hs => completes_execEthClose hs,
    opCompletes_fixed fun hs => completes_execFrameRead hs,
    opCompletes_fixed fun hs => completes_execPskSet hs,
    opCompletes_fixed fun hs => completes_execPskClear hs,
    opCompletes_fixed fun hs => completes_execReset hs,
    opCompletes_fixed fun hs => completes_execParamRead hs,
    opCompletes_entryField fun hs => completes_execParamWrite hs,
    opCompletes_fixed fun hs => completes_execParamInfo hs,
    opCompletes_fixed fun hs => completes_execParamList hs,
    opCompletes_entryField fun hs => completes_execParamWriteX hs,
    opCompletes_fixed fun hs => completes_execParamDefaultX hs,
    opCompletes_fixed fun hs => completes_execQueueRead hs,
    opCompletes_fixed fun hs => completes_execQueueDrop hs,
    opCompletes_fixed fun hs => completes_execQueueStatus hs,
    nofun⟩

theorem opCompletes_sessionOps : ∀ x ∈ sessionOps, OpCompletes x := by
  simp only [sessionOps, List.forall_mem_cons]
  exact ⟨opCompletes_fixed fun hs => completes_execTxnOpen hs,
    opCompletes_fixed fun hs => completes_execTxnStage hs,
    opCompletes_fixed fun hs => completes_execTxnCheck hs,
    opCompletes_fixed fun hs => completes_execTxnCommit hs,
    opCompletes_fixed fun hs => completes_execTxnAbort hs,
    opCompletes_fixed fun hs => completes_execTxnQuery hs,
    opCompletes_fixed fun hs => completes_execTxnList hs,
    opCompletes_fixed fun hs => completes_execOutStart hs,
    opCompletes_fixed fun hs => completes_execOutStop hs,
    opCompletes_fixed fun hs => completes_execOutLimit hs,
    opCompletes_fixed fun hs => completes_execOutDeny hs,
    opCompletes_fixed fun hs => completes_execOutStatus hs,
    opCompletes_fixed fun hs => completes_execOutPilotX hs,
    nofun⟩

theorem opCompletes_poolOps : ∀ x ∈ poolOps, OpCompletes x := by
  simp only [poolOps, List.forall_mem_cons]
  exact ⟨opCompletes_fixed fun hs => completes_execPolAssign hs,
    opCompletes_fixed fun hs => completes_execPolStatus hs,
    opCompletes_fixed fun hs => completes_execPolProfileInfo hs,
    opCompletes_fixed fun hs => completes_execPolProfileLoadX hs,
    opCompletes_fixed fun hs => completes_execPolPgClearX hs,
    opCompletes_fixed fun hs => completes_execVlkStatus hs,
    opCompletes_atLeast fun hs => completes_execVlkSchedule hs,
    opCompletes_atLeast fun hs => completes_execVlkCertResp hs,
    opCompletes_fixed fun hs => completes_execVlkStatsClear hs,
    opCompletes_fixed fun hs => completes_execVlkKeygenX hs,
    opCompletes_atLeast fun hs => completes_execVlkCertLoadX hs,
    opCompletes_fixed fun hs => completes_execVlkKeyClearX hs,
    opCompletes_fixed fun hs => completes_execVlkLoopbackX hs,
    nofun⟩

theorem opCompletes_legalOps : ∀ x ∈ legalOps, OpCompletes x := by
  simp only [legalOps, List.forall_mem_cons]
  exact ⟨opCompletes_fixed fun hs => completes_execMtrRead hs,
    opCompletes_fixed fun hs => completes_execMtrHarm hs,
    opCompletes_fixed fun hs => completes_execMtrCalInfo hs,
    opCompletes_fixed fun hs => completes_execMtrCalOpenX hs,
    opCompletes_fixed fun hs => completes_execMtrCalMeasureX hs,
    opCompletes_fixed fun hs => completes_execMtrCalResultX hs,
    opCompletes_fixed fun hs => completes_execMtrCalSealX hs,
    opCompletes_fixed fun hs => completes_execMtrCalCloseX hs,
    opCompletes_fixed fun hs => completes_execLegRead hs,
    opCompletes_fixed fun hs => completes_execLegReading hs,
    opCompletes_fixed fun hs => completes_execLegReadingGet hs,
    opCompletes_fixed fun hs => completes_execLegClockSet hs,
    opCompletes_fixed fun hs => completes_execLegClockRead hs,
    opCompletes_fixed fun hs => completes_execLegTariffSet hs,
    opCompletes_fixed fun hs => completes_execLegTariffInfo hs,
    opCompletes_fixed fun hs => completes_execLegLogRead hs,
    opCompletes_fixed fun hs => completes_execLegProfileRead hs,
    opCompletes_fixed fun hs => completes_execLegInfo hs,
    opCompletes_fixed fun hs => completes_execLegTzSet hs,
    opCompletes_fixed fun hs => completes_execLegTariffLoadX hs,
    opCompletes_fixed fun hs => completes_execLegAccessX hs,
    opCompletes_entryField fun hs => completes_execLegCfgStageX hs,
    opCompletes_fixed fun hs => completes_execLegCfgSealX hs,
    opCompletes_fixed fun hs => completes_execLegCfgDiscardX hs,
    nofun⟩

theorem opCompletes_safetyOps : ∀ x ∈ safetyOps, OpCompletes x := by
  simp only [safetyOps, List.forall_mem_cons]
  exact ⟨opCompletes_fixed fun hs => completes_execEfiStatus hs,
    opCompletes_fixed fun hs => completes_execEfiRdcTest hs,
    opCompletes_fixed fun hs => completes_execEfiImdTestX hs,
    opCompletes_fixed fun hs => completes_execSafStatus hs,
    opCompletes_fixed fun hs => completes_execSafWhy hs,
    opCompletes_fixed fun hs => completes_execSafCdEnable hs,
    opCompletes_fixed fun hs => completes_execSafBrakeTest hs,
    opCompletes_fixed fun hs => completes_execSafReset hs,
    opCompletes_fixed fun hs => completes_execSafInfo hs,
    opCompletes_entryField fun hs => completes_execSafCfgStageX hs,
    opCompletes_fixed fun hs => completes_execSafCfgVerifyX hs,
    opCompletes_fixed fun hs => completes_execSafCfgCommitX hs,
    opCompletes_fixed fun hs => completes_execSafCfgDiscardX hs,
    opCompletes_fixed fun hs => completes_execAuxSet hs,
    opCompletes_fixed fun hs => completes_execAuxStatus hs,
    opCompletes_fixed fun hs => completes_execAuxClear hs,
    nofun⟩

theorem opCompletes_siteOps : ∀ x ∈ siteOps, OpCompletes x := by
  simp only [siteOps, List.forall_mem_cons]
  exact ⟨opCompletes_fixed fun hs => completes_execSlkStatus hs,
    opCompletes_fixed fun hs => completes_execSlkNodes hs,
    opCompletes_atLeast fun hs => completes_execSlkSend hs,
    opCompletes_atLeast fun hs => completes_execSlkSched hs,
    opCompletes_fixed fun hs => completes_execSlkSchedCancel hs,
    opCompletes_fixed fun hs => completes_execSlkSchedList hs,
    opCompletes_fixed fun hs => completes_execSlkKeySetX hs,
    opCompletes_fixed fun hs => completes_execSlkTonemapX hs,
    opCompletes_fixed fun hs => completes_execNfcStatus hs,
    opCompletes_fixed fun hs => completes_execNfcRdPoll hs,
    opCompletes_atLeast fun hs => completes_execNfcRdXchg hs,
    opCompletes_fixed fun hs => completes_execNfcRdRelease hs,
    opCompletes_fixed fun hs => completes_execNfcTagRead hs,
    opCompletes_atLeast fun hs => completes_execNfcTagWrite hs,
    opCompletes_fixed fun hs => completes_execNfcInfo hs,
    opCompletes_fixed fun hs => completes_execNfcSigLoadX hs,
    opCompletes_fixed fun hs => completes_execNfcLpCalX hs,
    nofun⟩

theorem opCompletes_serviceOps : ∀ x ∈ serviceOps, OpCompletes x := by
  simp only [serviceOps, List.forall_mem_cons]
  exact ⟨opCompletes_fixed fun hs => completes_execDspStatus hs,
    opCompletes_atLeast fun hs => completes_execDspWrite hs,
    opCompletes_fixed fun hs => completes_execDspRead hs,
    opCompletes_fixed fun hs => completes_execDspShowCheck hs,
    opCompletes_fixed fun hs => completes_execDspMapLoadX hs,
    opCompletes_fixed fun hs => completes_execFltStatus hs,
    opCompletes_fixed fun hs => completes_execFltLogRead hs,
    opCompletes_fixed fun hs => completes_execFltReturnX hs,
    opCompletes_fixed fun hs => completes_execFltRetireX hs,
    opCompletes_fixed fun hs => completes_execUpdStatus hs,
    opCompletes_fixed fun hs => completes_execUpdOpenX hs,
    opCompletes_atLeast fun hs => completes_execUpdWriteX hs,
    opCompletes_fixed fun hs => completes_execUpdFinishX hs,
    opCompletes_fixed fun hs => completes_execUpdScheduleX hs,
    opCompletes_fixed fun hs => completes_execUpdCancelX hs,
    opCompletes_fixed fun hs => completes_execUpdAbandonX hs,
    opCompletes_fixed fun hs => completes_execUpdSiteSendX hs,
    nofun⟩

theorem hostOp_completes {op : Nat} {x : HostOp} (hx : hostOp op = some x) : OpCompletes x := by
  have hmem := List.mem_of_find?_eq_some hx
  simp only [List.flatten_cons, List.flatten_nil, List.append_nil, List.mem_append] at hmem
  rcases hmem with h | h | h | h | h | h | h
  · exact opCompletes_systemOps x h
  · exact opCompletes_sessionOps x h
  · exact opCompletes_poolOps x h
  · exact opCompletes_legalOps x h
  · exact opCompletes_safetyOps x h
  · exact opCompletes_siteOps x h
  · exact opCompletes_serviceOps x h

theorem Kept.sound_pending (h : Kept fx s) : (fx.asks → Sound s) ∧ s.pending = fx.pending := ⟨h.sound, congrArg Fixed.pending h.fixed⟩

theorem sound_admitOne {w : WaitPkt} (hs : Kept fx s) : (fx.asks → Sound (admitOne w s)) ∧ (admitOne w s).pending = fx.pending := by
  unfold admitOne
  extract_lets b n op h
  split
  · exact hs.sound_pending
  split
  · exact (kept_refuseNow (kept_noteAdmitted hs)).sound_pending
  split
  · exact (kept_refuseNow (kept_noteAdmitted hs)).sound_pending
  split
  · exact (kept_inWindow (fun _ _ => kept_refuseNow) hs).sound_pending
  case _ x hx =>
    split
    case _ m hm =>
      obtain ⟨t, ht, hsound⟩ := hostOp_completes hx _ _ m hm fx s hs
      exact ht ▸ hsound
    · exact (kept_inWindow (fun _ _ => kept_refuseNow) hs).sound_pending

/-- The state that an effect or a result comes with keeps what every operation keeps. -/
def KeptIn {α : Type} (fx : Fixed) (x : Option (State × α)) : Prop := ∀ y, x = some y → Kept fx y.1

theorem keptIn_none {α : Type} : KeptIn fx (none : Option (State × α)) := by
  intro y hy
  cases hy

theorem keptIn_some {α : Type} {y : State × α} (h : Kept fx y.1) : KeptIn fx (some y) := fun _ e => Option.some.inj e ▸ h

theorem KeptIn.getD {α : Type} {x : Option (State × α)} {y : State × α} (hx : KeptIn fx x) (hy : Kept fx y.1) :
    Kept fx (x.getD y).1 := by
  cases x with
  | none => exact hy
  | some z => exact hx z rfl

theorem kept_plain (h : Kept fx s) : Kept fx (plain s).1 := h

theorem kept_withBytes {d : DueCmd} {x : State × List Byte} (h : Kept fx x.1) : Kept fx (withBytes d x).1 := h

theorem keptIn_plain (h : Kept fx s) : KeptIn fx (some (plain s)) := keptIn_some h

theorem keptIn_withBytes {d : DueCmd} {x : State × List Byte} (h : Kept fx x.1) : KeptIn fx (some (withBytes d x)) := keptIn_some h

theorem keptIn_applyFirst {d : DueCmd} (hs : Kept fx s) : KeptIn fx (applyFirst d s) := by
  unfold applyFirst
  split
  · exact keptIn_some (kept_applyHello hs)
  · exact keptIn_plain (kept_applyPskSet hs)
  · exact keptIn_plain (kept_applyPskClear hs)
  · exact keptIn_plain (kept_applyReset hs)
  · exact keptIn_plain (kept_applyParamWrite hs)
  · exact keptIn_plain (kept_applyParamWrite hs)
  · exact keptIn_plain (kept_applyWrites hs)
  · exact keptIn_plain (kept_applyOutPilot hs)
  · exact keptIn_plain (kept_applyProfileLoad hs)
  · exact keptIn_plain (kept_applyPgClear hs)
  · exact keptIn_plain (kept_applySchedule hs)
  · exact keptIn_plain (kept_applyCertResp hs)
  · exact keptIn_plain (kept_applyStatsClear hs)
  · exact keptIn_plain (kept_applyKeygen hs)
  · exact keptIn_plain (kept_applyCertLoad hs)
  · exact keptIn_plain (kept_applyKeyClear hs)
  · exact keptIn_none

theorem keptIn_applySecond {d : DueCmd} (hs : Kept fx s) : KeptIn fx (applySecond d s) := by
  unfold applySecond
  split
  · exact keptIn_plain (kept_applyCalOpen hs)
  · exact keptIn_plain (kept_applyCalMeasure hs)
  · exact keptIn_plain (kept_applyCalSeal hs)
  · exact keptIn_plain (kept_applyCalClose hs)
  · exact keptIn_withBytes (kept_applyClockSet hs)
  · exact keptIn_plain (kept_ite (kept_selectTariff hs) hs)
  · exact keptIn_plain (kept_applyTzSet hs)
  · exact keptIn_plain (kept_applyTariffLoad hs)
  · exact keptIn_plain (kept_applyAccess hs)
  · exact keptIn_plain (kept_applyCfgStage hs)
  · exact keptIn_plain (kept_applyCfgSeal hs)
  · exact keptIn_plain (kept_applyCfgDiscard hs)
  · exact keptIn_plain (kept_applyRdcTest hs)
  · exact keptIn_plain (kept_applyImdTest hs)
  · exact keptIn_plain (kept_applySafStage hs)
  · exact keptIn_plain (kept_applySafVerify hs)
  · exact keptIn_plain (kept_applySafCommit hs)
  · exact keptIn_plain (kept_safDiscard hs)
  · exact keptIn_plain (kept_applySafReset hs)
  · exact keptIn_plain (kept_applyAuxClear hs)
  · exact keptIn_none

theorem kept_applyThird {d : DueCmd} (hs : Kept fx s) : Kept fx (applyThird d s).1 := by
  unfold applyThird
  split
  · exact kept_withBytes (kept_applySlkSend hs)
  · exact kept_withBytes (kept_applySched hs)
  · exact kept_plain (kept_applySchedCancel hs)
  · exact kept_plain (kept_applySlkKey hs)
  · exact kept_plain (kept_applyTonemap hs)
  · exact kept_plain (kept_applyRdPoll hs)
  · exact kept_plain (kept_applyRdXchg hs)
  · exact kept_plain (kept_applyRdRelease hs)
  · exact kept_plain (kept_applyTagWrite hs)
  · exact kept_plain (kept_applySigLoad hs)
  · exact kept_plain (kept_applyLpCal hs)
  · exact kept_plain (kept_applyDspWrite hs)
  · exact kept_plain (kept_applyMapLoad hs)
  · exact kept_plain (kept_applyFltReturn hs)
  · exact kept_plain (kept_applyFltRetire hs)
  · exact kept_plain (kept_applyUpdOpen hs)
  · exact kept_plain (kept_applyUpdWrite hs)
  · exact kept_plain (kept_applyUpdFinish hs)
  · exact kept_plain (kept_applyUpdAbandon hs)
  · exact kept_plain (kept_applyUpdSchedule hs)
  · exact kept_plain (kept_applyUpdCancel hs)
  · exact kept_withBytes (kept_applyUpdSiteSend hs)
  · exact kept_plain hs

theorem kept_applyCmd {d : DueCmd} (hs : Kept fx s) : Kept fx (applyCmd d s).1 := by
  unfold applyCmd
  exact (keptIn_applyFirst hs).getD ((keptIn_applySecond hs).getD (kept_applyThird hs))

theorem kept_applyDue {d : DueCmd} (hs : Kept fx s) : Kept fx (applyDue d s) := by
  have hcmd := kept_applyCmd (d := d) hs
  unfold applyDue
  dsimp only
  refine kept_ite (kept_other hs) ?_
  split
  case _ heq => rw [heq] at hcmd; exact kept_other hcmd
  case _ heq => rw [heq] at hcmd; exact hcmd

theorem kept_applyDues (hs : Kept fx s) : Kept fx (applyDues s) := by
  unfold applyDues
  exact kept_foldl hs (fun _ _ ht => kept_applyDue ht)

theorem keptIn_resultFirst {cmd : Instr} (hs : Kept fx s) : KeptIn fx (resultFirst cmd s) := by
  unfold resultFirst
  split
  · exact keptIn_some hs
  · exact keptIn_some (kept_ite (kept_modCounters hs) hs)
  · exact keptIn_some hs
  · exact keptIn_some hs
  · exact keptIn_some hs
  · exact keptIn_some hs
  · exact keptIn_some hs
  · exact keptIn_some (kept_readQueue hs)
  · exact keptIn_some (kept_dropQueue hs)
  · exact keptIn_some (kept_statusQueue hs)
  · exact keptIn_some hs
  · exact keptIn_some hs
  · exact keptIn_some hs
  · exact keptIn_some hs
  · exact keptIn_some hs
  · exact keptIn_some hs
  · exact keptIn_some hs
  · exact keptIn_some hs
  · exact keptIn_some hs
  · exact keptIn_none

theorem kept_liveResult {d : DueCmd} (hs : Kept fx s) : Kept fx (liveResult d s).1 := by
  unfold liveResult
  split
  · exact hs
  · exact (keptIn_resultFirst hs).getD hs

theorem kept_formReply {d : DueCmd} (hs : Kept fx s) : Kept fx (formReply d s) := by
  unfold formReply
  refine kept_ite ?_ (kept_ite (kept_other (kept_liveResult hs)) (kept_sendReply (kept_other (kept_liveResult hs))))
  split
  · exact kept_closeSession (kept_ite (kept_other (kept_liveResult hs)) (kept_sendReply (kept_other (kept_liveResult hs))))
  · exact kept_ite (kept_other (kept_liveResult hs)) (kept_sendReply (kept_other (kept_liveResult hs)))

theorem kept_formReplies (hs : Kept fx s) : Kept fx (formReplies s) := by
  unfold formReplies
  exact kept_ite hs (kept_modLink (kept_foldl (kept_modLink hs) (fun _ _ ht => kept_formReply ht)))

theorem completes_execReadReply {count : Nat} (hs : Kept fx s) : Completes fx (execReadReply count s) := by
  unfold execReadReply
  refine completes_ite (completes_ans hs) ?_
  extract_lets s1
  have hs1 : Kept fx s1 := kept_formReplies hs
  split
  · exact completes_ans (kept_modLink hs1)
  · exact completes_ans (kept_modLink hs1)

theorem completes_execReadStatus (hs : Kept fx s) : Completes fx (execReadStatus s) := by
  unfold execReadStatus
  exact completes_ite (completes_ans hs) (completes_ans (kept_modLink (kept_formReplies hs)))

theorem completes_execLinkSync (hs : Kept fx s) : Completes fx (execLinkSync s) := by
  unfold execLinkSync
  exact completes_ite (completes_ans hs) (completes_ans (kept_other (kept_formReplies hs)))

theorem sound_admitSome {p : Prop} {n : Nat} (hs : p → Sound s) : (p → Sound (admitSome n s)) ∧ (admitSome n s).pending = s.pending := by
  induction n generalizing s with
  | zero => exact ⟨hs, rfl⟩
  | succ n ih =>
    rw [admitSome]
    split
    · exact ⟨hs, rfl⟩
    case _ w rest _ =>
      obtain ⟨hone, hp⟩ := sound_admitOne (w := w)
        (kept_modLink (f := fun l => { l with waiting := rest, admitCount := l.admitCount + 1 }) (kept_of_imp hs))
      obtain ⟨hrest, hp'⟩ := ih hone
      exact ⟨hrest, hp'.trans hp⟩

theorem completes_execPacketAdmission (hs : Kept fx s) : Completes fx (execPacketAdmission s) := by
  unfold execPacketAdmission
  refine completes_ite (completes_ans hs) ?_
  extract_lets f s1 n now s2
  have h1 : Kept fx s1 := kept_ite hs (kept_modLink hs)
  have h2 : Kept fx s2 := kept_formReplies (kept_foldl h1 fun _ _ h => kept_noteAdmitted h)
  obtain ⟨hsound, hp⟩ := sound_admitSome (n := n) (kept_modLink (f := fun l => { l with noted := now.length }) h2).sound
  exact (kept_modLink (kept_of_imp hsound)).completes id (hp.trans (kept_modLink h2).sound_pending.2)

end Sys2Proof.Machine
end

section
/-! SUPPORT. The invariant kept by the frame and the dispatch: one lemma for each operation, in the order of the model. -/

namespace Sys2Proof.Machine

open Host (Cell Outcome)

variable {fx : Fixed} {s : State}

theorem kept_slotJob {j : SlotJob} {f : State → State} (hf : ∀ c s, Kept c s → Kept c (f s)) (hs : Kept fx s) : Kept fx
    (slotJob j f s) := by
  unfold slotJob
  exact kept_ite (hf _ _ hs) hs

theorem kept_outletJobs {k : Fin 8} (hs : Kept fx s) : Kept fx (outletJobs k s) := by
  unfold outletJobs
  exact kept_slotJob (fun fx _ ht => kept_setpoints ht) (kept_slotJob (fun fx _ ht => kept_sessionEval (kept_limitsSlot ht)) hs)

theorem kept_coreJobs (hs : Kept fx s) : Kept fx (coreJobs s) := by
  unfold coreJobs
  exact kept_ite hs (kept_poolSlot (kept_forcedRollbacks (kept_foldl (kept_slotJob (fun fx _ ht => kept_budgetSlot ht)
    (kept_settleExpired hs)) (fun _ _ ht => kept_outletJobs ht))))

theorem kept_garnetJobs (hs : Kept fx s) : Kept fx (garnetJobs s) := by
  unfold garnetJobs
  exact kept_slotJob (fun fx _ ht => kept_slotJob (fun fx _ hu => kept_garnetDecide hu) ht) hs

theorem kept_meterJobs (hs : Kept fx s) : Kept fx (meterJobs s) := by
  unfold meterJobs
  exact kept_slotJob (fun fx _ ht => kept_onyxCommit (kept_foldl ht (fun _ _ hu => kept_bandDecide hu))) hs

theorem kept_endOfFrame (hs : Kept fx s) : Kept fx (endOfFrame s) := by
  unfold endOfFrame
  exact kept_foldl (kept_phase2Slot (kept_finalChecks (kept_meterJobs (kept_slotJob (fun fx _ ht => kept_auxSlot ht)
    (kept_coreJobs (kept_garnetJobs hs)))))) (fun _ _ ht => kept_brakeTick ht)

theorem kept_stampPartners {e : EdgeIn} (hs : Kept fx s) : Kept fx (stampPartners e s) := by
  unfold stampPartners
  exact kept_modGar (kept_modSys hs (fun _ => ⟨rfl, rfl, rfl, rfl⟩))

theorem kept_stampMeters {e : EdgeIn} (hs : Kept fx s) : Kept { fx with cycles := e.mtrCycles } (stampMeters e s) := by
  unfold stampMeters
  have hlen : Kept { fx with cycles := e.mtrCycles }
      (modMtr (fun x => { x with cycles := e.mtrCycles, temp := e.temp.getD x.temp }) s) := by
    obtain ⟨p, hp, rfl⟩ := hs.source
    refine ⟨fun ha => ?_, rfl⟩
    obtain ⟨h1, h2, h3, h4, h5, h6, h7⟩ := hp ha
    exact ⟨h1, h2, h3, h4, h5, h6, h7⟩
  exact kept_stampPool (kept_stampControls (kept_foldl (kept_stampInputs hlen) fun _ _ h => kept_slotTick h))

theorem kept_stampPilots {e : EdgeIn} (hs : Kept fx s) : Kept fx (stampPilots e s) := by
  unfold stampPilots
  exact kept_vlkToggles (kept_foldl hs (fun _ _ ht => kept_proxStamp (kept_pilotStamp ht)))

theorem kept_stampEfi {ran : Fin 8 → Bool} {e : EdgeIn} (hs : Kept fx s) : Kept fx (stampEfi ran e s) := by
  unfold stampEfi
  exact kept_foldl hs (fun _ _ ht => kept_ite (kept_imdTick (kept_rdcTick ht)) ht)

theorem kept_stampGarnet {old : Nat} {e : EdgeIn} (hs : Kept fx s) : Kept fx (stampGarnet old e s) := by
  unfold stampGarnet
  refine kept_stampGPilots ?_
  refine kept_stampPulses ?_
  refine kept_foldl ?_ ?_
  · refine kept_foldl hs ?_
    intro _ _ ht
    split
    · exact kept_stampSi ht
    · exact kept_modSi ht
  · intro _ _ ht
    split
    · exact kept_stampFb ht
    · exact kept_modSo ht

theorem kept_stampAll {old : Nat} {ran : Fin 8 → Bool} {e : EdgeIn} (hs : Kept fx s) :
    Kept { fx with vmain := e.vmain.getD fx.vmain, cycles := e.mtrCycles } (stampAll old ran e s) := by
  unfold stampAll
  have hsupply : Kept { fx with vmain := e.vmain.getD fx.vmain } (modSys (fun y => { y with vmain := e.vmain.getD y.vmain }) s) := by
    obtain ⟨p, hp, rfl⟩ := hs.source
    refine ⟨fun ha => ?_, rfl⟩
    obtain ⟨h1, h2, h3, h4, h5, h6, h7⟩ := hp ha
    exact ⟨h1, h2, h3, h4, h5, h6, h7⟩
  have hefi := kept_stampEfi (ran := ran) (e := e) (kept_stampPilots (e := e) (kept_stampMeters (e := e) (kept_stampPartners (e := e) hsupply)))
  exact kept_confirmAll (kept_detectStamp (kept_dspStamp (kept_stampReadings (kept_onyxTick
    (kept_foldl (kept_stampGarnet (kept_auxEdge hefi)) fun _ _ h => kept_stampPort h)))))

theorem kept_stampCounts (hs : Kept fx s) : Kept fx (stampCounts s) := by
  unfold stampCounts
  exact kept_poolCounts (kept_foldl hs (fun _ _ ht => kept_sessionCount ht))

theorem kept_applyStep {pf : Bool} {gone : Fin 8 → Bool} (hs : Kept fx s) : Kept fx (applyStep pf gone s) := by
  unfold applyStep
  exact kept_dspStep6 (kept_detectStep6 (kept_imdSlices (kept_pilotOutputs (kept_vlkStep6 (kept_outletsAvail (kept_applyPends
    (kept_poolConfig (kept_ite (kept_powerFailStep6 (kept_auxStep6 (kept_updStep6 (kept_applyDues (kept_wakeStep
    (kept_persistStamp hs)))))) (kept_auxStep6 (kept_updStep6 (kept_applyDues (kept_wakeStep (kept_persistStamp hs)))))))))))))

theorem kept_closeStep (hs : Kept fx s) : Kept fx (closeStep s) := by
  unfold closeStep
  exact kept_ite (kept_closeChanged (kept_formReplies (kept_recoverStamp (kept_markParts (kept_refuseDue (kept_garnetEvents
    hs)))))) (kept_recoverStamp (kept_markParts (kept_refuseDue (kept_garnetEvents hs))))

theorem kept_leaveFrame {e : EdgeIn} (hs : Kept fx s) : Kept fx (leaveFrame e s) := by
  unfold leaveFrame
  exact kept_endOfFrame (kept_dspFlip (kept_foldl (kept_modLink (kept_formReplies (kept_other hs))) (fun _ _ ht =>
    kept_flipWord ht)))

/-- The fixed fields at the edge of the next frame. -/
def Fixed.atEdge (detect : Bool) (e : EdgeIn) (fx : Fixed) : Fixed where
  asks := fx.asks
  pending := fx.pending
  frame := frameAfter fx.frame 1
  skips := []
  vmain := e.vmain.getD fx.vmain
  powerFail := if detect && !fx.powerFail.isSome then some (frameAfter fx.frame 1) else fx.powerFail
  cycles := e.mtrCycles

theorem frameAfter_lt (f d : Nat) : frameAfter f d < 2 ^ 48 := Nat.mod_lt _ (Nat.two_pow_pos 48)

theorem Kept.nextFrame (hs : Kept fx s) (f : Nat) : Kept { fx with frame := frameAfter f 1, skips := [] }
    (modSys (fun y => { y with skips := [] }) { s with frame := frameAfter f 1 }) := by
  obtain ⟨p, hp, rfl⟩ := hs.source
  refine ⟨fun ha => ?_, rfl⟩
  obtain ⟨_, h2, h3, h4, h5, h6, h7⟩ := hp ha
  exact ⟨frameAfter_lt f 1, h2, h3, h4, h5, h6, h7⟩

theorem kept_frameEdge {detect : Bool} {e : EdgeIn} (hs : Kept fx s) (hr : s.sys.inReset = false) :
    Kept (fx.atEdge detect e) (frameEdge detect e s) := by
  have hf : s.frame = fx.frame := congrArg Fixed.frame hs.fixed
  have hpf : powerFailed s = fx.powerFail.isSome := congrArg (fun x : Fixed => x.powerFail.isSome) hs.fixed
  unfold frameEdge
  rw [if_neg (by simp only [hr, Bool.false_eq_true, not_false_eq_true]), hf, hpf]
  extract_lets old supervised drive gone pf s1 s2 s3 s4 s5 s6
  have h1 : Kept fx s1 := kept_leaveFrame hs
  clear_value s1
  have h2 : Kept { fx with frame := frameAfter fx.frame 1, skips := [] } s2 := kept_dspTick (kept_slkTrim (h1.nextFrame _))
  clear_value s2
  have h4 : Kept { fx.atEdge false e with powerFail := fx.powerFail } s4 :=
    kept_ite (kept_garnetStep2 (kept_stampAll h2)) (kept_stampAll h2)
  have h5 : Kept { fx.atEdge false e with powerFail := fx.powerFail } s5 := kept_stampCounts (kept_ite (kept_tickCheck h4) h4)
  have h6 : Kept (fx.atEdge detect e) s6 := by
    simp only [s6, pf, Fixed.atEdge]
    split
    · exact kept_powerFailStep3 h5
    · exact h5
  exact kept_closeStep (kept_applyStep h6)

theorem completes_frameEdge {detect : Bool} {e : EdgeIn} (hs : Kept fx s) : Completes fx (ans (frameEdge detect e s)) := by
  cases hr : s.sys.inReset with
  | false => exact (kept_frameEdge hs hr).completes id rfl
  | true =>
    rw [frameEdge, if_pos hr]
    exact completes_ans hs

theorem completes_execFrameTick {e : EdgeIn} (hs : Kept fx s) : Completes fx (execFrameTick e s) := completes_frameEdge hs

theorem completes_execPowerFailDetected {e : EdgeIn} (hs : Kept fx s) : Completes fx (execPowerFailDetected e s) :=
  completes_frameEdge hs

theorem completes_exec {i : Instr} (hs : Kept fx s) : Completes fx (exec i s) := by
  cases i with
  | frameTick _ => exact completes_execFrameTick hs
  | sysPartnerLost _ => exact completes_execSysPartnerLost hs
  | sysSlotOvrun _ => exact completes_execSysSlotOvrun hs
  | writePacket _ => exact completes_execWritePacket hs
  | readReply _ => exact completes_execReadReply hs
  | readStatus => exact completes_execReadStatus hs
  | linkSync => exact completes_execLinkSync hs
  | linkReady => exact completes_execLinkReady hs
  | datagramReceived _ _ => exact completes_execDatagramReceived hs
  | packetAdmission => exact completes_execPacketAdmission hs
  | ethSessionTimeout _ => exact completes_execEthSessionTimeout hs
  | cmdHostLost => exact completes_execCmdHostLost hs
  | nop _ => exact completes_execNop hs
  | identify _ => exact completes_execIdentify hs
  | linkInfo _ _ => exact completes_execLinkInfo hs
  | ethHello _ _ _ => exact completes_execEthHello hs
  | ethClose _ => exact completes_execEthClose hs
  | frameRead _ => exact completes_execFrameRead hs
  | pskSet _ _ _ => exact completes_execPskSet hs
  | pskClear _ _ => exact completes_execPskClear hs
  | reset _ _ => exact completes_execReset hs
  | paramRead _ _ _ => exact completes_execParamRead hs
  | paramWrite _ _ _ => exact completes_execParamWrite hs
  | paramInfo _ _ => exact completes_execParamInfo hs
  | paramList _ _ _ => exact completes_execParamList hs
  | paramWriteX _ _ _ => exact completes_execParamWriteX hs
  | paramDefaultX _ _ => exact completes_execParamDefaultX hs
  | paramPersist => exact completes_execParamPersist hs
  | queueRead _ _ _ => exact completes_execQueueRead hs
  | queueDrop _ _ => exact completes_execQueueDrop hs
  | queueStatus _ _ _ => exact completes_execQueueStatus hs
  | txnOpen _ => exact completes_execTxnOpen hs
  | txnStage _ _ _ => exact completes_execTxnStage hs
  | txnCheck _ => exact completes_execTxnCheck hs
  | txnCommit _ _ _ => exact completes_execTxnCommit hs
  | txnAbort _ => exact completes_execTxnAbort hs
  | txnQuery _ => exact completes_execTxnQuery hs
  | txnList _ => exact completes_execTxnList hs
  | txnIdleTimeout _ => exact completes_execTxnIdleTimeout hs
  | finalCheck _ => exact completes_execFinalCheck hs
  | txnCommitted _ => exact completes_execTxnCommitted hs
  | txnRollback _ => exact completes_execTxnRollback hs
  | rollbackPhase1 _ => exact completes_execRollbackPhase1 hs
  | rollbackPhase2 _ => exact completes_execRollbackPhase2 hs
  | setpointCurrentRestore _ => exact completes_execSetpointCurrentRestore hs
  | stxnPrepareResend _ => exact completes_execStxnPrepareResend hs
  | stxnPrepareReceived _ _ _ _ => exact completes_execStxnPrepareReceived hs
  | stxnVoteDeadline _ => exact completes_execStxnVoteDeadline hs
  | stxnAbortResend _ => exact completes_execStxnAbortResend hs
  | stxnAbortReceived _ _ => exact completes_execStxnAbortReceived hs
  | stxnApply _ _ => exact completes_execStxnApply hs
  | stxnOutcomeReport _ _ _ => exact completes_execStxnOutcomeReport hs
  | stxnDone _ => exact completes_execStxnDone hs
  | powerOn _ _ _ => exact completes_execPowerOn hs
  | mainInputLow _ => exact completes_execMainInputLow hs
  | rstN _ => exact completes_execRstN hs
  | resetRelease => exact completes_execResetRelease hs
  | garnetUp _ _ _ => exact completes_execGarnetUp hs
  | onyxUp _ _ => exact completes_execOnyxUp hs
  | coarseService => exact completes_execCoarseService hs
  | imageVerified _ => exact completes_execImageVerified hs
  | loopbackSelfTest _ _ _ _ => exact completes_execLoopbackSelfTest hs
  | fullService => exact completes_execFullService hs
  | cellMonitor _ => exact completes_execCellMonitor hs
  | tamperSample _ _ => exact completes_execTamperSample hs
  | powerFailDetected _ => exact completes_execPowerFailDetected hs
  | powerDownOpen => exact completes_execPowerDownOpen hs
  | powerFailWriteSet => exact completes_execPowerFailWriteSet hs
  | tailRecord => exact completes_execTailRecord hs
  | powerFailRecovery => exact completes_execPowerFailRecovery hs
  | pilotStateAccepted _ => exact completes_execPilotStateAccepted hs
  | proximityAccepted _ => exact completes_execProximityAccepted hs
  | outStart _ _ _ _ _ _ _ => exact completes_execOutStart hs
  | outStop _ _ _ => exact completes_execOutStop hs
  | outLimit _ _ _ _ _ => exact completes_execOutLimit hs
  | outDeny _ _ _ => exact completes_execOutDeny hs
  | outStatus _ _ => exact completes_execOutStatus hs
  | outPilotX _ _ _ _ => exact completes_execOutPilotX hs
  | deferredAdmission => exact completes_execDeferredAdmission hs
  | authTimeout _ => exact completes_execAuthTimeout hs
  | deferralTimeout _ => exact completes_execDeferralTimeout hs
  | basicFallback _ => exact completes_execBasicFallback hs
  | cableCheckTimeout _ => exact completes_execCableCheckTimeout hs
  | prechargeComplete _ => exact completes_execPrechargeComplete hs
  | prechargeTimeout _ => exact completes_execPrechargeTimeout hs
  | acStopTimeout _ => exact completes_execAcStopTimeout hs
  | outOvercurrent _ => exact completes_execOutOvercurrent hs
  | stopOpening _ => exact completes_execStopOpening hs
  | outStopLoad _ => exact completes_execOutStopLoad hs
  | weldCheckDischarged _ => exact completes_execWeldCheckDischarged hs
  | outDischarge _ => exact completes_execOutDischarge hs
  | weldCheckEvaluation _ => exact completes_execWeldCheckEvaluation hs
  | faultHoldEnd _ => exact completes_execFaultHoldEnd hs
  | statusFrameReceived _ _ _ => exact completes_execStatusFrameReceived hs
  | pgDeviationFail _ => exact completes_execPgDeviationFail hs
  | polPgLost _ => exact completes_execPolPgLost hs
  | groupRecovery _ => exact completes_execGroupRecovery hs
  | setpointFrameSend _ => exact completes_execSetpointFrameSend hs
  | polCanBusoff _ _ _ => exact completes_execPolCanBusoff hs
  | polCanRecover _ => exact completes_execPolCanRecover hs
  | polAssign _ _ _ => exact completes_execPolAssign hs
  | polStatus _ => exact completes_execPolStatus hs
  | polProfileInfo _ _ => exact completes_execPolProfileInfo hs
  | polProfileLoadX _ _ _ _ => exact completes_execPolProfileLoadX hs
  | polPgClearX _ _ _ => exact completes_execPolPgClearX hs
  | moveRampDownEnd _ => exact completes_execMoveRampDownEnd hs
  | busMatch _ => exact completes_execBusMatch hs
  | busMatchTimeout _ => exact completes_execBusMatchTimeout hs
  | moveTakeUpEnd _ => exact completes_execMoveTakeUpEnd hs
  | tieFeedback _ => exact completes_execTieFeedback hs
  | preambleDetected _ _ => exact completes_execPreambleDetected hs
  | frameControlDecoded _ _ _ _ _ => exact completes_execFrameControlDecoded hs
  | payloadDecoded _ _ _ => exact completes_execPayloadDecoded hs
  | vlkLaneMiss _ _ => exact completes_execVlkLaneMiss hs
  | sackSent _ _ => exact completes_execSackSent hs
  | cmSlacParmReq _ _ => exact completes_execCmSlacParmReq hs
  | mSound _ _ _ => exact completes_execMSound hs
  | cmSlacMatchReq _ _ => exact completes_execCmSlacMatchReq hs
  | cmValidateReq _ _ => exact completes_execCmValidateReq hs
  | vlkSlacRetry _ => exact completes_execVlkSlacRetry hs
  | vlkSlacMatched _ => exact completes_execVlkSlacMatched hs
  | vlkLinkLost _ _ => exact completes_execVlkLinkLost hs
  | slacInitTimeout _ => exact completes_execSlacInitTimeout hs
  | slacJoinTimeout _ => exact completes_execSlacJoinTimeout hs
  | setupTimeout _ => exact completes_execSetupTimeout hs
  | sequenceTimeout _ => exact completes_execSequenceTimeout hs
  | resumeTimeout _ => exact completes_execResumeTimeout hs
  | sdpRequest _ _ => exact completes_execSdpRequest hs
  | tcpConnection _ => exact completes_execTcpConnection hs
  | tcpReset _ => exact completes_execTcpReset hs
  | clientHello _ _ _ => exact completes_execClientHello hs
  | tlsHandshakeComplete _ _ _ => exact completes_execTlsHandshakeComplete hs
  | supportedAppProtocolReq _ _ => exact completes_execSupportedAppProtocolReq hs
  | t1sPlcaRunning _ => exact completes_execT1sPlcaRunning hs
  | t1sLinkLoss _ b => exact completes_execT1sLinkLoss (collision := b) hs
  | sessionSetupReq _ _ _ => exact completes_execSessionSetupReq hs
  | authorizationReq _ _ _ => exact completes_execAuthorizationReq hs
  | paymentDetailsReq _ _ _ _ => exact completes_execPaymentDetailsReq hs
  | serviceDiscoveryReq _ => exact completes_execServiceDiscoveryReq hs
  | chargeParameterDiscoveryReq _ _ _ _ _ _ _ _ => exact completes_execChargeParameterDiscoveryReq hs
  | cableCheckReq _ => exact completes_execCableCheckReq hs
  | preChargeReq _ _ => exact completes_execPreChargeReq hs
  | powerDeliveryReqStart _ => exact completes_execPowerDeliveryReqStart hs
  | currentDemandReq _ _ _ _ => exact completes_execCurrentDemandReq hs
  | chargingStatusReq _ _ _ => exact completes_execChargingStatusReq hs
  | powerDeliveryReqStop _ _ _ => exact completes_execPowerDeliveryReqStop hs
  | weldingDetectionReq _ => exact completes_execWeldingDetectionReq hs
  | meteringReceiptReq _ _ _ => exact completes_execMeteringReceiptReq hs
  | certificateInstallationReq _ _ _ => exact completes_execCertificateInstallationReq hs
  | responseHandoff _ => exact completes_execResponseHandoff hs
  | vlkHostWait _ => exact completes_execVlkHostWait hs
  | vehicleStatusRecord _ => exact completes_execVehicleStatusRecord hs
  | vlkStatus _ _ => exact completes_execVlkStatus hs
  | vlkSchedule _ _ _ _ _ => exact completes_execVlkSchedule hs
  | vlkCertResp _ _ _ _ _ _ => exact completes_execVlkCertResp hs
  | vlkStatsClear _ _ => exact completes_execVlkStatsClear hs
  | vlkKeygenX _ _ _ => exact completes_execVlkKeygenX hs
  | vlkCertLoadX _ _ _ _ _ => exact completes_execVlkCertLoadX hs
  | vlkKeyClearX _ _ => exact completes_execVlkKeyClearX hs
  | vlkLoopbackX _ _ => exact completes_execVlkLoopbackX hs
  | partSequenceTimeout _ => exact completes_execPartSequenceTimeout hs
  | mtrModFault _ _ => exact completes_execMtrModFault hs
  | mtrModOk _ => exact completes_execMtrModOk hs
  | zeroCrossing _ => exact completes_execZeroCrossing hs
  | mtrZcLost _ => exact completes_execMtrZcLost hs
  | settleBoundary _ => exact completes_execSettleBoundary hs
  | pulseOutput _ => exact completes_execPulseOutput hs
  | harmonicsRefresh _ => exact completes_execHarmonicsRefresh hs
  | mtrRead _ _ => exact completes_execMtrRead hs
  | mtrHarm _ _ _ => exact completes_execMtrHarm hs
  | mtrCalInfo _ _ => exact completes_execMtrCalInfo hs
  | mtrCalOpenX _ _ _ => exact completes_execMtrCalOpenX hs
  | mtrCalMeasureX _ _ _ => exact completes_execMtrCalMeasureX hs
  | mtrCalDone _ => exact completes_execMtrCalDone hs
  | mtrCalResultX _ _ => exact completes_execMtrCalResultX hs
  | mtrCalSealX _ _ => exact completes_execMtrCalSealX hs
  | mtrCalCloseX _ _ => exact completes_execMtrCalCloseX hs
  | fltMtrEngine => exact completes_execFltMtrEngine hs
  | mtrEngineRestart => exact completes_execMtrEngineRestart hs
  | checkValueRecompute _ => exact completes_execCheckValueRecompute hs
  | legInterval => exact completes_execLegInterval hs
  | legTariff => exact completes_execLegTariff hs
  | slewComplete => exact completes_execSlewComplete hs
  | foldEnd => exact completes_execFoldEnd hs
  | persistWriteSet => exact completes_execPersistWriteSet hs
  | readingSnapshot _ => exact completes_execReadingSnapshot hs
  | signatureStart => exact completes_execSignatureStart hs
  | legReadingReady _ => exact completes_execLegReadingReady hs
  | accessTimeout => exact completes_execAccessTimeout hs
  | sealN _ => exact completes_execSealN hs
  | legRead _ _ _ _ => exact completes_execLegRead hs
  | legReading _ _ _ _ => exact completes_execLegReading hs
  | legReadingGet _ _ => exact completes_execLegReadingGet hs
  | legClockSet _ _ _ => exact completes_execLegClockSet hs
  | legClockRead _ => exact completes_execLegClockRead hs
  | legTariffSet _ _ _ _ _ => exact completes_execLegTariffSet hs
  | tariffSelectionApply => exact completes_execTariffSelectionApply hs
  | legTariffInfo _ => exact completes_execLegTariffInfo hs
  | legLogRead _ _ _ _ => exact completes_execLegLogRead hs
  | legProfileRead _ _ _ _ => exact completes_execLegProfileRead hs
  | legInfo _ => exact completes_execLegInfo hs
  | legTzSet _ _ => exact completes_execLegTzSet hs
  | legTariffLoadX _ _ _ _ => exact completes_execLegTariffLoadX hs
  | legAccessX _ _ => exact completes_execLegAccessX hs
  | legCfgStageX _ _ _ => exact completes_execLegCfgStageX hs
  | legCfgSealX _ => exact completes_execLegCfgSealX hs
  | legCfgDiscardX _ => exact completes_execLegCfgDiscardX hs
  | efiRdcTrip _ => exact completes_execEfiRdcTrip hs
  | rdcOffsetMeasure _ => exact completes_execRdcOffsetMeasure hs
  | rdcSelfTestEnd _ => exact completes_execRdcSelfTestEnd hs
  | efiRdcFault _ => exact completes_execEfiRdcFault hs
  | portAssignment _ => exact completes_execPortAssignment hs
  | sliceReadbackFail _ => exact completes_execSliceReadbackFail hs
  | insulationResult _ _ => exact completes_execInsulationResult hs
  | sliceEnd _ => exact completes_execSliceEnd hs
  | imdStaleTrip _ => exact completes_execImdStaleTrip hs
  | balanceTrip _ => exact completes_execBalanceTrip hs
  | efiCouplingFault _ => exact completes_execEfiCouplingFault hs
  | referenceTest _ _ => exact completes_execReferenceTest hs
  | peMeasurement _ _ => exact completes_execPeMeasurement hs
  | efiStatus _ _ => exact completes_execEfiStatus hs
  | efiRdcTest _ _ => exact completes_execEfiRdcTest hs
  | efiImdTestX _ _ => exact completes_execEfiImdTestX hs
  | safeInputAccepted _ _ => exact completes_execSafeInputAccepted hs
  | safeInputDiscrepancy _ => exact completes_execSafeInputDiscrepancy hs
  | testPulseMissing _ _ => exact completes_execTestPulseMissing hs
  | outputTest _ _ => exact completes_execOutputTest hs
  | soOvercurrent _ => exact completes_execSoOvercurrent hs
  | contactorFeedback _ => exact completes_execContactorFeedback hs
  | garnetStop _ => exact completes_execGarnetStop hs
  | safCpLoss _ => exact completes_execSafCpLoss hs
  | safCdEnable _ _ _ => exact completes_execSafCdEnable hs
  | brakeRelease _ => exact completes_execBrakeRelease hs
  | ss1Timeout _ => exact completes_execSs1Timeout hs
  | safBrakeTest _ _ => exact completes_execSafBrakeTest hs
  | brakeTestWindowStart _ => exact completes_execBrakeTestWindowStart hs
  | brakeTestEnd _ => exact completes_execBrakeTestEnd hs
  | safBrakeDue _ => exact completes_execSafBrakeDue hs
  | scfgN _ => exact completes_execScfgN hs
  | safStatus _ => exact completes_execSafStatus hs
  | safWhy _ _ => exact completes_execSafWhy hs
  | safReset _ _ => exact completes_execSafReset hs
  | safInfo _ => exact completes_execSafInfo hs
  | safCfgStageX _ _ _ => exact completes_execSafCfgStageX hs
  | safCfgVerifyX _ => exact completes_execSafCfgVerifyX hs
  | safCfgCommitX _ _ => exact completes_execSafCfgCommitX hs
  | safCfgDiscardX _ => exact completes_execSafCfgDiscardX hs
  | auxSet _ _ _ _ => exact completes_execAuxSet hs
  | auxStatus _ => exact completes_execAuxStatus hs
  | auxClear _ _ _ => exact completes_execAuxClear hs
  | shortCircuit _ => exact completes_execShortCircuit hs
  | thermalTrip _ => exact completes_execThermalTrip hs
  | thermalLatchClear _ => exact completes_execThermalLatchClear hs
  | overcurrentTrip _ => exact completes_execOvercurrentTrip hs
  | auxOpenLoad _ => exact completes_execAuxOpenLoad hs
  | auxLoadOk _ => exact completes_execAuxLoadOk hs
  | queuedStart => exact completes_execQueuedStart hs
  | blankingEnd _ => exact completes_execBlankingEnd hs
  | retryDelayEnd _ => exact completes_execRetryDelayEnd hs
  | retryWindowEnd _ => exact completes_execRetryWindowEnd hs
  | auxUv => exact completes_execAuxUv hs
  | auxUvOk => exact completes_execAuxUvOk hs
  | auxCtrlFault _ => exact completes_execAuxCtrlFault hs
  | plcFrameReceived _ => exact completes_execPlcFrameReceived hs
  | addrConflictEnd => exact completes_execAddrConflictEnd hs
  | helloSend => exact completes_execHelloSend hs
  | slkNode _ => exact completes_execSlkNode hs
  | plcRetransmit _ => exact completes_execPlcRetransmit hs
  | toneMapRefresh _ => exact completes_execToneMapRefresh hs
  | beaconSend => exact completes_execBeaconSend hs
  | beaconRelay _ => exact completes_execBeaconRelay hs
  | beaconReceived _ => exact completes_execBeaconReceived hs
  | holdoverStart => exact completes_execHoldoverStart hs
  | holdoverExpiry => exact completes_execHoldoverExpiry hs
  | rootElection => exact completes_execRootElection hs
  | rootTakeover => exact completes_execRootTakeover hs
  | slkProfile => exact completes_execSlkProfile hs
  | slkStatus _ => exact completes_execSlkStatus hs
  | slkNodes _ _ => exact completes_execSlkNodes hs
  | slkSend _ _ _ _ => exact completes_execSlkSend hs
  | slkSched _ _ _ _ _ => exact completes_execSlkSched hs
  | schedDistribute _ => exact completes_execSchedDistribute hs
  | schedAckDeadline _ => exact completes_execSchedAckDeadline hs
  | schedActionReceived _ _ _ _ _ _ => exact completes_execSchedActionReceived hs
  | schedActionApply _ _ => exact completes_execSchedActionApply hs
  | schedCancelReceived _ _ => exact completes_execSchedCancelReceived hs
  | slkSchedCancel _ _ => exact completes_execSlkSchedCancel hs
  | slkSchedList _ => exact completes_execSlkSchedList hs
  | schedOutcome _ => exact completes_execSchedOutcome hs
  | wakeRequestSend _ => exact completes_execWakeRequestSend hs
  | slkKeySetX _ _ => exact completes_execSlkKeySetX hs
  | slkTonemapX _ _ _ => exact completes_execSlkTonemapX hs
  | lpPing _ _ => exact completes_execLpPing hs
  | lpCalibration _ _ => exact completes_execLpCalibration hs
  | poll _ => exact completes_execPoll hs
  | cardSelected _ => exact completes_execCardSelected hs
  | presenceCheck _ _ => exact completes_execPresenceCheck hs
  | handleIdleTimeout _ => exact completes_execHandleIdleTimeout hs
  | exchangeAnswer _ _ => exact completes_execExchangeAnswer hs
  | nfcField _ => exact completes_execNfcField hs
  | tagFrameReceived _ => exact completes_execTagFrameReceived hs
  | phoneUpdateBinary => exact completes_execPhoneUpdateBinary hs
  | tagStart => exact completes_execTagStart hs
  | nfcTagDone => exact completes_execNfcTagDone hs
  | fdRelease => exact completes_execFdRelease hs
  | nfcStatus _ => exact completes_execNfcStatus hs
  | nfcRdPoll _ => exact completes_execNfcRdPoll hs
  | nfcRdXchg _ _ _ _ => exact completes_execNfcRdXchg hs
  | nfcRdRelease _ _ => exact completes_execNfcRdRelease hs
  | nfcTagRead _ _ _ _ => exact completes_execNfcTagRead hs
  | nfcTagWrite _ _ _ _ _ => exact completes_execNfcTagWrite hs
  | nfcInfo _ => exact completes_execNfcInfo hs
  | nfcSigLoadX _ _ _ => exact completes_execNfcSigLoadX hs
  | nfcLpCalX _ => exact completes_execNfcLpCalX hs
  | legalComposition => exact completes_execLegalComposition hs
  | dspCrcOk => exact completes_execDspCrcOk hs
  | dspBiasFault => exact completes_execDspBiasFault hs
  | checkScreenEnd => exact completes_execCheckScreenEnd hs
  | mapChunkTimeout => exact completes_execMapChunkTimeout hs
  | dspStatus _ => exact completes_execDspStatus hs
  | dspWrite _ _ _ _ => exact completes_execDspWrite hs
  | dspRead _ _ _ => exact completes_execDspRead hs
  | dspShowCheck _ => exact completes_execDspShowCheck hs
  | dspMapLoadX _ _ _ => exact completes_execDspMapLoadX hs
  | fenceBuild => exact completes_execFenceBuild hs
  | fltFence _ => exact completes_execFltFence hs
  | retirementRecord => exact completes_execRetirementRecord hs
  | fltReturn _ => exact completes_execFltReturn hs
  | lockstepMismatch => exact completes_execLockstepMismatch hs
  | fltAgate => exact completes_execFltAgate hs
  | fltSelfcheck _ _ => exact completes_execFltSelfcheck hs
  | fltStatus _ => exact completes_execFltStatus hs
  | fltLogRead _ _ _ => exact completes_execFltLogRead hs
  | fltReturnX _ _ _ _ => exact completes_execFltReturnX hs
  | fltRetireX _ _ _ _ => exact completes_execFltRetireX hs
  | updStatus _ => exact completes_execUpdStatus hs
  | updOpenX _ _ _ _ _ => exact completes_execUpdOpenX hs
  | updWriteX _ _ _ _ _ _ => exact completes_execUpdWriteX hs
  | updFinishX _ _ => exact completes_execUpdFinishX hs
  | updScheduleX _ _ _ _ => exact completes_execUpdScheduleX hs
  | updCancelX _ => exact completes_execUpdCancelX hs
  | updAbandonX _ _ => exact completes_execUpdAbandonX hs
  | updSiteSendX _ _ _ => exact completes_execUpdSiteSendX hs
  | siteBlockSend => exact completes_execSiteBlockSend hs
  | siteBlockReceived _ _ _ _ => exact completes_execSiteBlockReceived hs
  | updateActReceived _ _ _ _ => exact completes_execUpdateActReceived hs
  | updActivation => exact completes_execUpdActivation hs
  | activationWaitExpiry => exact completes_execActivationWaitExpiry hs
  | vioLow => exact completes_execVioLow hs
  | pilotSupplyFault => exact completes_execPilotSupplyFault hs
  | pilotSupplyOk => exact completes_execPilotSupplyOk hs
  | vioRestored => exact completes_execVioRestored hs
  | agateUnitsRestarted => exact completes_execAgateUnitsRestarted hs
  | tieWeldCleared _ => exact completes_execTieWeldCleared hs

end Sys2Proof.Machine
end

section
/-! SUPPORT. The whole machine: what every step keeps, and what an edge does to the fixed fields. -/

namespace Sys2Proof.Machine

open Host (Cell Outcome)

theorem Sound.withPending {s : State} (h : Sound s) (p : List Instr) : Sound { s with pending := p } := by
  obtain ⟨h1, h2, h3, h4, h5, h6, h7⟩ := h
  exact ⟨h1, h2, h3, h4, h5, h6, h7⟩

theorem sound_reset : Sound State.reset where
  frame := Nat.two_pow_pos 48
  queues := by decide
  params := List.Pairwise.nil
  persisted := List.Pairwise.nil
  image := nofun
  tag := rfl
  picture := ⟨rfl, rfl, rfl⟩

/-- Settles O3: the stores and buffers are empty after reset, and queue 0 holds one record. -/
theorem resetIsSound : Obligations.ResetIsSound := sound_reset

/-- Settles O5: `step` is `exec` on the queue's rest, by its definition. -/
theorem stepRunsTheFrontCommand : Obligations.StepRunsTheFrontCommand := by
  intro c rest s
  exact ⟨rfl, fun h => by simp only [step, h]⟩

/-- Settles O4: a step runs the front command on the queue's rest, and every command completes and keeps the invariant. -/
theorem everyStepCompletesAndKeepsTheMachineSound : Obligations.EveryStepCompletesAndKeepsTheMachineSound := by
  intro s hs
  unfold step
  split
  case _ hempty => exact ⟨s, rfl, hs, by rw [hempty, List.tail_nil]⟩
  case _ c rest hfront =>
    obtain ⟨t, ht, hsound, hp⟩ := completes_exec (i := c) (kept_of_imp fun _ : True => hs.withPending rest)
    exact ⟨t, ht, hsound trivial, by rw [hp, hfront, List.tail_cons]; rfl⟩

theorem edge_fixed {s : State} {detect : Bool} {e : EdgeIn} (hr : s.sys.inReset = false) :
    fixedOf False (frameEdge detect e s) = (fixedOf False s).atEdge detect e :=
  (kept_frameEdge (kept_of_imp False.elim) hr).fixed

theorem Fixed.atEdge_powerFail (fx : Fixed) (e : EdgeIn) :
    (fx.atEdge true e).powerFail = some (fx.powerFail.getD (frameAfter fx.frame 1)) := by
  obtain ⟨_, _, _, _, _, fail, _⟩ := fx
  cases fail with
  | none => rfl
  | some p => rfl

/-- Settles O1: what an edge does to the fixed fields, read off field by field. -/
theorem edgesBeginTheNextFrame : Obligations.EdgesBeginTheNextFrame := by
  intro s e
  refine ⟨fun hr => ?_, fun hr => ?_⟩
  · have hedge (detect : Bool) : frameEdge detect e s = s := by rw [frameEdge, if_pos hr]
    exact ⟨congrArg ans (hedge false), congrArg ans (hedge true)⟩
  · have ht := edge_fixed (detect := false) (e := e) hr
    have hu := edge_fixed (detect := true) (e := e) hr
    exact ⟨_, _, rfl, rfl, congrArg Fixed.frame ht, congrArg Fixed.frame hu, congrArg Fixed.pending ht, congrArg Fixed.pending hu,
      congrArg Fixed.skips ht, congrArg Fixed.skips hu, congrArg Fixed.vmain ht, congrArg Fixed.vmain hu, congrArg Fixed.cycles ht,
      congrArg Fixed.cycles hu, congrArg Fixed.powerFail ht, (congrArg Fixed.powerFail hu).trans (Fixed.atEdge_powerFail ..)⟩

theorem State.reset_outlets (k : Fin 8) : State.reset.outlets[k] = State.reset.outlets[(0 : Fin 8)] := by
  simp only [State.reset, Fin.getElem_fin, Vector.getElem_replicate]

/-- Settles O21: every part of the reset state is a literal. -/
theorem resetStateIsTheManuals : Obligations.ResetStateIsTheManuals := by
  refine ⟨rfl, rfl, rfl, rfl, rfl, rfl, fun k => ?_, fun o => ?_, by decide, by decide, List.Pairwise.nil, rfl, rfl, rfl, rfl⟩
  · rw [State.reset_outlets]
    exact ⟨rfl, rfl⟩
  · simp only [State.reset, Fin.getElem_fin, Vector.getElem_replicate]

end Sys2Proof.Machine
end

section
/-! SUPPORT. The links in use: a command accepted by its own rules, the sequence window, the common checks, the SPI FIFO and the
Ethernet sessions (chapter 02). -/

namespace Sys2Proof.Machine

open Host (Outcome)

variable {s : State}

/-! ### A host command and its own rules -/

/-- A new command that its own rules accept waits for the edge. -/
theorem hostCmd_accepts {h : Hdr} {op d : Nat} {c : Instr} {layout lengths : Bool} {bad : List Byte} {rules : State → Verdict}
    {res : Option (List Byte)} (p : Passes h op true true s) (hl : layout = true) (hg : lengths = true)
    (hr : rules (entered h s) = .accept d res id) :
    hostCmd h op c layout lengths bad rules s = accepted c h op d res s := by
  subst hl hg
  rw [hostCmd_passes p, hr]
  rfl

/-- A new command goes to the checks of R37 from the version on. -/
theorem hostCmd_fresh {h : Hdr} {op : Nat} {c : Instr} {layout lengths : Bool} {bad : List Byte} {rules : State → Verdict}
    (hf : Fresh h s) :
    (∀ d, commonCheck h op layout lengths = some d →
      hostCmd h op c layout lengths bad rules s = refused h op d (if d = 0x3009 then bad else []) s)
    ∧ (commonCheck h op layout lengths = none → ∀ d, stateCheck h op s = some d →
      hostCmd h op c layout lengths bad rules s
        = refused h op d (if op = 0x0101 ∨ op = 0x0181 then writeResult 0 0xFF 0 else []) s) := by
  obtain ⟨hl, hw⟩ := hf
  have hw' : List.find? (fun r => r.seq == h.seq) (linkWindow (noteAdmitted h.link s) h.link) = none := by
    rwa [noteAdmitted_linkWindow]
  have hs (d : Nat) (hd : stateCheck h op s = some d) : stateCheck h op (enterWindow h (noteAdmitted h.link s)) = some d :=
    (entered_stateCheck h h op s).trans hd
  unfold hostCmd inWindow
  refine ⟨fun d hd => ?_, fun hc d hd => ?_⟩
  · simp only [hl, hw', hd, not_true_eq_false, ↓reduceIte]
    rfl
  · simp only [hl, hw', hc, hs d hd, not_true_eq_false, ↓reduceIte]
    rfl

/-- A command whose number is retained is answered again, dropped, or refused (R39). -/
theorem hostCmd_retained {h : Hdr} {op : Nat} {c : Instr} {layout lengths : Bool} {bad : List Byte} {rules : State → Verdict}
    {r : Retained} (hl : linkTakes s h.link = true) (hw : (linkWindow s h.link).find? (fun r => r.seq == h.seq) = some r) :
    hostCmd h op c layout lengths bad rules s =
      if r.crc = h.crc then (match r.reply with
        | some p => sendReply p (noteAdmitted h.link s)
        | none => noteAdmitted h.link s)
      else refuseNow h op 0x3006 [] (noteAdmitted h.link s) := by
  have hw' : List.find? (fun r => r.seq == h.seq) (linkWindow (noteAdmitted h.link s) h.link) = some r := by
    rwa [noteAdmitted_linkWindow]
  unfold hostCmd inWindow
  simp only [hl, hw', not_true_eq_false, ↓reduceIte] <;> rfl

/-! ### What a reply changes -/

theorem sendReply_eq (r : Reply) (s : State) :
    sendReply r s = { s with link := (sendReply r s).link, outbox := (sendReply r s).outbox } := by
  unfold sendReply
  split
  · rfl
  · split
    · rfl
    · rw [sendOn_eq]
  · rfl

theorem refuseNow_eq (h : Hdr) (op d : Nat) (res : List Byte) (s : State) :
    refuseNow h op d res s = { s with link := (refuseNow h op d res s).link, outbox := (refuseNow h op d res s).outbox } := by
  unfold refuseNow
  rw [sendReply_eq]

theorem refused_eq (h : Hdr) (op d : Nat) (res : List Byte) (s : State) :
    refused h op d res s = { s with link := (refused h op d res s).link, outbox := (refused h op d res s).outbox } := by
  unfold refused
  rw [refuseNow_eq, entered_eq]

/-- What a reply leaves alone. -/
structure LinkOnly (s t : State) : Prop where
  eq : t = { s with link := t.link, outbox := t.outbox }

theorem linkOnly_sendReply (l : LinkId) (r : Reply) (s : State) : LinkOnly s (sendReply r (noteAdmitted l s)) :=
  ⟨by rw [sendReply_eq, noteAdmitted_eq]⟩

theorem linkOnly_refuseNow (l : LinkId) (h : Hdr) (op d : Nat) (res : List Byte) (s : State) :
    LinkOnly s (refuseNow h op d res (noteAdmitted l s)) :=
  ⟨by rw [refuseNow_eq, noteAdmitted_eq]⟩

theorem linkOnly_noteAdmitted (l : LinkId) (s : State) : LinkOnly s (noteAdmitted l s) := ⟨by rw [noteAdmitted_eq]⟩

/-- A retained command changes its link alone. -/
theorem linkOnly_retained {h : Hdr} {op : Nat} {c : Instr} {layout lengths : Bool} {bad : List Byte} {rules : State → Verdict}
    {r : Retained} (hl : linkTakes s h.link = true) (hw : (linkWindow s h.link).find? (fun r => r.seq == h.seq) = some r) :
    LinkOnly s (hostCmd h op c layout lengths bad rules s) := by
  rw [hostCmd_retained hl hw]
  split
  · split
    · exact linkOnly_sendReply ..
    · exact linkOnly_noteAdmitted ..
  · exact linkOnly_refuseNow ..

/-- Settles O9: the cases of `hostCmd_retained`. -/
theorem retainedCommandsAreNotExecutedAgain : Obligations.RetainedCommandsAreNotExecutedAgain := by
  intro h op c layout lengths bad rules s r hl hw
  have heq := hostCmd_retained (c := c) (op := op) (layout := layout) (lengths := lengths) (bad := bad) (rules := rules) hl hw
  obtain ⟨hsame⟩ := linkOnly_retained (c := c) (op := op) (layout := layout) (lengths := lengths) (bad := bad) (rules := rules) hl hw
  refine ⟨fun hcrc p hp => ?_, fun hcrc hp => ?_, fun hcrc => ?_, ?_, ?_, ?_, ?_⟩
  · rw [heq, if_pos hcrc, hp]
  · rw [heq, if_pos hcrc, hp]
  · rw [heq, if_neg hcrc]
  all_goals rw [hsame]

/-- Settles O10: the branches of `commonCheck` and `stateCheck`, in their order. -/
theorem commonChecksRefuseInOrderAndChangeNothing : Obligations.CommonChecksRefuseInOrderAndChangeNothing := by
  refine ⟨?_, ?_⟩
  · intro h op c layout lengths bad rules s hf
    obtain ⟨hcommon, hstate⟩ := hostCmd_fresh (op := op) (c := c) (layout := layout) (lengths := lengths) (bad := bad)
      (rules := rules) hf
    refine ⟨fun hv => ?_, fun hv hx => ?_, fun hv hx ht ho => ?_, fun hv hx hto => ?_⟩
    · exact hcommon _ (by simp only [commonCheck, hv, ne_eq, not_false_eq_true, ↓reduceIte])
    · exact hcommon _ (by rw [commonCheck, if_neg (Classical.not_not.mpr hv), if_pos hx])
    · exact hcommon _ (by rw [commonCheck, if_neg (Classical.not_not.mpr hv), if_neg (Classical.not_not.mpr hx), if_pos ⟨ht, by simp only [ho, Bool.false_eq_true, not_false_eq_true]⟩])
    · have hbegin : commonCheck h op layout lengths
          = if ¬ layout then some 0x3002 else if ¬ lengths then some 0x3009 else none := by
        rw [commonCheck, if_neg (Classical.not_not.mpr hv), if_neg (Classical.not_not.mpr hx), if_neg fun ⟨ht, ho⟩ => ho (hto ht)]
      refine ⟨fun hl => hcommon _ (by rw [hbegin, if_pos (ne_true_of_eq_false hl)]),
        fun hl hg => hcommon _ (by rw [hbegin, if_neg (Classical.not_not.mpr hl), if_pos (ne_true_of_eq_false hg)]), fun hl hg hw hwx => ?_⟩
      have hpass : commonCheck h op layout lengths = none := by
        rw [hbegin, if_neg (Classical.not_not.mpr hl), if_neg (Classical.not_not.mpr hg)]
      have hrefuse (d : Nat) (hd : stateCheck h op s = some d) := (hstate hpass d hd).trans
        (by rw [if_neg fun hor => hor.elim hw hwx])
      refine ⟨fun ha => hrefuse _ ?_, fun ha hwatch hoff => hrefuse _ ?_, fun ha hwatch ht hnone => hrefuse _ ?_⟩
      · simp only [stateCheck, ha, Bool.false_eq_true, not_false_eq_true, ↓reduceIte]
      · simp only [stateCheck, ha, hwatch, hoff, not_true_eq_false, and_self, ↓reduceIte]
      · simp only [stateCheck, ha, hwatch, not_true_eq_false, Bool.false_eq_true, false_and, ↓reduceIte, ht, hnone, ne_eq,
          not_false_eq_true, Option.isNone_none, true_or, and_self]
  · intro h op c layout lengths bad rules s d res hp hr
    refine ⟨_, rfl, ?_⟩
    rw [hostCmd_passes hp, hr]
    exact refused_eq ..

/-! ### The SPI link -/

/-- With no reply left to form, forming them changes nothing. -/
theorem formReplies_of_later (hd : ∀ d ∈ s.due, s.frame < d.frame) : formReplies s = s := by
  have hnone : (s.due.filter fun d => decide (d.frame ≤ s.frame)) = [] := by
    rw [List.filter_eq_nil_iff]
    intro d hmem
    simpa only [decide_eq_true_eq, Nat.not_le] using hd d hmem
  unfold formReplies
  simp only [hnone, List.isEmpty_nil, ↓reduceIte]

theorem linkStatus_eq (s : State) : linkStatus s =
    [BitVec.ofNat 8 ((if s.link.ready then 0x80 else 0) + (if s.link.replies = [] then 0 else 0x40)
      + (if s.queues[0].unread = 0 then 0 else 0x20)),
     BitVec.ofNat 8 (freeSlots s .spi), BitVec.ofNat 8 s.link.replies.length, BitVec.ofNat 8 s.link.code] := by
  simp only [linkStatus, evtActive, List.isEmpty_iff, bne_iff_ne, ne_eq, ite_not]

/-- Settles O6: the branches of each instruction of the SPI link. -/
theorem theSpiLinkTakesDeliversAndResynchronises : Obligations.TheSpiLinkTakesDeliversAndResynchronises := by
  refine ⟨fun b s ha => ?_, fun n s ha hd => ⟨fun r rest hr => ?_, fun hr => ?_, ?_⟩, fun s ha hd => ⟨?_, fun f hf hlt hsvc => ?_⟩⟩
  · change execWritePacket b s = _
    simp only [execWritePacket, ha, not_true_eq_false, ↓reduceIte, Bool.not_eq_true, ans, modCounters, modLink, satInc, apply_ite Outcome.next]
  · change execReadReply n s = _
    simp only [execReadReply, ha, not_true_eq_false, ↓reduceIte, formReplies_of_later hd, hr, ans, modLink]
  · change execReadReply n s = _
    simp only [execReadReply, ha, not_true_eq_false, ↓reduceIte, formReplies_of_later hd, hr, ans, modLink]
  · change execReadStatus s = _
    simp only [execReadStatus, ha, not_true_eq_false, ↓reduceIte, formReplies_of_later hd, linkStatus_eq]
    rfl
  · change execLinkSync s = _
    simp only [execLinkSync, ha, not_true_eq_false, ↓reduceIte, formReplies_of_later hd]
    rfl
  · change execLinkReady s = _
    simp only [execLinkReady, hf, hlt, hsvc, ne_eq, not_false_eq_true, and_self, ↓reduceIte]
    rfl

/-! ### Ethernet sessions -/

/-- A packet within its bounds, with a slot free, waits. -/
theorem takePacket_waits {l : LinkId} {p : List Byte} (hlen : 16 ≤ p.length) (hsync : leNat (p.take 2) = 0xC39A)
    (hlo : 20 ≤ leNat ((p.drop 2).take 2)) (hhi : leNat ((p.drop 2).take 2) ≤ 1044) (hslot : 0 < freeSlots s l) :
    takePacket l p s = modLink (fun k => { k with waiting := k.waiting ++ [{ link := l, bytes := p }] }) s := by
  unfold takePacket
  rw [if_neg (by omega), if_neg (by omega)]

/-- Settles O7: the branches of the datagram row for a session found and for none, and the timeout. -/
theorem ethernetSessionsAcceptAndExpire : Obligations.EthernetSessionsAcceptAndExpire := by
  refine ⟨?_, ?_, ?_⟩
  · intro peer body tag s i e sid cnt packet hr hp hs hw hlen htag hsid hfind he hmac hlo hhi hnew hsync hmin hmax hslot
    change execDatagramReceived peer (body ++ tag) s = _
    have hn : (body ++ tag).length - 16 = body.length := by rw [List.length_append, htag]; omega
    have hsid' : leNat ((body ++ tag).take 4) = sid := by rw [List.take_append_of_le_length (by omega)]
    have hcnt : leNat (((body ++ tag).drop 4).take 8) = cnt := by
      rw [List.drop_append_of_le_length (by omega), List.take_append_of_le_length (by rw [List.length_drop]; omega)]
    have hok : counterOk e cnt = true := by
      simp only [counterOk, hlo, hhi, hnew, decide_true, List.contains_eq_mem, decide_false, Bool.not_false, Bool.and_self]
    unfold execDatagramReceived
    rw [if_neg (by simp only [hr, hp, hs, hw, Bool.false_eq_true, not_true_eq_false, false_and, false_or, List.length_append]; omega)]
    simp only [hn, hsid', hcnt, List.take_left, List.drop_left, hsid, ↓reduceIte, hfind, he, ← hmac, ne_eq, not_true_eq_false, hok]
    exact congrArg ans ((takePacket_waits (by rw [List.length_drop]; omega) hsync hmin hmax (by exact hslot)).trans rfl)
  · intro peer b s hr hp hs hw hlen hsid hfind
    change execDatagramReceived peer b s = _
    unfold execDatagramReceived
    rw [if_neg (by simp only [hr, hp, hs, hw, Bool.false_eq_true, not_true_eq_false, false_and, false_or]; omega)]
    simp only [hsid, ↓reduceIte, hfind]
    rfl
  · intro s i e he hlate
    change execEthSessionTimeout i s = _
    simp only [execEthSessionTimeout, he, hlate, ↓reduceIte]
    rfl

end Sys2Proof.Machine
end

section
/-! SUPPORT. What events leave alone, and what a module reset leaves (R118 to R121). -/

namespace Sys2Proof.Machine

open Host (Outcome)

variable {s t u : State}

/-! ### Events and no more -/

/-- States between which events alone were queued: queue 0 has grown behind its first record, sessions may have been notified, faults
noted. -/
structure Logged (s t : State) : Prop where
  rest  : t = { s with queues := t.queues, link := { s.link with sessions := t.link.sessions }, outbox := t.outbox, flt := t.flt }
  other : ∀ q : Fin 4, q ≠ 0 → t.queues[q] = s.queues[q]
  first : ∀ r, s.queues[(0 : Fin 4)].recs.head? = some r → t.queues[(0 : Fin 4)].recs.head? = some r

theorem Logged.refl (s : State) : Logged s s := ⟨rfl, fun _ _ => rfl, fun _ h => h⟩

theorem Logged.trans (h : Logged s t) (k : Logged t u) : Logged s u where
  rest := by rw [k.rest, h.rest]
  other q hq := (k.other q hq).trans (h.other q hq)
  first r hr := k.first r (h.first r hr)

theorem Logged.foldl {α : Type} {f : State → α → State} (l : List α) (h : Logged s t) (hf : ∀ s x, Logged s (f s x)) :
    Logged s (l.foldl f t) := by
  induction l generalizing t with
  | nil => exact h
  | cons x l ih => exact ih (h.trans (hf t x))

theorem Logged.ite {p : Prop} [Decidable p] (h : Logged s t) (k : Logged s u) : Logged s (if p then t else u) := by
  split
  · exact h
  · exact k

theorem sendOn_link (i : Fin 2) (p : List Byte) (s : State) :
    (sendOn i p s).link = { s.link with sessions := (sendOn i p s).link.sessions } := by
  unfold sendOn
  split <;> rfl

theorem notifyHosts_link (s : State) : (notifyHosts s).link = { s.link with sessions := (notifyHosts s).link.sessions } := by
  unfold notifyHosts
  split
  · simp only [allFin, List.finRange_succ, List.finRange_zero, List.foldl_cons, List.foldl_nil, List.map_cons, List.map_nil]
    rw [sendOn_link, sendOn_link]
  · rfl

theorem pushEvent_link (id dom detail arg : Nat) (b : List Byte) (s : State) :
    (pushEvent id dom detail arg b s).link = { s.link with sessions := (pushEvent id dom detail arg b s).link.sessions } := by
  unfold pushEvent
  generalize (if permanentEvent id detail arg then 4096 else 4032) = cap
  dsimp only
  split
  · rw [notifyHosts_link]
  · rfl

theorem evp_link (id dom detail arg : Nat) (b : List Byte) (s : State) :
    (evp id dom detail arg b s).link = { s.link with sessions := (evp id dom detail arg b s).link.sessions } := by
  have hpush : (evp id dom detail arg b s).link = (pushEvent id dom detail arg b s).link := by
    unfold evp
    dsimp only
    split
    · rfl
    · split
      · rw [noteFault_eq]
      · rfl
  rw [hpush]
  exact pushEvent_link ..

theorem Queue.push_head? {cap frame id dom detail arg : Nat} {b : List Byte} {q : Queue} {r : QRec} (h : q.recs.head? = some r) :
    (q.push cap frame id dom detail arg b).recs.head? = some r := by
  simp only [Queue.push]
  split
  · simp only [List.head?_append, h, Option.some_or]
  · exact h

theorem logged_evp (id dom detail arg : Nat) (b : List Byte) (s : State) : Logged s (evp id dom detail arg b s) where
  rest := by
    rw [← evp_link, evp_queues]
    exact evp_eq ..
  other q hq := by
    rw [evp_queues]
    exact Vector.getElem_set_ne (by decide) q.isLt fun h => hq (Fin.ext h.symm)
  first r hr := by
    rw [evp_queues]
    exact (congrArg (fun x : Queue => x.recs.head?) (Vector.getElem_set_self _)).trans (Queue.push_head? hr)

theorem logged_ev (id dom detail arg : Nat) (s : State) : Logged s (ev id dom detail arg s) := logged_evp ..

theorem logged_retirementsRestored (s : State) : Logged s (retirementsRestored s) := by
  unfold retirementsRestored
  exact (Logged.foldl _ (.refl s) fun s _ => .ite (logged_ev ..) (.refl s)).trans
    (Logged.foldl _ (.refl _) fun s _ => .ite (logged_ev ..) (.refl s))

/-! ### The module reset -/

theorem fltReset_eq (lost : Bool) (s : State) : fltReset lost s = { s with flt := (fltReset lost s).flt } := by
  unfold fltReset
  dsimp only
  split <;> rfl

/-- What a module reset leaves, besides the power fail that is over with it. -/
theorem afterReset_moduleReset (source reason : Nat) (s : State) : AfterReset source s (moduleReset source reason s) := by
  unfold moduleReset
  extract_lets t
  have ht : t = { s with slk := t.slk, nfc := t.nfc, dsp := t.dsp, upd := t.upd, onyx := t.onyx, flt := t.flt } := by
    simp only [t]
    rw [fltReset_eq]
    rfl
  have hkeys : t.link.psk = s.link.psk := by rw [ht]
  have hflash : t.persisted = s.persisted := by rw [ht]
  have hpending : t.pending = s.pending := by rw [ht]
  clear_value t
  exact {
    frame := rfl, service := rfl, islands := ⟨rfl, rfl⟩, source := ⟨rfl, rfl⟩, powered := ⟨rfl, rfl⟩, due := rfl, txn := rfl
    outlets := rfl, efi := rfl, aux := rfl, link := ⟨rfl, rfl, rfl, rfl⟩
    outputs := fun o => by simp only [garnetReset, Fin.getElem_fin, Vector.getElem_map, and_self]
    keys := hkeys, flash := hflash, pending := hpending }

theorem moduleReset_sys (source reason : Nat) (s : State) : (moduleReset source reason s).sys.resetReason = reason
    ∧ (moduleReset source reason s).sys.vmain = s.sys.vmain ∧ (moduleReset source reason s).sys.inReset = false
    ∧ (moduleReset source reason s).queues[(0 : Fin 4)].recs = [] := by
  unfold moduleReset
  extract_lets t
  have ht : t.sys.vmain = s.sys.vmain := by
    simp only [t]
    rw [fltReset_eq]
    rfl
  clear_value t
  exact ⟨rfl, ht, rfl, rfl⟩

theorem AfterReset.held {source : Nat} (h : AfterReset source s t) : AfterReset source s (modSys (fun y => { y with inReset := true }) t) :=
  { h with }

/-- Events change nothing of what a reset leaves. -/
theorem AfterReset.logged {source : Nat} (h : AfterReset source s t) (l : Logged t u) : AfterReset source s u := by
  obtain ⟨hu, -, -⟩ := l
  rw [hu]
  exact { h with }

/-- The release of a reset that no update activation caused: SYS_RESET is the first record of queue 0. -/
theorem logged_releaseReset {source : Nat} (h7 : source ≠ 7) (s : State) :
    Logged { modSys (fun y => { y with inReset := false, resetSource := source }) s with beryl := { s.beryl with resetSource := source } }
      (releaseReset source s) := by
  unfold releaseReset
  rw [if_neg h7]
  exact (logged_ev ..).trans (logged_retirementsRestored _)

theorem releaseReset_sys {source : Nat} (h7 : source ≠ 7) (s : State) :
    (releaseReset source s).sys = { s.sys with inReset := false, resetSource := source } := by
  rw [(logged_releaseReset h7 s).rest]
  rfl

theorem releaseReset_beryl {source : Nat} (h7 : source ≠ 7) (s : State) :
    (releaseReset source s).beryl = { s.beryl with resetSource := source } := by
  rw [(logged_releaseReset h7 s).rest]

theorem AfterReset.released {source : Nat} (h7 : source ≠ 7) (h : AfterReset source s t) :
    AfterReset source s (releaseReset source t) := by
  have hin : AfterReset source s { modSys (fun y => { y with inReset := false, resetSource := source }) t with
      beryl := { t.beryl with resetSource := source } } := { h with source := ⟨rfl, rfl⟩ }
  exact hin.logged (logged_releaseReset h7 t)

theorem AfterReset.of_logged_start {source : Nat} (h : AfterReset source t u) (hk : t.link.psk = s.link.psk)
    (hf : t.persisted = s.persisted) (hp : t.pending = s.pending) : AfterReset source s u :=
  { h with keys := h.keys.trans hk, flash := h.flash.trans hf, pending := h.pending.trans hp }

theorem afterReset_resetNow {source : Nat} (h7 : source ≠ 7) (reason : Nat) (s : State) :
    AfterReset source s (resetNow source reason s) := (afterReset_moduleReset source reason s).released h7

theorem resetNow_inReset {source : Nat} (h7 : source ≠ 7) (reason : Nat) (s : State) : (resetNow source reason s).sys.inReset = false := by
  rw [resetNow, releaseReset_sys h7]

theorem afterReset_resetHeld (source : Nat) (s : State) : AfterReset source s (resetHeld source s) :=
  (afterReset_moduleReset source 0 s).held

theorem resetHeld_inReset (source : Nat) (s : State) : (resetHeld source s).sys.inReset = true := rfl

theorem resetHeld_vmain (source : Nat) (s : State) : (resetHeld source s).sys.vmain = s.sys.vmain := (moduleReset_sys source 0 s).2.1

/-- An event that finds queue 0 empty is its first record. -/
theorem ev_first {s : State} (h : s.queues[(0 : Fin 4)].recs = []) (id dom detail arg : Nat) :
    ∃ r, (ev id dom detail arg s).queues[(0 : Fin 4)].recs.head? = some r ∧ r.w3.data = BitVec.ofNat 32 arg := by
  have hfit {room : Nat} (hroom : 4 ≤ room) (x : Queue) (hx : x.recs = []) : ∃ r,
      (x.push room s.frame id dom detail arg []).recs.head? = some r ∧ r.w3.data = BitVec.ofNat 32 arg := by
    have hlen : (packetRecs s.frame id dom detail arg x.pseq x.lostMark []).length = 1 := rfl
    rw [Queue.push_of_fits (by rw [hx, hlen, List.length_nil]; omega), hx]
    exact ⟨_, rfl, rfl⟩
  rw [ev_queues]
  simp only [Fin.getElem_fin, Vector.getElem_set_self, Fin.val_zero]
  exact hfit (by split <;> omega) _ h

/-- Queue 0 begins with SYS_RESET, its source and reason (R120). -/
theorem releaseReset_first {source : Nat} (h7 : source ≠ 7) (h : s.queues[(0 : Fin 4)].recs = []) :
    ∃ r, (releaseReset source s).queues[(0 : Fin 4)].recs.head? = some r
      ∧ r.w3.data = BitVec.ofNat 32 (source + s.sys.resetReason % 256 * 256) := by
  unfold releaseReset
  rw [if_neg h7]
  obtain ⟨r, hr, hw⟩ := ev_first (s := { modSys (fun y => { y with inReset := false, resetSource := source }) s with
    beryl := { s.beryl with resetSource := source } }) h 0x00 12 0 (source + s.sys.resetReason % 256 * 256)
  exact ⟨r, (logged_retirementsRestored _).first r hr, hw⟩

theorem resetNow_first {source : Nat} (h7 : source ≠ 7) (hs : source < 256) (reason : Nat) (s : State) :
    ((resetNow source reason s).queues[(0 : Fin 4)].recs.map fun r => r.w3.data.toNat).head?
      = some (source + reason % 256 * 256) := by
  obtain ⟨hreason, -, -, hempty⟩ := moduleReset_sys source reason s
  obtain ⟨r, hr, hw⟩ := releaseReset_first h7 hempty
  rw [hreason] at hw
  rw [List.head?_map, resetNow, hr, Option.map_some, hw, BitVec.toNat_ofNat, Nat.mod_eq_of_lt (by omega)]

/-- Settles O22: each row is a reset held or released, after the level of its supply was noted. -/
theorem resetRowsResetTheModule : Obligations.ResetRowsResetTheModule := by
  intro s
  refine ⟨fun v hv hr => ?_, fun v hv => ?_, fun ns hns hvio hr => ?_, fun v ticks cell hr hsrc hv hcell => ?_, fun p hp hover => ?_⟩
  · change ∃ t, execMainInputLow v s = _ ∧ _
    unfold execMainInputLow
    rw [if_pos ⟨hv, by simp only [modSys, hr, Bool.false_eq_true, not_false_eq_true]⟩]
    exact ⟨_, rfl, (afterReset_resetHeld 2 _).of_logged_start rfl rfl rfl, resetHeld_inReset .., resetHeld_vmain ..⟩
  · change execMainInputLow v s = _
    unfold execMainInputLow
    rw [if_neg (by omega)]
    rfl
  · change ∃ t, execRstN ns s = _ ∧ _
    unfold execRstN
    rw [if_pos (by simp only [hns, hvio, hr, Bool.false_eq_true, not_false_eq_true, and_self])]
    exact ⟨_, rfl, afterReset_resetNow (by decide) 0 s, resetNow_inReset (by decide) 0 s⟩
  · change ∃ t, execPowerOn v ticks cell s = _ ∧ _
    have hkept : ¬ cell < 1600 := by omega
    simp only [execPowerOn, hr, hv, hkept, and_self, ↓reduceIte, modSys, hsrc, Nat.reduceEqDiff]
    refine ⟨_, rfl, ?_⟩
    simp only [releaseReset_sys, releaseReset_beryl, ne_eq, Nat.reduceEqDiff, not_false_eq_true, and_self]
  · change ∃ t, execPowerFailRecovery s = _ ∧ _
    have hend : (s.sys.pfRecoverFrom.any fun f => decide (f + 800 ≤ s.frame)) = true ∨ p + 8145 ≤ s.frame := by
      refine hover.imp_left ?_
      rintro ⟨f, hf, hle⟩
      simp only [hf, Option.any_some, hle, decide_true]
    simp only [execPowerFailRecovery, hp, hend, ↓reduceIte]
    by_cases hv : s.sys.vmain < 10500
    · rw [if_pos hv]
      exact ⟨_, rfl, afterReset_resetHeld 3 s, iff_of_true (resetHeld_inReset ..) hv⟩
    · rw [if_neg hv]
      exact ⟨_, rfl, afterReset_resetNow (by decide) 0 s, iff_of_false (ne_true_of_eq_false (resetNow_inReset (by decide) 0 s)) hv⟩

end Sys2Proof.Machine
end

section
/-! SUPPORT. The system commands and the sessions they open and close (chapter 02). -/

namespace Sys2Proof.Machine

open Host (Outcome)

variable {s : State}

theorem length_leBytes (n v : Nat) : (leBytes n v).length = n := by
  induction n generalizing v with
  | zero => rfl
  | succ n ih => rw [leBytes, List.length_cons, ih]

/-! ### Closing sessions -/

/-- A session that PSK_CLEAR leaves open. -/
def keepSession (slot : Nat) (o : Option EthSession) : Option EthSession := match o with
  | some e => if e.slot = slot then none else some e
  | none => none

@[simp] theorem closeSession_sessions (i : Fin 2) (s : State) : (closeSession i s).link.sessions = s.link.sessions.set i none := rfl

/-- One session closed when it was opened under a key slot. -/
def clearSession (slot : Nat) (s : State) (i : Fin 2) : State := match s.link.sessions[i] with
  | some e => if e.slot = slot then closeSession i s else s
  | none => s

theorem applyPskClear_eq (slot : Fin 4) (s : State) : applyPskClear slot s =
    clearSession slot (clearSession slot (modLink (fun l => { l with psk := l.psk.set slot none }) s) 0) 1 := by
  simp only [applyPskClear, slot.isLt, ↓reduceDIte]
  rfl

/-- PSK_CLEAR visits each session once. -/
theorem applyPskClear_link (slot : Fin 4) (s : State) (i : Fin 2) :
    (applyPskClear slot s).link.psk[slot] = none ∧ (applyPskClear slot s).link.sessions[i] = keepSession slot s.link.sessions[i] := by
  have hone (t : State) (j : Fin 2) : (clearSession slot t j).link.psk = t.link.psk
      ∧ (clearSession slot t j).link.sessions = t.link.sessions.set j (keepSession slot t.link.sessions[j]) := by
    have hself (o : Option EthSession) (ho : t.link.sessions[j] = o) : t.link.sessions = t.link.sessions.set j o := by
      rw [← ho]
      exact (Vector.set_getElem_self _).symm
    unfold clearSession
    cases he : t.link.sessions[j] with
    | none => exact ⟨rfl, hself _ he⟩
    | some e =>
      simp only [keepSession]
      split
      · exact ⟨rfl, rfl⟩
      · exact ⟨rfl, hself _ he⟩
  rw [applyPskClear_eq]
  obtain ⟨hk0, hs0⟩ := hone (modLink (fun l => { l with psk := l.psk.set slot none }) s) 0
  obtain ⟨hk1, hs1⟩ := hone (clearSession slot (modLink (fun l => { l with psk := l.psk.set slot none }) s) 0) 1
  refine ⟨?_, ?_⟩
  · rw [hk1, hk0]
    exact Vector.getElem_set_self _
  · rw [hs1, hs0]
    match i with
    | 0 => simp
    | 1 => simp

theorem helloIndex_congr {t : State} (h : t.link.sessions = s.link.sessions) (slot : Nat) : helloIndex t slot = helloIndex s slot := by
  simp only [helloIndex, h]

/-- An ETH_HELLO has no session to retain it. -/
theorem entered_sessions_of_ethOpen {h : Hdr} {peer k : Nat} (hl : h.link = .ethOpen peer k) :
    (entered h s).link.sessions = s.link.sessions := by
  simp only [entered, enterWindow, hl, noteAdmitted_sessions]

/-- Settles O11: each command by its own rules, and its operation at the edge. -/
theorem systemCommandsAndResetTakeEffectAtTheEdge : Obligations.SystemCommandsAndResetTakeEffectAtTheEdge := by
  refine ⟨fun h s => ⟨fun p => ?_, fun u => atEdge_nop .., fun p => ?_, fun fl p => ?_, fun p => ?_, fun u => ?_,
    fun slot key hl hs hk p => ?_, fun slot key u => ?_, fun slot hl hs p => ?_, fun slot u i e he => ?_,
    fun peer k slot nonce hl hs hn hi p => ?_, fun peer k slot nonce u i hl hi => ?_, fun i hl p => ?_⟩,
    fun h reason s => ⟨fun ho p => ?_, ?_, fun hp hu hd => ?_⟩⟩
  · exact congrArg ans (hostCmd_accepts p rfl rfl rfl)
  · exact congrArg ans (hostCmd_accepts p rfl rfl rfl)
  · exact congrArg ans (hostCmd_accepts p rfl rfl rfl)
  · exact congrArg ans (hostCmd_accepts p rfl rfl rfl)
  · change (frameReadResult u).take 6 = _
    rw [frameReadResult, List.append_assoc, List.append_assoc, List.take_left' (length_leBytes 6 _)]
  · exact congrArg ans (hostCmd_accepts p (decide_eq_true hk) rfl (by simp only [pskRules, hl, Nat.not_le.mpr hs]; rfl))
  · simp only [atEdge_pskSet, applyPskSet, slot.isLt, ↓reduceDIte, modLink]
  · exact congrArg ans (hostCmd_accepts p rfl rfl (by simp only [pskRules, hl, Nat.not_le.mpr hs]; rfl))
  · obtain ⟨hkey, hsession⟩ := applyPskClear_link slot u i
    rw [he] at hsession
    simp only [atEdge_pskClear]
    exact ⟨hkey, hsession⟩
  · refine congrArg ans (hostCmd_accepts p (decide_eq_true hn) rfl ?_)
    simp only [helloRules, hl, Nat.not_le.mpr hs, ↓reduceIte, helloIndex_congr (entered_sessions_of_ethOpen hl), Option.isNone_iff_eq_none, hi]
    rfl
  · simp only [atEdge_ethHello, applyHello, hl, hi]
    exact ⟨_, Vector.getElem_set_self _, rfl, rfl, rfl, rfl, rfl, rfl⟩
  · exact congrArg ans (hostCmd_accepts p rfl rfl (by simp only [closeRules, hl]; rfl))
  · refine congrArg ans (hostCmd_accepts p rfl rfl ?_)
    have hopen : ((allFin 24).any fun (o : Fin 24) =>
        fbClosed (entered h s) ⟨o.val, by omega⟩ && pget (entered h s) 0x4008 0 / 2 ^ o.val % 2 == 1) = false := by
      simp only [fbClosed, entered_garnet, List.any_eq_false]
      intro o _
      rw [show s.garnet.outs[(⟨o.val, by omega⟩ : Fin 32)].fb.accepted = false from ho o]
      exact Bool.false_ne_true
    rw [resetRules, if_neg (ne_true_of_eq_false hopen)]
    rfl
  · simp only [atEdge_reset]
    exact ⟨rfl, rfl, rfl, rfl⟩
  · change ∃ t, execResetRelease s = _ ∧ _
    have hdue : s.sys.resetDue.isSome = true := Option.isSome_iff_ne_none.mpr hd
    simp only [execResetRelease, powerFailed, hp, hu, hdue, Option.isSome_none, Bool.false_eq_true, ↓reduceIte]
    have ha := afterReset_resetNow (source := 5) (by decide) s.sys.resetReason (writeRecords s)
    obtain ⟨hready, hcode, -, -⟩ := ha.link
    exact ⟨_, rfl, ha.frame, ha.service, ha.source.1, ha.powered.2, resetNow_inReset (by decide) .., ha.source.2, ha.keys, hready, hcode,
      resetNow_first (by decide) (by decide) ..⟩

end Sys2Proof.Machine
end

section
/-! SUPPORT. Admission of a single waiting packet (R37, R42). -/

namespace Sys2Proof.Machine

open Host (Outcome)

variable {s t : State} {b : List Byte}

/-- The state in which the packet that waited alone is admitted. -/
def admitting (s : State) : State :=
  modLink (fun l => { l with admitFrame := s.frame, admitCount := 1, waiting := [], noted := 1, lastAdmit := s.frame, hostLost := false,
                             counters := { l.counters with spiAdmitted := min (l.counters.spiAdmitted + 1) (2 ^ 32 - 1) } }) s

theorem admitSome_of_none_waiting (n : Nat) (h : s.link.waiting = []) : admitSome n s = s := by
  cases n with
  | zero => rfl
  | succ n => rw [admitSome, h]

/-- A packet that waits alone on a ready link, with no reply left to form, is admitted alone. -/
theorem execPacketAdmission_single (hw : s.link.waiting = [{ link := .spi, bytes := b }])
    (hskip : s.sys.skips.contains .hostPackets = false) (hs : s.sys.service ≠ .bringUp) (hr : s.link.ready = true)
    (hn : s.link.noted = 0) (hd : s.due = []) (hf : s.link.admitFrame ≠ s.frame) :
    execPacketAdmission s = ans (modLink (fun l => { l with noted := 0 })
      (admitSome 3 (admitOne { link := .spi, bytes := b } (admitting s)))) := by
  unfold execPacketAdmission
  rw [if_neg (by simp only [hskip, hs, Bool.false_eq_true, or_self, not_false_eq_true])]
  extract_lets f s1 n now s2
  have h1 : s1 = modLink (fun l => { l with admitFrame := s.frame, admitCount := 0 }) s := if_neg hf
  have hfour : n = 4 := by simp only [n, h1, modLink, Nat.sub_zero]
  have hnow : now = [{ link := .spi, bytes := b }] := by
    simp only [now, hfour, h1, modLink, hw, List.take_succ_cons, List.take_nil, linkOpen, hr, List.filter_cons_of_pos, List.filter_nil]
  have h2 : s2 = modLink (fun l => { l with lastAdmit := s.frame, hostLost := false, counters := { l.counters with
      spiAdmitted := min (l.counters.spiAdmitted + 1) (2 ^ 32 - 1) } }) s1 := by
    simp only [s2, hnow, List.foldl_cons, List.foldl_nil, noteAdmitted]
    rw [if_neg (by simp only [h1, modLink, hn, Nat.lt_irrefl, not_false_eq_true])]
    refine (formReplies_of_later ?_).trans (by rw [h1]; rfl)
    simp only [h1, modLink, hd, List.not_mem_nil, false_implies, implies_true]
  have hwaiting : (modLink (fun l => { l with noted := now.length }) s2).link.waiting = [{ link := .spi, bytes := b }] := by
    rw [h2, h1]
    exact hw
  rw [hfour, admitSome, hwaiting]
  simp only [hnow, h2, h1]
  rfl

theorem linkTakes_admitting (hr : s.link.ready = true) (hd : s.due = []) (hreplies : s.link.replies.length < 16) :
    linkTakes (admitting s) .spi = true := by
  simp only [linkTakes, linkOpen, freeSlots, spiHeld, admitting, modLink, hr, hd, List.filter_nil, List.length_nil, Bool.true_and,
    decide_eq_true_eq]
  omega

/-- What the link holds once a refused packet was answered in its frame; `kept` is 1 when the command is retained. -/
def AnsweredNow (b : List Byte) (detail kept : Nat) (s t : State) : Prop :=
  t.link.waiting = [] ∧ t.due = [] ∧ t.link.window.length = min 16 (s.link.window.length + kept)
    ∧ ∃ r, t.link.replies = s.link.replies ++ [r] ∧ r.cls = 0x30 ∧ r.detail = detail ∧ r.frame = s.frame ∧ r.seq = u16At b 4
      ∧ r.opcode = u16At b 6 ∧ r.result = []

/-- A refusal without a result, with the admission that it ends. -/
theorem answeredNow_refuseNow {u : State} {h : Hdr} {detail kept : Nat} (hl : h.link = .spi) (hseq : h.seq = u16At b 4)
    (hc : detail / 256 = 0x30) (hw : u.link.waiting = []) (hd : u.due = []) (hf : u.frame = s.frame)
    (hr : u.link.replies = s.link.replies) (hwin : u.link.window.length = min 16 (s.link.window.length + kept)) :
    AnsweredNow b detail kept s
      (modLink (fun l => { l with noted := 0 }) (admitSome 3 (refuseNow h (u16At b 6) detail [] u))) := by
  have hsend : (refuseNow h (u16At b 6) detail [] u).link = { u.link with
      replies := u.link.replies ++ [mkReply h (u16At b 6) (detail / 256) detail u.frame (freeSlots u h.link - 1) []]
      window := noteReply (mkReply h (u16At b 6) (detail / 256) detail u.frame (freeSlots u h.link - 1) []) u.link.window
      tail := u.link.tail + 1 } := by
    unfold refuseNow
    generalize hm : mkReply h (u16At b 6) (detail / 256) detail u.frame (freeSlots u h.link - 1) [] = r
    have hrl : r.link = .spi := by rw [← hm, ← hl]; rfl
    simp only [sendReply, hrl]
  have hdue : (refuseNow h (u16At b 6) detail [] u).due = [] := by rw [refuseNow_eq, ← hd]
  rw [admitSome_of_none_waiting 3 (by rw [hsend]; exact hw)]
  refine ⟨by simp only [modLink, hsend, hw], hdue, by simp only [modLink, hsend, noteReply, List.length_map, hwin],
    _, by simp only [modLink, hsend, hr]; rfl, hc, rfl, hf, hseq, rfl, ?_⟩
  simp only [mkReply, ite_self]

/-- A command that no retained one has the number of is entered in the window (R39). -/
theorem inWindow_new {h : Hdr} {op : Nat} {k : State → State} (hl : linkTakes s h.link = true)
    (hw : (linkWindow s h.link).find? (fun r => r.seq == h.seq) = none) : inWindow h op k s = k (entered h s) := by
  have hw' : (linkWindow (noteAdmitted h.link s) h.link).find? (fun r => r.seq == h.seq) = none := by
    rwa [noteAdmitted_linkWindow]
  simp only [inWindow, hl, not_true_eq_false, ↓reduceIte, hw', entered]

theorem entered_window_spi {h : Hdr} (hl : h.link = .spi) : (entered h s).link.window =
    (s.link.window ++ [({ seq := h.seq, crc := h.crc, reply := none } : Retained)]).drop (s.link.window.length + 1 - 16) := by
  simp only [entered, enterWindow, hl, noteAdmitted_window]

/-- A host command's own rules are reached by a new command without a transaction and without the EXPERT flag, in a service level. -/
theorem passes_system {h : Hdr} (hf : Fresh h s) (hv : h.version = 1) (hx : h.flags.getLsbD 7 = false) (ht : h.txn = 0)
    (hs : s.sys.service ≠ .bringUp) (hw : watching s = false) : Passes h 0x0000 true true s where
  fresh := hf
  common := by simp only [commonCheck, hv, hx, ht, ne_eq, not_true_eq_false, ↓reduceIte, Nat.zero_div, Nat.zero_mod, Nat.zero_ne_one, decide_false, false_and]
  state := by
    have ha : available s 0x0000 = true := by
      unfold available
      cases hsv : s.sys.service with
      | full => rfl
      | coarse => rfl
      | loader => rfl
      | bringUp => exact absurd hsv hs
    simp only [stateCheck, ha, hw, ht, ne_eq, not_true_eq_false, ↓reduceIte, Bool.false_eq_true, false_and]

/-- The header of a packet that came over SPI (Table CMD-2). -/
def spiHdr (b : List Byte) : Hdr :=
  { link := .spi, seq := u16At b 4, flags := (b[8]?).getD 0, txn := u8At b 9, version := u8At b 10,
    crc := BitVec.ofNat 32 (leNat (b.drop (b.length - 4))) }

/-- A packet that spells a NOP is that command. -/
theorem admitOne_nop (htakes : linkTakes s .spi = true)
    (hfresh : (linkWindow s .spi).find? (fun r => r.seq == u16At b 4) = none) (hl : b.length = 20) (hl2 : u16At b 2 = 20)
    (hcrc : crc32 (b.take (b.length - 4)) = BitVec.ofNat 32 (leNat (b.drop (b.length - 4)))) (hv : u8At b 10 = 1)
    (hop : u16At b 6 = 0) (hx : ((b[8]?).getD 0).getLsbD 7 = false) (ht : u8At b 9 = 0) (hs : s.sys.service ≠ .bringUp)
    (hwatch : watching s = false) :
    admitOne { link := .spi, bytes := b } s = accepted (.nop (spiHdr b)) (spiHdr b) 0x0000 0 none s := by
  have hnop : hostOp (u16At b 6) = some (0x0000, fun h p => fixed 0 p (execNop h)) := by rw [hop]; rfl
  have hfield : (b.take (b.length - 4)).drop 16 = [] := by
    rw [List.drop_eq_nil_iff, List.length_take]
    omega
  have hp : Passes (spiHdr b) 0x0000 true true s := passes_system ⟨htakes, hfresh⟩ hv hx ht hs hwatch
  have hexec : execNop (spiHdr b) s = .next (accepted (.nop (spiHdr b)) (spiHdr b) 0x0000 0 none s) :=
    congrArg ans (hostCmd_accepts hp rfl rfl rfl)
  unfold admitOne
  dsimp only
  rw [if_neg (Classical.not_not.mpr htakes), if_neg (by rw [hl, hl2]; exact Classical.not_not.mpr rfl), if_neg (Classical.not_not.mpr hcrc), hnop, hfield]
  exact congrArg (nextOf s) hexec

theorem accepted_link (c : Instr) (h : Hdr) (op d : Nat) (res : Option (List Byte)) (s : State) :
    (accepted c h op d res s).link = (entered h s).link := rfl

theorem entered_waiting (h : Hdr) (s : State) : (entered h s).link.waiting = s.link.waiting := by
  unfold entered enterWindow
  split
  · exact noteAdmitted_waiting ..
  · split <;> exact noteAdmitted_waiting ..
  · exact noteAdmitted_waiting ..

/-- Settles O8: the branches of `admitOne`, in their order. -/
theorem admissionChecksInOrder : Obligations.AdmissionChecksInOrder := by
  intro b s hw hskip hs hr hn hd hreplies hwin n crc answered
  refine ⟨fun hf hc => ?_, fun hf hlen => ?_⟩
  · change ∃ t, execPacketAdmission s = _ ∧ _
    have hnone : 4 - s.link.admitCount = 0 := by omega
    unfold execPacketAdmission
    rw [if_neg (by simp only [hskip, hs, Bool.false_eq_true, or_self, not_false_eq_true])]
    simp only [hf, ↓reduceIte, hnone, List.take_zero, List.filter_nil, List.foldl_nil, List.length_nil, admitSome,
      formReplies_of_later (show ∀ d ∈ s.due, s.frame < d.frame by simp only [hd, List.not_mem_nil, false_implies, implies_true])]
    exact ⟨_, rfl, rfl⟩
  · have hexec : exec .packetAdmission s = _ := execPacketAdmission_single hw hskip hs hr hn hd hf
    have htakes := linkTakes_admitting hr hd hreplies
    have hfresh : (linkWindow (admitting s) .spi).find? (fun r => r.seq == u16At b 4) = none := by
      rw [List.find?_eq_none]
      intro r hr
      simpa only [beq_iff_eq] using hwin r hr
    rw [hexec]
    refine ⟨fun hl => ⟨_, rfl, ?_⟩, fun hl hcrc => ⟨_, rfl, ?_⟩, fun hl hcrc hv hop => ⟨_, rfl, ?_⟩, fun hl hl2 hcrc hv hop hx ht hwatch => ⟨_, rfl, ?_⟩⟩
    · simp only [admitOne, htakes, not_true_eq_false, ↓reduceIte, ne_eq, hl, not_false_eq_true]
      exact answeredNow_refuseNow rfl rfl rfl rfl hd rfl rfl (by rw [noteAdmitted_window]; exact (Nat.min_eq_right hlen).symm)
    · unfold admitOne
      dsimp only
      rw [if_neg (Classical.not_not.mpr htakes), if_neg (Classical.not_not.mpr hl), if_pos hcrc]
      exact answeredNow_refuseNow rfl rfl rfl rfl hd rfl rfl (by rw [noteAdmitted_window]; exact (Nat.min_eq_right hlen).symm)
    · unfold admitOne
      dsimp only
      rw [if_neg (Classical.not_not.mpr htakes), if_neg (Classical.not_not.mpr hl), if_neg (Classical.not_not.mpr hcrc), hop]
      dsimp only
      rw [inWindow_new htakes hfresh, if_neg (Classical.not_not.mpr hv)]
      refine answeredNow_refuseNow rfl rfl rfl rfl hd rfl rfl ?_
      rw [entered_window_spi rfl]
      simp only [List.length_drop, List.length_append, List.length_cons, List.length_nil, admitting, modLink]
      omega
    · rw [admitOne_nop htakes hfresh hl hl2 hcrc hv hop hx ht hs hwatch,
        admitSome_of_none_waiting 3 (by rw [accepted_link, entered_waiting]; rfl)]
      refine ⟨?_, waitingCmd (.nop (spiHdr b)) (spiHdr b) 0x0000 0 none (admitting s), ?_, rfl, rfl, rfl, rfl⟩
      · simp only [modLink, accepted_link, entered_waiting, admitting]
      · simp only [modLink, accepted_due, admitting, hd, List.nil_append]

end Sys2Proof.Machine
end

section
/-! SUPPORT. The parameter commands and the store (chapter 02). -/

namespace Sys2Proof.Machine

open Host (Outcome)

variable {s : State}

theorem entered_writeCheck (h : Hdr) (s : State) (expert : Bool) (txn : Nat) (e : PEntry) :
    writeCheck (entered h s) expert txn e = writeCheck s expert txn e := by
  rw [entered_eq]
  rfl

theorem entered_stagedIn (h : Hdr) (s : State) (id inst : Nat) : stagedIn (entered h s) id inst = stagedIn s id inst := by
  simp only [stagedIn, entered_txn]

theorem firstFail_eq_none {α : Type} {check : α → Option (Nat × Nat)} {l : List α} (h : ∀ e ∈ l, check e = none) (i : Nat) :
    firstFail check i l = none := by
  induction l generalizing i with
  | nil => rfl
  | cons x l ih =>
    rw [firstFail, h x List.mem_cons_self]
    exact ih (fun e he => h e (List.mem_cons_of_mem _ he)) (i + 1)

theorem entriesLayout_self {es : List PEntry} (h : ∀ e ∈ es, e.val.length = e.len ∧ lengthOk e = true) :
    entriesLayout es.length es = true ∧ es.all lengthOk = true := by
  simp only [entriesLayout, beq_self_eq_true, Bool.true_and, List.all_eq_true, beq_iff_eq]
  exact ⟨fun e he => (h e he).1, fun e he => (h e he).2⟩

/-- A write without a transaction, every entry of which passes its checks. -/
theorem paramWriteRules_accepts {h : Hdr} {expert : Bool} {es : List PEntry} (ht : h.txn = 0) (hne : es ≠ []) (hlen : es.length ≤ 125)
    (hok : ∀ e ∈ es, writeCheck s expert 0 e = none) :
    paramWriteRules h expert es (entered h s) = .accept 0 (some (writeResult es.length 0xFF 0)) id := by
  have hfail : firstFail (writeCheck (entered h s) expert 0) 0 es = none :=
    firstFail_eq_none (fun e he => (entered_writeCheck ..).trans (hok e he)) 0
  have hcount : ¬ (es.isEmpty = true ∨ 125 < es.length) := by
    simp only [List.isEmpty_iff, hne, false_or, Nat.not_lt, hlen]
  simp only [paramWriteRules, hcount, ↓reduceIte, ht, hfail]

theorem pset_eq {id : Nat} (h : id ≠ 0x0026) (inst v : Nat) (s : State) :
    pset id inst v s = { s with params := storePut s.params id inst v } := if_neg h

theorem pget_pset_same {id : Nat} (h : id ≠ 0x0026) (inst v : Nat) (hwf : storeWf s.params) : pget (pset id inst v s) id inst = v := by
  rw [pset_eq h, pget, if_neg h]
  exact storeGet_storePut_same id inst v hwf

theorem pget_pset_other {id inst id' inst' : Nat} (h : id ≠ 0x0026) (v : Nat) (hwf : storeWf s.params) (hi : inst < 256)
    (hi' : inst' < 256) (hne : (id', inst') ≠ (id, inst)) : pget (pset id inst v s) id' inst' = pget s id' inst' := by
  have hkey : pkey id' inst' ≠ pkey id inst := fun hk => hne (Prod.ext_iff.mpr ((pkey_inj hi' hi).mp hk))
  rw [pset_eq h]
  simp only [pget, storeGet_storePut_other hkey hwf]

/-- A parameter without an effect of its own is put into the store. -/
theorem applyParam_ordinary {id : Nat} (hid : id ∉ [0x0010, 0x0011, 0x0023, 0x0026, 0x5800]) (ht : isTrial id = false)
    (hsite : id < 0x5000 ∨ 0x5004 < id) (inst v : Nat) (s : State) : applyParam id inst v s = pset id inst v s := by
  simp only [List.mem_cons, List.not_mem_nil, or_false, not_or] at hid
  obtain ⟨h1, h2, h3, h4, h5⟩ := hid
  have hs : ¬ (0x5000 ≤ id ∧ id ≤ 0x5004) := by omega
  simp only [applyParam, h1, h2, h3, h5, hs, ht, Bool.false_and, Bool.false_eq_true, or_self, ↓reduceIte]

theorem fit_self {n : Nat} {b : List Byte} (h : b.length = n) : fit n b = b := List.take_left' h

/-- Settles O13: the commands by their rules; the store by its laws. -/
theorem parametersAreWrittenAtTheEdgeAndReadInForce : Obligations.ParametersAreWrittenAtTheEdgeAndReadInForce := by
  refine ⟨fun h s => ⟨fun es ht hne hlen hes => ⟨fun hok p => ?_, fun hok p => ?_⟩, fun e u ht hi hwf hid htrial hsite => ?_, fun area ha hst p => ?_⟩,
    fun h s => ⟨fun es hne hlen hok hfit p => ?_, fun id inst p u hp hl => ?_, fun id hid p => ?_, fun area page p => ?_, fun img himg => ?_⟩⟩
  · obtain ⟨hl, hg⟩ := entriesLayout_self hes
    exact congrArg ans (hostCmd_accepts p hl hg (paramWriteRules_accepts ht hne hlen hok))
  · obtain ⟨hl, hg⟩ := entriesLayout_self hes
    exact congrArg ans (hostCmd_accepts p hl hg (paramWriteRules_accepts ht hne hlen hok))
  · have h26 : e.id ≠ 0x0026 := fun h => hid (by rw [h]; decide)
    have hi' : e.inst ≠ 0xFF := Nat.ne_of_lt hi
    have hedge : atEdge (.paramWrite h 1 [e]) h 0x0101 0 (some (writeResult 1 0xFF 0)) u = pset e.id e.inst (leNat e.val) u := by
      simp only [atEdge_paramWrite, applyParamWrite, ht, ↓reduceIte, List.flatMap_cons, List.flatMap_nil, List.append_nil, entryWrites,
        hi', applyWrites, List.foldl_cons, List.foldl_nil, applyParam_ordinary hid htrial hsite]
    rw [hedge]
    refine ⟨?_, pget_pset_same h26 _ _ hwf, fun id inst hinst hne => pget_pset_other h26 _ hwf (by omega) hinst hne, ?_⟩
    · rw [pset_eq h26]
    · rw [pset_eq h26]
      exact storeWf_storePut _ _ _ hwf
  · refine congrArg ans (hostCmd_accepts p rfl rfl ?_)
    have hstaged : ((defaultWrites area).any fun w => (stagedIn (entered h s) w.1 w.2.1).isSome) = false := by
      simp only [List.any_eq_false, entered_stagedIn]
      intro w hw
      rw [hst w hw]
      exact Bool.false_ne_true
    simp only [paramDefaultRules, List.isEmpty_iff, ha, ↓reduceIte, hstaged, Bool.false_eq_true]
    rfl
  · refine congrArg ans (hostCmd_accepts p (beq_self_eq_true _) rfl ?_)
    have hcount : ¬ (es.isEmpty = true ∨ 125 < es.length) := by
      simp only [List.isEmpty_iff, hne, false_or, Nat.not_lt, hlen]
    simp only [paramReadRules, hcount, ↓reduceIte, firstFail_eq_none hok, hfit, Nat.lt_irrefl]
    rfl
  · change paramReadResult [{ id := id, inst := inst }] u = _
    simp only [paramReadResult, List.flatMap_cons, List.flatMap_nil, List.append_nil, List.length_singleton, hp, Option.map_some,
      Option.getD_some, hl, Nat.reduceAdd, Nat.reduceDiv, Nat.reduceMul, fit_self (length_leBytes 4 _), List.append_assoc]
    rfl
  · exact congrArg ans (hostCmd_accepts p rfl rfl (if_pos (Option.isSome_iff_ne_none.mpr hid)))
  · exact congrArg ans (hostCmd_accepts p rfl rfl rfl)
  · change execParamPersist s = _
    simp only [execParamPersist, himg]
    rfl

end Sys2Proof.Machine
end

section
/-! SUPPORT. The transaction table (chapter 03): the transaction a number names after the table's operations, and the commands and
timed rows that move it. -/

namespace Sys2Proof.Machine

open Host (Outcome)

variable {s t : State} {n : Nat} {x y : Txn}

/-! ### The transaction that a number names -/

theorem findTxn_num (h : findTxn s n = some x) : x.num = n := by
  simpa only [beq_iff_eq] using List.find?_some h

theorem find?_map_replace (l : List Txn) (h : l.find? (·.num == n) = some x) (hy : y.num = n) :
    (l.map fun z => if z.num = y.num then y else z).find? (·.num == n) = some y := by
  induction l with
  | nil => cases h
  | cons z l ih =>
    by_cases hz : z.num = n
    · simp only [List.map_cons, hz, hy, ↓reduceIte, List.find?_cons, beq_self_eq_true]
    · have hne : (z.num == n) = false := beq_false_of_ne hz
      rw [List.find?_cons, hne] at h
      simp only [List.map_cons, hy, hz, ↓reduceIte, List.find?_cons, hne]
      simpa only [hy] using ih h

/-- The transaction put in the table is the one its number names. -/
theorem findTxn_setTxn (h : findTxn s n = some x) (hy : y.num = n) : findTxn (setTxn y s) n = some y :=
  find?_map_replace s.txn.txns h hy

theorem nameTxn_of_find (h : findTxn s n = some x) : nameTxn n s = setTxn { x with lastNamed := s.frame } s := by
  rw [nameTxn, h]

theorem findTxn_nameTxn (h : findTxn s n = some x) : findTxn (nameTxn n s) n = some { x with lastNamed := s.frame } := by
  rw [nameTxn_of_find h]
  exact findTxn_setTxn h (show x.num = n from findTxn_num h)

theorem modTxn_of_find {f : Txn → Txn} (h : findTxn s n = some x) : modTxn n f s = setTxn (f x) s := by
  rw [modTxn, h]

theorem findTxn_dropTxn (o : TxnOutcome) (hx : x.num = n) (s : State) : findTxn (dropTxn x o s) n = none := by
  simp only [findTxn, dropTxn, List.find?_filter, hx, List.find?_eq_none, bne_iff_ne, ne_eq, beq_iff_eq]
  intro z _
  simp only [not_and_self, decide_false, Bool.false_eq_true, not_false_eq_true]

theorem accepted_findTxn (c : Instr) (h : Hdr) (op d : Nat) (res : Option (List Byte)) (s : State) (n : Nat) :
    findTxn (accepted c h op d res s) n = findTxn s n := by
  simp only [findTxn, accepted_txn]

/-- What changing the table leaves alone. -/
theorem nameTxn_eq (n : Nat) (s : State) : nameTxn n s = { s with txn := (nameTxn n s).txn } := by
  unfold nameTxn
  split <;> rfl

/-! ### The commands that name a transaction -/

/-- A new command that names a transaction, accepted by its own rules, restarts the idle timer and has its own effect at once. -/
theorem hostCmd_named {h : Hdr} {op d : Nat} {c : Instr} {layout lengths : Bool} {bad : List Byte} {rules : State → Verdict}
    {res : Option (List Byte)} {now : State → State} (p : Passes h op true true s) (hl : layout = true) (hg : lengths = true)
    (hr : rules (entered h s) = named h.txn (.accept d res now)) :
    hostCmd h op c layout lengths bad rules s = now (nameTxn h.txn (accepted c h op d res s)) := by
  subst hl hg
  rw [hostCmd_passes p, hr]
  rfl

theorem accepted_named (c : Instr) (h : Hdr) (op d : Nat) (res : Option (List Byte)) (hx : findTxn s h.txn = some x) :
    findTxn (nameTxn h.txn (accepted c h op d res s)) h.txn = some { x with lastNamed := s.frame } := by
  rw [findTxn_nameTxn ((accepted_findTxn ..).trans hx), accepted_frame]

theorem afterAct_link (a : Action) (l : LinkSt) (s : State) : afterAct a { s with link := l } = { afterAct a s with link := l } := by
  have hset (id inst v : Nat) (s : State) : pset id inst v { s with link := l } = { pset id inst v s with link := l } := by
    unfold pset
    split <;> rfl
  cases a with
  | param id inst v => exact hset ..
  | contactor o close => rfl
  | pgSetpoint g mV mA => rfl
  | tie t close => rfl
  | aux n mode duty => rfl
  | tariffTable slot => rfl
  | powerLimit o imp exp => simp only [afterAct, hset]

theorem afterActs_link (acts : List Action) (l : LinkSt) (s : State) :
    afterActs acts { s with link := l } = { afterActs acts s with link := l } := by
  unfold afterActs
  induction acts generalizing s with
  | nil => rfl
  | cons a acts ih =>
    rw [List.foldl_cons, afterAct_link]
    exact ih (afterAct a s)

/-- The catalogue does not look at the link. -/
theorem entered_runChecks (h : Hdr) (s : State) (num : Nat) (acts : List (Nat × Action)) :
    runChecks (entered h s) num acts = runChecks s num acts := by
  rw [entered_eq]
  unfold runChecks catalogue
  rw [afterActs_link]
  rfl

theorem entered_stageCheck (h : Hdr) (s : State) (num : Nat) (a : ActRec) : stageCheck (entered h s) num a = stageCheck s num a := by
  rw [entered_eq]
  rfl

theorem entered_actHere (h : Hdr) (s : State) (a : ActRec) : actHere (entered h s) a = actHere s a := by
  rw [entered_eq]
  rfl

theorem stageable_of_state (h : x.state = .open ∨ x.state = .checked) : stageable x = true := by
  rcases h with h | h <;> simp only [stageable, h] <;> rfl

end Sys2Proof.Machine
end

section
/-! SUPPORT. The commands and the timed rows of the transaction table (chapter 03). -/

namespace Sys2Proof.Machine

open Host (Outcome)

variable {s t : State} {n : Nat} {x y : Txn}

/-- A command that changes the transaction it names: what stands in the table then, and what does not change. -/
theorem hostCmd_named_modTxn {h : Hdr} {op d : Nat} {c : Instr} {layout lengths : Bool} {bad : List Byte} {rules : State → Verdict}
    {res : Option (List Byte)} {f : Txn → Txn} (p : Passes h op true true s) (hl : layout = true) (hg : lengths = true)
    (hr : rules (entered h s) = named h.txn (.accept d res (modTxn h.txn f))) (hx : findTxn s h.txn = some x)
    (hf : ∀ z, (f z).num = z.num) :
    ∃ t, ans (hostCmd h op c layout lengths bad rules s) = .next t ∧ findTxn t h.txn = some (f { x with lastNamed := s.frame })
      ∧ t = { accepted c h op d res s with txn := t.txn } := by
  have hnamed := accepted_named c h op d res hx
  refine ⟨_, rfl, ?_, ?_⟩
  · rw [hostCmd_named p hl hg hr, modTxn_of_find hnamed]
    exact findTxn_setTxn hnamed ((hf _).trans (show x.num = h.txn from findTxn_num hx))
  · rw [hostCmd_named p hl hg hr, modTxn_of_find hnamed, nameTxn_eq]
    rfl

/-- The actions that the records of a TXN_STAGE stand for, each with its node (R88). -/
def stagedActs (s : State) (acts : List ActRec) : List (Nat × Action) :=
  acts.flatMap fun a => (actOf a).map fun y => ((if actHere s a then 0xFF else a.node), y)

theorem txnStageRules_accepts {h : Hdr} {acts : List ActRec} (hx : findTxn s h.txn = some x) (hn : h.txn ≠ 0)
    (hst : x.state = .open ∨ x.state = .checked) (hne : acts ≠ []) (hlen : acts.length ≤ 63)
    (hok : ∀ a ∈ acts, stageCheck s h.txn a = none) (hfit : (putActions x.actions (stagedActs s acts)).length ≤ 64) :
    txnStageRules h acts (entered h s) = named h.txn (.accept 0 (some (stageResult acts.length 0xFF))
      (modTxn h.txn fun z => { z with actions := putActions x.actions (stagedActs s acts), state := .open })) := by
  have hfail : firstFail (stageCheck (entered h s) h.txn) 0 acts = none :=
    firstFail_eq_none (fun a ha => (entered_stageCheck ..).trans (hok a ha)) 0
  have hcount : ¬ (acts.isEmpty = true ∨ 63 < acts.length) := by
    simp only [List.isEmpty_iff, hne, false_or, Nat.not_lt, hlen]
  have hfind : findTxn (entered h s) h.txn = some x := (entered_findTxn ..).trans hx
  have hacts : (acts.flatMap fun a => (actOf a).map fun y => ((if actHere (entered h s) a then 0xFF else a.node), y)) = stagedActs s acts := by
    simp only [stagedActs, entered_actHere]
  simp only [txnStageRules, hn, ↓reduceIte, hcount, hfail, stageInto, hfind, stageable_of_state hst, not_true_eq_false, hacts,
    Nat.not_lt.mpr hfit]
  rfl

theorem txnCheckRules_accepts {h : Hdr} (hx : findTxn s h.txn = some x) (hst : x.state = .open ∨ x.state = .checked)
    (hrun : (runChecks s h.txn x.own).check = 0) : txnCheckRules h.txn (entered h s) =
      .accept 0 (some (runChecks s h.txn x.own).bytes) (modTxn h.txn fun z => { z with state := .checked }) := by
  have hfind : findTxn (entered h s) h.txn = some x := (entered_findTxn ..).trans hx
  simp only [txnCheckRules, hfind, stageable_of_state hst, not_true_eq_false, ↓reduceIte, entered_runChecks, hrun]
  rfl

theorem txnCommitRules_accepts {h : Hdr} (frame : Nat) (hx : findTxn s h.txn = some x) (hst : x.state = .open ∨ x.state = .checked)
    (hsite : x.isSite = false) (hrun : (runChecks s h.txn x.own).check = 0) : txnCommitRules h 0 frame (entered h s) =
      .accept (if x.own.all fun y => y.2.atOnce then 0 else 0x0100) (some (runChecks s h.txn x.own).bytes)
        (modTxn h.txn fun z => { z with state := .pending, commitFrame := some (frameAfter s.frame 1), finalCheck := none }) := by
  have hfind : findTxn (entered h s) h.txn = some x := (entered_findTxn ..).trans hx
  have hmode : ¬ 1 < 0 := by omega
  simp only [txnCommitRules, hfind, stageable_of_state hst, not_true_eq_false, ↓reduceIte, hmode, hsite, Bool.false_eq_true, commitFrameOf,
    entered_frame, true_and, entered_runChecks, hrun]

theorem txnAbortRules_accepts {h : Hdr} (hx : findTxn s h.txn = some x) (hst : x.state = .open ∨ x.state = .checked) :
    txnAbortRules h.txn (entered h s) = .accept 0 none (abortTxn h.txn) := by
  have hfind : findTxn (entered h s) h.txn = some x := (entered_findTxn ..).trans hx
  simp only [txnAbortRules, hfind, stageable_of_state hst, true_or, ↓reduceIte]

/-- Settles O15: each command by its rules on the transaction named, and the two results. -/
theorem transactionCommandsMoveAndShowTheTable : Obligations.TransactionCommandsMoveAndShowTheTable := by
  refine ⟨fun h s x hx hhost hn hst => ⟨fun acts hne hlen hacts hok hfit p => ?_, fun hrun p => ?_, fun frame hsite hrun p => ?_, fun p => ?_⟩,
    fun h s => ⟨fun x hx hn p => ?_, fun u x hx => ?_, fun p => ?_, fun u => ?_⟩⟩
  · have hlayout : (acts.length == acts.length && acts.all fun a => a.value.length == 12) = true := by
      simp only [beq_self_eq_true, Bool.true_and, List.all_eq_true, beq_iff_eq]
      exact fun a ha => (hacts a ha).1
    have hlengths : acts.all actLengthOk = true := List.all_eq_true.mpr fun a ha => (hacts a ha).2
    obtain ⟨t, ht, hfind, hrest⟩ := hostCmd_named_modTxn (c := .txnStage h acts.length acts) (bad := stageResult 0 (firstBad actLengthOk acts)) p hlayout hlengths
      (txnStageRules_accepts hx hn hst hne hlen hok hfit) hx fun _ => rfl
    refine ⟨t, ht, hfind, ?_, ?_, ?_, ?_⟩
    · rw [hrest, ← accepted_due]
      rfl
    · rw [hrest]; exact entered_params h s
    · rw [hrest]; exact entered_garnet h s
    · rw [hrest]; exact entered_outlets h s
  · obtain ⟨t, ht, hfind, hrest⟩ := hostCmd_named_modTxn (c := .txnCheck h) (bad := []) (rules := fun s => named h.txn (txnCheckRules h.txn s))
      p rfl rfl (congrArg (named h.txn) (txnCheckRules_accepts hx hst hrun)) hx fun _ => rfl
    exact ⟨t, ht, hfind, by rw [hrest]; rfl⟩
  · obtain ⟨t, ht, hfind, hrest⟩ := hostCmd_named_modTxn (c := .txnCommit h 0 frame) (bad := []) (rules := fun s => named h.txn (txnCommitRules h 0 frame s))
      p rfl rfl (congrArg (named h.txn) (txnCommitRules_accepts frame hx hst hsite hrun)) hx fun _ => rfl
    refine ⟨t, ht, hfind, _, by rw [hrest]; rfl, ?_⟩
    simp only [waitingCmd]
    split <;> rfl
  · have hnamed := accepted_named (.txnAbort h) h 0x0204 0 none hx
    have hcmd := hostCmd_named (c := .txnAbort h) (bad := []) (rules := fun s => named h.txn (txnAbortRules h.txn s)) p rfl rfl
      (congrArg (named h.txn) (txnAbortRules_accepts hx hst))
    have hdrop : abortTxn h.txn (nameTxn h.txn (accepted (.txnAbort h) h 0x0204 0 none s)) =
        dropTxn { x with lastNamed := s.frame } .aborted (nameTxn h.txn (accepted (.txnAbort h) h 0x0204 0 none s)) := by
      have hstate : x.state ≠ .pending := by rcases hst with h | h <;> simp only [h, ne_eq, reduceCtorEq, not_false_eq_true]
      simp only [abortTxn, hnamed, hstate, false_and, ↓reduceIte]
    refine ⟨_, congrArg ans hcmd, ?_, ?_, ?_⟩
    · rw [hdrop]
      exact findTxn_dropTxn _ (show x.num = h.txn from findTxn_num hx) _
    · have hh : ({ x with lastNamed := s.frame } : Txn).isHost = true := decide_eq_true hhost
      have hended : (nameTxn h.txn (accepted (.txnAbort h) h 0x0204 0 none s)).txn.ended = s.txn.ended := by
        rw [nameTxn_of_find ((accepted_findTxn ..).trans hx)]
        change (entered h s).txn.ended = _
        rw [entered_txn]
      rw [hdrop]
      simp only [dropTxn, hh, ↓reduceIte, hended]
    · rw [hdrop, nameTxn_eq]
      rfl
  · have hfind : findTxn (entered h s) h.txn = some x := (entered_findTxn ..).trans hx
    refine congrArg ans (hostCmd_named (now := id) p rfl rfl ?_)
    simp only [hfind, Option.isSome_some, ↓reduceIte]
    rfl
  · refine ⟨x.firstIdx fun a => !a.confirmed, ?_, fun hall => ?_⟩
    · change txnQueryResult h.txn u = _
      simp only [txnQueryResult, hx, List.countP_eq_length_filter]
    · have hnone : x.actions.findIdx? (fun a => !a.confirmed) = none := by
        rw [List.findIdx?_eq_none_iff]
        intro a ha
        rw [hall a ha]
        rfl
      rw [Txn.firstIdx, hnone]
      rfl
  · exact congrArg ans (hostCmd_accepts p rfl rfl rfl)
  · change (txnListResult u).take 1 = _
    simp only [txnListResult, List.append_assoc, List.take_left' (length_leBytes 1 _), List.length_append, List.length_map]

end Sys2Proof.Machine
end

section
/-! SUPPORT. The timed rows of a transaction (chapter 03). -/

namespace Sys2Proof.Machine

open Host (Outcome)

variable {s t : State} {n : Nat} {x y : Txn}

theorem txnArg_host (h : x.num < 240) : txnArg x 0xFF 0 0 = x.num * 2 ^ 24 + 0xFF * 2 ^ 16 := by
  have harg : txnArg x 0xFF 0 0 = x.num * 2 ^ 24 + 0xFF * 2 ^ 16 + 0 * 2 ^ 8 + 0 := if_pos (decide_eq_true h)
  exact harg.trans (by simp only [Nat.zero_mul, Nat.add_zero])

/-- What the event of an invalid channel leaves alone (R227). -/
theorem measFault_logged (r : CheckResult) (acts : List (Nat × Action)) (s : State) : Logged s (measFault r acts s) := by
  unfold measFault
  split
  · split
    · exact logged_ev ..
    · exact .refl s
  · exact .refl s

theorem commitDue_of_pending {c : Nat} (hst : x.state = .pending) (hc : x.commitFrame = some c) (hle : c ≤ s.frame)
    (hf : x.isFence = false) : commitDue s x = true := by
  simp only [commitDue, hst, hc, expired, hle, decide_true, hf, Bool.not_false, Bool.and_true, beq_self_eq_true]

/-- Settles O16: the idle timer, the final check and the commit edge, each on the transaction that the number names. -/
theorem transactionsRunToTheirCommitEdge : Obligations.TransactionsRunToTheirCommitEdge := by
  intro n s x hx hnum
  refine ⟨fun hn hst hidle => ?_, fun hst hc hfin hok => ?_, fun c r hst hc hle hfence hpf hfin hr => ?_⟩
  · change execTxnIdleTimeout n s = _
    have hhost : x.isHost = true := decide_eq_true (hnum ▸ hn)
    simp only [execTxnIdleTimeout, hx, hhost, stageable_of_state hst, hidle, and_self, ↓reduceIte, txnEv,
      txnArg_host (hnum ▸ hn), dropTxn, hnum]
    rfl
  · change ∃ t, execFinalCheck n s = _ ∧ _
    have hdue : finalDue s x = true := by
      simp only [finalDue, hst, hc, hfin, beq_self_eq_true, Option.isNone_none, Bool.and_self]
    have hlog := (measFault_logged (finalRun x s) x.own (setTxn { x with finalCheck := some (finalRun x s) } s)).rest
    simp only [execFinalCheck, hx, hdue, ↓reduceIte, finalCheck]
    refine ⟨_, rfl, ?_, ?_, ?_, ?_⟩
    · have hput := findTxn_setTxn (y := { x with finalCheck := some (finalRun x s) }) hx hnum
      rw [hlog]
      exact hput
    all_goals rw [hlog]; rfl
  · change execTxnCommitted n s = _
    have hcheck : x.finalCheck.map (fun r => r.check) = some 0 := by rw [hfin, Option.map_some, hr]
    simp only [execTxnCommitted, hx, commitDue_of_pending hst hc hle hfence, not_true_eq_false, ↓reduceIte, powerFailed, hpf,
      Option.isSome_none, Bool.false_eq_true, hcheck]
    refine congrArg ans ?_
    unfold commitTxn
    have hacts (w : State) : ({ (x.mapActs fun a => { a with undo := some (undoOf s a.act) }).mapActs fun a =>
        { a with since := s.frame, window := (windowOf w a.act).map (s.frame + ·), confirmed := a.act.atOnce || a.node != 0xFF }
        with state := .applying } : Txn) = { x with state := .applying, actions := x.actions.map fun a =>
          { a with undo := some (undoOf s a.act), since := s.frame, window := (windowOf w a.act).map (s.frame + ·),
                   confirmed := a.act.atOnce || a.node != 0xFF } } := by
      simp only [Txn.mapActs, List.map_map]
      rfl
    dsimp only
    generalize applyActs x.isHost 1 (x.own.map fun y => y.2) s = w
    rw [hacts]
    by_cases hn : n < 240
    · have hhost : x.isHost = true := decide_eq_true (hnum ▸ hn)
      simp only [hhost, hn, ↓reduceIte, txnEv, txnArg_host (hnum ▸ hn), hnum]
    · have hhost : x.isHost = false := decide_eq_false (hnum ▸ hn)
      simp only [hhost, hn, ↓reduceIte, hnum, Bool.false_eq_true]

/-- Settles O18: the branches of `phase1Act`. -/
theorem reversalsNeverCloseWhatWasMissed : Obligations.ReversalsNeverCloseWhatWasMissed := by
  intro t s x hx y
  have hleft (h : (heldInside s t.num x.act || leftOff t x || neverAgain s t x) = true) : y.reversal = .left := by
    simp only [y, phase1Act, h, ↓reduceIte]
  refine ⟨fun hm ⟨o, ho⟩ => hleft ?_, fun hm ⟨o, ho⟩ => hleft ?_, fun hn ⟨o, ho⟩ => hleft ?_, fun hw => ?_, ?_⟩
  · simp only [leftOff, hm, ho, Bool.and_self, Bool.or_true, Bool.true_or]
  · simp only [leftOff, hm, ho, Bool.and_self, Bool.or_true, Bool.true_or]
  · have hnever : neverAgain s t x = true := by
      unfold neverAgain
      rw [ho]
      split
      case h_1 hp => simp only [Txn.neverCloses, hp, Bool.false_eq_true] at hn
      all_goals simp_all
    rw [hnever, Bool.or_true]
  · refine Classical.byContradiction fun hc => ?_
    by_cases hstay : (heldInside s t.num x.act || leftOff t x || neverAgain s t x) = true
    · exact Reversal.noConfusion ((hleft hstay).symm.trans hw)
    · simp only [y, phase1Act, hstay, hc, Bool.false_eq_true, ↓reduceIte] at hw
      split at hw
      · cases hw
      · cases hw
  · dsimp only [y]
    unfold phase1Act
    split
    · exact ⟨rfl, rfl, rfl, rfl⟩
    split
    · split
      · exact ⟨rfl, rfl, rfl, rfl⟩
      · exact ⟨rfl, rfl, rfl, rfl⟩
    split
    · exact ⟨rfl, rfl, rfl, rfl⟩
    · exact ⟨rfl, rfl, rfl, rfl⟩

end Sys2Proof.Machine
end

section
/-! SUPPORT. The coordinator's rows of a site transaction (R113, R115). -/

namespace Sys2Proof.Machine

open Host (Outcome)

variable {s : State} {n c now : Nat} {x : Txn}

theorem siteNow_any (hnow : siteNow s = some now) (p : Nat → Bool) : (siteNow s).any p = p now := by
  rw [hnow, Option.any_some]

theorem execStxnVoteDeadline_due (hnow : siteNow s = some now) (hx : findTxn s n = some x) (hst : x.state = .pending)
    (hsite : x.isSite = true) (hc : x.siteFrame = some c) (hd : x.decided = none) (hle : c ≤ now + 1600) :
    execStxnVoteDeadline n s = if x.nodes.all fun b => b.vote == some true then ans (setTxn { x with decided := some true } s)
      else ans (abortSite x s) := by
  have hdue : x.state = .pending ∧ x.decided.isNone = true ∧ x.isSite = true
      ∧ ((siteNow s).any fun y => decide (x.siteFrame.getD 0 ≤ y + 1600)) = true := by
    refine ⟨hst, by rw [hd]; rfl, hsite, ?_⟩
    rw [siteNow_any hnow, hc]
    exact decide_eq_true hle
  simp only [execStxnVoteDeadline, hx]
  rw [if_pos hdue]

/-- Settles O19: the condition of each row, with the site frame it looks at. -/
theorem coordinatorRunsASiteTransaction : Obligations.CoordinatorRunsASiteTransaction := by
  intro n c now s hnow
  refine ⟨fun x hx hst hsite hc hd => ⟨fun hlast hbefore hquiet => ?_, fun hle hall => ?_, fun hle hno => ?_⟩,
    fun x hx hc => ⟨fun hd hlast hnodes hle => ?_, fun hdone => ?_, fun node ok hn hle => ?_⟩⟩
  · change execStxnPrepareResend n s = _
    have hne : (((x.nodes.filter fun b => b.vote.isNone).map fun b => b.node).isEmpty) = false := by
      obtain ⟨b, hb, hv⟩ := hquiet
      rw [List.isEmpty_eq_false_iff_exists_mem]
      exact ⟨b.node, List.mem_map.mpr ⟨b, List.mem_filter.mpr ⟨hb, by rw [hv]; rfl⟩, rfl⟩⟩
    have hsoon : ((siteNow s).any fun y => decide (y + 1600 < x.siteFrame.getD 0)) = true := by
      rw [siteNow_any hnow, hc]
      exact decide_eq_true hbefore
    simp only [execStxnPrepareResend, hx, hst, hd, Option.isNone_none, hsite, hlast, hsoon, hne, Bool.false_eq_true, not_false_eq_true,
      and_self, ↓reduceIte]
    rfl
  · change execStxnVoteDeadline n s = _
    rw [execStxnVoteDeadline_due hnow hx hst hsite hc hd hle, if_pos (List.all_eq_true.mpr fun b hb => by rw [hall b hb]; rfl)]
    rfl
  · change execStxnVoteDeadline n s = _
    obtain ⟨b, hb, hv⟩ := hno
    rw [execStxnVoteDeadline_due hnow hx hst hsite hc hd hle,
      if_neg fun h => hv (by simpa only [beq_iff_eq] using List.all_eq_true.mp h b hb)]
    rfl
  · change execStxnAbortResend n s = _
    have hsoon : ((siteNow s).any fun y => decide (y + 800 ≤ x.siteFrame.getD 0)) = true := by
      rw [siteNow_any hnow, hc]
      exact decide_eq_true hle
    simp only [execStxnAbortResend, hx, hd, hlast, List.isEmpty_iff, hnodes, hsoon, not_false_eq_true, and_self, ↓reduceIte]
    rfl
  · change execStxnDone n s = _
    have hin : (if x.decided = some true then x.nodes.all fun b => b.report.isSome else (abortNodes x).isEmpty) = true
        ∨ ((siteNow s).any fun y => decide (x.siteFrame.getD 0 + 8000 ≤ y)) = true := by
      rcases hdone with ⟨hd, hall⟩ | hle
      · left
        rw [if_pos hd, List.all_eq_true]
        exact fun b hb => Option.isSome_iff_ne_none.mpr (hall b hb)
      · right
        rw [siteNow_any hnow, hc]
        exact decide_eq_true hle
    simp only [execStxnDone, hx]
    rw [if_pos hin]
    rfl
  · change execStxnOutcomeReport node n ok s = _
    have hnum : x.num = n := by simpa only [beq_iff_eq] using List.find?_some hx
    have hfind : (s.txn.books ++ s.txn.txns).find? (fun t => t.num == n && t.isHost) = some x := by
      have hpred : (fun t : Txn => t.num == n && t.isHost) = fun t => t.num == n := by
        funext t
        by_cases ht : t.num = n
        · simp only [ht, beq_self_eq_true, Txn.isHost, hn, decide_true, Bool.and_self]
        · simp only [beq_false_of_ne ht, Bool.false_and]
      rw [hpred, List.find?_append, hx, Option.some_or]
    simp only [execStxnOutcomeReport, hfind, hnow, hc, Option.getD_some, hle, ↓reduceIte]
    rfl

end Sys2Proof.Machine
end

section
/-! SUPPORT. Which parts of the state an operation may change: `Touches M s t` says that every part outside the list `M` stands. -/

namespace Sys2Proof.Machine

/-- The parts of a state, with the fields of six of them that statements ask for by themselves: the service level, the link
without its Ethernet sessions, Garnet's outputs and its island state, Onyx's access with the staged set, the decode lanes, the
hold of the switch bank. -/
inductive Part
  | pending | frame | params | persisted | queues | due | outbox | rnd | sys | beryl | link | txn | outlets | pool | vlk | mtr
  | onyx | efi | garnet | aux | slk | nfc | dsp | flt | upd
  | service | wire | outs | island | access | lanes | held
  deriving DecidableEq

/-- The part stands from one state to the other. -/
@[reducible] def Part.Same (s t : State) : Part → Prop
  | .pending => t.pending = s.pending
  | .frame => t.frame = s.frame
  | .params => t.params = s.params
  | .persisted => t.persisted = s.persisted
  | .queues => t.queues = s.queues
  | .due => t.due = s.due
  | .outbox => t.outbox = s.outbox
  | .rnd => t.rnd = s.rnd
  | .sys => t.sys = s.sys
  | .beryl => t.beryl = s.beryl
  | .link => t.link = s.link
  | .txn => t.txn = s.txn
  | .outlets => t.outlets = s.outlets
  | .pool => t.pool = s.pool
  | .vlk => t.vlk = s.vlk
  | .mtr => t.mtr = s.mtr
  | .onyx => t.onyx = s.onyx
  | .efi => t.efi = s.efi
  | .garnet => t.garnet = s.garnet
  | .aux => t.aux = s.aux
  | .slk => t.slk = s.slk
  | .nfc => t.nfc = s.nfc
  | .dsp => t.dsp = s.dsp
  | .flt => t.flt = s.flt
  | .upd => t.upd = s.upd
  | .service => t.sys.service = s.sys.service
  | .wire => { t.link with sessions := s.link.sessions } = s.link
  | .outs => t.garnet.outs = s.garnet.outs
  | .island => t.garnet.st = s.garnet.st
  | .access => (t.onyx.access, t.onyx.staged) = (s.onyx.access, s.onyx.staged)
  | .lanes => t.vlk.lanes = s.vlk.lanes
  | .held => t.aux.held = s.aux.held

theorem Part.Same.refl (s : State) (p : Part) : p.Same s s := by cases p <;> exact rfl

theorem Part.Same.trans {s t u : State} {p : Part} (h : p.Same s t) (k : p.Same t u) : p.Same s u := by
  cases p
  case wire =>
    change { u.link with sessions := s.link.sessions } = s.link
    rw [← show { t.link with sessions := s.link.sessions } = s.link from h, ← show { u.link with sessions := t.link.sessions } = t.link from k]
  all_goals exact Eq.trans k h

/-- From one state to the other every part outside a list stands. -/
def Touches (M : List Part) (s t : State) : Prop := ∀ p, M.contains p = false → p.Same s t

/-- Every part of one list is in the other. -/
def Part.within (N M : List Part) : Bool := N.all fun p => M.contains p

variable {M N : List Part} {s t u : State}

theorem Touches.refl (M : List Part) (s : State) : Touches M s s := fun p _ => .refl s p

theorem Part.not_within {p : Part} (hm : Part.within N M = true) (hp : M.contains p = false) : N.contains p = false := by
  refine Classical.byContradiction fun hn => ?_
  have hin : p ∈ N := List.contains_iff_mem.mp (by simpa only [Bool.not_eq_false] using hn)
  have hall := List.all_eq_true.mp hm p hin
  rw [hp] at hall
  exact Bool.false_ne_true hall

theorem Touches.then (h : Touches M s t) (k : Touches N t u) (hm : Part.within N M = true) : Touches M s u :=
  fun p hp => (h p hp).trans (k p (Part.not_within hm hp))

/-- What a part outside the list is afterwards. -/
theorem Touches.same (h : Touches M s t) (p : Part) (hp : M.contains p = false) : p.Same s t := h p hp

/-- What the link holds besides its sessions. -/
theorem Touches.onWire {α : Type} (h : Touches M s t) (g : LinkSt → α) (hp : M.contains .wire = false)
    (hg : ∀ l x, g { l with sessions := x } = g l) : g t.link = g s.link := by
  rw [← show { t.link with sessions := s.link.sessions } = s.link from h .wire hp]
  exact (hg ..).symm

/-- A parameter reads the same where neither the store nor the vault has changed. -/
theorem Touches.reads (h : Touches M s t) (id inst : Nat) (hp : M.contains .params = false)
    (hb : M.contains .beryl = false) : pget t id inst = pget s id inst := pget_congr (h .params hp) (h .beryl hb) id inst

/-! ### The ways an operation is built -/

theorem touches_ite {p : Prop} [Decidable p] (h : Touches M s t) (k : Touches M s u) : Touches M s (if p then t else u) := by
  split
  · exact h
  · exact k

theorem touches_dite {p : Prop} [Decidable p] {t : p → State} {u : ¬ p → State} (h : ∀ hp, Touches M s (t hp))
    (k : ∀ hp, Touches M s (u hp)) : Touches M s (if hp : p then t hp else u hp) := by
  split
  · exact h _
  · exact k _

theorem touches_foldl {α : Type} {f : State → α → State} {l : List α} (h : Touches M s t)
    (hf : ∀ t x, Touches M s t → Touches M s (f t x)) : Touches M s (l.foldl f t) := by
  induction l generalizing t with
  | nil => exact h
  | cons x l ih => exact ih (hf t x h)

theorem touches_params {x : List (Nat × Nat)} (h : Touches M s t) (hm : M.contains .params = true) : Touches M s { t with params := x } := by
  refine fun p hp => (h p hp).trans ?_
  cases p
  case params => exact absurd (hp.symm.trans hm) Bool.false_ne_true
  all_goals exact rfl

theorem touches_queues {x : Vector Queue 4} (h : Touches M s t) (hm : M.contains .queues = true) : Touches M s { t with queues := x } := by
  refine fun p hp => (h p hp).trans ?_
  cases p
  case queues => exact absurd (hp.symm.trans hm) Bool.false_ne_true
  all_goals exact rfl

theorem touches_due {x : List DueCmd} (h : Touches M s t) (hm : M.contains .due = true) : Touches M s { t with due := x } := by
  refine fun p hp => (h p hp).trans ?_
  cases p
  case due => exact absurd (hp.symm.trans hm) Bool.false_ne_true
  all_goals exact rfl

theorem touches_outbox {x : List Out} (h : Touches M s t) (hm : M.contains .outbox = true) : Touches M s { t with outbox := x } := by
  refine fun p hp => (h p hp).trans ?_
  cases p
  case outbox => exact absurd (hp.symm.trans hm) Bool.false_ne_true
  all_goals exact rfl

theorem touches_rnd {x : Nat} (h : Touches M s t) (hm : M.contains .rnd = true) : Touches M s { t with rnd := x } := by
  refine fun p hp => (h p hp).trans ?_
  cases p
  case rnd => exact absurd (hp.symm.trans hm) Bool.false_ne_true
  all_goals exact rfl

theorem touches_sys {x : SysSt} (h : Touches M s t) (hx : x.service = t.sys.service) (hm : M.contains .sys = true) :
    Touches M s { t with sys := x } := by
  refine fun p hp => (h p hp).trans ?_
  cases p
  case sys => exact absurd (hp.symm.trans hm) Bool.false_ne_true
  case service => exact hx
  all_goals exact rfl

theorem touches_sys_service {x : SysSt} (h : Touches M s t) (hm : Part.within [Part.sys, .service] M = true) :
    Touches M s { t with sys := x } := by
  refine fun p hp => (h p hp).trans ?_
  cases p
  case sys => exact absurd (Part.not_within hm hp) (by decide)
  case service => exact absurd (Part.not_within hm hp) (by decide)
  all_goals exact rfl

theorem touches_beryl {x : BerylSt} (h : Touches M s t) (hm : M.contains .beryl = true) : Touches M s { t with beryl := x } := by
  refine fun p hp => (h p hp).trans ?_
  cases p
  case beryl => exact absurd (hp.symm.trans hm) Bool.false_ne_true
  all_goals exact rfl

theorem touches_link {x : LinkSt} (h : Touches M s t) (hx : { x with sessions := t.link.sessions } = t.link)
    (hm : M.contains .link = true) : Touches M s { t with link := x } := by
  refine fun p hp => (h p hp).trans ?_
  cases p
  case link => exact absurd (hp.symm.trans hm) Bool.false_ne_true
  case wire => exact hx
  all_goals exact rfl

theorem touches_link_wire {x : LinkSt} (h : Touches M s t) (hm : Part.within [Part.link, .wire] M = true) :
    Touches M s { t with link := x } := by
  refine fun p hp => (h p hp).trans ?_
  cases p
  case link => exact absurd (Part.not_within hm hp) (by decide)
  case wire => exact absurd (Part.not_within hm hp) (by decide)
  all_goals exact rfl

theorem touches_txn {x : TxnSt} (h : Touches M s t) (hm : M.contains .txn = true) : Touches M s { t with txn := x } := by
  refine fun p hp => (h p hp).trans ?_
  cases p
  case txn => exact absurd (hp.symm.trans hm) Bool.false_ne_true
  all_goals exact rfl

theorem touches_outlets {x : Vector Outlet 8} (h : Touches M s t) (hm : M.contains .outlets = true) : Touches M s { t with outlets := x } := by
  refine fun p hp => (h p hp).trans ?_
  cases p
  case outlets => exact absurd (hp.symm.trans hm) Bool.false_ne_true
  all_goals exact rfl

theorem touches_pool {x : PoolSt} (h : Touches M s t) (hm : M.contains .pool = true) : Touches M s { t with pool := x } := by
  refine fun p hp => (h p hp).trans ?_
  cases p
  case pool => exact absurd (hp.symm.trans hm) Bool.false_ne_true
  all_goals exact rfl

theorem touches_vlk {x : VlkSt} (h : Touches M s t) (hx : x.lanes = t.vlk.lanes) (hm : M.contains .vlk = true) :
    Touches M s { t with vlk := x } := by
  refine fun p hp => (h p hp).trans ?_
  cases p
  case vlk => exact absurd (hp.symm.trans hm) Bool.false_ne_true
  case lanes => exact hx
  all_goals exact rfl

theorem touches_vlk_lanes {x : VlkSt} (h : Touches M s t) (hm : Part.within [Part.vlk, .lanes] M = true) :
    Touches M s { t with vlk := x } := by
  refine fun p hp => (h p hp).trans ?_
  cases p
  case vlk => exact absurd (Part.not_within hm hp) (by decide)
  case lanes => exact absurd (Part.not_within hm hp) (by decide)
  all_goals exact rfl

theorem touches_mtr {x : MtrSt} (h : Touches M s t) (hm : M.contains .mtr = true) : Touches M s { t with mtr := x } := by
  refine fun p hp => (h p hp).trans ?_
  cases p
  case mtr => exact absurd (hp.symm.trans hm) Bool.false_ne_true
  all_goals exact rfl

theorem touches_onyx {x : OnyxSt} (h : Touches M s t) (ha : x.access = t.onyx.access)
    (hb : x.staged = t.onyx.staged) (hm : M.contains .onyx = true) : Touches M s { t with onyx := x } := by
  refine fun p hp => (h p hp).trans ?_
  cases p
  case onyx => exact absurd (hp.symm.trans hm) Bool.false_ne_true
  case access => exact Prod.ext ha hb
  all_goals exact rfl

theorem touches_onyx_access {x : OnyxSt} (h : Touches M s t) (hm : Part.within [Part.onyx, .access] M = true) :
    Touches M s { t with onyx := x } := by
  refine fun p hp => (h p hp).trans ?_
  cases p
  case onyx => exact absurd (Part.not_within hm hp) (by decide)
  case access => exact absurd (Part.not_within hm hp) (by decide)
  all_goals exact rfl

theorem touches_efi {x : EfiSt} (h : Touches M s t) (hm : M.contains .efi = true) : Touches M s { t with efi := x } := by
  refine fun p hp => (h p hp).trans ?_
  cases p
  case efi => exact absurd (hp.symm.trans hm) Bool.false_ne_true
  all_goals exact rfl

theorem touches_garnet {x : GarnetSt} (h : Touches M s t) (ho : x.outs = t.garnet.outs)
    (hi : x.st = t.garnet.st) (hm : M.contains .garnet = true) : Touches M s { t with garnet := x } := by
  refine fun p hp => (h p hp).trans ?_
  cases p
  case garnet => exact absurd (hp.symm.trans hm) Bool.false_ne_true
  case outs => exact ho
  case island => exact hi
  all_goals exact rfl

theorem touches_garnet_outs {x : GarnetSt} (h : Touches M s t) (hi : x.st = t.garnet.st)
    (hm : Part.within [Part.garnet, .outs] M = true) : Touches M s { t with garnet := x } := by
  refine fun p hp => (h p hp).trans ?_
  cases p
  case garnet => exact absurd (Part.not_within hm hp) (by decide)
  case outs => exact absurd (Part.not_within hm hp) (by decide)
  case island => exact hi
  all_goals exact rfl

theorem touches_garnet_island {x : GarnetSt} (h : Touches M s t) (ho : x.outs = t.garnet.outs)
    (hm : Part.within [Part.garnet, .island] M = true) : Touches M s { t with garnet := x } := by
  refine fun p hp => (h p hp).trans ?_
  cases p
  case garnet => exact absurd (Part.not_within hm hp) (by decide)
  case outs => exact ho
  case island => exact absurd (Part.not_within hm hp) (by decide)
  all_goals exact rfl

theorem touches_garnet_all {x : GarnetSt} (h : Touches M s t) (hm : Part.within [Part.garnet, .outs, .island] M = true) :
    Touches M s { t with garnet := x } := by
  refine fun p hp => (h p hp).trans ?_
  cases p
  case garnet => exact absurd (Part.not_within hm hp) (by decide)
  case outs => exact absurd (Part.not_within hm hp) (by decide)
  case island => exact absurd (Part.not_within hm hp) (by decide)
  all_goals exact rfl

theorem touches_aux {x : AuxSt} (h : Touches M s t) (hx : x.held = t.aux.held)
    (hm : M.contains .aux = true) : Touches M s { t with aux := x } := by
  refine fun p hp => (h p hp).trans ?_
  cases p
  case aux => exact absurd (hp.symm.trans hm) Bool.false_ne_true
  case held => exact hx
  all_goals exact rfl

theorem touches_aux_held {x : AuxSt} (h : Touches M s t) (hm : Part.within [Part.aux, .held] M = true) :
    Touches M s { t with aux := x } := by
  refine fun p hp => (h p hp).trans ?_
  cases p
  case aux => exact absurd (Part.not_within hm hp) (by decide)
  case held => exact absurd (Part.not_within hm hp) (by decide)
  all_goals exact rfl

theorem touches_slk {x : SlkSt} (h : Touches M s t) (hm : M.contains .slk = true) : Touches M s { t with slk := x } := by
  refine fun p hp => (h p hp).trans ?_
  cases p
  case slk => exact absurd (hp.symm.trans hm) Bool.false_ne_true
  all_goals exact rfl

theorem touches_nfc {x : NfcSt} (h : Touches M s t) (hm : M.contains .nfc = true) : Touches M s { t with nfc := x } := by
  refine fun p hp => (h p hp).trans ?_
  cases p
  case nfc => exact absurd (hp.symm.trans hm) Bool.false_ne_true
  all_goals exact rfl

theorem touches_dsp {x : DspSt} (h : Touches M s t) (hm : M.contains .dsp = true) : Touches M s { t with dsp := x } := by
  refine fun p hp => (h p hp).trans ?_
  cases p
  case dsp => exact absurd (hp.symm.trans hm) Bool.false_ne_true
  all_goals exact rfl

theorem touches_flt {x : FltSt} (h : Touches M s t) (hm : M.contains .flt = true) : Touches M s { t with flt := x } := by
  refine fun p hp => (h p hp).trans ?_
  cases p
  case flt => exact absurd (hp.symm.trans hm) Bool.false_ne_true
  all_goals exact rfl

theorem touches_upd {x : UpdSt} (h : Touches M s t) (hm : M.contains .upd = true) : Touches M s { t with upd := x } := by
  refine fun p hp => (h p hp).trans ?_
  cases p
  case upd => exact absurd (hp.symm.trans hm) Bool.false_ne_true
  all_goals exact rfl

/-! ### What the operations touch, in the order of the model -/

theorem touches_pset {id inst v : Nat} : Touches [.params, .beryl] s (pset id inst v s) := by
  have hs := Touches.refl [.params, .beryl] s
  unfold pset
  exact touches_ite (touches_beryl hs rfl) (touches_params hs rfl)

theorem touches_sendOn {i : Fin 2} {packet : List Byte} : Touches [.outbox, .link] s (sendOn i packet s) := by
  have hs := Touches.refl [.outbox, .link] s
  unfold sendOn
  split
  · exact hs
  · exact touches_outbox (touches_link hs (by with_reducible rfl) rfl) rfl

theorem touches_notifyHosts : Touches [.outbox, .link] s (notifyHosts s) := by
  have hs := Touches.refl [.outbox, .link] s
  unfold notifyHosts
  exact touches_ite (touches_foldl hs (fun _ _ ht => .then ht touches_sendOn rfl)) hs

theorem touches_pushEvent {id dom detail arg : Nat} {payload : List Byte} : Touches [.queues, .outbox, .link] s (pushEvent id dom detail
    arg payload s) := by
  have hs := Touches.refl [.queues, .outbox, .link] s
  unfold pushEvent
  exact touches_ite (.then (touches_queues hs rfl) touches_notifyHosts rfl) (touches_queues hs rfl)

theorem touches_pushData {q : Fin 4} {id dom detail arg : Nat} {payload : List Byte} : Touches [.queues, .outbox, .link] s (pushData q id
    dom detail arg payload s) := by
  have hs := Touches.refl [.queues, .outbox, .link] s
  unfold pushData
  extract_lets old new s1
  have hs1 : Touches [.queues, .outbox, .link] s s1 := touches_queues hs rfl
  exact touches_ite (.then hs1 touches_pushEvent rfl) hs1

theorem touches_noteFault {d : Fin 12} {cause : Nat} {permanent counted byCmd : Bool} : Touches [.flt] s (noteFault d cause permanent
    counted byCmd s) := by
  have hs := Touches.refl [.flt] s
  unfold noteFault
  exact touches_ite hs (touches_flt hs rfl)

theorem touches_evp {id dom detail arg : Nat} {payload : List Byte} : Touches [.queues, .outbox, .link, .flt] s (evp id dom detail arg
    payload s) := by
  have hs := Touches.refl [.queues, .outbox, .link, .flt] s
  unfold evp
  extract_lets s1
  have hs1 : Touches [.queues, .outbox, .link, .flt] s s1 := .then hs touches_pushEvent rfl
  split
  · exact hs1
  · exact touches_dite (fun _ => .then hs1 touches_noteFault rfl) (fun _ => hs1)

theorem touches_ev {id dom detail arg : Nat} : Touches [.queues, .outbox, .link, .flt] s (ev id dom detail arg s) := by
  have hs := Touches.refl [.queues, .outbox, .link, .flt] s
  unfold ev
  exact .then hs touches_evp rfl

theorem touches_retireObj {kind number dom cause action detail : Nat} {reason : List Byte} : Touches [.queues, .outbox, .link, .flt] s
    (retireObj kind number dom cause action detail reason s) := by
  have hs := Touches.refl [.queues, .outbox, .link, .flt] s
  unfold retireObj
  exact touches_ite hs (.then (touches_flt (touches_flt hs rfl) rfl) touches_ev rfl)

theorem touches_objFailure {kind number dom cause : Nat} : Touches [.queues, .outbox, .link, .flt] s (objFailure kind number dom cause s)
    := by
  have hs := Touches.refl [.queues, .outbox, .link, .flt] s
  unfold objFailure
  extract_lets o fails s1
  have hs1 : Touches [.queues, .outbox, .link, .flt] s s1 := touches_flt hs rfl
  exact touches_ite (.then hs1 touches_retireObj rfl) hs1

theorem touches_returnObj {kind number dom : Nat} {reason : List Byte} : Touches [.queues, .outbox, .link, .flt] s (returnObj kind number
    dom reason s) := by
  have hs := Touches.refl [.queues, .outbox, .link, .flt] s
  unfold returnObj
  exact .then (touches_flt (touches_flt hs rfl) rfl) touches_ev rfl

theorem touches_leaveBook {t : Txn} : Touches [.txn] s (leaveBook t s) := by
  have hs := Touches.refl [.txn] s
  unfold leaveBook
  exact touches_ite (touches_txn hs rfl) hs

theorem touches_preempt {n : Nat} {keys : List (Nat × Nat)} : Touches [.queues, .outbox, .link, .txn, .flt] s (preempt n keys s) := by
  have hs := Touches.refl [.queues, .outbox, .link, .txn, .flt] s
  unfold preempt
  exact touches_foldl hs (fun _ _ ht => .then (.then (touches_txn ht rfl) touches_leaveBook rfl) touches_ev rfl)

theorem touches_buildTxn {p : Purpose} {acts : List Action} {f : Nat} : Touches [.queues, .outbox, .link, .txn, .flt] s (buildTxn p acts
    f s) := by
  have hs := Touches.refl [.queues, .outbox, .link, .txn, .flt] s
  unfold buildTxn
  split
  · exact hs
  · exact .then (touches_txn hs rfl) touches_preempt rfl

theorem touches_makeReady : Touches [.link, .wire] s (makeReady s) := by
  have hs := Touches.refl [.link, .wire] s
  unfold makeReady
  exact touches_link_wire hs rfl

theorem touches_modAux {n : Fin 12} {f : AuxCh → AuxCh} : Touches [.aux] s (modAux n f s) := by
  have hs := Touches.refl [.aux] s
  unfold modAux
  exact touches_aux hs (by with_reducible rfl) rfl

theorem touches_auxReport {n : Fin 12} : Touches [.queues, .outbox, .link, .aux, .flt] s (auxReport n s) := by
  have hs := Touches.refl [.queues, .outbox, .link, .aux, .flt] s
  unfold auxReport
  exact touches_ite hs (.then (touches_aux hs (by with_reducible rfl) rfl) touches_ev rfl)

theorem touches_auxOff {st : AuxState} {n : Fin 12} : Touches [.aux] s (auxOff st n s) := by
  have hs := Touches.refl [.aux] s
  unfold auxOff
  exact touches_aux hs (by with_reducible rfl) rfl

theorem touches_auxTrip {n : Fin 12} {cause : Nat} : Touches [.queues, .outbox, .link, .aux, .flt] s (auxTrip n cause s) := by
  have hs := Touches.refl [.queues, .outbox, .link, .aux, .flt] s
  unfold auxTrip
  extract_lets c f s1 s2 s3
  have hs1 : Touches [.queues, .outbox, .link, .aux, .flt] s s1 := touches_aux hs (by with_reducible rfl) rfl
  have hs2 : Touches [.queues, .outbox, .link, .aux, .flt] s s2 := .then hs1 touches_auxOff rfl
  have hs3 : Touches [.queues, .outbox, .link, .aux, .flt] s s3 := touches_aux hs2 (by with_reducible rfl) rfl
  exact touches_ite (.then (.then (.then (.then hs1 touches_auxOff rfl) touches_ev rfl) touches_auxReport rfl) touches_objFailure rfl)
    (.then (.then hs3 touches_ev rfl) touches_auxReport rfl)

theorem touches_auxReserve {n : Fin 12} : Touches [.aux] s (auxReserve n s) := by
  have hs := Touches.refl [.aux] s
  unfold auxReserve
  exact touches_aux hs (by with_reducible rfl) rfl

theorem touches_auxPowerOff : Touches [.aux] s (auxPowerOff s) := by
  have hs := Touches.refl [.aux] s
  unfold auxPowerOff
  exact touches_foldl hs (fun _ _ ht => .then (touches_aux ht (by with_reducible rfl) rfl) touches_auxOff rfl)

theorem touches_modPg {g : Fin 16} {f : PowerGroup → PowerGroup} : Touches [.pool] s (modPg g f s) := by
  have hs := Touches.refl [.pool] s
  unfold modPg
  exact touches_pool hs rfl

theorem touches_modTie {t : Fin 8} {f : TieSt → TieSt} : Touches [.pool] s (modTie t f s) := by
  have hs := Touches.refl [.pool] s
  unfold modTie
  exact touches_pool hs rfl

theorem touches_pgTo {g : Fin 16} {st : PgState} : Touches [.queues, .outbox, .link, .pool, .flt] s (pgTo g st s) := by
  have hs := Touches.refl [.queues, .outbox, .link, .pool, .flt] s
  unfold pgTo
  exact touches_ite hs (.then (.then hs touches_modPg rfl) touches_ev rfl)

theorem touches_pgSet {g : Fin 16} {mV : Nat} {mA : Int} {now : Bool} : Touches [.pool] s (pgSet g mV mA now s) := by
  have hs := Touches.refl [.pool] s
  unfold pgSet
  exact .then hs touches_modPg rfl

theorem touches_poolConfig : Touches [.queues, .outbox, .link, .pool, .flt] s (poolConfig s) := by
  have hs := Touches.refl [.queues, .outbox, .link, .pool, .flt] s
  unfold poolConfig
  refine touches_foldl hs ?_
  intro _ _ ht
  split
  · exact touches_ite ht (.then (.then ht touches_pgSet rfl) touches_pgTo rfl)
  · exact touches_ite (.then (.then ht touches_modPg rfl) touches_pgTo rfl) (touches_ite (.then ht touches_pgSet rfl) ht)

theorem touches_pgRefresh {g : Fin 16} : Touches [.queues, .outbox, .link, .pool, .flt] s (pgRefresh g s) := by
  have hs := Touches.refl [.queues, .outbox, .link, .pool, .flt] s
  unfold pgRefresh
  exact touches_ite (.then hs touches_pgTo rfl) hs

theorem touches_moveEnd {m : Fin 4} {outcome check : Nat} : Touches [.params, .queues, .outbox, .beryl, .link, .pool, .flt] s (moveEnd m
    outcome check s) := by
  have hs := Touches.refl [.params, .queues, .outbox, .beryl, .link, .pool, .flt] s
  unfold moveEnd
  split
  · exact hs
  · extract_lets s1 s2 mask dom
    have hs1 : Touches [.params, .queues, .outbox, .beryl, .link, .pool, .flt] s s1 := touches_pool hs rfl
    have hs2 : Touches [.params, .queues, .outbox, .beryl, .link, .pool, .flt] s s2 := touches_ite (touches_foldl hs1 (fun _ _ ht =>
      .then (.then ht touches_pset rfl) touches_pgSet rfl)) hs1
    exact .then hs2 touches_ev rfl

theorem touches_failGroup {g : Fin 16} {id arg : Nat} : Touches [.params, .queues, .outbox, .beryl, .link, .pool, .flt] s (failGroup g id
    arg s) := by
  have hs := Touches.refl [.params, .queues, .outbox, .beryl, .link, .pool, .flt] s
  unfold failGroup
  refine touches_ite hs ?_
  extract_lets dom s1 s2 s3 s4
  have hs1 : Touches [.params, .queues, .outbox, .beryl, .link, .pool, .flt] s s1 := .then hs touches_ev rfl
  have hs2 : Touches [.params, .queues, .outbox, .beryl, .link, .pool, .flt] s s2 := .then hs1 touches_pgTo rfl
  have hs3 : Touches [.params, .queues, .outbox, .beryl, .link, .pool, .flt] s s3 := .then hs2 touches_modPg rfl
  have hs4 : Touches [.params, .queues, .outbox, .beryl, .link, .pool, .flt] s s4 := .then hs3 touches_objFailure rfl
  split
  · exact hs4
  · split
    · exact touches_ite (.then hs4 touches_moveEnd rfl) hs4
    · exact hs4

theorem touches_modPort {p : Fin 2} {f : CanPort → CanPort} : Touches [.pool] s (modPort p f s) := by
  have hs := Touches.refl [.pool] s
  unfold modPort
  exact touches_pool hs rfl

theorem touches_poolStart : Touches [.queues, .outbox, .link, .pool, .flt] s (poolStart s) := by
  have hs := Touches.refl [.queues, .outbox, .link, .pool, .flt] s
  unfold poolStart
  exact touches_foldl (touches_foldl hs (fun _ _ ht => .then ht touches_modPort rfl)) (fun _ _ ht => touches_ite ht (.then (.then ht
    touches_modPg rfl) touches_pgTo rfl))

theorem touches_stampStatus {g : Fin 16} {p data : List Byte} : Touches [.params, .queues, .outbox, .beryl, .link, .pool, .flt] s
    (stampStatus g p data s) := by
  have hs := Touches.refl [.params, .queues, .outbox, .beryl, .link, .pool, .flt] s
  unfold stampStatus
  extract_lets f f7 s1
  have hs1 : Touches [.params, .queues, .outbox, .beryl, .link, .pool, .flt] s s1 := .then hs touches_modPg rfl
  exact touches_ite (.then (.then hs1 touches_modPg rfl) touches_failGroup rfl) (touches_ite (touches_ite hs1 (.then (.then hs1
    touches_modPg rfl) touches_pgTo rfl)) (.then hs1 touches_pgRefresh rfl))

theorem touches_distribute {k : Fin 8} : Touches [.pool] s (distribute k s) := by
  have hs := Touches.refl [.pool] s
  unfold distribute
  exact touches_foldl (touches_foldl hs (fun _ _ ht => .then (.then ht touches_pgSet rfl) touches_modPg rfl)) (fun _ _ ht => .then (.then
    ht touches_pgSet rfl) touches_modPg rfl)

theorem touches_poolZero {k : Fin 8} : Touches [.pool] s (poolZero k s) := by
  have hs := Touches.refl [.pool] s
  unfold poolZero
  exact touches_foldl hs (fun _ _ ht => .then ht touches_pgSet rfl)

theorem touches_moveEnter {m : Fin 4} {rank : Nat} : Touches [.params, .queues, .outbox, .beryl, .link, .txn, .pool, .flt] s (moveEnter m
    rank s) := by
  have hs := Touches.refl [.params, .queues, .outbox, .beryl, .link, .txn, .pool, .flt] s
  unfold moveEnter
  split
  · exact hs
  · refine touches_ite (touches_pool hs rfl) ?_
    refine touches_ite (.then (touches_pool hs rfl) touches_buildTxn rfl) ?_
    split
    · exact .then hs touches_moveEnd rfl
    · exact touches_ite (touches_pool hs rfl) (touches_ite (.then (touches_pool hs rfl) touches_buildTxn rfl) (touches_foldl
        (touches_pool hs rfl) (fun _ _ ht => .then ht touches_modPg rfl)))

theorem touches_tieDrop {t : Fin 8} : Touches [.queues, .outbox, .link, .txn, .flt] s (tieDrop t s) := by
  have hs := Touches.refl [.queues, .outbox, .link, .txn, .flt] s
  unfold tieDrop
  exact touches_ite hs (.then hs touches_buildTxn rfl)

theorem touches_tieFail {t : Fin 8} {close : Bool} : Touches [.queues, .outbox, .link, .flt] s (tieFail t close s) := by
  have hs := Touches.refl [.queues, .outbox, .link, .flt] s
  unfold tieFail
  exact .then (.then hs touches_ev rfl) touches_objFailure rfl

theorem touches_tieWeld {t : Fin 8} : Touches [.queues, .outbox, .link, .pool, .flt] s (tieWeld t s) := by
  have hs := Touches.refl [.queues, .outbox, .link, .pool, .flt] s
  unfold tieWeld
  exact touches_ite hs (.then (.then (.then hs touches_modTie rfl) touches_ev rfl) touches_retireObj rfl)

theorem touches_returnGroup {g : Fin 16} {reason : List Byte} : Touches [.queues, .outbox, .link, .pool, .flt] s (returnGroup g reason s)
    := by
  have hs := Touches.refl [.queues, .outbox, .link, .pool, .flt] s
  unfold returnGroup
  extract_lets s1
  have hs1 : Touches [.queues, .outbox, .link, .pool, .flt] s s1 := .then hs touches_returnObj rfl
  exact touches_ite (.then (.then hs1 touches_modPg rfl) touches_pgTo rfl) hs1

theorem touches_modSi {i : Fin 16} {f : SafeIn → SafeIn} : Touches [.garnet] s (modSi i f s) := by
  have hs := Touches.refl [.garnet] s
  unfold modSi
  exact touches_garnet hs (by with_reducible rfl) (by with_reducible rfl) rfl

theorem touches_modSo {o : Fin 32} {f : SafeOut → SafeOut} : Touches [.garnet, .outs] s (modSo o f s) := by
  have hs := Touches.refl [.garnet, .outs] s
  unfold modSo
  exact touches_garnet_outs hs (by with_reducible rfl) rfl

theorem touches_modCd {c : Fin 2} {f : CdSt → CdSt} : Touches [.garnet] s (modCd c f s) := by
  have hs := Touches.refl [.garnet] s
  unfold modCd
  exact touches_garnet hs (by with_reducible rfl) (by with_reducible rfl) rfl

theorem touches_evNext {id dom detail arg : Nat} : Touches [.garnet] s (evNext id dom detail arg s) := by
  have hs := Touches.refl [.garnet] s
  unfold evNext
  exact touches_garnet hs (by with_reducible rfl) (by with_reducible rfl) rfl

theorem touches_soOn {o : Fin 32} : Touches [.garnet, .outs] s (soOn o s) := by
  have hs := Touches.refl [.garnet, .outs] s
  unfold soOn
  exact .then hs touches_modSo rfl

theorem touches_soOff {o : Fin 32} : Touches [.garnet, .outs] s (soOff o s) := by
  have hs := Touches.refl [.garnet, .outs] s
  unfold soOff
  exact .then hs touches_modSo rfl

theorem touches_ungrant {o : Fin 32} : Touches [.garnet, .outs] s (ungrant o s) := by
  have hs := Touches.refl [.garnet, .outs] s
  unfold ungrant
  exact .then hs touches_modSo rfl

theorem touches_cdTo {c : Fin 2} {st : CdState} : Touches [.queues, .outbox, .link, .garnet, .flt] s (cdTo c st s) := by
  have hs := Touches.refl [.queues, .outbox, .link, .garnet, .flt] s
  unfold cdTo
  exact touches_ite hs (.then (.then hs touches_modCd rfl) touches_ev rfl)

theorem touches_cdNext {c : Fin 2} {st : CdState} : Touches [.garnet] s (cdNext c st s) := by
  have hs := Touches.refl [.garnet] s
  unfold cdNext
  exact .then hs touches_modCd rfl

theorem touches_clearLatches {sel : Nat → Bool} : Touches [.garnet, .outs] s (clearLatches sel s) := by
  have hs := Touches.refl [.garnet, .outs] s
  unfold clearLatches
  exact touches_foldl (touches_garnet (touches_foldl (touches_foldl (touches_foldl hs (fun _ _ ht => .then ht touches_modSi rfl)) (fun _
    _ ht => .then ht touches_modSo rfl)) (fun _ _ ht => touches_ite (touches_garnet ht (by with_reducible rfl) (by with_reducible rfl)
    rfl) ht)) (by with_reducible rfl) (by with_reducible rfl) rfl) (fun _ _ ht => touches_ite (.then ht touches_cdNext rfl) ht)

theorem touches_siCompare {i : Fin 16} : Touches [.garnet] s (siCompare i s) := by
  have hs := Touches.refl [.garnet] s
  unfold siCompare
  exact .then hs touches_modSi rfl

theorem touches_soFault {o : Fin 32} {kind : Nat} : Touches [.queues, .outbox, .link, .garnet, .flt, .outs] s (soFault o kind s) := by
  have hs := Touches.refl [.queues, .outbox, .link, .garnet, .flt, .outs] s
  unfold soFault
  extract_lets s1 s2
  have hs1 : Touches [.queues, .outbox, .link, .garnet, .flt, .outs] s s1 := .then (.then hs touches_modSo rfl) touches_ungrant rfl
  have hs2 : Touches [.queues, .outbox, .link, .garnet, .flt, .outs] s s2 := .then hs1 touches_ev rfl
  split
  · exact touches_ite (.then hs2 touches_retireObj rfl) hs2
  · exact hs2

theorem touches_acceptFeedback {o : Fin 32} : Touches [.pool, .garnet, .outs] s (acceptFeedback o s) := by
  have hs := Touches.refl [.pool, .garnet, .outs] s
  unfold acceptFeedback
  extract_lets f s1 c
  have hs1 : Touches [.pool, .garnet, .outs] s s1 := touches_ite (.then hs touches_modSo rfl) hs
  split
  · exact .then hs1 touches_modTie rfl
  · exact hs1

theorem touches_contactFault {o : Fin 32} : Touches [.queues, .outbox, .link, .garnet, .flt, .outs] s (contactFault o s) := by
  have hs := Touches.refl [.queues, .outbox, .link, .garnet, .flt, .outs] s
  unfold contactFault
  dsimp only
  split
  · exact touches_ite (.then (.then hs touches_modSo rfl) touches_ev rfl) hs
  · exact hs

theorem touches_pendTo {k : Fin 8} {p : Pend} : Touches [.txn, .outlets] s (pendTo k p s) := by
  have hs := Touches.refl [.txn, .outlets] s
  unfold pendTo
  split
  · exact touches_outlets hs rfl
  · exact touches_ite (touches_outlets (touches_txn hs rfl) rfl) hs

theorem touches_goTo {k : Fin 8} {st : Sess} : Touches [.txn, .outlets] s (goTo k st s) := by
  have hs := Touches.refl [.txn, .outlets] s
  unfold goTo
  exact .then hs touches_pendTo rfl

theorem touches_openOutlet {k : Fin 8} {reason : Nat} : Touches [.queues, .outbox, .link, .txn, .outlets, .flt] s (openOutlet k reason s)
    := by
  have hs := Touches.refl [.queues, .outbox, .link, .txn, .outlets, .flt] s
  unfold openOutlet
  exact touches_ite hs (.then (touches_outlets hs rfl) touches_buildTxn rfl)

theorem touches_addReason {k : Fin 8} {reason : Nat} : Touches [.outlets] s (addReason k reason s) := by
  have hs := Touches.refl [.outlets] s
  unfold addReason
  exact touches_ite (touches_outlets hs rfl) hs

theorem touches_stopSession {k : Fin 8} {reason hostReason : Nat} : Touches [.queues, .outbox, .link, .txn, .outlets, .flt] s
    (stopSession k reason hostReason s) := by
  have hs := Touches.refl [.queues, .outbox, .link, .txn, .outlets, .flt] s
  unfold stopSession
  split
  · exact .then hs touches_addReason rfl
  · exact .then hs touches_addReason rfl
  · split
    · extract_lets s1
      have hs1 : Touches [.queues, .outbox, .link, .txn, .outlets, .flt] s s1 := .then hs touches_pendTo rfl
      exact touches_ite (.then hs1 touches_openOutlet rfl) hs1
    · exact hs

theorem touches_faultSession {k : Fin 8} {reason : Nat} : Touches [.queues, .outbox, .link, .txn, .outlets, .flt] s (faultSession k
    reason s) := by
  have hs := Touches.refl [.queues, .outbox, .link, .txn, .outlets, .flt] s
  unfold faultSession
  exact touches_ite (.then (touches_txn (.then hs touches_pendTo rfl) rfl) touches_openOutlet rfl) hs

theorem touches_modRdc {k : Fin 8} {f : RdcSt → RdcSt} : Touches [.efi] s (modRdc k f s) := by
  have hs := Touches.refl [.efi] s
  unfold modRdc
  exact touches_efi hs rfl

theorem touches_modImd {k : Fin 8} {f : ImdSt → ImdSt} : Touches [.efi] s (modImd k f s) := by
  have hs := Touches.refl [.efi] s
  unfold modImd
  exact touches_efi hs rfl

theorem touches_modIm {p : Fin 4} {f : ImPort → ImPort} : Touches [.efi] s (modIm p f s) := by
  have hs := Touches.refl [.efi] s
  unfold modIm
  exact touches_efi hs rfl

theorem touches_rdcStartTest {k : Fin 8} : Touches [.efi] s (rdcStartTest k s) := by
  have hs := Touches.refl [.efi] s
  unfold rdcStartTest
  exact .then hs touches_modRdc rfl

theorem touches_rdcPilot {k : Fin 8} {p : PilotSt} {fromIdle : Bool} : Touches [.efi] s (rdcPilot k p fromIdle s) := by
  have hs := Touches.refl [.efi] s
  unfold rdcPilot
  refine touches_ite hs ?_
  dsimp only
  split
  · exact .then hs touches_modRdc rfl
  · exact touches_ite (.then hs touches_rdcStartTest rfl) hs
  · exact touches_ite (.then hs touches_rdcStartTest rfl) hs
  · exact touches_ite (.then hs touches_rdcStartTest rfl) hs
  · exact hs

theorem touches_releasePort {p : Fin 4} : Touches [.efi] s (releasePort p s) := by
  have hs := Touches.refl [.efi] s
  unfold releasePort
  split
  · exact hs
  · exact .then (.then hs touches_modImd rfl) touches_modIm rfl

theorem touches_imdNewSession {k : Fin 8} : Touches [.efi] s (imdNewSession k s) := by
  have hs := Touches.refl [.efi] s
  unfold imdNewSession
  exact .then hs touches_modImd rfl

theorem touches_imdRequest {k : Fin 8} {vcc : Nat} : Touches [.efi] s (imdRequest k vcc s) := by
  have hs := Touches.refl [.efi] s
  unfold imdRequest
  exact .then hs touches_modImd rfl

theorem touches_imdEnergise {k : Fin 8} : Touches [.efi] s (imdEnergise k s) := by
  have hs := Touches.refl [.efi] s
  unfold imdEnergise
  exact .then hs touches_modImd rfl

theorem touches_modClaim {k : Fin 8} {f : Claim → Claim} : Touches [.outlets] s (modClaim k f s) := by
  have hs := Touches.refl [.outlets] s
  unfold modClaim
  exact touches_outlets hs rfl

theorem touches_deferPositions : Touches [.outlets, .garnet] s (deferPositions s) := by
  have hs := Touches.refl [.outlets, .garnet] s
  unfold deferPositions
  refine touches_foldl hs ?_
  intro _ _ ht
  refine touches_ite ht ?_
  extract_lets s'
  have hs' : Touches [.outlets, .garnet] s s' := .then ht touches_modClaim rfl
  split
  · exact touches_ite hs' (.then hs' touches_evNext rfl)
  · exact hs'

theorem touches_admitStart {k : Fin 8} : Touches [.queues, .outbox, .link, .txn, .outlets, .garnet, .aux, .flt] s (admitStart k s) := by
  have hs := Touches.refl [.queues, .outbox, .link, .txn, .outlets, .garnet, .aux, .flt] s
  unfold admitStart
  split
  · exact hs
  · extract_lets f i e s1 s2
    have hs1 : Touches [.queues, .outbox, .link, .txn, .outlets, .garnet, .aux, .flt] s s1 := .then hs touches_modClaim rfl
    have hs2 : Touches [.queues, .outbox, .link, .txn, .outlets, .garnet, .aux, .flt] s s2 := by
      dsimp only [s2]
      split
      · exact touches_outlets (.then hs1 touches_auxReserve rfl) rfl
      · exact hs1
    exact .then (.then hs2 touches_buildTxn rfl) touches_deferPositions rfl

theorem touches_releaseClaim {k : Fin 8} : Touches [.outlets, .garnet, .aux] s (releaseClaim k s) := by
  have hs := Touches.refl [.outlets, .garnet, .aux] s
  unfold releaseClaim
  refine .then ?_ touches_deferPositions rfl
  refine touches_outlets ?_ rfl
  split
  · exact touches_ite (.then (touches_aux hs (by with_reducible rfl) rfl) touches_auxOff rfl) hs
  · exact hs

theorem touches_linkFails {k : Fin 8} : Touches [.queues, .outbox, .link, .txn, .outlets, .flt] s (linkFails k s) := by
  have hs := Touches.refl [.queues, .outbox, .link, .txn, .outlets, .flt] s
  unfold linkFails
  exact touches_ite (touches_outlets hs rfl) (.then hs touches_stopSession rfl)

theorem touches_toCableCheck {k : Fin 8} : Touches [.queues, .outbox, .link, .txn, .outlets, .flt] s (toCableCheck k s) := by
  have hs := Touches.refl [.queues, .outbox, .link, .txn, .outlets, .flt] s
  unfold toCableCheck
  exact .then (.then hs touches_buildTxn rfl) touches_goTo rfl

theorem touches_weldFound {k : Fin 8} {finding : Nat} : Touches [.queues, .outbox, .link, .txn, .outlets, .garnet, .flt] s (weldFound k
    finding s) := by
  have hs := Touches.refl [.queues, .outbox, .link, .txn, .outlets, .garnet, .flt] s
  unfold weldFound
  refine touches_ite hs ?_
  extract_lets s1
  have hs1 : Touches [.queues, .outbox, .link, .txn, .outlets, .garnet, .flt] s s1 := .then (touches_outlets hs rfl) touches_evNext rfl
  exact touches_ite (touches_outlets hs1 rfl) (.then hs1 touches_faultSession rfl)

theorem touches_setpoints {k : Fin 8} : Touches [.queues, .outbox, .link, .outlets, .flt] s (setpoints k s) := by
  have hs := Touches.refl [.queues, .outbox, .link, .outlets, .flt] s
  unfold setpoints
  refine touches_ite hs ?_
  dsimp only
  split
  · exact touches_ite (touches_outlets (touches_outlets hs rfl) rfl) (touches_ite (touches_outlets hs rfl) (touches_outlets (.then
      (touches_outlets hs rfl) touches_ev rfl) rfl))
  · exact touches_ite (touches_outlets (touches_outlets hs rfl) rfl) (touches_ite (touches_outlets hs rfl) (touches_outlets (.then
      (touches_outlets hs rfl) touches_ev rfl) rfl))
  · exact touches_ite (touches_outlets hs rfl) hs
  · exact touches_outlets hs rfl
  · exact touches_ite (touches_outlets hs rfl) hs
  · exact touches_ite (touches_outlets hs rfl) (touches_outlets hs rfl)
  · exact touches_outlets hs rfl
  · exact touches_outlets hs rfl

theorem touches_enterState {k : Fin 8} {p : Pend} : Touches [.queues, .outbox, .link, .outlets, .pool, .efi, .garnet, .aux, .flt] s
    (enterState k p s) := by
  have hs := Touches.refl [.queues, .outbox, .link, .outlets, .pool, .efi, .garnet, .aux, .flt] s
  unfold enterState
  extract_lets o old st f fresh running had reason told host timers excess s1 s2 s3 s4 s5
  have hs1 : Touches [.queues, .outbox, .link, .outlets, .pool, .efi, .garnet, .aux, .flt] s s1 := touches_outlets hs rfl
  have hs2 : Touches [.queues, .outbox, .link, .outlets, .pool, .efi, .garnet, .aux, .flt] s s2 := touches_ite (.then hs1
    touches_imdNewSession rfl) hs1
  have hs3 : Touches [.queues, .outbox, .link, .outlets, .pool, .efi, .garnet, .aux, .flt] s s3 := touches_ite (.then hs2
    touches_imdRequest rfl) (touches_ite (.then hs2 touches_imdEnergise rfl) hs2)
  have hs4 : Touches [.queues, .outbox, .link, .outlets, .pool, .efi, .garnet, .aux, .flt] s s4 := touches_ite (.then hs3
    touches_poolZero rfl) (touches_ite (.then (.then hs3 touches_setpoints rfl) touches_distribute rfl) hs3)
  have hs5 : Touches [.queues, .outbox, .link, .outlets, .pool, .efi, .garnet, .aux, .flt] s s5 := touches_ite (.then hs4
    touches_releaseClaim rfl) (touches_ite (.then (.then hs4 touches_modClaim rfl) touches_deferPositions rfl) hs4)
  exact touches_ite hs5 (.then hs5 touches_ev rfl)

theorem touches_outletsAvail : Touches [.queues, .outbox, .link, .outlets, .pool, .efi, .garnet, .aux, .flt] s (outletsAvail s) := by
  have hs := Touches.refl [.queues, .outbox, .link, .outlets, .pool, .efi, .garnet, .aux, .flt] s
  unfold outletsAvail
  exact touches_foldl hs (fun _ _ ht => touches_ite (.then (touches_outlets ht rfl) touches_enterState rfl) (touches_ite (.then
    (touches_outlets ht rfl) touches_enterState rfl) ht))

theorem touches_pilotOutputs : Touches [.outlets] s (pilotOutputs s) := by
  have hs := Touches.refl [.outlets] s
  unfold pilotOutputs
  refine touches_foldl hs ?_
  intro _ _ ht
  extract_lets f s1
  have hs1 : Touches [.outlets] s s1 := by
    dsimp only [s1]
    split
    · exact ht
    · exact touches_outlets ht rfl
    · exact touches_outlets ht rfl
  exact touches_ite (touches_outlets hs1 rfl) hs1

theorem touches_energiseEnd {k : Fin 8} {ok : Bool} {detail so : Nat} : Touches [.queues, .outbox, .link, .txn, .outlets, .flt] s
    (energiseEnd k ok detail so s) := by
  have hs := Touches.refl [.queues, .outbox, .link, .txn, .outlets, .flt] s
  unfold energiseEnd
  exact touches_ite hs (touches_ite (.then hs touches_goTo rfl) (.then (.then hs touches_stopSession rfl) touches_ev rfl))

theorem touches_modSlot {m : Fin 9} {f : MeterSlot → MeterSlot} : Touches [.mtr] s (modSlot m f s) := by
  have hs := Touches.refl [.mtr] s
  unfold modSlot
  exact touches_mtr hs rfl

theorem touches_takeBoundary {m : Fin 9} {n : Nat} : Touches [.mtr, .garnet] s (takeBoundary m n s) := by
  have hs := Touches.refl [.mtr, .garnet] s
  unfold takeBoundary
  exact touches_ite (touches_ite (.then hs touches_modSlot rfl) (.then (.then hs touches_modSlot rfl) touches_evNext rfl)) (.then
    (touches_ite (.then hs touches_modSlot rfl) (.then (.then hs touches_modSlot rfl) touches_evNext rfl)) touches_evNext rfl)

theorem touches_squashSlot {m : Fin 9} {mask first cause input : Nat} : Touches [.mtr] s (squashSlot m mask first cause input s) := by
  have hs := Touches.refl [.mtr] s
  unfold squashSlot
  exact touches_ite hs (.then hs touches_modSlot rfl)

theorem touches_modInputFault {n : Fin 48} {cause : Nat} : Touches [.mtr, .garnet] s (modInputFault n cause s) := by
  have hs := Touches.refl [.mtr, .garnet] s
  unfold modInputFault
  refine touches_ite hs ?_
  extract_lets f x first c new s1 s2
  have hs1 : Touches [.mtr, .garnet] s s1 := touches_mtr hs rfl
  have hs2 : Touches [.mtr, .garnet] s s2 := touches_foldl hs1 (fun _ _ ht => .then ht touches_squashSlot rfl)
  refine touches_ite hs2 ?_
  split
  · exact .then hs2 touches_evNext rfl
  · split
    · exact .then hs2 touches_evNext rfl
    · split
      · exact .then hs2 touches_evNext rfl
      · exact hs2

theorem touches_calAbort {m : Fin 9} {status : Nat} : Touches [.mtr, .garnet] s (calAbort m status s) := by
  have hs := Touches.refl [.mtr, .garnet] s
  unfold calAbort
  split
  · exact touches_ite (.then (.then hs touches_modSlot rfl) touches_evNext rfl) hs
  · exact hs

theorem touches_mtrFull : Touches [.mtr] s (mtrFull s) := by
  have hs := Touches.refl [.mtr] s
  unfold mtrFull
  exact touches_foldl hs (fun _ _ ht => .then ht touches_modSlot rfl)

theorem touches_modOnyx {f : OnyxSt → OnyxSt} : Touches [.onyx, .access] s (modOnyx f s) := by
  have hs := Touches.refl [.onyx, .access] s
  unfold modOnyx
  exact touches_onyx_access hs rfl

theorem touches_modLive {f : OnyxLive → OnyxLive} : Touches [.onyx] s (modLive f s) := by
  have hs := Touches.refl [.onyx] s
  unfold modLive
  exact touches_onyx hs (by with_reducible rfl) (by with_reducible rfl) rfl

theorem touches_logAt {type slot flags legal : Nat} {wall : Option Int} {data : List Byte} : Touches [.queues, .outbox, .link, .onyx,
    .flt] s (logAt type slot flags legal wall data s) := by
  have hs := Touches.refl [.queues, .outbox, .link, .onyx, .flt] s
  unfold logAt
  refine touches_ite ?_ (touches_onyx hs (by with_reducible rfl) (by with_reducible rfl) rfl)
  refine touches_ite hs ?_
  extract_lets n s1
  have hs1 : Touches [.queues, .outbox, .link, .onyx, .flt] s s1 := touches_onyx hs (by with_reducible rfl) (by with_reducible rfl) rfl
  exact touches_ite (.then hs1 touches_ev rfl) (touches_ite (.then hs1 touches_ev rfl) hs1)

theorem touches_logEntry {type slot flags : Nat} {data : List Byte} : Touches [.queues, .outbox, .link, .onyx, .flt] s (logEntry type
    slot flags data s) := by
  have hs := Touches.refl [.queues, .outbox, .link, .onyx, .flt] s
  unfold logEntry
  exact .then hs touches_logAt rfl

theorem touches_markBits {p : Nat → Bool} {bits : Nat} : Touches [.onyx] s (markBits p bits s) := by
  have hs := Touches.refl [.onyx] s
  unfold markBits
  exact touches_onyx hs (by with_reducible rfl) (by with_reducible rfl) rfl

theorem touches_persistLive : Touches [.onyx] s (persistLive s) := by
  have hs := Touches.refl [.onyx] s
  unfold persistLive
  exact touches_onyx hs (by with_reducible rfl) (by with_reducible rfl) rfl

theorem touches_writeSet : Touches [.onyx] s (writeSet s) := by
  have hs := Touches.refl [.onyx] s
  unfold writeSet
  exact touches_ite hs (.then hs touches_persistLive rfl)

theorem touches_noteEdge : Touches [.onyx] s (noteEdge s) := by
  have hs := Touches.refl [.onyx] s
  unfold noteEdge
  exact touches_onyx hs (by with_reducible rfl) (by with_reducible rfl) rfl

theorem touches_closeSegment {flags : Nat} {ends : Bool} : Touches [.onyx] s (closeSegment flags ends s) := by
  have hs := Touches.refl [.onyx] s
  unfold closeSegment
  exact touches_onyx hs (by with_reducible rfl) (by with_reducible rfl) rfl

theorem touches_openSegment {flags : Nat} : Touches [.onyx] s (openSegment flags s) := by
  have hs := Touches.refl [.onyx] s
  unfold openSegment
  exact .then hs touches_modLive rfl

theorem touches_openInterval {m flags : Nat} : Touches [.onyx] s (openInterval m flags s) := by
  have hs := Touches.refl [.onyx] s
  unfold openInterval
  exact .then hs touches_modLive rfl

theorem touches_closeInterval {m flags : Nat} : Touches [.queues, .outbox, .link, .onyx, .flt] s (closeInterval m flags s) := by
  have hs := Touches.refl [.queues, .outbox, .link, .onyx, .flt] s
  unfold closeInterval
  extract_lets r s1 fl s2 s3 partialStart
  have hs1 : Touches [.queues, .outbox, .link, .onyx, .flt] s s1 := .then hs touches_closeSegment rfl
  have hs2 : Touches [.queues, .outbox, .link, .onyx, .flt] s s2 := .then hs1 touches_ev rfl
  have hs3 : Touches [.queues, .outbox, .link, .onyx, .flt] s s3 := touches_ite (.then hs2 touches_logEntry rfl) hs2
  exact .then (.then hs3 touches_openInterval rfl) touches_noteEdge rfl

theorem touches_setTariff {t cause : Nat} : Touches [.queues, .outbox, .link, .onyx, .flt] s (setTariff t cause s) := by
  have hs := Touches.refl [.queues, .outbox, .link, .onyx, .flt] s
  unfold setTariff
  extract_lets old f s1 s2 s3
  have hs1 : Touches [.queues, .outbox, .link, .onyx, .flt] s s1 := .then hs touches_ev rfl
  have hs2 : Touches [.queues, .outbox, .link, .onyx, .flt] s s2 := touches_onyx hs1 (by with_reducible rfl) (by with_reducible rfl) rfl
  have hs3 : Touches [.queues, .outbox, .link, .onyx, .flt] s s3 := .then hs2 touches_modLive rfl
  exact touches_ite hs1 (.then (.then hs3 touches_noteEdge rfl) touches_writeSet rfl)

theorem touches_tableSwitch : Touches [.queues, .outbox, .link, .onyx, .flt] s (tableSwitch s) := by
  have hs := Touches.refl [.queues, .outbox, .link, .onyx, .flt] s
  unfold tableSwitch
  refine touches_ite hs ?_
  split
  · exact hs
  · refine touches_ite hs ?_
    extract_lets cause s1
    have hs1 : Touches [.queues, .outbox, .link, .onyx, .flt] s s1 := touches_onyx hs (by with_reducible rfl) (by with_reducible rfl) rfl
    exact touches_ite hs1 (.then hs1 touches_setTariff rfl)

theorem touches_endFold : Touches [.queues, .outbox, .link, .onyx, .flt] s (endFold s) := by
  have hs := Touches.refl [.queues, .outbox, .link, .onyx, .flt] s
  unfold endFold
  split
  · exact .then (.then (touches_onyx hs (by with_reducible rfl) (by with_reducible rfl) rfl) touches_logEntry rfl) touches_ev rfl
  · exact hs

theorem touches_closeAccess {cause : Nat} : Touches [.queues, .outbox, .link, .onyx, .flt, .access] s (closeAccess cause s) := by
  have hs := Touches.refl [.queues, .outbox, .link, .onyx, .flt, .access] s
  unfold closeAccess
  exact touches_ite (.then (.then (touches_onyx_access hs rfl) touches_logEntry rfl) touches_ev rfl) hs

theorem touches_sealStamp {high : Bool} : Touches [.queues, .outbox, .link, .onyx, .flt, .access] s (sealStamp high s) := by
  have hs := Touches.refl [.queues, .outbox, .link, .onyx, .flt, .access] s
  unfold sealStamp
  extract_lets high1 s1
  have hs1 : Touches [.queues, .outbox, .link, .onyx, .flt, .access] s s1 := touches_onyx hs (by with_reducible rfl) (by with_reducible
    rfl) rfl
  exact touches_ite (.then hs1 touches_closeAccess rfl) hs1

theorem touches_notePending : Touches [.onyx] s (notePending s) := by
  have hs := Touches.refl [.onyx] s
  unfold notePending
  split
  · exact hs
  · exact touches_onyx hs (by with_reducible rfl) (by with_reducible rfl) rfl

theorem touches_applyCfgSeal : Touches [.queues, .outbox, .rnd, .link, .mtr, .onyx, .flt, .access] s (applyCfgSeal s) := by
  have hs := Touches.refl [.queues, .outbox, .rnd, .link, .mtr, .onyx, .flt, .access] s
  unfold applyCfgSeal
  split
  · exact hs
  · exact .then (.then (touches_onyx_access (.then (touches_rnd (.then (touches_mtr hs rfl) touches_notePending rfl) rfl)
      touches_logEntry rfl) rfl) touches_ev rfl) touches_writeSet rfl

theorem touches_startInterval : Touches [.queues, .outbox, .link, .onyx, .flt] s (startInterval s) := by
  have hs := Touches.refl [.queues, .outbox, .link, .onyx, .flt] s
  unfold startInterval
  extract_lets l f s1 same m
  have hs1 : Touches [.queues, .outbox, .link, .onyx, .flt] s s1 := touches_onyx hs (by with_reducible rfl) (by with_reducible rfl) rfl
  exact touches_ite (.then (.then hs1 touches_closeSegment rfl) touches_openSegment rfl) (touches_ite (.then hs1 touches_closeInterval
    rfl) (.then (.then hs1 touches_closeSegment rfl) touches_openSegment rfl))

theorem touches_modV {k : Fin 8} {f : VPort → VPort} : Touches [.vlk] s (modV k f s) := by
  have hs := Touches.refl [.vlk] s
  unfold modV
  exact touches_vlk hs (by with_reducible rfl) rfl

theorem touches_claimLane {k : Fin 8} {l : Fin 4} {t : Rat} : Touches [.vlk, .lanes] s (claimLane k l t s) := by
  have hs := Touches.refl [.vlk, .lanes] s
  unfold claimLane
  exact .then (touches_vlk_lanes hs rfl) touches_modV rfl

theorem touches_grantLane {t : Rat} : Touches [.vlk, .lanes] s (grantLane t s) := by
  have hs := Touches.refl [.vlk, .lanes] s
  unfold grantLane
  split
  · exact .then hs touches_claimLane rfl
  · exact hs

theorem touches_releaseLane {k : Fin 8} {t : Rat} : Touches [.vlk, .lanes] s (releaseLane k t s) := by
  have hs := Touches.refl [.vlk, .lanes] s
  unfold releaseLane
  split
  · exact .then (.then (touches_vlk_lanes hs rfl) touches_modV rfl) touches_grantLane rfl
  · exact hs

theorem touches_vlkOff {k : Fin 8} : Touches [.outbox, .vlk, .lanes] s (vlkOff k s) := by
  have hs := Touches.refl [.outbox, .vlk, .lanes] s
  unfold vlkOff
  extract_lets f s1 s2
  have hs1 : Touches [.outbox, .vlk, .lanes] s s1 := .then hs touches_releaseLane rfl
  have hs2 : Touches [.outbox, .vlk, .lanes] s s2 := touches_ite (touches_outbox hs1 rfl) hs1
  exact touches_vlk (.then hs2 touches_modV rfl) (by with_reducible rfl) rfl

theorem touches_vlkContent {k : Fin 8} {type : Nat} {item : List Byte} : Touches [.queues, .outbox, .rnd, .link] s (vlkContent k type
    item s) := by
  have hs := Touches.refl [.queues, .outbox, .rnd, .link] s
  unfold vlkContent
  exact touches_ite (touches_foldl hs (fun _ _ ht => .then (touches_rnd ht rfl) touches_pushData rfl)) hs

theorem touches_awaitHost {k : Fin 8} {type : Nat} : Touches [.vlk] s (awaitHost k type s) := by
  have hs := Touches.refl [.vlk] s
  unfold awaitHost
  exact touches_ite hs (.then hs touches_modV rfl)

theorem touches_loopbackCount {k : Fin 8} {ok : Bool} : Touches [.queues, .outbox, .link, .flt] s (loopbackCount k ok s) := by
  have hs := Touches.refl [.queues, .outbox, .link, .flt] s
  unfold loopbackCount
  extract_lets o fails s1
  have hs1 : Touches [.queues, .outbox, .link, .flt] s s1 := touches_flt hs rfl
  exact touches_ite (.then hs1 touches_retireObj rfl) hs1

theorem touches_cardRec {type handle : Nat} {payload : List Byte} : Touches [.queues, .outbox, .rnd, .link] s (cardRec type handle
    payload s) := by
  have hs := Touches.refl [.queues, .outbox, .rnd, .link] s
  unfold cardRec
  exact .then (touches_rnd hs rfl) touches_pushData rfl

theorem touches_fieldEnd : Touches [.nfc] s (fieldEnd s) := by
  have hs := Touches.refl [.nfc] s
  unfold fieldEnd
  exact touches_ite hs (touches_nfc hs rfl)

theorem touches_endPoll : Touches [.nfc] s (endPoll s) := by
  have hs := Touches.refl [.nfc] s
  unfold endPoll
  exact .then (touches_nfc hs rfl) touches_fieldEnd rfl

theorem touches_nfcFlush : Touches [.queues, .outbox, .link, .nfc, .flt] s (nfcFlush s) := by
  have hs := Touches.refl [.queues, .outbox, .link, .nfc, .flt] s
  unfold nfcFlush
  exact touches_ite (touches_foldl (touches_nfc hs rfl) (fun _ _ ht => touches_ite (.then ht touches_ev rfl) (.then ht touches_ev rfl)))
    hs

theorem touches_nfcStart : Touches [.queues, .outbox, .rnd, .link, .nfc, .flt] s (nfcStart s) := by
  have hs := Touches.refl [.queues, .outbox, .rnd, .link, .nfc, .flt] s
  unfold nfcStart
  extract_lets s1
  have hs1 : Touches [.queues, .outbox, .rnd, .link, .nfc, .flt] s s1 := .then (touches_nfc hs rfl) touches_nfcFlush rfl
  split
  · exact .then (touches_nfc hs1 rfl) touches_cardRec rfl
  · exact hs1

theorem touches_nfcReset : Touches [.nfc] s (nfcReset s) := by
  have hs := Touches.refl [.nfc] s
  unfold nfcReset
  exact touches_nfc hs rfl

theorem touches_dspReset : Touches [.dsp] s (dspReset s) := by
  have hs := Touches.refl [.dsp] s
  unfold dspReset
  exact touches_dsp hs rfl

theorem touches_setNode {n : SiteNode} : Touches [.slk] s (setNode n s) := by
  have hs := Touches.refl [.slk] s
  unfold setNode
  exact touches_slk hs rfl

theorem touches_slkTo {a : AlignState} : Touches [.queues, .outbox, .link, .slk, .flt] s (slkTo a s) := by
  have hs := Touches.refl [.queues, .outbox, .link, .slk, .flt] s
  unfold slkTo
  exact touches_ite hs (.then (touches_slk hs rfl) touches_ev rfl)

theorem touches_plcSend {via dest type : Nat} {body : List Byte} : Touches [.outbox, .slk] s (plcSend via dest type body s) := by
  have hs := Touches.refl [.outbox, .slk] s
  unfold plcSend
  exact touches_ite hs (touches_outbox (touches_slk hs rfl) rfl)

theorem touches_plcUnicast {dest type : Nat} {body : List Byte} {msg : Option Nat} : Touches [.outbox, .rnd, .slk] s (plcUnicast dest
    type body msg s) := by
  have hs := Touches.refl [.outbox, .rnd, .slk] s
  unfold plcUnicast
  exact touches_ite hs (.then (touches_slk (touches_rnd hs rfl) rfl) touches_plcSend rfl)

theorem touches_soundNode {a : Nat} : Touches [.outbox, .slk] s (soundNode a s) := by
  have hs := Touches.refl [.outbox, .slk] s
  unfold soundNode
  split
  · exact hs
  · exact .then (.then hs touches_setNode rfl) touches_plcSend rfl

theorem touches_setDist {d : SchedDist} : Touches [.slk] s (setDist d s) := by
  have hs := Touches.refl [.slk] s
  unfold setDist
  exact touches_slk hs rfl

theorem touches_distReport {src num outcome : Nat} : Touches [.slk] s (distReport src num outcome s) := by
  have hs := Touches.refl [.slk] s
  unfold distReport
  split
  · exact touches_ite hs (.then hs touches_setDist rfl)
  · exact hs

theorem touches_setRoot {r hop : Nat} : Touches [.queues, .outbox, .link, .slk, .flt] s (setRoot r hop s) := by
  have hs := Touches.refl [.queues, .outbox, .link, .slk, .flt] s
  unfold setRoot
  exact touches_ite (touches_slk hs rfl) (.then (touches_slk hs rfl) touches_ev rfl)

theorem touches_setOffset {o : Int} {report : Bool} : Touches [.queues, .outbox, .link, .slk, .flt] s (setOffset o report s) := by
  have hs := Touches.refl [.queues, .outbox, .link, .slk, .flt] s
  unfold setOffset
  dsimp only
  split
  · exact touches_ite (.then (touches_slk hs rfl) touches_ev rfl) (touches_slk hs rfl)
  · exact touches_slk hs rfl

theorem touches_slkLost {a : AlignState} : Touches [.queues, .outbox, .link, .slk, .flt] s (slkLost a s) := by
  have hs := Touches.refl [.queues, .outbox, .link, .slk, .flt] s
  unfold slkLost
  exact .then (touches_slk hs rfl) touches_slkTo rfl

theorem touches_setSchedule {mask f : Nat} : Touches [.queues, .outbox, .link, .flt, .upd] s (setSchedule mask f s) := by
  have hs := Touches.refl [.queues, .outbox, .link, .flt, .upd] s
  unfold setSchedule
  exact .then (touches_upd hs rfl) touches_ev rfl

theorem touches_memberAnswer {source num : Nat} {ok : Bool} : Touches [.outbox, .rnd, .slk] s (memberAnswer source num ok s) := by
  have hs := Touches.refl [.outbox, .rnd, .slk] s
  unfold memberAnswer
  exact .then (.then hs touches_plcSend rfl) touches_plcUnicast rfl

theorem touches_memberReport {source num outcome : Nat} : Touches [.outbox, .rnd, .slk] s (memberReport source num outcome s) := by
  have hs := Touches.refl [.outbox, .rnd, .slk] s
  unfold memberReport
  exact touches_ite (.then hs touches_distReport rfl) (.then hs touches_plcUnicast rfl)

theorem touches_slkStart : Touches [.queues, .outbox, .link, .slk, .flt] s (slkStart s) := by
  have hs := Touches.refl [.queues, .outbox, .link, .slk, .flt] s
  unfold slkStart
  exact .then (touches_slk hs rfl) touches_slkLost rfl

theorem touches_slkReset : Touches [.slk] s (slkReset s) := by
  have hs := Touches.refl [.slk] s
  unfold slkReset
  exact touches_slk hs rfl

theorem touches_writeRecords : Touches [.flt] s (writeRecords s) := by
  have hs := Touches.refl [.flt] s
  unfold writeRecords
  exact touches_flt hs rfl

theorem touches_fltReset {lost : Bool} : Touches [.flt] s (fltReset lost s) := by
  have hs := Touches.refl [.flt] s
  unfold fltReset
  exact touches_flt (touches_ite (touches_flt hs rfl) (.then hs touches_writeRecords rfl)) rfl

theorem touches_modRegion {r : Fin 2} {f : Region → Region} : Touches [.upd] s (modRegion r f s) := by
  have hs := Touches.refl [.upd] s
  unfold modRegion
  exact touches_upd hs rfl

theorem touches_takeImage {r : Fin 2} : Touches [.upd] s (takeImage r s) := by
  have hs := Touches.refl [.upd] s
  unfold takeImage
  exact .then (touches_upd hs rfl) touches_modRegion rfl

theorem touches_updReset : Touches [.upd] s (updReset s) := by
  have hs := Touches.refl [.upd] s
  unfold updReset
  exact touches_upd hs rfl

theorem touches_bootImage {sigOk : Bool} : Touches [.queues, .outbox, .link, .flt, .upd] s (bootImage sigOk s).1 := by
  have hs := Touches.refl [.queues, .outbox, .link, .flt, .upd] s
  unfold bootImage
  dsimp only
  split
  · split
    · split
      · dsimp only
        exact touches_upd (.then (touches_upd hs rfl) touches_ev rfl) rfl
      · split
        · dsimp only
          exact touches_upd (.then (touches_upd hs rfl) touches_ev rfl) rfl
        · dsimp only
          exact touches_upd hs rfl
    · split
      · dsimp only
        exact touches_upd (.then (touches_upd hs rfl) touches_ev rfl) rfl
      · split
        · dsimp only
          exact touches_upd (.then (touches_upd hs rfl) touches_ev rfl) rfl
        · dsimp only
          exact touches_upd hs rfl
  · split
    · dsimp only
      exact touches_upd (.then (touches_upd hs rfl) touches_ev rfl) rfl
    · split
      · dsimp only
        exact touches_upd (.then (.then (touches_upd (touches_upd hs rfl) rfl) touches_takeImage rfl) touches_ev rfl) rfl
      · dsimp only
        exact .then (touches_upd (touches_upd hs rfl) rfl) touches_takeImage rfl

theorem touches_txnEv {id detail : Nat} {t : Txn} {idx check other : Nat} : Touches [.queues, .outbox, .link, .flt] s (txnEv id detail t
    idx check other s) := by
  have hs := Touches.refl [.queues, .outbox, .link, .flt] s
  unfold txnEv
  exact .then hs touches_ev rfl

theorem touches_step2Act {a : Action} : Touches [.pool, .garnet, .outs] s (step2Act a s) := by
  have hs := Touches.refl [.pool, .garnet, .outs] s
  unfold step2Act
  split
  · exact touches_ite (.then hs touches_soOn rfl) (.then hs touches_soOff rfl)
  · exact .then (touches_ite (.then hs touches_soOn rfl) (.then hs touches_soOff rfl)) touches_modTie rfl
  · exact hs

theorem touches_prechargeFail {k : Fin 8} {detail so : Nat} : Touches [.queues, .outbox, .link, .txn, .outlets, .flt] s (prechargeFail k
    detail so s) := by
  have hs := Touches.refl [.queues, .outbox, .link, .txn, .outlets, .flt] s
  unfold prechargeFail
  exact .then (.then hs touches_stopSession rfl) touches_ev rfl

theorem touches_purposeFailed {t : Txn} {detail outcome check : Nat} : Touches [.params, .queues, .outbox, .beryl, .link, .txn, .outlets,
    .pool, .flt] s (purposeFailed t detail outcome check s) := by
  have hs := Touches.refl [.params, .queues, .outbox, .beryl, .link, .txn, .outlets, .pool, .flt] s
  unfold purposeFailed
  split
  · exact .then hs touches_energiseEnd rfl
  · exact .then hs touches_prechargeFail rfl
  · exact .then hs touches_moveEnd rfl
  · exact hs

theorem touches_purposeDone {t : Txn} : Touches [.params, .queues, .outbox, .beryl, .link, .txn, .outlets, .pool, .flt] s (purposeDone t
    s) := by
  have hs := Touches.refl [.params, .queues, .outbox, .beryl, .link, .txn, .outlets, .pool, .flt] s
  unfold purposeDone
  split
  · exact .then hs touches_energiseEnd rfl
  · split
    · exact .then hs touches_moveEnter rfl
    · exact hs
  · exact hs

theorem touches_hostCtrFail {t : Txn} {detail : Nat} : Touches [.queues, .outbox, .link, .flt] s (hostCtrFail t detail s) := by
  have hs := Touches.refl [.queues, .outbox, .link, .flt] s
  unfold hostCtrFail
  refine touches_ite hs ?_
  split
  · split
    · exact .then hs touches_ev rfl
    · exact hs
  · exact hs

theorem touches_endConfirmed {n : Nat} : Touches [.params, .queues, .outbox, .beryl, .link, .txn, .outlets, .pool, .flt] s (endConfirmed
    n s) := by
  have hs := Touches.refl [.params, .queues, .outbox, .beryl, .link, .txn, .outlets, .pool, .flt] s
  unfold endConfirmed
  split
  · refine touches_ite ?_ hs
    extract_lets s1
    have hs1 : Touches [.params, .queues, .outbox, .beryl, .link, .txn, .outlets, .pool, .flt] s s1 := touches_txn hs rfl
    exact .then (touches_ite (.then hs1 touches_txnEv rfl) hs1) touches_purposeDone rfl
  · exact hs

theorem touches_endRollback {t : Txn} : Touches [.params, .queues, .outbox, .beryl, .link, .txn, .outlets, .pool, .flt] s (endRollback t
    s) := by
  have hs := Touches.refl [.params, .queues, .outbox, .beryl, .link, .txn, .outlets, .pool, .flt] s
  unfold endRollback
  refine touches_ite (.then (.then (.then (touches_txn hs rfl) touches_txnEv rfl) touches_purposeFailed rfl) touches_hostCtrFail rfl) ?_
  extract_lets s1 s2 x s3
  have hs1 : Touches [.params, .queues, .outbox, .beryl, .link, .txn, .outlets, .pool, .flt] s s1 := .then (touches_txn hs rfl)
    touches_txnEv rfl
  have hs2 : Touches [.params, .queues, .outbox, .beryl, .link, .txn, .outlets, .pool, .flt] s s2 := touches_foldl hs1 (fun _ _ ht =>
    .then ht touches_noteFault rfl)
  have hs3 : Touches [.params, .queues, .outbox, .beryl, .link, .txn, .outlets, .pool, .flt] s s3 := touches_txn hs2 rfl
  exact .then (.then hs3 touches_purposeFailed rfl) touches_hostCtrFail rfl

theorem touches_settleTxn {n : Nat} : Touches [.params, .queues, .outbox, .beryl, .link, .txn, .outlets, .pool, .flt] s (settleTxn n s)
    := by
  have hs := Touches.refl [.params, .queues, .outbox, .beryl, .link, .txn, .outlets, .pool, .flt] s
  unfold settleTxn
  split
  · refine touches_ite ?_ hs
    extract_lets s1
    have hs1 : Touches [.params, .queues, .outbox, .beryl, .link, .txn, .outlets, .pool, .flt] s s1 := touches_ite (touches_txn hs rfl) hs
    exact touches_ite (.then hs1 touches_endRollback rfl) hs1
  · exact hs

theorem touches_confirmTxn {n : Nat} : Touches [.params, .queues, .outbox, .beryl, .link, .txn, .outlets, .pool, .flt] s (confirmTxn n s)
    := by
  have hs := Touches.refl [.params, .queues, .outbox, .beryl, .link, .txn, .outlets, .pool, .flt] s
  unfold confirmTxn
  split
  · exact hs
  · split
    · exact .then (touches_txn hs rfl) touches_endConfirmed rfl
    · exact .then (touches_txn hs rfl) touches_settleTxn rfl
    · exact hs

theorem touches_confirmAll : Touches [.params, .queues, .outbox, .beryl, .link, .txn, .outlets, .pool, .flt] s (confirmAll s) := by
  have hs := Touches.refl [.params, .queues, .outbox, .beryl, .link, .txn, .outlets, .pool, .flt] s
  unfold confirmAll
  exact touches_foldl hs (fun _ _ ht => .then ht touches_confirmTxn rfl)

theorem touches_missedFinding {a : Action} : Touches [.queues, .outbox, .link, .txn, .outlets, .pool, .garnet, .flt] s (missedFinding a
    s) := by
  have hs := Touches.refl [.queues, .outbox, .link, .txn, .outlets, .pool, .garnet, .flt] s
  unfold missedFinding
  split
  · refine touches_ite ?_ hs
    split
    · exact .then hs touches_weldFound rfl
    · exact hs
  · extract_lets s1
    have hs1 : Touches [.queues, .outbox, .link, .txn, .outlets, .pool, .garnet, .flt] s s1 := .then hs touches_tieFail rfl
    exact touches_ite (.then hs1 touches_tieWeld rfl) hs1
  · exact hs

theorem touches_contactorWeld {o : Fin 32} : Touches [.queues, .outbox, .link, .txn, .outlets, .pool, .garnet, .flt] s (contactorWeld o
    s) := by
  have hs := Touches.refl [.queues, .outbox, .link, .txn, .outlets, .pool, .garnet, .flt] s
  unfold contactorWeld
  split
  · exact touches_ite (.then hs touches_missedFinding rfl) hs
  · exact hs

theorem touches_tieFinding2 {t : Fin 8} : Touches [.queues, .outbox, .link, .txn, .pool, .flt] s (tieFinding2 t s) := by
  have hs := Touches.refl [.queues, .outbox, .link, .txn, .pool, .flt] s
  unfold tieFinding2
  refine touches_ite hs ?_
  refine touches_ite (.then hs touches_tieDrop rfl) ?_
  refine touches_ite ?_ hs
  split
  · exact touches_ite (.then hs touches_tieWeld rfl) hs
  · exact hs

theorem touches_loaderOutlet {k : Fin 8} : Touches [.queues, .outbox, .link, .txn, .outlets, .pool, .efi, .garnet, .aux, .flt] s
    (loaderOutlet k s) := by
  have hs := Touches.refl [.queues, .outbox, .link, .txn, .outlets, .pool, .efi, .garnet, .aux, .flt] s
  unfold loaderOutlet
  refine touches_ite hs ?_
  extract_lets live acts s1
  have hs1 : Touches [.queues, .outbox, .link, .txn, .outlets, .pool, .efi, .garnet, .aux, .flt] s s1 := .then hs touches_enterState rfl
  exact touches_ite hs1 (.then hs1 touches_buildTxn rfl)

theorem touches_enterService {v : Service} : Touches [.queues, .outbox, .sys, .link, .flt, .service, .wire] s (enterService v s) := by
  have hs := Touches.refl [.queues, .outbox, .sys, .link, .flt, .service, .wire] s
  unfold enterService
  extract_lets s1 s2
  have hs1 : Touches [.queues, .outbox, .sys, .link, .flt, .service, .wire] s s1 := touches_sys_service hs rfl
  have hs2 : Touches [.queues, .outbox, .sys, .link, .flt, .service, .wire] s s2 := touches_ite (touches_link_wire hs1 rfl) (touches_ite
    (.then hs1 touches_makeReady rfl) hs1)
  exact .then hs2 touches_ev rfl

theorem touches_enterLoader : Touches [.queues, .outbox, .sys, .link, .txn, .outlets, .pool, .efi, .garnet, .aux, .flt, .service, .wire]
    s (enterLoader s) := by
  have hs := Touches.refl [.queues, .outbox, .sys, .link, .txn, .outlets, .pool, .efi, .garnet, .aux, .flt, .service, .wire] s
  unfold enterLoader
  exact .then (touches_foldl (.then hs touches_enterService rfl) (fun _ _ ht => .then ht touches_loaderOutlet rfl)) touches_outletsAvail
    rfl

end Sys2Proof.Machine
end

section
/-! SUPPORT. Operations repeated for every entry of a fixed array. -/

namespace Sys2Proof.Machine

theorem mem_allFin {n : Nat} (k : Fin n) : k ∈ allFin n := List.mem_finRange k

/-- What a step brings about for its own entry, and every later step keeps, holds of every entry at the end. -/
theorem foldl_forall {α β : Type} {f : β → α → β} {P : α → β → Prop} (hset : ∀ s x, P x (f s x)) (hkeep : ∀ s x y, P x s → P x (f s y))
    {l : List α} {x : α} (hx : x ∈ l) (s : β) : P x (l.foldl f s) := by
  induction l generalizing s with
  | nil => cases hx
  | cons y l ih =>
    rcases List.mem_cons.mp hx with rfl | hx
    · exact List.foldlRecOn l f (hset s x) fun t ht z _ => hkeep t x z ht
    · exact ih hx (f s y)

/-- What every step keeps holds at the end. -/
theorem foldl_keep {α β : Type} {f : β → α → β} {P : β → Prop} {s : β} (h : P s) (hkeep : ∀ s x, P s → P (f s x)) (l : List α) :
    P (l.foldl f s) := List.foldlRecOn l f h fun t ht x _ => hkeep t x ht

/-- What no step changes is the same at the end. -/
theorem foldl_same {α β γ : Type} {f : β → α → β} {g : β → γ} (h : ∀ s x, g (f s x) = g s) (l : List α) (s : β) :
    g (l.foldl f s) = g s := foldl_keep (P := fun t => g t = g s) rfl (fun t x ht => (h t x).trans ht) l

theorem upd_self {α : Type} {n : Nat} (v : Vector α n) (i : Fin n) (f : α → α) : (upd v i f)[i] = f v[i] := upd_get_self ..

theorem upd_other {α : Type} {n : Nat} {v : Vector α n} {i j : Fin n} {f : α → α} (h : j ≠ i) : (upd v i f)[j] = v[j] := upd_get_ne _ _ _ _ h

/-- What a change of one entry leaves alone, every entry keeps. -/
theorem upd_keeps {α β : Type} {n : Nat} {f : α → α} (g : α → β) (v : Vector α n) (i j : Fin n)
    (h : ∀ x, g (f x) = g x := by exact fun _ => rfl) : g (upd v i f)[j] = g v[j] := by
  by_cases hj : j = i
  · subst hj
    exact (congrArg g (upd_get_self v j f)).trans (h _)
  · exact congrArg g (upd_get_ne v i j f hj)

theorem modV_port {β : Type} (g : VPort → β) (k j : Fin 8) (f : VPort → VPort) (s : State)
    (h : ∀ p, g (f p) = g p := by exact fun _ => rfl) : g (modV k f s).vlk.ports[j] = g s.vlk.ports[j] := upd_keeps g s.vlk.ports k j h

theorem foldl_upd {α : Type} {n : Nat} (f : α → α) (v : Vector α n) : (allFin n).foldl (fun v k => upd v k f) v = v.map f := by
  have hl : ∀ (l : List (Fin n)) (v : Vector α n), l.Nodup → ∀ j : Fin n,
      (l.foldl (fun v k => upd v k f) v)[j] = if j ∈ l then f v[j] else v[j] := by
    intro l
    induction l with
    | nil => intro v _ j; rfl
    | cons k l ih =>
      intro v hd j
      obtain ⟨hk, hd⟩ := List.nodup_cons.mp hd
      rw [List.foldl_cons, ih _ hd]
      by_cases hj : j = k
      · subst hj
        rw [if_neg hk, if_pos List.mem_cons_self]
        exact upd_get_self v j f
      · simp only [List.mem_cons, hj, false_or]
        rw [show (upd v k f)[j] = v[j] from upd_get_ne v k j f hj]
  refine Vector.ext fun i hi => ?_
  have h := hl (allFin n) v (List.nodup_finRange n) ⟨i, hi⟩
  rw [if_pos (mem_allFin _)] at h
  exact h.trans (Vector.getElem_map (xs := v) (f := f) hi).symm

end Sys2Proof.Machine
end

section
/-! PROOF. The vault and the supplies of the pads (chapters 04 and 18). -/

namespace Sys2Proof.Machine

open Host (Outcome)

variable {s : State}

/-! ### Modulator inputs -/

theorem squashSlot_inputs (m : Fin 9) (mask first cause input : Nat) (s : State) :
    (squashSlot m mask first cause input s).mtr.inputs = s.mtr.inputs := by
  unfold squashSlot
  split <;> rfl

/-- A fault of an input changes that input alone, and leaves it flagged. -/
theorem modInputFault_inputs (n : Fin 48) {cause : Nat} (h0 : cause ≠ 0) (h3 : cause ≤ 3) (s : State) :
    ∃ c, (modInputFault n cause s).mtr.inputs =
      upd s.mtr.inputs n fun i => { i with faulted := some c, goodRun := 0, until_ := s.frame + 3 } := by
  unfold modInputFault
  rw [if_neg (not_or.mpr ⟨h0, Nat.not_lt.mpr h3⟩)]
  extract_lets f x first c new s1 s2
  have h2 : s2.mtr.inputs = s1.mtr.inputs := foldl_same (g := fun t : State => t.mtr.inputs) (fun t y => squashSlot_inputs ..) _ _
  refine ⟨c, Eq.trans ?_ h2⟩
  clear_value s2
  repeat' split
  all_goals rfl

theorem modInputFault_flags (n : Fin 48) (s : State) : (modInputFault n 2 s).mtr.inputs[n].faulted ≠ none := by
  obtain ⟨c, hc⟩ := modInputFault_inputs n (cause := 2) (by decide) (by decide) s
  rw [hc]
  exact fun h => Option.some_ne_none c ((congrArg MtrInput.faulted (upd_get_self ..)).symm.trans h)

theorem modInputFault_keeps_flag (n j : Fin 48) (h : s.mtr.inputs[j].faulted ≠ none) : (modInputFault n 2 s).mtr.inputs[j].faulted ≠ none := by
  by_cases hj : j = n
  · subst hj
    exact modInputFault_flags j s
  · obtain ⟨c, hc⟩ := modInputFault_inputs n (cause := 2) (by decide) (by decide) s
    rw [hc]
    exact fun hn => h ((congrArg MtrInput.faulted (upd_get_ne _ _ _ _ hj)).symm.trans hn)

/-! ### Pilot drivers -/

/-- A driver that neither is high-impedance nor shall become it. -/
structure PilotDriven (o : Outlet) : Prop where
  out    : o.out ≠ .highZ
  next   : o.outNext ≠ some .highZ
  forced : o.forced ≠ some .highZ

theorem pilotWanted_ne_highZ {k : Fin 8} (h : s.outlets[k].forced ≠ some .highZ) : pilotWanted s k ≠ some .highZ := by
  unfold pilotWanted
  dsimp only
  cases hf : s.outlets[k].forced with
  | some x => exact fun hx => h (hf.trans hx)
  | none =>
    dsimp only
    repeat' split
    all_goals exact fun hx => by cases hx

theorem driven_modOut {j k : Fin 8} {f : Outlet → Outlet} (h : PilotDriven s.outlets[k]) (hf : j = k → ∀ o, PilotDriven o → PilotDriven (f o)) :
    PilotDriven (modOut j f s).outlets[k] := by
  by_cases hj : j = k
  · subst hj
    exact Eq.mpr (congrArg PilotDriven (upd_get_self ..)) (hf rfl _ h)
  · exact Eq.mpr (congrArg PilotDriven (upd_get_ne _ _ _ _ (Ne.symm hj))) h

theorem pilotOutputs_driven {k : Fin 8} (h : PilotDriven s.outlets[k]) : PilotDriven (pilotOutputs s).outlets[k] := by
  unfold pilotOutputs
  refine foldl_keep (P := fun t : State => PilotDriven t.outlets[k]) h (fun t j ht => ?_) _
  extract_lets f t1
  have h1 : PilotDriven t1.outlets[k] := by
    dsimp only [t1]
    split
    · exact ht
    · exact driven_modOut ht fun _ o ho => by
        split
        · exact ho
        · exact ⟨ho.out, fun hx => PilotOut.noConfusion (Option.some.inj hx), ho.forced⟩
    · rename_i x _ hx
      exact driven_modOut ht fun hj o ho => by
        split
        · exact ho
        · exact ⟨fun hz => pilotWanted_ne_highZ (hj ▸ ht.forced) (hx.trans (congrArg some hz)), fun hz => (Option.some_ne_none _ hz.symm), ho.forced⟩
  split
  · exact driven_modOut h1 fun _ o ho => by
      split
      · rename_i x hx
        exact ⟨fun hz => ho.next (hx.trans (congrArg some hz)), fun hz => (Option.some_ne_none _ hz.symm), ho.forced⟩
      · exact ho
  · exact h1

/-- The drivers that resume leave high impedance: the first fold of PILOT_SUPPLY_OK. -/
theorem resumed_driven {k : Fin 8} (hf : s.outlets[k].forced ≠ some .highZ) (hn : s.outlets[k].outNext ≠ some .highZ) :
    PilotDriven ((allFin 8).foldl (fun (s : State) (k : Fin 8) =>
      modOut k (fun o => if o.out = .highZ then { o with out := .stateF } else o) s) s).outlets[k] := by
  have hhom := List.foldl_hom (fun v => { s with outlets := v })
    (g₁ := fun (v : Vector Outlet 8) k => upd v k fun o => if o.out = .highZ then { o with out := .stateF } else o)
    (g₂ := fun (s : State) (k : Fin 8) => modOut k (fun o => if o.out = .highZ then { o with out := .stateF } else o) s)
    (l := allFin 8) (init := s.outlets) fun _ _ => rfl
  rw [show s = { s with outlets := s.outlets } from rfl, hhom, foldl_upd]
  have hmap : (s.outlets.map fun o : Outlet => if o.out = .highZ then { o with out := .stateF } else o)[k] =
      if s.outlets[k].out = .highZ then { s.outlets[k] with out := .stateF } else s.outlets[k] := Vector.getElem_map ..
  rw [hmap]
  split
  · exact ⟨fun h => PilotOut.noConfusion h, hn, hf⟩
  · rename_i h
    exact ⟨h, hn, hf⟩

/-! ### The obligation -/

/-- A fault of every modulator input at once (R566). -/
theorem inputs_all_flagged (s : State) : Touches [.mtr, .garnet] s ((allFin 48).foldl (fun (s : State) (n : Fin 48) => modInputFault n 2 s) s)
    ∧ ∀ n : Fin 48, ((allFin 48).foldl (fun (s : State) (n : Fin 48) => modInputFault n 2 s) s).mtr.inputs[n].faulted ≠ none :=
  ⟨touches_foldl (.refl _ s) fun _ _ ht => .then ht touches_modInputFault rfl,
    fun n => foldl_forall (P := fun (n : Fin 48) (t : State) => t.mtr.inputs[n].faulted ≠ none) (fun t n => modInputFault_flags n t)
      (fun _ n j h => modInputFault_keeps_flag j n h) (mem_allFin n) s⟩

theorem vioLow_row (s : State) : ∃ t, exec .vioLow s = .next t ∧ t.sys.vioLow = true ∧ t.link.spiOut = []
    ∧ (∀ n : Fin 48, t.mtr.inputs[n].faulted ≠ none) ∧ t.params = s.params ∧ t.outlets = s.outlets := by
  change ∃ t, execVioLow s = .next t ∧ _
  unfold execVioLow
  extract_lets s1 s2
  obtain ⟨hfold, hflag⟩ := inputs_all_flagged s2
  generalize (allFin 48).foldl (fun (s : State) (n : Fin 48) => modInputFault n 2 s) s2 = u at hfold hflag ⊢
  have hseal := touches_sealStamp (high := true) (s := u)
  refine ⟨_, rfl, ?_, (hseal.onWire LinkSt.spiOut rfl fun _ _ => rfl).trans (congrArg LinkSt.spiOut (hfold.same .link rfl)), fun n => ?_, ?_, ?_⟩
  · rw [hseal.same .sys rfl, hfold.same .sys rfl]
    rfl
  · rw [hseal.same .mtr rfl]
    exact hflag n
  · exact Eq.trans (hseal.same .params rfl) (hfold.same .params rfl)
  · exact Eq.trans (hseal.same .outlets rfl) (hfold.same .outlets rfl)

/-- Settles O25: the cell and the loops by their conditions, the supplies by what each driver and input is left with. -/
theorem vaultAndSupplyRowsTakeEffect : Obligations.VaultAndSupplyRowsTakeEffect := by
  refine ⟨fun s => ⟨fun mV h => ?_, fun mV h hl hr => ?_, fun mV h hl => ?_, fun hv hu hr => ?_, fun hv a b => ?_⟩,
    fun s => ⟨vioLow_row s, rfl, ?_, ⟨_, rfl, fun k hf hn => (pilotOutputs_driven (resumed_driven hf hn)).out⟩⟩⟩
  · change execCellMonitor mV s = _
    simp only [execCellMonitor, h, ↓reduceIte]
    rfl
  · change execCellMonitor mV s = _
    have hs : ¬ (s.sys.cellLow = true ∨ s.sys.inReset = true) := by simp only [hl, hr, Bool.false_eq_true, or_self, not_false_eq_true]
    exact (if_neg (Nat.not_le.mpr h)).trans (if_neg hs)
  · change execCellMonitor mV s = _
    exact (if_neg (Nat.not_le.mpr h)).trans (if_pos (.inl hl))
  · change execTamperSample true false s = _
    simp only [execTamperSample, tamperOpen, hv, hu, hr, Bool.false_eq_true, ↓reduceIte, Bool.not_false]
    rfl
  · change execTamperSample a b s = _
    simp only [execTamperSample, hv, ↓reduceIte]
    rfl
  · change execPilotSupplyFault s = _
    have hhom := List.foldl_hom (fun v => { s with outlets := v })
      (g₁ := fun (v : Vector Outlet 8) k => upd v k fun o => { o with out := .highZ, outNext := none })
      (g₂ := fun (s : State) (k : Fin 8) => modOut k (fun o => { o with out := .highZ, outNext := none }) s)
      (l := allFin 8) (init := s.outlets) fun _ _ => rfl
    unfold execPilotSupplyFault
    rw [show s = { s with outlets := s.outlets } from rfl, hhom, foldl_upd]
    rfl

end Sys2Proof.Machine
end

section
/-! PROOF. Power fail (chapter 04). -/

namespace Sys2Proof.Machine

open Host (Outcome)

variable {s : State}

theorem soOff_driven (o : Fin 32) (s : State) : (soOff o s).garnet.outs[o].driven = false :=
  congrArg SafeOut.driven (upd_get_self ..)

theorem soOff_keeps_off {o j : Fin 32} (h : s.garnet.outs[j].driven = false) : (soOff o s).garnet.outs[j].driven = false := by
  by_cases hj : j = o
  · subst hj
    exact soOff_driven j s
  · exact (congrArg SafeOut.driven (upd_get_ne _ _ _ _ hj)).trans h

theorem tieOff_cmd (x : Fin 8) (s : State) : (step2Act (.tie x false) s).pool.ties[x].cmd = false := congrArg TieSt.cmd (upd_get_self ..)

theorem tieOff_keeps_off {x y : Fin 8} (h : s.pool.ties[x].cmd = false) : (step2Act (.tie y false) s).pool.ties[x].cmd = false := by
  by_cases hy : x = y
  · subst hy
    exact tieOff_cmd x s
  · exact (congrArg TieSt.cmd (upd_get_ne _ _ _ _ hy)).trans h

theorem tieOff_keeps_contact {o : Fin 32} {y : Fin 8} (h : s.garnet.outs[o].driven = false) :
    (step2Act (.tie y false) s).garnet.outs[o].driven = false := soOff_keeps_off (o := soTie y) h

/-- Every contactor opened. -/
def openContactors (s : State) : State :=
  (allFin 24).foldl (fun (s : State) (o : Fin 24) => step2Act (.contactor ⟨o.val, by omega⟩ false) s) s

/-- Every tie opened. -/
def openTies (s : State) : State := (allFin 8).foldl (fun (s : State) (x : Fin 8) => step2Act (.tie x false) s) s

/-- At P + 8 the row opens all (R146). -/
theorem powerDownOpen_all {p : Nat} (hp : s.sys.powerFail = some p) (hle : p + 8 ≤ s.frame) :
    exec .powerDownOpen s = .next (openTies (openContactors s)) := by
  change execPowerDownOpen s = _
  have hlt : ¬ s.frame ≤ p := by omega
  simp only [execPowerDownOpen, hp, hlt, ↓reduceIte, hle, decide_true, Bool.true_or]
  rfl

theorem openContactors_off (o : Fin 24) (s : State) : (openContactors s).garnet.outs[(⟨o.val, by omega⟩ : Fin 32)].driven = false :=
  foldl_forall (P := fun (o : Fin 24) (t : State) => t.garnet.outs[(⟨o.val, by omega⟩ : Fin 32)].driven = false)
    (fun t o => soOff_driven ⟨o.val, by omega⟩ t) (fun _ _ _ h => soOff_keeps_off h) (mem_allFin o) s

theorem openTies_keeps_off {o : Fin 32} (h : s.garnet.outs[o].driven = false) : (openTies s).garnet.outs[o].driven = false :=
  foldl_keep (P := fun t : State => t.garnet.outs[o].driven = false) h (fun _ _ h => tieOff_keeps_contact h) _

theorem openTies_off (x : Fin 8) (s : State) : (openTies s).pool.ties[x].cmd = false :=
  foldl_forall (P := fun (x : Fin 8) (t : State) => t.pool.ties[x].cmd = false) (fun t x => tieOff_cmd x t) (fun _ _ _ h => tieOff_keeps_off h)
    (mem_allFin x) s

theorem open_all_touches (s : State) : Touches [.pool, .garnet, .outs] s (openTies (openContactors s)) :=
  touches_foldl (touches_foldl (.refl _ s) fun _ _ ht => .then ht touches_step2Act rfl) fun _ _ ht => .then ht touches_step2Act rfl

theorem powerFailWriteSet_row {b : PfBook} {live : OnyxLive} (hb : s.onyx.pf = some b) (hsnap : b.snap = some live) (hdone : b.done = false) :
    ∃ u, exec .powerFailWriteSet s =
      .next (modOnyx (fun o => { o with saved := live, savedPend := o.pending, pf := some { b with done := true } }) u) := by
  change ∃ u, execPowerFailWriteSet s = _
  simp only [execPowerFailWriteSet, hb, hsnap, hdone, Bool.false_eq_true, ↓reduceIte]
  exact ⟨_, rfl⟩

theorem tailRecord_row {b : PfBook} {live : OnyxLive} {x : Nat} (hb : s.onyx.pf = some b) (htail : b.tail = some (live, x))
    (hend : b.ended = false) :
    ∃ u, exec .tailRecord s = .next (modOnyx (fun o => { o with saved := live, pf := some { b with ended := true } }) u) := by
  change ∃ u, execTailRecord s = _
  simp only [execTailRecord, hb, htail, hend, Bool.false_eq_true, ↓reduceIte]
  exact ⟨_, rfl⟩

/-- Settles O26: each contactor and each tie is opened by its own step of the row, and no later step closes it. -/
theorem powerFailOpensAndSaves : Obligations.PowerFailOpensAndSaves := by
  intro s
  refine ⟨fun p hp hle => ⟨_, powerDownOpen_all hp hle, fun o => openTies_keeps_off (openContactors_off o s), fun x => openTies_off x _,
    (open_all_touches s).same .params rfl, (open_all_touches s).same .onyx rfl⟩, fun b live hb hsnap hdone => ?_, fun b live x hb htail hend => ?_⟩
  · obtain ⟨u, hu⟩ := powerFailWriteSet_row hb hsnap hdone
    exact ⟨_, hu, rfl, _, rfl, rfl, rfl⟩
  · obtain ⟨u, hu⟩ := tailRecord_row hb htail hend
    exact ⟨_, hu, rfl, _, rfl, rfl⟩

end Sys2Proof.Machine
end

section
/-! PROOF. The tests of a start (chapters 04 and 17). -/

namespace Sys2Proof.Machine

open Host (Outcome)

variable {s : State}

/-! ### Granting a decode lane -/

theorem grantLane_loopTest (t : Rat) (s : State) : (grantLane t s).vlk.loopTest = s.vlk.loopTest := by
  unfold grantLane
  split <;> rfl

theorem grantLane_loopFail (t : Rat) (k : Fin 8) (s : State) : (grantLane t s).vlk.ports[k].loopFail = s.vlk.ports[k].loopFail := by
  unfold grantLane
  split
  · rename_i j _ _ _ _
    unfold claimLane
    exact modV_port VPort.loopFail j k _ _
  · rfl

/-- The test asked for by VLK_LOOPBACK_X has passed (R134). -/
theorem loopbackSelfTest_passed {k : Fin 8} {f : Nat} (x snr : Nat) (hl : s.vlk.loopTest = some (k, f)) (hle : f + 40 ≤ s.frame) :
    ∃ t, exec (.loopbackSelfTest k true x snr) s = .next t ∧ t.vlk.loopTest = none ∧ t.sys.loopFails[k] = 0
      ∧ t.vlk.ports[k].loopFail = false := by
  have hgo : ¬ (k ≠ k ∨ s.frame < f + 40) := by omega
  change ∃ t, execLoopbackSelfTest k true x snr s = _ ∧ _
  simp only [execLoopbackSelfTest, hl]
  rw [if_neg hgo]
  refine ⟨_, rfl, grantLane_loopTest .., ?_, (grantLane_loopFail ..).trans (congrArg VPort.loopFail (upd_get_self ..))⟩
  rw [touches_grantLane.same .sys rfl]
  exact Vector.getElem_set_self _

/-! ### The test of a start -/

/-- The test of a start goes on with a port that has neither passed nor failed (R135). -/
structure LoopOpen (k : Fin 8) (s : State) : Prop where
  idle  : s.vlk.loopTest = none
  image : s.sys.imageValid = some true
  done  : s.sys.loopDone = false
  fails : s.sys.loopFails[k] = 0
  fresh : s.sys.loopPass / 2 ^ k.val % 2 = 0
  live  : objRetired s 5 k = false

theorem LoopOpen.go {k : Fin 8} (h : LoopOpen k s) : ¬ (s.sys.imageValid ≠ some true ∨ s.sys.loopDone = true ∨ 2 ≤ s.sys.loopFails[k]
    ∨ s.sys.loopPass / 2 ^ k.val % 2 = 1 ∨ objRetired s 5 k = true) := by
  rintro (himage | hdone | hfails | hfresh | hlive)
  · exact himage h.image
  · exact Bool.false_ne_true (h.done.symm.trans hdone)
  · exact absurd (h.fails ▸ hfails) (by decide)
  · exact Nat.zero_ne_one (h.fresh.symm.trans hfresh)
  · exact Bool.false_ne_true (h.live.symm.trans hlive)

theorem loopbackSelfTest_start_passed {k : Fin 8} (x snr : Nat) (h : LoopOpen k s) :
    ∃ t, exec (.loopbackSelfTest k true x snr) s = .next t ∧ t.sys.loopPass = s.sys.loopPass + 2 ^ k.val ∧ t.vlk = s.vlk := by
  change ∃ t, execLoopbackSelfTest k true x snr s = _ ∧ _
  simp only [execLoopbackSelfTest, h.idle]
  rw [if_neg h.go]
  simp only [↓reduceIte]
  refine ⟨_, rfl, ?_, ?_⟩
  · exact congrArg SysSt.loopPass (touches_loopbackCount.same .sys rfl)
  · exact touches_loopbackCount.same .vlk rfl

theorem loopbackSelfTest_start_failed {k : Fin 8} (x snr : Nat) (h : LoopOpen k s) :
    ∃ t, exec (.loopbackSelfTest k false x snr) s = .next t ∧ t.sys.loopFails[k] = 1 ∧ t.sys.loopDone = false ∧ t.vlk = s.vlk := by
  change ∃ t, execLoopbackSelfTest k false x snr s = _ ∧ _
  simp only [execLoopbackSelfTest, h.idle]
  rw [if_neg h.go]
  have hset : (setLoopFails k 1 s).sys.loopFails[k] = 1 := Vector.getElem_set_self _
  simp only [h.fails, Nat.zero_add, Bool.false_eq_true, ↓reduceIte, Nat.reduceLT]
  refine ⟨_, rfl, hset, ?_, rfl⟩
  refine List.all_eq_false.mpr ⟨k, mem_allFin k, ?_⟩
  have hpass : (setLoopFails k 1 s).sys.loopPass = s.sys.loopPass := rfl
  have hlive : objRetired (setLoopFails k 1 s) 5 k = false := h.live
  rw [hset, hpass, h.fresh, hlive]
  decide

/-! ### A service level entered -/

theorem enterService_sys (v : Service) (s : State) : (enterService v s).sys = { s.sys with service := v } := by
  unfold enterService
  extract_lets s1 s2
  have h2 : s2.sys = s1.sys := by
    dsimp only [s2]
    repeat' split
    all_goals rfl
  exact Eq.trans (touches_ev.same .sys rfl) h2

theorem enterLoader_sys (s : State) : (enterLoader s).sys = { s.sys with service := .loader } := by
  unfold enterLoader
  rw [touches_outletsAvail.same .sys rfl, foldl_same (g := State.sys) (fun t k => touches_loaderOutlet.same .sys rfl), enterService_sys]

/-- The image's check decides between loader service and the level that stands (R132, R542). -/
theorem imageVerified_decides (sig : Bool) (hi : s.sys.imageValid = none) (hc : s.sys.coresHalted = false) (hr : s.sys.inReset = false)
    (hp : s.sys.powerFail = none) : ∃ t, exec (.imageVerified sig) s = .next t ∧ t.sys.imageValid = some (bootImage sig s).2
      ∧ ((bootImage sig s).2 = false → s.sys.service = .coarse → t.sys.service = .loader)
      ∧ ((bootImage sig s).2 = true → t.sys.service = s.sys.service) := by
  have hgo : ¬ (s.sys.imageValid.isSome = true ∨ s.sys.coresHalted = true ∨ s.sys.inReset = true ∨ powerFailed s = true) := by
    simp only [powerFailed, hi, hc, hr, hp, Option.isSome_none, Bool.false_eq_true, or_self, not_false_eq_true]
  change ∃ t, execImageVerified sig s = _ ∧ _
  unfold execImageVerified
  rw [if_neg hgo]
  extract_lets r s1
  have hsys : s1.sys = { s.sys with imageValid := some r.2 } := by
    rw [← show r.1.sys = s.sys from touches_bootImage.same .sys rfl]
    rfl
  have hservice : s1.sys.service = s.sys.service := by rw [hsys]
  by_cases hl : r.2 = false ∧ s1.sys.service = .coarse
  · have ht : (pilotOutputs (enterLoader s1)).sys = { s1.sys with service := .loader } :=
      Eq.trans (touches_pilotOutputs.same .sys rfl) (enterLoader_sys s1)
    rw [if_pos hl]
    refine ⟨_, rfl, ?_, fun _ _ => congrArg SysSt.service ht, fun h => absurd (hl.1.symm.trans h) Bool.false_ne_true⟩
    rw [ht, hsys]
  · rw [if_neg hl]
    exact ⟨_, rfl, by rw [hsys], fun h hs => absurd ⟨h, hservice.trans hs⟩ hl, fun _ => hservice⟩

/-- Settles O24. -/
theorem startTestsAreKept : Obligations.StartTestsAreKept := fun _ =>
  ⟨fun sig hi hc hr hp => imageVerified_decides sig hi hc hr hp,
    fun k x snr h1 h2 h3 h4 h5 h6 =>
      have h : LoopOpen k _ := ⟨h1, h2, h3, h4, h5, h6⟩
      ⟨loopbackSelfTest_start_passed x snr h, loopbackSelfTest_start_failed x snr h⟩,
    fun _ x snr _ hl hle => loopbackSelfTest_passed x snr hl hle⟩

end Sys2Proof.Machine
end

section
/-! PROOF. Bring-up (chapter 04). -/

namespace Sys2Proof.Machine

open Host (Outcome)

variable {s : State}

/-- Garnet is in RUN before anything of a start happens in it, and what follows leaves that. -/
theorem garnetStart_runs (fb : List Bool) (s : State) :
    ∃ u, Touches [.queues, .outbox, .link, .pool, .garnet, .flt, .outs] u (garnetStart fb s) ∧ u.garnet.st = .run ∧ u.sys = s.sys
      ∧ u.params = s.params ∧ u.onyx = s.onyx := by
  unfold garnetStart
  extract_lets f s1 s2 s3 s4
  refine ⟨s1, ?_, rfl, rfl, rfl, rfl⟩
  have h2 : Touches [.queues, .outbox, .link, .pool, .garnet, .flt, .outs] s1 s2 :=
    touches_foldl (.refl _ s1) fun _ _ ht => .then (.then (.then ht touches_modSi rfl) touches_siCompare rfl) touches_modSi rfl
  have h3 : Touches [.queues, .outbox, .link, .pool, .garnet, .flt, .outs] s1 s3 := by
    refine touches_foldl h2 fun u o ht => ?_
    extract_lets c u1 u2
    have hu : Touches [.queues, .outbox, .link, .pool, .garnet, .flt, .outs] s1 u2 := .then (.then ht touches_modSo rfl) touches_acceptFeedback rfl
    exact touches_ite (.then (.then hu touches_modSo rfl) touches_ev rfl) hu
  have h4 : Touches [.queues, .outbox, .link, .pool, .garnet, .flt, .outs] s1 s4 :=
    touches_foldl h3 fun _ _ ht => touches_ite (.then (.then ht touches_modCd rfl) touches_ev rfl) (.then ht touches_modCd rfl)
  exact touches_ite (.then (touches_garnet h4 (by with_reducible rfl) (by with_reducible rfl) rfl) touches_ev rfl) h4

/-- Onyx's access is closed and its vault found before anything of a start is logged. -/
theorem onyxStart_closed (s : State) :
    ∃ u, Touches [.queues, .outbox, .beryl, .link, .onyx, .flt] u (onyxStart s) ∧ (onyxStart s).beryl.vaultLost = false
      ∧ u.sys.onyxUp = true ∧ (u.onyx.access, u.onyx.staged) = (none, none) ∧ u.garnet = s.garnet ∧ u.params = s.params := by
  unfold onyxStart
  extract_lets f lost last legal x x1 s1 wasOpen s2 s3 kind s4 s5 s6 s7 x2 s8 s9 s10
  have h4 : Touches [.queues, .outbox, .link, .onyx, .flt] s3 s4 := touches_ite (.then (.refl _ s3) touches_logEntry rfl) (.refl _ s3)
  have h5 : Touches [.queues, .outbox, .link, .onyx, .flt] s3 s5 := touches_ite (.then (.then h4 touches_logEntry rfl) touches_ev rfl) h4
  have h6 : Touches [.queues, .outbox, .link, .onyx, .flt] s3 s6 :=
    touches_ite (.then h5 touches_logEntry rfl) (touches_ite (.then h5 touches_logEntry rfl) h5)
  have h7 : Touches [.queues, .outbox, .link, .onyx, .flt] s3 s7 := by
    refine touches_foldl h6 fun u y ht => touches_ite ht ?_
    have hm := (ht.then (touches_logEntry (type := 0x0D) (slot := 0xFF) (flags := 0) (data := leBytes 1 y.loop)) rfl).then
      (touches_markBits (p := fun _ => true) (bits := 0x0100)) rfl
    exact touches_ite hm (.then hm touches_ev rfl)
  have h9 : Touches [.queues, .outbox, .link, .onyx, .flt] s8 s9 :=
    touches_foldl (.refl _ s8) fun _ _ ht => touches_ite (.then ht touches_logEntry rfl) ht
  have h10 : Touches [.queues, .outbox, .link, .onyx, .flt] s8 s10 := touches_ite (.then h9 touches_markBits rfl) h9
  have hend := ((h10.then (touches_ev (id := 0x89) (dom := 13) (detail := 0) (arg := kind)) rfl).then touches_startInterval rfl).then
    touches_persistLive rfl
  have h8 : Touches [.queues, .outbox, .beryl, .link, .onyx, .flt] s3 s8 := touches_beryl (.then (.refl _ s3) h7 rfl) rfl
  have hlost : s7.beryl.vaultLost = false := congrArg BerylSt.vaultLost (h7.same .beryl rfl)
  exact ⟨s3, h8.then hend rfl, Eq.trans (congrArg BerylSt.vaultLost (hend.same .beryl rfl)) hlost, rfl, rfl, rfl, rfl⟩

/-! ### Service levels -/

theorem enterService_ready (v : Service) (h : s.link.ready = true) : (enterService v s).link.ready = true := by
  unfold enterService
  extract_lets s1 s2
  have h2 : s2.link.ready = true := by
    dsimp only [s2]
    rw [if_pos (show s1.link.ready = true from h)]
    exact h
  exact (touches_ev.onWire LinkSt.ready rfl fun _ _ => rfl).trans h2

theorem enterLoader_ready (h : s.link.ready = true) : (enterLoader s).link.ready = true := by
  unfold enterLoader
  rw [touches_outletsAvail.onWire LinkSt.ready rfl fun _ _ => rfl]
  exact (foldl_same (g := fun t : State => t.link.ready) (fun t k => touches_loaderOutlet.onWire LinkSt.ready rfl fun _ _ => rfl) _ _).trans
    (enterService_ready .loader h)

/-- The state in which coarse service has begun (R126). -/
def inCoarse (s : State) : State := pilotOutputs (outletsAvail (enterService .coarse { s with aux := { s.aux with held := false } }))

theorem coarseService_eq (hg : s.sys.garnetUp = true) (ho : s.sys.onyxUp = true) (hs : s.sys.service = .bringUp)
    (hc : s.sys.coresHalted = false) (hr : s.sys.inReset = false) (hp : s.sys.powerFail = none) :
    exec .coarseService s = .next (if (inCoarse s).sys.imageValid = some false then enterLoader (inCoarse s) else inCoarse s) := by
  have hgo : s.sys.garnetUp = true ∧ s.sys.onyxUp = true ∧ s.sys.service = .bringUp ∧ ¬ s.sys.coresHalted = true ∧ ¬ s.sys.inReset = true
      ∧ ¬ powerFailed s = true := by
    simp only [powerFailed, hg, ho, hs, hc, hr, hp, Option.isSome_none, Bool.false_eq_true, not_false_eq_true, and_self]
  change execCoarseService s = _
  unfold execCoarseService inCoarse
  rw [if_pos hgo]
  rfl

theorem inCoarse_touches (s : State) :
    Touches [.queues, .outbox, .link, .outlets, .pool, .efi, .garnet, .aux, .flt] (enterService .coarse { s with aux := { s.aux with held := false } })
      (inCoarse s) := by
  unfold inCoarse
  exact touches_outletsAvail.then touches_pilotOutputs rfl

theorem inCoarse_sys (s : State) : (inCoarse s).sys = { s.sys with service := .coarse } := by
  rw [(inCoarse_touches s).same .sys rfl, enterService_sys]

theorem inCoarse_held (s : State) : (inCoarse s).aux.held = false := by
  rw [(inCoarse_touches s).same .held rfl, touches_enterService.same .held rfl]

theorem inCoarse_ready (hl : s.link.ready = true) : (inCoarse s).link.ready = true := by
  rw [(inCoarse_touches s).onWire LinkSt.ready rfl fun _ _ => rfl]
  exact enterService_ready (s := { s with aux := { s.aux with held := false } }) .coarse hl

/-- Coarse service (R126), and loader service behind it with an image already found bad (R132). -/
theorem coarseService_enters (hg : s.sys.garnetUp = true) (ho : s.sys.onyxUp = true) (hs : s.sys.service = .bringUp)
    (hc : s.sys.coresHalted = false) (hr : s.sys.inReset = false) (hp : s.sys.powerFail = none) :
    ∃ t, exec .coarseService s = .next t ∧ t.sys.service = (if s.sys.imageValid = some false then .loader else .coarse)
      ∧ t.aux.held = false ∧ (s.link.ready = true → t.link.ready = true) := by
  refine ⟨_, coarseService_eq hg ho hs hc hr hp, ?_⟩
  have himg : (inCoarse s).sys.imageValid = s.sys.imageValid := by rw [inCoarse_sys]
  rw [himg]
  by_cases hi : s.sys.imageValid = some false
  · rw [if_pos hi, if_pos hi]
    have hl : (enterLoader (inCoarse s)).aux.held = (inCoarse s).aux.held := touches_enterLoader.same .held rfl
    exact ⟨by rw [enterLoader_sys], hl.trans (inCoarse_held s), fun h => enterLoader_ready (inCoarse_ready h)⟩
  · rw [if_neg hi, if_neg hi]
    exact ⟨by rw [inCoarse_sys], inCoarse_held s, inCoarse_ready⟩

/-- Full service (R130, R131). -/
theorem fullService_enters (hs : s.sys.service = .coarse) (hi : s.sys.imageValid = some true) (hl : s.sys.loopDone = true)
    (hp : s.sys.powerFail = none) :
    ∃ t, exec .fullService s = .next t ∧ t.sys.service = .full ∧ t.sys.fullFrame = some s.frame := by
  change ∃ t, execFullService s = _ ∧ _
  unfold execFullService
  rw [if_pos ⟨hs, hi, hl, by simp only [powerFailed, hp, Option.isSome_none, Bool.false_eq_true, not_false_eq_true]⟩]
  extract_lets f s1
  have hstart : Touches [.queues, .outbox, .rnd, .link, .pool, .mtr, .slk, .nfc, .flt] s1 (slkStart (nfcStart (poolStart (poolConfig (mtrFull s1))))) :=
    .then (.then (.then (.then (.then (.refl _ s1) touches_mtrFull rfl) touches_poolConfig rfl) touches_poolStart rfl) touches_nfcStart rfl) touches_slkStart rfl
  generalize slkStart (nfcStart (poolStart (poolConfig (mtrFull s1)))) = u at hstart ⊢
  have hsys : (pilotOutputs (outletsAvail u)).sys = s1.sys :=
    Eq.trans (touches_pilotOutputs.same .sys rfl) (Eq.trans (touches_outletsAvail.same .sys rfl) (hstart.same .sys rfl))
  refine ⟨_, rfl, ?_, ?_⟩
  · rw [hsys, show s1.sys = _ from enterService_sys ..]
  · rw [hsys, show s1.sys = _ from enterService_sys ..]
    rfl

/-- Settles O23. -/
theorem bringUpReachesItsServiceLevels : Obligations.BringUpReachesItsServiceLevels := by
  intro s hr
  refine ⟨fun test fb hg hf => ⟨?_, ?_⟩, fun test ho hf => ⟨?_, ?_⟩, fun hg ho hs hc hp => coarseService_enters hg ho hs hc hr hp,
    fun hs hi hl hp => fullService_enters hs hi hl hp⟩
  · have hgo : ¬ (s.sys.inReset = true ∨ s.sys.garnetUp = true ∨ s.sys.garnetFailed = true) := by
      simp only [hr, hg, hf, Bool.false_eq_true, or_self, not_false_eq_true]
    obtain ⟨u, ht, hrun, hsys, hpar, hon⟩ := garnetStart_runs fb (modSys (fun y => { y with garnetUp := true }) s)
    have htsys : (garnetStart fb (modSys (fun y => { y with garnetUp := true }) s)).sys = { s.sys with garnetUp := true } :=
      Eq.trans (ht.same .sys rfl) hsys
    have hrow : exec (.garnetUp true test fb) s = .next (garnetStart fb (modSys (fun y => { y with garnetUp := true }) s)) := by
      change execGarnetUp true test fb s = _
      unfold execGarnetUp
      rw [if_neg hgo, if_pos rfl]
      rfl
    refine ⟨_, hrow, ?_, Eq.trans (ht.same .island rfl) hrun, ?_, Eq.trans (ht.same .params rfl) hpar, Eq.trans (ht.same .onyx rfl) hon⟩
    · rw [htsys]
    · rw [htsys]
  · have hgo : ¬ (s.sys.inReset = true ∨ s.sys.garnetUp = true ∨ s.sys.garnetFailed = true) := by
      simp only [hr, hg, hf, Bool.false_eq_true, or_self, not_false_eq_true]
    exact if_neg hgo
  · have hgo : ¬ (s.sys.onyxUp = true ∨ s.sys.onyxFailed = true ∨ s.sys.inReset = true) := by
      simp only [hr, ho, hf, Bool.false_eq_true, or_self, not_false_eq_true]
    obtain ⟨u, ht, hlost, hup, hacc, hg, hpar⟩ := onyxStart_closed s
    have hend : ((onyxStart s).onyx.access, (onyxStart s).onyx.staged) = (none, none) := Eq.trans (ht.same .access rfl) hacc
    obtain ⟨ha, hb⟩ := Prod.mk.inj hend
    have hrow : exec (.onyxUp true test) s = .next (onyxStart s) := by
      change execOnyxUp true test s = _
      unfold execOnyxUp
      rw [if_neg hgo, if_pos rfl]
      rfl
    exact ⟨_, hrow, by rw [ht.same .sys rfl, hup], ha, hb, hlost, by rw [ht.same .garnet rfl, hg], by rw [ht.same .params rfl, hpar]⟩
  · have hgo : ¬ (s.sys.onyxUp = true ∨ s.sys.onyxFailed = true ∨ s.sys.inReset = true) := by
      simp only [hr, ho, hf, Bool.false_eq_true, or_self, not_false_eq_true]
    exact if_neg hgo

end Sys2Proof.Machine
end

section
/-! PROOF. The restart of the command cores and the host timeout (chapters 02 and 16). -/

namespace Sys2Proof.Machine

open Host (Outcome)

variable {s : State}

/-- A fault noted changes nothing of the restarts counted. -/
theorem noteFault_restarts (d : Fin 12) (c : Nat) (p n m : Bool) (s : State) : (noteFault d c p n m s).flt.restarts = s.flt.restarts := by
  unfold noteFault
  dsimp only
  split <;> rfl

theorem evp_restarts (id dom detail arg : Nat) (b : List Byte) (s : State) : (evp id dom detail arg b s).flt.restarts = s.flt.restarts := by
  have hpush : (pushEvent id dom detail arg b s).flt = s.flt := touches_pushEvent.same .flt rfl
  unfold evp
  extract_lets s1
  have h1 : s1.flt.restarts = s.flt.restarts := by rw [show s1.flt = s.flt from hpush]
  split
  · exact h1
  · split
    · rw [noteFault_restarts, h1]
    · exact h1

/-- What the restart leaves (R531). -/
structure CoresRestarted (s t : State) : Prop where
  service : t.sys.service = .bringUp
  source  : t.sys.resetSource = 6
  halted  : t.sys.coresHalted = s.sys.coresHalted
  frame   : t.frame = s.frame
  mtr     : t.mtr = s.mtr
  onyx    : t.onyx = s.onyx
  garnet  : t.garnet.st = s.garnet.st
  txn     : t.txn = {}
  ready   : t.link.ready = false
  due     : t.due = []

theorem coresRestarted (s : State) : CoresRestarted s (coresRestart s) := by
  unfold coresRestart
  extract_lets agate restarts s1 s2
  have h1 : Touches [.slk, .nfc, .dsp, .upd, .flt] s s1 :=
    .then (.then (.then (.then (.then (.refl _ s) touches_fltReset rfl) touches_updReset rfl) touches_dspReset rfl) touches_nfcReset rfl) touches_slkReset rfl
  have h2 : Touches [.slk, .nfc, .dsp, .upd, .flt, .aux, .outbox, .vlk, .lanes] s s2 :=
    touches_foldl (.then (.then (.refl _ s) h1 rfl) touches_auxPowerOff rfl) fun _ _ ht => .then ht touches_vlkOff rfl
  have hsys : s2.sys.coresHalted = s.sys.coresHalted := by rw [h2.same .sys rfl]
  clear_value s2
  exact { service := rfl, source := rfl, halted := hsys, frame := h2.same .frame rfl, mtr := h2.same .mtr rfl
          onyx := h2.same .onyx rfl, garnet := h2.same .island rfl, txn := rfl, ready := rfl, due := rfl }

theorem CoresRestarted.logged {t u : State} (h : CoresRestarted s t) (k : Touches [.queues, .outbox, .link, .flt] t u) : CoresRestarted s u :=
  have hsys : u.sys = t.sys := k.same .sys rfl
  { service := by rw [hsys, h.service], source := by rw [hsys, h.source], halted := by rw [hsys, h.halted]
    frame := Eq.trans (k.same .frame rfl) h.frame, mtr := Eq.trans (k.same .mtr rfl) h.mtr, onyx := Eq.trans (k.same .onyx rfl) h.onyx
    garnet := by rw [k.same .garnet rfl, h.garnet], txn := Eq.trans (k.same .txn rfl) h.txn
    ready := (k.onWire LinkSt.ready rfl fun _ _ => rfl).trans h.ready, due := Eq.trans (k.same .due rfl) h.due }

theorem lockstepMismatch_restarts (hr : s.sys.inReset = false) (hc : s.sys.coresHalted = false) :
    ∃ t, exec .lockstepMismatch s = .next t ∧ t.sys.service = .bringUp ∧ t.sys.resetSource = 6 ∧ t.frame = s.frame ∧ t.mtr = s.mtr
      ∧ t.onyx = s.onyx ∧ t.garnet.st = s.garnet.st ∧ t.txn = {} ∧ t.link.ready = false ∧ t.due = []
      ∧ t.sys.coresHalted = decide (pget s 0x7005 0 < t.flt.restarts.length) := by
  have hgo : ¬ (s.sys.inReset = true ∨ s.sys.coresHalted = true) := by simp only [hr, hc, Bool.false_eq_true, or_self, not_false_eq_true]
  change ∃ t, execLockstepMismatch s = _ ∧ _
  unfold execLockstepMismatch
  rw [if_neg hgo]
  extract_lets limit s1 n
  have h1 : CoresRestarted s s1 := coresRestarted s
  clear_value s1
  by_cases hn : limit < n
  · rw [if_pos hn]
    exact ⟨_, rfl, h1.service, h1.source, h1.frame, h1.mtr, h1.onyx, h1.garnet, h1.txn, h1.ready, h1.due, (decide_eq_true hn).symm⟩
  · rw [if_neg hn]
    have h2 : CoresRestarted s (ev 0xF3 12 0 n (ev 0x03 12 0 2 (ev 0x00 12 0 6 s1))) :=
      ((h1.logged touches_ev).logged touches_ev).logged touches_ev
    have hrest : (ev 0xF3 12 0 n (ev 0x03 12 0 2 (ev 0x00 12 0 6 s1))).flt.restarts = s1.flt.restarts := by
      unfold ev
      rw [evp_restarts, evp_restarts, evp_restarts]
    refine ⟨_, rfl, h2.service, h2.source, h2.frame, h2.mtr, h2.onyx, h2.garnet, h2.txn, h2.ready, h2.due, ?_⟩
    rw [h2.halted, hc, hrest]
    exact (decide_eq_false hn).symm

/-- What no step moves stands at the end. -/
theorem foldl_fixed {α β : Type} {f : β → α → β} {t : β} (h : ∀ x, f t x = t) (l : List α) : l.foldl f t = t :=
  foldl_keep (P := fun u => u = t) rfl (fun u x hu => by rw [hu, h]) l

theorem cmdHostLost_told (ht : pget s 0x0014 0 ≠ 0) (hl : s.link.hostLost = false) (hle : s.link.lastAdmit + pget s 0x0014 0 ≤ s.frame)
    (hw : s.link.waiting = []) (hs : s.sys.service ≠ .bringUp) (hstop : ∀ k : Fin 8, pget s 0x1011 k ≠ 2) :
    exec .cmdHostLost s = .next (ev 0x0D 12 0 0 { s with link := { s.link with hostLost := true } }) := by
  have hgo : pget s 0x0014 0 ≠ 0 ∧ ¬ s.link.hostLost = true ∧ s.link.lastAdmit + pget s 0x0014 0 ≤ s.frame
      ∧ s.link.waiting.isEmpty = true ∧ s.sys.service ≠ .bringUp :=
    ⟨ht, by rw [hl]; exact Bool.false_ne_true, hle, by rw [hw]; rfl, hs⟩
  change execCmdHostLost s = _
  unfold execCmdHostLost
  extract_lets t
  rw [if_pos hgo]
  refine congrArg ans (foldl_fixed (fun k => ?_) _)
  have hev : Touches [.queues, .outbox, .link, .flt, .wire] s (ev 0x0D 12 0 0 (modLink (fun l => { l with hostLost := true }) s)) :=
    .then (touches_link_wire (.refl _ s) rfl) touches_ev rfl
  unfold hostLossOutlet
  rw [hev.reads _ _ rfl rfl]
  exact if_neg fun h => hstop k h.1

/-- Settles O27. -/
theorem coresRestartAndHostLoss : Obligations.CoresRestartAndHostLoss :=
  fun _ => ⟨lockstepMismatch_restarts, cmdHostLost_told⟩

end Sys2Proof.Machine
end

section
/-! PROOF. Inputs, timers and transitions of an outlet (chapter 05). -/

namespace Sys2Proof.Machine

open Host (Outcome)

variable {s : State} {k : Fin 8}

/-! ### A transition decided (R164) -/

theorem pendTo_free {p : Pend} (h : s.outlets[k].pend = none) : pendTo k p s = decided k p s := by
  unfold pendTo
  rw [h]
  rfl

theorem pendTo_taken {p q : Pend} (h : s.outlets[k].pend = some q) :
    pendTo k p s = if p.rank < q.rank then decided k p (voidBuilt k s) else s := by
  unfold pendTo
  rw [h]
  rfl

theorem decided_same (p : Pend) (s : State) : (decided k p s).outlets[k] = { s.outlets[k] with pend := some p } := Vector.getElem_set_self _

theorem decided_other {j : Fin 8} (p : Pend) (s : State) (h : j ≠ k) : (decided k p s).outlets[j] = s.outlets[j] :=
  upd_get_ne s.outlets k j (fun o => { o with pend := some p }) h

/-- Settles O31: the second transition finds the first decided, and takes its place only with the lower rank. -/
theorem theLowestRankStands : Obligations.TheLowestRankStands := by
  intro k p q s hfree hne
  have hq : (decided k q s).outlets[k].pend = some q := by rw [decided_same]
  rw [pendTo_free hfree, pendTo_taken hq]
  by_cases hlt : p.rank < q.rank
  · rw [if_pos hlt, if_pos hlt]
    have hvoid : (voidBuilt k (decided k q s)).outlets = (decided k q s).outlets := rfl
    refine ⟨by rw [decided_same], ?_, fun j hj => ?_⟩
    · rw [decided_same]
      change (decided k q s).outlets[k].st = _
      rw [decided_same]
    · rw [decided_other _ _ hj]
      exact decided_other _ _ hj
  · rw [if_neg hlt, if_neg hlt]
    exact ⟨hq, by rw [decided_same], fun j hj => decided_other _ _ hj⟩

/-! ### Pilot and proximity -/

/-- Settles O28. -/
theorem pilotAndProximityInputsAreFiltered : Obligations.PilotAndProximityInputsAreFiltered := by
  intro k s p n withPilot
  refine ⟨fun hn hne hd => ?_, fun hn hd => ?_, fun hd hb hn => ?_, fun hff hfe hn hr => ?_, fun hfe hn => ?_, fun hn => ?_⟩
  · have hd' : ¬ (n ≤ p.diodeRun ∧ p.lowBad ≠ p.diode) := fun h => hd.elim (fun hlt => by omega) h.2
    have hrow : exec (.pilotStateAccepted k) s =
        ans (rdcPilot k p.stamped (s.outlets[k].st == .idle) (modPilot k (fun p => { p with accepted := p.stamped }) s)) := by
      change execPilotStateAccepted k s = _
      unfold execPilotStateAccepted
      dsimp only
      rw [if_neg hd', if_pos ⟨hn, hne⟩]
    have ht : Touches [.efi] (modPilot k (fun p => { p with accepted := p.stamped }) s)
        (rdcPilot k p.stamped (s.outlets[k].st == .idle) (modPilot k (fun p => { p with accepted := p.stamped }) s)) := touches_rdcPilot
    refine ⟨_, hrow, ?_, ht.same .outlets rfl, ht.same .garnet rfl, ht.same .params rfl, ht.same .txn rfl⟩
    rw [ht.same .outlets rfl]
    exact congrArg Outlet.pilot (upd_get_self ..)
  · have hd' : ¬ (n ≤ p.diodeRun ∧ p.lowBad ≠ p.diode) := fun h => hd.elim (fun hlt => by omega) h.2
    have hn' : ¬ (n ≤ p.count ∧ p.stamped ≠ p.accepted) := fun h => absurd h.1 (Nat.not_le.mpr hn)
    change execPilotStateAccepted k s = _
    unfold execPilotStateAccepted
    dsimp only
    rw [if_neg hd', if_neg hn']
    rfl
  · have hd' : n ≤ p.diodeRun ∧ p.lowBad ≠ p.diode := ⟨hd, hb⟩
    have hn' : ¬ (n ≤ p.count ∧ p.stamped ≠ p.accepted) := fun h => absurd h.1 (Nat.not_le.mpr hn)
    change execPilotStateAccepted k s = _
    unfold execPilotStateAccepted
    dsimp only
    rw [if_pos hd', if_neg hn']
    rfl
  · change execProximityAccepted k s = _
    unfold execProximityAccepted
    dsimp only
    rw [if_pos ⟨hff, hn⟩, if_neg hfe, if_neg hr]
    rfl
  · have hff : p.proxCand ≠ 0xFF := by rw [hfe]; decide
    change execProximityAccepted k s = _
    unfold execProximityAccepted
    dsimp only
    rw [if_pos ⟨hff, hn⟩, if_pos hfe]
    rfl
  · change execProximityAccepted k s = _
    unfold execProximityAccepted
    dsimp only
    rw [if_neg fun h => absurd h.2 (Nat.not_le.mpr hn)]
    rfl

/-! ### A stop decided -/

/-- A stop of a DC or MW session waits for its current to fall (R179): it is decided, and nothing opens yet. -/
theorem stopSession_waits {r : Nat} (hd : isDc s k = true) (hfree : s.outlets[k].pend = none) (hst : s.outlets[k].st = .cableCheck
    ∨ s.outlets[k].st = .precharge) : stopSession k r 0 s = decided k { dest := .stopping, reason := some r, frame := s.frame } s := by
  have hwaits : ¬ (True ∧ ¬ stopWaits (decided k { dest := .stopping, reason := some r, frame := s.frame } s) k r = true) :=
    fun h => h.2 (by rw [stopWaits, show isDc (decided _ _ s) k = isDc s k from rfl, hd, Bool.true_or])
  unfold stopSession stopTarget
  rcases hst with h | h
  all_goals
    simp only [h, pendTo_free hfree]
    exact if_neg hwaits

/-- Settles O29. -/
theorem sessionTimersDecideTheNextState : Obligations.SessionTimersDecideTheNextState := by
  intro k s hfree o freed
  refine ⟨fun hst ht hh hs => ?_, fun hin => ?_, fun hst ht hh => ?_, fun hst ht => ?_, fun hst hd ht => ?_, fun hst hrun => ?_,
    fun hst hd ht => ?_, fun hst ht hz => ?_⟩
  · change execAuthTimeout k s = _
    have hgo : o.st = .authorising ∧ expired o.timers.auth s.frame = true ∧ ¬ o.claim.held = true ∧ o.claim.start.isNone = true :=
      ⟨hst, ht, by rw [hh]; exact Bool.false_ne_true, by rw [hs]; rfl⟩
    exact (if_pos hgo).trans (congrArg ans (pendTo_free hfree))
  · change execAuthTimeout k s = _
    have hgo : ¬ (o.st = .authorising ∧ expired o.timers.auth s.frame = true ∧ ¬ o.claim.held = true ∧ o.claim.start.isNone = true) :=
      fun h => hin.elim h.2.2.1 fun hs => hs (Option.isNone_iff_eq_none.mp h.2.2.2)
    exact if_neg hgo
  · change execDeferralTimeout k s = _
    have hgo : o.st = .deferred ∧ expired o.timers.defer s.frame = true ∧ ¬ o.claim.held = true :=
      ⟨hst, ht, by rw [hh]; exact Bool.false_ne_true⟩
    exact (if_pos hgo).trans (congrArg ans (pendTo_free hfree))
  · change execBasicFallback k s = _
    have hgo : (o.st = .linking ∨ o.st = .authorising) ∧ expired o.timers.fallback s.frame = true ∧ o.pend.isNone = true :=
      ⟨hst, ht, Option.isNone_iff_eq_none.mpr hfree⟩
    exact (if_pos hgo).trans (congrArg ans (pendTo_free hfree))
  · change execCableCheckTimeout k s = _
    have hgo : o.st = .cableCheck ∧ expired o.timers.cable s.frame = true ∧ o.pend.isNone = true :=
      ⟨hst, ht, Option.isNone_iff_eq_none.mpr hfree⟩
    exact (if_pos hgo).trans (congrArg (fun t => ans (evNext 0x49 k 0 0xFFFFFFFF t)) (stopSession_waits hd hfree (.inl hst)))
  · have hgo : o.st = .precharge ∧ pget s 0x1034 k ≤ o.preRun := ⟨hst, hrun⟩
    have hun : unstop k 0x08 0x4A s = s := by
      unfold unstop
      rw [hfree]
    have hpre : (modOut k (fun o => { o with preFlag := true }) s).outlets[k] = { o with preFlag := true } := upd_get_self ..
    refine ⟨goTo k .ready (modOut k (fun o => { o with preFlag := true }) s), ?_, ?_, ?_⟩
    · change execPrechargeComplete k s = _
      unfold execPrechargeComplete
      rw [hun]
      exact if_pos hgo
    · unfold goTo
      rw [pendTo_free (by rw [hpre]; exact hfree)]
      unfold decided
      rw [hpre]
      exact Vector.set_set ..
    · unfold goTo
      rw [pendTo_free (by rw [hpre]; exact hfree)]
      rfl
  · change execPrechargeTimeout k s = _
    have hgo : o.st = .precharge ∧ expired o.timers.pre s.frame = true ∧ o.pend.isNone = true :=
      ⟨hst, ht, Option.isNone_iff_eq_none.mpr hfree⟩
    exact (if_pos hgo).trans
      (congrArg (fun t => ans (evNext 0x4A k 0 (o.meas.v.toNat / 100) t)) (stopSession_waits hd hfree (.inr hst)))
  · change execFaultHoldEnd k s = _
    have hgo : o.st = .fault ∧ expired o.timers.faultHold s.frame = true := ⟨hst, ht⟩
    refine (if_pos hgo).trans ?_
    have hout : (if o.out = .highZ then PilotOut.highZ else .static12) = .static12 := if_neg hz
    refine congrArg (fun x : PilotOut => ans { s with outlets := s.outlets.set k { freed with out := x } }) hout

/-! ### An opening built (R107, R185) -/

theorem mem_preempt {x : Txn} {n : Nat} {keys : List (Nat × Nat)} (hi : x.isHost = false) (hx : x ∈ s.txn.txns) :
    x ∈ (preempt n keys s).txn.txns := by
  unfold preempt
  refine List.foldlRecOn (motive := fun t : State => x ∈ t.txn.txns) _ _ hx fun t ht y hy => ?_
  have hhost : y.isHost = true := by
    have h := (List.mem_filter.mp hy).2
    simp only [Bool.and_eq_true] at h
    exact h.1.1
  have hne : x.num ≠ y.num := fun he => by
    unfold Txn.isHost at hi hhost
    rw [he, hhost] at hi
    exact Bool.noConfusion hi
  rw [touches_ev.same .txn rfl]
  have hdrop : x ∈ (dropTxn y .refused t).txn.txns := List.mem_filter.mpr ⟨ht, bne_iff_ne.mpr hne⟩
  unfold leaveBook
  split <;> exact hdrop

theorem freeInternal_internal {n : Nat} (h : freeInternal s = some n) : 240 ≤ n := by
  obtain ⟨i, -, hi⟩ := List.mem_map.mp (List.mem_of_find?_eq_some h)
  omega

/-- The transaction that is built stands in the table, committed for its frame. -/
theorem mem_buildTxn {p : Purpose} {acts : List Action} {f n : Nat} (h : freeInternal s = some n) :
    ({ num := n, purpose := p, state := .pending, actions := acts.map fun a => { act := a }, lastNamed := s.frame, commitFrame := some f } : Txn)
      ∈ (buildTxn p acts f s).txn.txns := by
  unfold buildTxn
  rw [h]
  refine mem_preempt ?_ (List.mem_append_right _ (List.mem_singleton.mpr rfl))
  exact decide_eq_false (Nat.not_lt.mpr (freeInternal_internal h))

theorem opening_openOutlet {r : Nat} (h : CanOpen k s) : Opening k s (openOutlet k r s) := by
  obtain ⟨hlive, hnone, hfree⟩ := h
  have hgo : ¬ (((soLive s k).map fun (o : Fin 32) => Action.contactor o false).isEmpty = true
      ∨ (s.txn.txns.any fun (t : Txn) => purposeOpens k t.purpose) = true) := by
    rintro (he | ha)
    · exact hlive (List.map_eq_nil_iff.mp (List.isEmpty_iff.mp he))
    · obtain ⟨x, hx, hp⟩ := List.any_eq_true.mp ha
      rw [hnone x hx] at hp
      exact Bool.noConfusion hp
  obtain ⟨n, hn⟩ := Option.ne_none_iff_exists'.mp hfree
  unfold openOutlet
  dsimp only
  rw [if_neg hgo]
  refine ⟨_, mem_buildTxn (s := modOut k _ s) hn, ?_, rfl, rfl, ?_⟩
  · exact beq_self_eq_true k
  · rw [List.map_map]
    exact List.map_id' _

end Sys2Proof.Machine
end

section
/-! PROOF. The openings of a stop and the weld check (chapter 05). -/

namespace Sys2Proof.Machine

open Host (Outcome)

variable {s : State} {k : Fin 8}

theorem not_isDc_of_isAc (h : isAc s k = true) : isDc s k = false := by
  unfold isAc at h
  unfold isDc
  rcases Bool.or_eq_true_iff.mp h with h | h
  all_goals
    rw [eq_of_beq h]
    rfl

theorem openOutlet_outlets (r : Nat) (s : State) :
    (openOutlet k r s).outlets = s.outlets ∨ (openOutlet k r s).outlets = upd s.outlets k fun o => { o with stopBuilt := true } := by
  unfold openOutlet
  extract_lets acts
  by_cases h : acts.isEmpty = true ∨ (s.txn.txns.any fun (t : Txn) => purposeOpens k t.purpose) = true
  · rw [if_pos h]
    exact .inl rfl
  · rw [if_neg h]
    exact .inr (touches_buildTxn.same .outlets rfl)

theorem openOutlet_pend (r : Nat) (s : State) : (openOutlet k r s).outlets[k].pend = s.outlets[k].pend := by
  rcases openOutlet_outlets r s (k := k) with h | h <;> rw [h]
  exact upd_keeps Outlet.pend s.outlets k k

theorem openOutlet_welded (r : Nat) (s : State) : (openOutlet k r s).outlets[k].welded = s.outlets[k].welded := by
  rcases openOutlet_outlets r s (k := k) with h | h <;> rw [h]
  exact upd_keeps Outlet.welded s.outlets k k

/-- A stop of an AC session for a fault opens at once (R180). -/
theorem stopSession_opens {r : Nat} (ha : isAc s k = true) (hr : r ≠ 0x01) (hfree : s.outlets[k].pend = none) (hst : s.outlets[k].st = .charging) :
    stopSession k r 0 s = openOutlet k r (decided k { dest := .stopping, reason := some r, frame := s.frame } s) := by
  have hopens : True ∧ ¬ stopWaits (decided k { dest := .stopping, reason := some r, frame := s.frame } s) k r = true := by
    refine ⟨trivial, ?_⟩
    rw [stopWaits, show isDc (decided _ _ s) k = isDc s k from rfl, not_isDc_of_isAc ha, beq_false_of_ne hr]
    exact Bool.false_ne_true
  unfold stopSession stopTarget
  simp only [hst, pendTo_free hfree]
  exact if_pos hopens

/-- A weld found in an outlet that had none decides FAULT and is told in the next frame (R188). -/
theorem weldFound_faults {n : Nat} (hst : s.outlets[k].st = .weldCheck) (hfree : s.outlets[k].pend = none) (hw : s.outlets[k].welded = false) :
    (weldFound k n s).outlets[k].pend = some { dest := .fault, reason := some 0x0A, frame := s.frame }
      ∧ (weldFound k n s).outlets[k].welded = true ∧ (weldFound k n s).garnet.evNext = s.garnet.evNext ++ [(0x41, k.val, 0, n)] := by
  unfold weldFound
  rw [hw]
  simp only [Bool.false_eq_true, ↓reduceIte]
  have ho : (evNext 0x41 k 0 n (modOut k (fun o => { o with welded := true }) s)).outlets[k] = { s.outlets[k] with welded := true } :=
    upd_get_self ..
  have hev : (evNext 0x41 k 0 n (modOut k (fun o => { o with welded := true }) s)).garnet.evNext = s.garnet.evNext ++ [(0x41, k.val, 0, n)] := rfl
  have hf : (evNext 0x41 k 0 n (modOut k (fun o => { o with welded := true }) s)).frame = s.frame := rfl
  generalize evNext 0x41 k 0 n (modOut k (fun o => { o with welded := true }) s) = u at ho hev hf ⊢
  have hst' : u.outlets[k].st = .weldCheck := by rw [ho]; exact hst
  have hne : u.outlets[k].st ≠ .fault := by rw [hst']; exact Sess.noConfusion
  rw [if_neg hne, faultSession, if_pos (by rw [hst']; rfl), pendTo_free (by rw [ho]; exact hfree), hf]
  have hroll (t : State) : (forceRollback k t).outlets = t.outlets := rfl
  refine ⟨?_, ?_, ?_⟩
  · rw [openOutlet_pend, hroll, decided_same]
  · rw [openOutlet_welded, hroll, decided_same, ho]
  · rw [touches_openOutlet.same .garnet rfl]
    exact hev

theorem stops_open (k : Fin 8) (s : State) (hc : CanOpen k s) :
    let o := s.outlets[k]
    (o.st = .stopping → isDc s k = true → o.meas.ok = true → lowCurrent s k = true →
      ∃ t, exec (.stopOpening k) s = .next t ∧ Opening k s t ∧ t.garnet.outs = s.garnet.outs ∧ t.params = s.params)
    ∧ (o.st = .stopping → isDc s k = true → expired o.timers.dcStop s.frame = true → o.stopBuilt = false → lowCurrent s k = false →
      ∃ t, exec (.outStopLoad k) s = .next t ∧ Opening k s t ∧ t.garnet.evNext = s.garnet.evNext ++ [(0x4B, k.val, 0, o.meas.i.natAbs)])
    ∧ (o.st = .stopping → expired o.timers.acStop s.frame = true →
      ∃ t, exec (.acStopTimeout k) s = .next t ∧ Opening k s t ∧ t.garnet.outs = s.garnet.outs ∧ t.params = s.params)
    ∧ (o.st = .charging → isAc s k = true → pget s 0x101A k ≤ o.ovcRun → o.pend = none →
      ∃ t, exec (.outOvercurrent k) s = .next t ∧ Opening k s t
        ∧ t.outlets[k].pend = some { dest := .stopping, reason := some 0x0B, frame := s.frame }
        ∧ t.garnet.evNext = s.garnet.evNext ++ [(0x46, k.val, 0, o.meas.phase.foldl max 0 / 100)]) := by
  intro o
  have hopen (r : Nat) : Opening k s (openOutlet k r s) ∧ (openOutlet k r s).garnet.outs = s.garnet.outs ∧ (openOutlet k r s).params = s.params :=
    ⟨opening_openOutlet hc, touches_openOutlet.same .outs rfl, touches_openOutlet.same .params rfl⟩
  refine ⟨fun hst hd hok hl => ?_, fun hst hd ht hb hl => ?_, fun hst ht => ?_, fun hst ha hn hfree => ?_⟩
  · have hgo : o.st = .stopping ∧ isDc s k = true ∧ o.meas.ok = true ∧ lowCurrent s k = true := ⟨hst, hd, hok, hl⟩
    have hrow : exec (.stopOpening k) s = .next (openOutlet k o.reason s) := by
      change execStopOpening k s = _
      exact if_pos hgo
    exact ⟨_, hrow, hopen _⟩
  · have hgo : o.st = .stopping ∧ isDc s k = true ∧ expired o.timers.dcStop s.frame = true ∧ ¬ o.stopBuilt = true
        ∧ ¬ (o.meas.ok = true ∧ lowCurrent s k = true) ∧ ¬ (soLive s k).isEmpty = true :=
      ⟨hst, hd, ht, by rw [hb]; exact Bool.false_ne_true, fun h => absurd (hl.symm.trans h.2) Bool.false_ne_true,
        fun h => hc.1 (List.isEmpty_iff.mp h)⟩
    have hrow : exec (.outStopLoad k) s = .next (evNext 0x4B k 0 o.meas.i.natAbs (openOutlet k o.reason s)) := by
      change execOutStopLoad k s = _
      exact if_pos hgo
    refine ⟨_, hrow, (hopen o.reason).1, ?_⟩
    change (openOutlet k o.reason s).garnet.evNext ++ _ = _
    rw [touches_openOutlet.same .garnet rfl]
  · have hgo : o.st = .stopping ∧ expired o.timers.acStop s.frame = true := ⟨hst, ht⟩
    have hrow : exec (.acStopTimeout k) s = .next (openOutlet k o.reason s) := by
      change execAcStopTimeout k s = _
      exact if_pos hgo
    exact ⟨_, hrow, hopen _⟩
  · have hgo : o.st = .charging ∧ isAc s k = true ∧ pget s 0x101A k ≤ o.ovcRun ∧ (o.pend.bind (·.reason)) ≠ some 0x0B :=
      ⟨hst, ha, hn, by rw [hfree]; exact nofun⟩
    have hrow : exec (.outOvercurrent k) s = .next (evNext 0x46 k 0 (o.meas.phase.foldl max 0 / 100)
        (openOutlet k 0x0B (decided k { dest := .stopping, reason := some 0x0B, frame := s.frame } s))) := by
      rw [← stopSession_opens ha (by decide) hfree hst]
      change execOutOvercurrent k s = _
      exact if_pos hgo
    have hc' : CanOpen k (decided k { dest := .stopping, reason := some 0x0B, frame := s.frame } s) := hc
    refine ⟨_, hrow, opening_openOutlet hc', ?_, ?_⟩
    · exact (openOutlet_pend ..).trans (by rw [decided_same])
    · change (openOutlet k 0x0B (decided k _ s)).garnet.evNext ++ _ = _
      rw [touches_openOutlet.same .garnet rfl]
      rfl

theorem welds_found (k : Fin 8) (s : State) (hst : s.outlets[k].st = .weldCheck) :
    let o := s.outlets[k]
    let tested : Outlet := { o with weldStep := 1, timers := { o.timers with
      discharge := none, weld := some (frameAfter s.frame (1 + pget s 0x1039 k)) } }
    let done_ (p : Pend) : State := { s with outlets := s.outlets.set k { o with weldStep := 2, pend := some p } }
    (isDc s k = true → o.weldStep = 0 → o.meas.ok = true → o.meas.v < 60000 →
      exec (.weldCheckDischarged k) s = .next { s with outlets := s.outlets.set k tested })
    ∧ (isDc s k = true → o.weldStep = 0 → expired o.timers.discharge s.frame = true → 60000 ≤ o.meas.v →
      exec (.outDischarge k) s = .next (ev 0x4C k 0 (o.meas.v.toNat / 100) { s with outlets := s.outlets.set k tested }))
    ∧ (expired o.timers.weld s.frame = true → o.pend = none →
      (weldFinding s k = 0 → exec (.weldCheckEvaluation k) s = .next (done_ (
        if o.reason = 0x04 then { dest := .idle, frame := s.frame }
        else if o.pause then { dest := .paused, limitPause := o.limitPause, frame := s.frame }
        else { dest := .ended, frame := s.frame })))
      ∧ (weldFinding s k ≠ 0 → o.welded = false → ∃ t, exec (.weldCheckEvaluation k) s = .next t
        ∧ t.outlets[k].pend = some { dest := .fault, reason := some 0x0A, frame := s.frame } ∧ t.outlets[k].welded = true
        ∧ t.garnet.evNext = s.garnet.evNext ++ [(0x41, k.val, 0, weldFinding s k)])) := by
  intro o tested done_
  refine ⟨fun hd hw hok hv => ?_, fun hd hw ht hv => ?_, fun ht hfree => ?_⟩
  · have hgo : o.st = .weldCheck ∧ isDc s k = true ∧ o.weldStep = 0 ∧ o.meas.ok = true ∧ o.meas.v < 60000 := ⟨hst, hd, hw, hok, hv⟩
    change execWeldCheckDischarged k s = _
    exact if_pos hgo
  · have hgo : o.st = .weldCheck ∧ isDc s k = true ∧ o.weldStep = 0 ∧ expired o.timers.discharge s.frame = true
        ∧ ¬ (o.meas.ok = true ∧ o.meas.v < 60000) := ⟨hst, hd, hw, ht, fun h => absurd h.2 (Int.not_lt.mpr hv)⟩
    change execOutDischarge k s = _
    exact if_pos hgo
  · have hgo : o.st = .weldCheck ∧ expired o.timers.weld s.frame = true ∧ o.pend.isNone = true :=
      ⟨hst, ht, Option.isNone_iff_eq_none.mpr hfree⟩
    have hstep : (modOut k (fun o => { o with weldStep := 2 }) s).outlets[k] = { o with weldStep := 2 } := upd_get_self ..
    have hfree' : (modOut k (fun o => { o with weldStep := 2 }) s).outlets[k].pend = none := by rw [hstep]; exact hfree
    have hfind : weldFinding (modOut k (fun o => { o with weldStep := 2 }) s) k = weldFinding s k := by
      unfold weldFinding
      rw [hstep]
      rfl
    have hdone (p : Pend) : decided k p (modOut k (fun o => { o with weldStep := 2 }) s) = done_ p := by
      unfold decided
      rw [hstep]
      exact congrArg (fun v => { s with outlets := v }) (Vector.set_set ..)
    have hweld : (modOut k (fun o => { o with weldStep := 2 }) s).outlets[k].welded = o.welded := by rw [hstep]
    have hto (p : Pend) : pendTo k p (modOut k (fun o => { o with weldStep := 2 }) s) = done_ p := (pendTo_free hfree').trans (hdone p)
    have hrow (t : State) (ht : execWeldCheckEvaluation k s = ans t) : exec (.weldCheckEvaluation k) s = .next t := ht
    refine ⟨fun hz => hrow _ ((if_pos hgo).trans ?_), fun hz hw => ?_⟩
    · rw [hfind, hz]
      have hidle : goTo k .idle (modOut k (fun o => { o with weldStep := 2 }) s) = done_ { dest := .idle, frame := s.frame } := hto _
      have hended : goTo k .ended (modOut k (fun o => { o with weldStep := 2 }) s) = done_ { dest := .ended, frame := s.frame } := hto _
      rw [hidle, hended, hto]
      by_cases hr : o.reason = 0x04
      · rw [if_pos hr, if_pos hr]
        rfl
      · rw [if_neg hr, if_neg hr]
        by_cases hp : o.pause = true
        · rw [if_pos hp, if_pos hp]
          rfl
        · rw [if_neg hp, if_neg hp]
          rfl
    · obtain ⟨n, hn⟩ := Nat.exists_eq_succ_of_ne_zero hz
      have hf := weldFound_faults (n := weldFinding s k) (s := modOut k (fun o => { o with weldStep := 2 }) s) (k := k)
        (by rw [hstep]; exact hst) hfree' (hweld.trans hw)
      refine ⟨_, hrow (weldFound k (weldFinding s k) (modOut k (fun o => { o with weldStep := 2 }) s)) ((if_pos hgo).trans ?_), hf⟩
      rw [hfind, hn]
      rfl

/-- Settles O30. -/
theorem stopsOpenTheContactorsAndWeldsAreFound : Obligations.StopsOpenTheContactorsAndWeldsAreFound := ⟨stops_open, welds_found⟩

end Sys2Proof.Machine
end

section
/-! PROOF. The outlet commands (chapter 05). -/

namespace Sys2Proof.Machine

open Host (Outcome)

variable {s : State} {k : Fin 8}

/-! ### What positions in the deferral queue leave alone -/

theorem modClaim_keeps {β : Type} {g : Outlet → β} {f : Claim → Claim} (hg : ∀ (o : Outlet), g { o with claim := f o.claim } = g o)
    (j : Fin 8) (s : State) : g (modClaim j f s).outlets[k] = g s.outlets[k] := upd_keeps g s.outlets j k hg

theorem deferPositions_keeps {β : Type} {g : Outlet → β} (hg : ∀ (o : Outlet) (n : Nat), g { o with claim := { o.claim with pos := n } } = g o)
    (s : State) : g (deferPositions s).outlets[k] = g s.outlets[k] := by
  unfold deferPositions
  refine foldl_same (g := fun t : State => g t.outlets[k]) (fun t j => ?_) _ _
  extract_lets p t1
  have h1 : g t1.outlets[k] = g t.outlets[k] := modClaim_keeps (fun o => hg o _) j t
  split
  · rfl
  · split
    · split <;> exact h1
    · exact h1

theorem unstop_free {r e : Nat} (h : s.outlets[k].pend = none) : unstop k r e s = s := by
  unfold unstop
  rw [h]

/-! ### An admission (R191) -/

/-- What the claim of an admitted start is. -/
structure Admitted (k : Fin 8) (r : StartReq) (s t : State) : Prop where
  held  : t.outlets[k].claim.held = true
  imp   : t.outlets[k].claim.imp = claimImp s k r.imp r.cur
  exp   : t.outlets[k].claim.exp = claimExp s k r.exp
  since : t.outlets[k].claim.since = s.frame
  start : t.outlets[k].claim.start = none
  st    : t.outlets[k].st = s.outlets[k].st
  req   : t.outlets[k].req = some r

theorem admitted_admitStart {r : StartReq} (h : s.outlets[k].req = some r) :
    Admitted k r s (admitStart k s) := by
  unfold admitStart
  split
  · rename_i hn
    exact absurd (hn.symm.trans h) nofun
  rename_i r' hr
  obtain rfl : r = r' := Option.some.inj (h.symm.trans hr)
  extract_lets f i e s1 s2
  have h1 : s1.outlets[k] = { s.outlets[k] with claim := { s.outlets[k].claim with
      held := true, imp := i, exp := e, since := f, fresh := f, start := none, cut := none, cutE := none, wait := none } } := upd_get_self ..
  have h2 : ∃ b, s2.outlets[k] = { s1.outlets[k] with auxOn := b } := by
    dsimp only [s2]
    split
    · exact ⟨true, upd_get_self ..⟩
    · exact ⟨_, rfl⟩
  obtain ⟨b, h2⟩ := h2
  have hb : (buildTxn (.params k) (startParams k r) (frameAfter f 1) s2).outlets = s2.outlets := touches_buildTxn.same .outlets rfl
  generalize buildTxn (.params k) (startParams k r) (frameAfter f 1) s2 = u at hb ⊢
  have hu : u.outlets[k] = { s1.outlets[k] with auxOn := b } := by rw [hb, h2]
  rw [h1] at hu
  clear_value s1 s2
  have hkept {β : Type} (g : Outlet → β) (hg : ∀ (o : Outlet) (n : Nat), g { o with claim := { o.claim with pos := n } } = g o) :
      g (deferPositions u).outlets[k] = g _ := (deferPositions_keeps hg u).trans (congrArg g hu)
  constructor
  · exact hkept (fun o => o.claim.held) fun _ _ => rfl
  · exact hkept (fun o => o.claim.imp) fun _ _ => rfl
  · exact hkept (fun o => o.claim.exp) fun _ _ => rfl
  · exact hkept (fun o => o.claim.since) fun _ _ => rfl
  · exact hkept (fun o => o.claim.start) fun _ _ => rfl
  · exact hkept (fun o => o.st) fun _ _ => rfl
  · exact (hkept (fun o => o.req) fun _ _ => rfl).trans hr

theorem deferredAdmission_admits {rest : List (Fin 8)} {r : StartReq} (hq : deferQueue s = k :: rest) (hr : s.outlets[k].req = some r)
    (hst : s.outlets[k].st = .deferred) (hp : s.outlets[k].pend = none) (hh : startsHeld s = false) :
    exec .deferredAdmission s = if admits s k r = true then .next (admitStart k s) else .next s := by
  change execDeferredAdmission s = _
  unfold execDeferredAdmission
  rw [hq]
  dsimp only
  rw [hr]
  dsimp only
  rw [unstop_free hp]
  simp only [hst, hp, hh, Option.isNone_none, Bool.false_eq_true, not_false_eq_true, true_and]
  rfl

/-! ### A start taken in (R168, R191) -/

/-- The state in which the request of a start stands, nothing else of it done. -/
def requested (k : Fin 8) (r : StartReq) (s : State) : State := modOut k (fun o => { o with req := some r, forced := none }) s

theorem requested_outlet {r : StartReq} : (requested k r s).outlets[k] = { s.outlets[k] with req := some r, forced := none } := upd_get_self ..

theorem claimImp_requested {r : StartReq} {i c : Nat} : claimImp (requested k r s) k i c = claimImp s k i c := by
  unfold claimImp effImport limitTerm voltTerm proxMeasured
  rw [requested_outlet]
  rfl

theorem takeStart_vehicle {r : StartReq} {ok : Bool} (hr : 1 ≤ r.profile) (hp : s.outlets[k].pend = none) :
    takeStart k r ok s = if ok then admitStart k (requested k r s)
      else deferPositions (modClaim k (fun c => { c with start := some s.frame }) (requested k r s)) := by
  unfold takeStart
  rw [unstop_free hp]
  have hn : ¬ (r.profile = 0 ∧ ((requested k r s).outlets[k].st = .linking ∨ (requested k r s).outlets[k].st = .authorising)) :=
    fun h => absurd h.1 (by omega)
  unfold requested at hn ⊢
  dsimp only
  rw [if_neg hn]

theorem outStartRules_takes {profile imp exp cur : Nat} {session : List Byte} (hp : profile ≤ 3) (hf : fencedDomain s k = false)
    (hsv : s.sys.service = .full) (hst : sessSeen s k = .connected ∨ sessSeen s k = .linking ∨ sessSeen s k = .authorising)
    (hse : s.outlets[k].st = sessSeen s k) (hr : s.outlets[k].req = none) (hh : startsHeld s = false)
    (hpf : profileFits s k profile = true) (hpo : portFailed s k = false) (hl : limitsOk s k profile imp exp cur = true) :
    outStartRules k profile imp exp cur session s =
      let r : StartReq := { profile := profile, imp := imp, exp := exp, cur := cur, session := fit 16 session }
      .accept (if admits s k r then 0x0100 else 0x0141) none (takeStart k r (admits s k r)) := by
  have h0 : ¬ 3 < profile := by omega
  have h1 : ¬ ¬ outService s k profile := by
    unfold outService
    simp [hsv]
  have h2 : ¬ (¬ (sessSeen s k = .connected ∨ sessSeen s k = .linking ∨ sessSeen s k = .authorising) ∨ s.outlets[k].st ≠ sessSeen s k
      ∨ s.outlets[k].req.isSome ∨ startsHeld s) := by
    rintro (h | h | h | h)
    · exact h hst
    · exact h hse
    · exact absurd (hr ▸ h) nofun
    · exact absurd (hh ▸ h) nofun
  unfold outStartRules
  rw [dif_pos k.isLt]
  dsimp only [Fin.eta]
  simp only [if_neg h0, hf, if_neg h1, if_neg h2, hpf, hpo, hl, Bool.false_eq_true, and_false, not_true_eq_false, if_false]

theorem startAdmitted {r : StartReq} (hr : 1 ≤ r.profile) (hp : s.outlets[k].pend = none) :
    Admitted k r (requested k r s) (takeStart k r true s) ∧ (takeStart k r true s).due = s.due := by
  rw [takeStart_vehicle hr hp, if_pos rfl]
  exact ⟨admitted_admitStart (by rw [requested_outlet]), touches_admitStart.same .due rfl⟩

theorem startDeferred {r : StartReq} (hr : 1 ≤ r.profile) (hp : s.outlets[k].pend = none) :
    let t := takeStart k r false s
    t.outlets[k].req = some r ∧ t.outlets[k].st = s.outlets[k].st ∧ t.outlets[k].claim.held = s.outlets[k].claim.held
      ∧ t.outlets[k].claim.start = some s.frame ∧ t.due = s.due := by
  dsimp only
  rw [takeStart_vehicle hr hp, if_neg Bool.false_ne_true]
  have h1 : (modClaim k (fun c => { c with start := some s.frame }) (requested k r s)).outlets[k]
      = { (requested k r s).outlets[k] with claim := { (requested k r s).outlets[k].claim with start := some s.frame } } := upd_get_self ..
  rw [requested_outlet] at h1
  have hd : (modClaim k (fun c => { c with start := some s.frame }) (requested k r s)).due = s.due := rfl
  generalize modClaim k (fun c => { c with start := some s.frame }) (requested k r s) = u at h1 hd ⊢
  have hkept {β : Type} (g : Outlet → β) (hg : ∀ (o : Outlet) (n : Nat), g { o with claim := { o.claim with pos := n } } = g o) :
      g (deferPositions u).outlets[k] = g _ := (deferPositions_keeps hg u).trans (congrArg g h1)
  have hdefer : (deferPositions u).due = u.due := touches_deferPositions.same .due rfl
  exact ⟨hkept (fun o => o.req) fun _ _ => rfl, hkept (fun o => o.st) fun _ _ => rfl, hkept (fun o => o.claim.held) fun _ _ => rfl,
    hkept (fun o => o.claim.start) fun _ _ => rfl, hdefer.trans hd⟩

/-- Settles O32. -/
theorem startsAreAdmittedOrDeferred : Obligations.StartsAreAdmittedOrDeferred := by
  refine ⟨fun h k profile imp exp cur session s => ?_, fun k rest r s hq hr hst hp hh => ⟨fun ha => ?_, fun ha => ?_⟩⟩
  · intro u st r hlen hp1 hp3 hf hsv hst hse hreq hpend hh hpf hpo hl hpass
    obtain ⟨l, hu⟩ : ∃ l, u = { s with link := l } := ⟨_, entered_eq h s⟩
    have hout : u.outlets = s.outlets := by rw [hu]
    have hrules : outStartRules k profile imp exp cur session u
        = .accept (if admits u k r then 0x0100 else 0x0141) none (takeStart k r (admits u k r)) :=
      outStartRules_takes hp3 (by rw [hu]; exact hf) (by rw [hu]; exact hsv) hst (by rw [hout]; exact hse) (by rw [hu]; exact hreq)
        (by rw [hu]; exact hh) (by rw [hu]; exact hpf) (by rw [hu]; exact hpo) hl
    have hrow (ok : Bool) (ha : admits u k r = ok) : exec (.outStart h k profile imp exp cur session) s = .next
        (takeStart k r ok (accepted (.outStart h k profile imp exp cur session) h 0x1000 (if ok then 0x0100 else 0x0141) none s)) := by
      change execOutStart h k profile imp exp cur session s = _
      unfold execOutStart
      rw [beq_iff_eq.mpr hlen, hostCmd_passes hpass, hrules, ha]
      rfl
    cases ha : admits u k r with
    | true =>
      refine ⟨_, hrow true ha, ?_⟩
      have hacc : accepted (.outStart h k profile imp exp cur session) h 0x1000 (if true = true then 0x0100 else 0x0141) none s
          = { u with due := s.due ++ [waitingCmd (.outStart h k profile imp exp cur session) h 0x1000 0x0100 none s] } := rfl
      rw [hacc]
      obtain ⟨had, hdue⟩ := startAdmitted (k := k) (r := r)
        (s := { u with due := s.due ++ [waitingCmd (.outStart h k profile imp exp cur session) h 0x1000 0x0100 none s] }) hp1
        (by rw [hu]; exact hpend)
      refine ⟨had.req, had.st.trans ?_, fun _ => ⟨had.held, had.imp.trans claimImp_requested, had.exp, had.since.trans ?_, hdue⟩, nofun⟩
      · rw [requested_outlet, hu]; exact hse
      · rw [hu]; rfl
    | false =>
      refine ⟨_, hrow false ha, ?_⟩
      have hacc : accepted (.outStart h k profile imp exp cur session) h 0x1000 (if false = true then 0x0100 else 0x0141) none s
          = { u with due := s.due ++ [waitingCmd (.outStart h k profile imp exp cur session) h 0x1000 0x0141 none s] } := rfl
      rw [hacc]
      obtain ⟨hq, hs, hheld, hstart, hdue⟩ := startDeferred (k := k) (r := r)
        (s := { u with due := s.due ++ [waitingCmd (.outStart h k profile imp exp cur session) h 0x1000 0x0141 none s] }) hp1
        (by rw [hu]; exact hpend)
      refine ⟨hq, hs.trans ?_, nofun, fun _ => ⟨hheld.trans ?_, hstart.trans ?_, hdue⟩⟩
      · rw [hu]; exact hse
      · rw [hu]
      · rw [hu]
  · have had := admitted_admitStart (k := k) hr
    exact ⟨_, (deferredAdmission_admits hq hr hst hp hh).trans (if_pos ha), had.held, had.start, had.imp, had.st.trans hst⟩
  · exact (deferredAdmission_admits hq hr hst hp hh).trans (if_neg (by rw [ha]; exact Bool.false_ne_true))

/-! ### The other outlet commands (R170 to R174) -/

theorem stopSession_host {n : Nat} (hlo : 5 ≤ sessCode s.outlets[k].st) (hhi : sessCode s.outlets[k].st ≤ 12) (hfree : s.outlets[k].pend = none) :
    ∃ x, stopTarget s k = some x
      ∧ (stopSession k 0x01 n s).outlets[k].pend = some { dest := x, reason := some 0x01, hostReason := n, frame := s.frame }
      ∧ (stopSession k 0x01 n s).due = s.due := by
  have hgoes : s.outlets[k].st ≠ .stopping ∧ s.outlets[k].st ≠ .weldCheck ∧ ∃ x, stopTarget s k = some x := by
    unfold stopTarget
    cases hst : s.outlets[k].st <;> rw [hst] at hlo hhi <;> simp [sessCode] at hlo hhi ⊢
  obtain ⟨h1, h2, x, hx⟩ := hgoes
  refine ⟨x, hx, ?_⟩
  have hd : (decided k { dest := x, reason := some 0x01, hostReason := n, frame := s.frame } s).due = s.due := rfl
  have hgo : stopSession k 0x01 n s = if x = .stopping ∧ ¬ stopWaits (decided k { dest := x, reason := some 0x01, hostReason := n, frame := s.frame } s) k 0x01
      then openOutlet k 0x01 (decided k { dest := x, reason := some 0x01, hostReason := n, frame := s.frame } s)
      else decided k { dest := x, reason := some 0x01, hostReason := n, frame := s.frame } s := by
    unfold stopSession
    rw [hx]
    simp only [pendTo_free hfree]
  rw [hgo]
  have hp : (decided k { dest := x, reason := some 0x01, hostReason := n, frame := s.frame } s).outlets[k].pend
      = some { dest := x, reason := some 0x01, hostReason := n, frame := s.frame } := congrArg Outlet.pend (decided_same ..)
  generalize decided k { dest := x, reason := some 0x01, hostReason := n, frame := s.frame } s = u at hp hd ⊢
  split
  · exact ⟨(openOutlet_pend ..).trans hp, Eq.trans (touches_openOutlet.same .due rfl) hd⟩
  · exact ⟨hp, hd⟩

/-- A command that stops nothing but a forced pilot keeps the rest of its outlet. -/
theorem unforced_keeps {β : Type} (g : Outlet → β) (hg : ∀ (o : Outlet), g { o with forced := none } = g o) (s : State) :
    g (modOut k (fun o => { o with forced := none }) s).outlets[k] = g s.outlets[k] := upd_keeps g s.outlets k k hg

theorem takeLimit_builds {i e c : Nat} (hfree : freeInternal s ≠ none) :
    (takeLimit k i e c s).outlets[k].st = s.outlets[k].st
      ∧ ∃ x ∈ (takeLimit k i e c s).txn.txns, x.purpose = .params k ∧ x.commitFrame = some (frameAfter s.frame 1)
          ∧ x.actions.map (fun a => a.act) = [.param 0x1040 k i, .param 0x1041 k e, .param 0x1042 k c] := by
  unfold takeLimit
  extract_lets f imp exp cl s1 s2
  have hst1 : s1.outlets[k].st = s.outlets[k].st := upd_keeps Outlet.st s.outlets k k fun _ => rfl
  have h2 : s2.outlets[k].st = s1.outlets[k].st ∧ s2.txn = s1.txn := by
    dsimp only [s2]
    split
    · exact ⟨deferPositions_keeps (g := Outlet.st) (fun _ _ => rfl) s1, touches_deferPositions.same .txn rfl⟩
    · split <;> exact ⟨modClaim_keeps (g := Outlet.st) (fun _ => rfl) k s1, rfl⟩
  obtain ⟨hst2, htxn⟩ := h2
  have hfree2 : freeInternal s2 = freeInternal s := by
    have htxn' : s2.txn = s.txn := htxn
    unfold freeInternal findTxn
    rw [htxn']
  obtain ⟨n, hn⟩ := Option.ne_none_iff_exists'.mp hfree
  have hb : (buildTxn (.params k) [.param 0x1040 k i, .param 0x1041 k e, .param 0x1042 k c] (frameAfter f 1) s2).outlets = s2.outlets :=
    touches_buildTxn.same .outlets rfl
  refine ⟨?_, _, mem_buildTxn (hfree2.trans hn), rfl, rfl, rfl⟩
  rw [hb, hst2, hst1]

theorem outStopRules_stops {n : Nat} (hf : fencedDomain s k = false) (hsv : s.sys.service = .full) (hlo : 5 ≤ sessCode s.outlets[k].st)
    (hhi : sessCode s.outlets[k].st ≤ 12) :
    outStopRules k n s = .accept 0 none (fun s => modOut k (fun o => { o with forced := none }) (stopSession k 0x01 (n % 256) s)) := by
  have hn : ¬ (sessCode s.outlets[k].st = 13 ∨ sessCode s.outlets[k].st = 14) := by omega
  unfold outStopRules
  rw [dif_pos k.isLt, hf, if_neg Bool.false_ne_true, if_neg fun h => h.1 hsv]
  exact (if_neg hn).trans (if_pos ⟨hlo, hhi⟩)

theorem outStopRules_stopping {n : Nat} (hf : fencedDomain s k = false) (hsv : s.sys.service = .full)
    (hst : s.outlets[k].st = .stopping ∨ s.outlets[k].st = .weldCheck) : outStopRules k n s = .accept 0x0001 none id := by
  have hc : sessCode s.outlets[k].st = 13 ∨ sessCode s.outlets[k].st = 14 := hst.imp (fun h => by rw [h]; rfl) fun h => by rw [h]; rfl
  unfold outStopRules
  rw [dif_pos k.isLt, hf, if_neg Bool.false_ne_true, if_neg fun h => h.1 hsv]
  exact if_pos hc

theorem outLimitRules_limits {i e c : Nat} (hf : fencedDomain s k = false) (hsv : s.sys.service = .full) (hlo : 5 ≤ sessCode (sessSeen s k))
    (hhi : sessCode (sessSeen s k) ≤ 12)
    (hl : limitsOk s k (match s.outlets[k].req with | some r => r.profile | none => pget s 0x1043 k) i e c = true) :
    outLimitRules k i e c s = .accept (if s.outlets[k].claim.start.isSome || raiseWaits s k i e c then 0x0141 else 0) none (takeLimit k i e c) := by
  have hc : ¬ (sessCode (sessSeen s k) < 5 ∨ 12 < sessCode (sessSeen s k)) := by omega
  unfold outLimitRules
  rw [dif_pos k.isLt, hf, if_neg Bool.false_ne_true, if_neg fun h => h.1 hsv]
  exact (if_neg hc).trans (if_neg fun h => h hl)

theorem outDenyRules_denies (hf : fencedDomain s k = false) (hsv : s.sys.service = .full)
    (hst : s.outlets[k].st = .linking ∨ s.outlets[k].st = .authorising) :
    outDenyRules k s = .accept 0 none (fun s => modOut k (fun o => { o with forced := none })
      (pendTo k { dest := .ended, reason := some 0x02, frame := s.frame }
        { s with vlk := { s.vlk with ports := upd s.vlk.ports k fun p => { p with denied := true } } })) := by
  unfold outDenyRules
  rw [dif_pos k.isLt, hf, if_neg Bool.false_ne_true, if_neg fun h => h.1 hsv]
  exact if_pos hst

theorem outPilotRules_forces {mode duty : Nat} (hf : fencedDomain s k = false) (hm : mode ≤ 3)
    (hd : mode = 2 → duty % 5 = 0 ∧ 300 ≤ duty ∧ duty ≤ 9700) (hst : s.outlets[k].st = .idle ∨ s.outlets[k].st = .connected)
    (hr : s.outlets[k].req = none) : outPilotRules k mode duty s = done := by
  have hn : ¬ (3 < mode ∨ (mode = 2 ∧ (duty % 5 ≠ 0 ∨ duty < 300 ∨ 9700 < duty))) := by omega
  unfold outPilotRules
  rw [dif_pos k.isLt]
  refine (if_neg hn).trans ?_
  rw [hf, if_neg Bool.false_ne_true]
  exact if_pos ⟨.inr hst, Option.isNone_iff_eq_none.mpr hr⟩

/-- Settles O33. -/
theorem outletCommandsActOnTheSession : Obligations.OutletCommandsActOnTheSession := by
  intro h k s hf hsv
  obtain ⟨l, hu⟩ : ∃ l, entered h s = { s with link := l } := ⟨_, entered_eq h s⟩
  have hacc (c : Instr) (op d : Nat) (res : Option (List Byte)) : accepted c h op d res s = { entered h s with due := s.due ++ [waitingCmd c h op d res s] } := rfl
  have hout : (entered h s).outlets = s.outlets := by rw [hu]
  have hf' : fencedDomain (entered h s) k = false := by rw [hu]; exact hf
  have hsv' : (entered h s).sys.service = .full := by rw [hu]; exact hsv
  refine ⟨fun reason hlo hhi hfree hp => ?_, fun reason hst hp => ?_, fun imp exp cur hlo hhi hl hp hfree => ?_, fun reason hst hfree hp => ?_,
    fun hp => ?_, fun u => ?_, fun mode duty hm hd hst hr hp => ?_, fun duty u => ?_⟩
  · have hrow : exec (.outStop h k reason) s = .next (modOut k (fun o => { o with forced := none })
        (stopSession k 0x01 (reason % 256) (accepted (.outStop h k reason) h 0x1001 0 none s))) := by
      change execOutStop h k reason s = _
      unfold execOutStop
      rw [hostCmd_passes hp, outStopRules_stops hf' hsv' (by rw [hout]; exact hlo) (by rw [hout]; exact hhi)]
      rfl
    rw [hacc, hu] at hrow
    obtain ⟨x, hx, hpend, hdue⟩ := stopSession_host (k := k) (n := reason % 256)
      (s := { s with link := l, due := s.due ++ [waitingCmd (.outStop h k reason) h 0x1001 0 none s] }) hlo hhi hfree
    exact ⟨_, x, hrow, hx, (unforced_keeps Outlet.pend (fun _ => rfl) _).trans hpend, hdue⟩
  · change execOutStop h k reason s = _
    unfold execOutStop
    rw [hostCmd_accepts hp rfl rfl (outStopRules_stopping hf' hsv' (by rw [hout]; exact hst))]
    rfl
  · have hrules := outLimitRules_limits (k := k) (i := imp) (e := exp) (c := cur) hf' hsv' hlo hhi (by rw [hu]; exact hl)
    generalize (if (entered h s).outlets[k].claim.start.isSome || raiseWaits (entered h s) k imp exp cur then 0x0141 else 0) = d at hrules
    have hrow : exec (.outLimit h k imp exp cur) s = .next (takeLimit k imp exp cur (accepted (.outLimit h k imp exp cur) h 0x1002 d none s)) := by
      change execOutLimit h k imp exp cur s = _
      unfold execOutLimit
      rw [hostCmd_passes hp, hrules]
      rfl
    rw [hacc, hu] at hrow
    exact ⟨_, hrow, takeLimit_builds (k := k) (s := { s with link := l, due := _ }) hfree⟩
  · have hrow : exec (.outDeny h k reason) s = .next (modOut k (fun o => { o with forced := none })
        (pendTo k { dest := .ended, reason := some 0x02, frame := (accepted (.outDeny h k reason) h 0x1003 0 none s).frame }
          { accepted (.outDeny h k reason) h 0x1003 0 none s with vlk := { (accepted (.outDeny h k reason) h 0x1003 0 none s).vlk with
            ports := upd (accepted (.outDeny h k reason) h 0x1003 0 none s).vlk.ports k fun p => { p with denied := true } } })) := by
      change execOutDeny h k reason s = _
      unfold execOutDeny
      rw [hostCmd_passes hp, outDenyRules_denies hf' hsv' (by rw [hout]; exact hst)]
      rfl
    rw [hacc, hu] at hrow
    refine ⟨_, hrow, (unforced_keeps Outlet.pend (fun _ => rfl) _).trans ?_, (unforced_keeps Outlet.st (fun _ => rfl) _).trans ?_⟩
    · rw [pendTo_free (by exact hfree), decided_same]
    · rw [pendTo_free (by exact hfree), decided_same]
  · change execOutStatus h k s = _
    unfold execOutStatus
    rw [hostCmd_accepts hp rfl rfl ((if_pos k.isLt).trans (if_neg fun h => h.1 hsv'))]
    rfl
  · change (outStatusResult k u).take 4 = _
    unfold outStatusResult
    rw [dif_pos k.isLt]
    rfl
  · change execOutPilotX h k mode duty s = _
    unfold execOutPilotX
    rw [hostCmd_accepts hp rfl rfl (outPilotRules_forces hf' hm hd (by rw [hout]; exact hst) (by rw [hout]; exact hr))]
    rfl
  · rw [atEdge_outPilotX]
    unfold applyOutPilot
    rw [dif_pos k.isLt]
    rfl

end Sys2Proof.Machine
end
section
/-! PROOF. The shares of a setpoint (R216). -/

namespace Sys2Proof.Machine

/-- One share for each capacity, none above it. -/
def Below (l caps : List Nat) : Prop := l.length = caps.length ∧ ∀ x ∈ l.zip caps, x.1 ≤ x.2

/-- Shares of a total over capacities: one for each, none above its capacity, in all no more than the total. -/
def SharesOf (total : Nat) (caps l : List Nat) : Prop := Below l caps ∧ l.sum ≤ total

theorem below_nil : Below [] [] := ⟨rfl, nofun⟩

theorem below_cons {x c : Nat} {l caps : List Nat} : Below (x :: l) (c :: caps) ↔ x ≤ c ∧ Below l caps := by
  unfold Below
  rw [List.zip_cons_cons, List.length_cons, List.length_cons, Nat.add_right_cancel_iff, List.forall_mem_cons]
  exact and_left_comm

theorem below_map {f : Nat → Nat} {caps : List Nat} (hf : ∀ c ∈ caps, f c ≤ c) : Below (caps.map f) caps := by
  induction caps with
  | nil => exact below_nil
  | cons c cs ih => exact below_cons.mpr ⟨hf c List.mem_cons_self, ih fun d hd => hf d (List.mem_cons_of_mem c hd)⟩

theorem sharesOf_map {f : Nat → Nat} {total : Nat} {caps : List Nat} (hf : ∀ c, f c ≤ c) (hs : (caps.map f).sum ≤ total) :
    SharesOf total caps (caps.map f) := ⟨below_map fun c _ => hf c, hs⟩

theorem sum_map_zero (caps : List Nat) : (caps.map fun _ => 0).sum = 0 := by
  induction caps with
  | nil => rfl
  | cons c cs ih => rw [List.map_cons, List.sum_cons, ih]

theorem sharesOf_none (total : Nat) (caps : List Nat) : SharesOf total caps (caps.map fun _ => 0) :=
  sharesOf_map Nat.zero_le (Nat.le_trans (Nat.le_of_eq (sum_map_zero caps)) (Nat.zero_le total))

theorem sum_div_le (m d : Nat) (caps : List Nat) : (caps.map fun c => m * c / d).sum ≤ m * caps.sum / d := by
  induction caps with
  | nil => simp
  | cons c cs ih =>
    rw [List.map_cons, List.sum_cons, List.sum_cons, Nat.mul_add]
    exact Nat.le_trans (Nat.add_le_add_left ih _) Nat.div_add_div_le_add_div

theorem sharesOf_shareByCap (total : Nat) (caps : List Nat) : SharesOf total caps (shareByCap total caps) := by
  unfold shareByCap
  rw [← List.sum_eq_foldl]
  dsimp only
  split
  · exact sharesOf_none total caps
  · rename_i hpos
    refine sharesOf_map (fun c => Nat.div_le_of_le_mul (Nat.mul_le_mul_right c (Nat.min_le_right ..))) ?_
    calc _ ≤ min total caps.sum * caps.sum / caps.sum := sum_div_le ..
      _ = min total caps.sum := Nat.mul_div_cancel _ (Nat.pos_of_ne_zero hpos)
      _ ≤ total := Nat.min_le_left ..

theorem sum_each (e : Nat) (caps : List Nat) :
    (caps.map fun c => if 0 < c then e else 0).sum = (caps.filter fun c => decide (0 < c)).length * e := by
  induction caps with
  | nil => simp
  | cons c cs ih =>
    by_cases hc : 0 < c
    · simp [hc, ih, Nat.add_mul, Nat.add_comm]
    · simp [hc, ih]

/-- The capacities within an equal share, in sum: the empty ones count for nothing. -/
theorem sum_within (e : Nat) (caps : List Nat) :
    (caps.map fun c => if c ≤ e then c else 0).sum
      = ((caps.filter fun c => decide (0 < c)).filter fun c => decide (c ≤ e)).sum := by
  induction caps with
  | nil => simp
  | cons c cs ih =>
    by_cases hc : 0 < c
    · by_cases he : c ≤ e
      · simp [hc, he, ih]
      · simp [hc, he, ih]
    · obtain rfl : c = 0 := by omega
      simp [ih]

theorem sum_within_le (e : Nat) (l : List Nat) : (l.filter fun c => decide (c ≤ e)).sum ≤ l.length * e := by
  induction l with
  | nil => exact Nat.zero_le _
  | cons c cs ih =>
    rw [List.length_cons, Nat.succ_mul, Nat.add_comm]
    by_cases hc : c ≤ e
    · rw [List.filter_cons_of_pos (p := fun c => decide (c ≤ e)) (decide_eq_true hc), List.sum_cons]
      exact Nat.add_le_add hc ih
    · rw [List.filter_cons_of_neg (p := fun c => decide (c ≤ e)) (by rw [decide_eq_true_eq]; exact hc)]
      exact Nat.le_add_left_of_le ih

/-- A round of equal shares: who is within it takes its capacity, the others what the rest of the rounds give. -/
theorem sharesOf_round {e rest : Nat} {caps l : List Nat} (h : SharesOf rest (caps.map fun c => if c ≤ e then 0 else c) l) :
    SharesOf ((caps.map fun c => if c ≤ e then c else 0).sum + rest) caps
      ((caps.zip l).map fun p => if p.1 ≤ e then p.1 else p.2) := by
  obtain ⟨hle, hsum⟩ := h
  have key : Below ((caps.zip l).map fun p => if p.1 ≤ e then p.1 else p.2) caps
      ∧ ((caps.zip l).map fun p => if p.1 ≤ e then p.1 else p.2).sum ≤ (caps.map fun c => if c ≤ e then c else 0).sum + l.sum := by
    clear hsum
    induction caps generalizing l with
    | nil => exact ⟨below_nil, Nat.zero_le _⟩
    | cons c cs ih =>
      cases l with
      | nil => exact nomatch hle.1
      | cons x xs =>
        rw [List.map_cons, below_cons] at hle
        obtain ⟨hx, hxs⟩ := hle
        obtain ⟨h1, h2⟩ := ih hxs
        by_cases hc : c ≤ e
        · simp only [List.zip_cons_cons, List.map_cons, if_pos hc, below_cons, List.sum_cons] at hx ⊢
          exact ⟨⟨(Nat.le_refl _), h1⟩, by omega⟩
        · simp only [List.zip_cons_cons, List.map_cons, if_neg hc, below_cons, List.sum_cons] at hx ⊢
          exact ⟨⟨hx, h1⟩, by omega⟩
  exact ⟨key.1, Nat.le_trans key.2 (Nat.add_le_add_left hsum _)⟩

theorem sharesOf_shareEqual (fuel total : Nat) (caps : List Nat) : SharesOf total caps (shareEqual fuel total caps) := by
  induction fuel generalizing total caps with
  | zero => exact sharesOf_none total caps
  | succ fuel ih =>
    unfold shareEqual
    extract_lets opened each low
    split
    · exact sharesOf_none total caps
    have hfit : opened.length * each ≤ total := Nat.mul_div_le total opened.length
    split
    · rename_i hlow
      refine ⟨below_map fun c hc => ?_, Nat.le_trans (Nat.le_of_eq (sum_each each caps)) hfit⟩
      by_cases hp : 0 < c
      · rw [if_pos hp]
        have hin : c ∈ opened := List.mem_filter.mpr ⟨hc, decide_eq_true hp⟩
        have hout := List.filter_eq_nil_iff.mp (List.isEmpty_iff.mp hlow) c hin
        exact Nat.le_of_lt (Nat.not_le.mp fun h => hout (decide_eq_true h))
      · rw [if_neg hp]
        exact Nat.zero_le c
    · have hlow : low.foldl (· + ·) 0 = (caps.map fun c => if c ≤ each then c else 0).sum :=
        List.sum_eq_foldl.symm.trans (sum_within each caps).symm
      have hle : low.foldl (· + ·) 0 ≤ total := Nat.le_trans (Nat.le_of_eq List.sum_eq_foldl.symm) (Nat.le_trans (sum_within_le each opened) hfit)
      have h := sharesOf_round (e := each) (ih (total - low.foldl (· + ·) 0) (caps.map fun c => if c ≤ each then 0 else c))
      rw [← hlow, Nat.add_sub_cancel' hle] at h
      exact h

/-- Settles O35. -/
theorem sharesStayWithinCapacities : Obligations.SharesStayWithinCapacities := by
  intro fuel total caps l hl
  have h : SharesOf total caps l := by
    rcases List.mem_cons.mp hl with rfl | hl
    · exact sharesOf_shareByCap total caps
    · exact List.mem_singleton.mp hl ▸ sharesOf_shareEqual fuel total caps
  obtain ⟨⟨hlength, hbelow⟩, hsum⟩ := h
  exact ⟨hlength, hsum, hbelow⟩

end Sys2Proof.Machine
end
section
/-! PROOF. Booking into a register (R323). -/

namespace Sys2Proof.Machine

/-- Settles O45. -/
theorem bookingLosesNoEnergy : Obligations.BookingLosesNoEnergy := by
  intro x r hx hr _
  have hfloor : ((r.rem + x).floor.toNat : Rat) = ((r.rem + x).floor : Rat) := by
    have h : (0 : Int) ≤ (r.rem + x).floor := Rat.le_floor_iff.mpr (Rat.add_nonneg hr hx)
    exact (Rat.intCast_natCast _).symm.trans (congrArg (Int.cast : Int → Rat) (Int.toNat_of_nonneg h))
  have hnext : r.rem + x < 1 + ((r.rem + x).floor : Rat) := by
    rw [Rat.add_comm 1, ← Rat.intCast_one, ← Rat.intCast_add]
    exact Rat.lt_floor_add_one (r.rem + x)
  unfold regAdd
  dsimp only
  rw [hfloor]
  refine ⟨?_, (Rat.le_iff_sub_nonneg _ _).mp (Rat.floor_le _), Rat.sub_lt_iff.mpr hnext, Nat.le_add_right ..⟩
  rw [Rat.natCast_add, hfloor, Rat.add_assoc, Rat.add_comm (Int.cast _), Rat.sub_add_cancel, Rat.add_assoc]

end Sys2Proof.Machine
end
section
/-! PROOF. The rows of the metering engine (chapter 08). -/

namespace Sys2Proof.Machine

open Host (Outcome)

variable {s : State}

/-! ### Inputs (R268) -/

/-- The cause an input keeps: a cause of rank 1 or 2 that stands already, else the new one. -/
theorem modInputFault_input (n : Fin 48) {c : Nat} (h0 : 1 ≤ c) (h3 : c ≤ 3) (s : State) :
    (modInputFault n c s).mtr.inputs = upd s.mtr.inputs n fun i => { i with
      faulted := some (if s.mtr.inputs[n].faulted = some 1 then 1 else if s.mtr.inputs[n].faulted = some 2 then 2 else c)
      goodRun := 0, until_ := s.frame + 3 } := by
  unfold modInputFault
  rw [if_neg (by omega)]
  extract_lets f x first cause new s1 s2
  have hcause : cause = if s.mtr.inputs[n].faulted = some 1 then 1 else if s.mtr.inputs[n].faulted = some 2 then 2 else c := by
    dsimp only [cause, x]
    split
    · rename_i h; rw [h, if_pos rfl]
    · rename_i h; rw [h, if_neg (by decide), if_pos rfl]
    · rename_i h1 h2; rw [if_neg h1, if_neg h2]
  have h2 : s2.mtr.inputs = s1.mtr.inputs := foldl_same (g := fun t : State => t.mtr.inputs) (fun t y => squashSlot_inputs ..) _ _
  rw [← hcause]
  refine Eq.trans ?_ h2
  clear_value s2
  repeat' split
  all_goals rfl

theorem mtrModFault_flags (n : Fin 48) {c : Nat} (h0 : 1 ≤ c) (h3 : c ≤ 3) : ∃ t, exec (.mtrModFault n c) s = .next t
      ∧ t.mtr.inputs[n].faulted = some (if s.mtr.inputs[n].faulted = some 1 then 1 else if s.mtr.inputs[n].faulted = some 2 then 2 else c)
      ∧ t.mtr.inputs[n].goodRun = 0 ∧ (∀ j : Fin 48, j ≠ n → t.mtr.inputs[j] = s.mtr.inputs[j]) ∧ t.params = s.params := by
  refine ⟨modInputFault n c s, rfl, ?_, ?_, fun j hj => ?_, touches_modInputFault.same .params rfl⟩
  · rw [modInputFault_input n h0 h3 s, upd_self]
  · rw [modInputFault_input n h0 h3 s, upd_self]
  · rw [modInputFault_input n h0 h3 s, upd_other hj]

theorem mtrModOk_clears {n : Fin 48} (hf : s.mtr.inputs[n].faulted ≠ none) (hg : 80 ≤ s.mtr.inputs[n].goodRun) :
    ∃ t, exec (.mtrModOk n) s = .next t ∧ t.mtr.inputs[n].faulted = none ∧ t.mtr.slots = s.mtr.slots
      ∧ ∀ j : Fin 48, j ≠ n → t.mtr.inputs[j] = s.mtr.inputs[j] := by
  have hgo : s.mtr.inputs[n].faulted.isSome = true ∧ 80 ≤ s.mtr.inputs[n].goodRun := ⟨Option.isSome_iff_ne_none.mpr hf, hg⟩
  have hclear (t : State) (ht : t.mtr = { s.mtr with inputs := upd s.mtr.inputs n fun i => { i with faulted := none } }) :
      t.mtr.inputs[n].faulted = none ∧ t.mtr.slots = s.mtr.slots ∧ ∀ j : Fin 48, j ≠ n → t.mtr.inputs[j] = s.mtr.inputs[j] := by
    rw [ht]
    exact ⟨congrArg MtrInput.faulted (upd_self ..), rfl, fun j hj => upd_other hj⟩
  have hrow : exec (.mtrModOk n) s = _ := if_pos hgo
  split at hrow
  · exact ⟨_, hrow, hclear _ rfl⟩
  · exact ⟨_, hrow, hclear _ rfl⟩

theorem mtrModOk_waits {n : Fin 48} (hg : s.mtr.inputs[n].goodRun < 80) : exec (.mtrModOk n) s = .next s :=
  if_neg fun h => absurd h.2 (Nat.not_le.mpr hg)

/-! ### Boundaries of a slot (R280, R284) -/

theorem modSlot_self (m : Fin 9) (f : MeterSlot → MeterSlot) (s : State) : (modSlot m f s).mtr.slots[m] = f s.mtr.slots[m] := upd_self ..

/-- What a boundary does to its slot: the pending mode and band come into force, and no crossing is noted. -/
structure Taken (n : Nat) (x y : MeterSlot) : Prop where
  mode   : y.mode = (pendAt x n).1
  band   : y.band = (pendAt x n).2
  cand   : y.cand = x.cand
  lastZc : y.lastZc = x.lastZc
  zcLost : y.zcLost = x.zcLost

theorem takeBoundary_slot (m : Fin 9) (n : Nat) (s : State) : Taken n s.mtr.slots[m] (takeBoundary m n s).mtr.slots[m] := by
  have hset (t : State) (f : MeterSlot → MeterSlot) (ht : t.mtr = { s.mtr with slots := upd s.mtr.slots m f })
      (hf : Taken n s.mtr.slots[m] (f s.mtr.slots[m])) : Taken n s.mtr.slots[m] t.mtr.slots[m] := by
    rw [ht]
    exact (upd_self s.mtr.slots m f).symm ▸ hf
  unfold takeBoundary
  dsimp only
  split
  all_goals
    split
    · exact hset _ _ rfl ⟨rfl, rfl, rfl, rfl, rfl⟩
    · exact hset _ _ rfl ⟨rfl, rfl, rfl, rfl, rfl⟩

/-- What a boundary is to a measurement of a slot: its first one starts the window, its last one ends it (R296). -/
def countBoundary (n : Nat) (c : Option CalMeas) : Option CalMeas := c.map fun (c : CalMeas) =>
  if ¬ c.running then c
  else match c.start with
    | none => { c with start := some n }
    | some _ => if c.endAt.isSome then c
        else if c.cycles + 1 = c.count then { c with cycles := c.cycles + 1, endAt := some n } else { c with cycles := c.cycles + 1 }

/-- What a slot's measurement takes of a boundary leaves the rest of the slot. -/
theorem modSlot_meas (m : Fin 9) (g : Option CalMeas → Option CalMeas) {n : Nat} {x : MeterSlot} (h : Taken n x s.mtr.slots[m]) :
    Taken n x (modSlot m (fun x => { x with meas := g x.meas }) s).mtr.slots[m] := by
  rw [modSlot_self]
  obtain ⟨h1, h2, h3, h4, h5⟩ := h
  exact ⟨h1, h2, h3, h4, h5⟩

theorem zeroCrossing_takes {m : Fin 9} {n : Nat} {r : PipeRec} {rest : List PipeRec} (hc : s.mtr.slots[m].cand = some n)
    (hh : s.mtr.slots[m].hist = r :: rest) (hsv : slotServed s m = true) (hn : n + 7 = s.frame) (hr : r.frame = s.frame)
    (hv : (pget s 0x3020 m : Rat) ≤ sampleOf s m 0 r) :
    ∃ t, exec (.zeroCrossing m) s = .next t ∧ t.mtr.slots[m].cand = none
          ∧ t.mtr.slots[m].lastZc = some n ∧ t.mtr.slots[m].zcLost = false ∧ (t.mtr.slots[m].mode, t.mtr.slots[m].band) = pendAt s.mtr.slots[m] n
          ∧ t.params = s.params := by
  have hgo : slotServed s m = true ∧ n + 7 = s.frame ∧ r.frame = s.frame ∧ (pget s 0x3020 m : Rat) ≤ sampleOf s m 0 r := ⟨hsv, hn, hr, hv⟩
  change ∃ t, execZeroCrossing m s = .next t ∧ _
  unfold execZeroCrossing
  extract_lets x cycles s1
  rw [show x.cand = some n from hc, show x.hist = r :: rest from hh]
  dsimp -zeta only
  rw [if_pos hgo]
  extract_lets z ph freq out s2 s3 s4
  have h1 : s1.mtr = s.mtr ∧ s1.params = s.params := by
    dsimp only [s1]
    split <;> exact ⟨rfl, rfl⟩
  have h2 : s2.mtr = s1.mtr ∧ s2.params = s1.params := by
    dsimp only [s2]
    split <;> exact ⟨rfl, rfl⟩
  have h3 : s3.mtr.slots[m] = _ := modSlot_self m _ s2
  rw [h2.1, h1.1] at h3
  have h4 : Taken n s3.mtr.slots[m] s4.mtr.slots[m] := takeBoundary_slot m n s3
  have hp3 : s3.params = s2.params := rfl
  have hp : s4.params = s3.params := touches_takeBoundary.same .params rfl
  clear_value s1 s2 s3 s4
  obtain ⟨hmode, hband, hcand, hlast, hlost⟩ := modSlot_meas m (countBoundary n) h4
  rw [h3] at hmode hband hcand hlast hlost
  exact ⟨_, rfl, hcand, hlast, hlost, Prod.ext hmode hband, hp.trans (hp3.trans (h2.2.trans h1.2))⟩

theorem mtrZcLost_loses {m : Fin 9} (ha : slotAc s m = true) (hsv : slotServed s m = true) (hl : s.mtr.slots[m].zcLost = false)
    (ht : s.mtr.slots[m].lastZc.getD 0 + zcTimeout s m ≤ s.frame) (hc : s.mtr.slots[m].cand = none) :
    exec (.mtrZcLost m) s =
      let lost : MeterSlot := { s.mtr.slots[m] with zcLost := true, freq := none, zcPhases := [], harmAt := none }
      .next (evNext 0x73 (slotDomain m) 0 m { s with mtr := { s.mtr with slots := s.mtr.slots.set m lost } }) := by
  change execMtrZcLost m s = _
  unfold execMtrZcLost
  extract_lets x e coming
  have hcoming : coming = false := by
    dsimp only [coming, x]
    rw [hc]
  have hgo : slotAc s m = true ∧ slotServed s m = true ∧ ¬ x.zcLost = true ∧ e ≤ s.frame ∧ ¬ coming = true :=
    ⟨ha, hsv, fun h => absurd (hl.symm.trans h) Bool.false_ne_true, ht, fun h => absurd (hcoming.symm.trans h) Bool.false_ne_true⟩
  exact if_pos hgo

theorem mtrZcLost_waits {m : Fin 9} (ht : s.frame < s.mtr.slots[m].lastZc.getD 0 + zcTimeout s m) : exec (.mtrZcLost m) s = .next s :=
  if_neg fun h => absurd h.2.2.2.1 (Nat.not_le.mpr ht)

theorem settleBoundary_takes {m : Fin 9} (hk : slotKind s m = 3) (hsv : slotServed s m = true) (hf : s.frame % 8000 = 0) :
    ∃ t, exec (.settleBoundary m) s = .next t ∧ (t.mtr.slots[m].mode, t.mtr.slots[m].band) = pendAt s.mtr.slots[m] s.frame
      ∧ t.params = s.params := by
  have hgo : slotKind s m = 3 ∧ slotServed s m = true ∧ s.frame % 8000 = 0 := ⟨hk, hsv, hf⟩
  have hp : (takeBoundary m s.frame s).params = s.params := touches_takeBoundary.same .params rfl
  obtain ⟨hmode, hband, -, -, -⟩ := modSlot_meas m (countBoundary s.frame)
    (takeBoundary_slot m s.frame s)
  exact ⟨_, if_pos hgo, Prod.ext hmode hband, hp⟩

theorem settleBoundary_waits {m : Fin 9} (hf : s.frame % 8000 ≠ 0) : exec (.settleBoundary m) s = .next s := if_neg fun h => hf h.2.2

/-! ### Pulses and harmonics (R287 to R290) -/

theorem foldl_emit {β : Type} (f : β → Out) (l : List β) (s : State) (hv : s.sys.vioLow = false) :
    l.foldl (fun (s : State) i => if s.sys.vioLow then s else emit (f i) s) s = { s with outbox := s.outbox ++ l.map f } := by
  induction l generalizing s with
  | nil => simp
  | cons i l ih =>
    rw [List.foldl_cons, if_neg (by rw [hv]; exact Bool.false_ne_true), ih (emit (f i) s) hv]
    simp [emit]

theorem foldl_pulses (due : List Nat) (pins : List Nat) (s : State) (hv : s.sys.vioLow = false) :
    due.foldl (fun (s : State) (t : Nat) => pins.foldl (fun (s : State) (i : Nat) => if s.sys.vioLow then s else emit (.pulse i t) s) s) s
      = { s with outbox := s.outbox ++ due.flatMap fun t => pins.map fun i => .pulse i t } := by
  induction due generalizing s with
  | nil => simp
  | cons t due ih =>
    rw [List.foldl_cons, foldl_emit (fun i => Out.pulse i t) pins s hv, ih { s with outbox := s.outbox ++ pins.map fun i => .pulse i t } hv]
    simp

/-- A list is cut in one pass where its first element fails the test. -/
theorem span_loop {α : Type} (p : α → Bool) (l acc : List α) :
    List.span.loop p l acc = (acc.reverse ++ l.takeWhile p, l.dropWhile p) := by
  induction l generalizing acc with
  | nil => rw [List.span.loop, List.takeWhile_nil, List.dropWhile_nil, List.append_nil]
  | cons a l ih =>
    rw [List.span.loop, List.takeWhile_cons, List.dropWhile_cons]
    cases p a
    · exact congrArg (·, a :: l) (List.append_nil _).symm
    · exact (ih (a :: acc)).trans (congrArg (·, l.dropWhile p) (by rw [List.reverse_cons, List.append_assoc]; exact rfl))

theorem pulseOutput_leaves {m : Fin 9} (hv : s.sys.vioLow = false) : ∃ t, exec (.pulseOutput m) s = .next t
        ∧ t.mtr.slots[m].pulse.edges = s.mtr.slots[m].pulse.edges.dropWhile (fun e => decide (e < (s.frame + 1) * 125))
        ∧ t.outbox = s.outbox ++ (s.mtr.slots[m].pulse.edges.takeWhile fun e => decide (e < (s.frame + 1) * 125)).flatMap fun e =>
            (pulsePins s m).map fun i => .pulse i e := by
  change ∃ t, execPulseOutput m s = .next t ∧ _
  unfold execPulseOutput
  extract_lets p f
  rw [show p.edges.span (fun t => decide (t < (f + 1) * 125)) = _ from span_loop _ p.edges []]
  dsimp -zeta only
  extract_lets s1 pins s2
  have h2 : s2 = _ := foldl_pulses _ _ s1 hv
  have h1 : s1.mtr.slots[m] = _ := modSlot_self m _ s
  have hedges : s2.mtr.slots[m].pulse.edges = s.mtr.slots[m].pulse.edges.dropWhile fun e => decide (e < (s.frame + 1) * 125) := by
    rw [h2]
    exact congrArg (fun x => x.pulse.edges) h1
  have hout : s2.outbox = _ := congrArg State.outbox h2
  clear_value s2
  split
  · exact ⟨_, rfl, (congrArg (fun x => x.pulse.edges) (modSlot_self m _ s2)).trans hedges, hout⟩
  · exact ⟨_, rfl, hedges, hout⟩

theorem harmonicsRefresh_renews {m : Fin 9} (hsv : slotServed s m = true) (ha : slotAc s m = true) (hp : pbool s 0x3021 m = true)
    (hl : s.mtr.slots[m].zcLost = false) (hm : effMode s m s.mtr.slots[m].mode s.mtr.slots[m].band ≠ 0)
    (ht : ∀ f, s.mtr.slots[m].harmAt = some f → f + pget s 0x3022 0 ≤ s.frame) : ∃ t, exec (.harmonicsRefresh m) s = .next t
          ∧ t.mtr.slots[m].harmAt = some s.frame ∧ t.mtr.slots[m].harm.length = 7 ∧ t.mtr.inputs = s.mtr.inputs := by
  have hdue : (s.mtr.slots[m].harmAt.all fun t => decide (t + pget s 0x3022 0 ≤ s.frame)) = true := by
    cases h : s.mtr.slots[m].harmAt with
    | none => rfl
    | some f => exact decide_eq_true (ht f h)
  refine ⟨_, if_pos ⟨hsv, ha, hp, fun h => absurd (hl.symm.trans h) Bool.false_ne_true, hm, hdue⟩, ?_, ?_, rfl⟩
  · rw [modSlot_self]
  · rw [modSlot_self, List.length_map, List.length_range]

theorem harmonicsRefresh_waits {m : Fin 9} {f : Nat} (hf : s.mtr.slots[m].harmAt = some f) (ht : s.frame < f + pget s 0x3022 0) :
    exec (.harmonicsRefresh m) s = .next s := by
  refine if_neg fun h => ?_
  have hdue := h.2.2.2.2.2
  rw [hf] at hdue
  exact absurd (of_decide_eq_true hdue) (Nat.not_le.mpr ht)

/-! ### The failure of the engine (R533) -/

theorem noteFault_flt (d : Fin 12) (c : Nat) (p n m : Bool) (s : State) :
    (noteFault d c p n m s).flt = { s.flt with domains := (noteFault d c p n m s).flt.domains } := by
  unfold noteFault
  dsimp only
  split <;> rfl

/-- An event changes nothing of the faults but the domains. -/
theorem evp_flt (id dom detail arg : Nat) (b : List Byte) (s : State) :
    (evp id dom detail arg b s).flt = { s.flt with domains := (evp id dom detail arg b s).flt.domains } := by
  have hpush : (pushEvent id dom detail arg b s).flt = s.flt := touches_pushEvent.same .flt rfl
  unfold evp
  extract_lets s1
  have h1 : s1.flt = s.flt := hpush
  split
  · rw [h1]
  · split
    · exact (noteFault_flt ..).trans (by rw [h1])
    · rw [h1]

/-- What is discarded from every slot leaves the inputs and Onyx. -/
theorem squashAll_keeps (first : Nat) (l : List (Fin 9)) (s : State) :
    (l.foldl (fun (s : State) (m : Fin 9) => squashSlot m (2 ^ slotElements s m - 1) first 5 0xFF s) s).mtr.inputs = s.mtr.inputs
    ∧ (l.foldl (fun (s : State) (m : Fin 9) => squashSlot m (2 ^ slotElements s m - 1) first 5 0xFF s) s).onyx = s.onyx := by
  have hsq (t : State) (m : Fin 9) (n : Nat) : (squashSlot m n first 5 0xFF t).onyx = t.onyx := touches_squashSlot.same .onyx rfl
  exact foldl_keep (P := fun t : State => t.mtr.inputs = s.mtr.inputs ∧ t.onyx = s.onyx) ⟨rfl, rfl⟩
    (fun t m ht => ⟨(squashSlot_inputs ..).trans ht.1, (hsq t m _).trans ht.2⟩) l

theorem fltMtrEngine_stops (hd : s.mtr.down = false) : ∃ t, exec .fltMtrEngine s = .next t ∧ t.mtr.down = true ∧ t.flt.mtrFenced = true
      ∧ t.flt.mtrRestart = some (frameAfter s.frame 800) ∧ t.mtr.inputs = s.mtr.inputs ∧ t.onyx = s.onyx := by
  change ∃ t, execFltMtrEngine s = .next t ∧ _
  unfold execFltMtrEngine
  rw [if_neg (by rw [hd]; exact Bool.false_ne_true)]
  have h1 := squashAll_keeps (squashFrom s) (allFin 9) s
  dsimp only
  generalize (allFin 9).foldl (fun (s' : State) (m : Fin 9) => squashSlot m (2 ^ slotElements s' m - 1) (squashFrom s) 5 0xFF s') s = s1 at h1 ⊢
  generalize allFin 8 = l
  refine ⟨_, rfl, ?_⟩
  refine foldl_keep (P := fun t : State => t.mtr.down = true ∧ t.flt.mtrFenced = true ∧ t.flt.mtrRestart = some (frameAfter s.frame 800)
    ∧ t.mtr.inputs = s.mtr.inputs ∧ t.onyx = s.onyx) ?start (fun t k ht => ?_) _
  case start =>
    unfold ev
    rw [evp_mtr, evp_onyx, evp_flt]
    exact ⟨rfl, rfl, rfl, h1.1, h1.2⟩
  obtain ⟨hdown, hfence, hrestart, hin, hony⟩ := ht
  rw [noteFault_eq, noteFault_flt]
  exact ⟨hdown, hfence, hrestart, hin, hony⟩

theorem mtrEngineRestart_restarts (hd : s.mtr.down = true) : exec .mtrEngineRestart s = .next { s with
        mtr := { s.mtr with down := false }, flt := { s.flt with mtrRestart := some s.frame, mtrFenced := false } } := if_pos hd

/-- Settles O42. -/
theorem meteringFollowsItsInputs : Obligations.MeteringFollowsItsInputs := fun _ =>
  ⟨fun n _ h0 h3 => mtrModFault_flags n h0 h3, fun _ hf hg => mtrModOk_clears hf hg, fun _ hg => mtrModOk_waits hg,
    fun _ => ⟨fun _ _ _ hc hh hsv hn hr hv => zeroCrossing_takes hc hh hsv hn hr hv, fun ha hsv hl ht hc => mtrZcLost_loses ha hsv hl ht hc,
      fun ht => mtrZcLost_waits ht, fun hk hsv hf => settleBoundary_takes hk hsv hf, fun hf => settleBoundary_waits hf,
      fun hv => pulseOutput_leaves hv, fun hsv ha hp hl hm ht => harmonicsRefresh_renews hsv ha hp hl hm ht,
      fun _ hf ht => harmonicsRefresh_waits hf ht⟩,
    fun hd => fltMtrEngine_stops hd, fun hd => mtrEngineRestart_restarts hd⟩

end Sys2Proof.Machine
end
section
/-! PROOF. The metrology commands (chapter 08). -/

namespace Sys2Proof.Machine

open Host (Outcome)

variable {s t u : State} {k : Fin 8}

/-! ### Session states that stand (R163) -/

/-- Every outlet has the session state it had. -/
structure SameSessions (s t : State) : Prop where
  at_ : ∀ j : Fin 8, t.outlets[j].st = s.outlets[j].st

theorem SameSessions.refl (s : State) : SameSessions s s := ⟨fun _ => rfl⟩

theorem SameSessions.trans (h : SameSessions s t) (h' : SameSessions t u) : SameSessions s u := ⟨fun j => (h'.at_ j).trans (h.at_ j)⟩

theorem sameSessions_of_outlets (h : t.outlets = s.outlets) : SameSessions s t := ⟨fun _ => by rw [h]⟩

theorem sameSessions_modOut {f : Outlet → Outlet} (hf : ∀ o : Outlet, (f o).st = o.st) : SameSessions s (modOut k f s) :=
  ⟨fun j => upd_keeps Outlet.st s.outlets k j hf⟩

theorem sameSessions_modClaim {f : Claim → Claim} : SameSessions s (modClaim k f s) :=
  sameSessions_modOut (f := fun o => { o with claim := f o.claim }) fun _ => rfl

theorem sameSessions_deferPositions : SameSessions s (deferPositions s) :=
  ⟨fun _ => deferPositions_keeps (g := Outlet.st) (fun _ _ => rfl) s⟩

theorem sameSessions_ev {id dom detail arg : Nat} : SameSessions s (ev id dom detail arg s) :=
  sameSessions_of_outlets (evp_outlets ..)

theorem sameSessions_ite {c : Prop} [Decidable c] (ht : SameSessions s t) (hu : SameSessions s u) : SameSessions s (if c then t else u) := by
  split
  · exact ht
  · exact hu

theorem sameSessions_setpoints : SameSessions s (setpoints k s) := by
  have hput (v : Nat) (i : Int) (t : State) : SameSessions t (modOut k (fun o => { o with spMv := v, spMa := i }) t) :=
    sameSessions_modOut fun _ => rfl
  have hnote (b : Bool) : SameSessions s (modOut k (fun o => { o with noGroup := b }) s) := sameSessions_modOut fun _ => rfl
  unfold setpoints
  extract_lets o pre put wait
  have hwait (v : Nat) : SameSessions s (wait v s) :=
    sameSessions_ite ((hnote false).trans (hput ..)) (sameSessions_ite (hput ..) (((hnote true).trans sameSessions_ev).trans (hput ..)))
  split
  · exact .refl s
  · split
    · exact hwait _
    · exact hwait _
    · exact sameSessions_ite (hput ..) (.refl s)
    · exact hput ..
    · exact sameSessions_ite (hput ..) (.refl s)
    · exact sameSessions_ite (hput ..) (hput ..)
    · exact hput ..
    · exact hput ..

theorem sameSessions_releaseClaim : SameSessions s (releaseClaim k s) := by
  unfold releaseClaim
  extract_lets s1
  have h1 : SameSessions s s1 := by
    dsimp only [s1]
    split
    · split
      · exact sameSessions_of_outlets (((touches_modAux).then touches_auxOff rfl).same .outlets rfl)
      · exact .refl s
    · exact .refl s
  have hfree : SameSessions s1 (modOut k (fun o => { o with claim := { pos := o.claim.pos }, auxOn := false, req := none }) s1) :=
    sameSessions_modOut fun _ => rfl
  exact (h1.trans hfree).trans sameSessions_deferPositions

/-- A session state entered is that of its outlet, and no other outlet's changes. -/
theorem enterState_st (p : Pend) (s : State) (j : Fin 8) : (enterState k p s).outlets[j].st = if j = k then p.dest else s.outlets[j].st := by
  unfold enterState
  extract_lets o old st f fresh running had reason told host timers excess s1 s2 s3 s4 s5
  have h1 : s1.outlets[j].st = if j = k then p.dest else s.outlets[j].st := by
    by_cases hj : j = k
    · subst hj
      rw [if_pos rfl]
      exact congrArg Outlet.st (upd_self ..)
    · rw [if_neg hj]
      exact congrArg Outlet.st (upd_other hj)
  clear_value s1
  have h2 : SameSessions s1 s2 := sameSessions_of_outlets ((touches_ite touches_imdNewSession (.refl [.efi] s1)).same .outlets rfl)
  have h3 : SameSessions s2 s3 := sameSessions_of_outlets
    ((touches_ite touches_imdRequest (touches_ite touches_imdEnergise (.refl [.efi] s2))).same .outlets rfl)
  have h4 : SameSessions s3 s4 := by
    dsimp only [s4]
    split
    · exact sameSessions_of_outlets (touches_poolZero.same .outlets rfl)
    · split
      · exact sameSessions_setpoints.trans (sameSessions_of_outlets (touches_distribute.same .outlets rfl))
      · exact .refl s3
  have h5 : SameSessions s4 s5 := by
    dsimp only [s5]
    split
    · exact sameSessions_releaseClaim
    · split
      · exact sameSessions_modClaim.trans sameSessions_deferPositions
      · exact .refl s4
  have hall := ((h2.trans h3).trans h4).trans h5
  clear_value s2 s3 s4 s5
  split
  · exact (hall.at_ j).trans h1
  · exact (sameSessions_ev.at_ j).trans ((hall.at_ j).trans h1)

/-! ### Calibration state (R295, R296) -/

theorem applyCalOpen_slot (m : Fin 9) (b : Nat) (s : State) :
    (applyCalOpen m b s).mtr.slots[m] = { s.mtr.slots[m] with
      calBand := some b, closing := false, meas := none, measOk := false, pendMode := some (s.frame, 2) }
    ∧ ∀ k : Fin 8, m.val = 0 ∨ k.val + 1 = m.val → (applyCalOpen m b s).outlets[k].st = .unavailable := by
  unfold applyCalOpen
  rw [dif_pos m.isLt]
  extract_lets m' f valid s1 s2
  have h1 : s1.mtr = s.mtr := foldl_same (g := State.mtr) (fun t j => touches_pset.same .mtr rfl) _ _
  have h2 : s2.mtr.slots[m] = { s.mtr.slots[m] with
      calBand := some b, closing := false, meas := none, measOk := false, pendMode := some (s.frame, 2) } := by
    rw [← show s1.mtr.slots[m] = s.mtr.slots[m] by rw [h1]]
    exact modSlot_self m _ s1
  clear_value s2
  generalize hl : allFin 8 = l
  refine ⟨?_, fun k hk => ?_⟩
  · refine (congrArg (fun x : MtrSt => x.slots[m]) (foldl_same (g := State.mtr) (fun t j => ?_) l s2)).trans h2
    split
    · exact touches_enterState.same .mtr rfl
    · rfl
  · refine foldl_forall (P := fun (k : Fin 8) (t : State) => m.val = 0 ∨ k.val + 1 = m.val → t.outlets[k].st = .unavailable)
      (fun t j hj => ?_) (fun t j i ht hj => ?_) (hl ▸ mem_allFin k) s2 hk
    · split
      · rw [enterState_st, if_pos rfl]
      · rename_i hn
        exact Classical.byContradiction fun hst => hn ⟨hj, hst⟩
    · split
      · rw [enterState_st]
        split
        · rfl
        · exact ht hj
      · exact ht hj

theorem paramBytes_congr (hp : t.params = s.params) (hb : t.beryl = s.beryl) (id inst : Nat) : paramBytes t id inst = paramBytes s id inst := by
  unfold paramBytes
  rw [pget_congr hp hb]

/-- The digest of a slot is of its parameters. -/
theorem slotDigest_congr (hp : t.params = s.params) (hb : t.beryl = s.beryl) (m : Nat) : slotDigest t m = slotDigest s m := by
  unfold slotDigest slotBytes
  simp only [paramBytes_congr hp hb]

/-- The trial set of a slot as far as it has been sealed into a band. -/
def sealedUpTo (m i n : Nat) (s : State) : State :=
  (List.range n).foldl (fun (s : State) (j : Nat) => pset (0x3010 + j) i (pget s (0x3090 + j) m) s) s

theorem sealedUpTo_succ (m i n : Nat) (s : State) :
    sealedUpTo m i (n + 1) s = pset (0x3010 + n) i (pget (sealedUpTo m i n s) (0x3090 + n) m) (sealedUpTo m i n s) := by
  unfold sealedUpTo
  rw [List.range_succ, List.foldl_append]
  rfl

theorem sealedUpTo_reads {m i : Nat} (hm : m < 256) (hi : i < 256) {s : State} (hwf : storeWf s.params) (n : Nat) (hn : n ≤ 10) :
    storeWf (sealedUpTo m i n s).params ∧ (∀ j, pget (sealedUpTo m i n s) (0x3090 + j) m = pget s (0x3090 + j) m)
      ∧ ∀ j, j < n → pget (sealedUpTo m i n s) (0x3010 + j) i = pget s (0x3090 + j) m := by
  induction n with
  | zero => exact ⟨hwf, fun _ => rfl, nofun⟩
  | succ n ih =>
    obtain ⟨hw, htrial, hband⟩ := ih (by omega)
    rw [sealedUpTo_succ]
    refine ⟨?_, fun j => ?_, fun j hj => ?_⟩
    · rw [pset_eq (by omega)]
      exact storeWf_storePut _ _ _ hw
    · rw [pget_pset_other (by omega) _ hw hi hm (fun h => absurd (congrArg Prod.fst h) (by simp; omega)), htrial]
    · by_cases hjn : j = n
      · subst hjn
        rw [pget_pset_same (by omega) _ _ hw, htrial]
      · rw [pget_pset_other (by omega) _ hw hi hi (fun h => absurd (congrArg Prod.fst h) (by simp; omega)), hband j (by omega)]

/-- The slot's parameters once its trial set is sealed into a band. -/
def sealedBand (m : Fin 9) (b : Nat) (s : State) : State := pset 0x301A (8 * m + b) 1 (sealedUpTo m (8 * m + b) 10 s)

theorem applyCalSeal_stands {m : Fin 9} {b : Nat} (hc : s.mtr.slots[m].calBand = some b) :
    (applyCalSeal m s).params = (sealedBand m b s).params ∧ (applyCalSeal m s).beryl = (sealedBand m b s).beryl
      ∧ (applyCalSeal m s).mtr.slots[m].digest = slotDigest (sealedBand m b s) m := by
  generalize ht : applyCalSeal m s = t
  unfold applyCalSeal at ht
  rw [dif_pos m.isLt] at ht
  extract_lets m' at ht
  split at ht
  · rename_i hn
    exact absurd (hn.symm.trans hc) nofun
  rename_i b' hb'
  obtain rfl : b' = b := Option.some.inj (hb'.symm.trans hc)
  extract_lets s1 s2 d s3 s4 at ht
  have hp2 : s2 = sealedBand m b' s := by dsimp only [s2, s1, sealedBand, sealedUpTo]
  clear_value s2
  have hslot : s3.mtr.slots[m] = { s2.mtr.slots[m] with digest := d } := modSlot_self m (fun x => { x with digest := d }) s2
  have h3 : s3.mtr.slots[m].digest = d := by rw [hslot]
  have hp3 : s3.params = s2.params := rfl
  have hb3 : s3.beryl = s2.beryl := rfl
  have hd : d = slotDigest s2 m := rfl
  rw [hp2] at hp3 hb3 hd
  clear_value d s3
  have htouch : Touches [.queues, .outbox, .link, .onyx, .flt, .access] s3 t := by
    rw [← ht]
    exact (((((Touches.refl _ s3).then touches_modOnyx rfl).then touches_notePending rfl).then touches_logEntry rfl).then touches_ev rfl).then
      touches_writeSet rfl
  have hp : t.params = s3.params := htouch.same .params rfl
  have hy : t.beryl = s3.beryl := htouch.same .beryl rfl
  have hm : t.mtr = s3.mtr := htouch.same .mtr rfl
  exact ⟨hp.trans hp3, hy.trans hb3, (congrArg (fun x : MtrSt => x.slots[m].digest) hm).trans (h3.trans hd)⟩

theorem applyCalSeal_seals {m : Fin 9} {b : Nat} (hb : b < 8) (hwf : storeWf s.params) (hc : s.mtr.slots[m].calBand = some b) :
    let t := applyCalSeal m s
    pget t 0x301A (8 * m + b) = 1 ∧ (∀ j, j < 10 → pget t (0x3010 + j) (8 * m + b) = pget s (0x3090 + j) m)
        ∧ t.mtr.slots[m].digest = slotDigest t m := by
  have hm := m.isLt
  have hi : 8 * m.val + b < 256 := by omega
  obtain ⟨hp, hy, hd⟩ := applyCalSeal_stands hc
  obtain ⟨hw, -, hband⟩ := sealedUpTo_reads (m := m) (by omega) hi hwf 10 (Nat.le_refl _)
  refine ⟨?_, fun j hj => ?_, hd.trans (slotDigest_congr hp hy m).symm⟩
  · rw [pget_congr hp hy]
    exact pget_pset_same (by decide) _ _ hw
  · rw [pget_congr hp hy]
    unfold sealedBand
    rw [pget_pset_other (by decide) _ hw hi hi (fun h => absurd (congrArg Prod.fst h) (by simp; omega))]
    exact hband j hj

/-! ### A calibration ended (R297, R299) -/

theorem calAbort_stands (m : Fin 9) (n : Nat) (s : State) :
    (calAbort m n s).frame = s.frame ∧ (calAbort m n s).params = s.params ∧ (calAbort m n s).mtr.slots[m].mode = s.mtr.slots[m].mode := by
  have h := touches_calAbort (m := m) (status := n) (s := s)
  refine ⟨h.same .frame rfl, h.same .params rfl, ?_⟩
  unfold calAbort
  split
  · rename_i c hc
    split
    · have hslot := modSlot_self m (fun x => { x with meas := some { c with running := false, status := n } }) s
      have hmode : (modSlot m (fun x => { x with meas := some { c with running := false, status := n } }) s).mtr.slots[m].mode
          = s.mtr.slots[m].mode := by rw [hslot]
      exact hmode
    · rfl
  · rfl

theorem applyCalClose_waits (m : Fin 9) (s : State) : let t := applyCalClose m s
    t.mtr.slots[m].pendMode = some (s.frame, 1) ∧ t.params = s.params
      ∧ (s.mtr.slots[m].mode ≠ 2 → t.mtr.slots[m].calBand = none) ∧ (s.mtr.slots[m].mode = 2 → t.mtr.slots[m].closing = true) := by
  obtain ⟨-, hp, hmode⟩ := calAbort_stands m 2 s
  unfold applyCalClose
  rw [dif_pos m.isLt]
  extract_lets m' f s1 t
  have ht : t.mtr.slots[m] = if s1.mtr.slots[m].mode = 2 then { s1.mtr.slots[m] with closing := true, pendMode := some (f, 1) }
      else { s1.mtr.slots[m] with calBand := none, closing := false, pendMode := some (f, 1) } := modSlot_self m _ s1
  have hm1 : s1.mtr.slots[m].mode = s.mtr.slots[m].mode := hmode
  rw [hm1] at ht
  have htp : t.params = s1.params := rfl
  clear_value t
  refine ⟨?_, htp.trans hp, fun h => ?_, fun h => ?_⟩
  · rw [ht]
    split <;> rfl
  · rw [ht, if_neg h]
  · rw [ht, if_pos h]

theorem mtrCalDone_ends {m : Fin 9} {c : CalMeas} {e : Nat} (hc : s.mtr.slots[m].meas = some c) (he : c.endAt = some e) (hr : c.running = true)
    (ht : e + 7 ≤ s.frame) : exec (.mtrCalDone m) s =
      let st := if c.tempOut then 3 else 0
      let ended : MeterSlot := { s.mtr.slots[m] with meas := some { c with running := false, status := st }, measOk := st == 0 }
      .next (evNext 0x78 (slotDomain m) 0 (st * 256 + m) { s with mtr := { s.mtr with slots := s.mtr.slots.set m ended } }) := by
  change execMtrCalDone m s = _
  unfold execMtrCalDone
  rw [hc]
  dsimp only
  rw [he]
  exact if_pos ⟨hr, ht⟩

theorem vget?_fin {α : Type} {n : Nat} (v : Vector α n) (i : Fin n) : vget? v i = some v[i] := dif_pos i.isLt

theorem slotMeasOk_fin (m : Fin 9) (s : State) : ((vget? s.mtr.slots m).map (·.measOk)).getD false = s.mtr.slots[m].measOk := by
  rw [vget?_fin]
  rfl

/-- Settles O43. -/
theorem calibrationRunsAsCommanded : Obligations.CalibrationRunsAsCommanded := by
  intro h m s hm x
  obtain ⟨l, hu⟩ : ∃ l, entered h s = { s with link := l } := ⟨_, entered_eq h s⟩
  have hnamed : slotNamed (entered h s) m = true := by rw [hu]; exact hm
  have hin (hi : inCal s m = true) : inCal (entered h s) m = true := by rw [hu]; exact hi
  have hneg {b : Bool} (hb : b = true) : ¬ ¬ b = true := fun hn => hn hb
  refine ⟨fun hp => ?_, fun c hc hh hi hp => ?_, fun hp => ?_, fun b hb hn hbusy ha hp => ?_, fun b u => ?_, fun n hi h0 hle hme hp => ?_,
    fun n u => ?_, fun c e hc he hr ht => mtrCalDone_ends hc he hr ht, fun c hi hc hr hp => ?_, fun hi hk ha hf hp => ?_,
    fun b u hb hwf hc => ?_, fun hi hp => ?_, fun u => ?_⟩
  · change execMtrRead h m s = _
    unfold execMtrRead
    rw [hostCmd_accepts hp rfl rfl (if_pos hnamed)]
    rfl
  · change execMtrHarm h m c s = _
    unfold execMtrHarm
    have hgo : ¬ ¬ (slotHas (entered h s) m c = true ∧ (slotInput (entered h s) m c).isSome = true) := by
      rw [hu]
      exact fun hn => hn ⟨hh, Option.isSome_iff_ne_none.mpr hi⟩
    rw [hostCmd_accepts hp rfl rfl ((if_neg (hneg hnamed)).trans ((if_neg (by omega)).trans (if_neg hgo)))]
    rfl
  · change execMtrCalInfo h m s = _
    unfold execMtrCalInfo
    rw [hostCmd_accepts hp rfl rfl (if_pos hnamed)]
    rfl
  · change execMtrCalOpenX h m b s = _
    unfold execMtrCalOpenX
    have hnone : ¬ ((allFin 9).any fun (m : Fin 9) => (entered h s).mtr.slots[m].calBand.isSome) = true := by
      rw [hu]
      intro hany
      obtain ⟨j, -, hj⟩ := List.any_eq_true.mp hany
      exact absurd ((congrArg Option.isSome (hn j)).symm.trans hj) nofun
    have hfree : ¬ slotBusy (entered h s) m = true := by
      rw [hu]
      exact fun hb => absurd (hbusy.symm.trans hb) Bool.false_ne_true
    have hacc : ¬ (entered h s).onyx.access.isNone = true := by
      rw [hu]
      exact fun hn => ha (Option.isNone_iff_eq_none.mp hn)
    rw [hostCmd_accepts hp rfl rfl ((if_neg (hneg hnamed)).trans ((if_neg (by omega)).trans ((if_neg hnone).trans ((if_neg hfree).trans (if_neg hacc)))))]
    rfl
  · rw [atEdge_mtrCalOpenX]
    obtain ⟨hs, ho⟩ := applyCalOpen_slot m b u
    intro t
    rw [show t.mtr.slots[m] = _ from hs]
    exact ⟨rfl, rfl, rfl, ho⟩
  · change execMtrCalMeasureX h m n s = _
    unfold execMtrCalMeasureX
    have hcount : ¬ (n = 0 ∨ (if slotAc (entered h s) m then 1000 else 100) < n) := by
      rw [hu]
      exact fun hn => hn.elim (Nat.ne_of_gt h0) (Nat.not_lt.mpr hle)
    have hfree : ¬ measuring (entered h s) m = true := by
      rw [hu]
      exact fun hb => absurd (hme.symm.trans hb) Bool.false_ne_true
    rw [hostCmd_accepts hp rfl rfl ((if_neg (hneg hnamed)).trans ((if_neg (hneg (hin hi))).trans ((if_neg hcount).trans (if_neg hfree))))]
    rfl
  · rw [atEdge_mtrCalMeasureX]
    unfold applyCalMeasure
    rw [dif_pos m.isLt]
    exact modSlot_self m _ u
  · change execMtrCalResultX h m s = _
    unfold execMtrCalResultX
    have hended : (s.mtr.slots[m].meas.any fun (c : CalMeas) => !c.running) = true := by
      rw [show s.mtr.slots[m].meas = some c from hc]
      exact congrArg not hr
    rw [hostCmd_accepts (d := 0) (res := none) hp rfl rfl ?_]
    · rfl
    · refine (if_neg (hneg hnamed)).trans ((if_neg (hneg (hin hi))).trans ?_)
      rw [hu, vget?_fin]
      exact if_pos hended
  · change execMtrCalSealX h m s = _
    unfold execMtrCalSealX
    have hmeas : ¬ ¬ ((vget? (entered h s).mtr.slots m).map (·.measOk)).getD false = true := by
      rw [slotMeasOk_fin, hu]
      exact hneg hk
    have hacc : ¬ (entered h s).onyx.access.isNone = true := by
      rw [hu]
      exact fun hn => ha (Option.isNone_iff_eq_none.mp hn)
    have hroom : ¬ auditFree (entered h s) = 0 := by
      rw [hu]
      exact hf
    rw [hostCmd_accepts hp rfl rfl ((if_neg (hneg hnamed)).trans ((if_neg (hneg (hin hi))).trans ((if_neg hmeas).trans ((if_neg hacc).trans (if_neg hroom)))))]
    rfl
  · rw [atEdge_mtrCalSealX]
    exact applyCalSeal_seals hb hwf hc
  · change execMtrCalCloseX h m s = _
    unfold execMtrCalCloseX
    rw [hostCmd_accepts hp rfl rfl ((if_neg (hneg hnamed)).trans (if_neg (hneg (hin hi))))]
    rfl
  · rw [atEdge_mtrCalCloseX]
    exact applyCalClose_waits m u

end Sys2Proof.Machine
end
section
/-! PROOF. Intervals, tariffs and the clock of Onyx (chapter 09). -/

namespace Sys2Proof.Machine

open Host (Outcome)

variable {s t u : State}

/-! ### What an entry of the log leaves alone -/

/-- From one state to the other Onyx has changed in its log and in what it saves, and in nothing else. -/
structure LogOnly (s t : State) : Prop where
  rest : ∃ n e a v, t.onyx = { s.onyx with logSeq := n, events := e, audit := a, saved := v }

theorem LogOnly.refl (s : State) : LogOnly s s := ⟨_, _, _, _, rfl⟩

theorem LogOnly.trans (h : LogOnly s t) (h' : LogOnly t u) : LogOnly s u := by
  obtain ⟨n, e, a, v, h⟩ := h.rest
  obtain ⟨n', e', a', v', h'⟩ := h'.rest
  exact ⟨n', e', a', v', by rw [h', h]⟩

theorem logOnly_of_onyx (h : t.onyx = s.onyx) : LogOnly s t := ⟨_, _, _, _, h⟩

theorem logOnly_ev {id dom detail arg : Nat} : LogOnly s (ev id dom detail arg s) := logOnly_of_onyx (evp_onyx ..)

theorem logOnly_ite {c : Prop} [Decidable c] (ht : LogOnly s t) (hu : LogOnly s u) : LogOnly s (if c then t else u) := by
  split
  · exact ht
  · exact hu

theorem logOnly_logAt {type slot flags legal : Nat} {wall : Option Int} {data : List Byte} :
    LogOnly s (logAt type slot flags legal wall data s) := by
  unfold logAt
  extract_lets e n s1
  split
  · split
    · exact .refl s
    · have h1 : LogOnly s s1 := ⟨_, _, _, _, rfl⟩
      exact logOnly_ite (h1.trans logOnly_ev) (logOnly_ite (h1.trans logOnly_ev) h1)
  · exact ⟨_, _, _, _, rfl⟩

theorem logOnly_logEntry {type slot flags : Nat} {data : List Byte} : LogOnly s (logEntry type slot flags data s) := logOnly_logAt

theorem logOnly_writeSet : LogOnly s (writeSet s) := by
  unfold writeSet
  exact logOnly_ite (.refl s) ⟨_, _, _, _, rfl⟩

/-- What is of neither stands. -/
theorem LogOnly.keeps {α : Type} (h : LogOnly s t) (g : OnyxSt → α)
    (hg : ∀ o n e a v, g { o with logSeq := n, events := e, audit := a, saved := v } = g o) : g t.onyx = g s.onyx := by
  obtain ⟨n, e, a, v, h⟩ := h.rest
  rw [h]
  exact hg ..

/-! ### Intervals (R303, R313 to R315) -/

theorem closeInterval_opens (m flags : Nat) (s : State) : let t := closeInterval m flags s
    ∃ c, t.onyx.live.interval = m ∧ t.onyx.live.segment = 0 ∧ t.onyx.live.intStart = s.onyx.legal ∧ t.onyx.live.books = .replicate 9 {}
      ∧ t.onyx.closings = s.onyx.closings ++ [c] ∧ c.interval = s.onyx.live.interval ∧ c.ends = true ∧ c.books = s.onyx.live.books
      ∧ t.params = s.params := by
  unfold closeInterval
  extract_lets r s1 fl s2 s3 partialStart t
  obtain ⟨c, h1, hint, hends, hbooks⟩ : ∃ c, s1.onyx = { s.onyx with closings := s.onyx.closings ++ [c] } ∧ c.interval = s.onyx.live.interval
      ∧ c.ends = true ∧ c.books = s.onyx.live.books := ⟨_, rfl, rfl, rfl, rfl⟩
  have h3 : LogOnly s1 s3 := logOnly_ite (logOnly_ev.trans logOnly_logEntry) logOnly_ev
  have hp : t.params = s.params := touches_closeInterval.same .params rfl
  have hl : s3.onyx.legal = s.onyx.legal := (h3.keeps OnyxSt.legal fun _ _ _ _ _ => rfl).trans (by rw [h1])
  have hc : s3.onyx.closings = s.onyx.closings ++ [c] := (h3.keeps OnyxSt.closings fun _ _ _ _ _ => rfl).trans (by rw [h1])
  exact ⟨c, rfl, rfl, hl, rfl, hc, hint, hends, hbooks, hp⟩

theorem legInterval_rows (s : State) :
    let o := s.onyx
    let m := (o.wall / 1000 / demandLen s).floor.toNat
    (boundariesRun s = true → o.wallValid = true → o.live.interval < m → ∃ t c, exec .legInterval s = .next t
      ∧ t.onyx.live.interval = m ∧ t.onyx.live.segment = 0 ∧ t.onyx.live.intStart = o.legal ∧ t.onyx.live.books = .replicate 9 {}
      ∧ t.onyx.closings = o.closings ++ [c] ∧ c.interval = o.live.interval ∧ c.ends = true ∧ c.books = o.live.books ∧ t.params = s.params)
    ∧ (o.wallValid = true → m ≤ o.live.interval → exec .legInterval s = .next s)
    ∧ (boundariesRun s = true → o.wallValid = false → demandLen s * tickHz ≤ o.legal - o.live.intStart →
      ∃ t, exec .legInterval s = .next t ∧ t.onyx.live.interval = o.live.interval + 1 ∧ t.onyx.live.intStart = o.legal) := by
  intro o m
  have hrun (h : boundariesRun s = true) : ¬ ¬ boundariesRun s = true := fun hn => hn h
  refine ⟨fun hb hw hm => ?_, fun hw hm => ?_, fun hb hw hd => ?_⟩
  · obtain ⟨c, hc⟩ := closeInterval_opens m 0 s
    have hrow : exec .legInterval s = .next (closeInterval m 0 s) := (if_neg (hrun hb)).trans ((if_pos hw).trans (if_pos hm))
    exact ⟨_, c, hrow, hc⟩
  · change execLegInterval s = _
    unfold execLegInterval
    split
    · rfl
    · exact if_neg (Nat.not_lt.mpr hm)
  · obtain ⟨c, hi, -, hs, -⟩ := closeInterval_opens (o.live.interval + 1) 0 s
    have hrow : exec .legInterval s = .next (closeInterval (o.live.interval + 1) 0 s) :=
      (if_neg (hrun hb)).trans ((if_neg (by rw [show s.onyx.wallValid = false from hw]; exact Bool.false_ne_true)).trans (if_pos hd))
    exact ⟨_, hrow, hi, hs⟩

/-! ### Tariffs (R316 to R320) -/

theorem setTariff_tariff (x cause : Nat) (s : State) :
    (setTariff x cause s).onyx.live.tariff = x ∧ (setTariff x cause s).onyx.live.regs = s.onyx.live.regs
      ∧ (setTariff x cause s).onyx.selects = s.onyx.selects ∧ (setTariff x cause s).onyx.hold = s.onyx.hold := by
  unfold setTariff
  extract_lets old f s1 s2 s3
  have h1 : s1.onyx = s.onyx := evp_onyx ..
  clear_value s1
  split
  · rename_i hx
    rw [h1]
    exact ⟨hx.symm, rfl, rfl, rfl⟩
  · have hw : LogOnly (noteEdge s3) (writeSet (noteEdge s3)) := logOnly_writeSet
    have ht : (writeSet (noteEdge s3)).onyx.live = (noteEdge s3).onyx.live := hw.keeps OnyxSt.live fun _ _ _ _ _ => rfl
    have hs : (writeSet (noteEdge s3)).onyx.selects = (noteEdge s3).onyx.selects := hw.keeps OnyxSt.selects fun _ _ _ _ _ => rfl
    have hh : (writeSet (noteEdge s3)).onyx.hold = (noteEdge s3).onyx.hold := hw.keeps OnyxSt.hold fun _ _ _ _ _ => rfl
    rw [ht, hs, hh]
    have hregs : (noteEdge s3).onyx.live.regs = s1.onyx.live.regs := rfl
    have hsel : (noteEdge s3).onyx.selects = s1.onyx.selects := rfl
    have hhold : (noteEdge s3).onyx.hold = s1.onyx.hold := rfl
    exact ⟨rfl, hregs.trans (by rw [h1]), hsel.trans (by rw [h1]), hhold.trans (by rw [h1])⟩

theorem tableSwitch_keeps (s : State) : (tableSwitch s).onyx.selects = s.onyx.selects ∧ (tableSwitch s).onyx.hold = s.onyx.hold := by
  unfold tableSwitch
  split
  · exact ⟨rfl, rfl⟩
  · split
    · exact ⟨rfl, rfl⟩
    · rename_i x hx
      split
      · exact ⟨rfl, rfl⟩
      · extract_lets cause s1
        split
        · exact ⟨rfl, rfl⟩
        · obtain ⟨-, -, hs, hh⟩ := setTariff_tariff x cause s1
          exact ⟨hs, hh⟩

theorem tableSwitch_takes {x : Nat} (hb : boundariesRun s = true) (hh : s.onyx.hold = false) (hf : s.onyx.tarFrom ≤ s.frame)
    (he : evalTable s = some x) (ho : s.onyx.overTable ≠ some x) :
    (tableSwitch s).onyx.live.tariff = x ∧ (tableSwitch s).onyx.live.regs = s.onyx.live.regs := by
  have hgo : ¬ (¬ boundariesRun s = true ∨ s.onyx.hold = true ∨ s.frame < s.onyx.tarFrom) := by
    rintro (h | h | h)
    · exact h hb
    · exact absurd (hh.symm.trans h) Bool.false_ne_true
    · exact absurd h (Nat.not_lt.mpr hf)
  unfold tableSwitch
  rw [if_neg hgo, he]
  dsimp -zeta only
  rw [if_neg ho]
  extract_lets cause s1
  split
  · rename_i hx
    exact ⟨hx.symm, rfl⟩
  · obtain ⟨ht, hr, -, -⟩ := setTariff_tariff x cause s1
    exact ⟨ht, hr⟩

theorem tableSwitch_stands (h : s.onyx.hold = true ∨ evalTable s = none) : tableSwitch s = s := by
  unfold tableSwitch
  split
  · rfl
  · rename_i hgo
    rw [h.resolve_left fun hh => hgo (.inr (.inl hh))]

theorem selectTariff_takes {x hold : Nat} (hx : x ≠ 0xFF) (s : State) :
    (selectTariff x hold s).onyx.live.tariff = x ∧ (selectTariff x hold s).onyx.selects = s.onyx.selects
      ∧ (selectTariff x hold s).onyx.hold = (s.onyx.hold || hold == 1) := by
  obtain ⟨hsel, hh⟩ := tableSwitch_keeps s
  unfold selectTariff
  extract_lets s1 s2 held e s3 s4
  rw [if_neg hx]
  obtain ⟨ht, -, hs4, hh4⟩ := setTariff_tariff x 2 s4
  have h3 : LogOnly s1 s3 := logOnly_logEntry
  have hs3 : s3.onyx.selects = s1.onyx.selects := h3.keeps OnyxSt.selects fun _ _ _ _ _ => rfl
  clear_value s3
  have hs34 : s4.onyx.selects = s3.onyx.selects := rfl
  have hh34 : s4.onyx.hold = (s1.onyx.hold || hold == 1) := rfl
  exact ⟨ht, hs4.trans (hs34.trans (hs3.trans hsel)), (hh4.trans hh34).trans (congrArg (· || hold == 1) hh)⟩

/-! ### The clock (R305 to R312) -/

theorem endFold_ends {f : Nat} (hf : s.onyx.fold = some f) : (endFold s).onyx.fold = none ∧ (endFold s).onyx.live = s.onyx.live := by
  unfold endFold
  rw [hf]
  dsimp only
  have h : LogOnly (modOnyx (fun o => { o with fold := none }) s) (ev 0x83 13 5 0 (logEntry 0x0A 0xFF 0
      (leBytes 8 ((s.onyx.legal - f) / tickHz)) (modOnyx (fun o => { o with fold := none }) s))) := logOnly_logEntry.trans logOnly_ev
  exact ⟨h.keeps OnyxSt.fold fun _ _ _ _ _ => rfl, h.keeps OnyxSt.live fun _ _ _ _ _ => rfl⟩

theorem applyClockSet_adjusts {v : Int} (hw : s.onyx.wallValid = true) (hv : absRat (v : Rat) ≤ pget s 0x3801 0) :
    let t := (applyClockSet 1 v s).1
    t.onyx.slew = v ∧ t.onyx.slewing = true ∧ t.onyx.wall = s.onyx.wall ∧ t.onyx.live = s.onyx.live := by
  have hset : (applyClockSet 1 v s).1 = ev 0x83 13 1 (sat32 (Config.roundUnit (v : Rat))) (modOnyx (fun o => { o with slew := v, slewing := true })
      (logEntry 0x08 0xFF 0 (leInt 8 (Config.roundUnit (v : Rat))) s)) := by
    unfold applyClockSet
    rw [if_neg (by decide : ¬ (1 : Nat) = 0)]
    dsimp only
    rw [if_neg fun hn => hn hw, if_pos hv]
  have hlog : LogOnly s (logEntry 0x08 0xFF 0 (leInt 8 (Config.roundUnit (v : Rat))) s) := logOnly_logEntry
  intro t
  rw [show t = _ from hset]
  have hev : (ev 0x83 13 1 (sat32 (Config.roundUnit (v : Rat))) (modOnyx (fun o => { o with slew := v, slewing := true })
      (logEntry 0x08 0xFF 0 (leInt 8 (Config.roundUnit (v : Rat))) s))).onyx = _ := evp_onyx ..
  rw [hev]
  generalize logEntry 0x08 0xFF 0 (leInt 8 (Config.roundUnit (v : Rat))) s = r at hlog ⊢
  exact ⟨rfl, rfl, hlog.keeps OnyxSt.wall fun _ _ _ _ _ => rfl, hlog.keeps OnyxSt.live fun _ _ _ _ _ => rfl⟩

/-- The clock a step has set: what the rest of the step does leaves it. -/
structure SameClock (s t : State) : Prop where
  wall  : t.onyx.wall = s.onyx.wall
  valid : t.onyx.wallValid = s.onyx.wallValid
  slew  : t.onyx.slew = s.onyx.slew
  jump  : t.onyx.jump = s.onyx.jump
  beryl : t.beryl = s.beryl

theorem SameClock.refl (s : State) : SameClock s s := ⟨rfl, rfl, rfl, rfl, rfl⟩

theorem SameClock.trans (h : SameClock s t) (h' : SameClock t u) : SameClock s u :=
  ⟨h'.wall.trans h.wall, h'.valid.trans h.valid, h'.slew.trans h.slew, h'.jump.trans h.jump, h'.beryl.trans h.beryl⟩

theorem SameClock.of_log (h : LogOnly s t) (hb : t.beryl = s.beryl) : SameClock s t :=
  ⟨h.keeps OnyxSt.wall fun _ _ _ _ _ => rfl, h.keeps OnyxSt.wallValid fun _ _ _ _ _ => rfl, h.keeps OnyxSt.slew fun _ _ _ _ _ => rfl,
    h.keeps OnyxSt.jump fun _ _ _ _ _ => rfl, hb⟩

theorem sameClock_ev {id dom detail arg : Nat} : SameClock s (ev id dom detail arg s) := .of_log logOnly_ev (evp_beryl ..)

theorem sameClock_logEntry {type slot flags : Nat} {data : List Byte} : SameClock s (logEntry type slot flags data s) :=
  .of_log logOnly_logEntry (touches_logEntry.same .beryl rfl)

theorem sameClock_modLive {f : OnyxLive → OnyxLive} : SameClock s (modLive f s) := ⟨rfl, rfl, rfl, rfl, rfl⟩

theorem sameClock_markBits {p : Nat → Bool} {n : Nat} : SameClock s (markBits p n s) := ⟨rfl, rfl, rfl, rfl, rfl⟩

theorem sameClock_writeSet : SameClock s (writeSet s) := .of_log logOnly_writeSet (touches_writeSet.same .beryl rfl)

theorem sameClock_ite {c : Prop} [Decidable c] (ht : SameClock s t) (hu : SameClock s u) : SameClock s (if c then t else u) := by
  split
  · exact ht
  · exact hu

theorem sameClock_fold {f : Option Nat} : SameClock s (modOnyx (fun o => { o with fold := f }) s) := ⟨rfl, rfl, rfl, rfl, rfl⟩

theorem sameClock_endFold : SameClock s (endFold s) := by
  unfold endFold
  split
  · exact (sameClock_fold.trans sameClock_logEntry).trans sameClock_ev
  · exact .refl s

theorem clockStep_sets (d : Rat) (b : Bool) (s : State) :
    (clockStep d b s).onyx.wall = s.onyx.wall + d ∧ (clockStep d b s).onyx.wallValid = true ∧ (clockStep d b s).onyx.slew = 0
      ∧ (clockStep d b s).beryl.rtc = s.onyx.wall + d ∧ (clockStep d b s).onyx.jump = some s.frame := by
  unfold clockStep
  extract_lets f s1 s2 s3 w y s5 s6 di s7 s8 s9 s10 s11 s12
  have hset : s5.onyx.wall = s.onyx.wall + d ∧ s5.onyx.wallValid = true ∧ s5.onyx.slew = 0 ∧ s5.beryl.rtc = s.onyx.wall + d
      ∧ s5.onyx.jump = some s.frame := ⟨rfl, rfl, rfl, rfl, rfl⟩
  clear_value s5
  have h7 : SameClock s5 s7 := (sameClock_modLive (s := s5)).trans (sameClock_ite sameClock_logEntry sameClock_logEntry)
  have h9 : SameClock s5 s9 := (h7.trans sameClock_ev).trans sameClock_markBits
  have h11 : SameClock s5 s11 := (h9.trans sameClock_logEntry).trans sameClock_fold
  have h12 : SameClock s5 s12 := by
    refine sameClock_ite (sameClock_ite h9 ?_) ?_
    · exact ((h11.trans sameClock_modLive).trans sameClock_markBits).trans sameClock_ev
    · exact (h9.trans sameClock_modLive).trans sameClock_endFold
  have hall := h12.trans sameClock_writeSet
  clear_value s12
  obtain ⟨hw, hv, hs, hr, hj⟩ := hset
  exact ⟨hall.wall.trans hw, hall.valid.trans hv, hall.slew.trans hs, (congrArg BerylSt.rtc hall.beryl).trans hr, hall.jump.trans hj⟩

theorem applyClockSet_steps {v : Int} (h : s.onyx.wallValid = false ∨ (pget s 0x3801 0 : Rat) < absRat (v - s.onyx.wall)) :
    let t := (applyClockSet 0 v s).1
    t.onyx.wall = v ∧ t.onyx.wallValid = true ∧ t.onyx.slew = 0 ∧ t.beryl.rtc = v ∧ t.onyx.jump = some s.frame := by
  have hset : ∃ b, (applyClockSet 0 v s).1 = clockStep (v - s.onyx.wall) b s := by
    unfold applyClockSet
    rw [if_pos rfl]
    extract_lets d res s1 s2
    rcases h with h | h
    · refine ⟨true, ?_⟩
      rw [if_pos (by rw [h]; exact Bool.false_ne_true)]
    · split
      · exact ⟨true, rfl⟩
      · rw [if_neg (Rat.not_le.mpr h)]
        exact ⟨false, rfl⟩
  obtain ⟨b, hset⟩ := hset
  intro t
  rw [show t = _ from hset]
  have hsum : s.onyx.wall + ((v : Rat) - s.onyx.wall) = v := (Rat.add_comm _ _).trans Rat.sub_add_cancel
  obtain ⟨hw, hv, hs, hr, hj⟩ := clockStep_sets ((v : Rat) - s.onyx.wall) b s
  exact ⟨hw.trans hsum, hv, hs, hr.trans hsum, hj⟩

/-- Settles O44. -/
theorem onyxKeepsTimeAndTariffs : Obligations.OnyxKeepsTimeAndTariffs := by
  intro s o m
  obtain ⟨hopen, hwait, hlegal⟩ := legInterval_rows s
  refine ⟨hopen, hwait, hlegal, fun x hb hh hf he ho => ?_, fun h => ?_, fun f x hold hf hb hx => ?_, fun hs h0 => if_pos ⟨hs, h0⟩,
    fun f hw hh hf => ?_, fun hu hp => ?_, fun v hu hc => if_pos ⟨hu, hc⟩, fun v hw hv => applyClockSet_adjusts hw hv,
    fun v h => applyClockSet_steps h⟩
  · obtain ⟨ht, hr⟩ := tableSwitch_takes hb hh hf he ho
    exact ⟨tableSwitch s, rfl, ht, hr, touches_tableSwitch.same .params rfl⟩
  · exact congrArg ans (tableSwitch_stands h)
  · obtain ⟨ht, hs, hh⟩ := selectTariff_takes (hold := hold) hx (modOnyx (fun o => { o with selects := o.selects.erase (f, x, hold) }) s)
    refine ⟨_, ?_, ht, hs, hh⟩
    change execTariffSelectionApply s = _
    unfold execTariffSelectionApply
    rw [hf]
    exact if_pos hb
  · obtain ⟨hn, hl⟩ := endFold_ends hf
    exact ⟨endFold s, if_pos ⟨hw, hh⟩, hn, hl, touches_endFold.same .params rfl⟩
  · by_cases h0 : s.frame % 8000 = 0
    · rw [if_pos h0]
      exact if_pos ⟨hu, h0, by rw [powerFailed, hp]; exact Bool.false_ne_true⟩
    · rw [if_neg h0]
      exact if_neg fun h => h0 h.2.1

end Sys2Proof.Machine
end
section
/-! PROOF. Signed readings (R332, R333, R338). -/

namespace Sys2Proof.Machine

open Host (Outcome)

variable {s : State}

theorem legReading_accepted (h : Hdr) {m : Fin 9} {kind curve : Nat} (h1 : 1 ≤ kind) (h3 : kind ≤ 3) (hc : curve ≤ 1)
    (hp : s.sys.powerFail = none) (hl : s.onyx.pending.length < 8) (pass : Passes h 0x3801 true true s) :
    let o := s.onyx
    ∃ p, p.counter = o.counter ∧ p.slot = m ∧ p.kind = kind ∧ p.curve = curve ∧ p.frame = s.frame ∧ p.snap = none ∧ p.start = none
        ∧ exec (.legReading h m kind curve) s = .next {
            accepted (.legReading h m kind curve) h 0x3801 0x0100 (some (leBytes 4 o.counter)) s with
              onyx := { s.onyx with counter := o.counter + 1, pending := o.pending ++ [p] } } := by
  intro o
  obtain ⟨l, hu⟩ : ∃ l, entered h s = { s with link := l } := ⟨_, entered_eq h s⟩
  let p : PendReading := { counter := o.counter, slot := m, kind := kind, curve := curve, frame := s.frame, tariff := o.live.tariff
                           session := if m.val = 0 then 0 else pget s 0x1044 (m.val - 1) }
  have hrules : readingRules m kind curve (entered h s) = .accept 0x0100 (some (leBytes 4 o.counter))
      (modOnyx fun o => { o with counter := o.counter + 1, pending := o.pending ++ [p] }) := by
    rw [hu]
    unfold readingRules
    rw [dif_pos m.isLt, if_neg (by omega)]
    have hpf : ¬ powerFailed s = true := by rw [powerFailed, hp]; exact Bool.false_ne_true
    exact (if_neg hpf).trans (if_neg (Nat.not_le.mpr hl))
  refine ⟨p, rfl, rfl, rfl, rfl, rfl, rfl, rfl, ?_⟩
  change execLegReading h m kind curve s = _
  unfold execLegReading
  rw [hostCmd_passes pass, hrules]
  have hony : (entered h s).onyx = s.onyx := by rw [hu]
  have hacc : (accepted (.legReading h m kind curve) h 0x3801 0x0100 (some (leBytes 4 o.counter)) s).onyx = s.onyx := hony
  dsimp only
  unfold modOnyx
  rw [hacc]
  rfl

theorem readingSnapshot_takes {c : Nat} {p : PendReading} (hp : s.onyx.pending.find? (fun x => x.counter == c && x.snap.isNone) = some p)
    (hf : p.frame + 8 < s.frame) : ∃ t, exec (.readingSnapshot c) s = .next t
      ∧ t.onyx.pending = s.onyx.pending.map (fun x => if x.counter = p.counter then { x with snap := some (recordBody s p) } else x)
      ∧ t.onyx.live = s.onyx.live := by
  refine ⟨takeSnapshot s p s, ?_, rfl, rfl⟩
  change execReadingSnapshot c s = _
  unfold execReadingSnapshot
  rw [hp]
  dsimp only
  rw [if_pos (Nat.le_of_lt hf), if_neg (Nat.ne_of_lt hf)]
  rfl

theorem readingSnapshot_waits {c : Nat} {p : PendReading} (hp : s.onyx.pending.find? (fun x => x.counter == c && x.snap.isNone) = some p)
    (hf : s.frame < p.frame + 8) : exec (.readingSnapshot c) s = .next s := by
  change execReadingSnapshot c s = _
  unfold execReadingSnapshot
  rw [hp]
  exact if_neg (Nat.not_le.mpr hf)

theorem signatureStart_eq {p : PendReading} (hp : s.onyx.pending.find? (fun x => x.start.isNone) = some p) (hu : s.sys.onyxUp = true)
    (hs : p.snap ≠ none) : exec .signatureStart s =
      let recent := s.onyx.starts.filter fun t => decide (s.frame < t + 8000)
      if recent.length < 20 then .next { s with onyx := { s.onyx with
        starts := s.frame :: recent
        pending := s.onyx.pending.map fun x => if x.counter = p.counter then { x with start := some s.frame } else x } } else .next s := by
  change execSignatureStart s = _
  unfold execSignatureStart
  rw [hp]
  dsimp only
  split
  · rename_i hgo
    rw [if_pos hgo.2.2]
    rfl
  · rename_i hgo
    rw [if_neg fun hn => hgo ⟨hu, Option.isSome_iff_ne_none.mpr hs, hn⟩]
    rfl

theorem legReadingReady_files {c : Nat} {p : PendReading} {b : List Byte}
    (hp : s.onyx.pending.find? (fun x => x.counter == c && x.start.isSome) = some p) (hb : p.snap = some b) (hr : p.restart = false) :
    ∃ t, exec (.legReadingReady c) s = .next t
      ∧ t.onyx.records = ((c, fit 144 b ++ signBody p.curve (fit 144 b)) :: s.onyx.records).take 64
      ∧ t.onyx.pending = s.onyx.pending.filter (fun x => x.counter != c)
      ∧ t.garnet.evNext = s.garnet.evNext ++ [(0x82, 13, p.slot * 256 + p.kind, c)] := by
  change ∃ t, execLegReadingReady c s = _ ∧ _
  unfold execLegReadingReady
  rw [hp]
  dsimp only
  rw [hr, hb]
  exact ⟨_, rfl, rfl, rfl, rfl⟩

/-- Settles O46. -/
theorem readingsAreSignedInOrder : Obligations.ReadingsAreSignedInOrder := by
  intro h s o
  obtain ⟨l, hu⟩ : ∃ l, entered h s = { s with link := l } := ⟨_, entered_eq h s⟩
  have hony : (entered h s).onyx = s.onyx := by rw [hu]
  refine ⟨fun m kind curve h1 h3 hc hp hl pass => legReading_accepted h h1 h3 hc hp hl pass, fun c p hp hf => readingSnapshot_takes hp hf,
    fun c p hp hf => readingSnapshot_waits hp hf, fun p hp hu hs => ⟨fun hn => ?_, fun hn => ?_⟩,
    fun c p b hp hb hr => legReadingReady_files hp hb hr, fun c x hn hx pass => ?_, fun c hc pass => ?_⟩
  · exact (signatureStart_eq hp hu hs).trans (if_pos hn)
  · exact (signatureStart_eq hp hu hs).trans (if_neg (Nat.not_lt.mpr hn))
  · have hnone : ¬ ((entered h s).onyx.pending.any fun (p : PendReading) => p.counter == c) = true := by
      rw [hony]
      intro ha
      obtain ⟨p, hp, he⟩ := List.any_eq_true.mp ha
      exact hn p hp (beq_iff_eq.mp he)
    change execLegReadingGet h c s = _
    unfold execLegReadingGet
    rw [hostCmd_accepts (d := 0) (res := some x.2) pass rfl rfl ?_]
    · rfl
    · refine (if_neg hnone).trans ?_
      rw [hony, show s.onyx.records.find? (fun y => y.1 == c) = some x from hx]
  · have hbusy : ((entered h s).onyx.pending.any fun (p : PendReading) => p.counter == c) = true := by
      rw [hony]
      obtain ⟨p, hp, he⟩ := hc
      exact List.any_eq_true.mpr ⟨p, hp, beq_iff_eq.mpr he⟩
    change execLegReadingGet h c s = _
    unfold execLegReadingGet
    rw [hostCmd_passes pass, if_pos hbusy]
    rfl

end Sys2Proof.Machine
end
section
/-! PROOF. The commands of Onyx (chapter 09). -/

namespace Sys2Proof.Machine

open Host (Outcome)

variable {s t : State}

/-! ### Legal access (R339, R340) -/

theorem closeAccess_closes (c : Nat) (s : State) : (closeAccess c s).onyx.access = none
    ∧ (s.onyx.access ≠ none → (closeAccess c s).onyx.staged = none) ∧ (closeAccess c s).onyx.sealHigh = s.onyx.sealHigh := by
  unfold closeAccess
  split
  · have h : LogOnly (modOnyx (fun o => { o with access := none, staged := none }) s) (ev 0x85 13 0 (c + 1) (logEntry 0x41 0xFF 0
        (leBytes 1 c) (modOnyx (fun o => { o with access := none, staged := none }) s))) := logOnly_logEntry.trans logOnly_ev
    exact ⟨h.keeps OnyxSt.access fun _ _ _ _ _ => rfl, fun _ => h.keeps OnyxSt.staged fun _ _ _ _ _ => rfl,
      h.keeps OnyxSt.sealHigh fun _ _ _ _ _ => rfl⟩
  · rename_i hn
    have hnone : s.onyx.access = none := by simpa using hn
    exact ⟨hnone, fun h => absurd hnone h, rfl⟩

theorem applyAccess_opens (s : State) : (applyAccess 1 s).onyx.access = some (s.frame + pget s 0x3803 0) := by
  unfold applyAccess
  rw [if_neg (by decide)]
  extract_lets e
  have h : LogOnly (modOnyx (fun o => { o with access := some e }) s)
      (ev 0x85 13 0 1 (logEntry 0x40 0xFF 0 [] (modOnyx (fun o => { o with access := some e }) s))) := logOnly_logEntry.trans logOnly_ev
  exact h.keeps OnyxSt.access fun _ _ _ _ _ => rfl

theorem accessTimeout_closes {f : Nat} (ha : s.onyx.access = some f) (hf : f ≤ s.frame) :
    ∃ t, exec .accessTimeout s = .next t ∧ t.onyx.access = none ∧ t.onyx.staged = none ∧ t.params = s.params := by
  obtain ⟨h1, h2, -⟩ := closeAccess_closes 2 s
  have hdue : expired s.onyx.access s.frame = true := by
    rw [ha]
    exact decide_eq_true hf
  exact ⟨closeAccess 2 s, if_pos hdue, h1, h2 (by rw [ha]; exact nofun), touches_closeAccess.same .params rfl⟩

theorem accessTimeout_waits {f : Nat} (ha : s.onyx.access = some f) (hf : s.frame < f) : exec .accessTimeout s = .next s := by
  refine if_neg fun h => ?_
  rw [ha] at h
  exact absurd (of_decide_eq_true h) (Nat.not_le.mpr hf)

theorem sealN_high (s : State) : ∃ t, exec (.sealN true) s = .next t ∧ t.onyx.sealHigh = true ∧ t.onyx.access = none := by
  obtain ⟨h1, -, h3⟩ := closeAccess_closes 3 (modOnyx (fun o => { o with sealHigh := true }) s)
  exact ⟨_, rfl, h3, h1⟩

theorem sealN_low (hv : s.sys.vioLow = false) : exec (.sealN false) s = .next { s with onyx := { s.onyx with sealHigh := false } } := by
  change ans (sealStamp false s) = _
  unfold sealStamp
  rw [hv]
  rfl

/-! ### The configuration (R343) -/

theorem applyCfgSeal_seals (hs : s.onyx.staged ≠ none) :
    (applyCfgSeal s).onyx.staged = none ∧ (applyCfgSeal s).mtr.pending ≠ none ∧ (applyCfgSeal s).params = s.params := by
  obtain ⟨st, hst⟩ := Option.ne_none_iff_exists'.mp hs
  have hp : (applyCfgSeal s).params = s.params := touches_applyCfgSeal.same .params rfl
  refine ⟨?_, ?_, hp⟩
  all_goals
    unfold applyCfgSeal
    rw [hst]
    dsimp -zeta only
    extract_lets l s1 s2 d s3
    have hm : s3.mtr = s2.mtr := touches_logEntry.same .mtr rfl
    have hm2 : s2.mtr = s1.mtr := touches_notePending.same .mtr rfl
    have hw : LogOnly (modOnyx (fun o => { o with staged := none }) s3) (writeSet (ev 0x86 13 0 1 (modOnyx (fun o => { o with staged := none }) s3))) :=
      logOnly_ev.trans logOnly_writeSet
    have hwm : (writeSet (ev 0x86 13 0 1 (modOnyx (fun o => { o with staged := none }) s3))).mtr = s3.mtr :=
      ((((Touches.refl [.queues, .outbox, .link, .flt, .onyx, .access] s3).then touches_modOnyx rfl).then touches_ev rfl).then
        touches_writeSet rfl).same .mtr rfl
  · exact hw.keeps OnyxSt.staged fun _ _ _ _ _ => rfl
  · rw [hwm, hm, hm2]
    exact nofun

/-! ### Tables and the time zone (R308, R317) -/

theorem applyTzSet_sets (v : Int) (hwf : storeWf s.params) : pget (applyTzSet v s) 0x3804 0 = leNat (leInt 2 v) := by
  unfold applyTzSet
  extract_lets old new
  have h : pget (logEntry 0x46 0xFF 0 (leBytes 2 old ++ leBytes 2 new) (pset 0x3804 0 new s)) 0x3804 0 = pget (pset 0x3804 0 new s) 0x3804 0 :=
    touches_logEntry.reads 0x3804 0 rfl rfl
  rw [h]
  exact pget_pset_same (by decide) 0 new hwf

theorem applyTariffLoad_installs {slot : Fin 4} {img : List Byte} (h : chunkImage [0, 128, 256, 384] s.onyx.loads[slot] = some img) :
    (applyTariffLoad slot s).onyx.tables[slot] = some img := by
  unfold applyTariffLoad
  rw [dif_pos slot.isLt]
  split
  · rename_i img' hi
    obtain rfl : img' = img := Option.some.inj (hi.symm.trans h)
    extract_lets s1
    have hl : LogOnly s1 (ev 0x87 13 0 (256 + slot.val) (logEntry 0x44 0xFF 0 (leBytes 1 slot.val ++ [0, 0, 0] ++ (img'.drop 508).take 4) s1)) :=
      logOnly_logEntry.trans logOnly_ev
    have ht : s1.onyx.tables[slot] = some img' := Vector.getElem_set_self ..
    rw [← ht]
    exact hl.keeps (fun o => o.tables[slot]) fun _ _ _ _ _ => rfl
  · rename_i hi
    exact absurd (hi.symm.trans h) nofun

theorem tariffLoadRules_takes {slot : Fin 4} {off : Nat} {data : List Byte} (ho : off ∈ [0, 128, 256, 384]) (hslot : pget s 0x3805 0 ≠ slot.val)
    (ha : auditFree s ≠ 0) (hi : ∀ img, chunkImage [0, 128, 256, 384] (putChunk off data s.onyx.loads[slot]) = some img → tableOk img = true) :
    tariffLoadRules slot off data s = .accept 0 none (modOnyx fun o => { o with loads := o.loads.set slot (putChunk off data s.onyx.loads[slot]) }) := by
  have hin : ¬ ¬ tableOffsets.contains off = true := fun hn => hn (List.contains_iff_mem.mpr ho)
  unfold tariffLoadRules
  rw [dif_pos slot.isLt, if_neg hin, if_neg hslot, if_neg ha]
  dsimp only
  split
  · rename_i img himg
    exact if_pos (hi img himg)
  · rfl

/-- Settles O47. -/
theorem onyxCommandsTakeEffect : Obligations.OnyxCommandsTakeEffect := by
  intro h s o
  obtain ⟨l, hu⟩ : ∃ l, entered h s = { s with link := l } := ⟨_, entered_eq h s⟩
  have hony : (entered h s).onyx = s.onyx := by rw [hu]
  have haudit (ha : auditFree s ≠ 0) : auditFree (entered h s) ≠ 0 := by
    rw [hu]
    exact ha
  have hacc (ha : o.access ≠ none) : ¬ (entered h s).onyx.access.isNone = true := by
    rw [hony]
    exact fun hn => ha (Option.isNone_iff_eq_none.mp hn)
  refine ⟨fun m codes h0 h32 hc hp => ?_, fun area n first ha h0 hn hp => ?_, fun m n first hm h0 hn hp => ?_, fun hp => ?_, fun v hp => ?_,
    fun hp => ?_, fun x hold hx hh hp => ?_, fun x hold u hx => ?_, fun hp => ?_, fun v h1 h2 ha hp => ?_, fun v u hwf => ?_,
    fun slot off data ho hd hs ha hi hp => ?_, fun slot off data img u hi => ?_, fun hsv hh ha hp => ?_, fun u => ?_, fun u => ?_,
    fun f hf ht => accessTimeout_closes hf ht, fun f hf ht => accessTimeout_waits hf ht, sealN_high s, fun hv => sealN_low hv,
    fun es ha hl hg hc hp => ?_, fun es u => ?_, fun ha hb hcal hst haf hbad hp => ?_, fun u hs => ?_, fun hst hp => ?_, fun u => ?_⟩
  · have hgo : ¬ (codes.length = 0 ∨ 32 < codes.length ∨ ¬ codes.all (regCodeOk (slotKind (entered h s) m)) = true) := by
      rw [hu]
      rintro (hn | hn | hn)
      · exact h0 (List.length_eq_zero_iff.mp hn)
      · exact absurd hn (Nat.not_lt.mpr h32)
      · exact hn hc
    change execLegRead h m codes.length codes s = _
    unfold execLegRead
    rw [hostCmd_accepts hp (decide_eq_true rfl) rfl ((if_neg (by omega)).trans (if_neg hgo))]
    rfl
  · change execLegLogRead h area n first s = _
    unfold execLegLogRead
    rw [hostCmd_accepts hp rfl rfl ((if_neg (by omega)).trans (if_neg (by omega)))]
    rfl
  · change execLegProfileRead h m n first s = _
    unfold execLegProfileRead
    rw [hostCmd_accepts hp rfl rfl ((if_neg (by omega)).trans (if_neg (by omega)))]
    rfl
  · change execLegInfo h s = _
    unfold execLegInfo
    rw [hostCmd_accepts hp rfl rfl rfl]
    rfl
  · change execLegClockSet h 1 v s = _
    unfold execLegClockSet
    rw [hostCmd_accepts hp rfl rfl rfl]
    rfl
  · change execLegClockRead h s = _
    unfold execLegClockRead
    rw [hostCmd_accepts hp rfl rfl rfl]
    rfl
  · change execLegTariffSet h x hold 0 0 s = _
    unfold execLegTariffSet
    rw [hostCmd_accepts hp rfl rfl ((if_neg (by omega)).trans (if_pos rfl))]
    rfl
  · rw [atEdge_legTariffSet, if_pos rfl]
    exact (selectTariff_takes (by omega) u).1
  · change execLegTariffInfo h s = _
    unfold execLegTariffInfo
    rw [hostCmd_accepts hp rfl rfl rfl]
    rfl
  · change execLegTzSet h v s = _
    unfold execLegTzSet
    rw [hostCmd_accepts hp rfl rfl ((if_neg fun hn => hn ⟨h1, h2⟩).trans (if_neg (haudit ha)))]
    rfl
  · rw [atEdge_legTzSet]
    exact applyTzSet_sets v hwf
  · have hrules := tariffLoadRules_takes (s := entered h s) (slot := slot) (data := data) ho (by rw [hu]; exact hs) (haudit ha)
      (by rw [hony]; exact hi)
    rw [hony] at hrules
    change execLegTariffLoadX h slot off data s = _
    unfold execLegTariffLoadX
    rw [show decide (data.length = 128) = true from decide_eq_true hd, hostCmd_passes hp, hrules]
    have hacc : (accepted (.legTariffLoadX h slot off data) h 0x3880 0 none s).onyx = s.onyx := hony
    dsimp only
    unfold modOnyx
    rw [hacc]
    rfl
  · rw [atEdge_legTariffLoadX]
    exact applyTariffLoad_installs hi
  · have hopen : ¬ ((entered h s).sys.service ≠ .full ∨ (entered h s).onyx.sealHigh = true) := by
      rw [hu]
      exact fun hn => hn.elim (fun hn => hn hsv) fun hn => absurd (hh.symm.trans hn) Bool.false_ne_true
    have hroom : ¬ auditFree (entered h s) < 3 := by
      rw [hu]
      exact Nat.not_lt.mpr ha
    change execLegAccessX h 1 s = _
    unfold execLegAccessX
    rw [hostCmd_accepts hp rfl rfl ((if_neg (by decide)).trans ((if_neg (by decide)).trans ((if_neg hopen).trans (if_neg hroom))))]
    rfl
  · rw [atEdge_legAccessX]
    exact applyAccess_opens u
  · rw [atEdge_legAccessX]
    obtain ⟨h1, h2, -⟩ := closeAccess_closes 1 u
    exact ⟨h1, h2⟩
  · have hrules : cfgStageRules es (entered h s) = .accept 0 (some (writeResult es.length 0xFF 0)) id := by
      unfold cfgStageRules
      rw [if_neg (hacc ha), firstFail_eq_none hc]
    change execLegCfgStageX h es.length es s = _
    unfold execLegCfgStageX
    rw [hostCmd_accepts hp hl hg hrules]
    rfl
  · rw [atEdge_legCfgStageX]
    exact nofun
  · have hrules : cfgSealRules (entered h s) = .accept 0 (some [0xFF, 0, 0, 0]) id := by
      have hfree : ¬ (slotBusy (entered h s) 0 = true ∨ anyCal (entered h s) = true) := by
        rw [hu]
        exact fun hn => hn.elim (fun hn => absurd (hb.symm.trans hn) Bool.false_ne_true) fun hn => absurd (hcal.symm.trans hn) Bool.false_ne_true
      have hstaged : ¬ (entered h s).onyx.staged.isNone = true := by
        rw [hony]
        exact fun hn => hst (Option.isNone_iff_eq_none.mp hn)
      have hgood : ¬ cfgFirstBad (entered h s) ≠ 0xFF := by
        rw [hu]
        exact fun hn => hn hbad
      exact (if_neg (hacc ha)).trans ((if_neg hfree).trans ((if_neg hstaged).trans ((if_neg (haudit haf)).trans (if_neg hgood))))
    change execLegCfgSealX h s = _
    unfold execLegCfgSealX
    rw [hostCmd_accepts hp rfl rfl hrules]
    rfl
  · rw [atEdge_legCfgSealX]
    exact applyCfgSeal_seals hs
  · have hstaged : ¬ (entered h s).onyx.staged.isNone = true := by
      rw [hony]
      exact fun hn => hst (Option.isNone_iff_eq_none.mp hn)
    change execLegCfgDiscardX h s = _
    unfold execLegCfgDiscardX
    rw [hostCmd_accepts hp rfl rfl (if_neg hstaged)]
    rfl
  · rw [atEdge_legCfgDiscardX]
    rfl

end Sys2Proof.Machine
end
section
/-! PROOF. Residual direct current and protective earth (chapter 10). -/

namespace Sys2Proof.Machine

open Host (Outcome)

variable {s t : State} {k : Fin 8}

theorem efiRuns_not_fenced (h : efiRuns s k = true) : fencedDomain s k = false := by
  unfold efiRuns at h
  simpa using (Bool.and_eq_true_iff.mp h).2

/-! ### Residual direct current (R348 to R353) -/

theorem rdcTrip_eq (n : Nat) (s : State) : rdcTrip k n s = { s with
    efi := { s.efi with rdc := s.efi.rdc.set k { s.efi.rdc[k] with tripped := some s.frame } }
    garnet := { s.garnet with trips := s.garnet.trips.set k (some s.frame)
                              evNext := s.garnet.evNext ++ [(0x90, k.val, 0, n * 2 ^ 24 + leNat (leInt 2 (tenths s.efi.rdc[k].dc)))] } } := rfl

theorem efiRdcTrip_eq (ha : rdcActive s k = true) (hr : efiRuns s k = true) : exec (.efiRdcTrip k) s =
    if s.efi.rdc[k].tripped = none then match rdcStage s k with
      | some n => .next (rdcTrip k n s)
      | none => .next s
    else .next s := by
  change execEfiRdcTrip k s = _
  unfold execEfiRdcTrip
  rw [ha, hr]
  simp only [Bool.true_and, Option.isNone_iff_eq_none]
  rfl

theorem rdcSelfTestEnd_judges {e : Nat} (he : s.efi.rdc[k].testEnd = some e) (hf : e ≤ s.frame) (hn : s.efi.rdc[k].fault = false) :
    let r := s.efi.rdc[k]
    let x := meanOf 160 r.win - r.offset
    let ok := decide (8 ≤ x ∧ x ≤ 12)
    exec (.rdcSelfTestEnd k) s = .next (ev 0x92 k 0 (leNat (leSat 2 (tenths (absRat x)).toNat) * 2 ^ 16 + (if ok then 0 else 1))
      { s with efi := { s.efi with rdc := s.efi.rdc.set k { r with testEnd := none, passed := r.passed || ok, failed := !ok, lastTest := x } } }) := by
  intro r x ok
  have hdue : expired r.testEnd s.frame = true := by
    rw [show r.testEnd = some e from he]
    exact decide_eq_true hf
  have hstands : ({ r with testEnd := none, passed := r.passed || ok, failed := !ok, lastTest := x
                           fault := r.fault && !(ok && r.fault && r.faultA), faultA := r.faultA && !(ok && r.fault && r.faultA)
                           tripped := if (ok && r.fault && r.faultA) = true then none else r.tripped } : RdcSt)
      = { r with testEnd := none, passed := r.passed || ok, failed := !ok, lastTest := x } := by
    rw [show r.fault = false from hn]
    simp
  have hrow : exec (.rdcSelfTestEnd k) s = .next (ev 0x92 k 0 (leNat (leSat 2 (tenths (absRat x)).toNat) * 2 ^ 16 + (if ok then 0 else 1))
      { s with efi := { s.efi with rdc := s.efi.rdc.set k { r with
                           testEnd := none, passed := r.passed || ok, failed := !ok, lastTest := x
                           fault := r.fault && !(ok && r.fault && r.faultA), faultA := r.faultA && !(ok && r.fault && r.faultA)
                           tripped := if (ok && r.fault && r.faultA) = true then none else r.tripped } } }) := if_pos hdue
  rw [hrow, hstands]

/-! ### Protective earth (R366, R367) -/

/-- The state in which a measurement of the earth has been taken and not been judged yet. -/
def peMeasured (k : Fin 8) (mOhm : Nat) (s : State) : State :=
  modPe k (fun p => { p with next := frameAfter s.frame 8000, known := true, last := mOhm
                             bad := if decide (pget s 0x4052 k < mOhm) then p.bad + 1 else 0
                             good := if decide (pget s 0x4052 k < mOhm) then 0 else p.good + 1 }) s

theorem modPe_self (f : PeSt → PeSt) (s : State) : (modPe k f s).efi.pe[k] = f s.efi.pe[k] := upd_self ..

theorem peMeasurement_eq {mOhm : Nat} (hr : efiRuns s k = true) (hp : pget s 0x4051 0 / 2 ^ k.val % 2 = 1) (hn : s.efi.pe[k].next ≤ s.frame) :
    let u := peMeasured k mOhm s
    exec (.peMeasurement k mOhm) s =
      if 3 ≤ u.efi.pe[k].bad ∧ ¬ u.efi.pe[k].failed = true then
        let v := evNext 0x97 k 0 mOhm (modPe k (fun p => { p with failed := true }) u)
        .next (if mainClosed v k then tripOutlet k v else v)
      else if 3 ≤ u.efi.pe[k].good ∧ u.efi.pe[k].failed = true then
        .next (evNext 0x98 k 0 mOhm (modPe k (fun p => { p with failed := false }) u))
      else .next u := by
  have hgo : pget s 0x4051 0 / 2 ^ k.val % 2 = 1 ∧ efiRuns s k = true ∧ s.efi.pe[k].next ≤ s.frame := ⟨hp, hr, hn⟩
  intro u
  have hrow : exec (.peMeasurement k mOhm) s = _ := if_pos hgo
  rw [hrow]
  dsimp only [u, peMeasured]
  split
  · rfl
  · split <;> rfl

theorem peMeasured_self (mOhm : Nat) (s : State) : (peMeasured k mOhm s).efi.pe[k] = { s.efi.pe[k] with
    next := frameAfter s.frame 8000, known := true, last := mOhm
    bad := if decide (pget s 0x4052 k < mOhm) then s.efi.pe[k].bad + 1 else 0
    good := if decide (pget s 0x4052 k < mOhm) then 0 else s.efi.pe[k].good + 1 } := modPe_self ..

theorem peMeasurement_rows (hr : efiRuns s k = true) (hp : pget s 0x4051 0 / 2 ^ k.val % 2 = 1) (hn : s.efi.pe[k].next ≤ s.frame) :
    let p := s.efi.pe[k]
    let limit := pget s 0x4052 k
    (∀ mOhm, limit < mOhm → 2 ≤ p.bad → p.failed = false → ∃ t, exec (.peMeasurement k mOhm) s = .next t
        ∧ t.efi.pe[k].failed = true ∧ t.efi.pe[k].last = mOhm ∧ t.efi.pe[k].next = frameAfter s.frame 8000
        ∧ t.garnet.evNext = s.garnet.evNext ++ [(0x97, k.val, 0, mOhm)] ∧ t.efi.rdc = s.efi.rdc
        ∧ t.garnet.trips = if mainClosed s k then s.garnet.trips.set k (some s.frame) else s.garnet.trips)
      ∧ (∀ mOhm, mOhm ≤ limit → 2 ≤ p.good → p.failed = true → ∃ t, exec (.peMeasurement k mOhm) s = .next t
        ∧ t.efi.pe[k].failed = false ∧ t.garnet.evNext = s.garnet.evNext ++ [(0x98, k.val, 0, mOhm)] ∧ t.garnet.trips = s.garnet.trips)
      ∧ (∀ mOhm, limit < mOhm → p.bad < 2 → ∃ t, exec (.peMeasurement k mOhm) s = .next t
        ∧ t.efi.pe[k].failed = p.failed ∧ t.efi.pe[k].bad = p.bad + 1 ∧ t.efi.pe[k].good = 0 ∧ t.garnet = s.garnet) := by
  intro p limit
  have hrow (mOhm : Nat) := peMeasurement_eq (mOhm := mOhm) hr hp hn
  have hself (mOhm : Nat) := peMeasured_self (k := k) mOhm s
  refine ⟨fun mOhm hl hb hf => ?_, fun mOhm hl hg hf => ?_, fun mOhm hl hb => ?_⟩
  · have hrow := hrow mOhm
    have hself := hself mOhm
    simp only [if_pos (decide_eq_true (show pget s 0x4052 k < mOhm from hl))] at hself
    have hbad : 3 ≤ (peMeasured k mOhm s).efi.pe[k].bad ∧ ¬ (peMeasured k mOhm s).efi.pe[k].failed = true := by
      rw [hself]
      exact ⟨Nat.succ_le_succ hb, fun h => absurd (hf.symm.trans h) Bool.false_ne_true⟩
    have hfail := modPe_self (k := k) (fun p => { p with failed := true }) (peMeasured k mOhm s)
    rw [hself] at hfail
    refine ⟨_, hrow.trans (if_pos hbad), ?_⟩
    have hclosed : mainClosed (evNext 0x97 k 0 mOhm (modPe k (fun p => { p with failed := true }) (peMeasured k mOhm s))) k = mainClosed s k := rfl
    rw [hclosed]
    have hpe (v : State) (hv : v.efi = (modPe k (fun p => { p with failed := true }) (peMeasured k mOhm s)).efi) :
        v.efi.pe[k].failed = true ∧ v.efi.pe[k].last = mOhm ∧ v.efi.pe[k].next = frameAfter s.frame 8000 := by
      rw [hv, hfail]
      exact ⟨rfl, rfl, rfl⟩
    by_cases hm : mainClosed s k = true
    · rw [if_pos hm, if_pos hm]
      obtain ⟨h1, h2, h3⟩ := hpe (tripOutlet k (evNext 0x97 k 0 mOhm (modPe k (fun p => { p with failed := true }) (peMeasured k mOhm s)))) rfl
      exact ⟨h1, h2, h3, rfl, rfl, rfl⟩
    · rw [if_neg hm, if_neg hm]
      obtain ⟨h1, h2, h3⟩ := hpe (evNext 0x97 k 0 mOhm (modPe k (fun p => { p with failed := true }) (peMeasured k mOhm s))) rfl
      exact ⟨h1, h2, h3, rfl, rfl, rfl⟩
  · have hrow := hrow mOhm
    have hself := hself mOhm
    simp only [if_neg (show ¬ decide (pget s 0x4052 k < mOhm) = true from fun h => absurd (of_decide_eq_true h) (Nat.not_lt.mpr hl))] at hself
    have hbad : ¬ (3 ≤ (peMeasured k mOhm s).efi.pe[k].bad ∧ ¬ (peMeasured k mOhm s).efi.pe[k].failed = true) := by
      rw [hself]
      exact fun h => absurd (show 3 ≤ 0 from h.1) (by decide)
    have hgood : 3 ≤ (peMeasured k mOhm s).efi.pe[k].good ∧ (peMeasured k mOhm s).efi.pe[k].failed = true := by
      rw [hself]
      exact ⟨Nat.succ_le_succ hg, hf⟩
    have hheal := modPe_self (k := k) (fun p => { p with failed := false }) (peMeasured k mOhm s)
    exact ⟨_, hrow.trans ((if_neg hbad).trans (if_pos hgood)), congrArg PeSt.failed hheal, rfl, rfl⟩
  · have hrow := hrow mOhm
    have hself := hself mOhm
    simp only [if_pos (decide_eq_true (show pget s 0x4052 k < mOhm from hl))] at hself
    have hbad : ¬ (3 ≤ (peMeasured k mOhm s).efi.pe[k].bad ∧ ¬ (peMeasured k mOhm s).efi.pe[k].failed = true) := by
      rw [hself]
      exact fun h => absurd (show 3 ≤ p.bad + 1 from h.1) (by omega)
    have hgood : ¬ (3 ≤ (peMeasured k mOhm s).efi.pe[k].good ∧ (peMeasured k mOhm s).efi.pe[k].failed = true) := by
      rw [hself]
      exact fun h => absurd (show 3 ≤ 0 from h.1) (by decide)
    refine ⟨peMeasured k mOhm s, hrow.trans ((if_neg hbad).trans (if_neg hgood)), ?_⟩
    rw [hself]
    exact ⟨rfl, rfl, rfl, rfl⟩

/-- Settles O48. -/
theorem residualCurrentAndEarthAreSupervised : Obligations.ResidualCurrentAndEarthAreSupervised := by
  intro k s hr r p withRdc full limit
  obtain hnf := efiRuns_not_fenced hr
  have hstage (n : Nat) (hn : full n = true) : rdcStage s k = some n := by
    match n, hn with
    | 1, hn => exact if_pos (of_decide_eq_true hn)
    | 2, hn =>
      obtain ⟨h1, h2⟩ := of_decide_eq_true hn
      exact (if_neg (Nat.not_le.mpr h1)).trans (if_pos h2)
    | 3, hn =>
      obtain ⟨h1, h2, h3⟩ := of_decide_eq_true hn
      exact (if_neg (Nat.not_le.mpr h1)).trans ((if_neg (Nat.not_le.mpr h2)).trans (if_pos h3))
  have hquiet (hn : ∀ n, full n = false) : rdcStage s k = none := by
    have h1 : ¬ pget s 0x4042 0 ≤ r.run1 := of_decide_eq_false (hn 1)
    have h2 : ¬ pget s 0x4043 0 ≤ r.run2 := fun h => of_decide_eq_false (hn 2) ⟨Nat.not_le.mp h1, h⟩
    have h3 : ¬ pget s 0x4044 0 ≤ r.run3 := fun h => of_decide_eq_false (hn 3) ⟨Nat.not_le.mp h1, Nat.not_le.mp h2, h⟩
    exact (if_neg h1).trans ((if_neg h2).trans (if_neg h3))
  refine ⟨fun ha => ⟨fun n hn ht => ?_, fun hno => ?_, fun hw ht hst hz => ?_, fun hz hno => ?_, fun n hn hf => ?_, fun h hst hp => ?_⟩,
    fun h => ?_, fun e he ht hf => rdcSelfTestEnd_judges he ht hf, fun e he ht => ?_, fun hp hn => peMeasurement_rows hr hp hn, fun mOhm hn => ?_⟩
  · refine ⟨rdcTrip k n s, (efiRdcTrip_eq ha hr).trans ((if_pos ht).trans ?_), rfl, Vector.getElem_set_self .., rfl, rfl, rfl, rfl⟩
    rw [hstage n hn]
  · refine (efiRdcTrip_eq ha hr).trans ?_
    split
    · rename_i ht
      rw [hquiet (hno.resolve_left fun h => h ht)]
    · rfl
  · have hgo : (rdcActive s k && efiRuns s k && decide (rdcW s k ≤ r.win.length) && r.testEnd.isNone
        && ((s.outlets[k].st == .idle && (!r.zeroed || decide (r.nextOfs ≤ s.frame))) || (s.outlets[k].st == .unavailable && !r.zeroed))) = true := by
      rw [ha, hr, decide_eq_true hw, ht, hst]
      rcases hz with h | h <;> simp [h]
    exact if_pos hgo
  · have hgo : ¬ (rdcActive s k && efiRuns s k && decide (rdcW s k ≤ r.win.length) && r.testEnd.isNone
        && ((s.outlets[k].st == .idle && (!r.zeroed || decide (r.nextOfs ≤ s.frame))) || (s.outlets[k].st == .unavailable && !r.zeroed))) = true := by
      rw [hz]
      rcases hno with h | h
      · rw [decide_eq_false (Nat.not_le.mpr h)]
        simp
      · rw [beq_false_of_ne h]
        simp
    exact if_neg hgo
  · have hgo : (rdcActive s k && efiRuns s k && !r.fault) = true := by
      rw [ha, hr, hf]
      rfl
    have hself : (upd s.efi.rdc k fun r => { r with fault := true, faultA := false })[k] = { r with fault := true, faultA := false } := upd_self ..
    have hrow : exec (.efiRdcFault k) s = .next (rdcTrip k 4 (evNext 0x91 k 0 n (modRdc k (fun r => { r with fault := true, faultA := false }) s))) := by
      refine (if_pos hgo).trans ?_
      rw [hn]
      rfl
    refine ⟨_, hrow, ?_, Vector.getElem_set_self .., ?_⟩
    · rw [rdcTrip_eq]
      change (upd s.efi.rdc k _).set k { (upd s.efi.rdc k _)[k] with tripped := some s.frame } = _
      rw [hself]
      exact Vector.set_set ..
    · rw [rdcTrip_eq]
      change (s.garnet.evNext ++ _) ++ [(0x90, k.val, 0, 4 * 2 ^ 24 + leNat (leInt 2 (tenths (upd s.efi.rdc k _)[k].dc)))] = _
      rw [hself, List.append_assoc]
      rfl
  · obtain ⟨l, hu⟩ : ∃ l, entered h s = { s with link := l } := ⟨_, entered_eq h s⟩
    have hrules : rdcTestRules k (entered h s) = .accept 0x0100 none id := by
      have h1 : ¬ fencedDomain (entered h s) k = true := by
        rw [hu]
        exact fun h => absurd (hnf.symm.trans h) Bool.false_ne_true
      have h2 : ¬ ¬ rdcActive (entered h s) k = true := by
        rw [hu]
        exact fun h => h ha
      have h3 : (entered h s).outlets[k].st = .idle ∨ (entered h s).outlets[k].st = .connected ∨ (entered h s).outlets[k].st = .ended := by
        rw [hu]
        exact hst
      unfold rdcTestRules
      rw [dif_pos k.isLt]
      exact (if_neg h1).trans ((if_neg h2).trans (if_pos h3))
    change execEfiRdcTest h k s = _
    unfold execEfiRdcTest
    rw [hostCmd_accepts hp rfl rfl hrules]
    rfl
  · rw [atEdge_efiRdcTest]
    unfold applyRdcTest
    rw [dif_pos k.isLt]
    rfl
  · refine if_neg fun h => ?_
    rw [show s.efi.rdc[k].testEnd = some e from he] at h
    exact absurd (of_decide_eq_true h) (Nat.not_le.mpr ht)
  · exact if_neg fun h => absurd h.2.2 (Nat.not_le.mpr hn)

end Sys2Proof.Machine
end
section
/-! PROOF. Insulation monitoring (chapter 10). -/

namespace Sys2Proof.Machine

open Host (Outcome)

variable {s t : State} {k : Fin 8} {p : Fin 4}

/-! ### Rules of the records -/

theorem modImd_self (f : ImdSt → ImdSt) (s : State) : (modImd k f s).efi.imd[k] = f s.efi.imd[k] := upd_self ..

theorem modIm_self (f : ImPort → ImPort) (s : State) : (modIm p f s).efi.ports[p] = f s.efi.ports[p] := upd_self ..

/-! ### Trips (R364) -/

theorem imdTrip_trips {path q : Nat} (ht : s.efi.imd[k].tripped = false) :
    ImdTripped k (path * 2 ^ 28 + (if path = 1 ∨ path = 2 then q % 2 ^ 28 else 0)) s (imdTrip k path q s) := by
  have hself := modImd_self (k := k) (fun i => { i with tripped := true, status := 2 }) s
  unfold imdTrip
  rw [ht]
  rw [if_neg Bool.false_ne_true]
  exact ⟨congrArg ImdSt.tripped hself, congrArg ImdSt.status hself, Vector.getElem_set_self .., rfl, rfl⟩

/-- A trip is one of the state before what only the measurement's own records have changed. -/
theorem ImdTripped.of_efi {n : Nat} {u : State} (h : ImdTripped k n u t) (hg : u.garnet = s.garnet) (hf : u.frame = s.frame) (hp : u.params = s.params) :
    ImdTripped k n s t := by
  obtain ⟨h1, h2, h3, h4, h5⟩ := h
  exact ⟨h1, h2, h3.trans (by rw [hf]), h4.trans (by rw [hg]), h5.trans hp⟩

/-! ### Slices (R356 to R361) -/

theorem releasePort_frees (ho : s.efi.ports[p].outlet = some k) : releasePort p s =
    let e := frameAfter s.frame 1
    modIm p (fun x => { x with outlet := none, freeAt := e, results := 0 })
      (modImd k (fun i => { i with port := none, lastEnd := if s.efi.ports[p].cable then e else s.frame }) s) := by
  unfold releasePort
  split
  · rename_i hn
    exact absurd (hn.symm.trans ho) nofun
  · rename_i j hj
    obtain rfl : j = k := Option.some.inj (hj.symm.trans ho)
    rfl

theorem portFault_efi {how : Nat} (ho : s.efi.ports[p].outlet = some k) : (portFault p how s).efi =
    (modIm p (fun x => { x with outlet := none, faulty := true, testing := false, results := 0
                                freeAt := frameAfter s.frame 1, nextTest := frameAfter s.frame 480000 })
      (modImd k (fun i => { i with port := none, head := true, request := if s.efi.ports[p].cable then some s.frame else i.request }) s)).efi := by
  unfold portFault
  extract_lets f cable s1 s2
  have h1 : s1 = modImd k (fun i => { i with port := none, head := true, request := if s.efi.ports[p].cable then some s.frame else i.request }) s := by
    dsimp only [s1]
    split
    · rename_i hn
      exact absurd (hn.symm.trans ho) nofun
    · rename_i j hj
      obtain rfl : j = k := Option.some.inj (hj.symm.trans ho)
      rfl
  have hlast : (objFailure 3 p 12 0x95 (ev 0x95 12 0 (how * 256 + p.val) s2)).efi = s2.efi :=
    (((Touches.refl [.queues, .outbox, .link, .flt] s2).then touches_ev rfl).then touches_objFailure rfl).same .efi rfl
  rw [hlast, ← h1]

theorem portFault_idle_efi {how : Nat} (ho : s.efi.ports[p].outlet = none) : (portFault p how s).efi =
    (modIm p (fun x => { x with outlet := none, faulty := true, testing := false, results := 0
                                freeAt := frameAfter s.frame 1, nextTest := frameAfter s.frame 480000 }) s).efi := by
  unfold portFault
  extract_lets f cable s1 s2
  have h1 : s1 = s := by
    dsimp only [s1]
    rw [ho]
  have hlast : (objFailure 3 p 12 0x95 (ev 0x95 12 0 (how * 256 + p.val) s2)).efi = s2.efi :=
    (((Touches.refl [.queues, .outbox, .link, .flt] s2).then touches_ev rfl).then touches_objFailure rfl).same .efi rfl
  rw [hlast]
  dsimp only [s2]
  rw [h1]

theorem portAssignment_assigns {rest : List (Fin 8)} (hr : imReady s p = true) (ho : s.efi.ports[p].outlet = none) (hf : s.efi.ports[p].freeAt ≤ s.frame)
    (hc : imCandidates s = k :: rest) : ∃ t, exec (.portAssignment p) s = .next t ∧ t.efi.ports[p].outlet = some k
      ∧ t.efi.ports[p].start = frameAfter s.frame 1 ∧ t.efi.ports[p].cable = (s.outlets[k].st == .cableCheck) ∧ t.efi.imd[k].port = some p
      ∧ t.efi.rdc = s.efi.rdc ∧ t.garnet = s.garnet ∧ t.outlets = s.outlets := by
  have hgo : (imReady s p && s.efi.ports[p].outlet.isNone && decide (s.efi.ports[p].freeAt ≤ s.frame)) = true := by
    rw [hr, ho, decide_eq_true hf]
    rfl
  have hport := modIm_self (p := p) (fun x => { x with outlet := some k, start := frameAfter s.frame 1, cable := s.outlets[k].st == .cableCheck, results := 0 })
    (modImd k (fun i => { i with port := some p, head := false, request := none }) s)
  have himd := modImd_self (k := k) (fun i => { i with port := some p, head := false, request := none }) s
  refine ⟨_, ?_, congrArg ImPort.outlet hport, congrArg ImPort.start hport, congrArg ImPort.cable hport, congrArg ImdSt.port himd, rfl, rfl, rfl⟩
  change execPortAssignment p s = _
  unfold execPortAssignment
  dsimp only
  rw [if_pos hgo, hc]
  rfl

theorem portAssignment_waits (h : imReady s p = false ∨ s.efi.ports[p].outlet ≠ none ∨ s.frame < s.efi.ports[p].freeAt) :
    exec (.portAssignment p) s = .next s := by
  refine if_neg fun hgo => ?_
  obtain ⟨hab, hc⟩ := Bool.and_eq_true_iff.mp hgo
  obtain ⟨ha, hb⟩ := Bool.and_eq_true_iff.mp hab
  rcases h with h | h | h
  · exact absurd (h.symm.trans ha) Bool.false_ne_true
  · exact h (Option.isNone_iff_eq_none.mp hb)
  · exact absurd (of_decide_eq_true hc) (Nat.not_le.mpr h)

theorem sliceReadbackFail_faults (ho : s.efi.ports[p].outlet = some k) (h1 : s.efi.ports[p].start ≤ s.frame) (h2 : s.frame ≤ s.efi.ports[p].start + 159) :
    ∃ t, exec (.sliceReadbackFail p) s = .next t ∧ t.efi.ports[p].outlet = none
        ∧ t.efi.ports[p].faulty = true ∧ t.efi.imd[k].port = none ∧ t.efi.imd[k].head = true ∧ t.efi.imd[k].lastEnd = s.efi.imd[k].lastEnd
        ∧ t.efi.imd[k].tripped = s.efi.imd[k].tripped := by
  have hgo : s.efi.ports[p].outlet.isSome = true ∧ s.efi.ports[p].start ≤ s.frame ∧ s.frame ≤ s.efi.ports[p].start + 159 := ⟨by rw [ho]; rfl, h1, h2⟩
  have hefi := portFault_efi (how := 1) ho
  have himd := modImd_self (k := k) (fun i => { i with port := none, head := true, request := if s.efi.ports[p].cable then some s.frame else i.request }) s
  refine ⟨portFault p 1 s, if_pos hgo, ?_⟩
  rw [hefi]
  have hport := modIm_self (p := p) (fun x => { x with
      outlet := none, faulty := true, testing := false, results := 0
      freeAt := frameAfter s.frame 1, nextTest := frameAfter s.frame 480000 })
      (modImd k (fun i => { i with port := none, head := true, request := if s.efi.ports[p].cable then some s.frame else i.request }) s)
  generalize hu : modImd k (fun i => { i with port := none, head := true, request := if s.efi.ports[p].cable then some s.frame else i.request }) s = u
    at himd hport ⊢
  obtain ⟨h1, h2, h3, h4⟩ : u.efi.imd[k].port = none ∧ u.efi.imd[k].head = true ∧ u.efi.imd[k].lastEnd = s.efi.imd[k].lastEnd
      ∧ u.efi.imd[k].tripped = s.efi.imd[k].tripped := by
    rw [himd]
    exact ⟨rfl, rfl, rfl, rfl⟩
  exact ⟨congrArg ImPort.outlet hport, congrArg ImPort.faulty hport, h1, h2, h3, h4⟩

theorem sliceEnd_ends (ho : s.efi.ports[p].outlet = some k) (hc : s.efi.ports[p].cable = false) (hf : s.efi.ports[p].start + pget s 0x404C 0 ≤ s.frame) :
    ∃ t, exec (.sliceEnd p) s = .next t ∧ t.efi.ports[p].outlet = none ∧ t.efi.ports[p].freeAt = frameAfter s.frame 1 ∧ t.efi.imd[k].port = none
      ∧ t.efi.imd[k].lastEnd = s.frame ∧ t.garnet = s.garnet := by
  have hgo : s.efi.ports[p].outlet.isSome = true ∧ ¬ s.efi.ports[p].cable = true ∧ s.efi.ports[p].start + pget s 0x404C 0 ≤ s.frame :=
    ⟨by rw [ho]; rfl, by rw [hc]; exact Bool.false_ne_true, hf⟩
  have hrow : exec (.sliceEnd p) s = .next (releasePort p s) := if_pos hgo
  rw [releasePort_frees ho, hc] at hrow
  have himd := modImd_self (k := k) (fun i => { i with port := none, lastEnd := if false = true then frameAfter s.frame 1 else s.frame }) s
  have hport := modIm_self (p := p) (fun x => { x with outlet := none, freeAt := frameAfter s.frame 1, results := 0 })
      (modImd k (fun i => { i with port := none, lastEnd := if false = true then frameAfter s.frame 1 else s.frame }) s)
  exact ⟨_, hrow, congrArg ImPort.outlet hport, congrArg ImPort.freeAt hport, congrArg ImdSt.port himd, congrArg ImdSt.lastEnd himd, rfl⟩

/-! ### Results (R359, R362, R363) -/

/-- A result of an outlet's slice as it is taken, before it is judged. -/
def resultTaken (p : Fin 4) (k : Fin 8) (r : Nat) (s : State) : State :=
  modImd k (fun i => { i with result := some (r, s.frame), base := s.frame }) (modIm p (fun x => { x with results := x.results + 1 }) s)

theorem resultTaken_imd (p : Fin 4) (k : Fin 8) (r : Nat) (s : State) :
    (resultTaken p k r s).efi.imd[k] = { s.efi.imd[k] with result := some (r, s.frame), base := s.frame } := modImd_self ..

theorem resultTaken_port (p : Fin 4) (k : Fin 8) (r : Nat) (s : State) :
    (resultTaken p k r s).efi.ports[p] = { s.efi.ports[p] with results := s.efi.ports[p].results + 1 } := upd_self ..

theorem insulationResult_eq {q : Nat} (ho : s.efi.ports[p].outlet = some k) (hq : q ≤ 10000)
    (hd : s.efi.ports[p].start + 160 + (2 + s.efi.ports[p].results) * pget s 0x404B 0 ≤ s.frame) : exec (.insulationResult p q) s =
      if s.efi.ports[p].cable = true then
        (if s.outlets[k].st = .cableCheck then .next (cableDecide k q (resultTaken p k q s)) else .next (resultTaken p k q s))
      else if imdEnergised s k = true then .next (sliceDecide k q (resultTaken p k q s)) else .next (resultTaken p k q s) := by
  change execInsulationResult p q s = _
  unfold execInsulationResult
  dsimp only
  rw [ho, Nat.min_eq_left hq]
  refine (if_pos hd).trans ?_
  simp only [show ∀ (a b : Sess), (a == b) = true ↔ a = b from fun _ _ => beq_iff_eq]
  rfl

theorem insulationResult_waits {q : Nat} (ho : s.efi.ports[p].outlet = some k)
    (hd : s.frame < s.efi.ports[p].start + 160 + (2 + s.efi.ports[p].results) * pget s 0x404B 0) : exec (.insulationResult p q) s = .next s := by
  change execInsulationResult p q s = _
  unfold execInsulationResult
  dsimp only
  rw [ho]
  exact if_neg (Nat.not_le.mpr hd)

theorem imdFaultOhm_resultTaken {q : Nat} : imdFaultOhm (resultTaken p k q s) k = imdFaultOhm s k := by
  unfold imdFaultOhm
  rw [resultTaken_imd]
  rfl

theorem imdWarnOhm_resultTaken {q : Nat} : imdWarnOhm (resultTaken p k q s) k = imdWarnOhm s k := by
  unfold imdWarnOhm
  rw [resultTaken_imd]
  rfl

theorem sliceDecide_faults {q : Nat} (hq : q * 1000 < imdFaultOhm s k) : sliceDecide k q s = imdTrip k 1 q s := if_pos hq

theorem sliceDecide_good {q : Nat} (hq : imdFaultOhm s k ≤ q * 1000) : let t := sliceDecide k q s
    t.efi.imd[k] = { s.efi.imd[k] with
        warned := decide (q * 1000 < imdWarnOhm s k)
        status := if s.efi.imd[k].tripped then 2 else if decide (q * 1000 < imdWarnOhm s k) then 1 else 0 }
      ∧ t.garnet = s.garnet ∧ t.outlets = s.outlets := by
  have hself := modImd_self (k := k) (fun i => { i with
        warned := decide (q * 1000 < imdWarnOhm s k)
        status := if i.tripped then 2 else if decide (q * 1000 < imdWarnOhm s k) then 1 else 0 }) s
  intro t
  have ht : sliceDecide k q s = t := rfl
  unfold sliceDecide at ht
  rw [if_neg (Nat.not_lt.mpr hq)] at ht
  extract_lets low was s1 at ht
  have h1 : s1.efi.imd[k] = _ ∧ s1.garnet = s.garnet ∧ s1.outlets = s.outlets := ⟨hself, rfl, rfl⟩
  clear_value s1 t
  rw [← ht]
  by_cases hw : low = true ∧ ¬ was = true
  · have he : (ev 0x93 k 0 q s1).efi = s1.efi := evp_efi ..
    have hg : (ev 0x93 k 0 q s1).garnet = s1.garnet := evp_garnet ..
    have ho : (ev 0x93 k 0 q s1).outlets = s1.outlets := evp_outlets ..
    rw [if_pos hw, he, hg, ho]
    exact h1
  · rw [if_neg hw]
    exact h1

theorem slice_results (ho : s.efi.ports[p].outlet = some k)
    (hd : s.efi.ports[p].start + 160 + (2 + s.efi.ports[p].results) * pget s 0x404B 0 ≤ s.frame) (hc : s.efi.ports[p].cable = false)
    (he : imdEnergised s k = true) :
    (∀ q, q ≤ 10000 → q * 1000 < imdFaultOhm s k → s.efi.imd[k].tripped = false →
      ∃ t, exec (.insulationResult p q) s = .next t ∧ ImdTripped k (2 ^ 28 + q) s t)
    ∧ (∀ q, q ≤ 10000 → imdFaultOhm s k ≤ q * 1000 → ∃ t, exec (.insulationResult p q) s = .next t
          ∧ t.efi.imd[k].result = some (q, s.frame) ∧ t.efi.imd[k].base = s.frame ∧ t.efi.imd[k].tripped = s.efi.imd[k].tripped
          ∧ t.efi.imd[k].warned = decide (q * 1000 < imdWarnOhm s k) ∧ t.garnet = s.garnet ∧ t.outlets = s.outlets) := by
  have hrow {q : Nat} (hq : q ≤ 10000) : exec (.insulationResult p q) s = .next (sliceDecide k q (resultTaken p k q s)) :=
    (insulationResult_eq ho hq hd).trans ((if_neg (by rw [hc]; exact Bool.false_ne_true)).trans (if_pos he))
  refine ⟨fun q hq hlow ht => ?_, fun q hq hhigh => ?_⟩
  · have htrip := imdTrip_trips (k := k) (path := 1) (q := q) (s := resultTaken p k q s) (by rw [resultTaken_imd]; exact ht)
    have harg : 1 * 2 ^ 28 + (if (1 : Nat) = 1 ∨ (1 : Nat) = 2 then q % 2 ^ 28 else 0) = 2 ^ 28 + q := by
      rw [if_pos (.inl rfl), Nat.mod_eq_of_lt (by omega), Nat.one_mul]
    rw [harg, ← sliceDecide_faults (by rw [imdFaultOhm_resultTaken]; exact hlow)] at htrip
    exact ⟨_, hrow hq, htrip.of_efi rfl rfl rfl⟩
  · obtain ⟨himd, hg, hout⟩ := sliceDecide_good (k := k) (q := q) (s := resultTaken p k q s) (by rw [imdFaultOhm_resultTaken]; exact hhigh)
    refine ⟨_, hrow hq, ?_⟩
    rw [himd, hg, hout, imdWarnOhm_resultTaken, resultTaken_imd]
    exact ⟨rfl, rfl, rfl, rfl, rfl, rfl⟩

/-! ### Cable checks (R360) -/

/-- A port released after a cable check: it serves no outlet, and only the records of insulation have changed. -/
theorem releasePort_outlet (ho : s.efi.ports[p].outlet = some k) :
    (releasePort p s).efi.ports[p].outlet = none ∧ (releasePort p s).outlets = s.outlets ∧ (releasePort p s).garnet = s.garnet
      ∧ (releasePort p s).frame = s.frame ∧ (releasePort p s).params = s.params ∧ (releasePort p s).efi.imd[k].warned = s.efi.imd[k].warned := by
  rw [releasePort_frees ho]
  have himd := modImd_self (k := k) (fun i => { i with
    port := none, lastEnd := if s.efi.ports[p].cable then frameAfter s.frame 1 else s.frame }) s
  have hport := modIm_self (p := p) (fun x => { x with outlet := none, freeAt := frameAfter s.frame 1, results := 0 })
    (modImd k (fun i => { i with port := none, lastEnd := if s.efi.ports[p].cable then frameAfter s.frame 1 else s.frame }) s)
  have hw : (modImd k (fun i => { i with port := none, lastEnd := if s.efi.ports[p].cable then frameAfter s.frame 1 else s.frame })
      s).efi.imd[k].warned = s.efi.imd[k].warned := by rw [himd]
  exact ⟨congrArg ImPort.outlet hport, rfl, rfl, rfl, rfl, hw⟩

theorem cableDecide_fails {q : Nat} (ho : s.efi.ports[p].outlet = some k) (hport : s.efi.imd[k].port = some p) (hq : q * 1000 < imdFaultOhm s k)
    (hst : s.outlets[k].st = .cableCheck) (hdc : isDc s k = true) (hfree : s.outlets[k].pend = none) : let t := cableDecide k q s
    t.efi.ports[p].outlet = none ∧ t.outlets[k].pend = some { dest := .stopping, reason := some 0x07, frame := s.frame }
      ∧ t.garnet.evNext = s.garnet.evNext ++ [(0x49, k.val, 0, q)] := by
  intro t
  have ht : cableDecide k q s = t := rfl
  unfold cableDecide at ht
  extract_lets cc s1 s2 s3 low warn s4 s5 at ht
  have h1 : s1.efi.imd[k] = { s.efi.imd[k] with cc := cc } := modImd_self ..
  have hohm : imdFaultOhm s1 k = imdFaultOhm s k := by
    unfold imdFaultOhm
    rw [h1]
    rfl
  rw [hohm, if_pos hq] at ht
  have h2 : s2.efi.imd[k].port = some p := (congrArg ImdSt.port (modImd_self (k := k) (fun i => { i with status := 2 }) s1)).trans (by rw [h1]; exact hport)
  have h3 : s3 = releasePort p s2 := by
    dsimp only [s3]
    rw [h2]
  obtain ⟨hout, hoo, hog, hof, hop, -⟩ := releasePort_outlet (s := s2) (k := k) (p := p) ho
  rw [← h3] at hout hoo hog hof hop
  have hoo : s3.outlets = s.outlets := hoo
  have hog : s3.garnet = s.garnet := hog
  have hof : s3.frame = s.frame := hof
  have hbe : s3.beryl = s.beryl := by
    rw [h3]
    exact touches_releasePort.same .beryl rfl
  have hdc3 : isDc s3 k = true := by
    have hd : isDc s3 k = isDc s k := congrArg (fun o => o == 3 || o == 4) (pget_congr (s := s) hop hbe ..)
    exact hd.trans hdc
  clear_value s3 t
  rw [← ht, stopSession_waits hdc3 (by rw [hoo]; exact hfree) (.inl (by rw [hoo]; exact hst)), hof]
  refine ⟨hout, ?_, ?_⟩
  · exact congrArg Outlet.pend (decided_same ..)
  · change s3.garnet.evNext ++ _ = _
    rw [hog]

theorem cableDecide_first {q : Nat} (hcc : s.efi.imd[k].cc = []) (hq : imdFaultOhm s k ≤ q * 1000) :
    cableDecide k q s = modImd k (fun i => { i with cc := [q] }) s := by
  generalize ht : cableDecide k q s = t
  unfold cableDecide at ht
  extract_lets cc s1 s2 s3 low warn s4 s5 at ht
  have h1 : s1.efi.imd[k] = { s.efi.imd[k] with cc := cc } := modImd_self ..
  have hohm : imdFaultOhm s1 k = imdFaultOhm s k := by
    unfold imdFaultOhm
    rw [h1]
    rfl
  have hone : cc = [q] := by rw [show cc = s.efi.imd[k].cc ++ [q] from rfl, hcc]; rfl
  rw [hohm, if_neg (Nat.not_lt.mpr hq), if_pos (by rw [hone]; simp)] at ht
  rw [← ht, ← hone]

theorem cableDecide_passes {q c : Nat} (ho : s.efi.ports[p].outlet = some k) (hport : s.efi.imd[k].port = some p) (hcc : s.efi.imd[k].cc = [c])
    (hq : imdFaultOhm s k ≤ q * 1000) (hfree : s.outlets[k].pend = none) : let t := cableDecide k q s
    t.outlets[k].pend = some { dest := .precharge, frame := s.frame } ∧ t.efi.ports[p].outlet = none
      ∧ t.efi.imd[k].warned = decide (min c q * 1000 < imdWarnOhm s k) ∧ t.garnet = s.garnet := by
  intro t
  have ht : cableDecide k q s = t := rfl
  unfold cableDecide at ht
  extract_lets cc s1 s2 s3 low warn s4 s5 at ht
  have h1 : s1.efi.imd[k] = { s.efi.imd[k] with cc := cc } := modImd_self ..
  have hohm : imdFaultOhm s1 k = imdFaultOhm s k ∧ imdWarnOhm s1 k = imdWarnOhm s k := by
    unfold imdFaultOhm imdWarnOhm
    rw [h1]
    exact ⟨rfl, rfl⟩
  have htwo : cc = [c, q] := by rw [show cc = s.efi.imd[k].cc ++ [q] from rfl, hcc]; rfl
  have hwarn : warn = decide (min c q * 1000 < imdWarnOhm s k) := by
    have hlow : low = min c q := congrArg (fun l : List Nat => min (l.headD 0) q) htwo
    rw [← hlow, ← hohm.2]
  rw [hohm.1, if_neg (Nat.not_lt.mpr hq), if_neg (by rw [htwo]; simp)] at ht
  have h4 : s4.efi.imd[k] = { s1.efi.imd[k] with status := if warn then 1 else 0, warned := warn } := modImd_self ..
  have h5 : s5 = releasePort p s4 := by
    dsimp only [s5]
    rw [show s4.efi.imd[k].port = some p by rw [h4, h1]; exact hport]
  obtain ⟨hout, hoo, hog, hof, -, hw⟩ := releasePort_outlet (s := s4) (k := k) (p := p) ho
  rw [← h5] at hout hoo hog hof hw
  have hoo : s5.outlets = s.outlets := hoo
  have hog : s5.garnet = s.garnet := hog
  have hof : s5.frame = s.frame := hof
  rw [h4] at hw
  clear_value s5 t
  have hev (u : State) (he : u.efi = s5.efi) (hg : u.garnet = s5.garnet) (hu : u.outlets = s5.outlets) (hf : u.frame = s5.frame)
      (htu : goTo k .precharge u = t) : t.outlets[k].pend = some { dest := .precharge, frame := s.frame } ∧ t.efi.ports[p].outlet = none
        ∧ t.efi.imd[k].warned = decide (min c q * 1000 < imdWarnOhm s k) ∧ t.garnet = s.garnet := by
    have hgo : goTo k .precharge u = decided k { dest := .precharge, frame := u.frame } u := pendTo_free (by rw [hu, hoo]; exact hfree)
    rw [← htu, hgo, hf, hof]
    refine ⟨congrArg Outlet.pend (decided_same ..), ?_, ?_, hg.trans hog⟩
    · exact (congrArg (fun e : EfiSt => e.ports[p].outlet) he).trans hout
    · exact (congrArg (fun e : EfiSt => e.imd[k].warned) he).trans (hw.trans hwarn)
  by_cases hwn : warn = true
  · rw [if_pos hwn] at ht
    exact hev _ (evp_efi ..) (evp_garnet ..) (evp_outlets ..) (evp_frame ..) ht
  · rw [if_neg hwn] at ht
    exact hev s5 rfl rfl rfl rfl ht

theorem cable_results (ho : s.efi.ports[p].outlet = some k) (hport : s.efi.imd[k].port = some p)
    (hd : s.efi.ports[p].start + 160 + (2 + s.efi.ports[p].results) * pget s 0x404B 0 ≤ s.frame) (hc : s.efi.ports[p].cable = true)
    (hst : s.outlets[k].st = .cableCheck) (hdc : isDc s k = true) (hfree : s.outlets[k].pend = none) :
    (∀ q, q ≤ 10000 → q * 1000 < imdFaultOhm s k → ∃ t, exec (.insulationResult p q) s = .next t ∧ t.efi.ports[p].outlet = none
          ∧ t.outlets[k].pend = some { dest := .stopping, reason := some 0x07, frame := s.frame }
          ∧ t.garnet.evNext = s.garnet.evNext ++ [(0x49, k.val, 0, q)])
        ∧ (∀ q, q ≤ 10000 → imdFaultOhm s k ≤ q * 1000 → s.efi.imd[k].cc = [] → ∃ t, exec (.insulationResult p q) s = .next t
          ∧ t.efi.imd[k].cc = [q] ∧ t.efi.ports[p].outlet = some k ∧ t.outlets = s.outlets ∧ t.garnet = s.garnet)
        ∧ (∀ q c, q ≤ 10000 → imdFaultOhm s k ≤ q * 1000 → s.efi.imd[k].cc = [c] → ∃ t, exec (.insulationResult p q) s = .next t
          ∧ t.outlets[k].pend = some { dest := .precharge, frame := s.frame } ∧ t.efi.ports[p].outlet = none
          ∧ t.efi.imd[k].warned = decide (min c q * 1000 < imdWarnOhm s k) ∧ t.garnet = s.garnet) := by
  have hrow {q : Nat} (hq : q ≤ 10000) : exec (.insulationResult p q) s = .next (cableDecide k q (resultTaken p k q s)) :=
    (insulationResult_eq ho hq hd).trans ((if_pos hc).trans (if_pos hst))
  refine ⟨fun q hq hlow => ?_, fun q hq hhigh hcc => ?_, fun q c hq hhigh hcc => ?_⟩
  · obtain ⟨h1, h2, h3⟩ := cableDecide_fails (k := k) (p := p) (q := q) (s := resultTaken p k q s) (by rw [resultTaken_port]; exact ho)
      (by rw [resultTaken_imd]; exact hport) (by rw [imdFaultOhm_resultTaken]; exact hlow) hst hdc hfree
    exact ⟨_, hrow hq, h1, h2, h3⟩
  · have hone := cableDecide_first (k := k) (q := q) (s := resultTaken p k q s) (by rw [resultTaken_imd]; exact hcc)
      (by rw [imdFaultOhm_resultTaken]; exact hhigh)
    refine ⟨_, hrow hq, ?_⟩
    rw [hone]
    refine ⟨congrArg ImdSt.cc (modImd_self ..), ?_, rfl, rfl⟩
    exact (congrArg ImPort.outlet (resultTaken_port p k q s)).trans ho
  · obtain ⟨h1, h2, h3, h4⟩ := cableDecide_passes (k := k) (p := p) (q := q) (c := c) (s := resultTaken p k q s) (by rw [resultTaken_port]; exact ho)
      (by rw [resultTaken_imd]; exact hport) (by rw [resultTaken_imd]; exact hcc) (by rw [imdFaultOhm_resultTaken]; exact hhigh) hfree
    rw [imdWarnOhm_resultTaken] at h3
    exact ⟨_, hrow hq, h1, h2, h3, h4⟩

/-! ### Trips, coupling and reference tests (R362 to R365) -/

theorem imdStaleTrip_trips (hd : isDc s k = true) (he : imdEnergised s k = true) (hr : efiRuns s k = true) (ht : s.efi.imd[k].tripped = false)
    (hb : s.efi.imd[k].base + pget s 0x404E 0 ≤ s.frame) : ∃ t, exec (.imdStaleTrip k) s = .next t ∧ ImdTripped k (3 * 2 ^ 28) s t := by
  have hgo : (isDc s k && imdEnergised s k && efiRuns s k && !s.efi.imd[k].tripped && decide (s.efi.imd[k].base + pget s 0x404E 0 ≤ s.frame)) = true := by
    rw [hd, he, hr, ht, decide_eq_true hb]
    rfl
  exact ⟨imdTrip k 3 0 s, if_pos hgo, imdTrip_trips (path := 3) ht⟩

theorem imdStaleTrip_waits (h : s.efi.imd[k].tripped = true ∨ s.frame < s.efi.imd[k].base + pget s 0x404E 0) : exec (.imdStaleTrip k) s = .next s := by
  refine if_neg fun hgo => ?_
  obtain ⟨hab, hc⟩ := Bool.and_eq_true_iff.mp hgo
  rcases h with h | h
  · exact absurd (Bool.and_eq_true_iff.mp hab).2 (by rw [h]; exact Bool.false_ne_true)
  · exact absurd (of_decide_eq_true hc) (Nat.not_le.mpr h)

theorem balanceTrip_trips (hb : pget s 0x4050 0 ≤ s.efi.imd[k].balRun) (ht : s.efi.imd[k].tripped = false) :
    ∃ t, exec (.balanceTrip k) s = .next t ∧ ImdTripped k (2 * 2 ^ 28 + (s.efi.imd[k].estimate.getD 0).floor.toNat % 2 ^ 28) s t := by
  have hgo : pget s 0x4050 0 ≤ s.efi.imd[k].balRun ∧ ¬ s.efi.imd[k].tripped = true := ⟨hb, by rw [ht]; exact Bool.false_ne_true⟩
  exact ⟨imdTrip k 2 _ s, if_pos hgo, imdTrip_trips (path := 2) ht⟩

theorem efiCouplingFault_trips (hc : 80 ≤ s.efi.imd[k].coupRun) (hn : s.efi.imd[k].coupling = false) (hst : s.outlets[k].st ≠ .cableCheck)
    (hm : mainClosed s k = true) (ht : s.efi.imd[k].tripped = false) :
    ∃ t, exec (.efiCouplingFault k) s = .next t ∧ t.efi.imd[k].coupling = true ∧ ImdTripped k (4 * 2 ^ 28) s t := by
  have hgo : 80 ≤ s.efi.imd[k].coupRun ∧ ¬ s.efi.imd[k].coupling = true := ⟨hc, by rw [hn]; exact Bool.false_ne_true⟩
  change ∃ t, execEfiCouplingFault k s = _ ∧ _
  unfold execEfiCouplingFault
  extract_lets i arg s1
  rw [if_pos hgo]
  have hself : s1.efi.imd[k] = { s.efi.imd[k] with coupling := true } :=
    (congrArg (fun e : EfiSt => e.imd[k]) (evp_efi ..)).trans (modImd_self ..)
  have hg : s1.garnet = s.garnet := evp_garnet ..
  have ho : s1.outlets = s.outlets := evp_outlets ..
  have hf : s1.frame = s.frame := evp_frame ..
  have hp : s1.params = s.params := evp_params ..
  clear_value s1
  have hm1 : mainClosed s1 k = true := by
    unfold mainClosed fbClosed at hm ⊢
    rw [hg]
    exact hm
  have htrip := imdTrip_trips (k := k) (path := 4) (q := 0) (s := s1) (by rw [hself]; exact ht)
  rw [if_neg (by rw [ho]; exact fun h => hst (beq_iff_eq.mp h)), if_pos hm1]
  refine ⟨imdTrip k 4 0 s1, rfl, ?_, htrip.of_efi hg hf hp⟩
  unfold imdTrip
  rw [hself, ht, if_neg Bool.false_ne_true]
  exact (congrArg ImdSt.coupling (modImd_self (k := k) (fun i => { i with tripped := true, status := 2 }) s1)).trans (by rw [hself])

theorem efiCouplingFault_waits (h : s.efi.imd[k].coupRun < 80) : exec (.efiCouplingFault k) s = .next s :=
  if_neg fun hgo => absurd hgo.1 (Nat.not_le.mpr h)

theorem referenceTest_rows (hm : pget s 0x4048 0 / 2 ^ p.val % 2 = 1) (ho : s.efi.ports[p].outlet = none) (hw : watching s = false)
    (hd : s.efi.ports[p].testing = true ∨ s.efi.ports[p].nextTest ≤ s.frame) (hs : s.sys.service ≠ .bringUp) :
    (∃ t, exec (.referenceTest p true) s = .next t ∧ t.efi.ports[p].faulty = false ∧ t.efi.ports[p].testing = false
        ∧ t.efi.imd = s.efi.imd ∧ t.garnet = s.garnet)
      ∧ (∃ t, exec (.referenceTest p false) s = .next t ∧ (s.efi.ports[p].faulty = false → t.efi.ports[p].faulty = true) ∧ t.efi.imd = s.efi.imd) := by
  have hgo : pget s 0x4048 0 / 2 ^ p.val % 2 = 1 ∧ s.efi.ports[p].outlet.isNone = true ∧ ¬ watching s = true
      ∧ (s.efi.ports[p].testing = true ∨ s.efi.ports[p].nextTest ≤ s.frame) ∧ s.sys.service ≠ .bringUp :=
    ⟨hm, Option.isNone_iff_eq_none.mpr ho, by rw [hw]; exact Bool.false_ne_true, hd, hs⟩
  have hrow (ok : Bool) : exec (.referenceTest p ok) s = _ := if_pos hgo
  constructor
  · have hself := modIm_self (p := p) (fun x => { x with
      testing := false, faulty := false, nextTest := frameAfter s.frame 691200000, freeAt := frameAfter s.frame 1 }) s
    rw [hrow true, if_pos rfl]
    extract_lets u
    have hu : u.efi.ports[p].faulty = false ∧ u.efi.ports[p].testing = false ∧ u.efi.imd = s.efi.imd ∧ u.garnet = s.garnet :=
      ⟨congrArg ImPort.faulty hself, congrArg ImPort.testing hself, rfl, rfl⟩
    clear_value u
    split
    · refine ⟨_, rfl, ?_⟩
      have he : (ev 0x96 12 0 p u).efi = u.efi := evp_efi ..
      have hg : (ev 0x96 12 0 p u).garnet = u.garnet := evp_garnet ..
      rw [he, hg]
      exact hu
    · exact ⟨u, rfl, hu⟩
  · rw [hrow false, if_neg Bool.false_ne_true]
    split
    · rename_i hf
      exact ⟨_, rfl, fun h => absurd (h.symm.trans hf.1) Bool.false_ne_true, rfl⟩
    · refine ⟨portFault p 2 s, rfl, fun _ => ?_, ?_⟩
      · rw [portFault_idle_efi ho]
        exact congrArg ImPort.faulty (modIm_self ..)
      · rw [portFault_idle_efi ho]
        rfl

/-- Settles O49. -/
theorem insulationIsMeasuredInSlices : Obligations.InsulationIsMeasuredInSlices := by
  intro h p k s x i due
  obtain ⟨l, hu⟩ : ∃ l, entered h s = { s with link := l } := ⟨_, entered_eq h s⟩
  refine ⟨fun rest hr ho hf hc => portAssignment_assigns hr ho hf hc, fun h => portAssignment_waits h,
    fun ho hport => ⟨fun h1 h2 => sliceReadbackFail_faults ho h1 h2, fun hl => ?_, fun hc hf => sliceEnd_ends ho hc hf, fun hl => ?_,
      fun q hl => insulationResult_waits ho hl, fun hd hc he => slice_results ho hd hc he,
      fun hd hc hst hdc hfree => cable_results ho hport hd hc hst hdc hfree⟩,
    fun hd he hr ht hb => imdStaleTrip_trips hd he hr ht hb, fun h => imdStaleTrip_waits h, fun hb ht => balanceTrip_trips hb ht, fun hb => ?_,
    fun hc hn hst hm ht => efiCouplingFault_trips hc hn hst hm ht, fun hc => efiCouplingFault_waits hc,
    fun hm ho hw hd hs => referenceTest_rows hm ho hw hd hs, fun hp => ?_, fun hm ho hp => ?_, ?_⟩
  · exact if_neg fun hgo => absurd hgo.2.2 (by have hs : s.efi.ports[p].start + 160 ≤ s.frame := hl; omega)
  · exact if_neg fun hgo => absurd hgo.2.2 (Nat.not_le.mpr hl)
  · exact if_neg fun hgo => absurd hgo.1 (Nat.not_le.mpr hb)
  · change execEfiStatus h k s = _
    unfold execEfiStatus
    rw [hostCmd_accepts hp rfl rfl (if_pos k.isLt)]
    rfl
  · have hrules : imdTestRules p (entered h s) = .accept 0x0100 none id := by
      rw [hu]
      unfold imdTestRules
      rw [dif_pos p.isLt]
      refine (if_neg ?_).trans (if_neg ?_)
      · exact fun h => absurd (hm.symm.trans h) (by decide)
      · exact fun h => absurd ((congrArg Option.isSome ho).symm.trans h) nofun
    change execEfiImdTestX h p s = _
    unfold execEfiImdTestX
    rw [hostCmd_accepts hp rfl rfl hrules]
    rfl
  · rw [atEdge_efiImdTestX]
    unfold applyImdTest
    rw [dif_pos p.isLt]
    rfl

end Sys2Proof.Machine
end
section
/-! PROOF. Safe inputs (chapter 11). -/

namespace Sys2Proof.Machine

open Host (Outcome)

variable {s t u : State} {i : Fin 16}

/-! ### Rules of Garnet's state -/

theorem modSi_self (f : SafeIn → SafeIn) (s : State) : (modSi i f s).garnet.inputs[i] = f s.garnet.inputs[i] := upd_self ..

theorem modSo_self (o : Fin 32) (f : SafeOut → SafeOut) (s : State) : (modSo o f s).garnet.outs[o] = f s.garnet.outs[o] := upd_self ..

theorem modCd_self (c : Fin 2) (f : CdSt → CdSt) (s : State) : (modCd c f s).garnet.cds[c] = f s.garnet.cds[c] := upd_self ..

/-- From one state to the other nothing but the connection devices has changed. -/
def CdsOnly (s t : State) : Prop := ∃ v, t = { s with garnet := { s.garnet with cds := v } }

theorem CdsOnly.refl (s : State) : CdsOnly s s := ⟨_, rfl⟩

theorem CdsOnly.trans (h : CdsOnly s t) (h' : CdsOnly t u) : CdsOnly s u := by
  obtain ⟨v, rfl⟩ := h
  obtain ⟨w, rfl⟩ := h'
  exact ⟨w, rfl⟩

theorem cdsOnly_modCd {c : Fin 2} {f : CdSt → CdSt} : CdsOnly s (modCd c f s) := ⟨_, rfl⟩

theorem cdsOnly_cdStop {c : Fin 2} {l : Option Nat} : CdsOnly s (cdStop c l s) := by
  unfold cdStop cdNext
  dsimp only
  repeat' split
  all_goals first
    | exact cdsOnly_modCd.trans cdsOnly_modCd
    | exact cdsOnly_modCd
    | exact .refl s

theorem cdsOnly_cdStopAll {l : Option Nat} : CdsOnly s (cdStopAll l s) := by
  unfold cdStopAll
  generalize allFin 2 = cs
  exact foldl_keep (P := CdsOnly s) (.refl s) (fun t c h => h.trans cdsOnly_cdStop) cs

theorem cdsOnly_cdStopScope : CdsOnly s (cdStopScope i s) := by
  unfold cdStopScope
  generalize allFin 2 = cs
  refine foldl_keep (P := CdsOnly s) (.refl s) (fun t c h => ?_) cs
  split
  · exact h.trans cdsOnly_cdStop
  · exact h

/-- Outlets tripped one after the other: each for the frame, and nothing else changed. -/
theorem foldl_tripOutlet (l : List (Fin 8)) (s : State) : ∃ v, l.foldl (fun (s : State) k => tripOutlet k s) s
      = { s with garnet := { s.garnet with trips := v } } ∧ ∀ k : Fin 8, v[k] = if k ∈ l then some s.frame else s.garnet.trips[k] := by
  induction l generalizing s with
  | nil => exact ⟨s.garnet.trips, rfl, fun _ => rfl⟩
  | cons j l ih =>
    obtain ⟨v, hv, hk⟩ := ih (tripOutlet j s)
    refine ⟨v, hv, fun k => (hk k).trans ?_⟩
    by_cases hl : k ∈ l
    · rw [if_pos hl, if_pos (List.mem_cons_of_mem j hl)]
      rfl
    · rw [if_neg hl]
      by_cases hj : k = j
      · subst hj
        rw [if_pos List.mem_cons_self]
        exact Vector.getElem_set_self ..
      · rw [if_neg fun h => (List.mem_cons.mp h).elim hj hl]
        exact upd_other (f := fun _ => some s.frame) hj

/-! ### Demands (R381, R383) -/

theorem siDemand_eq (s : State) (i : Fin 16) : siDemand s i = (s.garnet.inputs[i].faulted
    || levelDemand s i false s.garnet.inputs[i].a.accepted || levelDemand s i true s.garnet.inputs[i].b.accepted) := rfl

/-- What a demand of a stop function leaves (R383). -/
structure Demanded (i : Fin 16) (func : Nat) (s t : State) : Prop where
  input   : t.garnet.inputs[i] = { s.garnet.inputs[i] with demand := true, latch := true }
  outs    : t.garnet.outs = s.garnet.outs
  told    : t.garnet.evNext = s.garnet.evNext ++ [(0xA0, 14, 0, func * 65536 + i.val * 256 + 1)]
  outlets : t.outlets = s.outlets
  trips   : ∀ k : Fin 8, t.garnet.trips[k] = if inScope s i (2 * k.val) then some s.frame else s.garnet.trips[k]

theorem demandChange_demands {func : Nat} (hf : pget s 0x4000 i = func) (h12 : func = 1 ∨ func = 2) (hn : siDemand s i = true)
    (hw : s.garnet.inputs[i].demand = false) : Demanded i func s (demandChange i s) := by
  unfold demandChange
  rw [hn, hw, hf]
  extract_lets now was f s1 s2 s3
  have h3 : ¬ func = 3 := by omega
  have h0 : ¬ (func = 0 ∨ true = false) := fun h => h.elim (by omega) nofun
  rw [show f = func from rfl, show now = true from rfl, show was = false from rfl, if_neg h3, if_neg h0, if_pos rfl]
  have h4 : ¬ func = 4 := by omega
  have h2 : s2 = modSi i (fun x => { x with latch := true }) s1 := if_neg h4
  have hinput : s2.garnet.inputs[i] = { s.garnet.inputs[i] with demand := true, latch := true } := by
    rw [h2, modSi_self, modSi_self]
  have hrest : s2.garnet.outs = s.garnet.outs ∧ s2.garnet.evNext = s.garnet.evNext ∧ s2.outlets = s.outlets ∧ s2.garnet.trips = s.garnet.trips
      ∧ s2.frame = s.frame ∧ scopeOutlets s2 i = scopeOutlets s i := by
    rw [h2]
    exact ⟨rfl, rfl, rfl, rfl, rfl, rfl⟩
  obtain ⟨ho, he, hout, htr, hfr, hsc⟩ := hrest
  clear_value s2
  have hfold : (fun (s : State) (k : Fin 8) => if func ≠ 4 ∨ holdsGrant s k then tripOutlet k s else s) = fun s k => tripOutlet k s := by
    funext s k
    exact if_pos (.inl (by omega))
  obtain ⟨v, hv, hk⟩ := foldl_tripOutlet (scopeOutlets s2 i) s2
  have h3 : s3 = { s2 with garnet := { s2.garnet with trips := v } } := by
    dsimp only [s3]
    rw [hfold]
    exact hv
  clear_value s3
  obtain ⟨w, hc⟩ := cdsOnly_cdStopScope (s := s3) (i := i)
  rw [hc, h3]
  refine ⟨hinput, ho, ?_, hout, fun k => (hk k).trans ?_⟩
  · change s2.garnet.evNext ++ _ = _
    rw [he]
  · have hmem : k ∈ scopeOutlets s2 i ↔ inScope s i (2 * k.val) = true := by
      rw [hsc]
      unfold scopeOutlets
      rw [List.mem_filter]
      exact and_iff_right (mem_allFin k)
    simp only [hmem, hfr, htr]

theorem demandChange_ends {func : Nat} (hf : pget s 0x4000 i = func) (h12 : func = 1 ∨ func = 2) (hn : siDemand s i = false)
    (hw : s.garnet.inputs[i].demand = true) : (demandChange i s).garnet = (modSi i (fun x => { x with demand := false }) s).garnet := by
  unfold demandChange
  rw [hn, hw, hf]
  extract_lets now was f s1 s2 s3
  have h3 : ¬ func = 3 := by omega
  have h0 : ¬ (func = 0 ∨ false = true) := fun h => h.elim (by omega) nofun
  rw [show f = func from rfl, show now = false from rfl, show was = true from rfl, if_neg h3, if_neg h0, if_neg Bool.false_ne_true]
  exact evp_garnet ..

/-! ### Accepted changes (R380) -/

/-- The input once a change has been accepted and the channels compared. -/
def siAccepted (i : Fin 16) (b : Bool) (s : State) : State :=
  siCompare i (modSi i (fun x => if b then { x with b := filtAccept x.b s.frame } else { x with a := filtAccept x.a s.frame }) s)

theorem siAccepted_eq (i : Fin 16) (b : Bool) (s : State) : ∃ d, siAccepted i b s = modSi i (fun x => { x with discBy := d })
    (modSi i (fun x => if b then { x with b := filtAccept x.b s.frame } else { x with a := filtAccept x.a s.frame }) s) := ⟨_, rfl⟩

theorem siAccepted_input (i : Fin 16) (b : Bool) (s : State) : ∃ d, (siAccepted i b s).garnet.inputs[i] =
    { (if b then { s.garnet.inputs[i] with b := filtAccept s.garnet.inputs[i].b s.frame }
        else { s.garnet.inputs[i] with a := filtAccept s.garnet.inputs[i].a s.frame }) with discBy := d } := by
  obtain ⟨d, hd⟩ := siAccepted_eq i b s
  exact ⟨d, by rw [hd, modSi_self, modSi_self]⟩

theorem safeInputAccepted_eq {b : Bool} (hf : s.garnet.inputs[i].faulted = false)
    (hr : pget s 0x4003 i < (if b then s.garnet.inputs[i].b else s.garnet.inputs[i].a).run) :
    exec (.safeInputAccepted i b) s = .next (demandChange i (siAccepted i b s)) := by
  have hready : filtReady (s.garnet.inputs[i].chan b) (pget s 0x4003 i) = true := decide_eq_true hr
  have hheal : siHeal i (siAccepted i b s) = siAccepted i b s := by
    obtain ⟨d, hd⟩ := siAccepted_input i b s
    unfold siHeal
    refine if_pos fun h => ?_
    rw [hd] at h
    cases b <;> exact absurd (hf.symm.trans h) Bool.false_ne_true
  have hrow : exec (.safeInputAccepted i b) s = .next (demandChange i (siHeal i (siAccepted i b s))) := if_pos hready
  rw [hrow, hheal]

theorem safeInputAccepted_waits {b : Bool} (hr : (if b then s.garnet.inputs[i].b else s.garnet.inputs[i].a).run ≤ pget s 0x4003 i) :
    exec (.safeInputAccepted i b) s = .next s := if_neg fun h => absurd (of_decide_eq_true h) (Nat.not_le.mpr (Nat.lt_succ_of_le hr))

theorem safeInputAccepted_demands {b : Bool} {func : Nat} (hfunc : pget s 0x4000 i = func)
    (hr : pget s 0x4003 i < (if b then s.garnet.inputs[i].b else s.garnet.inputs[i].a).run) (hf : s.garnet.inputs[i].faulted = false)
    (hd : s.garnet.inputs[i].demand = false) (hl : levelDemand s i b (if b then s.garnet.inputs[i].b else s.garnet.inputs[i].a).stamp = true)
    (h12 : func = 1 ∨ func = 2) :
    ∃ t, exec (.safeInputAccepted i b) s = .next t
      ∧ (if b then t.garnet.inputs[i].b else t.garnet.inputs[i].a).accepted = (if b then s.garnet.inputs[i].b else s.garnet.inputs[i].a).stamp
      ∧ t.garnet.inputs[i].demand = true ∧ t.garnet.inputs[i].latch = true ∧ t.garnet.outs = s.garnet.outs
      ∧ t.garnet.evNext = s.garnet.evNext ++ [(0xA0, 14, 0, func * 65536 + i.val * 256 + 1)] ∧ t.outlets = s.outlets
      ∧ ∀ k : Fin 8, t.garnet.trips[k] = if inScope s i (2 * k.val) then some s.frame else s.garnet.trips[k] := by
  obtain ⟨d, hin⟩ := siAccepted_input i b s
  have hnow : siDemand (siAccepted i b s) i = true := by
    rw [siDemand_eq, hin]
    cases b with
    | true => exact Bool.or_eq_true_iff.mpr (.inr hl)
    | false => exact Bool.or_eq_true_iff.mpr (.inl (Bool.or_eq_true_iff.mpr (.inr hl)))
  have hwas : (siAccepted i b s).garnet.inputs[i].demand = false := by
    rw [hin]
    cases b <;> exact hd
  have hdem := demandChange_demands (s := siAccepted i b s) (func := func) hfunc h12 hnow hwas
  refine ⟨_, safeInputAccepted_eq hf hr, ?_, ?_, ?_, hdem.outs, hdem.told, hdem.outlets, hdem.trips⟩
  · rw [hdem.input, hin]
    cases b <;> rfl
  · rw [hdem.input]
  · rw [hdem.input]

theorem safeInputAccepted_releases {b : Bool} {func : Nat} (hfunc : pget s 0x4000 i = func)
    (hr : pget s 0x4003 i < (if b then s.garnet.inputs[i].b else s.garnet.inputs[i].a).run) (hf : s.garnet.inputs[i].faulted = false)
    (hd : s.garnet.inputs[i].demand = true) (hl : levelDemand s i b (if b then s.garnet.inputs[i].b else s.garnet.inputs[i].a).stamp = false)
    (hother : levelDemand s i (!b) (if b then s.garnet.inputs[i].a else s.garnet.inputs[i].b).accepted = false) (h12 : func = 1 ∨ func = 2) :
    ∃ t, exec (.safeInputAccepted i b) s = .next t ∧ t.garnet.inputs[i].demand = false ∧ t.garnet.inputs[i].latch = s.garnet.inputs[i].latch
      ∧ t.garnet.trips = s.garnet.trips ∧ t.garnet.outs = s.garnet.outs := by
  obtain ⟨d, hin⟩ := siAccepted_input i b s
  have hnow : siDemand (siAccepted i b s) i = false := by
    rw [siDemand_eq, hin]
    cases b with
    | true => exact Bool.or_eq_false_iff.mpr ⟨Bool.or_eq_false_iff.mpr ⟨hf, hother⟩, hl⟩
    | false => exact Bool.or_eq_false_iff.mpr ⟨Bool.or_eq_false_iff.mpr ⟨hf, hl⟩, hother⟩
  have hwas : (siAccepted i b s).garnet.inputs[i].demand = true := by
    rw [hin]
    cases b <;> exact hd
  have hends := demandChange_ends (s := siAccepted i b s) (func := func) hfunc h12 hnow hwas
  have hself := modSi_self (i := i) (fun x => { x with demand := false }) (siAccepted i b s)
  refine ⟨_, safeInputAccepted_eq hf hr, ?_⟩
  rw [hends, hself, hin]
  cases b <;> exact ⟨rfl, rfl, rfl, rfl⟩

/-! ### Faults of an input (R382, R384) -/

/-- A faulted input that demands, with its fault latched. -/
structure InputFaulted (i : Fin 16) (s : State) : Prop where
  faulted : s.garnet.inputs[i].faulted = true
  latch   : s.garnet.inputs[i].faultLatch = true
  demand  : s.garnet.inputs[i].demand = true

theorem InputFaulted.of_inputs (h : InputFaulted i s) (he : t.garnet.inputs = s.garnet.inputs) : InputFaulted i t := by
  obtain ⟨h1, h2, h3⟩ := h
  exact ⟨by rw [he]; exact h1, by rw [he]; exact h2, by rw [he]; exact h3⟩

theorem InputFaulted.modSi (h : InputFaulted i s) {j : Fin 16} {f : SafeIn → SafeIn}
    (hf : ∀ x : SafeIn, x.faulted = true → x.faultLatch = true → (f x).faulted = true ∧ (f x).faultLatch = true ∧ (f x).demand = x.demand) :
    InputFaulted i (modSi j f s) := by
  obtain ⟨h1, h2, h3⟩ := h
  by_cases hj : i = j
  · subst hj
    obtain ⟨g1, g2, g3⟩ := hf _ h1 h2
    have hself := modSi_self (i := i) f s
    exact ⟨by rw [hself]; exact g1, by rw [hself]; exact g2, by rw [hself]; exact g3.trans h3⟩
  · have hother : (Machine.modSi j f s).garnet.inputs[i] = s.garnet.inputs[i] := upd_other hj
    exact ⟨by rw [hother]; exact h1, by rw [hother]; exact h2, by rw [hother]; exact h3⟩

/-- A latch is cleared of no input that is at fault. -/
theorem clearLatches_inputFaulted {sel : Nat → Bool} (h : InputFaulted i s) : InputFaulted i (clearLatches sel s) := by
  unfold clearLatches
  generalize allFin 16 = ins, allFin 32 = outs, allFin 4 = tests, allFin 2 = cds
  extract_lets f s1 s2 s3 s4
  have h1 : InputFaulted i s1 := by
    refine foldl_keep (P := InputFaulted i) h (fun t j ht => ?_) ins
    refine ht.modSi fun x hx hl => ⟨hx, ?_, rfl⟩
    rw [hx, hl]
    rfl
  have h2 : s2.garnet.inputs = s1.garnet.inputs := by
    refine foldl_same (g := fun t : State => t.garnet.inputs) (fun t o => ?_) outs s1
    rfl
  have h3 : s3.garnet.inputs = s2.garnet.inputs := by
    refine foldl_same (g := fun t : State => t.garnet.inputs) (fun t o => ?_) tests s2
    split <;> rfl
  have h4 : InputFaulted i s4 := h1.of_inputs (h3.trans h2)
  refine h4.of_inputs (foldl_same (g := fun t : State => t.garnet.inputs) (fun t c => ?_) cds s4)
  split <;> rfl

theorem resetInput_inputFaulted (h : InputFaulted i s) : InputFaulted i (resetInput i s) := by
  have hpress (p : Option Nat) (t : State) (ht : InputFaulted i t) : InputFaulted i (modSi i (fun x => { x with pressed := p }) t) :=
    ht.modSi fun x hx hl => ⟨hx, hl, rfl⟩
  have hev {t : State} {id dom detail arg : Nat} (ht : InputFaulted i t) : InputFaulted i (ev id dom detail arg t) :=
    ht.of_inputs (congrArg GarnetSt.inputs (evp_garnet ..))
  unfold resetInput
  extract_lets f pressed s0 t bits
  have h0 : InputFaulted i s0 := hpress none s h
  split
  · split
    · exact hpress (some f) s h
    · exact h
  · split
    · exact h
    · extract_lets d
      by_cases hshort : d < 400
      · rw [if_pos hshort]
        exact hev h0
      · rw [if_neg hshort]
        by_cases hlong : 24000 < d
        · rw [if_pos hlong]
          exact hev h0
        · rw [if_neg hlong]
          exact hev (clearLatches_inputFaulted h0)

theorem cdStopScope_inputFaulted (h : InputFaulted i s) : InputFaulted i (cdStopScope i s) := by
  obtain ⟨v, hv⟩ := cdsOnly_cdStopScope (s := s) (i := i)
  exact h.of_inputs (by rw [hv])

/-- An input at fault demands, whatever its levels are. -/
theorem demandChange_inputFaulted (hf : s.garnet.inputs[i].faulted = true) (hl : s.garnet.inputs[i].faultLatch = true) :
    InputFaulted i (demandChange i s) := by
  have hnow : siDemand s i = true := by rw [siDemand_eq, hf]; rfl
  have hself := modSi_self (i := i) (fun x => { x with demand := true }) s
  unfold demandChange
  rw [hnow]
  extract_lets now was func s1 s2 s3
  have h1 : InputFaulted i s1 := ⟨(congrArg SafeIn.faulted hself).trans hf, (congrArg SafeIn.faultLatch hself).trans hl, congrArg SafeIn.demand hself⟩
  have h2 : InputFaulted i s2 := by
    dsimp only [s2]
    split
    · exact h1
    · exact h1.modSi fun x hx hl => ⟨hx, hl, rfl⟩
  have h3 : InputFaulted i s3 := by
    refine foldl_keep (P := InputFaulted i) h2 (fun t k ht => ?_) _
    split
    · exact ht.of_inputs rfl
    · exact ht
  clear_value s1 s2 s3
  split
  · exact resetInput_inputFaulted h1
  · split
    · exact h1
    · split
      · exact (cdStopScope_inputFaulted h3).of_inputs rfl
      · exact h1.of_inputs (congrArg GarnetSt.inputs (evp_garnet ..))

theorem siFault_faults {how : Nat} (hf : s.garnet.inputs[i].faulted = false) : InputFaulted i (siFault i how s) := by
  have hself := modSi_self (i := i) (fun x => { x with faulted := true, faultLatch := true, sawBoth := false, discBy := none }) s
  unfold siFault
  rw [hf, if_neg Bool.false_ne_true]
  extract_lets s1
  have hev : (ev 0xA2 14 0 (i.val * 256 + how) s1).garnet = s1.garnet := evp_garnet ..
  refine demandChange_inputFaulted ?_ ?_
  · rw [hev]
    exact congrArg SafeIn.faulted hself
  · rw [hev]
    exact congrArg SafeIn.faultLatch hself

theorem safeInputDiscrepancy_faults {f : Nat} (hd : s.garnet.inputs[i].discBy = some f) (ht : f ≤ s.frame) (hfunc : pget s 0x4000 i ≠ 0)
    (hf : s.garnet.inputs[i].faulted = false) : ∃ t, exec (.safeInputDiscrepancy i) s = .next t ∧ InputFaulted i t := by
  have hdue : expired s.garnet.inputs[i].discBy s.frame = true := by
    rw [hd]
    exact decide_eq_true ht
  exact ⟨siFault i 1 s, if_pos ⟨hdue, hfunc⟩, siFault_faults hf⟩

theorem testPulseMissing_faults {b : Bool} (hm : 3 ≤ (if b then s.garnet.inputs[i].missB else s.garnet.inputs[i].missA)) (hfunc : pget s 0x4000 i ≠ 0)
    (hf : s.garnet.inputs[i].faulted = false) : ∃ t, exec (.testPulseMissing i b) s = .next t ∧ InputFaulted i t :=
  ⟨siFault i (if b then 3 else 2) s, if_pos ⟨hm, hfunc⟩, siFault_faults hf⟩

end Sys2Proof.Machine
end
section
/-! PROOF. Safe outputs, feedback and the island (chapter 11). -/

namespace Sys2Proof.Machine

open Host (Outcome)

variable {s t u : State} {o : Fin 32}

theorem modSo_eq (o : Fin 32) (f : SafeOut → SafeOut) (s : State) :
    modSo o f s = { s with garnet := { s.garnet with outs := s.garnet.outs.set o (f s.garnet.outs[o]) } } := rfl

theorem modSo_modSo (o : Fin 32) (f g : SafeOut → SafeOut) (s : State) : modSo o g (modSo o f s) = modSo o (fun x => g (f x)) s := by
  rw [modSo_eq o g, modSo_self]
  exact congrArg (fun v => { s with garnet := { s.garnet with outs := v } }) (Vector.set_set ..)

/-! ### Tests and overcurrents of an output (R385 to R388) -/

theorem soFault_outs (kind : Nat) (s : State) : (soFault o kind s).garnet = { s.garnet with
    outs := s.garnet.outs.set o { s.garnet.outs[o] with fault := some kind, testOk := false, granted := false } } := by
  unfold soFault
  extract_lets s1 s2
  have h1 : s1.garnet = { s.garnet with
      outs := s.garnet.outs.set o { s.garnet.outs[o] with fault := some kind, testOk := false, granted := false } } :=
    congrArg State.garnet (modSo_modSo o (fun x => { x with fault := some kind, testOk := false }) (fun x => { x with granted := false }) s)
  have h2 : s2.garnet = s1.garnet := evp_garnet ..
  split
  · split
    · have h3 {t : Fin 8} : (retireObj 2 t (tieDomain s2 t) 0xA3 1 1 [] s2).garnet = s2.garnet := touches_retireObj.same .garnet rfl
      exact h3.trans (h2.trans h1)
    · exact h2.trans h1
  · exact h2.trans h1

theorem outputTest_eq {kind : Nat} (hr : s.garnet.st = .run) (hk : kind ≤ 5) (hm : pget s 0x4008 0 / 2 ^ o.val % 2 = 1)
    (ht : s.garnet.outs[o].testNext ≤ s.frame) (hoff : s.garnet.outs[o].offAt ≠ some s.frame) :
    exec (.outputTest (Fin.castLE (by decide) o) kind) s =
      let u := modSo o (fun x => { x with testNext := frameAfter s.frame (pget s 0x4009 o) }) s
      if kind = 0 then .next (modSo o (fun x => { x with testOk := true }) u) else .next (soFault o kind u) := by
  have hgo : ¬ (s.garnet.st ≠ .run ∨ 5 < kind) := fun h => h.elim (fun h => h hr) (by omega)
  have hdue : ¬ (pget s 0x4008 0 / 2 ^ o.val % 2 = 0 ∨ s.frame < s.garnet.outs[o].testNext ∨ s.garnet.outs[o].offAt = some s.frame) := by
    rintro (h | h | h)
    · rw [hm] at h
      exact absurd h (by decide)
    · exact absurd h (Nat.not_lt.mpr ht)
    · exact hoff h
  change execOutputTest _ kind s = _
  unfold execOutputTest
  rw [if_neg hgo, dif_pos (show (Fin.castLE (by decide) o : Fin 36).val < 32 from o.isLt)]
  refine (if_neg hdue).trans ?_
  dsimp only
  split <;> rfl

theorem outputTest_waits {kind : Nat} (ht : s.frame < s.garnet.outs[o].testNext) :
    exec (.outputTest (Fin.castLE (by decide) o) kind) s = .next s := by
  change execOutputTest _ kind s = _
  unfold execOutputTest
  split
  · rfl
  · rw [dif_pos (show (Fin.castLE (by decide) o : Fin 36).val < 32 from o.isLt)]
    exact if_pos (.inr (.inl ht))

theorem output_rows (o : Fin 32) (s : State) : let x := s.garnet.outs[o]
      let tested : SafeOut := { x with testNext := frameAfter s.frame (pget s 0x4009 o) }
      (s.garnet.st = .run → pget s 0x4008 0 / 2 ^ o.val % 2 = 1 → x.testNext ≤ s.frame → x.offAt ≠ some s.frame →
        (exec (.outputTest (Fin.castLE (by decide) o) 0) s =
          .next { s with garnet := { s.garnet with outs := s.garnet.outs.set o { tested with testOk := true } } })
        ∧ (∀ kind, 1 ≤ kind → kind ≤ 5 → ∃ t, exec (.outputTest (Fin.castLE (by decide) o) kind) s = .next t
          ∧ t.garnet.outs = s.garnet.outs.set o { tested with fault := some kind, testOk := false, granted := false }
          ∧ t.garnet.inputs = s.garnet.inputs ∧ t.outlets = s.outlets)) := by
  intro x tested hr hm ht hoff
  refine ⟨?_, fun kind h1 h5 => ?_⟩
  · have hrow := outputTest_eq (kind := 0) hr (by decide) hm ht hoff
    rw [if_pos rfl, modSo_modSo] at hrow
    exact hrow
  · have hrow := outputTest_eq (kind := kind) hr h5 hm ht hoff
    rw [if_neg (by omega)] at hrow
    have hself := modSo_self o (fun x => { x with testNext := frameAfter s.frame (pget s 0x4009 o) }) s
    have hg := soFault_outs (o := o) kind (modSo o (fun x => { x with testNext := frameAfter s.frame (pget s 0x4009 o) }) s)
    rw [hself] at hg
    have hout : (soFault o kind (modSo o (fun x => { x with testNext := frameAfter s.frame (pget s 0x4009 o) }) s)).outlets = s.outlets :=
      Eq.trans (touches_soFault.same .outlets rfl) rfl
    refine ⟨_, hrow, ?_, ?_, hout⟩
    · rw [hg]
      exact Vector.set_set ..
    · rw [hg]
      rfl

theorem soOvercurrent_holds (hd : s.garnet.outs[o].driven = true) : ∃ t, exec (.soOvercurrent o) s = .next t
    ∧ t.garnet.outs = s.garnet.outs.set o { s.garnet.outs[o] with fault := some 4, testOk := false, granted := false } :=
  ⟨soFault o 4 s, if_pos hd, congrArg GarnetSt.outs (soFault_outs 4 s)⟩

/-! ### Contactor feedback (R389) -/

theorem soIsTie_none {o : Fin 32} (h : o.val < 24) : soIsTie o = none := dif_neg fun h' => absurd h'.1 (Nat.not_le.mpr h)

theorem acceptFeedback_accepts (ho : o.val < 24) (hr : pget s 0x400B 0 < s.garnet.outs[o].fb.run) :
    acceptFeedback o s = modSo o (fun x => { x with fb := filtAccept x.fb s.frame }) s := by
  have hready : filtReady s.garnet.outs[o].fb (pget s 0x400B 0) = true := decide_eq_true hr
  unfold acceptFeedback
  rw [hready, soIsTie_none ho]
  rfl

/-- What the supervision of a contactor's feedback leaves of the outputs (R389). -/
structure Supervised (o : Fin 32) (s t : State) : Prop where
  fb      : t.garnet.outs[o].fb = s.garnet.outs[o].fb
  driven  : t.garnet.outs[o].driven = s.garnet.outs[o].driven
  other   : ∀ j, j ≠ o → t.garnet.outs[j] = s.garnet.outs[j]
  contact : ∀ f, s.garnet.outs[o].offAt = some f → s.garnet.outs[o].fb.accepted = true → s.garnet.outs[o].driven = false →
    f + pget s 0x400C 0 ≤ s.frame → t.garnet.outs[o].contact = true
  stands  : s.garnet.outs[o].fb.accepted = false → t.garnet.outs[o].contact = s.garnet.outs[o].contact

theorem contactFault_supervises (o : Fin 32) (s : State) : Supervised o s (contactFault o s) := by
  unfold contactFault
  extract_lets x
  split
  · rename_i f hf
    split
    · rename_i hgo
      have hself := modSo_self o (fun x => { x with contact := true }) s
      have hg : (ev 0xA4 (soDomain s o) 0 (o.val * 256 + 1) (modSo o (fun x => { x with contact := true }) s)).garnet
          = (modSo o (fun x => { x with contact := true }) s).garnet := evp_garnet ..
      constructor
      · rw [hg, hself]
      · rw [hg, hself]
      · intro j hj
        rw [hg]
        exact upd_other hj
      · intros
        rw [hg, hself]
      · intro hfb
        exact absurd (hfb.symm.trans hgo.1) Bool.false_ne_true
    · rename_i hgo
      refine ⟨rfl, rfl, fun _ _ => rfl, fun f' hf' hfb hd ht => ?_, fun _ => rfl⟩
      obtain rfl : f = f' := Option.some.inj (hf.symm.trans hf')
      exact Classical.byContradiction fun hc => hgo ⟨hfb, by rw [show x.driven = false from hd]; exact Bool.false_ne_true, hc, ht⟩
  · rename_i hf
    exact ⟨rfl, rfl, fun _ _ => rfl, fun f' hf' => absurd (hf.symm.trans hf') nofun, fun _ => rfl⟩

theorem Supervised.of_outs (h : Supervised o s t) (he : u.garnet.outs = t.garnet.outs) : Supervised o s u := by
  obtain ⟨h1, h2, h3, h4, h5⟩ := h
  exact ⟨by rw [he]; exact h1, by rw [he]; exact h2, by rw [he]; exact h3, by rw [he]; exact h4, by rw [he]; exact h5⟩

theorem contactorFeedback_supervises (ho : o.val < 24) (hr : pget s 0x400B 0 < s.garnet.outs[o].fb.run) :
    ∃ t, exec (.contactorFeedback o) s = .next t
        ∧ t.garnet.outs[o].fb = filtAccept s.garnet.outs[o].fb s.frame ∧ t.garnet.outs[o].driven = s.garnet.outs[o].driven
        ∧ (∀ j, j ≠ o → t.garnet.outs[j] = s.garnet.outs[j])
        ∧ (∀ f, s.garnet.outs[o].offAt = some f → s.garnet.outs[o].fb.stamp = true → s.garnet.outs[o].driven = false →
            f + pget s 0x400C 0 ≤ s.frame → t.garnet.outs[o].contact = true)
        ∧ (s.garnet.outs[o].fb.stamp = false → t.garnet.outs[o].contact = s.garnet.outs[o].contact) := by
  have hrow : exec (.contactorFeedback o) s = .next (confirmAll (contactorWeld o (contactFault o (acceptFeedback o s)))) := if_pos ho
  rw [acceptFeedback_accepts ho hr] at hrow
  have hself := modSo_self o (fun x => { x with fb := filtAccept x.fb s.frame }) s
  have hframe : (modSo o (fun x => { x with fb := filtAccept x.fb s.frame }) s).frame = s.frame := rfl
  have hread (id inst : Nat) : pget (modSo o (fun x => { x with fb := filtAccept x.fb s.frame }) s) id inst = pget s id inst := rfl
  have hother (j : Fin 32) (hj : j ≠ o) : (modSo o (fun x => { x with fb := filtAccept x.fb s.frame }) s).garnet.outs[j] = s.garnet.outs[j] :=
    upd_other hj
  generalize modSo o (fun x => { x with fb := filtAccept x.fb s.frame }) s = u at hrow hself hframe hread hother
  have hsup := contactFault_supervises o u
  have hw : (contactorWeld o (contactFault o u)).garnet.outs = (contactFault o u).garnet.outs := touches_contactorWeld.same .outs rfl
  have hc : (confirmAll (contactorWeld o (contactFault o u))).garnet.outs = (contactorWeld o (contactFault o u)).garnet.outs :=
    touches_confirmAll.same .outs rfl
  obtain ⟨h1, h2, h3, h4, h5⟩ := hsup.of_outs (hc.trans hw)
  rw [hself] at h1 h2 h4 h5
  refine ⟨_, hrow, h1, h2, fun j hj => (h3 j hj).trans (hother j hj), fun f hf hs hd ht => h4 f hf hs hd ?_, h5⟩
  rw [hread, hframe]
  exact ht

/-! ### Outputs of a connection device (R385) -/

/-- The output of a connection device (Table SAF-2). -/
def cdOutput (x : Fin 36) (h : 32 ≤ x.val) : Fin 4 := ⟨x.val - 32, by omega⟩

theorem cdOutput_natAdd (d : Fin 4) : cdOutput (Fin.natAdd 32 d) (by simp) = d := Fin.ext (by simp [cdOutput])

/-- The state in which the test of such an output has failed, its device not stopped yet. -/
def cdTestFailed (d : Fin 4) (kind : Nat) (s : State) : State :=
  modGar (fun g => { g with cdFault := g.cdFault.set d (some kind), cdTestOk := g.cdTestOk.set d false }) s

theorem cdOutputTest_eq {x : Fin 36} (hx : 32 ≤ x.val) {kind : Nat} (hr : s.garnet.st = .run) (hk : kind ≤ 5)
    (hc : cdOutlet s ((cdOutput x hx).val / 2) ≠ none) :
    exec (.outputTest x kind) s =
      if kind = 0 then .next { s with garnet := { s.garnet with cdTestOk := s.garnet.cdTestOk.set (cdOutput x hx) true } }
      else .next (cdFaulted ⟨(cdOutput x hx).val / 2, by omega⟩ (ev 0xA3 (cdDomain s ((cdOutput x hx).val / 2)) 0 (x.val * 256 + kind)
        (cdTestFailed (cdOutput x hx) kind s))) := by
  have hgo : ¬ (s.garnet.st ≠ .run ∨ 5 < kind) := fun h => h.elim (fun h => h hr) (by omega)
  change execOutputTest _ kind s = _
  unfold execOutputTest
  rw [if_neg hgo, dif_neg (Nat.not_lt.mpr hx)]
  refine (if_neg fun h => hc (Option.isNone_iff_eq_none.mp h)).trans ?_
  split <;> rfl

theorem cdFaulted_next {c : Fin 2} (h : s.garnet.cds[c].st ≠ .unused) :
    (cdFaulted c s).garnet.cds[c].next = some (.faulted, frameAfter s.frame 1) ∧ (cdFaulted c s).garnet.cdFault = s.garnet.cdFault
      ∧ (cdFaulted c s).garnet.outs = s.garnet.outs := by
  unfold cdFaulted
  rw [if_neg h]
  exact ⟨congrArg CdSt.next (modCd_self ..), rfl, rfl⟩

theorem cdOutput_rows (d : Fin 4) (s : State) : let c : Fin 2 := ⟨d.val / 2, by omega⟩
      s.garnet.st = .run → cdOutlet s c ≠ none →
      (exec (.outputTest (Fin.natAdd 32 d) 0) s = .next { s with garnet := { s.garnet with cdTestOk := s.garnet.cdTestOk.set d true } })
      ∧ (∀ kind, 1 ≤ kind → kind ≤ 5 → s.garnet.cds[c].st ≠ .unused → ∃ t, exec (.outputTest (Fin.natAdd 32 d) kind) s = .next t
        ∧ t.garnet.cdFault = s.garnet.cdFault.set d (some kind) ∧ t.garnet.cds[c].next = some (.faulted, frameAfter s.frame 1)
        ∧ t.garnet.outs = s.garnet.outs) := by
  intro c hr hc
  have hx : 32 ≤ (Fin.natAdd 32 d : Fin 36).val := by simp
  have hd : cdOutput (Fin.natAdd 32 d) hx = d := cdOutput_natAdd d
  refine ⟨?_, fun kind h1 h5 hu => ?_⟩
  · have hrow := cdOutputTest_eq hx (kind := 0) hr (by decide) (by rw [hd]; exact hc)
    rw [if_pos rfl] at hrow
    simp only [hd] at hrow
    exact hrow
  · have hrow := cdOutputTest_eq hx (kind := kind) hr h5 (by rw [hd]; exact hc)
    rw [if_neg (by omega)] at hrow
    simp only [hd] at hrow
    have hg : (ev 0xA3 (cdDomain s (d.val / 2)) 0 ((Fin.natAdd 32 d : Fin 36).val * 256 + kind) (cdTestFailed d kind s)).garnet
        = (cdTestFailed d kind s).garnet := evp_garnet ..
    have hf : (ev 0xA3 (cdDomain s (d.val / 2)) 0 ((Fin.natAdd 32 d : Fin 36).val * 256 + kind) (cdTestFailed d kind s)).frame = s.frame :=
      evp_frame ..
    generalize ev 0xA3 (cdDomain s (d.val / 2)) 0 ((Fin.natAdd 32 d : Fin 36).val * 256 + kind) (cdTestFailed d kind s) = u at hrow hg hf
    obtain ⟨h1, h2, h3⟩ := cdFaulted_next (s := u) (c := c) (by rw [hg]; exact hu)
    exact ⟨_, hrow, h2.trans (congrArg GarnetSt.cdFault hg), h1.trans (by rw [hf]), h3.trans ((congrArg GarnetSt.outs hg).trans rfl)⟩

/-! ### The stop of the island (R377) and a lost partner (R13) -/

theorem cdTo_cds (c j : Fin 2) (x : CdState) (s : State) : (cdTo c x s).garnet.cds[j].st = if j = c then x else s.garnet.cds[j].st := by
  unfold cdTo
  by_cases hx : s.garnet.cds[c].st = x
  · rw [if_pos hx]
    split
    · rename_i hj
      rw [hj, hx]
    · rfl
  · rw [if_neg hx]
    have hg : (ev 0xA6 (cdDomain s c) 0 (c.val * 256 + cdCode x) (modCd c (fun y => { y with st := x }) s)).garnet
        = (modCd c (fun y => { y with st := x }) s).garnet := evp_garnet ..
    rw [hg]
    by_cases hj : j = c
    · subst hj
      rw [if_pos rfl, modCd_self]
    · rw [if_neg hj]
      exact congrArg CdSt.st (upd_other hj)

theorem cdTo_stands (c : Fin 2) (x : CdState) (s : State) :
    (cdTo c x s).garnet.outs = s.garnet.outs ∧ (cdTo c x s).garnet.st = s.garnet.st := by
  unfold cdTo
  split
  · exact ⟨rfl, rfl⟩
  · have hg : (ev 0xA6 (cdDomain s c) 0 (c.val * 256 + cdCode x) (modCd c (fun y => { y with st := x }) s)).garnet
        = (modCd c (fun y => { y with st := x }) s).garnet := evp_garnet ..
    rw [hg]
    exact ⟨rfl, rfl⟩

/-- A device as the stop of the island leaves it. -/
def cdStopped (c : Fin 2) (s : State) : State :=
  if s.garnet.cds[c].st = .unused then s
  else cdTo c .stopped (modCd c (fun x => { x with next := none, brkAt := none, ss1End := none, test := none }) s)

theorem cdStopped_cds (c j : Fin 2) (s : State) : (cdStopped c s).garnet.cds[j].st =
    if j = c ∧ s.garnet.cds[j].st ≠ .unused then .stopped else s.garnet.cds[j].st := by
  unfold cdStopped
  by_cases hj : j = c
  · subst hj
    by_cases hu : s.garnet.cds[j].st = .unused
    · rw [if_pos hu, if_neg fun h => h.2 hu]
    · rw [if_neg hu, if_pos ⟨rfl, hu⟩, cdTo_cds, if_pos rfl]
  · rw [if_neg (fun h : j = c ∧ _ => hj h.1)]
    split
    · rfl
    · rw [cdTo_cds, if_neg hj]
      exact congrArg CdSt.st (upd_other hj)

theorem cdStopped_stands (c : Fin 2) (s : State) :
    (cdStopped c s).garnet.outs = s.garnet.outs ∧ (cdStopped c s).garnet.st = s.garnet.st := by
  unfold cdStopped
  split
  · exact ⟨rfl, rfl⟩
  · exact cdTo_stands ..

theorem soOff_outs (o j : Fin 32) (s : State) : ((soOff o s).garnet.outs[j].driven = false ∧ (soOff o s).garnet.outs[j].granted = false) ∨
    (j ≠ o ∧ (soOff o s).garnet.outs[j] = s.garnet.outs[j]) := by
  have hself := modSo_self o (fun x => { x with granted := false, driven := false, offAt := if x.driven then some s.frame else x.offAt }) s
  by_cases hj : j = o
  · subst hj
    exact .inl ⟨congrArg SafeOut.driven hself, congrArg SafeOut.granted hself⟩
  · exact .inr ⟨hj, upd_other hj⟩

theorem garnetStop_stops (hs : s.garnet.st ≠ .stop) (cause : Nat) : ∃ t, exec (.garnetStop cause) s = .next t ∧ t.garnet.st = .stop
      ∧ (∀ o : Fin 32, t.garnet.outs[o].driven = false ∧ t.garnet.outs[o].granted = false)
      ∧ (∀ c : Fin 2, t.garnet.cds[c].st = .stopped ∨ t.garnet.cds[c].st = .unused) ∧ t.params = s.params := by
  have hrow : exec (.garnetStop cause) s = .next (ev 0xAA 14 0 cause ((allFin 2).foldl (fun s c => cdStopped c s)
      ((allFin 32).foldl (fun s o => soOff o s) (modGar (fun g => { g with st := .stop }) s)))) := if_neg hs
  generalize h1 : modGar (fun g => { g with st := .stop }) s = s1 at hrow
  have hst1 : s1.garnet.st = .stop ∧ s1.params = s.params := by
    rw [← h1]
    exact ⟨rfl, rfl⟩
  generalize h32 : allFin 32 = outs at hrow
  have houts (o : Fin 32) : (outs.foldl (fun s o => soOff o s) s1).garnet.outs[o].driven = false
      ∧ (outs.foldl (fun s o => soOff o s) s1).garnet.outs[o].granted = false := by
    refine foldl_forall (P := fun (o : Fin 32) (t : State) => t.garnet.outs[o].driven = false ∧ t.garnet.outs[o].granted = false)
      (fun t o => ?_) (fun t o j ht => ?_) (h32 ▸ mem_allFin o) s1
    · exact (soOff_outs o o t).resolve_right fun h => h.1 rfl
    · rcases soOff_outs j o t with h | ⟨-, h⟩
      · exact h
      · rw [h]
        exact ht
  have hst2 : (outs.foldl (fun s o => soOff o s) s1).garnet.st = s1.garnet.st :=
    foldl_same (g := fun t : State => t.garnet.st) (fun t o => by rfl) outs s1
  have hp2 : (outs.foldl (fun s o => soOff o s) s1).params = s1.params := foldl_same (g := State.params) (fun t o => by rfl) outs s1
  generalize outs.foldl (fun s o => soOff o s) s1 = s2 at hrow houts hst2 hp2
  generalize h2 : allFin 2 = cds at hrow
  have hcds (c : Fin 2) : (cds.foldl (fun s c => cdStopped c s) s2).garnet.cds[c].st = .stopped
      ∨ (cds.foldl (fun s c => cdStopped c s) s2).garnet.cds[c].st = .unused := by
    refine foldl_forall (P := fun (c : Fin 2) (t : State) => t.garnet.cds[c].st = .stopped ∨ t.garnet.cds[c].st = .unused)
      (fun t c => ?_) (fun t c j ht => ?_) (h2 ▸ mem_allFin c) s2
    · rw [cdStopped_cds]
      split
      · exact .inl rfl
      · rename_i hn
        exact .inr (Classical.byContradiction fun hu => hn ⟨rfl, hu⟩)
    · rw [cdStopped_cds]
      split
      · exact .inl rfl
      · exact ht
  have hst3 : (cds.foldl (fun s c => cdStopped c s) s2).garnet.st = s2.garnet.st :=
    foldl_same (g := fun t : State => t.garnet.st) (fun t c => (cdStopped_stands c t).2) cds s2
  have hout3 : (cds.foldl (fun s c => cdStopped c s) s2).garnet.outs = s2.garnet.outs :=
    foldl_same (g := fun t : State => t.garnet.outs) (fun t c => (cdStopped_stands c t).1) cds s2
  have hp3 : (cds.foldl (fun s c => cdStopped c s) s2).params = s2.params := by
    refine foldl_same (g := State.params) (fun t c => ?_) cds s2
    unfold cdStopped
    split
    · rfl
    · exact Eq.trans (touches_cdTo.same .params rfl) rfl
  generalize cds.foldl (fun s c => cdStopped c s) s2 = s3 at hrow hcds hst3 hout3 hp3
  have hg : (ev 0xAA 14 0 cause s3).garnet = s3.garnet := evp_garnet ..
  have hp : (ev 0xAA 14 0 cause s3).params = s3.params := evp_params ..
  refine ⟨_, hrow, ?_, fun o => ?_, fun c => ?_, hp.trans (hp3.trans (hp2.trans hst1.2))⟩
  · rw [hg]
    exact hst3.trans (hst2.trans hst1.1)
  · rw [hg, hout3]
    exact houts o
  · rw [hg]
    exact hcds c

/-- What the loss of the partner marks, before its event and the stop of the devices. -/
def partnerNoted (s : State) : State :=
  { modGar (fun g => { g with partner := true, partnerOk := 0 }) s with sys := { s.sys with partnerLost := true } }

theorem sysPartnerLost_tells {beat : Bool} (hm : (if beat then s.sys.beatMissing else s.sys.onyxMissing) = 16) :
    ∃ t, exec (.sysPartnerLost beat) s = .next t ∧ t.garnet.partner = true ∧ t.sys.partnerLost = true ∧ t.garnet.outs = s.garnet.outs := by
  have hrow : exec (.sysPartnerLost beat) s = .next (cdStopAll none (if (beat && s.sys.service == .bringUp) = true then partnerNoted s
      else ev 0x03 12 0 (if beat then 2 else 1) (partnerNoted s))) := if_pos hm
  generalize hu : (if (beat && s.sys.service == .bringUp) = true then partnerNoted s
      else ev 0x03 12 0 (if beat then 2 else 1) (partnerNoted s)) = u at hrow
  have hug : u.garnet = (partnerNoted s).garnet ∧ u.sys = (partnerNoted s).sys := by
    rw [← hu]
    split
    · exact ⟨rfl, rfl⟩
    · exact ⟨evp_garnet .., evp_sys ..⟩
  obtain ⟨v, hv⟩ := cdsOnly_cdStopAll (s := u) (l := none)
  rw [hv] at hrow
  have hpartner : u.garnet.partner = true := by rw [hug.1]; rfl
  have hlost : u.sys.partnerLost = true := by rw [hug.2]; rfl
  have houts : u.garnet.outs = s.garnet.outs := by rw [hug.1]; rfl
  exact ⟨_, hrow, hpartner, hlost, houts⟩

/-! ### The pilot (R408) and SCFG_N (R393) -/

theorem foldl_ungrant (l : List (Fin 32)) (s : State) : ∃ v, l.foldl (fun (s : State) o => ungrant o s) s
      = { s with garnet := { s.garnet with outs := v } }
    ∧ ∀ o : Fin 32, v[o] = if o ∈ l then { s.garnet.outs[o] with granted := false } else s.garnet.outs[o] := by
  induction l generalizing s with
  | nil => exact ⟨s.garnet.outs, rfl, fun _ => rfl⟩
  | cons j l ih =>
    obtain ⟨v, hv, ho⟩ := ih (ungrant j s)
    refine ⟨v, hv, fun o => (ho o).trans ?_⟩
    have hself : (ungrant j s).garnet.outs[j] = { s.garnet.outs[j] with granted := false } := modSo_self ..
    by_cases hj : o = j
    · subst hj
      rw [hself, if_pos List.mem_cons_self]
      split <;> rfl
    · have hother : (ungrant j s).garnet.outs[o] = s.garnet.outs[o] := upd_other hj
      rw [hother]
      by_cases hl : o ∈ l
      · rw [if_pos hl, if_pos (List.mem_cons_of_mem j hl)]
      · rw [if_neg hl, if_neg fun h => (List.mem_cons.mp h).elim hj hl]

theorem safCpLoss_removes {k : Fin 8} {n : Nat} (hh : holdsGrant s k = true)
    (hn : (pget s 0x4010 k < s.garnet.pilots[k].lossRun ∧ n = 1)
      ∨ (s.garnet.pilots[k].lossRun ≤ pget s 0x4010 k ∧ pget s 0x4011 k ≤ s.garnet.pilots[k].bRun ∧ n = 2)) :
    ∃ t, exec (.safCpLoss k) s = .next t
      ∧ (∀ o : Fin 32, t.garnet.outs[o] = if o ∈ soOutlet k then { s.garnet.outs[o] with granted := false } else s.garnet.outs[o])
      ∧ t.garnet.evNext = s.garnet.evNext ++ [(0xA5, k.val, 0, pilotCode s.garnet.pilots[k].cls * 256 + n)] := by
  have hrow : exec (.safCpLoss k) s = .next (evNext 0xA5 k 0 (pilotCode s.garnet.pilots[k].cls * 256 + n)
      ((soOutlet k).foldl (fun (s : State) o => ungrant o s) s)) := by
    change execSafCpLoss k s = _
    unfold execSafCpLoss
    extract_lets p loss back s1
    rcases hn with ⟨hl, rfl⟩ | ⟨hl, hb, rfl⟩
    · have hloss : loss = true := decide_eq_true hl
      rw [if_pos ⟨hh, .inl hloss⟩, hloss]
      rfl
    · have hloss : loss = false := decide_eq_false (Nat.not_lt.mpr hl)
      rw [if_pos ⟨hh, .inr (decide_eq_true hb)⟩, hloss]
      rfl
  obtain ⟨v, hv, ho⟩ := foldl_ungrant (soOutlet k) s
  rw [hv] at hrow
  exact ⟨_, hrow, ho, rfl⟩

theorem not_holdsGrant {k : Fin 8} (h : ∀ o ∈ soOutlet k, t.garnet.outs[o].granted = false) : holdsGrant t k = false := by
  unfold holdsGrant
  rw [List.any_eq_false]
  exact fun o ho => by rw [h o ho]; exact Bool.false_ne_true

theorem safDiscard_discards (s : State) : (safDiscard s).garnet.staged = none ∧ (safDiscard s).garnet.committed = s.garnet.committed
    ∧ (safDiscard s).garnet.scfgHigh = s.garnet.scfgHigh := by
  unfold safDiscard
  split
  · have hg : (ev 0xA9 14 2 (garnetSig (stagedGet s)) (modGar (fun g => { g with staged := none, verified := none }) s)).garnet
        = (modGar (fun g => { g with staged := none, verified := none }) s).garnet := evp_garnet ..
    rw [hg]
    exact ⟨rfl, rfl, rfl⟩
  · rename_i hn
    exact ⟨by simpa using hn, rfl, rfl⟩

/-- Settles O50. -/
theorem safeInputsAndOutputsAreSupervised : Obligations.SafeInputsAndOutputsAreSupervised := by
  intro s
  refine ⟨fun i b => ⟨fun hr => safeInputAccepted_waits hr, fun hr hf hd hl h12 => safeInputAccepted_demands rfl hr hf hd hl h12,
      fun hr hf hd hl ho h12 => safeInputAccepted_releases rfl hr hf hd hl ho h12, fun f hd ht hfunc hf => ?_, fun hd => ?_,
      fun hm hfunc hf => ?_, fun hm => if_neg fun h => absurd h.1 (Nat.not_le.mpr hm)⟩,
    fun o => ⟨output_rows o s, fun ht kind => outputTest_waits ht, fun hd => soOvercurrent_holds hd,
      fun hd => if_neg (by rw [hd]; exact Bool.false_ne_true), fun ho _ hr => contactorFeedback_supervises ho hr⟩,
    fun d => cdOutput_rows d s, fun hs cause => garnetStop_stops hs cause, fun hs cause => if_pos hs, fun beat hm => sysPartnerLost_tells hm,
    fun beat hm => if_neg (Nat.ne_of_lt hm), fun k => ⟨fun hh hl => safCpLoss_removes hh (.inl ⟨hl, rfl⟩), fun hh hl hb => ?_, fun hh => ?_⟩, ?_, rfl⟩
  · obtain ⟨t, hrow, h⟩ := safeInputDiscrepancy_faults hd ht hfunc hf
    exact ⟨t, hrow, h.faulted, h.latch, h.demand⟩
  · refine if_neg fun h => ?_
    rw [show s.garnet.inputs[i].discBy = none from hd] at h
    exact absurd h.1 Bool.false_ne_true
  · obtain ⟨t, hrow, h⟩ := testPulseMissing_faults hm hfunc hf
    exact ⟨t, hrow, h.faulted, h.latch, h.demand⟩
  · obtain ⟨t, hrow, ho, he⟩ := safCpLoss_removes (n := 2) hh (.inr ⟨hl, hb, rfl⟩)
    exact ⟨t, hrow, not_holdsGrant fun o hmem => by rw [ho o, if_pos hmem], he⟩
  · exact if_neg fun h => absurd (hh.symm.trans h.1) Bool.false_ne_true
  · obtain ⟨h1, h2, h3⟩ := safDiscard_discards (modGar (fun g => { g with scfgHigh := true }) s)
    exact ⟨_, rfl, h3, h1, h2⟩

end Sys2Proof.Machine
end
section
/-! PROOF. What an event sends leaves the part behind what is sent already. -/

namespace Sys2Proof.Machine

variable {s t : State}

theorem notifyHosts_outbox (s : State) : s.outbox <+: (notifyHosts s).outbox := by
  unfold notifyHosts
  split
  · refine foldl_keep (P := fun t : State => s.outbox <+: t.outbox) List.prefix_rfl (fun t i ht => ht.trans ?_) _
    unfold sendOn
    split
    · exact List.prefix_rfl
    · exact List.prefix_append ..
  · exact List.prefix_rfl

theorem pushEvent_outbox (id dom detail arg : Nat) (b : List Byte) (s : State) : s.outbox <+: (pushEvent id dom detail arg b s).outbox := by
  unfold pushEvent
  extract_lets q cap q' t
  split
  · exact notifyHosts_outbox t
  · exact List.prefix_rfl

theorem pushData_outbox (q : Fin 4) (id dom detail arg : Nat) (b : List Byte) (s : State) :
    s.outbox <+: (pushData q id dom detail arg b s).outbox := by
  unfold pushData
  extract_lets old new t
  split
  · exact pushEvent_outbox 0x0C 12 0 q [] t
  · exact List.prefix_rfl

theorem evp_outbox (id dom detail arg : Nat) (b : List Byte) (s : State) : s.outbox <+: (evp id dom detail arg b s).outbox := by
  have hfault {d : Fin 12} {p n m : Bool} {t : State} : (noteFault d id p n m t).outbox = t.outbox := by rw [noteFault_eq]
  have hpush := pushEvent_outbox id dom detail arg b s
  unfold evp
  extract_lets t
  split
  · exact hpush
  · split
    · rw [hfault]
      exact hpush
    · exact hpush

theorem ev_outbox (id dom detail arg : Nat) (s : State) : s.outbox <+: (ev id dom detail arg s).outbox := evp_outbox ..

end Sys2Proof.Machine
end
section
/-! PROOF. Connection devices, latches and the safety configuration (chapter 11). -/

namespace Sys2Proof.Machine

open Host (Outcome)

variable {s t u : State} {c : Fin 2} {h : Hdr}

theorem accepted_eq (i : Instr) (h : Hdr) (op d : Nat) (r : Option (List Byte)) (s : State) :
    accepted i h op d r s = { s with link := (entered h s).link, due := s.due ++ [waitingCmd i h op d r s] } := by
  unfold accepted
  rw [entered_eq]

theorem modCd_modCd (f g : CdSt → CdSt) (s : State) : modCd c g (modCd c f s) = modCd c (fun x => g (f x)) s := by
  change { s with garnet := { s.garnet with cds := upd (upd s.garnet.cds c f) c g } } = _
  have hset : upd (upd s.garnet.cds c f) c g = upd s.garnet.cds c fun x => g (f x) := by
    unfold upd
    rw [Vector.set_set]
    exact congrArg (fun x => s.garnet.cds.set c x) (congrArg g (upd_self s.garnet.cds c f))
  rw [hset]
  rfl

/-! ### The commands of a device (R400 to R402) -/

theorem safCdEnable_enables (hst : cdSoon s c = .stopped) (hb : brakeRunning s = false) (hg : grantCause s (32 + c.val) = 0)
    (hp : Passes h 0x4002 true true s) : exec (.safCdEnable h c 1) s =
      .next (cdNext c .enabling (modCd c (fun x => { x with brkAt := some (frameAfter s.frame (1 + pget s 0x401B c)) })
        (accepted (.safCdEnable h c 1) h 0x4002 0 none s))) := by
  have hr : cdEnableRules c 1 (entered h s) = .accept 0 none (fun s =>
      cdNext c .enabling (modCd c (fun x => { x with brkAt := some (frameAfter s.frame (1 + pget s 0x401B c)) }) s)) := by
    rw [entered_eq]
    refine (dif_pos c.isLt).trans ?_
    refine (if_neg (by decide)).trans ((if_pos rfl).trans ((if_neg (Classical.not_not.mpr hst)).trans ((if_neg ?_).trans (if_neg (Classical.not_not.mpr hg)))))
    exact fun h => Bool.false_ne_true (hb.symm.trans h)
  change ans (hostCmd ..) = _
  rw [hostCmd_passes hp, hr]
  dsimp only
  rw [accepted_eq]
  rfl

theorem safCdEnable_stops (hst : cdSoon s c = .enabling ∨ cdSoon s c = .enabled ∨ cdSoon s c = .ss1) (hp : Passes h 0x4002 true true s) :
    exec (.safCdEnable h c 0) s = .next (cdNext c .stopped (modCd c (fun x => { x with brkAt := none, ss1End := none })
      (accepted (.safCdEnable h c 0) h 0x4002 0 none s))) := by
  have hr : cdEnableRules c 0 (entered h s) = .accept 0 none (fun s =>
      cdNext c .stopped (modCd c (fun x => { x with brkAt := none, ss1End := none }) s)) := by
    rw [entered_eq]
    refine (dif_pos c.isLt).trans ((if_neg (by decide)).trans ((if_neg (by decide)).trans ((if_neg fun h0 => ?_).trans (if_pos hst))))
    rcases hst with h1 | h1 | h1 <;> exact absurd (h1.symm.trans h0) (by decide)
  change ans (hostCmd ..) = _
  rw [hostCmd_passes hp, hr]
  dsimp only
  rw [accepted_eq]
  rfl

theorem safCdEnable_stopped (hst : cdSoon s c = .stopped) (hp : Passes h 0x4002 true true s) :
    exec (.safCdEnable h c 0) s = .next (accepted (.safCdEnable h c 0) h 0x4002 0x0001 none s) := by
  have hr : cdEnableRules c 0 (entered h s) = .accept 0x0001 none id := by
    rw [entered_eq]
    exact (dif_pos c.isLt).trans ((if_neg (by decide)).trans ((if_neg (by decide)).trans (if_pos hst)))
  exact congrArg Outcome.next (hostCmd_accepts hp rfl rfl hr)

/-- The brake test that the command takes (R400). -/
def testTaken (c : Fin 2) (s : State) : BrakeTest :=
  { winAt := frameAfter s.frame (1 + pget s 0x401B c),
    winEnd := frameAfter (frameAfter s.frame (1 + pget s 0x401B c)) (pget s 0x4021 c),
    lastSt := frameAfter s.frame (1 + pget s 0x401B c), torque := pget s 0x4020 c }

theorem safBrakeTest_begins (hst : cdSoon s c = .stopped) (hb : brakeRunning s = false)
    (hg : ∀ y ∈ grantFails s true (32 + c.val), y.1 ≠ 12 → y.2 = false) (hp : Passes h 0x4003 true true s) :
    exec (.safBrakeTest h c) s = .next (cdNext c .brakeTest (modCd c (fun x => { x with test := some (testTaken c s) })
      (accepted (.safBrakeTest h c) h 0x4003 0x0100 none s))) := by
  have hnone : ((grantFails s true (32 + c.val)).any fun x => x.1 != 12 && x.2) = false := by
    refine List.any_eq_false.mpr fun y hy hbad => ?_
    obtain ⟨h12, h2⟩ := Bool.and_eq_true_iff.mp hbad
    exact Bool.false_ne_true ((hg y hy (bne_iff_ne.mp h12)).symm.trans h2)
  have hr : brakeTestRules c (entered h s) = .accept 0x0100 none (fun s => cdNext c .brakeTest (modCd c (fun x => { x with test := some (testTaken c s) }) s)) := by
    rw [entered_eq]
    refine (dif_pos c.isLt).trans ((if_neg (Classical.not_not.mpr hst)).trans ((if_neg ?_).trans (if_neg ?_)))
    · exact fun h => Bool.false_ne_true (hb.symm.trans h)
    · exact fun h => Bool.false_ne_true (hnone.symm.trans h)
  change ans (hostCmd ..) = _
  rw [hostCmd_passes hp, hr]
  dsimp only
  rw [accepted_eq]
  rfl

/-! ### The states of a device (R394 to R399) -/

theorem cdTo_arrives {st : CdState} (hne : s.garnet.cds[c].st ≠ st) : (cdTo c st s).garnet = (modCd c (fun x => { x with st := st }) s).garnet := by
  unfold cdTo
  rw [if_neg hne]
  exact evp_garnet ..

theorem brakeRelease_enables {b : Nat} (hst : s.garnet.cds[c].st = .enabling) (hb : s.garnet.cds[c].brkAt = some b)
    (hn : s.garnet.cds[c].next = none) (hdue : b ≤ s.frame) (hg : grantCause s (32 + c.val) = 0) :
    ∃ t, exec (.brakeRelease c) s = .next t ∧ t.garnet.cds[c].st = .enabled ∧ t.garnet.cds[c].brkAt = none ∧ t.garnet.outs = s.garnet.outs := by
  have hgo : s.garnet.cds[c].st = .enabling ∧ expired s.garnet.cds[c].brkAt s.frame ∧ s.garnet.cds[c].next.isNone
      ∧ grantCause s (32 + c.val) = 0 := by
    rw [hb, hn]
    exact ⟨hst, decide_eq_true hdue, rfl, hg⟩
  have hrow : exec (.brakeRelease c) s = .next (cdTo c .enabled (modCd c (fun x => { x with brkAt := none }) s)) := if_pos hgo
  have hself := modCd_self c (fun x => { x with brkAt := none }) s
  have hne : (modCd c (fun x => { x with brkAt := none }) s).garnet.cds[c].st ≠ .enabled := by
    rw [hself, hst]
    decide
  have hto := cdTo_arrives hne
  rw [modCd_modCd] at hto
  have hcd := modCd_self c (fun x => { x with brkAt := none, st := .enabled }) s
  refine ⟨_, hrow, ?_, ?_, ?_⟩
  · rw [hto, hcd]
  · rw [hto, hcd]
  · rw [hto]
    rfl

theorem brakeRelease_waits {b : Nat} (hb : s.garnet.cds[c].brkAt = some b) (hdue : s.frame < b) : exec (.brakeRelease c) s = .next s := by
  refine if_neg fun h => ?_
  obtain ⟨-, hexp, -⟩ := h
  rw [hb] at hexp
  exact absurd (of_decide_eq_true hexp) (Nat.not_le.mpr hdue)

theorem ss1Timeout_stops {e : Nat} (hst : s.garnet.cds[c].st = .ss1) (he : s.garnet.cds[c].ss1End = some e) (hdue : e ≤ s.frame) :
    ∃ t, exec (.ss1Timeout c) s = .next t ∧ t.garnet.cds[c].st = .stopped ∧ t.garnet.cds[c].cdstop = false
      ∧ t.garnet.cds[c].ss1End = none ∧ t.garnet.outs = s.garnet.outs := by
  have hgo : s.garnet.cds[c].st = .ss1 ∧ expired s.garnet.cds[c].ss1End s.frame := by
    rw [he]
    exact ⟨hst, decide_eq_true hdue⟩
  have hrow : exec (.ss1Timeout c) s = .next (cdTo c .stopped (modCd c (fun x => { x with ss1End := none, cdstop := false, next := none }) s)) :=
    if_pos hgo
  have hself := modCd_self c (fun x => { x with ss1End := none, cdstop := false, next := none }) s
  have hne : (modCd c (fun x => { x with ss1End := none, cdstop := false, next := none }) s).garnet.cds[c].st ≠ .stopped := by
    rw [hself, hst]
    decide
  have hto := cdTo_arrives hne
  rw [modCd_modCd] at hto
  have hcd := modCd_self c (fun x => { x with ss1End := none, cdstop := false, next := none, st := .stopped }) s
  refine ⟨_, hrow, ?_, ?_, ?_, ?_⟩
  · rw [hto, hcd]
  · rw [hto, hcd]
  · rw [hto, hcd]
  · rw [hto]
    rfl

theorem ss1Timeout_waits {e : Nat} (he : s.garnet.cds[c].ss1End = some e) (hdue : s.frame < e) : exec (.ss1Timeout c) s = .next s := by
  refine if_neg fun h => ?_
  obtain ⟨-, hexp⟩ := h
  rw [he] at hexp
  exact absurd (of_decide_eq_true hexp) (Nat.not_le.mpr hdue)

/-! ### The brake test (R400, R401) -/

variable {b : BrakeTest} {p : List Byte}

/-- The setpoint request of a brake test goes to the device's drive, and its counter goes on. -/
theorem cdRequest_sends {torque : Nat} (hp : cdProfile s c = some p) (ht : s.garnet.cds[c].test = some b) :
    cdRequest c torque s = modCd c (fun x => { x with test := some { b with alive := b.alive + 1 } })
      (emit (.can (pget s 0x401C c) (u32At p 24 + pget s 0x401E c * u16At p 28) (setpointPayload p 0 torque b.alive)) s) := by
  unfold cdRequest
  rw [hp, ht]

theorem brakeTestWindowStart_starts (ht : s.garnet.cds[c].test = some b) (hst : s.garnet.cds[c].st = .brakeTest)
    (hp : cdProfile s c = some p) (hdue : b.winAt ≤ s.frame) (hn : b.started = false) :
    ∃ t, exec (.brakeTestWindowStart c) s = .next t ∧ t.garnet.cds[c].test = some { b with started := true, alive := b.alive + 1 }
      ∧ t.outbox = s.outbox ++ [.can (pget s 0x401C c) (u32At p 24 + pget s 0x401E c * u16At p 28) (setpointPayload p 0 b.torque b.alive)] := by
  have hgo : b.winAt ≤ s.frame ∧ ¬ b.started ∧ s.garnet.cds[c].st = .brakeTest :=
    ⟨hdue, fun h => Bool.false_ne_true (hn.symm.trans h), hst⟩
  have hrow : exec (.brakeTestWindowStart c) s
      = .next (cdRequest c b.torque (modCd c (fun x => { x with test := some { b with started := true } }) s)) := by
    change execBrakeTestWindowStart c s = _
    unfold execBrakeTestWindowStart
    rw [ht]
    exact if_pos hgo
  generalize hu : modCd c (fun x => { x with test := some { b with started := true } }) s = u at hrow
  have hself : u.garnet.cds[c] = { s.garnet.cds[c] with test := some { b with started := true } } := by
    rw [← hu]
    exact modCd_self ..
  have htest : u.garnet.cds[c].test = some { b with started := true } := congrArg CdSt.test hself
  have hprof : cdProfile u c = some p := by
    rw [← hu]
    exact hp
  have hsend : cdRequest c b.torque u = _ := cdRequest_sends hprof htest
  rw [hsend] at hrow
  have hcd := modCd_self c (fun x => { x with test := some { b with started := true, alive := b.alive + 1 } })
    (emit (.can (pget u 0x401C c) (u32At p 24 + pget u 0x401E c * u16At p 28) (setpointPayload p 0 b.torque b.alive)) u)
  refine ⟨_, hrow, congrArg CdSt.test hcd, ?_⟩
  rw [← hu]
  rfl

theorem brakeTestWindowStart_waits (ht : s.garnet.cds[c].test = some b) (hdue : s.frame < b.winAt) :
    exec (.brakeTestWindowStart c) s = .next s := by
  change execBrakeTestWindowStart c s = _
  unfold execBrakeTestWindowStart
  rw [ht]
  exact if_neg fun h => absurd h.1 (Nat.not_le.mpr hdue)

/-- What the end of a brake test with a result leaves of its device (R401). -/
def testOver (result f : Nat) (x : CdSt) : CdSt :=
  { x with test := none, due := if result = 0 then false else x.due,
           failed := if result = 0 then false else x.failed || result != 3, lastPass := if result = 0 then some f else x.lastPass }

/-- The state in which the end of a brake test has been told, its device not yet moved. -/
def testTold (c : Fin 2) (b : BrakeTest) (result : Nat) (s : State) : State :=
  ev 0xA7 (cdDomain (modCd c (testOver result s.frame) (cdRequest c 0 s)) c) 0 (min b.disp 65535 * 65536 + c.val * 256 + result)
    (modCd c (testOver result s.frame) (cdRequest c 0 s))

theorem brakeEnd_eq {result : Nat} {atOnce : Bool} : brakeEnd c b result atOnce s =
    if result = 3 then testTold c b result s
    else if atOnce then cdTo c .stopped (testTold c b result s) else cdNext c .stopped (testTold c b result s) := rfl

theorem testTold_device {result : Nat} (hp : cdProfile s c = some p) (ht : s.garnet.cds[c].test = some b) :
    (testTold c b result s).garnet.cds[c] = testOver result s.frame s.garnet.cds[c] := by
  have hg : (testTold c b result s).garnet = (modCd c (testOver result s.frame) (cdRequest c 0 s)).garnet := evp_garnet ..
  rw [hg, modCd_self, cdRequest_sends hp ht, modCd_self]
  rfl

theorem testTold_outbox {result : Nat} (hp : cdProfile s c = some p) (ht : s.garnet.cds[c].test = some b) :
    s.outbox ++ [.can (pget s 0x401C c) (u32At p 24 + pget s 0x401E c * u16At p 28) (setpointPayload p 0 0 b.alive)]
      <+: (testTold c b result s).outbox := by
  have hout := ev_outbox 0xA7 (cdDomain (modCd c (testOver result s.frame) (cdRequest c 0 s)) c) 0
    (min b.disp 65535 * 65536 + c.val * 256 + result) (modCd c (testOver result s.frame) (cdRequest c 0 s))
  have hreq := congrArg State.outbox (cdRequest_sends (torque := 0) hp ht)
  have hlast : s.outbox ++ [.can (pget s 0x401C c) (u32At p 24 + pget s 0x401E c * u16At p 28) (setpointPayload p 0 0 b.alive)]
      <+: (modCd c (testOver result s.frame) (cdRequest c 0 s)).outbox := ⟨[], (List.append_nil _).trans hreq.symm⟩
  exact hlast.trans hout

theorem brakeTestEnd_ends {result : Nat} (ht : s.garnet.cds[c].test = some b) (hst : s.garnet.cds[c].st = .brakeTest)
    (hp : cdProfile s c = some p) (hn : b.result = none) (hdue : b.winEnd ≤ s.frame) (hr : (if b.reached then 0 else 1) = result) :
    ∃ t, exec (.brakeTestEnd c) s = .next t ∧ t.garnet.cds[c] = { testOver result s.frame s.garnet.cds[c] with st := .stopped }
      ∧ (∃ more, t.outbox = s.outbox ++ .can (pget s 0x401C c) (u32At p 24 + pget s 0x401E c * u16At p 28)
        (setpointPayload p 0 0 b.alive) :: more) := by
  have h3 : result ≠ 3 := by
    subst hr
    cases b.reached <;> decide
  have hrow : exec (.brakeTestEnd c) s = .next (cdTo c .stopped (testTold c b result s)) := by
    change execBrakeTestEnd c s = _
    unfold execBrakeTestEnd
    rw [ht]
    dsimp only
    rw [hn]
    refine (if_pos hdue).trans ?_
    rw [hr, brakeEnd_eq, if_neg h3]
    rfl
  have hdev := testTold_device (result := result) hp ht
  have hne : (testTold c b result s).garnet.cds[c].st ≠ .stopped := by
    rw [hdev]
    exact fun h0 => absurd (hst.symm.trans h0) (by decide)
  refine ⟨_, hrow, ?_, ?_⟩
  · rw [cdTo_arrives hne, modCd_self, hdev]
  · have hto : (testTold c b result s).outbox <+: (cdTo c .stopped (testTold c b result s)).outbox := by
      unfold cdTo
      rw [if_neg hne]
      change (modCd c (fun x => { x with st := .stopped }) (testTold c b result s)).outbox <+: _
      exact ev_outbox ..
    obtain ⟨more, hmore⟩ := (testTold_outbox (result := result) hp ht).trans hto
    exact ⟨more, by rw [← hmore, List.append_assoc]; rfl⟩

theorem brakeTestEnd_fails {r : Nat} (ht : s.garnet.cds[c].test = some b) (hp : cdProfile s c = some p) (hr : b.result = some r)
    (h0 : r ≠ 0) (h3 : r ≠ 3) :
    ∃ t, exec (.brakeTestEnd c) s = .next t ∧ t.garnet.cds[c].test = none ∧ t.garnet.cds[c].failed = true
      ∧ t.garnet.cds[c].next = some (.stopped, frameAfter s.frame 1) := by
  have hrow : exec (.brakeTestEnd c) s = .next (cdNext c .stopped (testTold c b r s)) := by
    change execBrakeTestEnd c s = _
    unfold execBrakeTestEnd
    rw [ht]
    dsimp only
    rw [hr]
    dsimp only
    rw [brakeEnd_eq, if_neg h3]
    rfl
  have hframe : (testTold c b r s).frame = s.frame := by
    refine (evp_frame ..).trans ?_
    rw [cdRequest_sends hp ht]
    rfl
  have hdev : (cdNext c .stopped (testTold c b r s)).garnet.cds[c]
      = { testOver r s.frame s.garnet.cds[c] with next := some (.stopped, frameAfter s.frame 1) } := by
    unfold cdNext
    extract_lets f
    have hf : f = frameAfter s.frame 1 := congrArg (frameAfter · 1) hframe
    rw [modCd_self, testTold_device hp ht, hf]
  have hfailed : (testOver r s.frame s.garnet.cds[c]).failed = true := by
    refine (if_neg h0).trans ?_
    rw [bne_iff_ne.mpr h3, Bool.or_true]
  refine ⟨_, hrow, ?_, ?_, ?_⟩
  · exact congrArg CdSt.test hdev
  · exact (congrArg CdSt.failed hdev).trans hfailed
  · exact congrArg CdSt.next hdev

theorem brakeTestEnd_waits (ht : s.garnet.cds[c].test = some b) (hp : cdProfile s c = some p) (hr : b.result = none)
    (hdue : s.frame < b.winEnd) (hl : s.frame < b.lastSt + u16At p 36) : exec (.brakeTestEnd c) s = .next s := by
  change execBrakeTestEnd c s = _
  unfold execBrakeTestEnd
  rw [ht]
  dsimp only
  rw [hr, hp]
  exact (if_neg (Nat.not_le.mpr hdue)).trans (if_neg fun h => absurd h.2 (Nat.not_le.mpr hl))

theorem safBrakeDue_marks {f : Nat} (hf : s.garnet.cds[c].lastPass = some f) (hu : s.garnet.cds[c].st ≠ .unused)
    (hd : s.garnet.cds[c].due = false) (hdue : f + pget s 0x4023 c ≤ s.frame) :
    exec (.safBrakeDue c) s = .next (ev 0xA8 (cdDomain s c) 0 c (modCd c (fun x => { x with due := true }) s)) := by
  change execSafBrakeDue c s = _
  unfold execSafBrakeDue
  dsimp only
  rw [hf]
  exact if_pos ⟨hu, fun h => Bool.false_ne_true (hd.symm.trans h), hdue⟩

theorem safBrakeDue_waits {f : Nat} (hf : s.garnet.cds[c].lastPass = some f) (hdue : s.frame < f + pget s 0x4023 c) :
    exec (.safBrakeDue c) s = .next s := by
  change execSafBrakeDue c s = _
  unfold execSafBrakeDue
  dsimp only
  rw [hf]
  exact if_neg fun h => absurd h.2.2 (Nat.not_le.mpr hdue)

/-! ### Latches and the configuration (R402, R407, R409, R410) -/

theorem maskBits_partner {mask : Nat} (hm : mask % 2 = 1) : maskBits mask 10 = true := by
  have h : (mask / 2 ^ 0 % 2 == 1) = true := by simp [hm]
  unfold maskBits
  extract_lets on
  rw [show on 0 = true from h]
  rfl

/-- Clearing latches removes no grant, and the mark of the partner goes once the partner has been good for 800 frames. -/
theorem clearLatches_partner {sel : Nat → Bool} (hs : sel 10 = true) (hok : 800 ≤ s.garnet.partnerOk) :
    (clearLatches sel s).garnet.partner = false
      ∧ ∀ o : Fin 32, (clearLatches sel s).garnet.outs[o].granted = s.garnet.outs[o].granted := by
  unfold clearLatches
  generalize allFin 16 = ins, allFin 32 = outs, allFin 4 = tests, allFin 2 = cds
  extract_lets f s1 s2 s3 s4
  let G (t : State) : Prop := t.garnet.partnerOk = s.garnet.partnerOk ∧ ∀ o : Fin 32, t.garnet.outs[o].granted = s.garnet.outs[o].granted
  have h1 : G s1 := by
    refine foldl_keep (P := G) ⟨rfl, fun _ => rfl⟩ (fun t j ht => ?_) ins
    exact ht
  have h2 : G s2 := by
    refine foldl_keep (P := G) h1 (fun t j ht => ?_) outs
    refine ⟨ht.1, fun o => ?_⟩
    refine (upd_keeps SafeOut.granted t.garnet.outs j o fun x => ?_).trans (ht.2 o)
    rfl
  have h3 : G s3 := by
    refine foldl_keep (P := G) h2 (fun t j ht => ?_) tests
    split <;> exact ht
  have hgone : s4.garnet.partner = false := by
    refine if_pos ?_
    rw [hs, h3.1]
    exact decide_eq_true hok
  have h4 : ∀ o : Fin 32, s4.garnet.outs[o].granted = s.garnet.outs[o].granted := h3.2
  refine foldl_keep (P := fun t : State => t.garnet.partner = false ∧ ∀ o : Fin 32, t.garnet.outs[o].granted = s.garnet.outs[o].granted)
    ⟨hgone, h4⟩ (fun t c ht => ?_) cds
  split <;> exact ht

theorem clearLatches_params {sel : Nat → Bool} : (clearLatches sel s).params = s.params :=
  (touches_clearLatches (s := s) (sel := sel)).same .params rfl

theorem applySafReset_clears {mask : Nat} (hm : (mask &&& pget s 0x4012 0) % 2 = 1) (hok : 800 ≤ s.garnet.partnerOk) :
    (applySafReset mask s).garnet.partner = false ∧ (applySafReset mask s).params = s.params
      ∧ ∀ o : Fin 32, (applySafReset mask s).garnet.outs[o].granted = s.garnet.outs[o].granted := by
  have hsel : maskBits (mask &&& pget s 0x4012 0) 10 = true := maskBits_partner hm
  obtain ⟨hp, ho⟩ := clearLatches_partner hsel hok
  have hpar : (clearLatches (maskBits (mask &&& pget s 0x4012 0)) s).params = s.params := clearLatches_params
  have he : applySafReset mask s = ev 0xA1 14 (latchesCleared s (clearLatches (maskBits (mask &&& pget s 0x4012 0)) s)) (0xFF * 256 + 1)
      (clearLatches (maskBits (mask &&& pget s 0x4012 0)) s) := rfl
  generalize clearLatches (maskBits (mask &&& pget s 0x4012 0)) s = t at *
  rw [he, ev_garnet, ev_params]
  exact ⟨hp, hpar, ho⟩

/-- Another link in a state, nothing else changed. -/
def withLink (l : LinkSt) (s : State) : State := { s with link := l }

theorem clearLatches_withLink (sel : Nat → Bool) (l : LinkSt) (s : State) :
    clearLatches sel (withLink l s) = withLink l (clearLatches sel s) := by
  unfold clearLatches
  generalize allFin 16 = ins, allFin 32 = outs, allFin 4 = tests, allFin 2 = cds
  extract_lets f s1 s2 s3 s4 f' t1 t2 t3 t4
  have h1 : s1 = withLink l t1 := by
    refine List.foldl_hom (withLink l) fun x y => ?_
    rfl
  have h2 : s2 = withLink l t2 := by
    dsimp only [s2]
    rw [h1]
    refine List.foldl_hom (withLink l) fun x y => ?_
    rfl
  have h3 : s3 = withLink l t3 := by
    dsimp only [s3]
    rw [h2]
    refine List.foldl_hom (withLink l) fun x y => ?_
    rw [apply_ite (withLink l)]
    rfl
  have h4 : s4 = withLink l t4 := by
    dsimp only [s4]
    rw [h3]
    rfl
  rw [h4]
  refine List.foldl_hom (withLink l) fun x y => ?_
  rw [apply_ite (withLink l)]
  rfl

theorem safReset_accepted {mask : Nat} (hc : latchesCleared s (clearLatches (maskBits (mask &&& pget s 0x4012 0)) s) ≠ 0)
    (hp : Passes h 0x4004 true true s) : exec (.safReset h mask) s = .next (accepted (.safReset h mask) h 0x4004 0 none s) := by
  have hr : safResetRules mask (entered h s) = .accept 0 none id := by
    have hlink : entered h s = withLink (entered h s).link s := entered_eq h s
    have hclear : clearLatches (maskBits (mask &&& pget (withLink (entered h s).link s) 0x4012 0)) (withLink (entered h s).link s)
        = withLink (entered h s).link (clearLatches (maskBits (mask &&& pget s 0x4012 0)) s) := clearLatches_withLink ..
    have hword (t : State) : latchesCleared (withLink (entered h s).link s) (withLink (entered h s).link t) = latchesCleared s t := rfl
    rw [hlink]
    refine if_neg fun h0 => ?_
    rw [hclear, hword] at h0
    exact hc h0
  exact congrArg Outcome.next (hostCmd_accepts hp rfl rfl hr)

theorem safCfgStageX_accepted {es : List PEntry} (hn : s.garnet.scfgHigh = false)
    (ho : ∀ k : Fin 8, s.outlets[k].st = .unavailable ∨ s.outlets[k].st = .idle)
    (hd : ∀ d : Fin 2, s.garnet.cds[d].st = .stopped ∨ s.garnet.cds[d].st = .unused) (hl : entriesLayout es.length es = true)
    (hg : es.all lengthOk = true) (he : ∀ e ∈ es, safEntry e = none) (hp : Passes h 0x4080 true true s) :
    exec (.safCfgStageX h es.length es) s =
      .next (accepted (.safCfgStageX h es.length es) h 0x4080 0 (some (writeResult es.length 0xFF 0)) s) := by
  have houts : ((allFin 8).any fun (k : Fin 8) => s.outlets[k].st != .unavailable && s.outlets[k].st != .idle) = false := by
    refine List.any_eq_false.mpr fun k _ => ?_
    rcases ho k with h1 | h1 <;> rw [h1] <;> decide
  have hcds : ((allFin 2).any fun (c : Fin 2) => s.garnet.cds[c].st != .stopped && s.garnet.cds[c].st != .unused) = false := by
    refine List.any_eq_false.mpr fun d _ => ?_
    rcases hd d with h1 | h1 <;> rw [h1] <;> decide
  have hr : safStageRules es (entered h s) = .accept 0 (some (writeResult es.length 0xFF 0)) id := by
    rw [entered_eq]
    unfold safStageRules
    rw [hn, houts, hcds, firstFail_eq_none he]
    rfl
  exact congrArg Outcome.next (hostCmd_accepts hp hl hg hr)

theorem applySafCommit_commits (s : State) : (applySafCommit s).garnet.committed ≠ none ∧ (applySafCommit s).garnet.staged = none
    ∧ (applySafCommit s).params = s.params := by
  unfold applySafCommit
  extract_lets sig base m
  have hg : (ev 0xA9 14 1 sig (modGar (fun g => { g with committed := some m, staged := none, verified := none }) s)).garnet
      = { s.garnet with committed := some m, staged := none, verified := none } := evp_garnet ..
  refine ⟨?_, ?_, evp_params ..⟩
  · rw [hg]
    exact Option.some_ne_none m
  · rw [hg]

theorem isNone_false_of_ne_none {α : Type} {x : Option α} (hx : x ≠ none) : ¬ x.isNone = true := fun h => hx (Option.isNone_iff_eq_none.mp h)

theorem safCfgVerifyX_accepted (hs : s.garnet.staged ≠ none) (hb : safFirstBad s = 0xFF) (hp : Passes h 0x4081 true true s) :
    exec (.safCfgVerifyX h) s = .next (accepted (.safCfgVerifyX h) h 0x4081 0 (some (safVerifyResult s)) s) := by
  have hrules (u : State) (hu : u = entered h s) : (if u.garnet.staged.isNone then no 0x10A3
      else if safFirstBad u ≠ 0xFF then .refuse 0x12A1 (safVerifyResult u)
      else .accept 0 (some (safVerifyResult u)) id) = Verdict.accept 0 (some (safVerifyResult s)) id := by
    rw [hu, entered_eq]
    exact (if_neg (isNone_false_of_ne_none hs)).trans (if_neg (Classical.not_not.mpr hb))
  exact congrArg Outcome.next (hostCmd_accepts hp rfl rfl (hrules _ rfl))

theorem safCfgCommitX_accepted {sig : Nat} (hs : s.garnet.staged ≠ none) (hv : s.garnet.verified = some sig)
    (hp : Passes h 0x4082 true true s) :
    exec (.safCfgCommitX h sig) s = .next (accepted (.safCfgCommitX h sig) h 0x4082 0 none s) := by
  have hrules (u : State) (hu : u = entered h s) : (if u.garnet.staged.isNone then no 0x10A3
      else if u.garnet.verified = some sig then done else no 0x12A2) = Verdict.accept 0 none id := by
    rw [hu, entered_eq]
    exact (if_neg (isNone_false_of_ne_none hs)).trans (if_pos hv)
  exact congrArg Outcome.next (hostCmd_accepts hp rfl rfl (hrules _ rfl))

theorem safCfgDiscardX_accepted (hs : s.garnet.staged ≠ none) (hp : Passes h 0x4083 true true s) :
    exec (.safCfgDiscardX h) s = .next (accepted (.safCfgDiscardX h) h 0x4083 0 none s) := by
  have hrules (u : State) (hu : u = entered h s) : (if u.garnet.staged.isNone then Verdict.accept 0x0001 none id else done)
      = Verdict.accept 0 none id := by
    rw [hu, entered_eq]
    exact if_neg (isNone_false_of_ne_none hs)
  exact congrArg Outcome.next (hostCmd_accepts hp rfl rfl (hrules _ rfl))

theorem withCd_modCd {f : CdSt → CdSt} {u : State} (hu : u.garnet = s.garnet) :
    modCd c f u = { u with garnet := { s.garnet with cds := s.garnet.cds.set c (f s.garnet.cds[c]) } } := by
  unfold modCd modGar
  rw [hu]
  rfl

theorem cdNext_modCd {st : CdState} {f : CdSt → CdSt} {u : State} (hu : u.frame = s.frame) :
    cdNext c st (modCd c f u) = modCd c (fun x => { f x with next := some (st, frameAfter s.frame 1) }) u := by
  rw [← hu]
  exact modCd_modCd ..

/-- Settles O51. -/
theorem devicesAndConfigurationFollowTheirRules : Obligations.DevicesAndConfigurationFollowTheirRules := by
  intro h c s x withCd edge
  have hacc {i : Instr} {op d : Nat} {r : Option (List Byte)} : (accepted i h op d r s).garnet = s.garnet
      ∧ (accepted i h op d r s).frame = s.frame := by
    rw [accepted_eq]
    exact ⟨rfl, rfl⟩
  refine ⟨fun hst hb hg hp => ?_, fun hst hp => ?_, fun hst hp => safCdEnable_stopped hst hp,
    fun b hst hb hn => ⟨fun hdue hg => brakeRelease_enables hst hb hn hdue hg, fun hw => brakeRelease_waits hb hw⟩,
    fun e hst he => ⟨fun hdue => ss1Timeout_stops hst he hdue, fun hw => ss1Timeout_waits he hw⟩, fun hst hb hg hp => ?_,
    fun b p ht hst hp => ⟨fun hdue hn => brakeTestWindowStart_starts ht hst hp hdue hn, fun hw => brakeTestWindowStart_waits ht hw,
      fun hn hdue => ?_, fun r hr h0 h3 => brakeTestEnd_fails ht hp hr h0 h3, fun hr hdue hl => brakeTestEnd_waits ht hp hr hdue hl⟩,
    fun f hf => ⟨fun hu hd hdue => safBrakeDue_marks hf hu hd hdue, fun hw => safBrakeDue_waits hf hw⟩,
    fun hp => congrArg Outcome.next (hostCmd_accepts hp rfl rfl rfl),
    fun object ho hp => congrArg Outcome.next (hostCmd_accepts hp rfl rfl (if_neg (Nat.not_le.mpr ho))),
    fun hp => congrArg Outcome.next (hostCmd_accepts hp rfl rfl rfl), fun mask hc hp => safReset_accepted hc hp, fun mask hm hok => ?_,
    fun es hn ho hd hl hg he hp => safCfgStageX_accepted hn ho hd hl hg he hp, fun es => ?_,
    fun hs hb hp => safCfgVerifyX_accepted hs hb hp, ?_, fun sig hs hv hp => safCfgCommitX_accepted hs hv hp, fun sig => ?_,
    fun hs hp => safCfgDiscardX_accepted hs hp, ?_⟩
  · rw [safCdEnable_enables hst hb hg hp, cdNext_modCd hacc.2, withCd_modCd hacc.1]
  · rw [safCdEnable_stops hst hp, cdNext_modCd hacc.2, withCd_modCd hacc.1]
  · intro w b
    rw [safBrakeTest_begins hst hb hg hp, cdNext_modCd hacc.2, withCd_modCd hacc.1]
    rfl
  · obtain ⟨t, hrow, hcd, hout⟩ := brakeTestEnd_ends ht hst hp hn hdue rfl
    refine ⟨t, hrow, ?_, ?_, hout, fun hr => ?_, fun hr => ?_⟩
    · rw [hcd]
    · rw [hcd]
      rfl
    · rw [hcd, hr]
      exact ⟨rfl, rfl, rfl⟩
    · rw [hcd, hr]
      exact ⟨rfl, Bool.or_true _, rfl⟩
  · rw [atEdge_safReset]
    exact applySafReset_clears hm hok
  · rw [atEdge_safCfgStageX]
    exact ⟨Option.some_ne_none _, rfl, rfl⟩
  · rw [atEdge_safCfgVerifyX]
    rfl
  · rw [atEdge_safCfgCommitX]
    exact applySafCommit_commits s
  · rw [atEdge_safCfgDiscardX]
    obtain ⟨h1, h2, -⟩ := safDiscard_discards s
    exact ⟨h1, h2⟩

end Sys2Proof.Machine
end
section
/-! PROOF. The switch bank (chapter 12). -/

namespace Sys2Proof.Machine

open Host (Outcome)

variable {s t : State} {n : Fin 12} {h : Hdr}

/-- What the one step for its own entry brings about, and no step for another entry undoes, holds at the end. -/
theorem foldl_once {α β : Type} {f : β → α → β} {P Q : β → Prop} {x : α} {l : List α} {s : β} (hd : l.Nodup) (hx : x ∈ l) (hP : P s)
    (hkeep : ∀ t y, y ≠ x → P t → P (f t y)) (hstep : ∀ t, P t → Q (f t x)) (hafter : ∀ t y, y ≠ x → Q t → Q (f t y)) :
    Q (l.foldl f s) := by
  induction l generalizing s with
  | nil => cases hx
  | cons y l ih =>
    obtain ⟨hy, hd⟩ := List.nodup_cons.mp hd
    by_cases hxy : y = x
    · subst hxy
      exact List.foldlRecOn l f (hstep s hP) fun t ht z hz => hafter t z (fun h => hy (h ▸ hz)) ht
    · exact ih hd ((List.mem_cons.mp hx).resolve_left fun h => hxy h.symm) (hkeep s y hxy hP)

theorem modAux_self (n : Fin 12) (f : AuxCh → AuxCh) (s : State) : (modAux n f s).aux.ch[n] = f s.aux.ch[n] := upd_self ..

theorem modAux_other {j : Fin 12} {f : AuxCh → AuxCh} (hj : j ≠ n) : (modAux n f s).aux.ch[j] = s.aux.ch[j] := upd_other hj

theorem modAux_modAux (f g : AuxCh → AuxCh) (s : State) : modAux n g (modAux n f s) = modAux n (fun x => g (f x)) s := by
  have hset : upd (upd s.aux.ch n f) n g = upd s.aux.ch n fun x => g (f x) := by
    unfold upd
    rw [Vector.set_set]
    exact congrArg (fun x => s.aux.ch.set n x) (congrArg g (upd_self s.aux.ch n f))
  exact congrArg (fun v => { s with aux := { s.aux with ch := v } }) hset

/-- Of the switch bank one channel alone has changed, and stands as `x`. -/
def SetsCh (n : Fin 12) (x : AuxCh) (s t : State) : Prop := t.aux = { s.aux with ch := s.aux.ch.set n x }

theorem SetsCh.refl (n : Fin 12) (s : State) : SetsCh n s.aux.ch[n] s s := by
  have hset : s.aux.ch.set n s.aux.ch[n] = s.aux.ch := Vector.set_getElem_self ..
  unfold SetsCh
  rw [hset]

theorem SetsCh.of_aux {x : AuxCh} {u : State} (h : SetsCh n x s t) (hu : u.aux = t.aux) : SetsCh n x s u := hu.trans h

theorem SetsCh.self {x : AuxCh} (h : SetsCh n x s t) : t.aux.ch[n] = x := by
  rw [show t.aux = _ from h]
  exact Vector.getElem_set_self ..

theorem SetsCh.other {x : AuxCh} (h : SetsCh n x s t) {j : Fin 12} (hj : j ≠ n) : t.aux.ch[j] = s.aux.ch[j] := by
  rw [show t.aux = _ from h]
  exact Vector.getElem_set_ne n.isLt j.isLt fun he => hj (Fin.ext he.symm)

theorem SetsCh.modAux {x : AuxCh} (h : SetsCh n x s t) (f : AuxCh → AuxCh) : SetsCh n (f x) s (modAux n f t) := by
  have hself : t.aux.ch[n] = x := h.self
  change { t.aux with ch := t.aux.ch.set n (f t.aux.ch[n]) } = _
  rw [hself, show t.aux = _ from h]
  exact congrArg (fun v => { s.aux with ch := v }) (Vector.set_set ..)

theorem SetsCh.report {x : AuxCh} (h : SetsCh n x s t) : SetsCh n { x with reported := x.st } s (auxReport n t) := by
  have hself : t.aux.ch[n] = x := h.self
  unfold auxReport
  extract_lets c
  have hc : c = x := hself
  split
  · rename_i hsame
    have hx : { x with reported := x.st } = x := by
      rw [hc] at hsame
      exact congrArg (fun r => ({ x with reported := r } : AuxCh)) hsame
    rw [hx]
    exact h
  · exact (h.modAux fun c => { c with reported := c.st }).of_aux (evp_aux ..)

/-! ### Trips (R421 to R424) -/

theorem auxTrip_trips {cause : Nat} : ∃ x, SetsCh n x s (auxTrip n cause s) ∧ x.cause = cause ∧ x.lastTrip = some s.frame ∧ x.claim = 0
    ∧ x.retries = s.aux.ch[n].retries ∧ x.latch = s.aux.ch[n].latch
    ∧ (0 < s.aux.ch[n].retries → x.st = .tripped ∧ x.retryAt = some (frameAfter s.frame s.aux.ch[n].retryDly))
    ∧ (s.aux.ch[n].retries = 0 → x.st = .locked) := by
  unfold auxTrip
  extract_lets c f s1 s2 s3
  have h1 : SetsCh n _ s s1 := (SetsCh.refl n s).modAux _
  by_cases hr : c.retries = 0
  · rw [if_pos hr]
    have h4 : SetsCh n _ s (auxOff .locked n s1) := h1.modAux _
    have h5 : SetsCh n _ s (ev 0xB2 8 0 n (auxOff .locked n s1)) := h4.of_aux (evp_aux ..)
    exact ⟨_, h5.report.of_aux (touches_objFailure.same .aux rfl), rfl, rfl, rfl, rfl, rfl, fun hp => absurd hr (Nat.ne_of_gt hp), fun _ => rfl⟩
  · rw [if_neg hr]
    have h2 : SetsCh n _ s s2 := h1.modAux _
    have h3 : SetsCh n _ s s3 := h2.modAux _
    have h4 : SetsCh n _ s (ev 0xB1 8 c.retries (min (c.current / 10) 65535 * 65536 + n.val * 256 + cause) s3) := h3.of_aux (evp_aux ..)
    exact ⟨_, h4.report, rfl, rfl, rfl, rfl, rfl, fun _ => ⟨rfl, rfl⟩, fun h0 => absurd h0 hr⟩

/-- What every row of a single channel leaves: the other channels, the parameters and the transactions. -/
def ChRest (n : Fin 12) (s t : State) : Prop := (∀ j : Fin 12, j ≠ n → t.aux.ch[j] = s.aux.ch[j]) ∧ t.params = s.params ∧ t.txn = s.txn

/-- A channel has tripped with a cause: its retry runs, or it is locked with no retry left (R421, R424). -/
def ChTripped (n : Fin 12) (cause : Nat) (s t : State) : Prop :=
  t.aux.ch[n].cause = cause ∧ t.aux.ch[n].lastTrip = some s.frame ∧ t.aux.ch[n].claim = 0
    ∧ t.aux.ch[n].retries = s.aux.ch[n].retries ∧ ChRest n s t
    ∧ (0 < s.aux.ch[n].retries → t.aux.ch[n].st = .tripped ∧ t.aux.ch[n].retryAt = some (frameAfter s.frame s.aux.ch[n].retryDly))
    ∧ (s.aux.ch[n].retries = 0 → t.aux.ch[n].st = .locked)

theorem auxTrip_tripped {cause : Nat} : ChTripped n cause s (auxTrip n cause s) ∧ (auxTrip n cause s).aux.ch[n].latch = s.aux.ch[n].latch := by
  obtain ⟨x, hx, hcause, hlast, hclaim, hret, hlatch, hmore, hnone⟩ := auxTrip_trips (s := s) (n := n) (cause := cause)
  have hp : (auxTrip n cause s).params = s.params := (touches_auxTrip (s := s)).same .params rfl
  have htxn : (auxTrip n cause s).txn = s.txn := (touches_auxTrip (s := s)).same .txn rfl
  unfold ChTripped
  rw [hx.self]
  exact ⟨⟨hcause, hlast, hclaim, hret, ⟨fun j hj => hx.other hj, hp, htxn⟩, hmore, hnone⟩, hlatch⟩

theorem thermalTrip_latches (ht : 150 ≤ s.aux.ch[n].temp) (hl : s.aux.ch[n].latch = false) :
    ∃ t, exec (.thermalTrip n) s = .next t ∧ t.aux.ch[n].latch = true ∧ (s.aux.ch[n].isOn = true → ChTripped n 3 s t)
      ∧ (s.aux.ch[n].isOn = false → t.aux.ch[n].st = s.aux.ch[n].st ∧ ChRest n s t) := by
  have hgo : 150 ≤ s.aux.ch[n].temp ∧ ¬ s.aux.ch[n].latch := ⟨ht, fun h => Bool.false_ne_true (hl.symm.trans h)⟩
  have hrow : exec (.thermalTrip n) s = if s.aux.ch[n].isOn then ans (auxTrip n 3 (modAux n (fun c => { c with latch := true }) s))
      else ans (modAux n (fun c => { c with latch := true }) s) := if_pos hgo
  have hself := modAux_self n (fun c => { c with latch := true }) s
  have hother (j : Fin 12) (hj : j ≠ n) := modAux_other (s := s) (f := fun c => { c with latch := true }) hj
  cases hon : s.aux.ch[n].isOn with
  | true =>
    rw [hon] at hrow
    generalize hu : modAux n (fun c => { c with latch := true }) s = u at hrow hself hother
    have hkeep : u.frame = s.frame ∧ u.params = s.params ∧ u.txn = s.txn := by
      rw [← hu]
      exact ⟨rfl, rfl, rfl⟩
    obtain ⟨hframe, hparams, htxn⟩ := hkeep
    obtain ⟨⟨hcause, hlast, hclaim, hret, ⟨ho, hp, htx⟩, hmore, hnone⟩, hlatch⟩ := auxTrip_tripped (s := u) (n := n) (cause := 3)
    rw [hself] at hret hmore hnone hlatch
    rw [hframe] at hlast hmore
    exact ⟨_, hrow, hlatch, fun _ => ⟨hcause, hlast, hclaim, hret,
      ⟨fun j hj => (ho j hj).trans (hother j hj), hp.trans hparams, htx.trans htxn⟩, hmore, hnone⟩, nofun⟩
  | false =>
    rw [hon] at hrow
    exact ⟨_, hrow, by rw [hself], nofun, fun _ => ⟨by rw [hself], hother, rfl, rfl⟩⟩

/-! ### Return of a channel (R425 to R431) -/

theorem auxMayRestart_tripped (h : auxMayRestart s n = true) : s.aux.ch[n].st = .tripped := by
  unfold auxMayRestart at h
  extract_lets c at h
  simp only [Bool.and_eq_true, beq_iff_eq] at h
  obtain ⟨⟨⟨⟨hst, -⟩, -⟩, -⟩, -⟩ := h
  exact hst

theorem auxRestart_queues (hst : s.aux.ch[n].st = .tripped) (ha : s.aux.ch[n].retryAt = none) (hl : s.aux.ch[n].latch = false)
    (hr : 0 < s.aux.ch[n].retries) (hm : s.aux.ch[n].mode ≠ 0) (huv : s.aux.uv = 0) : auxRestart n s = auxEnqueue n s := by
  have hmay : auxMayRestart s n = true := by
    unfold auxMayRestart
    extract_lets c
    rw [show c.st = .tripped from hst, show c.retryAt = none from ha, show c.latch = false from hl, decide_eq_true hr,
      bne_iff_ne.mpr hm]
    rfl
  unfold auxRestart
  rw [if_pos hmay]
  exact if_neg (Classical.not_not.mpr huv)

theorem auxEnqueue_modAux (f : AuxCh → AuxCh) (s : State) : auxEnqueue n (modAux n f s)
    = modAux n (fun c => { f c with st := .queued, startAt := s.frame, retryAt := none }) s := by
  unfold auxEnqueue
  exact modAux_modAux ..

theorem thermalLatchClear_waits (hl : s.aux.ch[n].latch = true) (ht : s.aux.ch[n].temp ≤ 135) (hst : s.aux.ch[n].st ≠ .tripped) :
    exec (.thermalLatchClear n) s = .next (modAux n (fun c => { c with latch := false }) s) := by
  have hrow : exec (.thermalLatchClear n) s = .next (auxRestart n (modAux n (fun c => { c with latch := false }) s)) := if_pos ⟨hl, ht⟩
  have hself := modAux_self n (fun c => { c with latch := false }) s
  rw [hrow]
  unfold auxRestart
  rw [if_neg fun hmay => ?_]
  have hst' := auxMayRestart_tripped hmay
  rw [hself] at hst'
  exact hst hst'

theorem thermalLatchClear_queues (hl : s.aux.ch[n].latch = true) (ht : s.aux.ch[n].temp ≤ 135) (hst : s.aux.ch[n].st = .tripped)
    (ha : s.aux.ch[n].retryAt = none) (hr : 0 < s.aux.ch[n].retries) (hm : s.aux.ch[n].mode ≠ 0) (huv : s.aux.uv = 0) :
    exec (.thermalLatchClear n) s = .next (modAux n (fun c => { c with latch := false, st := .queued, startAt := s.frame, retryAt := none }) s) := by
  have hrow : exec (.thermalLatchClear n) s = .next (auxRestart n (modAux n (fun c => { c with latch := false }) s)) := if_pos ⟨hl, ht⟩
  have hself := modAux_self n (fun c => { c with latch := false }) s
  have hq : auxRestart n (modAux n (fun c => { c with latch := false }) s) = auxEnqueue n (modAux n (fun c => { c with latch := false }) s) :=
    auxRestart_queues (by rw [hself]; exact hst) (by rw [hself]; exact ha) (by rw [hself]) (by rw [hself]; exact hr)
      (by rw [hself]; exact hm) huv
  rw [hrow, hq, auxEnqueue_modAux]

theorem retryDelayEnd_queues {f : Nat} (hst : s.aux.ch[n].st = .tripped) (ha : s.aux.ch[n].retryAt = some f) (hf : f ≤ s.frame)
    (hl : s.aux.ch[n].latch = false) (hr : 0 < s.aux.ch[n].retries) (hm : s.aux.ch[n].mode ≠ 0) (huv : s.aux.uv = 0) :
    exec (.retryDelayEnd n) s = .next (modAux n (fun c => { c with st := .queued, startAt := s.frame, retryAt := none }) s) := by
  have hgo : s.aux.ch[n].st = .tripped ∧ expired s.aux.ch[n].retryAt s.frame := by
    rw [ha]
    exact ⟨hst, decide_eq_true hf⟩
  have hrow : exec (.retryDelayEnd n) s = .next (auxRestart n (modAux n (fun c => { c with retryAt := none }) s)) := if_pos hgo
  have hself := modAux_self n (fun c => { c with retryAt := none }) s
  have hq : auxRestart n (modAux n (fun c => { c with retryAt := none }) s) = auxEnqueue n (modAux n (fun c => { c with retryAt := none }) s) :=
    auxRestart_queues (by rw [hself]; exact hst) (by rw [hself]) (by rw [hself]; exact hl) (by rw [hself]; exact hr)
      (by rw [hself]; exact hm) huv
  rw [hrow, hq, auxEnqueue_modAux]

theorem retryDelayEnd_waits {f : Nat} (ha : s.aux.ch[n].retryAt = some f) (hf : s.frame < f) : exec (.retryDelayEnd n) s = .next s := by
  refine if_neg fun h => ?_
  obtain ⟨-, hexp⟩ := h
  rw [ha] at hexp
  exact absurd (of_decide_eq_true hexp) (Nat.not_le.mpr hf)

theorem retryWindowEnd_renews {f : Nat} (hl : s.aux.ch[n].lastTrip = some f) : exec (.retryWindowEnd n) s = .next
    (if f + s.aux.ch[n].winLen ≤ s.frame then modAux n (fun c => { c with retries := c.retryN, lastTrip := none }) s else s) := by
  change execRetryWindowEnd n s = _
  unfold execRetryWindowEnd
  rw [hl]
  dsimp only
  split <;> rfl

theorem blankingEnd_eq {e : Nat} (hst : s.aux.ch[n].st = .blanking) (he : s.aux.ch[n].blankEnd = some e) : exec (.blankingEnd n) s = .next
    (if e ≤ s.frame then modAux n (fun c => { c with st := .on, claim := 0, blankEnd := none }) s else s) := by
  change execBlankingEnd n s = _
  unfold execBlankingEnd
  rw [he]
  by_cases hdue : e ≤ s.frame
  · rw [if_pos hdue]
    exact if_pos ⟨hst, decide_eq_true hdue⟩
  · rw [if_neg hdue]
    exact if_neg fun h => hdue (of_decide_eq_true h.2)

/-! ### The queue (R416, R417) -/

theorem queuedStart_head {others : List (Fin 12)} (hq : auxQueue s = n :: others) (hno : ∀ j : Fin 12, s.aux.ch[j].turnOn = false) :
    exec .queuedStart s = if auxFits s n then ans (modAux n (fun c => { c with turnOn := true, claim := auxOwnClaim s n }) s) else ans s := by
  have hnone : ((allFin 12).any fun n => s.aux.ch[n].st == .queued && s.aux.ch[n].turnOn) = false := by
    refine List.any_eq_false.mpr fun j _ => ?_
    rw [hno j, Bool.and_false]
    exact Bool.false_ne_true
  change execQueuedStart s = _
  unfold execQueuedStart
  rw [hnone, hq]
  rfl

theorem queuedStart_empty (hq : auxQueue s = []) : exec .queuedStart s = .next s := by
  change execQueuedStart s = _
  unfold execQueuedStart
  rw [hq]
  exact ite_self _

/-! ### The bank's supply (R428, R429) -/

/-- What an undervoltage or overvoltage of the bank does to one channel (R428). -/
def chBankOff (s : State) (n : Fin 12) : State :=
  if s.aux.ch[n].st = .queued ∨ s.aux.ch[n].isOn then
    auxReport n (modAux n (fun c => { c with after := false }) (auxOff .bankOff n s))
  else modAux n (fun c => { c with turnOn := false, claim := 0 }) s

theorem chBankOff_sets (s : State) (n : Fin 12) : ∃ x, SetsCh n x s (chBankOff s n) ∧ x.claim = 0 ∧ x.retries = s.aux.ch[n].retries
    ∧ (s.aux.ch[n].st = .queued ∨ s.aux.ch[n].isOn = true → x.st = .bankOff)
    ∧ (s.aux.ch[n].st ≠ .queued → s.aux.ch[n].isOn = false → x.st = s.aux.ch[n].st) := by
  unfold chBankOff
  split
  · rename_i hon
    have h1 : SetsCh n _ s (auxOff .bankOff n s) := (SetsCh.refl n s).modAux _
    exact ⟨_, (h1.modAux _).report, rfl, rfl, fun _ => rfl,
      fun hq ho => absurd hon (not_or.mpr ⟨hq, fun h => Bool.false_ne_true (ho.symm.trans h)⟩)⟩
  · rename_i hoff
    exact ⟨_, (SetsCh.refl n s).modAux _, rfl, rfl, fun h => absurd h hoff, fun _ _ => rfl⟩

/-- The bank is out of its range, and the channel is off or as it stood (R428). -/
def BankOut (n : Fin 12) (d : Nat) (s t : State) : Prop :=
  t.aux.uv = d ∧ t.aux.ch[n].claim = 0 ∧ t.aux.ch[n].retries = s.aux.ch[n].retries
    ∧ (s.aux.ch[n].st = .queued ∨ s.aux.ch[n].isOn = true → t.aux.ch[n].st = .bankOff)
    ∧ (s.aux.ch[n].st ≠ .queued → s.aux.ch[n].isOn = false → t.aux.ch[n].st = s.aux.ch[n].st)

theorem auxUv_turnsOff (hu : s.aux.uv = 0) (hv : s.aux.vbank < 9000 ∨ 33000 < s.aux.vbank) : ∃ t, exec .auxUv s = .next t
    ∧ BankOut n (if s.aux.vbank < 9000 then 1 else 2) s t := by
  let d := if s.aux.vbank < 9000 then 1 else 2
  let u : State := ev 0xB5 8 d s.aux.vbank { s with aux := { s.aux with uv := d, okRun := 0, okAt := none } }
  have hrow : exec .auxUv s = .next ((allFin 12).foldl chBankOff u) := if_pos ⟨hu, hv⟩
  have hua : u.aux = { s.aux with uv := d, okRun := 0, okAt := none } := evp_aux ..
  refine ⟨_, hrow, ?_⟩
  generalize hall : allFin 12 = l
  have hd : l.Nodup := hall ▸ List.nodup_finRange 12
  have hn : n ∈ l := hall ▸ mem_allFin n
  clear_value u
  refine foldl_once (P := fun t : State => t.aux.uv = d ∧ t.aux.ch[n] = s.aux.ch[n]) (Q := BankOut n d s) hd hn ?_ (fun t j hj ht => ?_) (fun t ht => ?_)
    (fun t j hj ht => ?_)
  · rw [hua]
    exact ⟨rfl, rfl⟩
  · obtain ⟨x, hx, -⟩ := chBankOff_sets t j
    exact ⟨(congrArg AuxSt.uv hx).trans ht.1, (hx.other hj.symm).trans ht.2⟩
  · obtain ⟨x, hx, hc, hr, hoff, hstay⟩ := chBankOff_sets t n
    rw [ht.2] at hr hoff hstay
    unfold BankOut
    rw [hx.self]
    exact ⟨(congrArg AuxSt.uv hx).trans ht.1, hc, hr, hoff, hstay⟩
  · obtain ⟨x, hx, -⟩ := chBankOff_sets t j
    unfold BankOut
    rw [hx.other hj.symm]
    exact ⟨(congrArg AuxSt.uv hx).trans ht.1, ht.2⟩

/-- The bank is back in its range, and the channel it had turned off waits in the queue (R429). -/
def BankBack (n : Fin 12) (s t : State) : Prop :=
  t.aux.uv = 0 ∧ t.aux.okAt = none ∧ t.aux.ch[n] =
    if s.aux.ch[n].st = .bankOff then { s.aux.ch[n] with st := .queued, startAt := s.frame, retryAt := none } else s.aux.ch[n]

theorem auxUvOk_returns {f : Nat} (ha : s.aux.okAt = some f) (hf : f < s.frame) : ∃ t, exec .auxUvOk s = .next t ∧ BankBack n s t := by
  let u : State := ev 0xB6 8 0 s.aux.vbank { s with aux := { s.aux with uv := 0, okRun := 0, okAt := none } }
  have hrow : exec .auxUvOk s = .next ((allFin 12).foldl (fun (s : State) (n : Fin 12) => if s.aux.ch[n].st = .bankOff then auxEnqueue n s else s) u) := by
    change execAuxUvOk s = _
    unfold execAuxUvOk
    rw [ha]
    exact if_pos hf
  have hua : u.aux = { s.aux with uv := 0, okRun := 0, okAt := none } := evp_aux ..
  have huf : u.frame = s.frame := evp_frame ..
  have hstep (t : State) (j : Fin 12) : (if t.aux.ch[j].st = .bankOff then auxEnqueue j t else t).frame = t.frame
      ∧ SetsCh j (if t.aux.ch[j].st = .bankOff then { t.aux.ch[j] with st := .queued, startAt := t.frame, retryAt := none } else t.aux.ch[j]) t
        (if t.aux.ch[j].st = .bankOff then auxEnqueue j t else t) := by
    split
    · exact ⟨rfl, (SetsCh.refl j t).modAux _⟩
    · exact ⟨rfl, SetsCh.refl j t⟩
  refine ⟨_, hrow, ?_⟩
  generalize hall : allFin 12 = l
  have hd : l.Nodup := hall ▸ List.nodup_finRange 12
  have hn : n ∈ l := hall ▸ mem_allFin n
  clear_value u
  refine foldl_once (P := fun t : State => t.aux.uv = 0 ∧ t.aux.okAt = none ∧ t.aux.ch[n] = s.aux.ch[n] ∧ t.frame = s.frame)
    (Q := BankBack n s) hd hn ?_ (fun t j hj ht => ?_) (fun t ht => ?_) (fun t j hj ht => ?_)
  · rw [hua, huf]
    exact ⟨rfl, rfl, rfl, rfl⟩
  · obtain ⟨hfr, hx⟩ := hstep t j
    exact ⟨(congrArg AuxSt.uv hx).trans ht.1, (congrArg AuxSt.okAt hx).trans ht.2.1, (hx.other hj.symm).trans ht.2.2.1, hfr.trans ht.2.2.2⟩
  · obtain ⟨huv, hok, hch, hfr⟩ := ht
    obtain ⟨-, hx⟩ := hstep t n
    unfold BankBack
    refine ⟨(congrArg AuxSt.uv hx).trans huv, (congrArg AuxSt.okAt hx).trans hok, ?_⟩
    rw [hx.self, hch, hfr]
  · obtain ⟨-, hx⟩ := hstep t j
    obtain ⟨huv, hok, hch⟩ := ht
    unfold BankBack
    rw [hx.other hj.symm]
    exact ⟨(congrArg AuxSt.uv hx).trans huv, (congrArg AuxSt.okAt hx).trans hok, hch⟩

/-- An event may note a fault of its domain, and no more of it. -/
theorem evp_selfAt (id dom detail arg : Nat) (b : List Byte) (s : State) (j : Fin 12) :
    (evp id dom detail arg b s).flt.domains[j].selfAt = s.flt.domains[j].selfAt := by
  have hpush : (pushEvent id dom detail arg b s).flt = s.flt := touches_pushEvent.same .flt rfl
  have hnote {d : Fin 12} {c : Nat} {p n m : Bool} {t : State} : (noteFault d c p n m t).flt.domains[j].selfAt = t.flt.domains[j].selfAt := by
    unfold noteFault
    extract_lets dom f
    split
    · rfl
    · exact upd_keeps (f := fun x => { x with fault := some f }) Domain.selfAt t.flt.domains d j fun _ => rfl
  unfold evp
  extract_lets t
  have ht : t.flt.domains[j].selfAt = s.flt.domains[j].selfAt := by rw [hpush]
  split
  · exact ht
  · split
    · exact hnote.trans ht
    · exact ht

theorem auxCtrlFault_marks (check : Nat) : ∃ t, exec (.auxCtrlFault check) s = .next t
    ∧ t.flt.domains[(8 : Fin 12)].selfAt = some s.frame ∧ t.aux = s.aux := by
  refine ⟨_, rfl, (evp_selfAt ..).trans ?_, evp_aux ..⟩
  exact congrArg Domain.selfAt (upd_self s.flt.domains (8 : Fin 12) fun (d : Domain) => { d with selfAt := some s.frame })

/-! ### The commands (R414, R415, R437) -/

theorem auxSetRules_builds {mode duty : Nat} (hm : mode ≤ 2) (hduty : mode = 2 → 10 ≤ duty ∧ duty ≤ 1000)
    (hst : s.aux.ch[n].st ≠ .locked) (hfen : s.aux.fenced = false)
    (hc : ∀ k : Fin 8, s.outlets[k].claim.held = true → pget s 0x1005 k ≠ n.val) (hh : ∀ t ∈ s.txn.txns, t.isHost = false) :
    auxSetRules n mode duty s = .accept 0x0100 none (fun s => buildTxn .aux [.aux n mode duty] (frameAfter s.frame 1) s) := by
  have h1 : ¬ (2 < mode ∨ (mode = 2 ∧ (duty < 10 ∨ 1000 < duty))) := by omega
  have h2 : ¬ (s.aux.ch[n].st = .locked ∨ s.aux.fenced) := not_or.mpr ⟨hst, fun h => Bool.false_ne_true (hfen.symm.trans h)⟩
  have h3 : ¬ ((allFin 8).any fun (k : Fin 8) => s.outlets[k].claim.held && pget s 0x1005 k == n.val) = true := by
    intro h
    obtain ⟨k, -, hk⟩ := List.any_eq_true.mp h
    obtain ⟨hheld, heq⟩ := Bool.and_eq_true_iff.mp hk
    exact hc k hheld (beq_iff_eq.mp heq)
  have h4 : ¬ (s.txn.txns.any fun t => t.isHost && t.reserves && t.actions.any fun a => a.act.key == (4, n.val)) = true := by
    intro h
    obtain ⟨t, ht, hb⟩ := List.any_eq_true.mp h
    rw [hh t ht] at hb
    exact Bool.false_ne_true hb
  exact (dif_pos n.isLt).trans ((if_neg h1).trans ((if_neg h2).trans ((if_neg h3).trans (if_neg h4))))

theorem auxSet_builds {mode duty : Nat} (hm : mode ≤ 2) (hduty : mode = 2 → 10 ≤ duty ∧ duty ≤ 1000)
    (hst : s.aux.ch[n].st ≠ .locked) (hfen : s.aux.fenced = false)
    (hc : ∀ k : Fin 8, s.outlets[k].claim.held = true → pget s 0x1005 k ≠ n.val) (hh : ∀ t ∈ s.txn.txns, t.isHost = false)
    (hfree : freeInternal s ≠ none) (hp : Passes h 0x4800 true true s) :
    ∃ t, exec (.auxSet h n mode duty) s = .next t ∧ t.due = s.due ++ [waitingCmd (.auxSet h n mode duty) h 0x4800 0x0100 none s]
      ∧ t.aux = s.aux ∧ ∃ x ∈ t.txn.txns, x.purpose = .aux ∧ x.commitFrame = some (frameAfter s.frame 1)
        ∧ x.actions.map (fun a => a.act) = [.aux n mode duty] := by
  have hr : auxSetRules n mode duty (entered h s) = .accept 0x0100 none (fun s => buildTxn .aux [.aux n mode duty] (frameAfter s.frame 1) s) := by
    rw [entered_eq]
    exact auxSetRules_builds (s := { s with link := (entered h s).link }) hm hduty hst hfen hc hh
  generalize hu : accepted (.auxSet h n mode duty) h 0x4800 0x0100 none s = u
  have hrow : exec (.auxSet h n mode duty) s = .next (buildTxn .aux [.aux n mode duty] (frameAfter u.frame 1) u) := by
    change ans (hostCmd ..) = _
    rw [hostCmd_passes hp, hr, ← hu]
    rfl
  have huf : u.frame = s.frame ∧ u.aux = s.aux ∧ freeInternal u = freeInternal s
      ∧ u.due = s.due ++ [waitingCmd (.auxSet h n mode duty) h 0x4800 0x0100 none s] := by
    rw [← hu, accepted_eq]
    exact ⟨rfl, rfl, rfl, rfl⟩
  obtain ⟨hf, ha, hfi, hdue⟩ := huf
  obtain ⟨k, hk⟩ := Option.ne_none_iff_exists'.mp (hfi ▸ hfree)
  have hmem := mem_buildTxn (p := .aux) (acts := [.aux n mode duty]) (f := frameAfter u.frame 1) hk
  have hdue' : (buildTxn .aux [.aux n mode duty] (frameAfter u.frame 1) u).due = u.due := touches_buildTxn.same .due rfl
  have haux' : (buildTxn .aux [.aux n mode duty] (frameAfter u.frame 1) u).aux = u.aux := touches_buildTxn.same .aux rfl
  exact ⟨_, hrow, hdue'.trans hdue, haux'.trans ha, _, hmem, rfl, by rw [hf], rfl⟩

theorem auxClear_accepted {reason : Nat} (hst : s.aux.ch[n].st = .locked) (hf : s.aux.fenced = false) (hr : objRetired s 4 n = false)
    (hp : Passes h 0x4802 true true s) : exec (.auxClear h n reason) s = .next (accepted (.auxClear h n reason) h 0x4802 0 none s) := by
  have h1 : ¬ objRetired s 4 n = true := fun h => Bool.false_ne_true (hr.symm.trans h)
  have h2 : ¬ (s.aux.ch[n].st ≠ .locked ∨ s.aux.fenced) := not_or.mpr ⟨Classical.not_not.mpr hst, fun h => Bool.false_ne_true (hf.symm.trans h)⟩
  have hrules : auxClearRules n (entered h s) = .accept 0 none id := by
    rw [entered_eq]
    exact (dif_pos n.isLt).trans ((if_neg h1).trans (if_neg h2))
  exact congrArg Outcome.next (hostCmd_accepts hp rfl rfl hrules)

/-- A channel as AUX_CLEAR leaves it, with all its retries (R437). -/
def chFreed (full : Nat) (c : AuxCh) : AuxCh :=
  { c with st := .off, mode := 0, retries := full, retryN := full, lastTrip := none, after := false, retryAt := none }

theorem applyAuxClear_frees (reason : Nat) : SetsCh n (chFreed (pget s 0x4808 n) s.aux.ch[n]) s (applyAuxClear n reason s)
      ∧ (applyAuxClear n reason s).params = s.params ∧ (applyAuxClear n reason s).txn = s.txn := by
  have hrow : applyAuxClear n reason s = ev 0xB9 8 reason n (auxUnlock n s) := dif_pos n.isLt
  rw [hrow]
  exact ⟨((SetsCh.refl n s).modAux _).of_aux (evp_aux ..), evp_params .., evp_txn ..⟩

/-- Settles O52. -/
theorem channelsStartTripAndReturn : Obligations.ChannelsStartTripAndReturn := by
  intro h n s c withCh rest tripped
  refine ⟨fun hon => ⟨_, if_pos hon, auxTrip_tripped.1⟩, fun hoff => if_neg fun hon => Bool.false_ne_true (hoff.symm.trans hon),
    fun hst hrun => ⟨_, if_pos ⟨hst, hrun⟩, auxTrip_tripped.1⟩, fun hrun => if_neg fun hgo => absurd hgo.2 (Nat.not_le.mpr hrun),
    fun ht hl => thermalTrip_latches ht hl, fun ht => if_neg fun hgo => absurd hgo.1 (Int.not_le.mpr ht),
    fun hl ht => ⟨fun hst => thermalLatchClear_waits hl ht hst, fun hst ha hr hm huv => ?_⟩,
    fun ht => if_neg fun hgo => absurd hgo.2 (Int.not_le.mpr ht),
    fun hst ho hb hrun => if_pos ⟨hst, fun h => Bool.false_ne_true (ho.symm.trans h), hb, hrun⟩,
    fun hno => if_neg fun hgo => ?_, fun hst ho hrun => if_pos ⟨hst, ho, hrun⟩,
    fun others hq hno => ⟨fun hfit => (queuedStart_head hq hno).trans (if_pos hfit),
      fun hfit => (queuedStart_head hq hno).trans (if_neg fun h => Bool.false_ne_true (hfit.symm.trans h))⟩,
    queuedStart_empty, fun e hst he => blankingEnd_eq hst he,
    fun f hst ha => ⟨fun hf hl hr hm huv => retryDelayEnd_queues hst ha hf hl hr hm huv, fun hf => retryDelayEnd_waits ha hf⟩,
    fun f hf => retryWindowEnd_renews hf, fun hu hv => auxUv_turnsOff hu hv,
    fun hlo hhi => if_neg fun hgo => hgo.2.elim (Nat.not_lt.mpr hlo) (Nat.not_lt.mpr hhi),
    fun f ha hf => auxUvOk_returns ha hf, fun ha => ?_, auxCtrlFault_marks,
    fun mode duty hm hduty hst hfen hc hh hfree hp => auxSet_builds hm hduty hst hfen hc hh hfree hp,
    fun hp => congrArg Outcome.next (hostCmd_accepts hp rfl rfl rfl),
    fun reason hst hf hr hp => auxClear_accepted hst hf hr hp, fun reason => ?_⟩
  · rw [thermalLatchClear_queues hl ht hst ha hr hm huv]
    have hc : { c with latch := false, st := .queued, startAt := s.frame, retryAt := none }
        = { c with latch := false, st := .queued, startAt := s.frame } :=
      congrArg (fun r => ({ c with latch := false, st := .queued, startAt := s.frame, retryAt := r } : AuxCh)) ha.symm
    exact congrArg (fun x => Outcome.next (withCh x s)) hc
  · obtain ⟨-, -, hb, hrun⟩ := hgo
    rcases hno with hlt | hb'
    · exact absurd hrun (Nat.not_le.mpr hlt)
    · exact Bool.false_ne_true (hb'.symm.trans hb)
  · change execAuxUvOk s = _
    unfold execAuxUvOk
    rw [ha]
    rfl
  · intro t
    have ht : t = applyAuxClear n reason s := atEdge_auxClear ..
    obtain ⟨hx, hp, htxn⟩ := applyAuxClear_frees (s := s) (n := n) reason
    rw [ht]
    have hself := hx.self
    refine ⟨?_, ?_, ?_, fun j hj => hx.other hj, hp, htxn⟩ <;>
    · rw [hself]
      rfl

end Sys2Proof.Machine
end
section
/-! PROOF. The mesh of the site link (chapter 13). -/

namespace Sys2Proof.Machine

open Host (Outcome)

variable {s t u : State} {f : PlcFrame} {a : Nat}

/-! ### Operations of the mesh -/

/-- Of the site link the list of distributed actions alone may have changed. -/
def DistOnly (s t : State) : Prop := ∃ v, t.slk = { s.slk with dist := v }

theorem DistOnly.refl (s : State) : DistOnly s s := ⟨_, rfl⟩

theorem DistOnly.trans (h : DistOnly s t) (h' : DistOnly t u) : DistOnly s u := by
  obtain ⟨v, hv⟩ := h
  obtain ⟨w, hw⟩ := h'
  exact ⟨w, by rw [hw, hv]⟩

theorem distOnly_ev {id dom detail arg : Nat} : DistOnly s (ev id dom detail arg s) := ⟨_, evp_slk ..⟩

theorem distOnly_setDist {d : SchedDist} : DistOnly s (setDist d s) := ⟨_, rfl⟩

theorem distOnly_distTo {d : SchedDist} {st : Nat} : DistOnly s (distTo d st s) :=
  (distOnly_setDist (d := { d with state := st })).trans ⟨_, evp_slk ..⟩

theorem distOnly_distReady : DistOnly s (distReady s) := by
  refine foldl_keep (P := DistOnly s) (DistOnly.refl s) (fun t d ht => ?_) _
  split
  · exact ht.trans distOnly_distTo
  · exact ht

theorem distOnly_distReboot {src : Nat} : DistOnly s (distReboot src s) := by
  refine foldl_keep (P := DistOnly s) (DistOnly.refl s) (fun t d ht => ?_) _
  split
  · split
    · exact ht.trans distOnly_distTo
    · exact ht.trans distOnly_setDist
  · exact ht

theorem plcSend_slk (via dest type : Nat) (body : List Byte) (s : State) :
    (plcSend via dest type body s).slk = { s.slk with txCount := (plcSend via dest type body s).slk.txCount } := by
  unfold plcSend
  split <;> rfl

theorem plcSend_sends {via dest type : Nat} {body : List Byte} (ha : s.slk.align ≠ .off) (hc : s.slk.conflict = none ∨ type = plcHello)
    (hp : powerFailed s = false) : plcSend via dest type body s =
      emit (.plc via dest type (s.slk.txCount + 1) body) (modSlk (fun x => { x with txCount := s.slk.txCount + 1 }) s) := by
  refine if_neg ?_
  rintro (h | ⟨h, hne⟩ | ⟨h, -⟩)
  · exact ha h
  · rcases hc with hc | hc
    · rw [hc] at h
      exact Bool.false_ne_true h
    · exact hne hc
  · exact Bool.false_ne_true (hp.symm.trans h)

theorem plcUnicast_slk {dest type : Nat} {body : List Byte} {msg : Option Nat} (ha : s.slk.align ≠ .off) : ∃ via at_ n,
    (plcUnicast dest type body msg s).slk = { s.slk with
      pend := s.slk.pend ++ [{ via := via, dest := dest, type := type, body := body, msg := msg, nextAt := at_ }], txCount := n } := by
  unfold plcUnicast
  rw [if_neg ha]
  exact ⟨_, _, _, plcSend_slk ..⟩

theorem find?_insertBy {α : Type} {before : α → α → Bool} {x : α} {p : α → Bool} {l : List α} (hx : p x = true) (hl : l.find? p = none) :
    (insertBy before x l).find? p = some x := by
  induction l with
  | nil => exact List.find?_cons_of_pos hx
  | cons y l ih =>
    have hy : p y = false := by simpa using (List.find?_eq_none.mp hl) y List.mem_cons_self
    have hrest : l.find? p = none := by rwa [List.find?_cons_of_neg (by rw [hy]; exact Bool.false_ne_true)] at hl
    unfold insertBy
    split
    · exact List.find?_cons_of_pos hx
    · rw [List.find?_cons_of_neg (by rw [hy]; exact Bool.false_ne_true)]
      exact ih hrest

theorem findNode_setNode (n : SiteNode) (s : State) : findNode (setNode n s) n.addr = some n := by
  refine find?_insertBy (beq_self_eq_true n.addr) ?_
  refine List.find?_eq_none.mpr fun y hy => ?_
  have hne := (List.mem_filter.mp hy).2
  intro heq
  rw [beq_iff_eq.mp heq] at hne
  simp at hne

theorem findNode_addr {n : SiteNode} (h : findNode s a = some n) : n.addr = a := by
  have := List.find?_some h
  exact beq_iff_eq.mp this

/-! ### Frames received (R444, R446 to R448) -/

theorem slkListens_align (h : slkListens s = true) : s.slk.align ≠ .off := by
  unfold slkListens at h
  exact bne_iff_ne.mp (Bool.and_eq_true_iff.mp h).1

theorem plcReject_rejects (s : State) : (plcReject s).slk.rejected = satInc s.slk.rejected ∧ (plcReject s).slk.nodes = s.slk.nodes
    ∧ (plcReject s).slk.sources = s.slk.sources ∧ (plcReject s).params = s.params := by
  unfold plcReject
  extract_lets fr n s1
  split
  · have hslk : (ev 0xC6 9 0 n (modSlk (fun x => { x with rejSince := 0, rejSent := some fr }) s1)).slk
        = (modSlk (fun x => { x with rejSince := 0, rejSent := some fr }) s1).slk := evp_slk ..
    rw [hslk]
    exact ⟨rfl, rfl, rfl, evp_params ..⟩
  · exact ⟨rfl, rfl, rfl, rfl⟩

theorem plcFrameReceived_unauthenticated (hl : slkListens s = true) (hc : f.crcOk = true) (hm : f.macOk = false) :
    exec (.plcFrameReceived f) s = .next (plcReject s) := by
  change execPlcFrameReceived f s = _
  unfold execPlcFrameReceived
  extract_lets own
  rw [if_neg (Classical.not_not.mpr hl), if_neg (Classical.not_not.mpr hc), if_neg fun h => Bool.false_ne_true (hm.symm.trans h.2.2)]
  exact if_pos (.inl fun h => Bool.false_ne_true (hm.symm.trans h))

theorem plcFrameReceived_conflict (hl : slkListens s = true) (hc : f.crcOk = true) (hm : f.macOk = true) (hs : f.src = ownAddr s)
    (ht : f.type = plcHello) (hser : leNat (f.body.take 8) ≠ Config.serial.toNat) :
    ∃ t, exec (.plcFrameReceived f) s = .next t ∧ t.slk = { s.slk with conflict := some s.frame } := by
  have hrow : exec (.plcFrameReceived f) s = .next (if s.slk.conflict.isNone then
      ev 0xC5 9 0 (ownAddr s) (modSlk (fun x => { x with conflict := some s.frame }) s)
      else modSlk (fun x => { x with conflict := some s.frame }) s) := by
    change execPlcFrameReceived f s = _
    unfold execPlcFrameReceived
    extract_lets own
    rw [if_neg (Classical.not_not.mpr hl), if_neg (Classical.not_not.mpr hc), if_pos (show f.src = own ∧ f.type = plcHello ∧ f.macOk from ⟨hs, ht, hm⟩)]
    exact if_neg hser
  refine ⟨_, hrow, ?_⟩
  split
  · exact evp_slk ..
  · rfl

/-- What a frame for another node, or for every node, gives besides (R446). -/
def plcRelay (f : PlcFrame) (s : State) : State :=
  if 8 ≤ f.hops then s
  else if f.dst = 0xFF then (if f.type = plcPowerFail then plcCast f.type f.body s else s)
  else plcUnicast f.dst f.type f.body none (plcSend f.src f.src plcAck [] s)

theorem plcFrameReceived_authentic (hl : slkListens s = true) (hc : f.crcOk = true) (hm : f.macOk = true) (hs : f.src ≠ ownAddr s)
    (hk : s.slk.key ≠ none) (ho : plcCounterOk s f.src f.counter = true) : exec (.plcFrameReceived f) s = .next
      (if f.dst = ownAddr s ∨ f.dst = 0xFF then plcHandle f (if f.dst = 0xFF then plcRelay f (notePlc f.src f.counter s) else notePlc f.src f.counter s)
        else if f.via = ownAddr s then plcRelay f (notePlc f.src f.counter s) else notePlc f.src f.counter s) := by
  change execPlcFrameReceived f s = _
  unfold execPlcFrameReceived
  extract_lets own t relay
  have hgood : ¬ (¬ f.macOk ∨ s.slk.key.isNone ∨ ¬ plcCounterOk s f.src f.counter) := by
    rintro (h | h | h)
    · exact h hm
    · exact hk (Option.isNone_iff_eq_none.mp h)
    · exact h ho
  rw [if_neg (Classical.not_not.mpr hl), if_neg (Classical.not_not.mpr hc), if_neg fun h => hs h.1, if_neg hgood]
  rw [apply_ite Outcome.next, apply_ite Outcome.next]
  rfl

theorem hearHello_slk (src : Nat) (b : List Byte) (s : State) : ∃ n : SiteNode, n.addr = src ∧ n.last = s.frame
    ∧ n.profile = u8At b 8 ∧ n.boot = u32At b 12 ∧ DistOnly (setNode n s) (hearHello src b s) := by
  unfold hearHello
  extract_lets fr profile isWatch boot old o n s1 s2
  have haddr : (old.getD { addr := src }).addr = src := by
    cases h : old with
    | none => rfl
    | some y => exact findNode_addr h
  refine ⟨n, haddr, rfl, rfl, rfl, ?_⟩
  clear_value old
  have hboot (y : SiteNode) : DistOnly s1 (if y.boot = boot then s1 else distReboot src s1) := by
    split
    · exact DistOnly.refl s1
    · exact distOnly_distReboot
  have h2 : DistOnly s1 s2 := by
    dsimp only [s2]
    split
    · exact distOnly_ev
    · split
      · exact hboot _
      · exact (hboot _).trans distOnly_ev
  exact h2.trans distOnly_distReady

theorem findNode_congr (h : t.slk.nodes = u.slk.nodes) (a : Nat) : findNode t a = findNode u a := by
  unfold findNode
  rw [h]

theorem plcFrameReceived_hello (hl : slkListens s = true) (hc : f.crcOk = true) (hm : f.macOk = true) (hs : f.src ≠ ownAddr s)
    (hk : s.slk.key ≠ none) (ho : plcCounterOk s f.src f.counter = true) (hd : f.dst = 0xFF) (ht : f.type = plcHello) :
    ∃ t n, exec (.plcFrameReceived f) s = .next t ∧ findNode t f.src = some n ∧ n.last = s.frame ∧ n.profile = u8At f.body 8
      ∧ n.boot = u32At f.body 12 ∧ t.slk.align = s.slk.align := by
  have hrelay (u : State) : plcRelay f u = u := by
    unfold plcRelay
    rw [if_pos hd, if_neg (show ¬ f.type = plcPowerFail by rw [ht]; decide)]
    exact ite_self u
  have hhandle (u : State) : plcHandle f u = hearHello f.src f.body u := if_pos ht
  have hrow := plcFrameReceived_authentic hl hc hm hs hk ho
  rw [if_pos (.inr hd), if_pos hd, hrelay, hhandle] at hrow
  obtain ⟨n, haddr, hlast, hprof, hboot, v, hv⟩ := hearHello_slk f.src f.body (notePlc f.src f.counter s)
  have hnodes : (hearHello f.src f.body (notePlc f.src f.counter s)).slk.nodes = (setNode n (notePlc f.src f.counter s)).slk.nodes := by
    rw [hv]
  have halign : (hearHello f.src f.body (notePlc f.src f.counter s)).slk.align = s.slk.align := by
    rw [hv]
    rfl
  refine ⟨_, n, hrow, ?_, hlast, hprof, hboot, halign⟩
  rw [findNode_congr hnodes, ← haddr]
  exact findNode_setNode ..

theorem plcFrameReceived_relays (hl : slkListens s = true) (hc : f.crcOk = true) (hm : f.macOk = true) (hs : f.src ≠ ownAddr s)
    (hk : s.slk.key ≠ none) (ho : plcCounterOk s f.src f.counter = true) (hd : f.dst ≠ ownAddr s) (hd' : f.dst ≠ 0xFF)
    (hv : f.via = ownAddr s) (hh : f.hops < 8) : ∃ t, exec (.plcFrameReceived f) s = .next t ∧ t.slk.nodes = s.slk.nodes
      ∧ ∃ p ∈ t.slk.pend, p.dest = f.dst ∧ p.type = f.type ∧ p.body = f.body ∧ p.sent = 1 := by
  have hrow := plcFrameReceived_authentic hl hc hm hs hk ho
  rw [if_neg (not_or.mpr ⟨hd, hd'⟩), if_pos hv] at hrow
  have hrelay : plcRelay f (notePlc f.src f.counter s)
      = plcUnicast f.dst f.type f.body none (plcSend f.src f.src plcAck [] (notePlc f.src f.counter s)) :=
    (if_neg (Nat.not_le.mpr hh)).trans (if_neg hd')
  have hsend := plcSend_slk f.src f.src plcAck [] (notePlc f.src f.counter s)
  have halign : (plcSend f.src f.src plcAck [] (notePlc f.src f.counter s)).slk.align ≠ .off := by
    rw [hsend]
    exact slkListens_align hl
  obtain ⟨via, at_, n, hn⟩ := plcUnicast_slk (dest := f.dst) (type := f.type) (body := f.body) (msg := none) halign
  rw [hrelay] at hrow
  refine ⟨_, hrow, ?_, ?_⟩
  · rw [hn, hsend]
    rfl
  · rw [hn]
    exact ⟨_, List.mem_append_right _ List.mem_cons_self, rfl, rfl, rfl, rfl⟩

/-! ### Nodes, tone maps and conflicts (R443, R447, R449) -/

theorem addrConflictEnd_eq {c : Nat} (hc : s.slk.conflict = some c) : exec .addrConflictEnd s =
    .next (if c + 24000 ≤ s.frame then { s with slk := { s.slk with conflict := none } } else s) := by
  change execAddrConflictEnd s = _
  unfold execAddrConflictEnd
  rw [hc]
  by_cases hdue : c + 24000 ≤ s.frame
  · rw [if_pos hdue]
    exact if_pos (decide_eq_true hdue)
  · rw [if_neg hdue]
    exact if_neg fun h => hdue (of_decide_eq_true h)

theorem slkNode_leaves {n : SiteNode} (hn : findNode s a = some n) (hdue : n.last + 24000 ≤ s.frame) :
    ∃ t, exec (.slkNode a) s = .next t ∧ t.slk.nodes = s.slk.nodes.filter (·.addr != a) ∧ (∀ p ∈ t.slk.pend, p.dest ≠ a)
      ∧ t.slk.align = s.slk.align := by
  change ∃ t, execSlkNode a s = _ ∧ _
  unfold execSlkNode
  rw [hn]
  dsimp -zeta only
  rw [if_pos hdue]
  extract_lets gone s1 s2
  have h2 : DistOnly s1 s2 := distOnly_ev
  generalize hu : List.foldl _ s2 gone = u
  have h3 : DistOnly s1 u := by
    rw [← hu]
    refine foldl_keep (P := DistOnly s1) h2 (fun t p ht => ?_) gone
    split
    · exact ht.trans distOnly_ev
    · exact ht
  obtain ⟨v, hv⟩ := h3.trans distOnly_distReady
  refine ⟨_, rfl, ?_, fun p hp => ?_, ?_⟩
  · rw [hv]
    rfl
  · rw [hv] at hp
    exact bne_iff_ne.mp (List.mem_filter.mp hp).2
  · rw [hv]
    rfl

theorem slkNode_stays {n : SiteNode} (hn : findNode s a = some n) (hdue : s.frame < n.last + 24000) : exec (.slkNode a) s = .next s := by
  change execSlkNode a s = _
  unfold execSlkNode
  rw [hn]
  exact if_neg (Nat.not_le.mpr hdue)

theorem soundNode_sounds {n : SiteNode} (hn : findNode s a = some n) :
    findNode (soundNode a s) a = some { n with robust := true, fails := 0, mapAt := some s.frame }
      ∧ (soundNode a s).slk.pend = s.slk.pend := by
  unfold soundNode
  rw [hn]
  dsimp only
  have hsend := plcSend_slk a a plcSound [] (setNode { n with robust := true, fails := 0, mapAt := some s.frame } s)
  have hset := findNode_setNode { n with robust := true, fails := 0, mapAt := some s.frame } s
  constructor
  · have hnodes : (plcSend a a plcSound [] (setNode { n with robust := true, fails := 0, mapAt := some s.frame } s)).slk.nodes
        = (setNode { n with robust := true, fails := 0, mapAt := some s.frame } s).slk.nodes := by rw [hsend]
    rw [findNode_congr hnodes]
    exact (congrArg (findNode _) (findNode_addr hn).symm).trans hset
  · rw [hsend]
    rfl

theorem toneMapRefresh_sounds {n : SiteNode} {m : Nat} (hn : findNode s a = some n) (hm : n.mapAt = some m)
    (hdue : m + pget s 0x5006 0 ≤ s.frame) (ha : s.slk.align ≠ .off) : exec (.toneMapRefresh a) s = .next (soundNode a s) := by
  change execToneMapRefresh a s = _
  unfold execToneMapRefresh
  rw [hn]
  dsimp only
  rw [hm]
  exact if_pos ⟨ha, decide_eq_true hdue⟩

theorem toneMapRefresh_waits {n : SiteNode} {m : Nat} (hn : findNode s a = some n) (hm : n.mapAt = some m)
    (hdue : s.frame < m + pget s 0x5006 0) : exec (.toneMapRefresh a) s = .next s := by
  change execToneMapRefresh a s = _
  unfold execToneMapRefresh
  rw [hn]
  dsimp only
  rw [hm]
  exact if_neg fun h => absurd (of_decide_eq_true h.2) (Nat.not_le.mpr hdue)

/-! ### Frames sent again (R448) -/

/-- What a missing acknowledgement notes of the next node on the way (R449). -/
def linkMissed (p : PlcPend) (s : State) : State := match findNode s p.via with
  | some n => if 3 ≤ n.fails + 1 then soundNode p.via s else setNode { n with fails := n.fails + 1 } s
  | none => s

theorem linkMissed_keeps (p : PlcPend) (s : State) : (linkMissed p s).slk.pend = s.slk.pend ∧ (linkMissed p s).frame = s.frame
    ∧ (linkMissed p s).params = s.params ∧ (linkMissed p s).beryl = s.beryl := by
  unfold linkMissed
  split
  · rename_i n hn
    split
    · have hf : (soundNode p.via s).frame = s.frame := touches_soundNode.same .frame rfl
      have hp : (soundNode p.via s).params = s.params := touches_soundNode.same .params rfl
      have hb : (soundNode p.via s).beryl = s.beryl := touches_soundNode.same .beryl rfl
      exact ⟨(soundNode_sounds hn).2, hf, hp, hb⟩
    · exact ⟨rfl, rfl, rfl, rfl⟩
  · exact ⟨rfl, rfl, rfl, rfl⟩

theorem plcRetransmit_eq {p : PlcPend} (hp : s.slk.pend.find? (fun q => q.dest == a && decide (q.nextAt ≤ s.frame)) = some p) :
    exec (.plcRetransmit a) s = .next (if p.sent ≤ pget s 0x5008 0 then
      plcSend p.via p.dest p.type p.body (modSlk (fun x => { x with pend := s.slk.pend.filter (fun q => q != p)
        ++ [{ p with sent := p.sent + 1, nextAt := s.frame + backoff (linkMissed p s) }] }) (linkMissed p s).draw)
      else match p.msg with
        | some n => ev 0xC7 9 2 n (modSlk (fun x => { x with pend := s.slk.pend.filter fun q => q != p }) (linkMissed p s))
        | none => modSlk (fun x => { x with pend := s.slk.pend.filter fun q => q != p }) (linkMissed p s)) := by
  obtain ⟨-, hframe, hparams, hberyl⟩ := linkMissed_keeps p s
  have hget : pget (linkMissed p s) 0x5008 0 = pget s 0x5008 0 := pget_congr hparams hberyl ..
  rw [← hget, ← hframe]
  change execPlcRetransmit a s = _
  unfold execPlcRetransmit
  rw [hp]
  rw [apply_ite Outcome.next]
  rfl

theorem plcRetransmit_again {p : PlcPend} (hp : s.slk.pend.find? (fun q => q.dest == a && decide (q.nextAt ≤ s.frame)) = some p)
    (hs : p.sent ≤ pget s 0x5008 0) : ∃ t q, exec (.plcRetransmit a) s = .next t
      ∧ t.slk.pend = (s.slk.pend.filter fun q => q != p) ++ [q] ∧ q.sent = p.sent + 1 ∧ q.dest = p.dest ∧ q.type = p.type ∧ q.body = p.body
      ∧ q.msg = p.msg ∧ s.frame + 8 ≤ q.nextAt ∧ q.nextAt ≤ s.frame + 64 := by
  have hrow := plcRetransmit_eq hp
  rw [if_pos hs] at hrow
  have hlow : 8 ≤ backoff (linkMissed p s) ∧ backoff (linkMissed p s) ≤ 64 := by
    unfold backoff
    omega
  refine ⟨_, { p with sent := p.sent + 1, nextAt := s.frame + backoff (linkMissed p s) }, hrow, ?_, rfl, rfl, rfl, rfl, rfl,
    Nat.add_le_add_left hlow.1 _, Nat.add_le_add_left hlow.2 _⟩
  rw [plcSend_slk]
  rfl

theorem plcRetransmit_ends {p : PlcPend} (hp : s.slk.pend.find? (fun q => q.dest == a && decide (q.nextAt ≤ s.frame)) = some p)
    (hs : pget s 0x5008 0 < p.sent) : ∃ t, exec (.plcRetransmit a) s = .next t ∧ t.slk.pend = s.slk.pend.filter fun q => q != p := by
  have hrow := plcRetransmit_eq hp
  rw [if_neg (Nat.not_le.mpr hs)] at hrow
  refine ⟨_, hrow, ?_⟩
  split
  · exact congrArg SlkSt.pend (evp_slk ..)
  · rfl

theorem plcRetransmit_none (hp : s.slk.pend.find? (fun q => q.dest == a && decide (q.nextAt ≤ s.frame)) = none) :
    exec (.plcRetransmit a) s = .next s := by
  change execPlcRetransmit a s = _
  unfold execPlcRetransmit
  rw [hp]
  rfl

/-! ### HELLOs and wake requests (R443, R466) -/

theorem helloSend_sends (ha : s.slk.align ≠ .off) (hf : s.slk.helloAt ≤ s.frame) :
    ∃ t, exec .helloSend s = .next t ∧ t.slk.helloAt = s.frame + 8000
      ∧ (powerFailed s = false → .plc 0xFF 0xFF plcHello (s.slk.txCount + 1) (helloBody s) ∈ t.outbox) := by
  have hrow : exec .helloSend s = .next (plcSend 0xFF 0xFF plcHello (helloBody s) (modSlk (fun x => { x with helloAt := s.frame + 8000 }) s)) :=
    if_neg (not_or.mpr ⟨ha, Nat.not_lt.mpr hf⟩)
  refine ⟨_, hrow, ?_, fun hp => ?_⟩
  · rw [plcSend_slk]
    rfl
  · rw [plcSend_sends (s := modSlk (fun x => { x with helloAt := s.frame + 8000 }) s) ha (.inr rfl) hp]
    exact List.mem_append_right _ (List.mem_singleton.mpr rfl)

theorem wakeRequestSend_ends {w : WakeReq} (hw : s.slk.wakes.find? (fun y => y.dest == a) = some w) (hu : w.until_ < s.frame) :
    ∃ t, exec (.wakeRequestSend a) s = .next t ∧ w ∉ t.slk.wakes ∧ t.slk.pend = s.slk.pend := by
  let u := modSlk (fun x => { x with wakes := s.slk.wakes.filter fun y => y != w }) s
  have hrow : exec (.wakeRequestSend a) s = .next (match w.msg with
        | some (n, _) => ev 0xC7 9 2 n u
        | none => u) := by
    change execWakeRequestSend a s = _
    unfold execWakeRequestSend
    rw [hw]
    exact if_pos hu
  have hno : w ∉ u.slk.wakes := fun h => absurd rfl (bne_iff_ne.mp (List.mem_filter.mp h).2)
  refine ⟨_, hrow, ?_⟩
  split
  · have hslk {n : Nat} : (ev 0xC7 9 2 n u).slk = u.slk := evp_slk ..
    rw [hslk]
    exact ⟨hno, rfl⟩
  · exact ⟨hno, rfl⟩

/-- A wake request as it stands once it has been sent in this frame (R466). -/
def wakeNoted (w : WakeReq) (s : State) : State :=
  modSlk (fun y => { y with wakes := (s.slk.wakes.filter fun y => y != w) ++ [{ w with lastTx := s.frame }] }) s

theorem wakeRequestSend_sends {w : WakeReq} {x : SiteNode} {n : Nat} (hw : s.slk.wakes.find? (fun y => y.dest == a) = some w)
    (hu : s.frame ≤ w.until_) (hx : findNode s a = some x) (hn : siteNow s = some n) (h1 : 1 ≤ x.hop) (h8 : x.hop ≤ 8)
    (hslot : n % 800 / 80 = x.hop - 1) (hl : w.lastTx = 0) (ha : s.slk.align ≠ .off) (hc : s.slk.conflict = none)
    (hp : powerFailed s = false) : ∃ t, exec (.wakeRequestSend a) s = .next t
      ∧ .plc a a plcWake (s.slk.txCount + 1) [] ∈ t.outbox ∧ { w with lastTx := s.frame } ∈ t.slk.wakes := by
  have hh : (if x.hop = 0xFF ∨ x.hop = 0 then 1 else min x.hop 8) = x.hop := by
    rw [if_neg (by omega)]
    exact Nat.min_eq_left h8
  have hrow : exec (.wakeRequestSend a) s = .next (plcSend a a plcWake [] (wakeNoted w s)) := by
    change execWakeRequestSend a s = _
    unfold execWakeRequestSend
    rw [hw]
    refine (if_neg (Nat.not_lt.mpr hu)).trans ?_
    rw [hx, hn]
    dsimp only
    rw [hh]
    exact if_pos ⟨hslot, .inl hl⟩
  rw [plcSend_sends (s := wakeNoted w s) ha (.inl hc) hp] at hrow
  exact ⟨_, hrow, List.mem_append_right _ (List.mem_singleton.mpr rfl), List.mem_append_right _ (List.mem_singleton.mpr rfl)⟩

/-- Settles O53. -/
theorem theMeshCarriesFrames : Obligations.TheMeshCarriesFrames := by
  intro s
  refine ⟨fun f hl => if_pos fun h => Bool.false_ne_true (hl.symm.trans h), fun f hl => ⟨fun hc => ?_, fun hc hm => ?_,
    fun hc hm hs ht hser => plcFrameReceived_conflict hl hc hm hs ht hser, fun hc hm hs hk ho => ⟨fun hd hd' hv hh => ?_,
      fun hd hd' hv hh => plcFrameReceived_relays hl hc hm hs hk ho hd hd' hv hh, fun hd hd' hv => ?_,
      fun hd ht => plcFrameReceived_hello hl hc hm hs hk ho hd ht⟩⟩, fun c hc => addrConflictEnd_eq hc,
    fun a n hn => ⟨fun hdue => slkNode_leaves hn hdue, fun hdue => slkNode_stays hn hdue, fun m hm hdue ha => ?_,
      fun m hm hdue => toneMapRefresh_waits hn hm hdue⟩,
    fun a p hp => ⟨fun hs => plcRetransmit_again hp hs, fun hs => plcRetransmit_ends hp hs⟩, fun a hp => plcRetransmit_none hp,
    fun ha hf => helloSend_sends ha hf, fun hf => if_pos (.inr hf),
    fun a w hw => ⟨fun hu => wakeRequestSend_ends hw hu, fun x n hu hx hn h1 h8 hslot hlast ha hc hp =>
      wakeRequestSend_sends hw hu hx hn h1 h8 hslot hlast ha hc hp⟩⟩
  · exact (if_neg (Classical.not_not.mpr hl)).trans (if_pos fun h => Bool.false_ne_true (hc.symm.trans h))
  · exact ⟨_, plcFrameReceived_unauthenticated hl hc hm, plcReject_rejects s⟩
  · have hrow := plcFrameReceived_authentic hl hc hm hs hk ho
    rw [if_neg (not_or.mpr ⟨hd, hd'⟩), if_pos hv] at hrow
    exact hrow.trans (congrArg Outcome.next (if_pos hh))
  · have hrow := plcFrameReceived_authentic hl hc hm hs hk ho
    rwa [if_neg (not_or.mpr ⟨hd, hd'⟩), if_neg hv] at hrow
  · obtain ⟨h1, h2⟩ := soundNode_sounds hn
    exact ⟨_, _, toneMapRefresh_sounds hn hm hdue ha, h1, rfl, rfl, h2⟩

end Sys2Proof.Machine
end
section
/-! PROOF. Alignment to the root of the site link (chapter 13). -/

namespace Sys2Proof.Machine

open Host (Outcome)

variable {s t u : State} {b : Beacon}

/-! ### Operations on the alignment -/

theorem slkTo_slk (a : AlignState) (s : State) :
    (slkTo a s).slk = { s.slk with align := a, since := if s.slk.align = a then s.slk.since else s.frame } := by
  unfold slkTo
  by_cases h : s.slk.align = a
  · subst h
    rw [if_pos rfl, if_pos rfl]
  · rw [if_neg h, if_neg h]
    exact evp_slk ..

theorem setProfile_slk (n : Nat) (s : State) : (setProfile n s).slk = { s.slk with running := n } := by
  unfold setProfile
  extract_lets old u
  split
  · rename_i h
    rw [← h]
  · split
    · rfl
    · exact evp_slk ..

theorem setRoot_slk (r hop : Nat) (s : State) : (setRoot r hop s).slk = { s.slk with root := r, hop := hop } := by
  unfold setRoot
  split
  · rename_i h
    rw [← h]
    rfl
  · exact evp_slk ..

theorem setOffset_slk (o : Int) (report : Bool) (s : State) : (setOffset o report s).slk = { s.slk with offset := some o } := by
  unfold setOffset
  extract_lets old u
  clear_value old
  split
  · split
    · exact evp_slk ..
    · rfl
  · rfl

theorem acceptBeacon_slk (b : Beacon) (s : State) : (acceptBeacon b s).slk = { s.slk with
    error := b.error, phase := b.error, rate := (acceptBeacon b s).slk.rate, lastOk := s.frame, heard := some (b.site, b.hop) } := rfl

theorem beaconProfile_slk (b : Beacon) (s : State) :
    (beaconProfile b s).slk = { s.slk with raising := b.raising, running := b.profile } := setProfile_slk ..

theorem slkLost_slk (a : AlignState) (s : State) : (slkLost a s).slk.align = a ∧ (slkLost a s).slk.root = 0xFF
    ∧ (slkLost a s).slk.hop = 0xFF ∧ (slkLost a s).slk.running = 0 ∧ (slkLost a s).slk.offset = s.slk.offset := by
  unfold slkLost
  rw [slkTo_slk]
  exact ⟨rfl, rfl, rfl, rfl, rfl⟩

theorem siteProfile_congr (h : t.slk.nodes = s.slk.nodes) : siteProfile t = siteProfile s := by
  unfold siteProfile
  rw [h]

theorem becomeRoot_slk (s : State) : (becomeRoot s).slk.align = .root ∧ (becomeRoot s).slk.root = ownAddr s ∧ (becomeRoot s).slk.hop = 0
    ∧ (becomeRoot s).slk.offset = s.slk.offset ∧ (becomeRoot s).slk.running = siteProfile s := by
  unfold becomeRoot
  rw [setProfile_slk, slkTo_slk, setRoot_slk]
  exact ⟨rfl, rfl, rfl, rfl, rfl⟩

/-! ### Beacons received (R450 to R454) -/

/-- The offset that a beacon's measurement gives (R454). -/
def beaconOffset (b : Beacon) : Int := (beaconCount b : Int) - b.at_

/-- The state in which a beacon has been noted as heard, before its measurement. -/
def beaconNoted (b : Beacon) (s : State) : State :=
  modSlk (fun x => { x with lastBcn := if s.slk.align = .root ∧ s.slk.root ≤ b.root then x.lastBcn else some s.frame }) s

theorem beaconReceived_listens (hl : slkListens s = true) (hm : b.macOk = true) (hk : s.slk.key ≠ none) :
    ¬ (¬ slkListens s ∨ ¬ b.macOk ∨ s.slk.key.isNone) := by
  rintro (h | h | h)
  · exact h hl
  · exact h hm
  · exact hk (Option.isNone_iff_eq_none.mp h)

/-- What an authentic beacon does once it has been noted (R450 to R454). -/
def beaconHeard (b : Beacon) (s : State) : Outcome State Fault Refusal :=
  match s.slk.align with
  | .off => ans s
  | .searching =>
    if ¬ b.peakOk then ans s
    else ans (slkTo .acquiring (beaconProfile b (acceptBeacon b (setOffset (beaconOffset b) false (setRoot b.root (b.hop + 1) s)))))
  | .root => if b.root < s.slk.root ∧ b.peakOk then ans (takeRoot b s) else ans s
  | st =>
    if b.root < s.slk.root then (if b.peakOk then ans (takeRoot b s) else ans s)
    else if s.slk.root < b.root then ans s
    else if ¬ b.peakOk ∨ (decide (3000 < (b.error - s.slk.phase).natAbs) && st != .acquiring) then ans s
    else
      let s := if 1 < (beaconOffset b - s.slk.offset.getD 0).natAbs then setOffset (beaconOffset b) true s else s
      let s := beaconProfile b (acceptBeacon b (setRoot b.root (b.hop + 1) s))
      ans (if b.error.natAbs ≤ 10000 then slkTo .aligned s else s)

theorem beaconReceived_heard (hl : slkListens s = true) (hm : b.macOk = true) (hk : s.slk.key ≠ none) :
    exec (.beaconReceived b) s = beaconHeard b (beaconNoted b s) := if_neg (beaconReceived_listens hl hm hk)

theorem beaconReceived_acquires (hl : slkListens s = true) (hm : b.macOk = true) (hk : s.slk.key ≠ none) (hp : b.peakOk = true)
    (ha : s.slk.align = .searching) : ∃ t, exec (.beaconReceived b) s = .next t ∧ t.slk.align = .acquiring
      ∧ t.slk.offset = some (beaconOffset b) ∧ t.slk.root = b.root ∧ t.slk.hop = b.hop + 1 ∧ t.slk.running = b.profile
      ∧ t.slk.nodes = s.slk.nodes := by
  have hrow : exec (.beaconReceived b) s = .next (slkTo .acquiring (beaconProfile b (acceptBeacon b
      (setOffset (beaconOffset b) false (setRoot b.root (b.hop + 1) (beaconNoted b s)))))) := by
    rw [beaconReceived_heard hl hm hk]
    generalize hu : beaconNoted b s = u
    have hal : u.slk.align = .searching := hu ▸ ha
    unfold beaconHeard
    rw [hal]
    exact if_neg (Classical.not_not.mpr hp)
  refine ⟨_, hrow, ?_⟩
  rw [slkTo_slk, beaconProfile_slk, acceptBeacon_slk, setOffset_slk, setRoot_slk]
  exact ⟨rfl, rfl, rfl, rfl, rfl, rfl⟩

theorem beaconHeard_measures (hp : b.peakOk = true)
    (ha : s.slk.align = .acquiring ∨ s.slk.align = .aligned ∨ s.slk.align = .holdover) (hr : b.root = s.slk.root)
    (he : b.error.natAbs ≤ 10000) (hw : s.slk.align = .acquiring ∨ (b.error - s.slk.phase).natAbs ≤ 3000) :
    beaconHeard b s = .next (slkTo .aligned (beaconProfile b (acceptBeacon b (setRoot b.root (b.hop + 1)
      (if 1 < (beaconOffset b - s.slk.offset.getD 0).natAbs then setOffset (beaconOffset b) true s else s))))) := by
  have hroot : ¬ b.root < s.slk.root ∧ ¬ s.slk.root < b.root := by
    rw [hr]
    exact ⟨Nat.lt_irrefl _, Nat.lt_irrefl _⟩
  have hwild (st : AlignState) (hst : s.slk.align = st) :
      ¬ (¬ b.peakOk ∨ (decide (3000 < (b.error - s.slk.phase).natAbs) && st != .acquiring) = true) := by
    rintro (h | h)
    · exact h hp
    · obtain ⟨h1, h2⟩ := Bool.and_eq_true_iff.mp h
      rcases hw with hw | hw
      · exact bne_iff_ne.mp h2 (hst.symm.trans hw)
      · exact absurd (of_decide_eq_true h1) (Nat.not_lt.mpr hw)
  unfold beaconHeard
  rcases ha with h | h | h <;>
  · have hno := hwild _ h
    rw [h]
    refine (if_neg hroot.1).trans ((if_neg hroot.2).trans ((if_neg hno).trans ?_))
    exact congrArg Outcome.next (if_pos he)

theorem beaconReceived_measures (hl : slkListens s = true) (hm : b.macOk = true) (hk : s.slk.key ≠ none) (hp : b.peakOk = true)
    (ha : s.slk.align = .acquiring ∨ s.slk.align = .aligned ∨ s.slk.align = .holdover) (hr : b.root = s.slk.root)
    (he : b.error.natAbs ≤ 10000) (hw : s.slk.align = .acquiring ∨ (b.error - s.slk.phase).natAbs ≤ 3000) :
    ∃ t, exec (.beaconReceived b) s = .next t ∧ t.slk.align = .aligned ∧ t.slk.lastOk = s.frame ∧ t.slk.error = b.error
      ∧ t.slk.hop = b.hop + 1
      ∧ t.slk.offset = if 1 < (beaconOffset b - s.slk.offset.getD 0).natAbs then some (beaconOffset b) else s.slk.offset := by
  have hrow := beaconReceived_heard hl hm hk
  rw [beaconHeard_measures (s := beaconNoted b s) hp ha hr he hw] at hrow
  generalize hu : (if 1 < (beaconOffset b - (beaconNoted b s).slk.offset.getD 0).natAbs then
    setOffset (beaconOffset b) true (beaconNoted b s) else beaconNoted b s) = u at hrow
  have hoff : u.frame = s.frame
      ∧ u.slk.offset = if 1 < (beaconOffset b - s.slk.offset.getD 0).natAbs then some (beaconOffset b) else s.slk.offset := by
    rw [← hu]
    by_cases hfar : 1 < (beaconOffset b - s.slk.offset.getD 0).natAbs
    · rw [if_pos hfar, if_pos (show 1 < (beaconOffset b - (beaconNoted b s).slk.offset.getD 0).natAbs from hfar), setOffset_slk]
      exact ⟨touches_setOffset.same .frame rfl, rfl⟩
    · rw [if_neg hfar, if_neg (show ¬ 1 < (beaconOffset b - (beaconNoted b s).slk.offset.getD 0).natAbs from hfar)]
      exact ⟨rfl, rfl⟩
  have hframe : (setRoot b.root (b.hop + 1) u).frame = u.frame := touches_setRoot.same .frame rfl
  refine ⟨_, hrow, ?_⟩
  rw [slkTo_slk, beaconProfile_slk, acceptBeacon_slk, setRoot_slk, hframe]
  exact ⟨rfl, hoff.1, rfl, rfl, hoff.2⟩

theorem takeRoot_slk (b : Beacon) (s : State) : (takeRoot b s).slk.root = b.root ∧ (takeRoot b s).slk.offset = some (beaconOffset b)
    ∧ (takeRoot b s).slk.align = if b.error.natAbs ≤ 10000 then .aligned else .acquiring := by
  unfold takeRoot
  extract_lets o u
  have hu : u.slk.root = b.root ∧ u.slk.offset = some (beaconOffset b) := by
    dsimp only [u]
    rw [beaconProfile_slk, acceptBeacon_slk, setOffset_slk, setRoot_slk]
    exact ⟨rfl, rfl⟩
  rw [slkTo_slk]
  exact ⟨hu.1, hu.2, rfl⟩

theorem beaconReceived_lower (hl : slkListens s = true) (hm : b.macOk = true) (hk : s.slk.key ≠ none) (hp : b.peakOk = true)
    (ha : s.slk.align = .root) (hr : b.root < s.slk.root) : exec (.beaconReceived b) s = .next (takeRoot b (beaconNoted b s)) := by
  rw [beaconReceived_heard hl hm hk]
  generalize hu : beaconNoted b s = u
  have hal : u.slk.align = .root := hu ▸ ha
  have hlow : b.root < u.slk.root := hu ▸ hr
  unfold beaconHeard
  rw [hal]
  exact if_pos ⟨hlow, hp⟩

theorem beaconReceived_higher (hl : slkListens s = true) (hm : b.macOk = true) (hk : s.slk.key ≠ none) (ha : s.slk.align = .root)
    (hr : s.slk.root ≤ b.root) : exec (.beaconReceived b) s = .next s := by
  have hsame : beaconNoted b s = s := by
    have hlast : (if s.slk.align = .root ∧ s.slk.root ≤ b.root then s.slk.lastBcn else some s.frame) = s.slk.lastBcn := if_pos ⟨ha, hr⟩
    exact congrArg (fun l => { s with slk := { s.slk with lastBcn := l } }) hlast
  rw [beaconReceived_heard hl hm hk, hsame]
  unfold beaconHeard
  rw [ha]
  exact if_neg fun h => absurd h.1 (Nat.not_lt.mpr hr)

/-! ### Holdover, election and takeover (R455 to R458) -/

theorem holdoverStart_holds (ha : s.slk.align = .aligned) (hf : s.slk.lastOk + 16000 ≤ s.frame) : ∃ t, exec .holdoverStart s = .next t
    ∧ t.slk.align = .holdover ∧ t.slk.since = s.frame ∧ t.slk.offset = s.slk.offset ∧ t.slk.root = s.slk.root := by
  have hrow : exec .holdoverStart s = .next (slkTo .holdover s) := if_pos ⟨ha, hf⟩
  refine ⟨_, hrow, ?_⟩
  rw [slkTo_slk, ha]
  exact ⟨rfl, rfl, rfl, rfl⟩

theorem rootElection_elects (ha : s.slk.align = .searching) (hp : pbool s 0x5005 0 = true) (hf : s.slk.since + 24000 ≤ s.frame)
    (hb : s.slk.lastBcn = none) : ∃ t, exec .rootElection s = .next t ∧ t.slk.align = .root ∧ t.slk.root = ownAddr s ∧ t.slk.hop = 0
      ∧ t.slk.offset = some 0 ∧ t.slk.running = siteProfile s := by
  have hgo : s.slk.align = .searching ∧ pbool s 0x5005 0 ∧ s.slk.since + 24000 ≤ s.frame
      ∧ s.slk.lastBcn.all (fun t => decide (t < s.slk.since)) := by
    rw [hb]
    exact ⟨ha, hp, hf, rfl⟩
  have hrow : exec .rootElection s = .next (becomeRoot (setOffset 0 false s)) := if_pos hgo
  obtain ⟨h1, h2, h3, h4, h5⟩ := becomeRoot_slk (setOffset 0 false s)
  have hnodes : (setOffset 0 false s).slk.nodes = s.slk.nodes := by rw [setOffset_slk]
  have hown : ownAddr (setOffset 0 false s) = ownAddr s :=
    pget_congr (touches_setOffset.same .params rfl) (touches_setOffset.same .beryl rfl) ..
  rw [setOffset_slk] at h4
  exact ⟨_, hrow, h1, h2.trans hown, h3, h4, h5.trans (siteProfile_congr hnodes)⟩

theorem rootTakeover_takes {n : Nat} (ha : s.slk.align = .aligned ∨ s.slk.align = .holdover) (hp : pbool s 0x5005 0 = true)
    (hb : s.slk.lastBcn = none) (hnodes : s.slk.nodes = []) (hn : siteNow s = some n) (hedge : n % 8000 = 0) :
    exec .rootTakeover s = .next (becomeRoot s) := by
  change execRootTakeover s = _
  unfold execRootTakeover
  rw [hb, hnodes, hn]
  exact if_pos ⟨ha, hp, rfl, rfl, beq_iff_eq.mpr hedge⟩

theorem rootTakeover_waits {f : Nat} (hb : s.slk.lastBcn = some f) (hf : s.frame < f + 24000) : exec .rootTakeover s = .next s := by
  change execRootTakeover s = _
  unfold execRootTakeover
  rw [hb]
  exact if_neg fun h => absurd (of_decide_eq_true h.2.2.1) (Nat.not_le.mpr hf)

/-! ### The root's beacon, its relays and the running profile (R451, R459, R460) -/

/-- The profile fields as the root's beacon announces them (R459). -/
def profileAnnounced (n : Nat) (s : State) : State :=
  if siteProfile s < s.slk.running then setProfile (siteProfile s) (modSlk (fun x => { x with raising := none }) s)
  else if siteProfile s = s.slk.running then modSlk (fun x => { x with raising := none }) s
  else if (s.slk.raising.map (·.1)) = some (siteProfile s) then s
  else modSlk (fun x => { x with raising := some (siteProfile s, (n + 16000 + 7999) / 8000 * 8000) }) s

theorem profileAnnounced_slk (n : Nat) (s : State) : (profileAnnounced n s).slk.root = s.slk.root
    ∧ (siteProfile s < s.slk.running → (profileAnnounced n s).slk.running = siteProfile s)
    ∧ (s.slk.running < siteProfile s → (profileAnnounced n s).slk.running = s.slk.running
      ∧ ∃ a, (profileAnnounced n s).slk.raising = some (siteProfile s, a)) := by
  unfold profileAnnounced
  split
  · rename_i hlt
    rw [setProfile_slk]
    exact ⟨rfl, fun _ => rfl, fun h => absurd h (Nat.lt_asymm hlt)⟩
  · rename_i hge
    split
    · rename_i heq
      exact ⟨rfl, fun h => absurd h hge, fun h => absurd heq (Nat.ne_of_gt h)⟩
    · split
      · rename_i hsame
        obtain ⟨⟨q, a⟩, hq, rfl⟩ := Option.map_eq_some_iff.mp hsame
        exact ⟨rfl, fun h => absurd h hge, fun _ => ⟨rfl, a, hq⟩⟩
      · exact ⟨rfl, fun h => absurd h hge, fun _ => ⟨rfl, _, rfl⟩⟩

theorem beaconSend_sends {n : Nat} (hn : siteNow s = some n) (hedge : n % 8000 = 0) (ha : s.slk.align = .root) (hp : powerFailed s = false) :
    exec .beaconSend s = .next (emit (.beacon (profileAnnounced n s).slk.root n 0 0 (profileAnnounced n s).slk.running
      (profileAnnounced n s).slk.raising) (profileAnnounced n s)) := by
  have hgo : ¬ (s.slk.align ≠ .root ∨ n % 8000 ≠ 0 ∨ powerFailed s) := by
    rintro (h | h | h)
    · exact h ha
    · exact h hedge
    · exact Bool.false_ne_true (hp.symm.trans h)
  change execBeaconSend s = _
  unfold execBeaconSend
  rw [hn]
  exact if_neg hgo

theorem beaconSend_silent (ha : s.slk.align ≠ .root) : exec .beaconSend s = .next s := by
  change execBeaconSend s = _
  unfold execBeaconSend
  split
  · rfl
  · exact if_pos (.inl ha)

theorem beaconRelay_relays {n b' hop : Nat} (hn : siteNow s = some n) (hh : s.slk.heard = some (b', hop)) (ha : s.slk.align = .aligned)
    (hslot : n = b' + 80 * s.slk.hop) (hnodes : s.slk.nodes = []) (hp : powerFailed s = false) : exec (.beaconRelay s.slk.hop) s =
      .next { s with outbox := s.outbox ++ [.beacon s.slk.root b' s.slk.hop s.slk.error s.slk.running s.slk.raising] } := by
  change execBeaconRelay s.slk.hop s = _
  unfold execBeaconRelay
  rw [hn, hh, hnodes]
  exact if_pos ⟨ha, rfl, hslot, Bool.false_ne_true, fun h => Bool.false_ne_true (hp.symm.trans h)⟩

theorem beaconRelay_waits {hop : Nat} (hh : s.slk.hop ≠ hop) : exec (.beaconRelay hop) s = .next s := by
  change execBeaconRelay hop s = _
  unfold execBeaconRelay
  split
  · exact if_neg fun h => hh h.2.1
  · rfl

theorem slkProfile_eq {p a n : Nat} (hr : s.slk.raising = some (p, a)) (hn : siteNow s = some n) : exec .slkProfile s =
    if a ≤ n ∧ s.slk.align ≠ .off then ans (setProfile p (modSlk (fun x => { x with raising := none }) s)) else ans s := by
  change execSlkProfile s = _
  unfold execSlkProfile
  rw [hr, hn]

/-- Settles O54. -/
theorem nodesAlignToTheRoot : Obligations.NodesAlignToTheRoot := by
  intro s x
  refine ⟨fun b hl hm hk hp => ⟨fun ha => beaconReceived_acquires hl hm hk hp ha,
      fun ha hr he hw => beaconReceived_measures hl hm hk hp ha hr he hw,
      fun ha hr => ⟨_, beaconReceived_lower hl hm hk hp ha hr, takeRoot_slk ..⟩, fun ha hr => beaconReceived_higher hl hm hk ha hr⟩,
    fun b hno => if_pos ?_, fun ha hf => holdoverStart_holds ha hf, fun hf => if_neg fun h => absurd h.2 (Nat.not_le.mpr hf),
    fun ha hf => ⟨_, if_pos ⟨ha, hf⟩, slkLost_slk ..⟩, fun hf => if_neg fun h => absurd h.2 (Nat.not_le.mpr hf),
    fun ha hp hf hb => rootElection_elects ha hp hf hb, fun hf => if_neg fun h => absurd h.2.2.1 (Nat.not_le.mpr hf),
    fun n ha hp hb hnodes hn hedge => ?_, fun b hb hf => rootTakeover_waits hb hf, fun n hn hedge ha hp => ?_, beaconSend_silent,
    fun n b hop hn hh ha hslot hnodes hp => beaconRelay_relays hn hh ha hslot hnodes hp, fun hop hh => beaconRelay_waits hh,
    fun p a n hr hn ha => ⟨fun hle => ⟨_, (slkProfile_eq hr hn).trans (if_pos ⟨hle, ha⟩), ?_⟩,
      fun hlt => (slkProfile_eq hr hn).trans (if_neg fun h => absurd h.1 (Nat.not_le.mpr hlt))⟩⟩
  · rcases hno with h | h
    · exact .inr (.inl fun h' => Bool.false_ne_true (h.symm.trans h'))
    · exact .inl fun h' => Bool.false_ne_true (h.symm.trans h')
  · obtain ⟨h1, h2, h3, h4, -⟩ := becomeRoot_slk s
    exact ⟨_, rootTakeover_takes ha hp hb hnodes hn hedge, h1, h2, h3, h4⟩
  · obtain ⟨hroot, hlow, hhigh⟩ := profileAnnounced_slk n s
    refine ⟨_, beaconSend_sends hn hedge ha hp, ?_, hlow, hhigh⟩
    rw [hroot]
    exact List.mem_append_right _ (List.mem_singleton.mpr rfl)
  · rw [setProfile_slk]
    exact ⟨rfl, rfl, rfl⟩

end Sys2Proof.Machine
end
section
/-! PROOF. Scheduled actions and the commands of the site link (chapter 13). -/

namespace Sys2Proof.Machine

open Host (Outcome)

variable {s t u : State} {h : Hdr}

/-! ### The list of distributed actions -/

theorem distTo_slk (d : SchedDist) (st : Nat) (s : State) : (distTo d st s).slk = (setDist { d with state := st } s).slk := evp_slk ..

theorem mem_setDist {d e : SchedDist} (he : e ∈ s.slk.dist) (hn : e.num = d.num) : d ∈ (setDist d s).slk.dist :=
  List.mem_map.mpr ⟨e, he, if_pos hn⟩

theorem mem_distTo {d e : SchedDist} {st : Nat} (he : e ∈ s.slk.dist) (hn : e.num = d.num) :
    { d with state := st } ∈ (distTo d st s).slk.dist := by
  rw [distTo_slk]
  exact mem_setDist (d := { d with state := st }) he hn

theorem find?_dist {num : Nat} {d : SchedDist} (hd : s.slk.dist.find? (·.num == num) = some d) : d ∈ s.slk.dist ∧ d.num = num := by
  have hnum := List.find?_some hd
  exact ⟨List.mem_of_find?_eq_some hd, beq_iff_eq.mp hnum⟩

/-- Every entry of the list with a number is of an action: distributed, waiting or acknowledged (Table SLK-4), and there is one. -/
def Scheduled (num type siteC group : Nat) (body : List Byte) (l : List SchedDist) : Prop :=
  (∃ d ∈ l, d.num = num) ∧ ∀ d ∈ l, d.num = num → d.type = type ∧ d.siteC = siteC ∧ d.group = group ∧ d.body = body
    ∧ (d.state = 1 ∨ d.state = 2 ∨ d.state = 3)

theorem Scheduled.setDist {num type siteC group : Nat} {body : List Byte} {d : SchedDist} (hs : Scheduled num type siteC group body s.slk.dist)
    (hd : d.num = num → d.type = type ∧ d.siteC = siteC ∧ d.group = group ∧ d.body = body ∧ (d.state = 1 ∨ d.state = 2 ∨ d.state = 3)) :
    Scheduled num type siteC group body (Machine.setDist d s).slk.dist := by
  obtain ⟨⟨e, he, hen⟩, hall⟩ := hs
  refine ⟨⟨if e.num = d.num then d else e, List.mem_map.mpr ⟨e, he, rfl⟩, ?_⟩, fun y hy hyn => ?_⟩
  · split
    · rename_i hed
      exact hed.symm.trans hen
    · exact hen
  · obtain ⟨z, hz, rfl⟩ := List.mem_map.mp hy
    split at hyn <;> rename_i hzd
    · rw [if_pos hzd]
      exact hd hyn
    · rw [if_neg hzd]
      exact hall z hz hyn

theorem memberHold_slk {source num type siteC group : Nat} {body : List Byte} (s : State) : ∃ l,
    (memberHold source num type siteC group body s).2.slk = { s.slk with member := l } := by
  unfold memberHold
  split
  · exact ⟨_, rfl⟩
  · split
    · exact ⟨_, rfl⟩
    · split
      · exact ⟨_, rfl⟩
      · extract_lets m t
        dsimp only
        split
        · exact ⟨_, touches_setSchedule.same .slk rfl⟩
        · exact ⟨_, rfl⟩

theorem applySched_takes (type siteC group : Nat) (body : List Byte) (s : State) :
    (applySched type siteC group body s).1.slk.actNext = s.slk.actNext % 255 + 1
      ∧ Scheduled s.slk.actNext type siteC group body (applySched type siteC group body s).1.slk.dist := by
  unfold applySched
  extract_lets n st d s1 s2 own r a s3 s4
  have hst : st = 1 ∨ st = 2 := by
    dsimp only [st]
    split
    · exact .inr rfl
    · exact .inl rfl
  have hgood (y : SchedDist) (hy : y.type = type ∧ y.siteC = siteC ∧ y.group = group ∧ y.body = body ∧ y.state = st) :
      y.type = type ∧ y.siteC = siteC ∧ y.group = group ∧ y.body = body ∧ (y.state = 1 ∨ y.state = 2 ∨ y.state = 3) := by
    obtain ⟨h1, h2, h3, h4, h5⟩ := hy
    exact ⟨h1, h2, h3, h4, h5 ▸ hst.imp_right .inl⟩
  have h1 : Scheduled n type siteC group body s1.slk.dist := by
    refine ⟨⟨d, List.mem_append_right _ List.mem_cons_self, rfl⟩, fun y hy hyn => ?_⟩
    rcases List.mem_append.mp hy with hy | hy
    · exact absurd hyn (bne_iff_ne.mp (List.mem_filter.mp hy).2)
    · rw [List.mem_singleton.mp hy]
      exact hgood d ⟨rfl, rfl, rfl, rfl, rfl⟩
  have h2 : s2.slk.actNext = s.slk.actNext % 255 + 1 ∧ Scheduled n type siteC group body s2.slk.dist := by
    have hslk : s2.slk = (setDist { d with state := st } s1).slk := distTo_slk ..
    rw [hslk]
    exact ⟨rfl, h1.setDist fun _ => hgood _ ⟨rfl, rfl, rfl, rfl, rfl⟩⟩
  have h3 : s3.slk.actNext = s.slk.actNext % 255 + 1 ∧ Scheduled n type siteC group body s3.slk.dist := by
    dsimp only [s3]
    split
    · obtain ⟨l, hl⟩ := memberHold_slk (source := own) (num := n) (type := type) (siteC := siteC) (group := group) (body := body) s2
      have hr : r.2.slk = { s2.slk with member := l } := hl
      have ha : a.type = type ∧ a.siteC = siteC ∧ a.group = group ∧ a.body = body ∧ a.state = st := by
        dsimp only [a]
        split <;> exact ⟨rfl, rfl, rfl, rfl, rfl⟩
      have hrs : Scheduled n type siteC group body r.2.slk.dist := by
        rw [hr]
        exact h2.2
      exact ⟨(congrArg SlkSt.actNext hr).trans h2.1, hrs.setDist fun _ => hgood a ha⟩
    · exact h2
  clear_value s3
  dsimp only [s4]
  split
  · rename_i e he
    obtain ⟨hmem, hnum⟩ := find?_dist he
    obtain ⟨g1, g2, g3, g4, -⟩ := h3.2.2 e hmem hnum
    split
    · rw [distTo_slk]
      exact ⟨h3.1, h3.2.setDist fun _ => ⟨g1, g2, g3, g4, .inr (.inr rfl)⟩⟩
    · exact h3
  · exact h3

/-! ### The source's rows (R462, R463, R471) -/

theorem schedRules_accepts {type siteC group n : Nat} {body : List Byte} (hf : fencedDomain s 9 = false)
    (ha : s.slk.align = .aligned ∨ s.slk.align = .root) (h1 : 1 ≤ type) (h3 : type ≤ 3) (hn : siteNow s = some n) (hlo : n + 16000 ≤ siteC)
    (hhi : siteC ≤ n + 4800000) (hg : ∀ a ∈ groupMembers group, a = ownAddr s ∨ findNode s a ≠ none) (hb : schedBodyOk type body = true)
    (hd : s.slk.dist.length < 8) : schedRules type siteC group body s = .accept 0x0100 none id := by
  have hfen : ¬ fencedDomain s 9 = true := fun h => Bool.false_ne_true (hf.symm.trans h)
  have hal : ¬ (s.slk.align ≠ .aligned ∧ s.slk.align ≠ .root) := fun h => ha.elim h.1 h.2
  have htype : ¬ (type = 0 ∨ 3 < type) := by omega
  have hwin : ¬ (siteNow s).all (fun n => decide (siteC < n + 16000) || decide (n + 4800000 < siteC)) = true := by
    rw [hn]
    intro h
    rcases Bool.or_eq_true_iff.mp h with h | h
    · exact absurd (of_decide_eq_true h) (Nat.not_lt.mpr hlo)
    · exact absurd (of_decide_eq_true h) (Nat.not_lt.mpr hhi)
  have hmem : ¬ (groupMembers group).any (fun a => a != ownAddr s && (findNode s a).isNone) = true := by
    intro h
    obtain ⟨a, hain, hbad⟩ := List.any_eq_true.mp h
    obtain ⟨hne, hnone⟩ := Bool.and_eq_true_iff.mp hbad
    exact (hg a hain).elim (bne_iff_ne.mp hne) fun h => h (Option.isNone_iff_eq_none.mp hnone)
  have hroom : ¬ 8 ≤ (s.slk.dist.filter fun (d : SchedDist) => decide (d.state < 5)).length :=
    Nat.not_le.mpr (Nat.lt_of_le_of_lt (List.length_filter_le _ _) hd)
  exact (if_neg hfen).trans ((if_neg hal).trans ((if_neg htype).trans ((if_neg hwin).trans ((if_neg hmem).trans
    ((if_neg (Classical.not_not.mpr hb)).trans (if_neg hroom))))))

theorem slkSched_accepted {type siteC group n : Nat} {body : List Byte} (hf : fencedDomain s 9 = false)
    (ha : s.slk.align = .aligned ∨ s.slk.align = .root) (h1 : 1 ≤ type) (h3 : type ≤ 3) (hn : siteNow s = some n) (hlo : n + 16000 ≤ siteC)
    (hhi : siteC ≤ n + 4800000) (hg : ∀ a ∈ groupMembers group, a = ownAddr s ∨ findNode s a ≠ none) (hb : schedBodyOk type body = true)
    (hd : s.slk.dist.length < 8) (hp : Passes h 0x5003 true true s) :
    exec (.slkSched h type siteC group body) s = .next (accepted (.slkSched h type siteC group body) h 0x5003 0x0100 none s) := by
  have hr : schedRules type siteC group body (entered h s) = .accept 0x0100 none id := by
    rw [entered_eq]
    exact schedRules_accepts (s := { s with link := (entered h s).link }) hf ha h1 h3 hn hlo hhi hg hb hd
  exact congrArg Outcome.next (hostCmd_accepts hp rfl rfl hr)

/-- A distributed action has come into a state of Table SLK-4. -/
def DistMoved (num : Nat) (d : SchedDist) (st : Nat) (t : State) : Prop := ∃ y ∈ t.slk.dist, y.num = num ∧ y.type = d.type ∧ y.state = st

section
variable {num n : Nat} {d : SchedDist} (hd : s.slk.dist.find? (·.num == num) = some d) (hn : siteNow s = some n)
include hd hn

theorem slkSchedCancel_accepted (hf : fencedDomain s 9 = false) (h1 : 1 ≤ d.state) (h4 : d.state ≤ 4) (hc : n + 801 ≤ d.siteC)
    (hp : Passes h 0x5004 true true s) :
    exec (.slkSchedCancel h num) s = .next (accepted (.slkSchedCancel h num) h 0x5004 0 none s) := by
  have hfen : ¬ fencedDomain s 9 = true := fun h => Bool.false_ne_true (hf.symm.trans h)
  have hr : schedCancelRules num (entered h s) = .accept 0 none id := by
    rw [entered_eq]
    refine (if_neg hfen).trans ?_
    change (match s.slk.dist.find? (·.num == num), siteNow s with
      | some d, some n => if 1 ≤ d.state ∧ d.state ≤ 4 ∧ n + 801 ≤ d.siteC then done else no 0x10C2
      | _, _ => no 0x10C2) = _
    rw [hd, hn]
    exact if_pos ⟨h1, h4, hc⟩
  exact congrArg Outcome.next (hostCmd_accepts hp rfl rfl hr)

omit hn in
theorem applySchedCancel_cancels : DistMoved num d 6 (applySchedCancel num s) := by
  obtain ⟨hmem, hnum⟩ := find?_dist hd
  unfold applySchedCancel
  rw [hd]
  exact ⟨_, mem_distTo (s := modSlk _ s) hmem rfl, hnum, rfl, rfl⟩

theorem schedDistribute_again (hst : d.state = 2) (hc : n + 1600 ≤ d.siteC) (hl : d.lastTx = 0 ∨ d.lastTx + 400 ≤ s.frame)
    (ha : s.slk.align ≠ .off) : ∃ t, exec (.schedDistribute num) s = .next t ∧ DistMoved num d 2 t
      ∧ ∀ a ∈ unacked s d, ∃ p ∈ t.slk.pend, p.dest = a ∧ p.type = plcSched := by
  obtain ⟨hmem, hnum⟩ := find?_dist hd
  let body := leBytes 1 d.num ++ leBytes 1 d.type ++ leBytes 6 d.siteC ++ leBytes 8 d.group ++ d.body
  have hrow : exec (.schedDistribute num) s = .next ((unacked s d).foldl (fun (s : State) (a : Nat) => plcUnicast a plcSched body none s)
      (setDist { d with lastTx := s.frame } s)) := by
    change execSchedDistribute num s = _
    unfold execSchedDistribute
    rw [hd, hn]
    exact if_pos ⟨hst, by omega, hl⟩
  let P (t : State) : Prop := t.slk.align ≠ .off ∧ { d with lastTx := s.frame } ∈ t.slk.dist
  have hstart : P (setDist { d with lastTx := s.frame } s) := ⟨ha, mem_setDist (d := { d with lastTx := s.frame }) hmem rfl⟩
  have hkeep (t : State) (a : Nat) (ht : P t) : P (plcUnicast a plcSched body none t) := by
    obtain ⟨via, at_, k, hk⟩ := plcUnicast_slk (dest := a) (type := plcSched) (body := body) (msg := none) ht.1
    unfold P
    rw [hk]
    exact ht
  have hpend : ∀ l : List Nat, ∀ t, P t → ∀ a ∈ l, ∃ p ∈ (l.foldl (fun (s : State) (a : Nat) => plcUnicast a plcSched body none s) t).slk.pend,
      p.dest = a ∧ p.type = plcSched := by
    intro l
    induction l with
    | nil => exact fun t _ a ha => absurd ha List.not_mem_nil
    | cons b l ih =>
      intro t ht a hain
      rcases List.mem_cons.mp hain with rfl | hain
      · obtain ⟨via, at_, k, hk⟩ := plcUnicast_slk (dest := a) (type := plcSched) (body := body) (msg := none) ht.1
        let Q (t : State) : Prop := P t ∧ ∃ p ∈ t.slk.pend, p.dest = a ∧ p.type = plcSched
        have hQ : Q (plcUnicast a plcSched body none t) := by
          refine ⟨hkeep t a ht, ?_⟩
          rw [hk]
          exact ⟨_, List.mem_append_right _ List.mem_cons_self, rfl, rfl⟩
        refine (foldl_keep (P := Q) hQ (fun v x hv => ⟨hkeep v x hv.1, ?_⟩) l).2
        obtain ⟨via', at', k', hk'⟩ := plcUnicast_slk (dest := x) (type := plcSched) (body := body) (msg := none) hv.1.1
        obtain ⟨p, hp, hpd⟩ := hv.2
        rw [hk']
        exact ⟨p, List.mem_append_left _ hp, hpd⟩
      · exact ih _ (hkeep t b ht) a hain
  have hend := foldl_keep (P := P) hstart hkeep (unacked s d)
  exact ⟨_, hrow, ⟨_, hend.2, hnum, rfl, hst⟩, fun a hain => hpend _ _ hstart a hain⟩

theorem schedDistribute_waits (hst : d.state = 2) (hl : d.lastTx ≠ 0) (hf : s.frame < d.lastTx + 400) :
    exec (.schedDistribute num) s = .next s := by
  change execSchedDistribute num s = _
  unfold execSchedDistribute
  rw [hd, hn]
  refine (if_neg fun h => ?_).trans (if_neg fun h => ?_)
  · exact h.2.2.elim hl (Nat.not_le.mpr hf)
  · rw [hst] at h
    exact absurd h.1 (by decide)

theorem schedAckDeadline_ends (hlo : 1600 ≤ d.siteC) (hc : d.siteC < n + 1600) (hst : d.state = 1) :
    ∃ t, exec (.schedAckDeadline num) s = .next t ∧ DistMoved num d 7 t := by
  obtain ⟨hmem, hnum⟩ := find?_dist hd
  have hrow : exec (.schedAckDeadline num) s = .next (distTo d 7
      (modSlk (fun x => { x with member := x.member.filter fun (m : SchedMember) => !(m.source == ownAddr s && m.num == num) }) s)) := by
    change execSchedAckDeadline num s = _
    unfold execSchedAckDeadline
    rw [hd, hn]
    exact (if_neg (by omega)).trans (if_pos hst)
  exact ⟨_, hrow, _, mem_distTo (s := modSlk _ s) hmem rfl, hnum, rfl, rfl⟩

theorem schedAckDeadline_misses (hlo : 1600 ≤ d.siteC) (hc : d.siteC < n + 1600) (hst : d.state = 2) :
    ∃ t, exec (.schedAckDeadline num) s = .next t ∧ ∃ y ∈ t.slk.dist, y.num = num ∧ y.state = 4 ∧ y.missing = unacked s d := by
  obtain ⟨hmem, hnum⟩ := find?_dist hd
  have hrow : exec (.schedAckDeadline num) s = .next (distTo { d with missing := unacked s d } 4 s) := by
    change execSchedAckDeadline num s = _
    unfold execSchedAckDeadline
    rw [hd, hn]
    refine (if_neg (by omega)).trans ((if_neg ?_).trans (if_pos hst))
    rw [hst]
    decide
  exact ⟨_, hrow, _, mem_distTo (d := { d with missing := unacked s d }) hmem rfl, hnum, rfl, rfl⟩

theorem schedAckDeadline_waits (hc : n + 1600 ≤ d.siteC) : exec (.schedAckDeadline num) s = .next s := by
  change execSchedAckDeadline num s = _
  unfold execSchedAckDeadline
  rw [hd, hn]
  exact if_pos (by omega)

theorem schedOutcome_closes (hst : d.state = 3 ∨ d.state = 4) (hc : d.siteC ≤ n)
    (hall : ∀ a ∈ d.acks, a ∈ d.applied ∨ a ∈ d.refused ∨ a ∈ d.missing) : ∃ t, exec (.schedOutcome num) s = .next t ∧ DistMoved num d 5 t := by
  obtain ⟨hmem, hnum⟩ := find?_dist hd
  let left := d.acks.filter fun a => !(d.applied.contains a || d.refused.contains a || d.missing.contains a)
  have hleft : left = [] := by
    refine List.filter_eq_nil_iff.mpr fun a ha h => ?_
    simp only [Bool.not_eq_true', Bool.or_eq_false_iff, List.contains_eq_mem, decide_eq_false_iff_not] at h
    obtain ⟨⟨h1, h2⟩, h3⟩ := h
    rcases hall a ha with h | h | h
    · exact h1 h
    · exact h2 h
    · exact h3 h
  have hrow : exec (.schedOutcome num) s = .next (distTo { d with missing := d.missing ++ left } 5 s) := by
    change execSchedOutcome num s = _
    unfold execSchedOutcome
    rw [hd, hn]
    exact if_pos ⟨hst, hc, .inl (List.isEmpty_iff.mpr hleft)⟩
  exact ⟨_, hrow, _, mem_distTo (d := { d with missing := d.missing ++ left }) hmem rfl, hnum, rfl, rfl⟩

theorem schedOutcome_waits (hc : n < d.siteC) : exec (.schedOutcome num) s = .next s := by
  change execSchedOutcome num s = _
  unfold execSchedOutcome
  rw [hd, hn]
  exact if_neg fun h => absurd h.2.1 (Nat.not_le.mpr hc)

end

/-! ### The member's rows (R461, R464) -/

theorem memberHold_holds {source num type siteC group f : Nat} {body : List Byte} (hf : localFrame s siteC = some f)
    (hroom : s.slk.member.length < 16) (hc : s.frame < f) (ht : memberTakes s type body = true) (hnew : ∀ m ∈ s.slk.member, m.num ≠ num) :
    memberHold source num type siteC group body s = (true,
      let t := modSlk (fun x => { x with member := x.member ++ [{ source := source, num := num, type := type, siteC := siteC, group := group, body := body, localF := f }] }) s
      if type = 1 then setSchedule 1 f t else t) := by
  have hno : ¬ s.slk.member.any (fun (m : SchedMember) => m.source == source && m.num == num) = true := by
    intro h
    obtain ⟨m, hm, hb⟩ := List.any_eq_true.mp h
    exact hnew m hm (beq_iff_eq.mp (Bool.and_eq_true_iff.mp hb).2)
  unfold memberHold
  rw [if_neg hno, hf]
  refine if_neg ?_
  rintro (h | h | h)
  · exact absurd h (Nat.not_le.mpr hroom)
  · exact absurd h (Nat.not_le.mpr hc)
  · exact h ht

theorem memberAnswer_slk {source num : Nat} {ok : Bool} (ha : s.slk.align ≠ .off) : ∃ via at_ n,
    (memberAnswer source num ok s).slk = { s.slk with
      pend := s.slk.pend ++ [{ via := via, dest := source, type := plcSchedAck, body := leBytes 1 num ++ [boolByte (!ok)], nextAt := at_ }], txCount := n } := by
  have hsend := plcSend_slk source source plcAck [] s
  have hal : (plcSend source source plcAck [] s).slk.align ≠ .off := by
    rw [hsend]
    exact ha
  obtain ⟨via, at_, n, hn⟩ := plcUnicast_slk (dest := source) (type := plcSchedAck) (body := leBytes 1 num ++ [boolByte (!ok)]) (msg := none) hal
  refine ⟨via, at_, n, hn.trans ?_⟩
  rw [hsend]

theorem schedActionReceived_holds {source num type siteC group f : Nat} {body : List Byte} (hl : slkListens s = true)
    (hg : ownAddr s ∈ groupMembers group) (hf : localFrame s siteC = some f) (hroom : s.slk.member.length < 16) (hc : s.frame < f)
    (ht : type ≠ 1) (hnew : ∀ m ∈ s.slk.member, m.num ≠ num) : ∃ t, exec (.schedActionReceived source num type siteC group body) s = .next t
      ∧ t.slk.member = s.slk.member ++ [{ source := source, num := num, type := type, siteC := siteC, group := group, body := body, localF := f }]
      ∧ ∃ p ∈ t.slk.pend, p.dest = source ∧ p.type = plcSchedAck ∧ p.body = leBytes 1 num ++ [boolByte false] := by
  have htake : memberTakes s type body = true := by
    unfold memberTakes
    rw [bne_iff_ne.mpr ht]
    rfl
  have hhold := memberHold_holds (source := source) (group := group) hf hroom hc htake hnew
  dsimp only at hhold
  rw [if_neg ht] at hhold
  generalize hu : modSlk _ s = u at hhold
  have hrow : exec (.schedActionReceived source num type siteC group body) s = .next (memberAnswer source num true u) := by
    change execSchedActionReceived source num type siteC group body s = _
    unfold execSchedActionReceived
    rw [hhold]
    exact if_neg (not_or.mpr ⟨Classical.not_not.mpr hl, Classical.not_not.mpr (List.contains_iff_mem.mpr hg)⟩)
  have halign : u.slk.align ≠ .off := by
    rw [← hu]
    exact slkListens_align hl
  obtain ⟨via, at_, n, hn⟩ := memberAnswer_slk (source := source) (num := num) (ok := true) halign
  refine ⟨_, hrow, ?_, ?_⟩
  · rw [hn, ← hu]
    rfl
  · rw [hn]
    exact ⟨_, List.mem_append_right _ List.mem_cons_self, rfl, rfl, rfl⟩

theorem schedActionReceived_other {source num type siteC group : Nat} {body : List Byte} (hg : ownAddr s ∉ groupMembers group) :
    exec (.schedActionReceived source num type siteC group body) s = .next s :=
  if_pos (.inr fun h => hg (List.contains_iff_mem.mp h))

theorem setSchedule_upd (f : Nat) (s : State) : (setSchedule 1 f s).upd.due = some f
    ∧ (setSchedule 1 f s).upd.regions[(0 : Fin 2)].st = .scheduled ∧ (setSchedule 1 f s).slk = s.slk := by
  unfold setSchedule
  extract_lets mark
  rw [ev_upd, ev_slk]
  refine ⟨rfl, ?_, rfl⟩
  dsimp only
  have h0 : ((s.upd.regions.set 0 (mark 0 s.upd.regions[0])).set 1 (mark 1 s.upd.regions[1]))[(0 : Fin 2)] = mark 0 s.upd.regions[0] :=
    (Vector.getElem_set_ne (by decide) (by decide) (by decide)).trans (Vector.getElem_set_self ..)
  rw [h0]
  exact congrArg Region.st (if_pos (.inl (by decide)))

theorem leNat_leBytes (n x : Nat) : leNat (leBytes n x) = x % 256 ^ n := by
  induction n generalizing x with
  | zero => exact (Nat.mod_one x).symm
  | succ n ih =>
    have hlow : (BitVec.ofNat 8 x).toNat = x % 256 := BitVec.toNat_ofNat ..
    change (BitVec.ofNat 8 x).toNat + 256 * leNat (leBytes n (x / 256)) = _
    rw [ih, hlow, Nat.pow_succ', Nat.mod_mul]

theorem leNat_leBytes8 {n : Nat} (h : n < 2 ^ 64) : leNat (leBytes 8 n) = n := by
  rw [leNat_leBytes]
  exact Nat.mod_eq_of_lt h

theorem updateActReceived_schedules {source num siteC identity f : Nat} (hl : slkListens s = true) (hf : localFrame s siteC = some f)
    (hroom : s.slk.member.length < 16) (hc : s.frame < f) (hw : s.upd.regions[0].st = .written) (hi : s.upd.regions[0].identity = identity)
    (hid : identity < 2 ^ 64) (hnew : ∀ m ∈ s.slk.member, m.num ≠ num) : ∃ t, exec (.updateActReceived source num siteC identity) s = .next t
      ∧ t.upd.due = some f ∧ t.upd.regions[0].st = .scheduled
      ∧ ∃ m ∈ t.slk.member, m.source = source ∧ m.num = num ∧ m.type = 1 ∧ m.localF = f := by
  have htake : memberTakes s 1 (leBytes 8 identity) = true := by
    unfold memberTakes
    rw [hw, hi, leNat_leBytes8 hid]
    exact beq_self_eq_true identity
  have hhold := memberHold_holds (source := source) (group := 2 ^ ownAddr s) hf hroom hc htake hnew
  dsimp only at hhold
  rw [if_pos rfl] at hhold
  generalize hu : modSlk _ s = u at hhold
  obtain ⟨hdue, hst, hslk⟩ := setSchedule_upd f u
  have hrow : exec (.updateActReceived source num siteC identity) s = .next (memberAnswer source num true (setSchedule 1 f u)) := by
    change execUpdateActReceived source num siteC identity s = _
    unfold execUpdateActReceived
    rw [hhold]
    exact if_neg (Classical.not_not.mpr hl)
  have halign : (setSchedule 1 f u).slk.align ≠ .off := by
    rw [hslk, ← hu]
    exact slkListens_align hl
  obtain ⟨via, at_, n, hn⟩ := memberAnswer_slk (source := source) (num := num) (ok := true) halign
  have hupd : (memberAnswer source num true (setSchedule 1 f u)).upd = (setSchedule 1 f u).upd := touches_memberAnswer.same .upd rfl
  refine ⟨_, hrow, ?_, ?_, ?_⟩
  · rw [hupd]
    exact hdue
  · rw [hupd]
    exact hst
  · rw [hn, hslk, ← hu]
    exact ⟨_, List.mem_append_right _ List.mem_cons_self, rfl, rfl, rfl, rfl⟩

theorem memberReport_member (source num outcome : Nat) (t : State) : (memberReport source num outcome t).slk.member = t.slk.member := by
  unfold memberReport
  split
  · unfold distReport
    split
    · split
      · rfl
      · rfl
    · rfl
  · by_cases ha : t.slk.align = .off
    · unfold plcUnicast
      rw [if_pos ha]
    · obtain ⟨via, at_, n, hn⟩ := plcUnicast_slk (dest := source) (type := plcSchedReport)
        (body := leBytes 1 num ++ leBytes 1 outcome) (msg := none) ha
      rw [hn]

section
variable {source num : Nat} {m : SchedMember} (hm : s.slk.member.find? (fun y => y.source == source && y.num == num) = some m)
include hm

theorem schedCancelReceived_drops (hl : slkListens s = true) (hf : s.frame + 800 ≤ m.localF) :
    ∃ t, exec (.schedCancelReceived source num) s = .next t ∧ m ∉ t.slk.member := by
  let u := modSlk (fun x => { x with member := x.member.filter fun (y : SchedMember) => y != m }) s
  let v := if m.type = 1 ∧ u.upd.due = some m.localF then
          ev 0xFA 12 2 (m.localF % 2 ^ 32) { u with upd := { u.upd with
            due := none, mask := 0, regions := upd u.upd.regions 0 fun r => { r with st := .written, due := none } } }
        else u
  have hrow : exec (.schedCancelReceived source num) s
      = .next (plcUnicast source plcCancelAck (leBytes 1 num) none (plcSend source source plcAck [] v)) := by
    change execSchedCancelReceived source num s = _
    unfold execSchedCancelReceived
    rw [hm]
    exact if_pos ⟨hl, hf⟩
  have hno : m ∉ u.slk.member := fun h => absurd rfl (bne_iff_ne.mp (List.mem_filter.mp h).2)
  have hv : v.slk = u.slk := by
    dsimp only [v]
    split
    · exact evp_slk ..
    · rfl
  have hsend := plcSend_slk source source plcAck [] v
  have halign : (plcSend source source plcAck [] v).slk.align ≠ .off := by
    rw [hsend, hv]
    exact slkListens_align hl
  obtain ⟨via, at_, n, hn⟩ := plcUnicast_slk (dest := source) (type := plcCancelAck) (body := leBytes 1 num) (msg := none) halign
  refine ⟨_, hrow, ?_⟩
  rw [hn, hsend, hv]
  exact hno

theorem schedCancelReceived_late (hf : m.localF < s.frame + 800) : exec (.schedCancelReceived source num) s = .next s := by
  change execSchedCancelReceived source num s = _
  unfold execSchedCancelReceived
  rw [hm]
  exact if_neg fun h => absurd h.2 (Nat.not_le.mpr hf)

theorem schedActionApply_fails (hp : powerFailed s = true) : exec (.schedActionApply source num) s = .next s := by
  change execSchedActionApply source num s = _
  unfold execSchedActionApply
  rw [hm]
  exact if_pos hp

theorem schedActionApply_wakes (ht : m.type = 3) (hf : m.localF ≤ s.frame + 1) (hp : powerFailed s = false) :
    ∃ t, exec (.schedActionApply source num) s = .next t ∧ m ∉ t.slk.member ∧ (watching s = true → t.sys.wakeCause ≠ none) := by
  let u := modSlk (fun x => { x with member := x.member.filter fun (y : SchedMember) => y != m }) (if watching s then wake 3 s else s)
  have hrow : exec (.schedActionApply source num) s = .next (memberReport source num 1 u) := by
    change execSchedActionApply source num s = _
    unfold execSchedActionApply
    rw [hm]
    dsimp only
    rw [if_neg fun h => Bool.false_ne_true (hp.symm.trans h), if_neg (by rw [ht]; decide), if_pos ht]
    exact if_pos hf
  have hno : m ∉ u.slk.member := fun h => absurd rfl (bne_iff_ne.mp (List.mem_filter.mp h).2)
  have hsys : (memberReport source num 1 u).sys = u.sys := touches_memberReport.same .sys rfl
  refine ⟨_, hrow, ?_, fun hw => ?_⟩
  · rw [memberReport_member]
    exact hno
  · have hu : u.sys = (wake 3 s).sys := by
      dsimp only [u]
      rw [if_pos hw]
      rfl
    rw [hsys, hu]
    exact Option.some_ne_none _

theorem schedActionApply_steps {off imp exp : Nat} (ht : m.type = 2) (hs : (planSteps m.body)[m.steps]? = some (off, imp, exp))
    (hf : m.localF + off ≤ s.frame + 1) (hp : powerFailed s = false) (hfree : freeInternal s ≠ none) :
    ∃ t, exec (.schedActionApply source num) s = .next t ∧ { m with steps := m.steps + 1 } ∈ t.slk.member
      ∧ ∃ y ∈ t.txn.txns, y.purpose = .sched ∧ y.commitFrame = some (frameAfter s.frame 1)
        ∧ y.actions.map (fun a => a.act) = [.powerLimit 0 imp exp] := by
  let u := buildTxn .sched [.powerLimit 0 imp exp] (frameAfter s.frame 1) s
  have hrow : exec (.schedActionApply source num) s = .next (modSlk (fun x => { x with
      member := x.member.map fun (y : SchedMember) => if y = m then { m with steps := m.steps + 1 } else y }) u) := by
    change execSchedActionApply source num s = _
    unfold execSchedActionApply
    rw [hm]
    dsimp only
    rw [if_neg fun h => Bool.false_ne_true (hp.symm.trans h), if_pos ht, hs]
    exact if_pos hf
  have hslk : u.slk = s.slk := touches_buildTxn.same .slk rfl
  have hmem : m ∈ u.slk.member := by
    rw [hslk]
    exact List.mem_of_find?_eq_some hm
  obtain ⟨k, hk⟩ := Option.ne_none_iff_exists'.mp hfree
  exact ⟨_, hrow, List.mem_map.mpr ⟨m, hmem, if_pos rfl⟩, _, mem_buildTxn hk, rfl, rfl, rfl⟩

end

/-! ### Messages, keys, lists and tone maps (R445, R466, R471) -/

theorem slkSend_accepted {dest flags : Nat} {data : List Byte} (hf : fencedDomain s 9 = false) (hd : dest < 64) (ha : s.slk.align ≠ .off)
    (hn : findNode s dest ≠ none) (hdata : data ≠ []) (hlen : data.length ≤ 236) (hw : messagesWaiting s + s.due.length < 8)
    (hp : Passes h 0x5002 true true s) :
    exec (.slkSend h dest flags data) s = .next (accepted (.slkSend h dest flags data) h 0x5002 0x0100 none s) := by
  have hfen : ¬ fencedDomain s 9 = true := fun h => Bool.false_ne_true (hf.symm.trans h)
  have hroom : ¬ 8 ≤ messagesWaiting s + (s.due.filter fun (d : DueCmd) => d.opcode == 0x5002 && s.frame < d.frame).length := by
    have := List.length_filter_le (fun (d : DueCmd) => d.opcode == 0x5002 && s.frame < d.frame) s.due
    omega
  have hr : slkSendRules dest (entered h s) = .accept 0x0100 none id := by
    rw [entered_eq]
    refine (if_neg hfen).trans ((if_neg (by omega)).trans ((if_neg ha).trans ((if_neg fun h => ?_).trans (if_neg hroom))))
    exact hn (Option.isNone_iff_eq_none.mp h.2)
  have hlay : (!data.isEmpty && decide (data.length ≤ 236)) = true := by
    rw [decide_eq_true hlen, List.isEmpty_eq_false_iff.mpr hdata]
    rfl
  exact congrArg Outcome.next (hostCmd_accepts hp hlay rfl hr)

theorem applySlkSend_sends {dest flags : Nat} {data : List Byte} {n : SiteNode} (hd : dest ≠ 0xFF) (hn : findNode s dest = some n)
    (hf : flags % 2 = 0) (ha : s.slk.align ≠ .off) : (applySlkSend dest flags data s).1.slk.msgNext = (s.slk.msgNext + 1) % 65536
      ∧ ∃ p ∈ (applySlkSend dest flags data s).1.slk.pend, p.dest = dest ∧ p.type = plcMsg ∧ p.msg = some s.slk.msgNext := by
  let u := modSlk (fun x => { x with msgNext := (x.msgNext + 1) % 65536 }) s
  have hrow : (applySlkSend dest flags data s).1 = plcUnicast dest plcMsg (leBytes 2 s.slk.msgNext ++ data) (some s.slk.msgNext) u := by
    have hnode : findNode u dest = some n := hn
    unfold applySlkSend
    extract_lets k fr res w
    rw [if_neg hd, hnode]
    dsimp only
    rw [if_neg fun h => absurd h.1 (by omega)]
  obtain ⟨via, at_, k, hk⟩ := plcUnicast_slk (s := u) (dest := dest) (type := plcMsg) (body := leBytes 2 s.slk.msgNext ++ data)
    (msg := some s.slk.msgNext) ha
  rw [hrow, hk]
  exact ⟨rfl, _, List.mem_append_right _ List.mem_cons_self, rfl, rfl, rfl⟩

/-- Settles O55. -/
theorem scheduledActionsReachTheirFrame : Obligations.ScheduledActionsReachTheirFrame := by
  intro h s x
  refine ⟨fun type siteC group n body hf ha h1 h3 hn hlo hhi hg hb hd hp => slkSched_accepted hf ha h1 h3 hn hlo hhi hg hb hd hp,
    fun type siteC group body => ?_, fun num d n hd hn => ?_,
    fun source num type siteC group f body hl hg hf hroom hc ht hnew => schedActionReceived_holds hl hg hf hroom hc ht hnew,
    fun source num type siteC group body hg => schedActionReceived_other hg,
    fun source num siteC identity f hl hf hroom hc hw hi hid hnew => updateActReceived_schedules hl hf hroom hc hw hi hid hnew,
    fun source num m hm => ⟨fun hl hf => schedCancelReceived_drops hm hl hf, fun hf => schedCancelReceived_late hm hf,
      fun ht hf hp => schedActionApply_wakes hm ht hf hp, fun off imp exp ht hs hf hp hfree => schedActionApply_steps hm ht hs hf hp hfree,
      fun hp => schedActionApply_fails hm hp⟩,
    fun dest flags data hf hd ha hn hdata hlen hw hp => slkSend_accepted hf hd ha hn hdata hlen hw hp,
    fun dest flags data n hd hn hf ha => ?_, fun hf => ?_, fun key => ?_⟩
  · rw [atEdge_slkSched]
    obtain ⟨hnext, ⟨d, hmem, hnum⟩, hall⟩ := applySched_takes type siteC group body s
    exact ⟨hnext, d, hmem, hnum, hall d hmem hnum⟩
  · refine ⟨fun hf h1 h4 hc hp => slkSchedCancel_accepted hd hn hf h1 h4 hc hp, ?_,
      fun hst hc hl ha => schedDistribute_again hd hn hst hc hl ha, fun hst hl hf => schedDistribute_waits hd hn hst hl hf,
      fun hlo hc hst => schedAckDeadline_ends hd hn hlo hc hst, fun hlo hc hst => schedAckDeadline_misses hd hn hlo hc hst,
      fun hc => schedAckDeadline_waits hd hn hc, fun hst hc hall => schedOutcome_closes hd hn hst hc hall,
      fun hc => schedOutcome_waits hd hn hc⟩
    rw [atEdge_slkSchedCancel]
    exact applySchedCancel_cancels hd
  · rw [atEdge_slkSend]
    exact applySlkSend_sends hd hn hf ha
  · have hfen : ¬ fencedDomain s 9 = true := fun h => Bool.false_ne_true (hf.symm.trans h)
    have hfen' : ¬ fencedDomain (entered h s) 9 = true := by
      rw [entered_eq]
      exact hfen
    refine ⟨fun hp => congrArg Outcome.next (hostCmd_accepts hp rfl rfl (if_neg hfen')),
      fun hp => congrArg Outcome.next (hostCmd_accepts hp rfl rfl (if_neg hfen')),
      fun page hpg hp => congrArg Outcome.next (hostCmd_accepts hp rfl rfl ((if_neg hfen').trans (if_neg (Nat.not_lt.mpr hpg)))),
      fun key hk hl hp => congrArg Outcome.next (hostCmd_accepts hp (beq_iff_eq.mpr hk) rfl ((if_neg (Classical.not_not.mpr hl)).trans (if_neg hfen'))),
      fun node action hact hnode hp => ?_⟩
    have hnode' : ¬ (findNode (entered h s) node).isNone = true := by
      rw [entered_eq]
      exact fun h => hnode (Option.isNone_iff_eq_none.mp h)
    exact congrArg Outcome.next (hostCmd_accepts hp rfl rfl ((if_neg hfen').trans ((if_neg (Nat.not_lt.mpr hact)).trans (if_neg hnode'))))
  · rw [atEdge_slkKeySetX]
    rfl

end Sys2Proof.Machine
end
section
/-! PROOF. The reader of contactless cards (chapter 14). -/

namespace Sys2Proof.Machine

open Host (Outcome)

variable {s t : State} {h : Hdr} {i : Fin 8} {x : Handle}

theorem cardRec_nfc {type handle : Nat} {payload : List Byte} : (cardRec type handle payload s).nfc = s.nfc := touches_cardRec.same .nfc rfl

/-! ### Polls and cards (R476 to R480) -/

theorem fieldEnd_nfc (s : State) : (fieldEnd s).nfc = { s.nfc with field := (fieldEnd s).nfc.field } := by
  unfold fieldEnd
  split <;> rfl

theorem endPoll_ends (s : State) : (endPoll s).nfc.polling = false ∧ (endPoll s).nfc.handles = s.nfc.handles
    ∧ (endPoll s).nfc.field = (s.nfc.field && decide (0 < openHandles s)) ∧ (endPoll s).queues = s.queues := by
  have hqueues : (endPoll s).queues = s.queues := touches_endPoll.same .queues rfl
  unfold endPoll at hqueues ⊢
  generalize hu : modNfc _ s = u at hqueues ⊢
  have hfield : u.nfc.polling = false ∧ u.nfc.handles = s.nfc.handles ∧ u.nfc.field = s.nfc.field ∧ openHandles u = openHandles s := by
    rw [← hu]
    exact ⟨rfl, rfl, rfl, rfl⟩
  obtain ⟨hpoll, hhand, hf, hopen⟩ := hfield
  refine ⟨?_, ?_, ?_, hqueues⟩
  · rw [fieldEnd_nfc]
    exact hpoll
  · rw [fieldEnd_nfc]
    exact hhand
  · unfold fieldEnd
    rw [hpoll, hopen]
    by_cases h0 : 0 < openHandles s
    · rw [if_pos (.inr h0), decide_eq_true h0, hf, Bool.and_true]
    · rw [if_neg (not_or.mpr ⟨Bool.false_ne_true, h0⟩), decide_eq_false h0, Bool.and_false]
      rfl

theorem poll_ends (hr : readerOn s = true) (hp : s.nfc.polling = true) : exec (.poll []) s = .next (endPoll s) := by
  have hgo : ¬ (¬ readerOn s ∨ ¬ (s.nfc.polling ∨
      (pget s 0x5804 0 != 0 && decide (s.nfc.pollAt + pget s 0x5804 0 ≤ s.frame) && s.nfc.xchg.isNone) = true)) := by
    rintro (h | h)
    · exact h hr
    · exact h (.inl hp)
  have hrow : exec (.poll []) s = ans (endPoll (if s.nfc.polling then s else startPoll false s)) := if_neg hgo
  rw [hrow, if_pos hp]
  rfl

theorem poll_idle (hp : s.nfc.polling = false) (h0 : pget s 0x5804 0 = 0) (l : List CardAnswer) : exec (.poll l) s = .next s := by
  refine if_pos (.inr ?_)
  rintro (h | h)
  · exact Bool.false_ne_true (hp.symm.trans h)
  · rw [h0] at h
    exact Bool.false_ne_true h

theorem find?_lowest {p : Fin 8 → Bool} (hi : p i = true) (hl : ∀ j : Fin 8, j.val < i.val → p j = false) :
    (allFin 8).find? p = some i := by
  have hlen : (allFin 8).length = 8 := List.length_finRange
  have hget (j : Nat) (hj : j < (allFin 8).length) : (allFin 8)[j] = ⟨j, hlen ▸ hj⟩ := List.getElem_finRange ..
  refine List.find?_eq_some_iff_getElem.mpr ⟨hi, i.val, hlen.symm ▸ i.isLt, hget .., fun j hj => ?_⟩
  rw [hget, hl ⟨j, Nat.lt_trans hj i.isLt⟩ hj]
  rfl

theorem cardSelected_takes {c : CardAnswer} (hr : readerOn s = true) (hp : s.nfc.polling = true) (hc : c.crcOk = true)
    (hf : s.nfc.pollFound < pget s 0x5803 0) (ht : pget s 0x5801 0 / 2 ^ c.tech % 2 = 1) (hi : s.nfc.handles[i] = none)
    (hl : ∀ j : Fin 8, j.val < i.val → s.nfc.handles[j] ≠ none) :
    ∃ t, exec (.cardSelected c) s = .next t ∧ t.nfc.pollFound = s.nfc.pollFound + 1 ∧ t.nfc.handles = s.nfc.handles.set i
      (some { tech := c.tech, uid := c.uid, lastUse := s.frame, checkAt := s.frame + 800 }) := by
  have hfree : ((allFin 8).find? fun (i : Fin 8) => s.nfc.handles[i].isNone) = some i := by
    refine find?_lowest (Option.isNone_iff_eq_none.mpr hi) fun j hj => ?_
    obtain ⟨y, hy⟩ := Option.ne_none_iff_exists'.mp (hl j hj)
    rw [hy]
    rfl
  have hgo : ¬ (¬ s.nfc.polling ∨ ¬ c.crcOk ∨ pget s 0x5803 0 ≤ s.nfc.pollFound ∨ pget s 0x5801 0 / 2 ^ c.tech % 2 ≠ 1) := by
    rintro (h | h | h | h)
    · exact h hp
    · exact h hc
    · exact absurd h (Nat.not_le.mpr hf)
    · exact h ht
  have hrow : exec (.cardSelected c) s = .next (cardFound c s) := if_pos hr
  generalize hfound : cardFound c s = t at hrow
  refine ⟨t, hrow, ?_⟩
  unfold cardFound at hfound
  extract_lets free fr again sig head at hfound
  rw [show free = some i from hfree] at hfound
  dsimp -zeta only at hfound
  rw [if_neg hgo] at hfound
  extract_lets hd s1 s2 at hfound
  rw [← hfound]
  have h1 : s1.nfc.pollFound = s.nfc.pollFound + 1 ∧ s1.nfc.handles = s.nfc.handles.set i
      (some { tech := c.tech, uid := c.uid, lastUse := s.frame, checkAt := s.frame + 800 }) := ⟨rfl, rfl⟩
  clear_value s1
  have h2 : s2.nfc = s1.nfc := by
    dsimp only [s2]
    split
    · exact cardRec_nfc
    · exact (evp_nfc ..).trans cardRec_nfc
  split
  · split
    · rw [ev_nfc, h2]
      exact h1
    · rw [h2]
      exact h1
  · rw [h2]
    exact h1

/-! ### Handles (R481 to R484) -/

theorem openHandle_eq (hx : s.nfc.handles[i] = some x) : openHandle s (i.val + 1) = some i := by
  have hsome : s.nfc.handles[i].isSome = true := by
    rw [hx]
    rfl
  exact (dif_pos (show i.val + 1 - 1 < 8 from i.isLt)).trans (if_pos ⟨Nat.le_add_left 1 i.val, hsome⟩)

theorem loseHandle_loses {c : Nat} (hx : s.nfc.handles[i] = some x) : (loseHandle i c s).nfc.handles = s.nfc.handles.set i none
    ∧ ∀ y, (loseHandle i c s).nfc.xchg = some y → y.handle ≠ i.val + 1 := by
  unfold loseHandle
  rw [hx]
  extract_lets s1
  have h1 : s1.nfc.handles = s.nfc.handles ∧ ∀ y, s1.nfc.xchg = some y → y.handle ≠ i.val + 1 := by
    dsimp only [s1]
    split
    · split
      · rw [cardRec_nfc]
        exact ⟨rfl, nofun⟩
      · rename_i z hz hne
        exact ⟨rfl, fun y hy => by rwa [← Option.some.inj (hz.symm.trans hy)]⟩
    · rename_i hnone
      exact ⟨rfl, fun y hy => absurd (hnone.symm.trans hy) (Option.some_ne_none y).symm⟩
  rw [fieldEnd_nfc, cardRec_nfc]
  exact ⟨congrArg (fun v => v.set i none) h1.1, h1.2⟩

theorem presenceCheck_present (hx : s.nfc.handles[i] = some x) (hdue : x.checkAt ≤ s.frame) : exec (.presenceCheck (i.val + 1) true) s =
    .next { s with nfc := { s.nfc with handles := s.nfc.handles.set i (some { x with checkAt := s.frame + 800 }) } } := by
  change execPresenceCheck (i.val + 1) true s = _
  unfold execPresenceCheck
  rw [openHandle_eq hx]
  dsimp only
  rw [hx]
  exact (if_neg (Nat.not_lt.mpr hdue)).trans (if_pos rfl)

theorem presenceCheck_absent (hx : s.nfc.handles[i] = some x) (hdue : x.checkAt ≤ s.frame) :
    exec (.presenceCheck (i.val + 1) false) s = .next (loseHandle i 2 s) := by
  change execPresenceCheck (i.val + 1) false s = _
  unfold execPresenceCheck
  rw [openHandle_eq hx]
  dsimp only
  rw [hx]
  exact (if_neg (Nat.not_lt.mpr hdue)).trans (if_neg Bool.false_ne_true)

theorem presenceCheck_waits (hx : s.nfc.handles[i] = some x) (hdue : s.frame < x.checkAt) (b : Bool) :
    exec (.presenceCheck (i.val + 1) b) s = .next s := by
  change execPresenceCheck (i.val + 1) b s = _
  unfold execPresenceCheck
  rw [openHandle_eq hx]
  dsimp only
  rw [hx]
  exact if_pos hdue

theorem handleIdleTimeout_loses (hx : s.nfc.handles[i] = some x) (hdue : x.lastUse + pget s 0x5806 0 ≤ s.frame) (hn : s.nfc.xchg = none) :
    exec (.handleIdleTimeout (i.val + 1)) s = .next (loseHandle i 3 s) := by
  change execHandleIdleTimeout (i.val + 1) s = _
  unfold execHandleIdleTimeout
  rw [openHandle_eq hx]
  dsimp only
  rw [hx, hn]
  exact if_neg (not_or.mpr ⟨Nat.not_lt.mpr hdue, nofun⟩)

theorem handleIdleTimeout_waits (hx : s.nfc.handles[i] = some x) (hdue : s.frame < x.lastUse + pget s 0x5806 0) :
    exec (.handleIdleTimeout (i.val + 1)) s = .next s := by
  change execHandleIdleTimeout (i.val + 1) s = _
  unfold execHandleIdleTimeout
  rw [openHandle_eq hx]
  dsimp only
  rw [hx]
  exact if_pos (.inl hdue)

/-! ### Exchanges (R485) -/

/-- The reader with an exchange begun on a handle (R485). -/
def xchgBegun (i : Fin 8) (x : Handle) (data : List Byte) (s : State) : NfcSt :=
  { s.nfc with xchg := some { num := s.nfc.xchgNext, handle := i.val + 1, data := data }, xchgNext := (s.nfc.xchgNext + 1) % 65536,
               handles := s.nfc.handles.set i (some { x with lastUse := s.frame }) }

theorem nfcRdXchg_begins {data : List Byte} (hx : s.nfc.handles[i] = some x) (hf : fencedDomain s 10 = false) (hr : readerMode s = true)
    (hp : s.nfc.polling = false) (hn : s.nfc.xchg = none) (hd : data.length ≤ 256) (hpass : Passes h 0x5802 true true s) :
    exec (.nfcRdXchg h (i.val + 1) data.length data) s = .next { accepted (.nfcRdXchg h (i.val + 1) data.length data) h 0x5802 0x0100
      (some (leBytes 2 s.nfc.xchgNext ++ [0, 0])) s with nfc := xchgBegun i x data s } := by
  have hupd : upd s.nfc.handles i (fun o => o.map fun h => { h with lastUse := s.frame }) = s.nfc.handles.set i (some { x with lastUse := s.frame }) := by
    unfold upd
    rw [hx]
    rfl
  have hrules : rdXchgRules (i.val + 1) data.length data (entered h s) = .accept 0x0100 (some (leBytes 2 s.nfc.xchgNext ++ [0, 0]))
      (modNfc fun y => { y with
          xchg := some { num := s.nfc.xchgNext, handle := i.val + 1, data := data }, xchgNext := (s.nfc.xchgNext + 1) % 65536
          handles := upd y.handles i fun o => o.map fun h => { h with lastUse := s.frame } }) := by
    rw [entered_eq]
    refine (if_neg fun h => Bool.false_ne_true (hf.symm.trans h)).trans ((if_neg (Classical.not_not.mpr hr)).trans ?_)
    rw [openHandle_eq (s := { s with link := (entered h s).link }) hx]
    refine (if_neg (Nat.not_lt.mpr hd)).trans (if_neg ?_)
    rintro (h | h)
    · exact Bool.false_ne_true (hp.symm.trans h)
    · rw [hn] at h
      exact Bool.false_ne_true h
  change ans (hostCmd h 0x5802 _ (data.length == data.length) true [] _ s) = _
  rw [beq_self_eq_true data.length, hostCmd_passes hpass, hrules]
  dsimp only
  rw [accepted_eq]
  unfold modNfc xchgBegun
  dsimp only
  rw [hupd]
  rfl

theorem exchangeAnswer_ends {y : Xchg} (hy : s.nfc.xchg = some y) (st : Nat) (data : List Byte) :
    ∃ t, exec (.exchangeAnswer st data) s = .next t ∧ t.nfc.xchg = none ∧ t.nfc.mem = s.nfc.mem := by
  change ∃ t, execExchangeAnswer st data s = _ ∧ _
  unfold execExchangeAnswer
  rw [hy]
  dsimp -zeta only
  extract_lets f d s1 s2 head s3
  have h2 : s2.nfc.xchg = none ∧ s2.nfc.mem = s.nfc.mem := by
    dsimp only [s2]
    split <;> exact ⟨rfl, rfl⟩
  have h3 : s3.nfc = s2.nfc := cardRec_nfc
  refine ⟨_, rfl, ?_⟩
  split
  · rw [h3]
    exact h2
  · rw [cardRec_nfc, h3]
    exact h2

/-! ### Low-power detection (R496) -/

theorem lpPing_measures {re im : Rat} (hp : pingOn s = true) (hf : s.frame % 2000 = 5) : exec (.lpPing re im) s =
    .next (modNfc (fun n => { n with
      detuning := detuningOf s re im, detected := if pget s 0x5808 0 ≤ detuningOf s re im ∧ ¬ n.antFault then some (detuningOf s re im) else none
      detFlag := if detuningOf s re im < pget s 0x5808 0 then false else n.detFlag }) s) :=
  if_neg (not_or.mpr ⟨Classical.not_not.mpr hp, Classical.not_not.mpr hf⟩)

theorem lpCalibration_calibrates {re im : Rat} (hp : pingOn s = true) (hc : s.nfc.calReq = true) :
    exec (.lpCalibration re im) s = .next (if Config.antennaAmp * Config.antennaAmp / 4 ≤ normSq re im
        ∧ normSq re im ≤ Config.antennaAmp * Config.antennaAmp * 9 / 4 then
      modNfc (fun n => { n with refRe := re, refIm := im, antFault := false, calReq := false, calDue := s.frame + pget s 0x5809 0 }) s
      else ev 0xD7 10 0 (Nat.sqrt (normSq re im * 10000 / (Config.antennaAmp * Config.antennaAmp)).floor.toNat)
        (modNfc (fun n => { n with antFault := true, calReq := false, calDue := s.frame + pget s 0x5809 0 }) s)) := by
  have hgo : ¬ (¬ pingOn s ∨ ¬ (s.nfc.calReq || (decide (s.nfc.calDue ≤ s.frame) && openHandles s == 0)) = true) := by
    rw [hc]
    exact not_or.mpr ⟨Classical.not_not.mpr hp, Classical.not_not.mpr (Bool.true_or _)⟩
  refine (if_neg hgo).trans ?_
  rw [apply_ite Outcome.next]
  rfl

/-! ### Polls, calibration and profiles asked for (R476, R479, R496) -/

theorem nfcRdPoll_accepted (hf : fencedDomain s 10 = false) (hr : readerMode s = true) (he : s.nfc.extField = false)
    (hp : s.nfc.polling = false) (hn : s.nfc.xchg = none) (hpass : Passes h 0x5801 true true s) :
    exec (.nfcRdPoll h) s = .next (accepted (.nfcRdPoll h) h 0x5801 0x0100 none s) := by
  have hmode : ¬ (¬ readerMode s ∨ s.nfc.extField) := not_or.mpr ⟨Classical.not_not.mpr hr, fun h => Bool.false_ne_true (he.symm.trans h)⟩
  have hfree : ¬ (s.nfc.polling ∨ s.nfc.xchg.isSome) := by
    rw [hp, hn]
    exact not_or.mpr ⟨Bool.false_ne_true, Bool.false_ne_true⟩
  have hrules : rdPollRules (entered h s) = .accept 0x0100 none id := by
    rw [entered_eq]
    exact (if_neg fun h => Bool.false_ne_true (hf.symm.trans h)).trans ((if_neg hmode).trans (if_neg hfree))
  exact congrArg Outcome.next (hostCmd_accepts hpass rfl rfl hrules)

/-- Settles O56. -/
theorem cardsHoldHandles : Obligations.CardsHoldHandles := by
  intro h s n withNfc
  refine ⟨fun hr => ⟨fun l => if_pos (.inl fun h => Bool.false_ne_true (hr.symm.trans h)),
      fun c => if_neg fun h => Bool.false_ne_true (hr.symm.trans h)⟩, fun hp h0 l => poll_idle hp h0 l,
    fun hr hp => ⟨_, poll_ends hr hp, endPoll_ends s⟩, fun c i hr hp hc hf ht hi hl => cardSelected_takes hr hp hc hf ht hi hl,
    fun i x hx => ⟨fun hdue => presenceCheck_present hx hdue, fun hdue => ⟨_, presenceCheck_absent hx hdue, loseHandle_loses hx⟩,
      fun hdue b => presenceCheck_waits hx hdue b, fun hdue hn => ⟨_, handleIdleTimeout_loses hx hdue hn, (loseHandle_loses hx).1⟩,
      fun hdue => handleIdleTimeout_waits hx hdue, fun data hf hr hp hn hd hpass => nfcRdXchg_begins hx hf hr hp hn hd hpass,
      fun hf hp => ?_, ?_⟩, fun y hy => ⟨fun st data => exchangeAnswer_ends hy st data, ?_⟩, fun hn st data => ?_,
    fun re im hp hf => lpPing_measures hp hf, fun re im hno => if_pos ?_, fun re im hp hc => ?_, fun hp re im => if_pos (.inl fun h => Bool.false_ne_true (hp.symm.trans h)),
    fun hf hr => ⟨fun he hp hn hpass => nfcRdPoll_accepted hf hr he hp hn hpass, fun hpass => ?_⟩, fun hr hp => ?_, ?_,
    fun hp => congrArg Outcome.next (hostCmd_accepts hp rfl rfl rfl), fun hp => congrArg Outcome.next (hostCmd_accepts hp rfl rfl rfl),
    fun slot p hlen hp => ⟨fun ho => ?_, fun ho => ?_⟩, fun slot p => ?_⟩
  · have hrules (u : State) (hu : u = entered h s) : (if fencedDomain u 10 then no 0x4001
        else if (openHandle u (i.val + 1)).isSome then done else no 0x10D1) = Verdict.accept 0 none id := by
      rw [hu, entered_eq]
      refine (if_neg fun h => Bool.false_ne_true (hf.symm.trans h)).trans (if_pos ?_)
      rw [openHandle_eq (s := { s with link := (entered h s).link }) hx]
      rfl
    exact congrArg Outcome.next (hostCmd_accepts hp rfl rfl (hrules _ rfl))
  · rw [atEdge_nfcRdRelease]
    unfold applyRdRelease
    rw [openHandle_eq hx]
    exact (loseHandle_loses hx).1
  · rw [atEdge_nfcRdXchg]
    unfold applyRdXchg
    rw [hy]
    rfl
  · change execExchangeAnswer st data s = _
    unfold execExchangeAnswer
    rw [hn]
    rfl
  · exact hno.imp (fun h h' => Bool.false_ne_true (h.symm.trans h')) id
  · intro ref ok
    refine ⟨_, lpCalibration_calibrates hp hc, ?_⟩
    by_cases hok : ok
    · rw [if_pos hok]
      exact ⟨rfl, rfl, fun _ => ⟨rfl, rfl, rfl⟩, fun h => absurd hok h⟩
    · rw [if_neg hok, ev_nfc]
      exact ⟨rfl, rfl, fun h => absurd h hok, fun _ => ⟨rfl, rfl, rfl⟩⟩
  · have hrules (u : State) (hu : u = entered h s) : (if fencedDomain u 10 then no 0x4001 else if readerMode u then done else no 0x10D0)
        = Verdict.accept 0 none id := by
      rw [hu, entered_eq]
      exact (if_neg fun h => Bool.false_ne_true (hf.symm.trans h)).trans (if_pos hr)
    exact congrArg Outcome.next (hostCmd_accepts hpass rfl rfl (hrules _ rfl))
  · rw [atEdge_nfcRdPoll]
    exact if_pos ⟨hr, fun h => Bool.false_ne_true (hp.symm.trans h)⟩
  · rw [atEdge_nfcLpCalX]
    rfl
  · exact congrArg Outcome.next (hostCmd_accepts hp (beq_iff_eq.mpr hlen) rfl ((if_neg (Nat.not_le.mpr slot.isLt)).trans (if_pos ho)))
  · change ans (hostCmd h 0x5880 _ (p.length == 192) true [] _ s) = _
    rw [beq_iff_eq.mpr hlen, hostCmd_passes hp, if_neg (Nat.not_le.mpr slot.isLt), if_neg fun h => Bool.false_ne_true (ho.symm.trans h)]
    rfl
  · rw [atEdge_nfcSigLoadX]
    exact dif_pos slot.isLt

end Sys2Proof.Machine
end
section
/-! PROOF. The tag and its memory (chapter 14). -/

namespace Sys2Proof.Machine

open Host (Outcome)

variable {s t : State} {h : Hdr}

theorem cardRec_outbox {type handle : Nat} {payload : List Byte} : s.outbox <+: (cardRec type handle payload s).outbox :=
  pushData_outbox 3 type 10 (handle * 256) (Config.freeNat s.rnd % 2 ^ 32) payload s.draw

/-! ### Commit words examined at a start (R490) -/

/-- The tag's memory once a commit word has been examined: its write whole, or nothing (R490). -/
def rolled (w : Option TagWrite) (m : List Host.Cell) : List Host.Cell := match w with
  | some x => if x.set = true ∧ x.valid = true then memWrite m x.off x.data else m
  | none => m

theorem rollWord_nfc (code : Nat) (w : Option TagWrite) (s : State) :
    ∃ q, (rollWord code w s).nfc = { s.nfc with mem := rolled w s.nfc.mem, rollQ := q } := by
  cases w with
  | none => exact ⟨_, rfl⟩
  | some x =>
    unfold rollWord rolled
    dsimp only
    by_cases hs : x.set = true
    · rw [if_neg (Classical.not_not.mpr hs)]
      by_cases hv : x.valid = true
      · rw [if_pos hv, if_pos ⟨hs, hv⟩]
        exact ⟨_, rfl⟩
      · rw [if_neg hv, if_neg fun h => hv h.2]
        exact ⟨_, rfl⟩
    · rw [if_pos hs, if_neg fun h => hs h.1]
      exact ⟨_, rfl⟩

theorem nfcFlush_nfc (s : State) : ∃ q, (nfcFlush s).nfc = { s.nfc with rollQ := q } := by
  unfold nfcFlush
  split
  · refine foldl_keep (P := fun t : State => ∃ q, t.nfc = { s.nfc with rollQ := q }) ⟨[], rfl⟩ (fun t x ht => ?_) _
    split
    · rw [ev_nfc]
      exact ht
    · rw [ev_nfc]
      exact ht
  · exact ⟨_, rfl⟩

/-- The sequence number of a commit word, 0 with none. -/
def wordSeq (w : Option TagWrite) : Nat := (w.map (·.seq)).getD 0

theorem tagRoll_nfc (keep : Bool) (s : State) : ∃ q, (tagRoll keep s).nfc = { s.nfc with
    mem := if wordSeq (if keep then none else s.nfc.shadowH) ≤ wordSeq s.nfc.shadowF then
        rolled s.nfc.shadowF (rolled (if keep then none else s.nfc.shadowH) s.nfc.mem)
      else rolled (if keep then none else s.nfc.shadowH) (rolled s.nfc.shadowF s.nfc.mem)
    shadowF := none, shadowH := if keep then s.nfc.shadowH else none, hostBusy := if keep then s.nfc.hostBusy else false, rollQ := q } := by
  unfold tagRoll
  extract_lets host seqOf field u
  have hword (w : Option TagWrite) : seqOf w = wordSeq w := rfl
  rw [hword, hword]
  by_cases hle : wordSeq host ≤ wordSeq field
  · rw [if_pos hle, if_pos hle]
    obtain ⟨q, hq⟩ := nfcFlush_nfc (rollWord 2 field (rollWord 1 host u))
    obtain ⟨q1, h1⟩ := rollWord_nfc 1 host u
    obtain ⟨q2, h2⟩ := rollWord_nfc 2 field (rollWord 1 host u)
    refine ⟨q, ?_⟩
    rw [hq, h2, h1]
    rfl
  · rw [if_neg hle, if_neg hle]
    obtain ⟨q, hq⟩ := nfcFlush_nfc (rollWord 1 host (rollWord 2 field u))
    obtain ⟨q1, h1⟩ := rollWord_nfc 2 field u
    obtain ⟨q2, h2⟩ := rollWord_nfc 1 host (rollWord 2 field u)
    refine ⟨q, ?_⟩
    rw [hq, h2, h1]
    rfl

theorem rolled_good {w : TagWrite} (hs : w.set = true) (hv : w.valid = true) (m : List Host.Cell) :
    rolled (some w) m = memWrite m w.off w.data := if_pos ⟨hs, hv⟩

/-! ### Writes of host and phone (R486 to R489) -/

/-- A write of the phone as it begins: its shadow and its commit word (R489). -/
def phoneShadow (off : Nat) (data : List Byte) (s : State) : TagWrite := { newShadow s off data with set := true }

theorem phoneShadow_valid (off : Nat) (data : List Byte) (s : State) : (phoneShadow off data s).valid = true := beq_self_eq_true (crc32 _)

theorem nfcTagDone_copies {w : TagWrite} (hw : s.nfc.shadowH = some w) (hs : w.set = true) (hb : s.nfc.hostBusy = true) :
    ∃ u, u.nfc = { s.nfc with mem := memWrite s.nfc.mem w.off w.data, shadowH := none, hostBusy := false }
      ∧ (s.nfc.phoneWait = none → exec .nfcTagDone s = .next u)
      ∧ ∀ off data, s.nfc.phoneWait = some (off, data) → exec .nfcTagDone s = .next (beginPhone off data u) := by
  let u := ev 0xD2 10 0 w.seq (modNfc (fun n => { n with shadowH := none, hostBusy := false }) (copyShadow w s))
  have hgo : ¬ (¬ w.set ∨ ¬ s.nfc.hostBusy) := not_or.mpr ⟨Classical.not_not.mpr hs, Classical.not_not.mpr hb⟩
  have hu : u.nfc = { s.nfc with mem := memWrite s.nfc.mem w.off w.data, shadowH := none, hostBusy := false } := evp_nfc ..
  have hrow : exec .nfcTagDone s = match u.nfc.phoneWait with
      | some (off, data) => ans (beginPhone off data u)
      | none => ans u := by
    change execNfcTagDone s = _
    unfold execNfcTagDone
    rw [hw]
    exact if_neg hgo
  clear_value u
  have hwait : u.nfc.phoneWait = s.nfc.phoneWait := by rw [hu]
  rw [hwait] at hrow
  refine ⟨u, hu, fun hn => ?_, fun off data hn => ?_⟩
  · rw [hn] at hrow
    exact hrow
  · rw [hn] at hrow
    exact hrow

theorem nfcTagDone_waits (hb : s.nfc.hostBusy = false) : exec .nfcTagDone s = .next s := by
  change execNfcTagDone s = _
  unfold execNfcTagDone
  split
  · rfl
  · exact if_pos (.inr fun h => Bool.false_ne_true (hb.symm.trans h))

theorem phoneUpdateBinary_answers {w : TagWrite} (hw : s.nfc.shadowF = some w) (hs : w.set = true) (ho : tagOn s = true) :
    ∃ t c b, exec .phoneUpdateBinary s = .next t ∧ t.nfc.mem = memWrite s.nfc.mem w.off w.data ∧ t.nfc.shadowF = none
      ∧ t.nfc.phoneCnt = s.nfc.phoneCnt + 1 ∧ .phone c (withCrcA b) ∈ t.outbox ∧ b = [s.nfc.pcb, 0x90, 0x00]
      ∧ (s.sys.inReset = true → s.nfc.offWrites = none → t.nfc.offWrites = some (w.off, w.off + w.data.length, w.seq)) := by
  have hgo : ¬ (¬ w.set ∨ ¬ tagOn s) := not_or.mpr ⟨Classical.not_not.mpr hs, Classical.not_not.mpr ho⟩
  change ∃ t c b, execPhoneUpdateBinary s = _ ∧ _
  unfold execPhoneUpdateBinary
  rw [hw]
  dsimp -zeta only
  rw [if_neg hgo]
  extract_lets n u k v
  have hmem : .phone (k * 128 + if Config.freeBool u.rnd then 84 else 20) (withCrcA [s.nfc.pcb, 0x90, 0x00]) ∈ v.outbox := List.mem_append_right _ List.mem_cons_self
  by_cases hreset : v.sys.inReset = true
  · rw [if_pos hreset]
    refine ⟨_, _, _, rfl, rfl, rfl, rfl, hmem, rfl, fun _ hoff => ?_⟩
    have hnone : v.nfc.offWrites = none := hoff
    dsimp only [modNfc]
    rw [hnone]
  · rw [if_neg hreset]
    refine ⟨_, _, _, rfl, ?_, ?_, ?_, cardRec_outbox.subset hmem, rfl, fun h => absurd h hreset⟩ <;>
    · rw [cardRec_nfc]
      rfl

/-! ### Frames of a phone (R491 to R494) -/

theorem crcA_lt (bs : List Byte) : crcA bs < 2 ^ 16 := by
  unfold crcA
  extract_lets bit
  have hbit (c : Nat) (hc : c < 2 ^ 16) : bit c < 2 ^ 16 := by
    dsimp only [bit]
    split
    · exact Nat.xor_lt_two_pow (by omega) (by decide)
    · omega
  refine foldl_keep (P := fun c : Nat => c < 2 ^ 16) (by decide) (fun c b hc => ?_) bs
  have hx : Nat.xor c b.toNat < 2 ^ 16 := Nat.xor_lt_two_pow hc (Nat.lt_trans b.isLt (by decide))
  exact hbit _ (hbit _ (hbit _ (hbit _ (hbit _ (hbit _ (hbit _ (hbit _ hx)))))))

theorem withCrcA_checks {bs : List Byte} (hb : bs ≠ []) :
    (withCrcA bs).take ((withCrcA bs).length - 2) = bs
      ∧ (decide (3 ≤ (withCrcA bs).length) && leNat ((withCrcA bs).drop ((withCrcA bs).length - 2)) == crcA bs) = true := by
  have hlen : (withCrcA bs).length = bs.length + 2 := (List.length_append ..).trans (by rw [length_leBytes])
  have hpos : 0 < bs.length := List.length_pos_iff.mpr hb
  rw [hlen, Nat.add_sub_cancel]
  unfold withCrcA
  refine ⟨List.take_left' rfl, ?_⟩
  rw [List.drop_left' rfl, leNat_leBytes, Nat.mod_eq_of_lt (show crcA bs < 256 ^ 2 from crcA_lt bs), beq_self_eq_true, decide_eq_true (by omega)]
  rfl

theorem tagFrameReceived_wakes (ho : tagOn s = true) (hi : s.nfc.isoState = 0) : ∃ t, exec (.tagFrameReceived [0x26]) s = .next t
    ∧ t.nfc.isoState = 1 ∧ .phone (frameDelay [0x26] 9) [0x44, 0x00] ∈ t.outbox := by
  refine ⟨_, (if_neg (Classical.not_not.mpr ho)).trans (if_pos hi), rfl, List.mem_append_right _ List.mem_cons_self⟩

/-- What the tag does with a frame whose CRC_A holds, by its first byte (R491, R492). -/
def tagBlock (c : Nat) (frame body : List Byte) (s : State) : Outcome State Fault Refusal :=
  let dest (x : Nat) (s : State) : State := modNfc (fun n => { n with isoState := x }) s
  let st := s.nfc.isoState
  let k := 9 + Config.freeNat s.rnd
  if c = 0x50 ∧ st = 3 then ans (dest 5 s)
  else if c = 0xE0 ∧ st = 3 then
    ans (emit (.phone (k * 128 + frameDelay frame 0) (withCrcA [0x05, 0x78, 0x00, 0x70, 0x00])) (dest 4 (modNfc (fun n => { n with app := false, file := 0 }) s.draw)))
  else if c = 0xC2 ∧ st = 4 then ans (emit (.phone (k * 128 + frameDelay frame 0) (withCrcA [0xC2])) (dest 5 s.draw))
  else if (c = 0x02 ∨ c = 0x03) ∧ st = 4 then
    let pcb := body.headD 2
    let r := tagApdu (body.drop 1) (modNfc (fun n => { n with pcb := pcb }) s.draw)
    match r.1 with
    | some b => ans (emit (.phone (k * 128 + frameDelay frame 0) (withCrcA (pcb :: b))) r.2)
    | none => ans r.2
  else ans s

theorem tagFrameReceived_checked {c : Byte} {a : List Byte} (ho : tagOn s = true) (h93 : c.toNat ≠ 0x93) (h95 : c.toNat ≠ 0x95) :
    exec (.tagFrameReceived (withCrcA (c :: a))) s = tagBlock c.toNat (withCrcA (c :: a)) (c :: a) s := by
  obtain ⟨hbody, hcrc⟩ := withCrcA_checks (bs := c :: a) nofun
  have hmap : (withCrcA (c :: a)).map (·.toNat) = c.toNat :: (a ++ leBytes 2 (crcA (c :: a))).map (·.toNat) := rfl
  have hlong : (a ++ leBytes 2 (crcA (c :: a))).map (·.toNat) ≠ [] := by
    intro h
    have hlen := congrArg List.length h
    rw [List.length_map, List.length_append, length_leBytes] at hlen
    exact absurd hlen (by simp)
  have hno : ¬ ((c.toNat = 0x93 ∧ s.nfc.isoState = 1) ∨ (c.toNat = 0x95 ∧ s.nfc.isoState = 2)) := by omega
  change execTagFrameReceived (withCrcA (c :: a)) s = _
  unfold execTagFrameReceived
  rw [if_neg (Classical.not_not.mpr ho)]
  extract_lets dest st body crcOk k
  have hb : body = c :: a := hbody
  have hok : crcOk = true := by
    dsimp only [crcOk]
    rw [hb]
    exact hcrc
  clear_value body crcOk
  subst hb hok
  rw [hmap]
  split
  · rename_i h
    exact absurd (List.cons.inj h).2 hlong
  · rename_i h
    exact absurd (List.cons.inj h).2 hlong
  · rename_i c' rest h
    obtain ⟨rfl, -⟩ := List.cons.inj h
    exact (if_neg hno).trans (if_neg (Classical.not_not.mpr rfl))
  · rename_i h
    exact absurd h (List.cons_ne_nil _ _)

theorem tagFrameReceived_halts (ho : tagOn s = true) (hi : s.nfc.isoState = 3) : exec (.tagFrameReceived (withCrcA [0x50, 0x00])) s =
    .next { s with nfc := { s.nfc with isoState := 5 } } := by
  rw [tagFrameReceived_checked ho (by decide) (by decide)]
  exact if_pos ⟨rfl, hi⟩

theorem tagFrameReceived_apdu {a : List Byte} (ho : tagOn s = true) (hi : s.nfc.isoState = 4)
    (hn : (tagApdu a (modNfc (fun n => { n with pcb := 0x02 }) s.draw)).1 = none) :
    exec (.tagFrameReceived (withCrcA (0x02 :: a))) s = .next (tagApdu a (modNfc (fun n => { n with pcb := 0x02 }) s.draw)).2 := by
  rw [tagFrameReceived_checked ho (by decide) (by decide)]
  unfold tagBlock
  extract_lets dest st k pcb r
  rw [if_neg fun h => absurd h.1 (by decide), if_neg fun h => absurd h.1 (by decide), if_neg fun h => absurd h.1 (by decide),
    if_pos ⟨.inl rfl, hi⟩]
  have hr : r.1 = none := hn
  rw [hr]
  rfl

/-- UPDATE BINARY of the NDEF file, as the phone sends it (R492, R493). -/
def updateBinary (off : Nat) (data : List Byte) : List Byte :=
  [0x00, 0xD6, BitVec.ofNat 8 (off / 256), BitVec.ofNat 8 off, BitVec.ofNat 8 data.length] ++ data

theorem tagApdu_update {off : Nat} {data : List Byte} (hf : s.nfc.file = 0xE104) (hw : pbool s 0x580A 0 = true) (hd : data.length ≤ 240)
    (ho : off + data.length ≤ 6144) : tagApdu (updateBinary off data) s =
      if s.nfc.hostBusy then (none, modNfc (fun n => { n with phoneWait := some (off, data) }) s) else (none, beginPhone off data s) := by
  have hbyte (n : Nat) : (BitVec.ofNat 8 n).toNat + 256 * 0 = n % 256 := by
    rw [BitVec.toNat_ofNat]
    omega
  have h2 : u8At (updateBinary off data) 2 = off / 256 := (hbyte (off / 256)).trans (Nat.mod_eq_of_lt (by omega))
  have h3 : u8At (updateBinary off data) 3 = off % 256 := hbyte off
  have h4 : u8At (updateBinary off data) 4 = data.length := (hbyte data.length).trans (Nat.mod_eq_of_lt (by omega))
  have hdata : ((updateBinary off data).drop 5).take data.length = data := List.take_length
  have hoff : off / 256 * 256 + off % 256 = off := by omega
  have hmap : ((updateBinary off data).take 2).map (·.toNat) = [0x00, 0xD6] := rfl
  have hgo : ¬ (s.nfc.file ≠ 0xE104 ∨ ¬ pbool s 0x580A 0 ∨ ndefSize < off + data.length ∨ 240 < data.length) := by
    rintro (h | h | h | h)
    · exact h hf
    · exact h hw
    · exact absurd ho (Nat.not_le.mpr h)
    · exact absurd hd (Nat.not_le.mpr h)
  unfold tagApdu
  extract_lets p1 p2 lc d o f
  have hlc : lc = data.length := h4
  have hdat : d = data := by
    dsimp only [d]
    rw [hlc]
    exact hdata
  have ho' : o = off := by
    dsimp only [o, p1, p2]
    rw [h2, h3]
    exact hoff
  clear_value d o lc
  rw [hmap, ho', hdat, hlc]
  exact if_neg hgo

theorem tagFrameReceived_update {off : Nat} {data : List Byte} (ho : tagOn s = true) (hi : s.nfc.isoState = 4) (hf : s.nfc.file = 0xE104)
    (hw : pbool s 0x580A 0 = true) (hd : data.length ≤ 240) (hlen : off + data.length ≤ 6144) :
    exec (.tagFrameReceived (withCrcA (0x02 :: updateBinary off data))) s = .next
      (if s.nfc.hostBusy then modNfc (fun n => { n with phoneWait := some (off, data) }) (modNfc (fun n => { n with pcb := 0x02 }) s.draw)
        else beginPhone off data (modNfc (fun n => { n with pcb := 0x02 }) s.draw)) := by
  have happ := tagApdu_update (s := modNfc (fun n => { n with pcb := 0x02 }) s.draw) hf hw hd hlen
  have hnone : (tagApdu (updateBinary off data) (modNfc (fun n => { n with pcb := 0x02 }) s.draw)).1 = none := by
    rw [happ]
    split <;> rfl
  rw [tagFrameReceived_apdu ho hi hnone, happ]
  by_cases hb : s.nfc.hostBusy = true
  · rw [if_pos hb, if_pos (show (modNfc (fun n => { n with pcb := 0x02 }) s.draw).nfc.hostBusy = true from hb)]
  · rw [if_neg hb, if_neg (show ¬ (modNfc (fun n => { n with pcb := 0x02 }) s.draw).nfc.hostBusy = true from hb)]

/-! ### The field, FD and the commands (R486, R494, R495) -/

theorem nfcField_changes {b : Bool} (hb : b ≠ s.nfc.extField) : ∃ t, exec (.nfcField b) s = .next t ∧ t.nfc.extField = b ∧ t.nfc.isoState = 0
    ∧ t.nfc.app = false ∧ t.nfc.phoneWait = none ∧ t.nfc.fd = (s.nfc.fd || (b && pbool s 0x580B 0)) ∧ t.nfc.mem = s.nfc.mem := by
  change ∃ t, execNfcField b s = _ ∧ _
  unfold execNfcField
  rw [if_neg hb]
  extract_lets u v
  have hv : v.nfc.extField = b ∧ v.nfc.isoState = 0 ∧ v.nfc.app = false ∧ v.nfc.phoneWait = none
      ∧ v.nfc.fd = (s.nfc.fd || (b && pbool s 0x580B 0)) ∧ v.nfc.mem = s.nfc.mem := by
    dsimp only [v]
    by_cases hfd : b = true ∧ pbool u 0x580B 0 = true
    · rw [if_pos hfd]
      have hor : (s.nfc.fd || (b && pbool s 0x580B 0)) = true := by
        rw [hfd.1, show pbool s 0x580B 0 = true from hfd.2]
        exact Bool.or_true _
      exact ⟨rfl, rfl, rfl, rfl, hor.symm, rfl⟩
    · rw [if_neg hfd]
      have hor : (b && pbool s 0x580B 0) = false := Bool.eq_false_iff.mpr fun h => hfd (Bool.and_eq_true_iff.mp h)
      rw [hor, Bool.or_false]
      exact ⟨rfl, rfl, rfl, rfl, rfl, rfl⟩
  split
  · exact ⟨_, rfl, hv⟩
  · refine ⟨_, rfl, ?_⟩
    rw [ev_nfc]
    exact hv

theorem nfcTagWrite_begins {off : Nat} {data : List Byte} (h0 : 0 < data.length) (hd : data.length ≤ 240) (ho : off + data.length ≤ 6144)
    (hf : fencedDomain s 10 = false) (hb : s.nfc.hostBusy = false) (hp : Passes h 0x5805 true true s) :
    exec (.nfcTagWrite h 0xE104 off data.length data) s = .next { accepted (.nfcTagWrite h 0xE104 off data.length data) h 0x5805 0x0100
      (some (leBytes 4 s.nfc.seqNext)) s with nfc := { s.nfc with
        shadowH := some (newShadow s off data), hostBusy := true, seqNext := s.nfc.seqNext + 1 } } := by
  have hrange : tagRange 0xE104 off data.length = none :=
    (if_neg (not_or.mpr ⟨Nat.ne_of_gt h0, Nat.not_lt.mpr hd⟩)).trans (if_neg (Nat.not_lt.mpr ho))
  have hrules : tagWriteRules 0xE104 off data.length data (entered h s) = .accept 0x0100 (some (leBytes 4 s.nfc.seqNext))
      (modNfc fun n => { n with shadowH := some (newShadow s off data), hostBusy := true, seqNext := n.seqNext + 1 }) := by
    rw [entered_eq]
    refine (if_neg (by decide)).trans ?_
    rw [hrange]
    exact (if_neg fun h => Bool.false_ne_true (hf.symm.trans h)).trans (if_neg fun h => Bool.false_ne_true (hb.symm.trans h))
  change ans (hostCmd h 0x5805 _ (data.length == data.length) true [] _ s) = _
  rw [beq_self_eq_true data.length, hostCmd_passes hp, hrules]
  dsimp only
  rw [accepted_eq]
  rfl

/-- Settles O57. -/
theorem tagMemoryIsWrittenWhole : Obligations.TagMemoryIsWrittenWhole := by
  intro h s n good copied
  have hroll {w : TagWrite} (hw : good w) (m : List Host.Cell) : rolled (some w) m = copied w m := rolled_good hw.1 hw.2 m
  refine ⟨fun w v hw hv gw gv hb => ?_, fun v hv hb gv => ?_, fun hv hbad => ?_, fun w hw hset hb => ?_, nfcTagDone_waits,
    fun w hw hset ho => phoneUpdateBinary_answers hw hset ho, fun ho => ⟨?_, fun f => if_pos fun h => Bool.false_ne_true (ho.symm.trans h)⟩,
    fun ho hi => tagFrameReceived_wakes ho hi, fun ho hi => tagFrameReceived_halts ho hi, fun off data ho hi hf hw hd hlen => ?_,
    fun b hb => nfcField_changes hb, if_pos rfl, ?_, fun file off len hr hp => ?_,
    fun off data h0 hd ho hf hb hp => nfcTagWrite_begins h0 hd ho hf hb hp, fun off len data => ?_⟩
  · obtain ⟨q, hq⟩ := tagRoll_nfc s.nfc.hostBusy s
    rw [show s.nfc.hostBusy = false from hb, show s.nfc.shadowH = some w from hw, show s.nfc.shadowF = some v from hv] at hq
    refine ⟨tagRoll s.nfc.hostBusy s, rfl, ?_⟩
    rw [show s.nfc.hostBusy = false from hb, hq, ← hroll gv, ← hroll gw, ← hroll gw, ← hroll gv]
    exact ⟨rfl, rfl, rfl⟩
  · obtain ⟨q, hq⟩ := tagRoll_nfc s.nfc.hostBusy s
    rw [show s.nfc.hostBusy = true from hb, show s.nfc.shadowF = some v from hv] at hq
    refine ⟨tagRoll s.nfc.hostBusy s, rfl, ?_⟩
    have hle : wordSeq (if true then none else s.nfc.shadowH) ≤ wordSeq (some v) := Nat.zero_le _
    rw [show s.nfc.hostBusy = true from hb, hq]
    refine ⟨?_, rfl, rfl⟩
    rw [if_pos hle]
    exact hroll gv _
  · obtain ⟨q, hq⟩ := tagRoll_nfc s.nfc.hostBusy s
    have hhost : rolled (if s.nfc.hostBusy then none else s.nfc.shadowH) s.nfc.mem = s.nfc.mem := by
      split
      · rfl
      · cases hw : s.nfc.shadowH with
        | none => rfl
        | some w =>
          refine if_neg fun hg => ?_
          rcases hbad w hw with hno | hno
          · exact Bool.false_ne_true (hno.symm.trans hg.1)
          · exact Bool.false_ne_true (hno.symm.trans hg.2)
    refine ⟨tagRoll s.nfc.hostBusy s, rfl, ?_⟩
    rw [hq, show s.nfc.shadowF = none from hv]
    change (if _ then rolled (if s.nfc.hostBusy then none else s.nfc.shadowH) s.nfc.mem
      else rolled (if s.nfc.hostBusy then none else s.nfc.shadowH) s.nfc.mem) = s.nfc.mem
    rw [hhost]
    exact ite_self _
  · obtain ⟨u, hu, hnone, hsome⟩ := nfcTagDone_copies hw hset hb
    refine ⟨fun hn => ⟨u, hnone hn, ?_⟩, fun off data hn => ⟨beginPhone off data u, phoneShadow off data u, hsome off data hn, ?_⟩⟩
    · rw [hu]
      exact ⟨rfl, rfl, rfl, rfl⟩
    · have hmem : u.nfc.mem = copied w n.mem ∧ u.nfc.seqNext = n.seqNext := by
        rw [hu]
        exact ⟨rfl, rfl⟩
      exact ⟨hmem.1, rfl, rfl, rfl, hmem.2, ⟨rfl, phoneShadow_valid ..⟩, congrArg (· + 1) hmem.2⟩
  · change execPhoneUpdateBinary s = _
    unfold execPhoneUpdateBinary
    split
    · rfl
    · exact if_pos (.inr fun h => Bool.false_ne_true (ho.symm.trans h))
  · intro f
    have hrow : exec (.tagFrameReceived f) s = _ := tagFrameReceived_update ho hi hf hw hd hlen
    refine ⟨fun hb => ?_, fun hb => ?_⟩
    · rw [if_neg fun h => Bool.false_ne_true (hb.symm.trans h)] at hrow
      exact ⟨_, phoneShadow off data _, hrow, rfl, rfl, rfl, ⟨rfl, phoneShadow_valid ..⟩, rfl⟩
    · rw [if_pos hb] at hrow
      exact ⟨_, hrow, rfl, rfl, rfl⟩
  · change execFdRelease s = _
    unfold execFdRelease
    rw [apply_ite Outcome.next]
    rfl
  · have hrules : (match tagRange file off len with
        | some d => no d
        | none => done) = Verdict.accept 0 none id := by rw [hr]; rfl
    exact congrArg Outcome.next (hostCmd_accepts hp rfl rfl hrules)
  · rw [atEdge_nfcTagWrite]
    rfl

end Sys2Proof.Machine
end
section
/-! PROOF. The legal display (chapter 15). -/

namespace Sys2Proof.Machine

open Host (Outcome)

variable {s t : State} {h : Hdr}

/-! ### Composition and the check screen (R505, R511) -/

theorem legalComposition_composes (hc : composes s = true) (hn : s.dsp.next = none) (hr : s.dsp.showReq = none) (he : s.dsp.checkEnd = none)
    (hgo : s.frame % 8000 = 0 ∨ s.dsp.wantComp = true ∨ s.dsp.shown = false) : exec .legalComposition s =
      .next (modDsp (fun d => { d with next := some (compose false false s), wantComp := false }) s) := by
  have hdue : ¬ (¬ composes s ∨ s.dsp.next.isSome ∨ ¬ ((s.dsp.showReq.any fun f => decide (f < s.frame)) = true
      ∨ (s.frame % 8000 == 0) = true ∨ s.dsp.wantComp ∨ ¬ s.dsp.shown)) := by
    rintro (h | h | h)
    · exact h hc
    · rw [hn] at h
      exact Bool.false_ne_true h
    · refine h (.inr ?_)
      rcases hgo with h1 | h1 | h1
      · exact .inl (beq_iff_eq.mpr h1)
      · exact .inr (.inl h1)
      · exact .inr (.inr fun h2 => Bool.false_ne_true (h1.symm.trans h2))
  change execLegalComposition s = _
  unfold execLegalComposition
  extract_lets d ask edge excess check c
  rw [if_neg hdue]
  have hask : ask = false := by
    dsimp only [ask, d]
    rw [hr]
    rfl
  have hcheck : check = false := by
    dsimp only [check, d]
    rw [hask, he]
    rfl
  have hcomp : c = compose false false s := by
    dsimp only [c]
    rw [hcheck, hask]
  rw [hcheck, hask, hcomp]
  refine congrArg (fun x => Outcome.next { s with dsp := x }) ?_
  exact congrArg (fun e => { s.dsp with next := some (compose false false s), wantComp := false, checkEnd := e }) he.symm

theorem legalComposition_check {f : Nat} (hc : composes s = true) (hn : s.dsp.next = none) (hr : s.dsp.showReq = some f) (hf : f < s.frame) :
    exec .legalComposition s =
      .next (modDsp (fun d => { d with next := some (compose true true s), wantComp := false, showReq := none }) s) := by
  have hask : (s.dsp.showReq.any fun f => decide (f < s.frame)) = true := by
    rw [hr]
    exact decide_eq_true hf
  have hdue : ¬ (¬ composes s ∨ s.dsp.next.isSome ∨ ¬ ((s.dsp.showReq.any fun f => decide (f < s.frame)) = true
      ∨ (s.frame % 8000 == 0) = true ∨ s.dsp.wantComp ∨ ¬ s.dsp.shown)) := by
    rintro (h | h | h)
    · exact h hc
    · rw [hn] at h
      exact Bool.false_ne_true h
    · exact h (.inl hask)
  change execLegalComposition s = _
  unfold execLegalComposition
  extract_lets d ask edge excess check c
  rw [if_neg hdue]
  have hask' : ask = true := hask
  have hcheck : check = true := by
    dsimp only [check]
    rw [hask']
    exact Bool.true_or _
  have hcomp : c = compose true true s := by
    dsimp only [c]
    rw [hcheck, hask']
  rw [hcheck, hask', hcomp]
  rfl

theorem legalComposition_waits (hno : composes s = false ∨ s.dsp.next ≠ none) : exec .legalComposition s = .next s := by
  refine if_pos ?_
  rcases hno with h | h
  · exact .inl fun h' => Bool.false_ne_true (h.symm.trans h')
  · exact .inr (.inl (Option.isSome_iff_ne_none.mpr h))

theorem checkScreenEnd_eq {e : Nat} (he : s.dsp.checkEnd = some e) : exec .checkScreenEnd s =
    .next (if e ≤ s.frame then modDsp (fun d => { d with checkEnd := none }) s else s) := by
  change execCheckScreenEnd s = _
  unfold execCheckScreenEnd
  rw [he]
  by_cases hdue : e ≤ s.frame
  · rw [if_pos hdue]
    exact if_pos (decide_eq_true hdue)
  · rw [if_neg hdue]
    exact if_neg fun h => hdue (of_decide_eq_true h)

/-! ### The CRC check, the bias and the map (R507 to R509, R516) -/

theorem dspCrcOk_waits (hno : s.dsp.blank = false ∨ s.dsp.okRun < 8) : exec .dspCrcOk s = .next s := by
  refine if_neg ?_
  rintro ⟨hb, hrun⟩
  rcases hno with h | h
  · exact Bool.false_ne_true (h.symm.trans hb)
  · exact absurd hrun (Nat.not_le.mpr h)

theorem dspBiasFault_eq (s : State) : exec .dspBiasFault s =
    .next (if 80 ≤ s.dsp.biasRun then ev 0xE2 11 0 s.dsp.vlcd (modDsp (fun d => { d with biasRun := 0 }) s) else s) := by
  change execDspBiasFault s = _
  unfold execDspBiasFault
  rw [apply_ite Outcome.next]
  rfl

theorem mapChunkTimeout_eq (hg : s.dsp.mapLoad.got ≠ []) : exec .mapChunkTimeout s =
    .next (if s.dsp.mapLoad.last + 8000 < s.frame then modDsp (fun d => { d with mapLoad := { broken := true } }) s else s) := by
  change execMapChunkTimeout s = _
  unfold execMapChunkTimeout
  by_cases hdue : s.dsp.mapLoad.last + 8000 < s.frame
  · rw [if_pos hdue]
    exact if_neg (not_or.mpr ⟨fun h => hg (List.isEmpty_iff.mp h), Nat.not_le.mpr hdue⟩)
  · rw [if_neg hdue]
    exact if_pos (.inr (Nat.not_lt.mp hdue))

theorem dspMapLoadX_eq {chunk : Nat} {data : List Byte} (hf : fencedDomain s 11 = false) (hc : chunk ≤ 11) (hd : data.length = 256)
    (hp : Passes h 0x6080 true true s) : exec (.dspMapLoadX h chunk data) s = .next (if s.dsp.mapLoad.broken then
        refuseNow h 0x6080 0x10E0 [] (modDsp (fun d => { d with mapLoad := {} }) (entered h s))
      else modDsp (fun d => { d with mapLoad := partsPut s.frame 12 (chunk + 1) data s.dsp.mapLoad })
        (accepted (.dspMapLoadX h chunk data) h 0x6080 0 none s)) := by
  have hrules : mapLoadRules chunk data (entered h s) = if s.dsp.mapLoad.broken then
        .reject 0x10E0 [] (modDsp fun d => { d with mapLoad := {} })
      else .accept 0 none (modDsp fun d => { d with mapLoad := partsPut s.frame 12 (chunk + 1) data s.dsp.mapLoad }) := by
    rw [entered_eq]
    exact (if_neg (Nat.not_lt.mpr hc)).trans (if_neg fun h => Bool.false_ne_true (hf.symm.trans h))
  change ans (hostCmd h 0x6080 _ (data.length == 256) true [] _ s) = _
  rw [beq_iff_eq.mpr hd, hostCmd_passes hp, hrules]
  by_cases hb : s.dsp.mapLoad.broken = true
  · rw [if_pos hb, if_pos hb]
    rfl
  · rw [if_neg hb, if_neg hb]
    rfl

/-! ### The Opal window (R501, R508, R517) -/

theorem memRead_memWrite {m : List Host.Cell} (x : Nat) (b : List Byte) (hm : memWf m = true) : memRead (memWrite m x b) x b.length = b := by
  unfold memRead
  refine List.ext_getElem ((List.length_map ..).trans List.length_range) fun i hi hi' => ?_
  rw [List.getElem_map, List.getElem_range, memGet_memWrite x b (x + i) hm, if_pos ⟨Nat.le_add_right x i, Nat.add_lt_add_left hi' x⟩, Nat.add_sub_cancel_left,
    List.getD_eq_getElem?_getD, List.getElem?_eq_getElem hi', Option.getD_some]

theorem dspRead_accepted {row count : Nat} (h0 : 0 < count) (h16 : count ≤ 16) (hr : row + count ≤ 64) (hp : Passes h 0x6002 true true s) :
    exec (.dspRead h row count) s = .next (accepted (.dspRead h row count) h 0x6002 0 none s) :=
  congrArg Outcome.next (hostCmd_accepts hp rfl rfl ((if_neg (by omega)).trans (if_neg (by omega))))

theorem dspWrite_accepted {row count : Nat} {data : List Byte} (h0 : 0 < count) (h16 : count ≤ 16) (hr : row + count ≤ 64)
    (hd : data.length = 48 * count) (hrow : 16 ≤ row) (hf : fencedDomain s 11 = false) (hp : Passes h 0x6001 true true s) :
    exec (.dspWrite h row count data) s = .next (accepted (.dspWrite h row count data) h 0x6001 0 none s) := by
  have hrules : dspWriteRules row count (entered h s) = .accept 0 none id := by
    rw [entered_eq]
    exact (if_neg (by omega)).trans ((if_neg (by omega)).trans ((if_neg (by omega)).trans
      (if_neg fun h => Bool.false_ne_true (hf.symm.trans h))))
  exact congrArg Outcome.next (hostCmd_accepts hp (beq_iff_eq.mpr hd) rfl hrules)

theorem dspWrite_legal {row count : Nat} {data : List Byte} (hd : data.length = 48 * count) (hrow : row < 16)
    (hp : Passes h 0x6001 true true s) : exec (.dspWrite h row count data) s = .next (refused h 0x6001 0x13E0 [] s) := by
  have hrules : dspWriteRules row count (entered h s) = .refuse 0x13E0 [] := if_pos hrow
  change ans (hostCmd h 0x6001 _ (data.length == 48 * count) true [] _ s) = _
  rw [beq_iff_eq.mpr hd, hostCmd_passes hp, hrules]
  rfl

theorem applyDspWrite_writes {row count : Nat} {data : List Byte} (hd : data.length = 48 * count) (hm : memWf s.dsp.mem = true) :
    memRead (applyDspWrite row data s).dsp.mem (48 * row) (48 * count) = data
      ∧ ∀ a, a < 48 * row ∨ 48 * (row + count) ≤ a → memGet (applyDspWrite row data s).dsp.mem a = memGet s.dsp.mem a := by
  constructor
  · rw [← hd]
    exact memRead_memWrite (48 * row) data hm
  · intro a ha
    refine (memGet_memWrite (48 * row) data a hm).trans (if_neg ?_)
    omega

/-- Settles O58. -/
theorem legalRowsAreOnyxs : Obligations.LegalRowsAreOnyxs := by
  intro h s d withDsp
  refine ⟨fun hc hn => ⟨fun hr he hgo => legalComposition_composes hc hn hr he hgo, fun f hr hf => legalComposition_check hc hn hr hf⟩,
    legalComposition_waits, fun e he => checkScreenEnd_eq he, fun hb hrun => if_pos ⟨hb, hrun⟩, dspCrcOk_waits, dspBiasFault_eq s,
    fun hg => mapChunkTimeout_eq hg, fun hp => congrArg Outcome.next (hostCmd_accepts hp rfl rfl rfl),
    fun row count h0 h16 hr => ⟨fun hp => dspRead_accepted h0 h16 hr hp, fun u => rfl,
      fun data hd hp => ⟨fun hrow hf => dspWrite_accepted h0 h16 hr hd hrow hf hp, fun hrow => dspWrite_legal hd hrow hp⟩,
      fun data u hd hm => ?_⟩,
    fun hf => ⟨fun hp => ?_, fun chunk data hc hd hp => ⟨fun hb => ?_, fun hb => ?_⟩⟩, fun chunk data => ?_⟩
  · intro t
    have ht : t = applyDspWrite row data u := atEdge_dspWrite ..
    obtain ⟨h1, h2⟩ := applyDspWrite_writes (s := u) (row := row) hd hm
    rw [ht]
    exact ⟨h1, h2, rfl, rfl, rfl⟩
  · have hrules (u : State) (hu : u = entered h s) : (if fencedDomain u 11 then no 0x4001
        else Verdict.accept 0 none (modDsp fun d => { d with showReq := some s.frame }))
        = Verdict.accept 0 none (modDsp fun d => { d with showReq := some s.frame }) := by
      rw [hu, entered_eq]
      exact if_neg fun h => Bool.false_ne_true (hf.symm.trans h)
    change ans (hostCmd ..) = _
    rw [hostCmd_passes hp, hrules _ rfl]
    dsimp only
    rw [accepted_eq]
    rfl
  · rw [dspMapLoadX_eq hf hc hd hp, if_neg fun h => Bool.false_ne_true (hb.symm.trans h), accepted_eq]
    rfl
  · rw [dspMapLoadX_eq hf hc hd hp, if_pos hb, entered_eq]
    rfl
  · rw [atEdge_dspMapLoadX]
    rfl

end Sys2Proof.Machine
end

section
/-! SETTLED. Faults and containment (chapter 16): a fence that ends a move writes the parameters of its groups back. -/

namespace Sys2Proof.Machine

open Host (Outcome)

/-- A move towards outlet 0 whose group 0 has left outlet 1. -/
def betweenOutlets : Move :=
  { target := some 0, groups := [0], old := [1], close := [], opens := [], phase := .tieClose, start := 0 }

/-- A fault of outlet 0's domain whose fence was built in frame 2. -/
def builtFault : PendFault := { cause := 0x41, permanent := false, frame := 1, built := some 2 }

/-- Outlet 0 in the frame its fence applies, with a move towards it under way. -/
def fencedInMove : State :=
  { State.reset with
    frame := 5
    pool := { State.reset.pool with moves := State.reset.pool.moves.set 0 (some betweenOutlets) }
    flt := { State.reset.flt with domains := State.reset.flt.domains.set 0 { fault := some builtFault } } }

/-- The fence ends the move, and the move's end writes outlet 1 back as the outlet of group 0. -/
theorem fltFence_writesParams : ∃ t, exec (.fltFence 0) fencedInMove = .next t ∧ t.params = [(0x1804 * 256, 1)] :=
  ⟨_, rfl, rfl⟩

/-- Refutes O59: a fence of an outlet ends the moves that use it (outcome 6), and the end of a move puts the parameter 0x1804 of its
groups back to the outlet they came from, so the frame a domain is fenced may write a parameter; the clause of FLT_FENCE says that
none is written. -/
theorem not_faultsFenceRetireAndReturn : ¬ Obligations.FaultsFenceRetireAndReturn := by
  unfold Obligations.FaultsFenceRetireAndReturn
  intro h
  obtain ⟨-, -, hfence, -⟩ := h {} fencedInMove
  obtain ⟨t, ht, -, -, -, -, -, -, hparams⟩ := (hfence 0 builtFault 2 rfl rfl).2 (by decide)
  obtain ⟨u, hu, hwritten⟩ := fltFence_writesParams
  obtain rfl : t = u := Outcome.next.inj (ht.symm.trans hu)
  exact absurd (hparams.symm.trans hwritten) (by decide)

end Sys2Proof.Machine

end

section
/-! PROOF. The frames of the power groups and their ports (R205 to R208, R213 to R215, R589). -/

namespace Sys2Proof.Machine

open Host (Outcome)

variable {s t u : State} {g : Fin 16}

/-! ### Parameters below the served outlets -/

/-- A key that is found bounds what a removal further up can reach. -/
theorem storeGet_storeDel_below {m : List (Nat × Nat)} {x y z w : Nat} (hxy : x ≤ y) (hyz : y < z) (hw : storeGet m y = some w) :
    storeGet (storeDel m z) x = storeGet m x := by
  induction m with
  | nil => cases hw
  | cons c r ih =>
    obtain ⟨k, v⟩ := c
    have hk : k ≤ y := by
      refine Nat.not_lt.mp fun hk => ?_
      rw [storeGet, if_neg (by omega), if_pos (by omega)] at hw
      cases hw
    rw [storeDel, if_neg (by omega), if_neg (by omega), storeGet, storeGet]
    by_cases hy : k = y
    · by_cases hx : k = x
      · rw [if_pos hx, if_pos hx]
      · rw [if_neg hx, if_neg hx, if_pos (by omega), if_pos (by omega)]
    · rw [storeGet, if_neg hy, if_neg (by omega)] at hw
      rw [ih hw]

theorem storeGet_storePut_below {m : List (Nat × Nat)} {x y id inst v w : Nat} (hxy : x ≤ y) (hy : y < pkey id inst)
    (hw : storeGet m y = some w) : storeGet (storePut m id inst v) x = storeGet m x := by
  unfold storePut
  split
  · exact storeGet_storeDel_below hxy hy hw
  · exact storeGet_storeSet_other v (by omega)

/-- Below a parameter that stands in the first store, the second store reads the same, short of the outlets that groups serve. -/
def LowSame (m n : List (Nat × Nat)) : Prop :=
  ∀ x y w, x ≤ y → y < pkey 0x1804 0 → storeGet m y = some w → storeGet n x = storeGet m x

theorem LowSame.refl (m : List (Nat × Nat)) : LowSame m m := fun _ _ _ _ _ _ => rfl

theorem LowSame.trans {l m n : List (Nat × Nat)} (h : LowSame l m) (k : LowSame m n) : LowSame l n := fun x y w hxy hy hw =>
  (k x y w hxy hy ((h y y w (Nat.le_refl _) hy hw).trans hw)).trans (h x y w hxy hy hw)

theorem lowSame_serve (m : List (Nat × Nat)) (inst v : Nat) : LowSame m (storePut m 0x1804 inst v) := fun _ _ _ hxy hy hw =>
  storeGet_storePut_below hxy (Nat.lt_of_lt_of_le hy (by unfold pkey; omega)) hw

/-- A group with a profile has its profile parameter in the store. -/
theorem storeGet_profile {p : List Byte} (hp : pgProfile s g = some p) : ∃ w, storeGet s.params (pkey 0x1802 g) = some w := by
  cases hw : storeGet s.params (pkey 0x1802 g) with
  | some w => exact ⟨w, rfl⟩
  | none =>
    have hdefault : pget s 0x1802 g = 255 := by
      unfold pget
      rw [if_neg (by decide), hw]
      rfl
    unfold pgProfile at hp
    rw [hdefault] at hp
    cases hp

theorem LowSame.port {p : List Byte} (h : LowSame s.params t.params) (hp : pgProfile s g = some p) :
    pget t 0x1801 g = pget s 0x1801 g := by
  obtain ⟨w, hw⟩ := storeGet_profile hp
  unfold pget
  rw [if_neg (by decide), if_neg (by decide), h (pkey 0x1801 g) (pkey 0x1802 g) w (by unfold pkey; omega) (by unfold pkey; omega) hw]

/-! ### What the end of a move leaves of the groups -/

/-- A group of which only the setpoint changed. -/
def SetpointOnly (x y : PowerGroup) : Prop := y = { x with spMv := y.spMv, spMa := y.spMa, changed := y.changed, sendNow := y.sendNow }

/-- What the last status frame of a group said. -/
def statusOf (x : PowerGroup) : Option Nat × Int × Int × Int × Int := (x.lastOk, x.f3, x.f4, x.f5, x.f6)

theorem SetpointOnly.refl (x : PowerGroup) : SetpointOnly x x := rfl

theorem SetpointOnly.trans {x y z : PowerGroup} (h : SetpointOnly x y) (k : SetpointOnly y z) : SetpointOnly x z := by
  unfold SetpointOnly at *
  rw [k, h]

theorem SetpointOnly.st {x y : PowerGroup} (h : SetpointOnly x y) : y.st = x.st := by rw [h]

theorem SetpointOnly.ramp {x y : PowerGroup} (h : SetpointOnly x y) : y.ramp = x.ramp := by rw [h]

theorem SetpointOnly.status {x y : PowerGroup} (h : SetpointOnly x y) : statusOf y = statusOf x := by
  rw [h]
  rfl

/-- The effect that ending moves may have on groups, ports and parameters. -/
structure MovesEnded (s t : State) : Prop where
  groups : ∀ j : Fin 16, SetpointOnly s.pool.groups[j] t.pool.groups[j]
  ports  : t.pool.ports = s.pool.ports
  params : LowSame s.params t.params

theorem MovesEnded.refl (s : State) : MovesEnded s s := ⟨fun _ => .refl _, rfl, .refl _⟩

theorem MovesEnded.trans (h : MovesEnded s t) (k : MovesEnded t u) : MovesEnded s u :=
  ⟨fun j => (h.groups j).trans (k.groups j), k.ports.trans h.ports, h.params.trans k.params⟩

theorem movesEnded_pgSet (i : Fin 16) (mV : Nat) (mA : Int) (now : Bool) (s : State) : MovesEnded s (pgSet i mV mA now s) where
  groups j := by
    by_cases hj : j = i
    · subst hj
      unfold SetpointOnly
      rw [show (pgSet j mV mA now s).pool.groups[j] = _ from upd_self ..]
    · unfold SetpointOnly
      rw [show (pgSet i mV mA now s).pool.groups[j] = s.pool.groups[j] from upd_other hj]
  ports := rfl
  params := .refl _

theorem movesEnded_moveEnd (m : Fin 4) (outcome check : Nat) (s : State) : MovesEnded s (moveEnd m outcome check s) := by
  unfold moveEnd
  split
  · exact .refl s
  · rename_i mv
    extract_lets s1 s2
    have h1 : MovesEnded s s1 := ⟨fun _ => .refl _, rfl, .refl _⟩
    have hback (u : State) (x : Fin 16 × Nat) (hu : MovesEnded s u) : MovesEnded s (pgSet x.1 0 0 true (pset 0x1804 x.1 x.2 u)) := by
      have hput : MovesEnded u (pset 0x1804 x.1 x.2 u) := ⟨fun _ => .refl _, rfl, lowSame_serve _ _ _⟩
      exact (hu.trans hput).trans (movesEnded_pgSet x.1 0 0 true _)
    have h2 : MovesEnded s s2 := by
      change MovesEnded s (if 2 ≤ outcome then _ else _)
      split
      · exact foldl_keep h1 hback _
      · exact h1
    exact ⟨fun j => by rw [ev_pool]; exact h2.groups j, by rw [ev_pool]; exact h2.ports, by rw [ev_params]; exact h2.params⟩

/-! ### A change of state, a failure -/

theorem pgTo_pool (i : Fin 16) (st : PgState) (s : State) : (pgTo i st s).pool = (if s.pool.groups[i].st = st then s.pool
    else (modPg i (fun p => { p with st := st, absentAt := if st = .absent then some s.frame else p.absentAt }) s).pool) := by
  unfold pgTo
  split
  · rfl
  · exact ev_pool ..

theorem pgTo_params (i : Fin 16) (st : PgState) (s : State) : (pgTo i st s).params = s.params := touches_pgTo.same .params rfl

theorem pgTo_ports (i : Fin 16) (st : PgState) (s : State) : (pgTo i st s).pool.ports = s.pool.ports := by
  rw [pgTo_pool]
  split <;> rfl

@[simp] theorem pgTo_st (i : Fin 16) (st : PgState) (s : State) : (pgTo i st s).pool.groups[i].st = st := by
  rw [pgTo_pool]
  split
  · assumption
  · exact congrArg PowerGroup.st (upd_self ..)

theorem pgTo_other {i j : Fin 16} (hj : j ≠ i) (st : PgState) (s : State) : (pgTo i st s).pool.groups[j] = s.pool.groups[j] := by
  rw [pgTo_pool]
  split
  · rfl
  · exact upd_other hj

/-- A change of state leaves a group's readings, its setpoint, its ramp. -/
theorem pgTo_keeps {β : Type} (f : PowerGroup → β) (hf : ∀ (x : PowerGroup) a b, f { x with st := a, absentAt := b } = f x)
    (i j : Fin 16) (st : PgState) (s : State) : f (pgTo i st s).pool.groups[j] = f s.pool.groups[j] := by
  rw [pgTo_pool]
  split
  · rfl
  · exact upd_keeps f _ _ _ fun x => hf x _ _

theorem modPg_self (i : Fin 16) (f : PowerGroup → PowerGroup) (s : State) : (modPg i f s).pool.groups[i] = f s.pool.groups[i] :=
  upd_self ..

theorem modPg_other {i j : Fin 16} (hj : j ≠ i) (f : PowerGroup → PowerGroup) (s : State) :
    (modPg i f s).pool.groups[j] = s.pool.groups[j] := upd_other hj

/-- What the failure of a group that may fail does, short of the end of its move. -/
structure Failed (g : Fin 16) (s u : State) : Prop where
  st     : u.pool.groups[g].st = .failed
  ramp   : u.pool.groups[g].ramp = none
  status : statusOf u.pool.groups[g] = statusOf s.pool.groups[g]
  other  : ∀ j, j ≠ g → u.pool.groups[j] = s.pool.groups[j]
  ports  : u.pool.ports = s.pool.ports
  params : u.params = s.params

theorem failGroup_of_running (id arg : Nat) (hu : s.pool.groups[g].st ≠ .unconfigured) (hf : s.pool.groups[g].st ≠ .failed) :
    ∃ u, Failed g s u ∧ MovesEnded u (failGroup g id arg s) := by
  unfold failGroup
  rw [if_neg (not_or.mpr ⟨hu, hf⟩)]
  extract_lets dom s1 s2 s3 s4
  have h1 : s1.pool = s.pool := ev_pool ..
  have h2 : s2.pool.ports = s.pool.ports := (pgTo_ports ..).trans (congrArg PoolSt.ports h1)
  have h4 : s4.pool = s3.pool := touches_objFailure.same .pool rfl
  have hp2 : s2.params = s.params := (pgTo_params ..).trans (ev_params ..)
  have hp4 : s4.params = s3.params := touches_objFailure.same .params rfl
  have hself : s3.pool.groups[g] = { s2.pool.groups[g] with recovRun := 0, devRun := 0, ramp := none, hostSp := false } := modPg_self ..
  have hfailed : Failed g s s4 :=
    { st := by rw [h4, hself]; exact pgTo_st ..
      ramp := by rw [h4, hself]
      status := by
        rw [h4, hself]
        exact (pgTo_keeps statusOf (fun _ _ _ => rfl) ..).trans (by rw [h1])
      other := fun j hj => by rw [h4, modPg_other hj, pgTo_other hj, h1]
      ports := by rw [h4]; exact h2
      params := hp4.trans hp2 }
  refine ⟨s4, hfailed, ?_⟩
  split
  · exact .refl _
  · split
    · split
      · exact movesEnded_moveEnd ..
      · exact .refl _
    · exact .refl _

theorem failGroup_st (id arg : Nat) (hu : s.pool.groups[g].st ≠ .unconfigured) :
    (failGroup g id arg s).pool.groups[g].st = .failed := by
  by_cases hf : s.pool.groups[g].st = .failed
  · rw [show failGroup g id arg s = s from if_pos (.inr hf)]
    exact hf
  · obtain ⟨u, hfail, hmoves⟩ := failGroup_of_running id arg hu hf
    exact (hmoves.groups g).st.trans hfail.st

/-- A failure leaves the state of every other group, the readings of all, the ports. -/
structure OthersKept (g : Fin 16) (s t : State) : Prop where
  other  : ∀ j, j ≠ g → t.pool.groups[j].st = s.pool.groups[j].st
  status : ∀ j : Fin 16, statusOf t.pool.groups[j] = statusOf s.pool.groups[j]
  ports  : t.pool.ports = s.pool.ports
  params : LowSame s.params t.params

theorem failGroup_others (g : Fin 16) (id arg : Nat) (s : State) : OthersKept g s (failGroup g id arg s) := by
  by_cases hrun : s.pool.groups[g].st = .unconfigured ∨ s.pool.groups[g].st = .failed
  · rw [show failGroup g id arg s = s from if_pos hrun]
    exact ⟨fun _ _ => rfl, fun _ => rfl, rfl, .refl _⟩
  · obtain ⟨hu, hf⟩ := not_or.mp hrun
    obtain ⟨u, hfail, hmoves⟩ := failGroup_of_running id arg hu hf
    refine ⟨fun j hj => ?_, fun j => ?_, hmoves.ports.trans hfail.ports, hfail.params ▸ hmoves.params⟩
    · rw [(hmoves.groups j).st, hfail.other j hj]
    · rw [(hmoves.groups j).status]
      by_cases hj : j = g
      · rw [hj, hfail.status]
      · rw [hfail.other j hj]

theorem ne_of_valid {x : PowerGroup} (h : x.valid = true) : x.st ≠ .unconfigured ∧ x.st ≠ .absent ∧ x.st ≠ .failed := by
  refine ⟨fun hx => ?_, fun hx => ?_, fun hx => ?_⟩ <;> simp [PowerGroup.valid, hx] at h

theorem pgRun_eq {p : List Byte} (hp : pgProfile s g = some p) : pgRun s g = (if s.pool.groups[g].f7 &&& u32At p 176 ≠ 0 then .derated
    else if s.pool.groups[g].spMa = 0 then .ready else .active) := by
  unfold pgRun
  rw [hp]

/-! ### Status frames -/

/-- The group with a status frame's fields, before its state follows them. -/
def readStatus (p data : List Byte) (f7 f : Nat) (x : PowerGroup) : PowerGroup :=
  { x with f3 := fieldInt (profField p 3) data, f4 := fieldInt (profField p 4) data, f5 := fieldInt (profField p 5) data,
           f6 := fieldInt (profField p 6) data, f7 := f7, lastOk := some f }

/-- The fault and derating bits of a status frame (field 7). -/
def statusBits (p data : List Byte) : Nat := if (profField p 7).len = 0 then 0 else fieldRaw (profField p 7) data

/-- The state with the fields of a status frame read. -/
def withStatus (g : Fin 16) (p data : List Byte) (s : State) : State := modPg g (readStatus p data (statusBits p data) s.frame) s

/-- The state a status frame without a fault leads to. -/
def runState (p data : List Byte) (x : PowerGroup) : PgState :=
  if statusBits p data &&& u32At p 176 ≠ 0 then .derated else if x.spMa = 0 then .ready else .active

section
variable {p data : List Byte}

theorem withStatus_self : (withStatus g p data s).pool.groups[g] = readStatus p data (statusBits p data) s.frame s.pool.groups[g] :=
  modPg_self ..

theorem pgRun_withStatus (hp : pgProfile s g = some p) : pgRun (withStatus g p data s) g = runState p data s.pool.groups[g] := by
  rw [pgRun_eq (s := withStatus g p data s) hp, withStatus_self]
  rfl

theorem stampStatus_fault (hf : statusBits p data &&& u32At p 172 ≠ 0) : stampStatus g p data s =
    failGroup g 0x51 (statusBits p data % 2 ^ 24 * 256 + g.val) (modPg g (fun x => { x with recovRun := 0 }) (withStatus g p data s)) :=
  if_pos hf

theorem stampStatus_absent (hf : statusBits p data &&& u32At p 172 = 0) (ha : s.pool.groups[g].st = .absent) :
    stampStatus g p data s = (if s.pool.groups[g].absentAt = some s.frame then withStatus g p data s
      else pgTo g (pgRun (withStatus g p data s) g) (modPg g (fun x => { x with ramp := some 0 }) (withStatus g p data s))) := by
  have hst : (withStatus g p data s).pool.groups[g].st = .absent := by rw [withStatus_self]; exact ha
  have hat : (withStatus g p data s).pool.groups[g].absentAt = s.pool.groups[g].absentAt := by rw [withStatus_self]; rfl
  rw [← hat]
  exact (if_neg (Classical.not_not.mpr hf)).trans (if_pos hst)

theorem stampStatus_present (hf : statusBits p data &&& u32At p 172 = 0) (ha : s.pool.groups[g].st ≠ .absent) :
    stampStatus g p data s = pgRefresh g (withStatus g p data s) := by
  have hst : (withStatus g p data s).pool.groups[g].st ≠ .absent := by rw [withStatus_self]; exact ha
  exact (if_neg (Classical.not_not.mpr hf)).trans (if_neg hst)

theorem stampStatus_status : statusOf (stampStatus g p data s).pool.groups[g] = (some s.frame, fieldInt (profField p 3) data,
    fieldInt (profField p 4) data, fieldInt (profField p 5) data, fieldInt (profField p 6) data) := by
  have hself : statusOf (withStatus g p data s).pool.groups[g] = (some s.frame, fieldInt (profField p 3) data,
      fieldInt (profField p 4) data, fieldInt (profField p 5) data, fieldInt (profField p 6) data) := by rw [withStatus_self]; rfl
  by_cases hf : statusBits p data &&& u32At p 172 = 0
  · by_cases ha : s.pool.groups[g].st = .absent
    · rw [stampStatus_absent hf ha]
      split
      · exact hself
      · exact (pgTo_keeps statusOf (fun _ _ _ => rfl) ..).trans ((congrArg statusOf (modPg_self ..)).trans hself)
    · rw [stampStatus_present hf ha]
      unfold pgRefresh
      split
      · exact (pgTo_keeps statusOf (fun _ _ _ => rfl) ..).trans hself
      · exact hself
  · rw [stampStatus_fault hf]
    exact ((failGroup_others ..).status g).trans ((congrArg statusOf (modPg_self ..)).trans hself)

theorem stampStatus_fails (hf : statusBits p data &&& u32At p 172 ≠ 0) (hu : s.pool.groups[g].st ≠ .unconfigured) :
    (stampStatus g p data s).pool.groups[g].st = .failed := by
  rw [stampStatus_fault hf]
  refine failGroup_st _ _ ?_
  rw [modPg_self, withStatus_self]
  exact hu

theorem stampStatus_enters (hp : pgProfile s g = some p) (hf : statusBits p data &&& u32At p 172 = 0)
    (ha : s.pool.groups[g].st = .absent) (hat : s.pool.groups[g].absentAt ≠ some s.frame) :
    (stampStatus g p data s).pool.groups[g].st = runState p data s.pool.groups[g]
      ∧ (stampStatus g p data s).pool.groups[g].ramp = some 0 := by
  rw [stampStatus_absent hf ha, if_neg hat, pgRun_withStatus hp]
  refine ⟨pgTo_st .., (pgTo_keeps PowerGroup.ramp (fun _ _ _ => rfl) ..).trans ?_⟩
  rw [modPg_self]

theorem stampStatus_runs (hp : pgProfile s g = some p) (hf : statusBits p data &&& u32At p 172 = 0)
    (hv : s.pool.groups[g].valid = true) : (stampStatus g p data s).pool.groups[g].st = runState p data s.pool.groups[g] := by
  obtain ⟨-, ha, -⟩ := ne_of_valid hv
  have hvalid : (withStatus g p data s).pool.groups[g].valid = true := by rw [withStatus_self]; exact hv
  rw [stampStatus_present hf ha, pgRefresh, if_pos hvalid, pgRun_withStatus hp]
  exact pgTo_st ..

theorem stampStatus_staysFailed (hf : statusBits p data &&& u32At p 172 = 0) (hx : s.pool.groups[g].st = .failed) :
    (stampStatus g p data s).pool.groups[g].st = .failed := by
  have hvalid : ¬ (withStatus g p data s).pool.groups[g].valid = true := fun hv => by
    obtain ⟨-, -, hne⟩ := ne_of_valid hv
    rw [withStatus_self] at hne
    exact hne hx
  rw [stampStatus_present hf (by rw [hx]; decide), pgRefresh, if_neg hvalid, withStatus_self]
  exact hx

theorem confirmAll_none (h : s.txn.txns = []) : confirmAll s = s := by
  unfold confirmAll txnNumbers
  rw [h]
  rfl

theorem statusFrame_ofGroup {port : Fin 2} {id : Nat} (hp : pgProfile s g = some p) (hon : portOn s port = true)
    (hv : s.sys.vioLow = false) (hg : statusGroup s port id data = some g) (ht : s.txn.txns = []) :
    exec (.statusFrameReceived port id data) s = .next (stampStatus g p data s) := by
  have htxn : (stampStatus g p data s).txn.txns = [] := by
    rw [show (stampStatus g p data s).txn = s.txn from touches_stampStatus.same .txn rfl, ht]
  change execStatusFrameReceived port id data s = _
  unfold execStatusFrameReceived
  rw [if_neg (by simp [hon, hv]), hg]
  dsimp only
  rw [hp]
  exact congrArg Outcome.next (confirmAll_none htxn)

end

/-! ### Failures of a group and of its port -/

theorem polPgLost_fails {p : List Byte} {l : Nat} (hp : pgProfile s g = some p) (hl : s.pool.groups[g].lastOk = some l)
    (hv : s.pool.groups[g].valid = true) (hf : l + u16At p 36 ≤ s.frame) :
    exec (.polPgLost g) s = .next (failGroup g 0x52 g s) := by
  change execPolPgLost g s = _
  unfold execPolPgLost
  rw [hp, hl]
  exact if_pos ⟨hv, hf⟩

theorem polPgLost_waits {p : List Byte} {l : Nat} (hp : pgProfile s g = some p) (hl : s.pool.groups[g].lastOk = some l)
    (hf : s.frame < l + u16At p 36) : exec (.polPgLost g) s = .next s := by
  change execPolPgLost g s = _
  unfold execPolPgLost
  rw [hp, hl]
  exact if_neg fun h => by omega

theorem failGroup_ramp (id arg : Nat) (hv : s.pool.groups[g].valid = true) : (failGroup g id arg s).pool.groups[g].ramp = none := by
  obtain ⟨hu, -, hf⟩ := ne_of_valid hv
  obtain ⟨u, hfail, hmoves⟩ := failGroup_of_running id arg hu hf
  exact (hmoves.groups g).ramp.trans hfail.ramp

/-- One group's part in a bus-off of a port. -/
def busoffGroup (port : Fin 2) (s : State) (g : Fin 16) : State :=
  if pget s 0x1801 g = port.val then failGroup g 0x51 (s.pool.groups[g].f7 % 2 ^ 24 * 256 + g.val) s else s

theorem busoffGroup_others (port : Fin 2) (s : State) (j : Fin 16) : OthersKept j s (busoffGroup port s j) := by
  unfold busoffGroup
  split
  · exact failGroup_others ..
  · exact ⟨fun _ _ => rfl, fun _ => rfl, rfl, .refl _⟩

theorem busoffGroups_fail {p : List Byte} {port : Fin 2} (hp : pgProfile s g = some p) (hport : pget s 0x1801 g = port.val)
    (hu : s.pool.groups[g].st ≠ .unconfigured) :
    ((allFin 16).foldl (busoffGroup port) s).pool.groups[g].st = .failed
      ∧ ((allFin 16).foldl (busoffGroup port) s).pool.ports = s.pool.ports := by
  refine foldl_once (P := fun t : State => LowSame s.params t.params ∧ t.pool.groups[g].st ≠ .unconfigured ∧ t.pool.ports = s.pool.ports)
    (Q := fun t : State => t.pool.groups[g].st = .failed ∧ t.pool.ports = s.pool.ports) (x := g) (List.nodup_finRange 16) (mem_allFin g)
    ⟨.refl _, hu, rfl⟩ ?_ ?_ ?_
  · rintro t j hj ⟨hparams, hst, hports⟩
    have hk := busoffGroup_others port t j
    exact ⟨hparams.trans hk.params, by rw [hk.other g (Ne.symm hj)]; exact hst, hk.ports.trans hports⟩
  · rintro t ⟨hparams, hst, hports⟩
    refine ⟨?_, (busoffGroup_others port t g).ports.trans hports⟩
    unfold busoffGroup
    rw [if_pos ((hparams.port hp).trans hport)]
    exact failGroup_st _ _ hst
  · rintro t j hj ⟨hst, hports⟩
    have hk := busoffGroup_others port t j
    exact ⟨(hk.other g (Ne.symm hj)).trans hst, hk.ports.trans hports⟩

theorem pgProfile_congr (hp : t.params = s.params) (hb : t.beryl = s.beryl) (hpool : t.pool.profiles = s.pool.profiles) (i : Nat) :
    pgProfile t i = pgProfile s i := by
  have hget : ∀ id inst, pget t id inst = pget s id inst := pget_congr hp hb
  unfold pgProfile pgBus
  simp only [hget, hpool]

/-- The state with a port bus-off told, before its groups fail. -/
def portOff (port : Fin 2) (tec rec : Nat) (s : State) : State :=
  ev 0x53 12 0 port (modPort port (fun x => { x with state := 3, tec := tec, rxErr := rec }) s)

theorem portOff_pool (port : Fin 2) (tec rec : Nat) (s : State) : (portOff port tec rec s).pool =
    (modPort port (fun x => { x with state := 3, tec := tec, rxErr := rec }) s).pool := ev_pool ..

theorem polCanBusoff_fails {p : List Byte} {port : Fin 2} (tec rec : Nat) (hp : pgProfile s g = some p) (hon : portOn s port = true)
    (hport : pget s 0x1801 g = port.val) (hu : s.pool.groups[g].st ≠ .unconfigured) :
    ∃ t, exec (.polCanBusoff port tec rec) s = .next t ∧ t.pool.groups[g].st = .failed ∧ t.pool.ports[port].state = 3 := by
  have hrow : exec (.polCanBusoff port tec rec) s = .next ((allFin 16).foldl (busoffGroup port) (portOff port tec rec s)) :=
    if_neg (Classical.not_not.mpr hon)
  have hparams : (portOff port tec rec s).params = s.params := ev_params ..
  have hberyl : (portOff port tec rec s).beryl = s.beryl := ev_beryl ..
  have hprof : pgProfile (portOff port tec rec s) g = some p := (pgProfile_congr hparams hberyl (by rw [portOff_pool]; rfl) g).trans hp
  obtain ⟨hst, hports⟩ :=
    busoffGroups_fail hprof ((pget_congr hparams hberyl ..).trans hport) (by rw [portOff_pool]; exact hu)
  refine ⟨_, hrow, hst, ?_⟩
  rw [hports, portOff_pool]
  exact congrArg CanPort.state (upd_self s.pool.ports port _)

/-! ### Recovery, return by command -/

theorem groupRecovery_returns {p : List Byte} (hp : pgProfile s g = some p) (hx : s.pool.groups[g].st = .failed)
    (hr : objRetired s 1 g = false) (hn : pget s 0x182D 0 ≤ s.pool.groups[g].recovRun) :
    ∃ t, exec (.groupRecovery g) s = .next t
      ∧ t.pool.groups[g].st = (if s.pool.groups[g].f7 &&& u32At p 176 ≠ 0 then .derated
          else if s.pool.groups[g].spMa = 0 then .ready else .active)
      ∧ t.pool.groups[g].ramp = some 0 ∧ t.params = s.params := by
  refine ⟨_, if_pos ⟨hx, by simp [hr], hn⟩, ?_, ?_, pgTo_params ..⟩
  · rw [pgTo_st, pgRun_eq hp]
  · refine (pgTo_keeps PowerGroup.ramp (fun _ _ _ => rfl) ..).trans ?_
    rw [modPg_self]

theorem groupRecovery_retired (hr : objRetired s 1 g = true) : exec (.groupRecovery g) s = .next s :=
  if_neg fun h => h.2.1 hr

theorem objRetired_setObj (kind number : Nat) (s : State) : objRetired (setObj { kind := kind, number := number } s) kind number = false := by
  simp [objRetired, objFault, setObj]

theorem objRetired_congr (h : t.flt.objs = s.flt.objs) (kind number : Nat) : objRetired t kind number = objRetired s kind number := by
  unfold objRetired objFault
  rw [h]

theorem ev_objs (id dom detail arg : Nat) (s : State) : (ev id dom detail arg s).flt.objs = s.flt.objs := by
  unfold ev
  rw [evp_flt]

theorem returnObj_objRetired (kind number dom : Nat) (reason : List Byte) (s : State) :
    objRetired (returnObj kind number dom reason s) kind number = false :=
  (objRetired_congr (ev_objs ..) ..).trans (objRetired_setObj kind number s)

theorem returnGroup_absent {p : List Byte} (reason : List Byte) (hp : pgProfile s g = some p) :
    (returnGroup g reason s).pool.groups[g].st = .absent ∧ (returnGroup g reason s).pool.groups[g].lastOk = none
      ∧ objRetired (returnGroup g reason s) 1 g = false ∧ (returnGroup g reason s).params = s.params := by
  refine ⟨?_, ?_, ?_, touches_returnGroup.same .params rfl⟩
  all_goals
    unfold returnGroup
    extract_lets s1
    have hpool : s1.pool = s.pool := touches_returnObj.same .pool rfl
    have hprof : pgProfile s1 g = some p :=
      (pgProfile_congr (touches_returnObj.same .params rfl) (touches_returnObj.same .beryl rfl) (by rw [hpool]) g).trans hp
    rw [if_pos (by rw [hprof]; rfl)]
  · exact pgTo_st ..
  · refine (pgTo_keeps PowerGroup.lastOk (fun _ _ _ => rfl) ..).trans ?_
    rw [modPg_self]
  · have hto (u : State) : (pgTo g .absent u).flt.objs = u.flt.objs := by
      unfold pgTo
      split
      · rfl
      · exact ev_objs ..
    exact (objRetired_congr (hto _) ..).trans (returnObj_objRetired 1 g _ reason s)

/-! ### Setpoint frames -/

/-- The frames since the last setpoint frame of a group. -/
def sinceSent (s : State) (g : Fin 16) : Nat := match s.pool.groups[g].lastSend with
  | some l => s.frame - l
  | none => 2 ^ 48

/-- The port of a group. -/
def groupPort (s : State) (g : Fin 16) : Fin 2 := if pget s 0x1801 g = 0 then 0 else 1

/-- The group after its setpoint frame. -/
def afterSend (s : State) (g : Fin 16) : PowerGroup :=
  { s.pool.groups[g] with lastSend := some s.frame, changed := false, sendNow := false, alive := s.pool.groups[g].alive + 1 }

theorem setpointFrameSend_sends {p : List Byte} (hp : pgProfile s g = some p) (hon : portOn s (groupPort s g) = true)
    (hdue : s.pool.groups[g].sendNow = true ∨ u16At p 22 ≤ sinceSent s g
      ∨ (s.pool.groups[g].changed = true ∧ pget s 0x1822 (groupPort s g) ≤ sinceSent s g)) (hv : s.sys.vioLow = false) :
    exec (.setpointFrameSend g) s = .next { s with
      outbox := s.outbox ++ [.can (groupPort s g) (pgSetId s g p)
        (setpointPayload p s.pool.groups[g].spMv s.pool.groups[g].spMa s.pool.groups[g].alive)]
      pool := { s.pool with groups := s.pool.groups.set g (afterSend s g) } } := by
  change execSetpointFrameSend g s = _
  unfold execSetpointFrameSend
  rw [hp]
  refine (if_pos ⟨hon, hdue⟩).trans ?_
  rw [hv]
  rfl

theorem setpointFrameSend_waits {p : List Byte} (hp : pgProfile s g = some p) (hn : s.pool.groups[g].sendNow = false)
    (hs : sinceSent s g < u16At p 22) (hc : s.pool.groups[g].changed = false) : exec (.setpointFrameSend g) s = .next s := by
  change execSetpointFrameSend g s = _
  unfold execSetpointFrameSend
  rw [hp]
  refine if_neg fun h => ?_
  obtain ⟨-, hdue | hdue | ⟨hdue, -⟩⟩ := h
  · rw [hn] at hdue
    cases hdue
  · exact absurd hs (Nat.not_lt.mpr hdue)
  · rw [hc] at hdue
    cases hdue

/-! ### Ports -/

theorem polCanRecover_returns {port : Fin 2} (h : s.pool.ports[port].state = 3) : exec (.polCanRecover port) s = .next (ev 0x54 12 0 port
    { s with pool := { s.pool with ports := s.pool.ports.set port { s.pool.ports[port] with state := 1, tec := 0, rxErr := 0 } } }) :=
  if_pos h

theorem statusFrame_unmatched {port : Fin 2} {id : Nat} {data : List Byte} (hon : portOn s port = true) (hv : s.sys.vioLow = false)
    (hg : statusGroup s port id data = none) (hd : statusDevice s port id data = none) :
    exec (.statusFrameReceived port id data) s =
      .next (modPort port (fun x => { x with unmatched := satInc x.unmatched }) s) := by
  change execStatusFrameReceived port id data s = _
  unfold execStatusFrameReceived
  rw [if_neg (by simp [hon, hv]), hg]
  dsimp only
  rw [hd]
  rfl

/-- Settles O34: what a failure, the end of a move and a change of state leave of a group; the parameter that names a group's port
stands below the one that a move's end writes. -/
theorem groupsFollowTheirFrames : Obligations.GroupsFollowTheirFrames := by
  unfold Obligations.GroupsFollowTheirFrames
  refine ⟨fun g p s hp => ⟨fun port id data hon hv hg ht => ?_, fun l hl hv hf => ?_, fun l hl hf => polPgLost_waits hp hl hf,
    fun hv hn => ?_, fun hx hr hn => groupRecovery_returns hp hx hr hn, fun _ hr => groupRecovery_retired hr,
    fun port tec rec hon hport hu => polCanBusoff_fails tec rec hp hon hport hu, fun h reason hr hpass => ?_, fun h reason => ?_⟩,
    fun s => ⟨fun g p port hp hport hon => ?_, fun port h => polCanRecover_returns h,
      fun port id data hon hv hg hd => statusFrame_unmatched hon hv hg hd⟩⟩
  · have hread : statusOf (stampStatus g p data s).pool.groups[g] = _ := stampStatus_status
    simp only [statusOf, Prod.mk.injEq] at hread
    obtain ⟨hok, h3, h4, h5, h6⟩ := hread
    exact ⟨_, statusFrame_ofGroup hp hon hv hg ht, hok, h3, h4, h5, h6, stampStatus_fails, stampStatus_enters hp, stampStatus_runs hp,
      stampStatus_staysFailed⟩
  · exact ⟨_, polPgLost_fails hp hl hv hf, failGroup_st _ _ (ne_of_valid hv).1, failGroup_ramp _ _ hv, (failGroup_others ..).other⟩
  · exact ⟨_, if_pos ⟨hv, hn⟩, failGroup_st _ _ (ne_of_valid hv).1, (failGroup_others ..).other⟩
  · have hr' : objRetired (entered h s) 1 g = true := (objRetired_congr (by rw [entered_eq]) ..).trans hr
    exact congrArg ans (hostCmd_accepts hpass rfl rfl ((if_neg (Nat.not_le.mpr g.isLt)).trans (if_pos hr')))
  · intro t
    have hedge : t = returnGroup g [BitVec.ofNat 8 reason] s := (atEdge_polPgClearX ..).trans (dif_pos g.isLt)
    clear_value t
    subst hedge
    exact returnGroup_absent _ hp
  · subst hport
    exact ⟨fun hdue hv => setpointFrameSend_sends hp hon hdue hv, fun hn hs hc => setpointFrameSend_waits hp hn hs hc⟩

end Sys2Proof.Machine

end

section
/-! PROOF. Moves of power groups through their phases (R221 to R223). -/

namespace Sys2Proof.Machine

open Host (Outcome)

variable {s t u : State} {m : Fin 4} {mv : Move}

/-! ### What the begin of a phase does -/

/-- The move in a phase that begins after frame `f`. -/
def Move.into (mv : Move) (ph : MovePhase) (f : Nat) : Move :=
  { mv with phase := ph, start := frameAfter f 1, matched := 0, begun := true }

/-- The state with a move in its place of the table. -/
def putMove (m : Fin 4) (mv : Move) (s : State) : State := modPool (fun p => { p with moves := p.moves.set m (some mv) }) s

@[simp] theorem putMove_self (m : Fin 4) (mv : Move) (s : State) : (putMove m mv s).pool.moves[m] = some mv :=
  Vector.getElem_set_self ..

/-- The opening of ties, with the groups taken off their outlets (phase B). -/
def openActions (mv : Move) : List Action :=
  mv.opens.map (fun (y : Fin 8) => Action.tie y false) ++ mv.groups.map fun (g : Fin 16) => Action.param 0x1804 g 0xFF

/-- The closing of ties, with the groups assigned to their outlet (phase D). -/
def closeActions (mv : Move) (k : Fin 8) : List Action :=
  mv.close.map (fun (y : Fin 8) => Action.tie y true) ++ mv.groups.map fun (g : Fin 16) => Action.param 0x1804 g k.val

/-- Some group of a move carries current for another outlet. -/
def needsRampDown (s : State) (mv : Move) : Bool :=
  mv.groups.any fun (g : Fin 16) => s.pool.groups[g].spMa != 0 && pgServes s g != mv.target

theorem moveEnter_rampDown (hm : s.pool.moves[m] = some mv) (hn : needsRampDown s mv = true) :
    moveEnter m 1 s = putMove m (mv.into .rampDown s.frame) s := by
  unfold moveEnter
  rw [hm]
  exact if_pos ⟨(Nat.le_refl _), hn⟩

theorem moveEnter_tieOpen (hm : s.pool.moves[m] = some mv) (ho : mv.opens ≠ []) : moveEnter m 2 s =
    buildTxn (.move m) (openActions mv) (frameAfter s.frame 1) (putMove m (mv.into .tieOpen s.frame) s) := by
  unfold moveEnter
  rw [hm]
  refine (if_neg fun h => absurd h.1 (by decide)).trans (if_pos ⟨(Nat.le_refl _), ?_⟩)
  simp [ho]

theorem moveEnter_tieClose {k : Fin 8} (hm : s.pool.moves[m] = some mv) (hk : mv.target = some k) : moveEnter m 4 s =
    buildTxn (.move m) (closeActions mv k) (frameAfter s.frame 1) (putMove m (mv.into .tieClose s.frame) s) := by
  unfold moveEnter
  rw [hm]
  refine (if_neg fun h => absurd h.1 (by decide)).trans ((if_neg fun h => absurd h.1 (by decide)).trans ?_)
  split
  · rename_i hnone
    exact absurd (hk.symm.trans hnone) (by simp)
  · rename_i k' hk'
    obtain rfl : k = k' := Option.some.inj (hk.symm.trans hk')
    exact (if_neg fun h => absurd h.1 (by decide)).trans (if_pos (Nat.le_refl _))

/-- A move with a target begins without a write of a parameter. -/
theorem moveEnter_params {k : Fin 8} (hm : s.pool.moves[m] = some mv) (hk : mv.target = some k) :
    (moveEnter m 1 s).params = s.params ∧ (moveEnter m 1 s).due = s.due := by
  refine ⟨?_, touches_moveEnter.same .due rfl⟩
  unfold moveEnter
  rw [hm]
  dsimp only
  rw [hk]
  dsimp only
  split
  · rfl
  · split
    · exact touches_buildTxn.same .params rfl
    · split
      · rfl
      · exact touches_buildTxn.same .params rfl

/-! ### The end of a phase -/

/-- What the begin of a phase that builds a transaction leaves: the move in its phase, the transaction for the next frame. -/
theorem buildTxn_move {acts : List Action} {ph : MovePhase} (hfree : freeInternal s ≠ none) :
    let t := buildTxn (.move m) acts (frameAfter s.frame 1) (putMove m (mv.into ph s.frame) s)
    (t.pool.moves[m] = some (mv.into ph s.frame) ∧ t.params = s.params)
      ∧ ∃ x ∈ t.txn.txns, x.purpose = .move m ∧ x.commitFrame = some (frameAfter s.frame 1) ∧ x.actions.map (fun a => a.act) = acts := by
  intro t
  obtain ⟨n, hn⟩ := Option.ne_none_iff_exists'.mp hfree
  have hpool : t.pool = (putMove m (mv.into ph s.frame) s).pool := touches_buildTxn.same .pool rfl
  refine ⟨⟨by rw [hpool]; exact putMove_self .., touches_buildTxn.same .params rfl⟩, _, mem_buildTxn hn, rfl, rfl, ?_⟩
  exact (List.map_map ..).trans (List.map_id _)

theorem moveRampDownEnd_opens (hm : s.pool.moves[m] = some mv) (hs : mv.start ≤ s.frame) (hb : mv.begun = true)
    (hph : mv.phase = .rampDown) (hg : ∀ g ∈ mv.groups, s.pool.groups[g].f4.natAbs ≤ 1000) (ho : mv.opens ≠ []) :
    exec (.moveRampDownEnd m) s = .next (buildTxn (.move m) (openActions mv) (frameAfter s.frame 1)
      (putMove m (mv.into .tieOpen s.frame) s)) := by
  change execMoveRampDownEnd m s = _
  unfold execMoveRampDownEnd
  rw [hm]
  exact (if_pos ⟨hph, hb, hs, by simpa using hg⟩).trans (congrArg ans (moveEnter_tieOpen hm ho))

theorem moveRampDownEnd_waits (hm : s.pool.moves[m] = some mv) (hg : ∃ g ∈ mv.groups, 1000 < s.pool.groups[g].f4.natAbs) :
    exec (.moveRampDownEnd m) s = .next s := by
  change execMoveRampDownEnd m s = _
  unfold execMoveRampDownEnd
  rw [hm]
  refine if_neg fun h => ?_
  obtain ⟨-, -, -, hall⟩ := h
  obtain ⟨g, hmem, hlt⟩ := hg
  exact absurd (of_decide_eq_true (List.all_eq_true.mp hall g hmem)) (Nat.not_le.mpr hlt)

theorem busMatch_closes {k : Fin 8} (hm : s.pool.moves[m] = some mv) (hph : mv.phase = .match) (hk : mv.target = some k)
    (hn : 8 ≤ mv.matched) : exec (.busMatch m) s = .next (buildTxn (.move m) (closeActions mv k) (frameAfter s.frame 1)
      (putMove m (mv.into .tieClose s.frame) s)) := by
  change execBusMatch m s = _
  unfold execBusMatch
  rw [hm]
  exact (if_pos ⟨hph, hn⟩).trans (congrArg ans (moveEnter_tieClose hm hk))

theorem busMatch_waits (hm : s.pool.moves[m] = some mv) (hn : mv.matched < 8) : exec (.busMatch m) s = .next s := by
  change execBusMatch m s = _
  unfold execBusMatch
  rw [hm]
  exact if_neg fun h => absurd h.2 (Nat.not_le.mpr hn)

/-! ### The end of a move -/

/-- One group of a move sent home. -/
def homeGroup (s : State) (x : Fin 16 × Nat) : State := pgSet x.1 0 0 true (pset 0x1804 x.1 x.2 s)

/-- The groups of a move at its end: home again at a setpoint of zero unless it succeeded. -/
def sendHome (outcome : Nat) (mv : Move) (s : State) : State :=
  if 2 ≤ outcome then (mv.groups.zip mv.old).foldl homeGroup s else s

theorem sendHome_moves (outcome : Nat) (mv : Move) (s : State) : (sendHome outcome mv s).pool.moves = s.pool.moves := by
  unfold sendHome
  split
  · exact foldl_same (f := homeGroup) (g := fun u : State => u.pool.moves) (fun _ _ => rfl) _ s
  · rfl

/-- The state with the place of a move free. -/
def dropMove (m : Fin 4) (s : State) : State := modPool (fun p => { p with moves := p.moves.set m none }) s

theorem moveEnd_eq (outcome check : Nat) (hm : s.pool.moves[m] = some mv) : ∃ dom arg,
    moveEnd m outcome check s = ev 0x55 dom 0 arg (sendHome outcome mv (dropMove m s)) := by
  unfold moveEnd
  rw [hm]
  exact ⟨_, _, rfl⟩

theorem moveEnd_pool (outcome check : Nat) (hm : s.pool.moves[m] = some mv) :
    (moveEnd m outcome check s).pool = (sendHome outcome mv (dropMove m s)).pool ∧ (moveEnd m outcome check s).pool.moves[m] = none := by
  obtain ⟨dom, arg, heq⟩ := moveEnd_eq outcome check hm
  rw [heq, ev_pool]
  refine ⟨rfl, ?_⟩
  rw [sendHome_moves]
  exact Vector.getElem_set_self ..

theorem pgSet_zero (i j : Fin 16) (s : State) (h : j = i ∨ s.pool.groups[j].spMv = 0 ∧ s.pool.groups[j].spMa = 0) :
    (pgSet i 0 0 true s).pool.groups[j].spMv = 0 ∧ (pgSet i 0 0 true s).pool.groups[j].spMa = 0 := by
  unfold pgSet
  by_cases hj : j = i
  · subst hj
    rw [modPg_self]
    exact ⟨rfl, rfl⟩
  · rw [modPg_other hj]
    exact h.resolve_left hj

theorem sendHome_zero {outcome : Nat} (ho : 2 ≤ outcome) (hl : mv.old.length = mv.groups.length) {g : Fin 16} (hg : g ∈ mv.groups) :
    (sendHome outcome mv s).pool.groups[g].spMv = 0 ∧ (sendHome outcome mv s).pool.groups[g].spMa = 0 := by
  obtain ⟨i, hi, rfl⟩ := List.getElem_of_mem hg
  have hmem : (mv.groups[i], mv.old[i]'(hl ▸ hi)) ∈ mv.groups.zip mv.old :=
    List.getElem_zip (l := mv.groups) (l' := mv.old) ▸ List.getElem_mem (by simp [hl, hi])
  rw [sendHome, if_pos ho]
  exact foldl_forall (P := fun (x : Fin 16 × Nat) (u : State) => u.pool.groups[x.1].spMv = 0 ∧ u.pool.groups[x.1].spMa = 0)
    (fun u x => pgSet_zero x.1 x.1 (pset 0x1804 x.1 x.2 u) (.inl rfl))
    (fun u x y h => pgSet_zero y.1 x.1 (pset 0x1804 y.1 y.2 u) (.inr h)) hmem s

theorem busMatchTimeout_ends (hm : s.pool.moves[m] = some mv) (hph : mv.phase = .match) (hn : mv.matched < 8)
    (hf : mv.start + pget s 0x182C 0 ≤ s.frame) : exec (.busMatchTimeout m) s = .next (moveEnd m 5 0 s) := by
  change execBusMatchTimeout m s = _
  unfold execBusMatchTimeout
  rw [hm]
  exact if_pos ⟨hph, hf, hn⟩

theorem moveTakeUpEnd_ends (hm : s.pool.moves[m] = some mv) (hs : mv.start ≤ s.frame) (hph : mv.phase = .takeUp)
    (hg : ∀ g ∈ mv.groups, s.pool.groups[g].ramp = none) : exec (.moveTakeUpEnd m) s = .next (moveEnd m 1 0 s) := by
  change execMoveTakeUpEnd m s = _
  unfold execMoveTakeUpEnd
  rw [hm]
  exact if_pos ⟨hph, hs, List.all_eq_true.mpr fun g hmem => by rw [hg g hmem]; rfl⟩

theorem moveEnd_completed (hm : s.pool.moves[m] = some mv) :
    (moveEnd m 1 0 s).pool.groups = s.pool.groups ∧ (moveEnd m 1 0 s).params = s.params := by
  obtain ⟨dom, arg, heq⟩ := moveEnd_eq 1 0 hm
  rw [heq, ev_pool, ev_params]
  exact ⟨rfl, rfl⟩

/-! ### POL_ASSIGN -/

/-- The groups of a mask. -/
def groupsIn (mask : Nat) : List (Fin 16) := (allFin 16).filter fun (g : Fin 16) => mask / 2 ^ g.val % 2 = 1

/-- The ties that a move to an outlet closes. -/
def moveCloses (s : State) (gs : List (Fin 16)) (k : Fin 8) : List (Fin 8) := (movePaths s gs k).filter fun t => !s.pool.ties[t].cmd

/-- The move that POL_ASSIGN takes. -/
def assignedMove (s : State) (gs : List (Fin 16)) (k : Fin 8) : Move :=
  { target := some k, groups := gs, old := gs.map fun (g : Fin 16) => pget s 0x1804 g, close := moveCloses s gs k,
    opens := moveOpens s gs (some k), phase := .rampDown, start := frameAfter s.frame 1 }

/-- Ties as bits of a byte. -/
def tieBits (l : List (Fin 8)) : Byte := BitVec.ofNat 8 ((l.map fun (t : Fin 8) => 2 ^ t.val).foldl (· + ·) 0)

/-- Nothing stands against a move of groups to an outlet. -/
structure MayMove (s : State) (gs : List (Fin 16)) (k : Fin 8) : Prop where
  some_   : gs ≠ []
  groups  : ∀ g ∈ gs, s.pool.groups[g].st ≠ .unconfigured ∧ s.pool.groups[g].st ≠ .failed
  dc      : isDc s k = true
  devices : ∀ j : Fin 8, deviceDriven s j = true
  ties    : ∀ t ∈ movePaths s gs k, tieUsable s t = true
  buses   : ∀ j : Fin 8, sessOnBus s.outlets[j].st = false
  moves   : ∀ m : Fin 4, s.pool.moves[m] = none
  fences  : moveFenced s gs (movePaths s gs k) (some k) = false

theorem assignRules_accepts {k : Fin 8} {mask : Nat} (h : MayMove s (groupsIn mask) k) : assignRules k mask s =
    .accept 0x0100 (some [1, 0, tieBits (moveCloses s (groupsIn mask) k), tieBits (moveOpens s (groupsIn mask) (some k))])
      (fun u => moveEnter 0 1 (putMove 0 (assignedMove s (groupsIn mask) k) u)) := by
  obtain ⟨hsome, hgroups, hdc, hdevices, hties, hbuses, hmoves, hfences⟩ := h
  unfold assignRules
  rw [if_neg (by omega)]
  extract_lets target gs path opens close touched joined bits mv
  have htarget : target = some k := dif_pos k.isLt
  clear_value target
  subst htarget
  have hfind : (allFin 4).find? (fun m => s.pool.moves[m].isNone) = some 0 :=
    List.find?_cons_of_pos (congrArg Option.isNone (hmoves 0))
  have h1 : (gs.any fun g => decide (s.pool.groups[g].st = .unconfigured ∨ s.pool.groups[g].st = .failed)) = false :=
    List.any_eq_false.mpr fun g hg => by simpa using hgroups g hg
  have h2 : (!isDc s k) = false := by rw [hdc]; rfl
  have h3 : (touched.any fun j => !deviceDriven s j) = false := List.any_eq_false.mpr fun j _ => by simp [hdevices j]
  have h4 : (path.any fun y => !tieUsable s y) = false := List.any_eq_false.mpr fun y hy => by simpa using hties y hy
  have h5 : ((allFin 8).any fun j => j != k && sessOnBus s.outlets[j].st && sameSegment joined k j) = false :=
    List.any_eq_false.mpr fun j _ => by rw [hbuses j, Bool.and_false, Bool.false_and]; exact Bool.false_ne_true
  have h6 : (gs.any fun g => (moveOf s g).isSome) = false := List.any_eq_false.mpr fun g _ => by simp [moveOf, hmoves]
  have h7 : ((allFin 4).all fun m => s.pool.moves[m].isSome) = false :=
    List.all_eq_false.mpr ⟨0, mem_allFin 0, by rw [hmoves 0]; decide⟩
  have h8 : gs.isEmpty = false := List.isEmpty_eq_false_iff.mpr hsome
  refine (if_neg (Bool.eq_false_iff.mp h1)).trans ((if_neg (Bool.eq_false_iff.mp h2)).trans ((if_neg (Bool.eq_false_iff.mp h3)).trans
    ((if_neg (Bool.eq_false_iff.mp h4)).trans ((if_neg (Bool.eq_false_iff.mp h5)).trans ((if_neg ?_).trans
    ((if_neg (Bool.eq_false_iff.mp hfences)).trans ((if_neg ?_).trans ?_)))))))
  · rw [h6, h7]
    simp [hmoves]
  · rw [h8]
    exact Bool.false_ne_true
  · rw [hfind]
    rfl

/-- The rules of POL_ASSIGN read nothing of the link. -/
theorem assignRules_entered (h : Hdr) (k mask : Nat) (s : State) : assignRules k mask (entered h s) = assignRules k mask s := by
  rw [entered_eq]
  rfl

/-- The state in which POL_ASSIGN waits for its edge, with its move in the table. -/
def assigned (h : Hdr) (k : Fin 8) (mask : Nat) (s : State) : State :=
  putMove 0 (assignedMove s (groupsIn mask) k) (accepted (.polAssign h k mask) h 0x1800 0x0100
    (some [1, 0, tieBits (moveCloses s (groupsIn mask) k), tieBits (moveOpens s (groupsIn mask) (some k))]) s)

theorem assigned_eq (h : Hdr) (k : Fin 8) (mask : Nat) (s : State) : assigned h k mask s =
    putMove 0 (assignedMove s (groupsIn mask) k) { s with link := (entered h s).link, due := s.due ++ [waitingCmd (.polAssign h k mask) h
      0x1800 0x0100 (some [1, 0, tieBits (moveCloses s (groupsIn mask) k), tieBits (moveOpens s (groupsIn mask) (some k))]) s] } := by
  unfold assigned
  rw [accepted_eq]

theorem polAssign_takes {h : Hdr} {k : Fin 8} {mask : Nat} (hgo : MayMove s (groupsIn mask) k) (hp : Passes h 0x1800 true true s) :
    exec (.polAssign h k mask) s = .next (moveEnter 0 1 (assigned h k mask s)) := by
  change ans (hostCmd ..) = _
  rw [hostCmd_passes hp, assignRules_entered, assignRules_accepts hgo]
  rfl

theorem assigned_rampsDown {h : Hdr} {k : Fin 8} {mask : Nat}
    (hneeds : ∃ g ∈ groupsIn mask, s.pool.groups[g].spMa ≠ 0 ∧ pgServes s g ≠ some k) :
    (moveEnter 0 1 (assigned h k mask s)).pool.moves[(0 : Fin 4)] = some ((assignedMove s (groupsIn mask) k).into .rampDown s.frame) := by
  have hm : (assigned h k mask s).pool.moves[(0 : Fin 4)] = some (assignedMove s (groupsIn mask) k) := putMove_self ..
  have hramp : needsRampDown (assigned h k mask s) (assignedMove s (groupsIn mask) k) = true := by
    obtain ⟨g, hg, hma, hserves⟩ := hneeds
    rw [assigned_eq]
    exact List.any_eq_true.mpr ⟨g, hg, Bool.and_eq_true_iff.mpr ⟨bne_iff_ne.mpr hma, bne_iff_ne.mpr hserves⟩⟩
  rw [moveEnter_rampDown hm hramp, putMove_self, assigned_eq]
  rfl

/-- Settles O36: what the begin of each phase puts into the table and builds, and what the end of a move leaves. -/
theorem movesRunTheirPhases : Obligations.MovesRunTheirPhases := by
  unfold Obligations.MovesRunTheirPhases
  refine ⟨fun h k mask s hsome hgroups hdc hdev hties hbuses hmoves hfences hp => ?_,
    fun m mv s hm hs hb hfree => ⟨fun hph hg ho => ?_, fun _ hg => moveRampDownEnd_waits hm hg, fun k hph hk hn => ?_,
      fun _ hn => busMatch_waits hm hn, fun hph hn hf hl => ?_, fun hph hg => ?_⟩⟩
  · have hgo : MayMove s (groupsIn mask) k := ⟨hsome, hgroups, hdc, hdev, hties, hbuses, hmoves, hfences⟩
    obtain ⟨hparams, hdue⟩ := moveEnter_params (s := assigned h k mask s) (putMove_self ..) rfl
    refine ⟨_, polAssign_takes hgo hp, hparams.trans ?_, hdue, assigned_rampsDown⟩
    rw [assigned_eq]
    rfl
  · exact ⟨_, moveRampDownEnd_opens hm hs hb hph hg ho, buildTxn_move hfree⟩
  · exact ⟨_, busMatch_closes hm hph hk hn, buildTxn_move hfree⟩
  · obtain ⟨hpool, hnone⟩ := moveEnd_pool 5 0 hm
    exact ⟨_, busMatchTimeout_ends hm hph hn hf, hnone, fun g hg => hpool ▸ sendHome_zero (by decide) hl hg⟩
  · obtain ⟨-, hnone⟩ := moveEnd_pool 1 0 hm
    exact ⟨_, moveTakeUpEnd_ends hm hs hph hg, hnone, moveEnd_completed hm⟩

end Sys2Proof.Machine

end

section
/-! PROOF. Ties, module profiles and the status commands of the pool (R209, R225, R226, R229, R230). -/

namespace Sys2Proof.Machine

open Host (Outcome)

variable {s t : State} {i : Fin 8}

/-! ### The feedback of a tie -/

/-- The state of a tie's contacts that a frame finds. -/
def tieFound (s : State) (i : Fin 8) : Bool :=
  let fb := s.garnet.outs[soTie i].fb
  if filtReady fb (pget s 0x400B 0) then (filtAccept fb s.frame).accepted else fb.accepted

/-- What taking a tie's feedback leaves. -/
structure FeedbackTaken (i : Fin 8) (s t : State) : Prop where
  fb       : t.pool.ties[i].fb = tieFound s i
  cmd      : t.pool.ties[i].cmd = s.pool.ties[i].cmd
  offAt    : t.garnet.outs[soTie i].offAt = s.garnet.outs[soTie i].offAt
  profiles : t.pool.profiles = s.pool.profiles
  txn      : t.txn = s.txn
  params   : t.params = s.params
  beryl    : t.beryl = s.beryl
  frame    : t.frame = s.frame

theorem modTie_self (i : Fin 8) (f : TieSt → TieSt) (s : State) : (modTie i f s).pool.ties[i] = f s.pool.ties[i] := upd_self ..

theorem soIsTie_soTie (i : Fin 8) : soIsTie (soTie i) = some i :=
  (dif_pos ⟨by simp [soTie], by simp [soTie]; omega⟩).trans (congrArg some (Fin.ext (by simp [soTie])))

theorem acceptFeedback_takes (i : Fin 8) (s : State) : FeedbackTaken i s (acceptFeedback (soTie i) s) := by
  unfold acceptFeedback
  extract_lets f s1
  rw [soIsTie_soTie]
  have hbase : s1.pool = s.pool ∧ s1.txn = s.txn ∧ s1.params = s.params ∧ s1.beryl = s.beryl ∧ s1.frame = s.frame
      ∧ s1.garnet.outs[soTie i].offAt = s.garnet.outs[soTie i].offAt ∧ fbClosed s1 (soTie i) = tieFound s i := by
    unfold fbClosed tieFound
    by_cases hr : filtReady s.garnet.outs[soTie i].fb (pget s 0x400B 0) = true
    · have hs1 : s1 = modSo (soTie i) (fun x => { x with fb := filtAccept x.fb f }) s := if_pos hr
      rw [hs1, if_pos hr, modSo_self]
      exact ⟨rfl, rfl, rfl, rfl, rfl, rfl, rfl⟩
    · have hs1 : s1 = s := if_neg hr
      rw [hs1, if_neg hr]
      exact ⟨rfl, rfl, rfl, rfl, rfl, rfl, rfl⟩
  obtain ⟨hpool, htxn, hparams, hberyl, hframe, hoff, hfb⟩ := hbase
  have hself := modTie_self i (fun x =>
    { x with fb := fbClosed s1 (soTie i), openSince := if fbClosed s1 (soTie i) then none else (x.openSince.orElse fun _ => some f) }) s1
  exact
    { fb := (congrArg TieSt.fb hself).trans hfb
      cmd := (congrArg TieSt.cmd hself).trans (congrArg (fun p : PoolSt => p.ties[i].cmd) hpool)
      offAt := hoff
      profiles := (congrArg PoolSt.profiles hpool :)
      txn := htxn
      params := hparams
      beryl := hberyl
      frame := hframe }

/-- The supervision of a contactor leaves the frame of its opening. -/
theorem contactFault_offAt (o : Fin 32) (s : State) : (contactFault o s).garnet.outs[o].offAt = s.garnet.outs[o].offAt := by
  unfold contactFault
  extract_lets x
  split
  · split
    · have hself := modSo_self o (fun x => { x with contact := true }) s
      exact (congrArg (fun g : GarnetSt => g.outs[o].offAt) (evp_garnet ..)).trans ((congrArg SafeOut.offAt hself).trans rfl)
    · rfl
  · rfl

theorem contactFault_takes (h : FeedbackTaken i s t) : FeedbackTaken i s (contactFault (soTie i) t) := by
  have hpool : (contactFault (soTie i) t).pool = t.pool := touches_contactFault.same .pool rfl
  exact
    { fb := by rw [hpool]; exact h.fb
      cmd := by rw [hpool]; exact h.cmd
      offAt := (contactFault_offAt ..).trans h.offAt
      profiles := by rw [hpool]; exact h.profiles
      txn := (show (contactFault (soTie i) t).txn = t.txn from touches_contactFault.same .txn rfl).trans h.txn
      params := (show (contactFault (soTie i) t).params = t.params from touches_contactFault.same .params rfl).trans h.params
      beryl := (show (contactFault (soTie i) t).beryl = t.beryl from touches_contactFault.same .beryl rfl).trans h.beryl
      frame := (show (contactFault (soTie i) t).frame = t.frame from touches_contactFault.same .frame rfl).trans h.frame }

/-- The state in which a tie's finding is decided. -/
def tieSeen (i : Fin 8) (s : State) : State := contactFault (soTie i) (acceptFeedback (soTie i) s)

theorem tieSeen_takes (i : Fin 8) (s : State) : FeedbackTaken i s (tieSeen i s) := contactFault_takes (acceptFeedback_takes i s)

theorem tieFeedback_eq (h : s.txn.txns = []) : exec (.tieFeedback i) s = .next (tieFinding2 i (tieSeen i s)) := by
  have htxn : (tieSeen i s).txn.txns = [] := by rw [(tieSeen_takes i s).txn, h]
  change ans (tieFinding2 i (confirmAll (tieSeen i s))) = _
  rw [confirmAll_none htxn]
  rfl

/-! ### What a finding leads to -/

theorem tieWeld_pool (i : Fin 8) (s : State) : (tieWeld i s).pool = (if s.pool.ties[i].welded then s.pool
    else (modTie i (fun x => { x with welded := true, openSince := none }) s).pool) := by
  unfold tieWeld
  split
  · rfl
  · extract_lets dom
    have hpool {u : State} : (retireObj 2 i dom 0x57 1 1 [] u).pool = u.pool := touches_retireObj.same .pool rfl
    rw [hpool, ev_pool]

theorem tieWeld_welded (i : Fin 8) (s : State) : (tieWeld i s).pool.ties[i].welded = true := by
  rw [tieWeld_pool]
  split
  · assumption
  · rw [modTie_self]

theorem tieWeld_keeps (i : Fin 8) (s : State) :
    (tieWeld i s).pool.ties[i].fb = s.pool.ties[i].fb ∧ (tieWeld i s).pool.ties[i].cmd = s.pool.ties[i].cmd := by
  rw [tieWeld_pool]
  split
  · exact ⟨rfl, rfl⟩
  · rw [modTie_self]
    exact ⟨rfl, rfl⟩

theorem tieFinding2_keeps (i : Fin 8) (s : State) : (tieFinding2 i s).pool.ties[i].fb = s.pool.ties[i].fb
    ∧ (tieFinding2 i s).pool.ties[i].cmd = s.pool.ties[i].cmd ∧ (tieFinding2 i s).params = s.params := by
  have hdrop : (tieDrop i s).pool = s.pool := touches_tieDrop.same .pool rfl
  obtain ⟨hfb, hcmd⟩ := tieWeld_keeps i s
  rw [show (tieFinding2 i s).params = s.params from touches_tieFinding2.same .params rfl]
  unfold tieFinding2
  extract_lets x
  split
  · exact ⟨rfl, rfl, rfl⟩
  · split
    · exact ⟨congrArg (fun p : PoolSt => p.ties[i].fb) hdrop, congrArg (fun p : PoolSt => p.ties[i].cmd) hdrop, rfl⟩
    · split
      · split
        · split
          · exact ⟨hfb, hcmd, rfl⟩
          · exact ⟨rfl, rfl, rfl⟩
        · exact ⟨rfl, rfl, rfl⟩
      · exact ⟨rfl, rfl, rfl⟩

theorem tieWindow_none (h : s.txn.txns = []) (i : Fin 8) : tieWindow s i = false := by
  unfold tieWindow
  rw [h]
  rfl

theorem runningFor_none (h : s.txn.txns = []) (p : Purpose) : runningFor s p = false := by
  unfold runningFor
  rw [h]
  rfl

theorem freeInternal_none (h : s.txn.txns = []) : freeInternal s = some 240 := by
  unfold freeInternal findTxn
  rw [h]
  rfl

theorem tieGroups_congr (hp : t.params = s.params) (hb : t.beryl = s.beryl) (hpr : t.pool.profiles = s.pool.profiles) :
    tieGroups t i = tieGroups s i := by
  have hget : ∀ id inst, pget t id inst = pget s id inst := pget_congr hp hb
  unfold tieGroups pgNeeds pgServes pgProfile pgBus
  simp only [hget, hpr]

theorem tieFinding2_drops (h : s.txn.txns = []) (hc : s.pool.ties[i].cmd = true) (hf : s.pool.ties[i].fb = false) :
    ∃ x ∈ (tieFinding2 i s).txn.txns, x.purpose = .tieBack i ∧ x.commitFrame = some (frameAfter s.frame 1)
      ∧ x.actions.map (fun a => a.act) = .tie i false :: (tieGroups s i).map fun (g : Fin 16) => Action.param 0x1804 g 0xFF := by
  have hdrop : tieFinding2 i s = tieDrop i s := by
    unfold tieFinding2
    rw [if_neg (Bool.eq_false_iff.mp (tieWindow_none h i))]
    exact if_pos ⟨hc, Bool.eq_false_iff.mp hf⟩
  rw [hdrop, tieDrop, if_neg (Bool.eq_false_iff.mp (runningFor_none h _))]
  exact ⟨_, mem_buildTxn (freeInternal_none h), rfl, rfl, (List.map_map ..).trans (List.map_id _)⟩

theorem tieFinding2_welds {f : Nat} (h : s.txn.txns = []) (hc : s.pool.ties[i].cmd = false) (hfb : s.pool.ties[i].fb = true)
    (hoff : s.garnet.outs[soTie i].offAt = some f) (hf : f + pget s 0x0202 0 ≤ s.frame) : tieFinding2 i s = tieWeld i s := by
  unfold tieFinding2
  extract_lets x
  rw [if_neg (Bool.eq_false_iff.mp (tieWindow_none h i)), if_neg fun hd => Bool.false_ne_true (hc.symm.trans hd.1),
    if_pos ⟨hfb, Bool.eq_false_iff.mp hc⟩, hoff]
  exact if_pos hf

/-! ### Module profiles -/

/-- The profile loads with one slot's chunks replaced. -/
def withLoad (slot : Fin 4) (c : Chunks) (s : State) : State := modPool (fun p => { p with loads := p.loads.set slot c }) s

section
variable {h : Hdr} {slot : Fin 4} {offset : Nat} {data : List Byte}

theorem profileLoadRules_rejects {img : List Byte} (ho : offset ∈ profileOffsets) (hb : profileBusy s slot = false)
    (hi : chunkImage profileOffsets (putChunk offset data s.pool.loads[slot]) = some img) (hbad : profileOk img = false) :
    profileLoadRules slot offset data s = .reject 0x1154 [] (withLoad slot {}) := by
  refine (dif_pos slot.isLt).trans ((if_neg (by simpa using ho)).trans ((if_neg (Bool.eq_false_iff.mp hb)).trans ?_))
  change (match chunkImage profileOffsets (putChunk offset data s.pool.loads[slot]) with
    | some img => if profileOk img then _ else _
    | none => _) = _
  rw [hi]
  exact if_neg (Bool.eq_false_iff.mp hbad)

theorem profileLoadRules_accepts (ho : offset ∈ profileOffsets) (hb : profileBusy s slot = false)
    (hok : ∀ img, chunkImage profileOffsets (putChunk offset data s.pool.loads[slot]) = some img → profileOk img = true) :
    profileLoadRules slot offset data s = .accept 0 none (withLoad slot (putChunk offset data s.pool.loads[slot])) := by
  refine (dif_pos slot.isLt).trans ((if_neg (by simpa using ho)).trans ((if_neg (Bool.eq_false_iff.mp hb)).trans ?_))
  change (match chunkImage profileOffsets (putChunk offset data s.pool.loads[slot]) with
    | some img => if profileOk img then _ else _
    | none => _) = _
  split
  · rename_i img hi
    exact if_pos (hok img hi)
  · rfl

/-- The rules of a profile's chunk read nothing of the link. -/
theorem profileLoadRules_entered : profileLoadRules slot offset data (entered h s) = profileLoadRules slot offset data s := by
  rw [entered_eq]
  rfl

theorem polProfileLoadX_rejects {img : List Byte} (ho : offset ∈ profileOffsets) (hl : data.length = 64) (hb : profileBusy s slot = false)
    (hp : Passes h 0x1880 true true s) (hi : chunkImage profileOffsets (putChunk offset data s.pool.loads[slot]) = some img)
    (hbad : profileOk img = false) :
    exec (.polProfileLoadX h slot offset data) s = .next (refuseNow h 0x1880 0x1154 []
      { entered h s with pool := { s.pool with loads := s.pool.loads.set slot {} } }) := by
  change ans (hostCmd h 0x1880 _ (decide (data.length = 64)) true [] _ s) = _
  rw [decide_eq_true hl, hostCmd_passes hp, profileLoadRules_entered, profileLoadRules_rejects ho hb hi hbad]
  dsimp only
  rw [entered_eq]
  rfl

theorem polProfileLoadX_accepts (ho : offset ∈ profileOffsets) (hl : data.length = 64) (hb : profileBusy s slot = false)
    (hp : Passes h 0x1880 true true s)
    (hok : ∀ img, chunkImage profileOffsets (putChunk offset data s.pool.loads[slot]) = some img → profileOk img = true) :
    exec (.polProfileLoadX h slot offset data) s = .next { accepted (.polProfileLoadX h slot offset data) h 0x1880 0 none s with
      pool := { s.pool with loads := s.pool.loads.set slot (putChunk offset data s.pool.loads[slot]) } } := by
  change ans (hostCmd h 0x1880 _ (decide (data.length = 64)) true [] _ s) = _
  rw [decide_eq_true hl, hostCmd_passes hp, profileLoadRules_entered, profileLoadRules_accepts ho hb hok]
  dsimp only
  rw [accepted_eq]
  rfl

theorem applyProfileLoad_installs {img : List Byte} (hi : chunkImage profileOffsets s.pool.loads[slot] = some img) :
    (applyProfileLoad slot s).pool.profiles[slot] = some img := by
  unfold applyProfileLoad
  rw [dif_pos slot.isLt]
  change (match chunkImage profileOffsets s.pool.loads[slot] with
    | some img => _
    | none => _ : State).pool.profiles[slot] = _
  rw [hi]
  dsimp only
  rw [ev_pool]
  exact Vector.getElem_set_self ..

end

/-- Settles O37: what the feedback of a tie is taken for, and how a profile's chunks come together. -/
theorem tiesAndProfilesKeepTheirState : Obligations.TiesAndProfilesKeepTheirState := by
  unfold Obligations.TiesAndProfilesKeepTheirState
  refine ⟨fun i s hnone => ?_, fun i f s hf hw => ?_, fun h slot offset data s ho hl hb hp => ⟨fun img hi hbad => ?_, fun hok => ?_⟩,
    fun h slot offset data img u hi => ?_, fun h s hp => ?_, fun h slot s hp => ?_⟩
  · have hseen := tieSeen_takes i s
    have htxn : (tieSeen i s).txn.txns = [] := by rw [hseen.txn, hnone]
    obtain ⟨hfb, hcmd, hparams⟩ := tieFinding2_keeps i (tieSeen i s)
    refine ⟨_, tieFeedback_eq hnone, hfb.trans hseen.fb, hcmd.trans hseen.cmd, hparams.trans hseen.params, fun hc hopen => ?_,
      fun f hc hclosed hoff hf => ?_⟩
    · have hdrop := tieFinding2_drops htxn (hseen.cmd.trans hc) (hseen.fb.trans hopen)
      rwa [hseen.frame, tieGroups_congr hseen.params hseen.beryl hseen.profiles] at hdrop
    · have hweld := tieFinding2_welds htxn (hseen.cmd.trans hc) (hseen.fb.trans hclosed) (hseen.offAt.trans hoff)
        (by rw [pget_congr hseen.params hseen.beryl, hseen.frame]; exact hf)
      rw [hweld]
      have hsame : (tieWeld i (tieSeen i s)).txn = (tieSeen i s).txn := touches_tieWeld.same .txn rfl
      exact ⟨tieWeld_welded .., hsame.trans hseen.txn⟩
  · have hrow : exec (.tieWeldCleared i) s = (if s.pool.ties[i].welded = true ∧ f + 8000 ≤ s.frame then
        .next (modTie i (fun x => { x with welded := false }) s) else .next s) := by
      change execTieWeldCleared i s = _
      unfold execTieWeldCleared
      dsimp only
      rw [hf]
      rfl
    rw [hrow]
    by_cases ht : f + 8000 ≤ s.frame
    · rw [if_pos ⟨hw, ht⟩, if_pos ht]
      rfl
    · rw [if_neg fun h => ht h.2, if_neg ht]
  · exact polProfileLoadX_rejects ho hl hb hp hi hbad
  · exact polProfileLoadX_accepts ho hl hb hp hok
  · have hedge : atEdge (.polProfileLoadX h slot offset data) h 0x1880 0 none u = applyProfileLoad slot u := atEdge_polProfileLoadX ..
    exact (congrArg (fun t : State => t.pool.profiles[slot]) hedge).trans (applyProfileLoad_installs hi)
  · exact congrArg ans (hostCmd_accepts hp rfl rfl rfl)
  · exact congrArg ans (hostCmd_accepts hp rfl rfl (if_neg (Nat.not_le.mpr slot.isLt)))

end Sys2Proof.Machine

end

section
/-! PROOF. Agate's decode lanes (R236 to R239). -/

namespace Sys2Proof.Machine

open Host (Outcome)

variable {s t : State} {k : Fin 8} {at_ : Rat} {r : RxFrame}

/-! ### Ports and lanes -/

theorem modV_self (k : Fin 8) (f : VPort → VPort) (s : State) : (modV k f s).vlk.ports[k] = f s.vlk.ports[k] := upd_self ..

theorem modV_other {j k : Fin 8} (hj : j ≠ k) (f : VPort → VPort) (s : State) : (modV k f s).vlk.ports[j] = s.vlk.ports[j] :=
  upd_other hj

theorem mem_insertBy {α : Type} {before : α → α → Bool} {x y : α} {l : List α} (h : y ∈ insertBy before x l) : y = x ∨ y ∈ l := by
  induction l with
  | nil => exact .inl (List.mem_singleton.mp h)
  | cons z l ih =>
    unfold insertBy at h
    split at h
    · exact List.mem_cons.mp h
    · rcases List.mem_cons.mp h with rfl | h
      · exact .inr (List.mem_cons_self ..)
      · exact (ih h).imp_right (List.mem_cons_of_mem _)

theorem mem_of_mem_sortBy {α : Type} {before : α → α → Bool} {y : α} {l : List α} (h : y ∈ sortBy before l) : y ∈ l := by
  have hfold : ∀ (l acc : List α), y ∈ l.foldl (fun acc x => insertBy before x acc) acc → y ∈ acc ∨ y ∈ l := by
    intro l
    induction l with
    | nil => exact fun acc h => .inl h
    | cons x l ih =>
      intro acc h
      rcases ih _ h with h | h
      · rcases mem_insertBy h with rfl | h
        · exact .inr (List.mem_cons_self ..)
        · exact .inl h
      · exact .inr (List.mem_cons_of_mem _ h)
  exact (hfold l [] h).resolve_left List.not_mem_nil

/-- A frame that waits for a lane has not been decoded. -/
theorem waiting_not_done {j : Fin 8} (h : (j, r) ∈ waitingFrames s at_) : s.vlk.ports[j].rx = some r ∧ r.done = false := by
  obtain ⟨i, -, hi⟩ := List.mem_filterMap.mp h
  split at hi
  · rename_i q hq
    split at hi
    · rename_i hgo
      obtain ⟨rfl, rfl⟩ := Prod.mk.inj (Option.some.inj hi)
      simp only [Bool.and_eq_true, Bool.not_eq_true'] at hgo
      exact ⟨hq, hgo.1.2⟩
    · cases hi
  · cases hi

/-- A lane that comes free goes to a frame that waits, or to none. -/
theorem grantLane_cases (at_ : Rat) (s : State) : grantLane at_ s = s
    ∨ ∃ l j q, (j, q) ∈ waitingFrames s at_ ∧ grantLane at_ s = claimLane j l at_ s := by
  unfold grantLane
  split
  · rename_i l j q rest hl hw
    exact .inr ⟨l, j, q, mem_of_mem_sortBy (hw ▸ List.mem_cons_self ..), rfl⟩
  · exact .inl rfl

theorem grantLane_keeps (hr : s.vlk.ports[k].rx = some r) (hd : r.done = true) {l : Fin 4} (hl : s.vlk.lanes[l] ≠ some k) :
    (grantLane at_ s).vlk.ports[k] = s.vlk.ports[k] ∧ (grantLane at_ s).vlk.lanes[l] ≠ some k := by
  rcases grantLane_cases at_ s with h | ⟨m, j, q, hmem, h⟩
  · rw [h]
    exact ⟨rfl, hl⟩
  · have hj : j ≠ k := by
      rintro rfl
      obtain ⟨hq, hnd⟩ := waiting_not_done hmem
      obtain rfl : r = q := Option.some.inj (hr.symm.trans hq)
      exact Bool.false_ne_true (hnd.symm.trans hd)
    rw [h]
    refine ⟨modV_other (Ne.symm hj) _ _, ?_⟩
    change (s.vlk.lanes.set m (some j))[l] ≠ some k
    by_cases hm : l = m
    · subst hm
      rw [show (s.vlk.lanes.set l (some j))[l] = some j from Vector.getElem_set_self ..]
      exact fun h => hj (Option.some.inj h)
    · rw [show (s.vlk.lanes.set m (some j))[l] = s.vlk.lanes[l] from Vector.getElem_set_ne _ _ fun h => hm (Fin.ext h.symm)]
      exact hl

/-- A frame whose decoding is over. -/
def RxFrame.over (r : RxFrame) : RxFrame := { r with lane := none, done := true }

theorem releaseLane_frees {l : Fin 4} (hr : s.vlk.ports[k].rx = some r) (hl : r.lane = some l) :
    (releaseLane k at_ s).vlk.ports[k] = { s.vlk.ports[k] with rx := some r.over } ∧ (releaseLane k at_ s).vlk.lanes[l] ≠ some k := by
  let u := modV k (fun p => { p with rx := p.rx.map RxFrame.over }) (modVlk (fun v => { v with lanes := v.lanes.set l none }) s)
  have hrow : releaseLane k at_ s = grantLane at_ u := by
    unfold releaseLane
    rw [hr]
    dsimp only [Option.bind_some]
    rw [hl]
    rfl
  have hport : u.vlk.ports[k] = { s.vlk.ports[k] with rx := some r.over } := by
    refine (modV_self k _ _).trans ?_
    rw [show (modVlk (fun v => { v with lanes := v.lanes.set l none }) s).vlk.ports[k] = s.vlk.ports[k] from rfl, hr]
    rfl
  have hlane : u.vlk.lanes[l] ≠ some k := by
    rw [show u.vlk.lanes[l] = none from Vector.getElem_set_self ..]
    exact Option.some_ne_none k ∘ Eq.symm
  obtain ⟨hk, hl'⟩ := grantLane_keeps (at_ := at_) (by rw [hport]) rfl hlane
  rw [hrow]
  exact ⟨hk.trans hport, hl'⟩

theorem releaseLane_none (h : s.vlk.ports[k].rx.bind (·.lane) = none) : releaseLane k at_ s = s := by
  unfold releaseLane
  rw [h]

/-! ### A preamble -/

/-- The state with a preamble of a port stamped. -/
def preambled (k : Fin 8) (at_ : Rat) (s : State) : State :=
  prepare k (lineTime at_ (modV k (fun p => { p with rx := some { ts := at_ }, sack := .none }) s))

theorem prepare_keeps (k : Fin 8) (s : State) : (prepare k s).vlk.lanes = s.vlk.lanes ∧ freeLane (prepare k s) = freeLane s
    ∧ (prepare k s).vlk.ports[k].rx = s.vlk.ports[k].rx ∧ (prepare k s).vlk.ports[k].sack = s.vlk.ports[k].sack
    ∧ (prepare k s).params = s.params := by
  unfold prepare
  extract_lets p b n
  split
  · refine ⟨rfl, rfl, ?_, ?_, rfl⟩ <;> rw [modV_self]
  · exact ⟨rfl, rfl, rfl, rfl, rfl⟩

theorem preambled_keeps (k : Fin 8) (at_ : Rat) (s : State) : (preambled k at_ s).vlk.lanes = s.vlk.lanes
    ∧ freeLane (preambled k at_ s) = freeLane s ∧ (preambled k at_ s).vlk.ports[k].rx = some { ts := at_ }
    ∧ (preambled k at_ s).vlk.ports[k].sack = .none ∧ (preambled k at_ s).params = s.params := by
  obtain ⟨hlanes, hfree, hrx, hsack, hparams⟩ :=
    prepare_keeps k (lineTime at_ (modV k (fun p => { p with rx := some { ts := at_ }, sack := .none }) s))
  have hself := modV_self k (fun p => { p with rx := some { ts := at_ }, sack := .none }) s
  exact ⟨hlanes, hfree, hrx.trans (congrArg VPort.rx hself), hsack.trans (congrArg VPort.sack hself), hparams⟩

theorem preambleDetected_row (hu : portUsable s k = true) (ht : t1sOf s k = none) (hr : s.vlk.ports[k].rx = none) :
    exec (.preambleDetected k at_) s = .next (match freeLane (preambled k at_ s) with
      | some l => claimLane k l at_ (preambled k at_ s)
      | none => preambled k at_ s) := by
  refine (if_neg ?_).trans ?_
  · rw [hu, ht, hr]
    decide
  · change (match freeLane (preambled k at_ s) with
      | some l => ans (claimLane k l at_ (preambled k at_ s))
      | none => ans (preambled k at_ s)) = _
    split <;> rfl

theorem preambleDetected_claims {l : Fin 4} (hu : portUsable s k = true) (ht : t1sOf s k = none) (hr : s.vlk.ports[k].rx = none)
    (hl : freeLane s = some l) : ∃ t, exec (.preambleDetected k at_) s = .next t ∧ t.vlk.lanes = s.vlk.lanes.set l (some k)
      ∧ t.vlk.ports[k].rx = some { ts := at_, lane := some l, claimed := at_ } ∧ t.vlk.ports[k].sack = .none ∧ t.params = s.params := by
  obtain ⟨hlanes, hfree, hrx, hsack, hparams⟩ := preambled_keeps k at_ s
  have hrow := preambleDetected_row (at_ := at_) hu ht hr
  rw [hfree, hl] at hrow
  have hport : (claimLane k l at_ (preambled k at_ s)).vlk.ports[k] = { (preambled k at_ s).vlk.ports[k] with
      rx := (preambled k at_ s).vlk.ports[k].rx.map fun r => { r with lane := some l, claimed := at_ } } := modV_self ..
  refine ⟨_, hrow, congrArg (fun v => v.set l (some k)) hlanes, ?_, ?_, hparams⟩
  · rw [hport, hrx]
    rfl
  · rw [hport, hsack]

theorem preambleDetected_waits (hu : portUsable s k = true) (ht : t1sOf s k = none) (hr : s.vlk.ports[k].rx = none)
    (hl : freeLane s = none) : ∃ t, exec (.preambleDetected k at_) s = .next t ∧ t.vlk.lanes = s.vlk.lanes
      ∧ t.vlk.ports[k].rx = some { ts := at_ } := by
  obtain ⟨hlanes, hfree, hrx, -, -⟩ := preambled_keeps k at_ s
  have hrow := preambleDetected_row (at_ := at_) hu ht hr
  rw [hfree, hl] at hrow
  exact ⟨_, hrow, hlanes, hrx⟩

/-! ### Frame control and payload -/

theorem frameControlDecoded_own (len rifs : Rat) (hr : s.vlk.ports[k].rx = some r) (hn : r.len = none) (ht : r.ts + 60 ≤ at_) :
    ∃ t, exec (.frameControlDecoded k true len rifs at_) s = .next t
      ∧ t.vlk.ports[k].rx = some { r with len := some len, rifs := rifs } ∧ t.vlk.ports[k].sack = .allFailed ∧ t.vlk.lanes = s.vlk.lanes := by
  have hrow : exec (.frameControlDecoded k true len rifs at_) s = .next (lineTime at_ (modV k (fun p =>
      { p with rx := some { r with len := some len, rifs := rifs }, sack := .allFailed }) s)) := by
    change execFrameControlDecoded k true len rifs at_ s = _
    unfold execFrameControlDecoded
    rw [hr]
    exact (if_neg fun h => h.elim (fun h => by rw [hn] at h; exact Bool.false_ne_true h) (Rat.not_lt.mpr ht)).trans (if_pos rfl)
  have hself := modV_self k (fun p => { p with rx := some { r with len := some len, rifs := rifs }, sack := .allFailed }) s
  exact ⟨_, hrow, congrArg VPort.rx hself, congrArg VPort.sack hself, rfl⟩

theorem frameControlDecoded_foreign (len rifs : Rat) {l : Fin 4} (hr : s.vlk.ports[k].rx = some r) (hn : r.len = none)
    (ht : r.ts + 60 ≤ at_) (hl : r.lane = some l) : ∃ t, exec (.frameControlDecoded k false len rifs at_) s = .next t
      ∧ t.vlk.ports[k].rx = none ∧ t.vlk.lanes[l] ≠ some k := by
  have hrow : exec (.frameControlDecoded k false len rifs at_) s =
      .next (modV k (fun p => { p with rx := none }) (releaseLane k at_ (lineTime at_ s))) := by
    change execFrameControlDecoded k false len rifs at_ s = _
    unfold execFrameControlDecoded
    rw [hr]
    exact (if_neg fun h => h.elim (fun h => by rw [hn] at h; exact Bool.false_ne_true h) (Rat.not_lt.mpr ht)).trans (if_neg Bool.false_ne_true)
  obtain ⟨-, hlane⟩ := releaseLane_frees (s := lineTime at_ s) (at_ := at_) hr hl
  exact ⟨_, hrow, congrArg VPort.rx (modV_self k (fun p => { p with rx := none }) _), hlane⟩

/-- A port whose payload has been decoded, its lane still held. -/
def decodedPort (at_ : Rat) (r : RxFrame) (ok : Bool) (p : VPort) : VPort :=
  { p with rx := p.rx.map fun r => { r with done := true }
           sack := if at_ ≤ r.te + r.rifs - 12 then .result ok else p.sack
           decoded := satInc p.decoded, failed := if ok then p.failed else satInc p.failed }

theorem payloadDecoded_loads {ok : Bool} {l : Fin 4} {len : Rat} (hr : s.vlk.ports[k].rx = some r) (hl : r.lane = some l)
    (hlen : r.len = some len) (hd : r.done = false) (ht : r.ready ≤ at_) : ∃ t, exec (.payloadDecoded k ok at_) s = .next t
      ∧ t.vlk.ports[k].sack = (if at_ ≤ r.te + r.rifs - 12 then .result ok else s.vlk.ports[k].sack)
      ∧ t.vlk.ports[k].decoded = satInc s.vlk.ports[k].decoded
      ∧ t.vlk.ports[k].failed = (if ok then s.vlk.ports[k].failed else satInc s.vlk.ports[k].failed) ∧ t.vlk.lanes[l] ≠ some k := by
  have hrow : exec (.payloadDecoded k ok at_) s = .next (releaseLane k at_ (modV k (decodedPort at_ r ok) (lineTime at_ s))) := by
    change execPayloadDecoded k ok at_ s = _
    unfold execPayloadDecoded
    rw [hr]
    refine (if_neg ?_).trans ?_
    · rintro (h | h | h | h)
      · rw [hl] at h; exact Bool.false_ne_true h
      · rw [hlen] at h; exact Bool.false_ne_true h
      · exact Bool.false_ne_true (hd.symm.trans h)
      · exact Rat.not_lt.mpr ht h
    · simp only [decide_eq_true_eq]
      rfl
  have hself : (modV k (decodedPort at_ r ok) (lineTime at_ s)).vlk.ports[k] = decodedPort at_ r ok s.vlk.ports[k] := modV_self ..
  have hrx : (modV k (decodedPort at_ r ok) (lineTime at_ s)).vlk.ports[k].rx = some { r with done := true } := by
    rw [hself, decodedPort, hr]
    rfl
  obtain ⟨hport, hlane⟩ := releaseLane_frees (at_ := at_) hrx hl
  rw [hself] at hport
  exact ⟨_, hrow, congrArg VPort.sack hport, congrArg VPort.decoded hport, congrArg VPort.failed hport, hlane⟩

/-! ### A missed frame, an acknowledgement -/

/-- A port whose frame no lane claimed. -/
def missedPort (p : VPort) : VPort :=
  { p with rx := p.rx.map (fun r => { r with done := true }), misses := satInc p.misses, missSince := p.missSince + 1 }

theorem ite_either {α : Type} (c : Prop) [Decidable c] (x y : α) : ite c x y = x ∨ ite c x y = y := by
  by_cases h : c
  · exact .inl (if_pos h)
  · exact .inr (if_neg h)

theorem laneMiss_counts (hr : s.vlk.ports[k].rx = some r) : (laneMiss k s).vlk.lanes = s.vlk.lanes
    ∧ (laneMiss k s).vlk.ports[k].misses = satInc s.vlk.ports[k].misses
    ∧ (laneMiss k s).vlk.ports[k].rx = some { r with done := true } := by
  have hself : (modV k missedPort s).vlk.ports[k] = missedPort s.vlk.ports[k] := modV_self ..
  have hrx : (modV k missedPort s).vlk.ports[k].rx = some { r with done := true } := by
    rw [hself, missedPort, hr]
    rfl
  have hmisses : (modV k missedPort s).vlk.ports[k].misses = satInc s.vlk.ports[k].misses := by rw [hself, missedPort]
  have htold := modV_self k (fun p => { p with missSince := 0, missSent := some s.frame }) (modV k missedPort s)
  have hcases : laneMiss k s = ev 0x64 k 0 (s.vlk.ports[k].missSince + 1)
      (modV k (fun p => { p with missSince := 0, missSent := some s.frame }) (modV k missedPort s))
      ∨ laneMiss k s = modV k missedPort s := ite_either _ _ _
  rcases hcases with h | h
  · rw [h, ev_vlk]
    exact ⟨rfl, (congrArg VPort.misses htold).trans hmisses, (congrArg VPort.rx htold).trans hrx⟩
  · rw [h]
    exact ⟨rfl, hmisses, hrx⟩

theorem vlkLaneMiss_counts {len : Rat} (hr : s.vlk.ports[k].rx = some r) (hl : r.lane = none) (hd : r.done = false)
    (hlen : r.len = some len) (ht : r.limit < at_) : exec (.vlkLaneMiss k at_) s = .next (laneMiss k (lineTime at_ s)) := by
  change execVlkLaneMiss k at_ s = _
  unfold execVlkLaneMiss
  rw [hr]
  refine if_neg ?_
  rintro (h | h | h | h)
  · rw [hl] at h; exact Bool.false_ne_true h
  · exact Bool.false_ne_true (hd.symm.trans h)
  · rw [hlen] at h; exact Bool.false_ne_true h
  · exact Rat.not_le.mpr ht h

theorem vlkLaneMiss_waits (hr : s.vlk.ports[k].rx = some r) (ht : at_ ≤ r.limit) : exec (.vlkLaneMiss k at_) s = .next s := by
  change execVlkLaneMiss k at_ s = _
  unfold execVlkLaneMiss
  rw [hr]
  exact if_pos (.inr (.inr (.inr ht)))

theorem sackSent_leaves {len : Rat} {ok : Bool} (hr : s.vlk.ports[k].rx = some r) (hlen : r.len = some len)
    (ht : r.te + r.rifs - 1 / 2 ≤ at_) (hd : r.done = true) (hs : s.vlk.ports[k].sack = .result ok) :
    exec (.sackSent k at_) s = .next (lineTime at_ (modV k (fun p => { p with rx := none, sack := .none }) (emit (.sack k ok) s))) := by
  change execSackSent k at_ s = _
  unfold execSackSent
  rw [hr]
  refine (if_neg ?_).trans ?_
  · rw [hlen, hd]
    exact fun h => h.elim (Bool.false_ne_true ·) fun h => h.elim (Rat.not_lt.mpr ht) fun h => h.2 rfl
  · rw [if_pos hd]
    dsimp only
    rw [hs]
    rfl

/-- Settles O38: a lane that is freed goes to a frame not yet decoded, so never back to the port that held it. -/
theorem framesClaimDecodeLanes : Obligations.FramesClaimDecodeLanes := by
  unfold Obligations.FramesClaimDecodeLanes
  refine fun k at_ s => ⟨fun hu ht hr => ⟨fun l hl => preambleDetected_claims hu ht hr hl, preambleDetected_waits hu ht hr⟩,
    fun r hr => ⟨fun len rifs hn ht => frameControlDecoded_own len rifs hr hn ht,
      fun len rifs l hn ht hl => frameControlDecoded_foreign len rifs hr hn ht hl,
      fun ok l len hl hlen hd ht => payloadDecoded_loads hr hl hlen hd ht, fun len hl hd hlen ht => ?_,
      fun len _ _ ht => vlkLaneMiss_waits hr ht, fun len ok hlen ht hd hs => ?_⟩⟩
  · obtain ⟨hlanes, hmisses, hrx⟩ := laneMiss_counts (s := lineTime at_ s) hr
    exact ⟨_, vlkLaneMiss_counts hr hl hd hlen ht, hmisses, hlanes, hrx⟩
  · have hself := modV_self k (fun p => { p with rx := none, sack := .none }) (emit (.sack k ok) s)
    exact ⟨_, sackSent_leaves hr hlen ht hd hs, rfl, congrArg VPort.rx hself, congrArg VPort.sack hself, rfl⟩

end Sys2Proof.Machine

end

section
/-! PROOF. Matching, discovery, TCP and TLS of a vehicle link (R235, R240 to R246). -/

namespace Sys2Proof.Machine

open Host (Outcome)

variable {s t u : State} {k : Fin 8}

/-! ### A link that goes down -/

/-- The port of a link that has gone down. -/
def downPort (c : Nat) (p : VPort) : VPort := { p with down := true, cause := c, timers := {} }

theorem linkFail_parts {c : Nat} (hd : s.vlk.ports[k].down = false) (hs : s.vlk.ports[k].st ≠ .off) :
    (linkFail k c s).vlk = (modV k (downPort c) s).vlk ∧ (linkFail k c s).garnet.evNext = s.garnet.evNext ++ [(0x63, k.val, 0, c)] := by
  unfold linkFail
  rw [if_neg (not_or.mpr ⟨Bool.eq_false_iff.mp hd, hs⟩)]
  extract_lets st u
  have hu : u.vlk = (modV k (downPort c) s).vlk ∧ u.garnet.evNext = s.garnet.evNext ++ [(0x63, k.val, 0, c)] := ⟨rfl, rfl⟩
  obtain ⟨hvlk, hnext⟩ := hu
  split
  · exact ⟨Eq.trans (touches_linkFails.same .vlk rfl) hvlk, (congrArg GarnetSt.evNext (touches_linkFails.same .garnet rfl)).trans hnext⟩
  · exact ⟨Eq.trans (touches_stopSession.same .vlk rfl) hvlk, (congrArg GarnetSt.evNext (touches_stopSession.same .garnet rfl)).trans hnext⟩

theorem linkFail_port {c : Nat} (hd : s.vlk.ports[k].down = false) (hs : s.vlk.ports[k].st ≠ .off) :
    (linkFail k c s).vlk.ports[k] = downPort c s.vlk.ports[k] := by
  obtain ⟨hvlk, -⟩ := linkFail_parts (c := c) hd hs
  rw [hvlk]
  exact modV_self ..

theorem linkFail_down (c : Nat) (hd : s.vlk.ports[k].down = false) (hs : s.vlk.ports[k].st ≠ .off) : LinkDown k c s (linkFail k c s) := by
  have hport := linkFail_port (c := c) hd hs
  obtain ⟨-, hnext⟩ := linkFail_parts (c := c) hd hs
  exact ⟨congrArg VPort.down hport, congrArg VPort.cause hport, congrArg VPort.timers hport, hnext⟩

theorem LinkDown.of_evNext {c : Nat} (h : LinkDown k c u t) (he : u.garnet.evNext = s.garnet.evNext) : LinkDown k c s t := by
  obtain ⟨hd, hc, ht, hn⟩ := h
  exact ⟨hd, hc, ht, hn.trans (congrArg (· ++ _) he)⟩

theorem tlsFail_down (alert : Nat) (hd : s.vlk.ports[k].down = false) (hs : s.vlk.ports[k].st ≠ .off) :
    (tlsFail k alert s).vlk.ports[k].down = true ∧ (tlsFail k alert s).vlk.ports[k].cause = 4 := by
  have hport : (tlsFail k alert s).vlk.ports[k] = downPort 4 s.vlk.ports[k] := linkFail_port (s := evNext 0x65 k 0 alert s) hd hs
  exact ⟨congrArg VPort.down hport, congrArg VPort.cause hport⟩

/-- A cause of states that a link passes only while it is up. -/
theorem ne_off_of_cause {c : Nat} (hc : c = 1 ∨ c = 2 ∨ c = 3 ∨ c = 6) (h : linkCauseHolds s k c = true) : s.vlk.ports[k].st ≠ .off := by
  intro hoff
  rcases hc with rfl | rfl | rfl | rfl
  all_goals
    unfold linkCauseHolds at h
    dsimp only at h
    rw [hoff] at h
    exact absurd h (by simp)

theorem setupOn_down {l : List VState} (h : setupOn s k l = true) : s.vlk.ports[k].down = false := by
  simp only [setupOn, Bool.and_eq_true, Bool.not_eq_true'] at h
  exact h.1.2

/-! ### Matching -/

theorem toV_self (k : Fin 8) (st : VState) (s : State) :
    (toV k st s).vlk.ports[k] = { s.vlk.ports[k] with st := st, entered := s.frame } := modV_self ..

theorem toV_modV (k : Fin 8) (st : VState) (f : VPort → VPort) (s : State) :
    (toV k st (modV k f s)).vlk.ports[k] = { f s.vlk.ports[k] with st := st, entered := s.frame } := by
  rw [toV_self, modV_self]
  rfl

/-- A port that begins to match under an identifier of the vehicle. -/
def matchBegun (run due : Nat) (p : VPort) : VPort :=
  { p with slac := { runId := run, fails := p.slac.fails }, timers := { p.timers with match_ := some due, join := none } }

theorem cmSlacParmReq_begins (run : Nat) (hon : slacOn s k = true) (hst : s.vlk.ports[k].st = .waitSlac) :
    ∃ t, exec (.cmSlacParmReq k run) s = .next t ∧ t.vlk.ports[k].st = .matching ∧ t.vlk.ports[k].slac.runId = run
      ∧ t.vlk.ports[k].timers.match_ = some (s.frame + pget s 0x2007 0) ∧ t.outbox = s.outbox ++ [.slac k 1 [run]] := by
  have hrow : exec (.cmSlacParmReq k run) s = .next (emit (.slac k 1 [run])
      (toV k .matching (modV k (matchBegun run (s.frame + pget s 0x2007 0)) s))) := if_pos ⟨hon, hst⟩
  have hself := toV_modV k .matching (matchBegun run (s.frame + pget s 0x2007 0)) s
  exact ⟨_, hrow, congrArg VPort.st hself, congrArg (fun p : VPort => p.slac.runId) hself,
    congrArg (fun p : VPort => p.timers.match_) hself, rfl⟩

theorem mSound_counts (run att : Nat) (hon : slacOn s k = true) (hst : s.vlk.ports[k].st = .matching)
    (hr : s.vlk.ports[k].slac.runId = run) (hn : s.vlk.ports[k].slac.sounds.length < 10) (hj : s.vlk.ports[k].timers.join = none) :
    ∃ t, exec (.mSound k run att) s = .next t ∧ t.vlk.ports[k].slac.sounds = s.vlk.ports[k].slac.sounds ++ [att]
      ∧ t.outbox = s.outbox ++ [.slac k 2 [run, s.vlk.ports[k].slac.sounds.length + 1, meanAtt (s.vlk.ports[k].slac.sounds ++ [att])]] := by
  have hself := modV_self k (fun p => { p with slac := { s.vlk.ports[k].slac with
    sounds := s.vlk.ports[k].slac.sounds ++ [att], meanAtt := meanAtt (s.vlk.ports[k].slac.sounds ++ [att]) } }) s
  refine ⟨_, if_pos ⟨hon, hst, hr, hn, by rw [hj]; rfl⟩, congrArg (fun p : VPort => p.slac.sounds) hself, ?_⟩
  rw [List.length_append]
  rfl

theorem cmSlacMatchReq_answers (run : Nat) (hon : slacOn s k = true) (hst : s.vlk.ports[k].st = .matching)
    (hr : s.vlk.ports[k].slac.runId = run) (hn : s.vlk.ports[k].slac.sounds ≠ []) (hj : s.vlk.ports[k].timers.join = none) :
    ∃ t, exec (.cmSlacMatchReq k run) s = .next t ∧ t.vlk.ports[k].timers.join = some (s.frame + pget s 0x2008 0)
      ∧ t.outbox = s.outbox ++ [.slac k 3 [run, t.vlk.ports[k].slac.nmk]] := by
  have hself := modV_self k (fun p => { p with slac := { s.vlk.ports[k].slac with nmk := leNat (freeBytes s 16) }
                                               timers := { p.timers with match_ := none, join := some (s.frame + pget s 0x2008 0) } }) s.draw
  have hnmk := congrArg (fun p : VPort => p.slac.nmk) hself
  refine ⟨_, if_pos ⟨hon, hst, hr, by simpa using hn, by rw [hj]; rfl⟩, congrArg (fun p : VPort => p.timers.join) hself, ?_⟩
  exact congrArg (fun n => s.outbox ++ [Out.slac k 3 [run, n]]) hnmk.symm

theorem cmValidateReq_answers (run : Nat) (hon : slacOn s k = true) (hst : s.vlk.ports[k].st = .matching)
    (hr : s.vlk.ports[k].slac.runId = run) : ∃ t, exec (.cmValidateReq k run) s = .next t
      ∧ t.outbox = s.outbox ++ [.slac k 4 (if pbool s 0x2009 0 then [1, s.vlk.ports[k].slac.toggles] else [0, 0])]
      ∧ t.vlk.ports[k].slac.valid = (pbool s 0x2009 0 || s.vlk.ports[k].slac.valid) := by
  have hself := modV_self k (fun p => { p with slac := { s.vlk.ports[k].slac with valid := true } }) s
  cases hv : pbool s 0x2009 0
  · exact ⟨_, (if_pos ⟨hon, hst, hr⟩).trans (if_neg (Bool.eq_false_iff.mp hv)), rfl, rfl⟩
  · exact ⟨_, (if_pos ⟨hon, hst, hr⟩).trans (if_pos hv), rfl, congrArg (fun p : VPort => p.slac.valid) hself⟩

theorem vlkSlacRetry_waits (hst : s.vlk.ports[k].st = .matching) (hd : s.vlk.ports[k].down = false)
    (hm : expired s.vlk.ports[k].timers.match_ s.frame = true) (hi : expired s.vlk.ports[k].timers.init s.frame = false) :
    ∃ t, exec (.vlkSlacRetry k) s = .next t ∧ t.vlk.ports[k].st = .waitSlac
      ∧ t.vlk.ports[k].slac = { fails := s.vlk.ports[k].slac.fails + 1 } := by
  have hself := toV_modV k .waitSlac (fun p => { p with slac := { fails := s.vlk.ports[k].slac.fails + 1 }
                                                        timers := { p.timers with match_ := none } }) s
  refine ⟨_, if_pos ⟨hst, Bool.eq_false_iff.mp hd, hm, Bool.eq_false_iff.mp hi⟩, ?_⟩
  rw [ev_vlk]
  exact ⟨congrArg VPort.st hself, congrArg VPort.slac hself⟩

theorem vlkSlacMatched_joins (hon : slacOn s k = true) (hst : s.vlk.ports[k].st = .matching) (hj : s.vlk.ports[k].timers.join ≠ none) :
    ∃ t, exec (.vlkSlacMatched k) s = .next t ∧ t.vlk.ports[k].st = .sdp
      ∧ t.vlk.ports[k].timers = { setup := some (s.frame + pget s 0x200A 0) } := by
  have hself := toV_modV k .sdp (fun p => { p with timers := { setup := some (s.frame + pget s 0x200A 0) } }) s
  refine ⟨_, if_pos ⟨hon, hst, Option.isSome_iff_ne_none.mpr hj⟩, ?_⟩
  rw [ev_vlk]
  exact ⟨congrArg VPort.st hself, congrArg VPort.timers hself⟩

/-! ### Failures of Table VLK-8 -/

theorem vlkLinkLost_down {c : Nat} (hc : linkCauseHolds s k c = true) (hs : s.vlk.ports[k].st ≠ .off) (hd : s.vlk.ports[k].down = false) :
    ∃ t, exec (.vlkLinkLost k c) s = .next t ∧ LinkDown k c s t := ⟨_, if_pos hc, linkFail_down c hd hs⟩

theorem linkTimeout_down {c : Nat} (hc : c = 1 ∨ c = 2 ∨ c = 3 ∨ c = 6) (h : linkCauseHolds s k c = true)
    (hd : s.vlk.ports[k].down = false) : LinkDown k c s (linkFail k c s) := linkFail_down c hd (ne_off_of_cause hc h)

theorem releaseLane_cause (k : Fin 8) (x : Rat) (s : State) : (releaseLane k x s).vlk.ports[k].cause = s.vlk.ports[k].cause := by
  cases hr : s.vlk.ports[k].rx with
  | none => rw [releaseLane_none (by rw [hr]; rfl)]
  | some r =>
    cases hl : r.lane with
    | none => rw [releaseLane_none (by rw [hr]; exact hl)]
    | some l => rw [(releaseLane_frees hr hl).1]

theorem vlkOff_port (k : Fin 8) (s : State) : (vlkOff k s).vlk.ports[k].st = .off ∧ (vlkOff k s).vlk.ports[k].timers = {}
    ∧ (vlkOff k s).vlk.ports[k].cause = s.vlk.ports[k].cause := by
  unfold vlkOff
  extract_lets f s1 s2
  have h2 : s2.vlk = s1.vlk := by
    change (if s1.vlk.ports[k].tcp then emit (.tcp k 4) s1 else s1).vlk = _
    split <;> rfl
  have hself := modV_self k (fun p =>
      { entered := f, cause := p.cause, slac := { meanAtt := p.slac.meanAtt }, decoded := p.decoded, misses := p.misses,
        missSince := p.missSince, missSent := p.missSent, failed := p.failed, raUses := p.raUses, raDrops := p.raDrops,
        loopFail := p.loopFail }) s2
  refine ⟨congrArg VPort.st hself, congrArg VPort.timers hself, (congrArg VPort.cause hself).trans ?_⟩
  rw [h2]
  exact releaseLane_cause ..

/-! ### 10BASE-T1S -/

/-- A port whose set-up must be over in a frame. -/
def setupPort (due : Nat) (p : VPort) : VPort := { p with timers := { setup := some due } }

/-- The state with the PLCA of a port told. -/
def plcaTold (port : Fin 2) (on : Bool) (k : Fin 8) (s : State) : State :=
  ev 0x68 k 0 (if on then 1 else 0) (modVlk (fun v => { v with t1s := v.t1s.set port { plca := on } }) s)

theorem plcaTold_vlk (port : Fin 2) (on : Bool) (k : Fin 8) (s : State) :
    (plcaTold port on k s).vlk = { s.vlk with t1s := s.vlk.t1s.set port { plca := on } } := ev_vlk ..

theorem plcaTold_plca (port : Fin 2) (on : Bool) (k : Fin 8) (s : State) : (plcaTold port on k s).vlk.t1s[port].plca = on := by
  rw [plcaTold_vlk]
  exact congrArg T1S.plca (Vector.getElem_set_self ..)

theorem t1sPlcaRunning_opens {port : Fin 2} (ho : t1sOutlet s port = some k) (hk : s.outlets[k].st = .linking) (hu : portUsable s k = true)
    (hp : s.vlk.t1s[port].plca = false) (hs : s.vlk.ports[k].st = .off) :
    ∃ t, exec (.t1sPlcaRunning port) s = .next t ∧ t.vlk.t1s[port].plca = true ∧ t.vlk.ports[k].st = .sdp := by
  have hout : (plcaTold port true k s).outlets[k].st = .linking :=
    (congrArg (fun v : Vector Outlet 8 => v[k].st) (ev_outlets ..)).trans hk
  have hport : (plcaTold port true k s).vlk.ports[k].st = .off := by
    rw [plcaTold_vlk]
    exact hs
  have hrow : exec (.t1sPlcaRunning port) s =
      .next (toV k .sdp (modV k (setupPort (s.frame + pget s 0x200A 0)) (plcaTold port true k s))) := by
    change execT1sPlcaRunning port s = _
    unfold execT1sPlcaRunning
    rw [ho]
    refine (if_neg ?_).trans (if_pos ⟨hout, hport⟩)
    rw [hk, hu, hp]
    decide
  exact ⟨_, hrow, plcaTold_plca port true k s, congrArg VPort.st (toV_modV ..)⟩

theorem t1sLinkLoss_down {port : Fin 2} (c : Bool) (ho : t1sOutlet s port = some k) (hp : s.vlk.t1s[port].plca = true)
    (hs : s.vlk.ports[k].st ≠ .off) (hd : s.vlk.ports[k].down = false) :
    ∃ t, exec (.t1sLinkLoss port c) s = .next t ∧ t.vlk.t1s[port].plca = false ∧ LinkDown k 9 s t := by
  have hrow : exec (.t1sLinkLoss port c) s = .next (linkFail k 9 (plcaTold port false k s)) := by
    change execT1sLinkLoss port c s = _
    unfold execT1sLinkLoss
    rw [ho]
    exact if_neg (Classical.not_not.mpr hp)
  have hports : (plcaTold port false k s).vlk.ports = s.vlk.ports := by rw [plcaTold_vlk]
  have hd' : (plcaTold port false k s).vlk.ports[k].down = false := (congrArg (fun v : Vector VPort 8 => v[k].down) hports).trans hd
  have hs' : (plcaTold port false k s).vlk.ports[k].st ≠ .off := by
    rw [congrArg (fun v : Vector VPort 8 => v[k].st) hports]
    exact hs
  obtain ⟨hvlk, -⟩ := linkFail_parts (c := 9) hd' hs'
  refine ⟨_, hrow, ?_, (linkFail_down 9 hd' hs').of_evNext (congrArg GarnetSt.evNext (ev_garnet ..))⟩
  rw [hvlk]
  exact plcaTold_plca port false k s

/-! ### Discovery, TCP -/

theorem sdpRequest_offers (tls : Bool) (h : setupOn s k [.sdp] = true) : ∃ t, exec (.sdpRequest k tls) s = .next t
    ∧ t.vlk.ports[k].sdpDone = true
    ∧ t.outbox = s.outbox ++ [.tcp k (if pget s 0x2001 k = 2 ∨ (pget s 0x2001 k = 1 ∧ tls = true) then 1 else 0)] := by
  have hoffer : (if (pget s 0x2001 k == 2 || (pget s 0x2001 k == 1 && tls)) = true then 1 else 0)
      = if pget s 0x2001 k = 2 ∨ (pget s 0x2001 k = 1 ∧ tls = true) then 1 else 0 := by simp
  have hself := modV_self k (fun p => { p with sdpDone := true, wantTls := tls && pget s 0x2001 k != 0
                                               offTls := pget s 0x2001 k == 2 || (pget s 0x2001 k == 1 && tls) }) s
  exact ⟨_, if_pos h, congrArg VPort.sdpDone hself, congrArg (fun n => s.outbox ++ [Out.tcp k n]) hoffer⟩

theorem tcpConnection_refused (h : s.vlk.ports[k].tcp = true) :
    exec (.tcpConnection k) s = .next { s with outbox := s.outbox ++ [.tcp k 3] } := if_pos h

theorem tcpConnection_taken (ht : s.vlk.ports[k].tcp = false) (h : setupOn s k [.sdp] = true) (hst : s.vlk.ports[k].st = .sdp)
    (hdone : s.vlk.ports[k].sdpDone = true) : ∃ t, exec (.tcpConnection k) s = .next t ∧ t.vlk.ports[k].tcp = true
      ∧ t.vlk.ports[k].st = (if s.vlk.ports[k].wantTls then .tls else .app) ∧ t.outbox = s.outbox ++ [.tcp k 2] := by
  have hself := toV_modV k (if s.vlk.ports[k].wantTls then .tls else .app) (fun p => { p with tcp := true }) s
  have hrow : exec (.tcpConnection k) s = .next (toV k (if s.vlk.ports[k].wantTls then .tls else .app)
      (emit (.tcp k 2) (modV k (fun p => { p with tcp := true }) s))) :=
    (if_neg (Bool.eq_false_iff.mp ht)).trans ((if_pos ⟨h, .inl hdone⟩).trans (congrArg ans (if_neg (by rw [hst]; decide))))
  exact ⟨_, hrow, congrArg VPort.tcp hself, congrArg VPort.st hself, rfl⟩

/-- A port whose TCP connection is gone with what ran over it. -/
def tcpGone (p : VPort) : VPort := { p with tcp := false, tls := 0, tlsVer := 0, keySlot := 0xFF }

theorem tcpReset_returns (ht : s.vlk.ports[k].tcp = true) (hd : s.vlk.ports[k].down = false)
    (hst : s.vlk.ports[k].st = .tls ∨ s.vlk.ports[k].st = .app) : ∃ t, exec (.tcpReset k) s = .next t
      ∧ t.vlk.ports[k].tcp = false ∧ t.vlk.ports[k].st = .sdp ∧ k ∉ t.vlk.tlsQueue := by
  have hne : s.vlk.ports[k].st ≠ .session := by rcases hst with h | h <;> rw [h] <;> decide
  have hrow : exec (.tcpReset k) s = .next (toV k .sdp (modVlk (fun v => { v with tlsQueue := v.tlsQueue.filter (· != k) })
      (modV k tcpGone s))) :=
    (if_neg (not_or.mpr ⟨Classical.not_not.mpr ht, Bool.eq_false_iff.mp hd⟩)).trans ((if_neg hne).trans (congrArg ans (if_pos hst)))
  have hself := toV_modV k .sdp tcpGone s
  exact ⟨_, hrow, congrArg VPort.tcp hself, congrArg VPort.st hself, fun hmem => by simpa using (List.mem_filter.mp hmem).2⟩

theorem tcpReset_fails (ht : s.vlk.ports[k].tcp = true) (hd : s.vlk.ports[k].down = false) (hst : s.vlk.ports[k].st = .session)
    (ho : sessionOver s k = false) : ∃ t, exec (.tcpReset k) s = .next t ∧ LinkDown k 7 s t := by
  have hrow : exec (.tcpReset k) s = .next (linkFail k 7 (modV k (fun p => { p with tcp := false }) s)) :=
    (if_neg (not_or.mpr ⟨Classical.not_not.mpr ht, Bool.eq_false_iff.mp hd⟩)).trans ((if_pos hst).trans
      (congrArg ans (if_neg (Bool.eq_false_iff.mp ho))))
  have hself := modV_self k (fun p => { p with tcp := false }) s
  refine ⟨_, hrow, (linkFail_down 7 ?_ ?_).of_evNext rfl⟩
  · exact (congrArg VPort.down hself).trans hd
  · rw [congrArg VPort.st hself, hst]
    decide

/-! ### TLS, the application protocol -/

/-- A port whose handshake is under way. -/
def helloPort (v : Bool) (slot : Nat) (p : VPort) : VPort := { p with tlsVer := if v then 2 else 1, keySlot := slot }

theorem clientHello_rows (v : Bool) (h : setupOn s k [.tls, .app] = true) (hst : s.vlk.ports[k].st = .tls)
    (ht : s.vlk.ports[k].tcp = true) (hv : s.vlk.ports[k].tlsVer = 0) (hw : s.vlk.ports[k].wantTls = true) :
    (slotKey s (pget s (if v then 0x2005 else 0x2004) k) = true → ∃ t, exec (.clientHello k v true) s = .next t
        ∧ t.vlk.tlsQueue = s.vlk.tlsQueue ++ [k] ∧ t.vlk.ports[k].tlsVer = (if v then 2 else 1))
      ∧ ∃ t, exec (.clientHello k v false) s = .next t ∧ t.vlk.ports[k].down = true ∧ t.vlk.ports[k].cause = 4 := by
  refine ⟨fun hkey => ?_, ?_⟩
  · have hrow : exec (.clientHello k v true) s = .next (modVlk (fun v => { v with tlsQueue := v.tlsQueue ++ [k] })
        (modV k (helloPort v (pget s (if v then 0x2005 else 0x2004) k))
          (if s.vlk.ports[k].st = .app then toV k .tls s else s))) :=
      (if_pos ⟨h, ht, hv, .inl hw⟩).trans (if_pos ⟨rfl, hkey⟩)
    have hstays : (if s.vlk.ports[k].st = .app then toV k .tls s else s) = s := if_neg (by rw [hst]; decide)
    rw [hstays] at hrow
    exact ⟨_, hrow, rfl, congrArg VPort.tlsVer (modV_self k (helloPort v (pget s (if v then 0x2005 else 0x2004) k)) s)⟩
  · have hrow : exec (.clientHello k v false) s = .next (tlsFail k 40 s) :=
      (if_pos ⟨h, ht, hv, .inl hw⟩).trans (if_neg fun hgo => Bool.false_ne_true hgo.1)
    exact ⟨_, hrow, tlsFail_down 40 (setupOn_down h) (by rw [hst]; decide)⟩

theorem tlsHandshakeComplete_rows {rest : List (Fin 8)} (alert : Nat) (hq : s.vlk.tlsQueue = k :: rest)
    (hd : s.vlk.ports[k].down = false) (hst : s.vlk.ports[k].st = .tls) :
    (∃ t, exec (.tlsHandshakeComplete k true alert) s = .next t ∧ t.vlk.tlsQueue = rest
        ∧ t.vlk.ports[k].tls = s.vlk.ports[k].tlsVer ∧ t.vlk.ports[k].st = .app)
      ∧ ∃ t, exec (.tlsHandshakeComplete k false alert) s = .next t ∧ t.vlk.ports[k].down = true ∧ t.vlk.ports[k].cause = 4 := by
  have hhead : ¬ s.vlk.tlsQueue.head? ≠ some k := by simp [hq]
  have hdrop : s.vlk.tlsQueue.drop 1 = rest := by rw [hq]; rfl
  refine ⟨?_, ?_⟩
  · have hrow : exec (.tlsHandshakeComplete k true alert) s = .next (toV k .app (modV k (fun p => { p with tls := p.tlsVer })
        (modVlk (fun v => { v with tlsQueue := v.tlsQueue.drop 1 }) s))) :=
      (if_neg hhead).trans ((if_neg (Bool.eq_false_iff.mp hd)).trans ((if_pos rfl).trans (congrArg ans (if_pos hst))))
    have hself := toV_modV k .app (fun p => { p with tls := p.tlsVer }) (modVlk (fun v => { v with tlsQueue := v.tlsQueue.drop 1 }) s)
    exact ⟨_, hrow, hdrop, congrArg VPort.tls hself, congrArg VPort.st hself⟩
  · have hrow : exec (.tlsHandshakeComplete k false alert) s =
        .next (tlsFail k alert (modVlk (fun v => { v with tlsQueue := v.tlsQueue.drop 1 }) s)) :=
      (if_neg hhead).trans ((if_neg (Bool.eq_false_iff.mp hd)).trans (if_neg Bool.false_ne_true))
    exact ⟨_, hrow, tlsFail_down (s := modVlk (fun v => { v with tlsQueue := v.tlsQueue.drop 1 }) s) alert hd (by
      rw [show (modVlk (fun v => { v with tlsQueue := v.tlsQueue.drop 1 }) s).vlk.ports[k].st = .tls from hst]; decide)⟩

/-- The state with a protocol agreed and told. -/
def agreed (k : Fin 8) (n : Nat) (s : State) : State :=
  ev 0x62 k 0 (s.vlk.ports[k].tls * 256 + n) (emit (.tcp k (0x10 + n)) (modV k (fun p => { p with proto := n }) s))

theorem agreed_port (k : Fin 8) (n : Nat) (s : State) : (agreed k n s).vlk.ports[k] = { s.vlk.ports[k] with proto := n } :=
  (congrArg (fun v : VlkSt => v.ports[k]) (ev_vlk ..)).trans (modV_self k (fun p => { p with proto := n }) s)

theorem supportedAppProtocolReq_agrees {n : Nat} (pr : Nat) (h : setupOn s k [.app] = true) (ht : s.vlk.ports[k].tcp = true)
    (hst : s.vlk.ports[k].st = .app) (hf : protoFits s k n = true) : ∃ t, exec (.supportedAppProtocolReq k [(pr, n)]) s = .next t
      ∧ t.vlk.ports[k].proto = n ∧ t.vlk.ports[k].st = .session ∧ t.vlk.ports[k].timers.seq = some (s.frame + pget s 0x200B 0) := by
  have hone : [(pr, n)].filter (fun x => protoFits s k x.2) = [(pr, n)] := by simp [hf]
  have hself := toV_modV k .session (fun p => { p with timers := { seq := some (s.frame + pget s 0x200B 0) } }) (agreed k n s)
  have hrow : exec (.supportedAppProtocolReq k [(pr, n)]) s = .next (toV k .session (modV k (fun p =>
      { p with timers := { seq := some (s.frame + pget s 0x200B 0) } }) (agreed k n s))) := by
    refine (if_pos ⟨h, ht, .inl hst⟩).trans ?_
    rw [hone]
    exact if_pos hst
  refine ⟨_, hrow, (congrArg VPort.proto hself).trans ?_, congrArg VPort.st hself, congrArg (fun p : VPort => p.timers.seq) hself⟩
  exact congrArg VPort.proto (agreed_port k n s)

theorem supportedAppProtocolReq_fails {n : Nat} (pr : Nat) (h : setupOn s k [.app] = true) (ht : s.vlk.ports[k].tcp = true)
    (hst : s.vlk.ports[k].st = .app) (hf : protoFits s k n = false) :
    ∃ t, exec (.supportedAppProtocolReq k [(pr, n)]) s = .next t ∧ LinkDown k 5 s t := by
  have hnone : [(pr, n)].filter (fun x => protoFits s k x.2) = [] := by simp [hf]
  have hrow : exec (.supportedAppProtocolReq k [(pr, n)]) s = .next (linkFail k 5 (emit (.tcp k 0x1F) s)) := by
    refine (if_pos ⟨h, ht, .inl hst⟩).trans ?_
    rw [hnone]
    rfl
  exact ⟨_, hrow, (linkFail_down (s := emit (.tcp k 0x1F) s) 5 (setupOn_down h) (by
    rw [show (emit (.tcp k 0x1F) s).vlk.ports[k].st = .app from hst]; decide)).of_evNext rfl⟩

/-- Settles O39: the rows of Table VLK-5 one by one, and the fall of a link with its cause. -/
theorem linksMatchAndConnect : Obligations.LinksMatchAndConnect := by
  unfold Obligations.LinksMatchAndConnect
  exact fun k s => ⟨cmSlacParmReq_begins, mSound_counts, cmSlacMatchReq_answers, cmValidateReq_answers, vlkSlacRetry_waits,
    vlkSlacMatched_joins, fun c => vlkLinkLost_down,
    fun h hd => ⟨_, if_pos h, linkTimeout_down (.inl rfl) h hd⟩,
    fun h hd => ⟨_, if_pos h, linkTimeout_down (.inr (.inl rfl)) h hd⟩,
    fun h hd => ⟨_, if_pos h, linkTimeout_down (.inr (.inr (.inl rfl))) h hd⟩,
    fun h hd => ⟨_, if_pos h, linkTimeout_down (.inr (.inr (.inr rfl))) h hd⟩,
    fun hst ht => ⟨_, if_pos ⟨hst, ht⟩, vlkOff_port k s⟩, fun port => t1sPlcaRunning_opens, fun port c => t1sLinkLoss_down c,
    sdpRequest_offers, tcpConnection_refused, tcpConnection_taken, tcpReset_returns, tcpReset_fails, clientHello_rows,
    fun rest hq hd hst alert => tlsHandshakeComplete_rows alert hq hd hst,
    fun pr n h ht hst => ⟨supportedAppProtocolReq_agrees pr h ht hst, supportedAppProtocolReq_fails pr h ht hst⟩⟩

end Sys2Proof.Machine

end

section
/-! PROOF. The vehicle's requests in SESSION and their responses (Tables VLK-9 and VLK-10, R182 to R184, R247 to R249, R253 to R255). -/

namespace Sys2Proof.Machine

open Host (Outcome)

variable {s t u : State} {k : Fin 8}

/-! ### A request stamped -/

/-- A port with a request stamped for its response. -/
def askedPort (kind : ReqKind) (answer : Answer) (n : Nat) (p : VPort) : VPort :=
  { p with req := some { kind := kind, frame := n, answer := answer }, timers := { p.timers with seq := none } }

/-- The state with a request stamped. -/
def asked (k : Fin 8) (kind : ReqKind) (answer : Answer) (s : State) : State := modV k (askedPort kind answer s.frame) s

theorem takeReq_serves {kind : ReqKind} {answer : Answer} {f : State → State} (hv : LinkServes k s) (ht : t1sOf s k = none) :
    takeReq k kind answer f s = .next (f (asked k kind answer s)) := by
  obtain ⟨husable, hsession, hup, hgoes, hfree⟩ := hv
  unfold takeReq
  extract_lets p n s1
  have hs1 : s1 = s := if_neg (by rw [ht]; decide)
  rw [hs1]
  exact if_pos ⟨husable, hsession, Bool.eq_false_iff.mp hup, Bool.eq_false_iff.mp hgoes, by rw [show p.req = none from hfree]; rfl⟩

theorem asked_port (k : Fin 8) (kind : ReqKind) (answer : Answer) (s : State) :
    (asked k kind answer s).vlk.ports[k] = askedPort kind answer s.frame s.vlk.ports[k] := modV_self ..

/-- What answers a request keeps of its port. -/
def KeepsRequest (g : VPort → VPort) : Prop := ∀ p, (g p).req = p.req ∧ (g p).timers.seq = p.timers.seq ∧ (g p).st = p.st

theorem asked_of_port {kind : ReqKind} {answer : Answer} {g : VPort → VPort} (hv : LinkServes k s) (hg : KeepsRequest g)
    (hport : t.vlk.ports[k] = g (askedPort kind answer s.frame s.vlk.ports[k])) (hp : t.params = s.params) : Asked k kind answer s t := by
  obtain ⟨hreq, hseq, hst⟩ := hg (askedPort kind answer s.frame s.vlk.ports[k])
  exact ⟨(congrArg VPort.req hport).trans hreq, (congrArg (fun p : VPort => p.timers.seq) hport).trans hseq,
    (congrArg VPort.st hport).trans (hst.trans hv.session), hp⟩

theorem asked_of_same {kind : ReqKind} {answer : Answer} (hv : LinkServes k s) (hvlk : t.vlk = (asked k kind answer s).vlk)
    (hp : t.params = s.params) : Asked k kind answer s t :=
  asked_of_port (g := id) hv (fun _ => ⟨rfl, rfl, rfl⟩) (by rw [hvlk]; exact asked_port ..) hp

theorem vlkContent_vlk (type : Nat) (item : List Byte) (s : State) : (vlkContent k type item s).vlk = s.vlk :=
  touches_vlkContent.same .vlk rfl

theorem vlkContent_params (type : Nat) (item : List Byte) (s : State) : (vlkContent k type item s).params = s.params :=
  touches_vlkContent.same .params rfl

theorem vlkContent_outlets (type : Nat) (item : List Byte) (s : State) : (vlkContent k type item s).outlets = s.outlets :=
  touches_vlkContent.same .outlets rfl

theorem vlkContent_port (type : Nat) (item : List Byte) (f : VPort → VPort) (s : State) :
    (vlkContent k type item (modV k f s)).vlk.ports[k] = f s.vlk.ports[k] := by
  rw [vlkContent_vlk]
  exact modV_self ..

theorem modOut_self (k : Fin 8) (f : Outlet → Outlet) (s : State) : (modOut k f s).outlets[k] = f s.outlets[k] := upd_self ..

/-- A port that awaits content of the host. -/
def awaitingPort (type due : Nat) (p : VPort) : VPort := { p with awaiting := some type, timers := { p.timers with host := some due } }

theorem awaitHost_eq (type : Nat) (s : State) : awaitHost k type s = (if s.vlk.ports[k].awaiting = some type then s
    else modV k (awaitingPort type (s.frame + pget s 0x200C 0)) s) := rfl

theorem awaitHost_asked {kind : ReqKind} {answer : Answer} {type : Nat} (h : Asked k kind answer s u) :
    Asked k kind answer s (awaitHost k type u) := by
  rw [awaitHost_eq]
  split
  · exact h
  · obtain ⟨hreq, hseq, hst, hp⟩ := h
    have hself := modV_self k (awaitingPort type (u.frame + pget u 0x200C 0)) u
    exact ⟨(congrArg VPort.req hself).trans hreq, (congrArg (fun p : VPort => p.timers.seq) hself).trans hseq,
      (congrArg VPort.st hself).trans hst, hp⟩

/-! ### What a failing link sends -/

theorem preempt_outbox (n : Nat) (keys : List (Nat × Nat)) (s : State) : s.outbox <+: (preempt n keys s).outbox := by
  unfold preempt
  refine foldl_keep (P := fun t : State => s.outbox <+: t.outbox) (List.prefix_refl _) (fun t x ht => ht.trans ?_) _
  have hbook : (leaveBook x (dropTxn x .refused t)).outbox = t.outbox := touches_leaveBook.same .outbox rfl
  exact hbook ▸ ev_outbox ..

theorem buildTxn_outbox (p : Purpose) (acts : List Action) (f : Nat) (s : State) : s.outbox <+: (buildTxn p acts f s).outbox := by
  unfold buildTxn
  split
  · exact List.prefix_refl _
  · extract_lets t
    exact preempt_outbox _ _ { s with txn := { s.txn with txns := s.txn.txns ++ [t] } }

theorem openOutlet_outbox (r : Nat) (s : State) : s.outbox <+: (openOutlet k r s).outbox := by
  unfold openOutlet
  extract_lets acts
  split
  · exact List.prefix_refl _
  · exact buildTxn_outbox _ _ _ (modOut k _ s)

theorem stopSession_outbox (r hr : Nat) (s : State) : s.outbox <+: (stopSession k r hr s).outbox := by
  have hreason : (addReason k r s).outbox = s.outbox := touches_addReason.same .outbox rfl
  have hpend (p : Pend) : (pendTo k p s).outbox = s.outbox := touches_pendTo.same .outbox rfl
  unfold stopSession
  split
  · exact hreason.symm ▸ List.prefix_refl _
  · exact hreason.symm ▸ List.prefix_refl _
  · split
    · extract_lets u
      rw [show s.outbox = u.outbox from (hpend _).symm]
      split
      · exact openOutlet_outbox ..
      · exact List.prefix_refl _
    · exact List.prefix_refl _

theorem linkFails_outbox (s : State) : s.outbox <+: (linkFails k s).outbox := by
  unfold linkFails
  split
  · exact List.prefix_refl _
  · exact stopSession_outbox ..

theorem linkFail_outbox (c : Nat) (s : State) : s.outbox <+: (linkFail k c s).outbox := by
  unfold linkFail
  extract_lets p st u
  split
  · exact List.prefix_refl _
  · split
    · exact linkFails_outbox u
    · exact stopSession_outbox 0x0C 0 u

theorem take_of_prefix {α : Type} {l m : List α} {x : α} (h : l ++ [x] <+: m) : m.take (l.length + 1) = l ++ [x] := by
  have htake := List.prefix_iff_eq_take.mp h
  rw [List.length_append] at htake
  exact htake.symm

/-- A stop of a DC or MW session that charges is decided, and nothing opens yet (R179). -/
theorem stopSession_charging {r : Nat} (hd : isDc s k = true) (hfree : s.outlets[k].pend = none) (hst : s.outlets[k].st = .charging) :
    stopSession k r 0 s = decided k { dest := .stopping, reason := some r, frame := s.frame } s := by
  have hwaits : ¬ (True ∧ ¬ stopWaits (decided k { dest := .stopping, reason := some r, frame := s.frame } s) k r = true) :=
    fun h => h.2 (by rw [stopWaits, show isDc (decided _ _ s) k = isDc s k from rfl, hd, Bool.true_or])
  unfold stopSession stopTarget
  simp only [hst, pendTo_free hfree]
  exact if_neg hwaits

/-! ### The rows of Table VLK-9 -/

/-- A port whose session is set up. -/
def setUpPort (car id : Nat) (p : VPort) : VPort :=
  { p with evccid := car, sessionId := id, schedule := none, ccAsked := false, denied := false }

section
variable (hv : LinkServes k s) (ht : t1sOf s k = none)
include hv ht

theorem sessionSetupReq_asks (car sid : Nat) : ∃ t, exec (.sessionSetupReq k car sid) s = .next t ∧ Asked k .sessionSetup .ok s t
    ∧ t.vlk.ports[k].evccid = car ∧ t.vlk.ports[k].schedule = none := by
  have hrow : ∃ id item, exec (.sessionSetupReq k car sid) s =
      .next (vlkContent k 0x01 item (modV k (setUpPort car id) (asked k .sessionSetup .ok s).draw)) := by
    change ∃ id item, execSessionSetupReq k car sid s = _
    unfold execSessionSetupReq
    extract_lets p closed resume s1
    have hc : closed = false := by
      have hst : p.st = .session := hv.session
      simp [closed, hst]
    have hs1 : s1 = s := if_neg (Bool.eq_false_iff.mp hc)
    rw [hs1, takeReq_serves hv ht, hc]
    exact ⟨_, _, rfl⟩
  obtain ⟨id, item, hrow⟩ := hrow
  have hport : (vlkContent k 0x01 item (modV k (setUpPort car id) (asked k .sessionSetup .ok s).draw)).vlk.ports[k]
      = setUpPort car id (askedPort .sessionSetup .ok s.frame s.vlk.ports[k]) :=
    (vlkContent_port ..).trans (congrArg (setUpPort car id) (asked_port ..))
  exact ⟨_, hrow, asked_of_port (g := setUpPort car id) hv (fun _ => ⟨rfl, rfl, rfl⟩) hport (vlkContent_params ..), congrArg VPort.evccid hport,
    congrArg VPort.schedule hport⟩

theorem authorizationReq_asks (he : pget s 0x2002 k % 2 = 1) : ∃ t, exec (.authorizationReq k 0 true) s = .next t
    ∧ Asked k .authorization .ok s t ∧ t.outlets[k].veh.authStep = true := by
  have hrow : ∃ item, exec (.authorizationReq k 0 true) s = .next (modOut k (fun o => { o with veh := { o.veh with authStep := true } })
      (vlkContent k 0x02 item (modV k (fun p => { p with payment := 0 }) (asked k .authorization .ok s)))) := by
    change ∃ item, execAuthorizationReq k 0 true s = _
    unfold execAuthorizationReq
    extract_lets p enabled bad
    have henabled : enabled = true := by simp [enabled, he]
    have hbad : bad = false := rfl
    rw [takeReq_serves hv ht, henabled, hbad]
    exact ⟨_, rfl⟩
  obtain ⟨item, hrow⟩ := hrow
  have hport := (vlkContent_port (k := k) 0x02 item (fun p => { p with payment := 0 }) (asked k .authorization .ok s)).trans
    (congrArg (fun p : VPort => { p with payment := 0 }) (asked_port ..))
  exact ⟨_, hrow, asked_of_port (g := fun p => { p with payment := 0 }) hv (fun _ => ⟨rfl, rfl, rfl⟩) hport (vlkContent_params ..),
    congrArg (fun o : Outlet => o.veh.authStep) (modOut_self ..)⟩

/-- A port with the contract of its payment details. -/
def contractPort (em : List Byte) (challenge leaf : Nat) (p : VPort) : VPort := { p with emaid := em, challenge := challenge, leafKey := leaf }

theorem paymentDetailsReq_asks (em ch : List Byte) (lk : Nat) (hp : s.vlk.ports[k].proto ≠ 1) :
    ∃ t, exec (.paymentDetailsReq k em ch lk) s = .next t ∧ Asked k .paymentDetails .ok s t ∧ t.vlk.ports[k].emaid = em
      ∧ t.vlk.ports[k].leafKey = lk := by
  have hrow : ∃ c, exec (.paymentDetailsReq k em ch lk) s =
      .next (vlkContent k 0x03 ch (modV k (contractPort em c lk) (asked k .paymentDetails .ok s).draw)) :=
    ⟨_, (if_neg hp).trans (takeReq_serves hv ht)⟩
  obtain ⟨c, hrow⟩ := hrow
  have hport : (vlkContent k 0x03 ch (modV k (contractPort em c lk) (asked k .paymentDetails .ok s).draw)).vlk.ports[k]
      = contractPort em c lk (askedPort .paymentDetails .ok s.frame s.vlk.ports[k]) :=
    (vlkContent_port ..).trans (congrArg (contractPort em c lk) (asked_port ..))
  exact ⟨_, hrow, asked_of_port (g := contractPort em c lk) hv (fun _ => ⟨rfl, rfl, rfl⟩) hport (vlkContent_params ..), congrArg VPort.emaid hport,
    congrArg VPort.leafKey hport⟩

theorem serviceDiscoveryReq_asks : ∃ t, exec (.serviceDiscoveryReq k) s = .next t ∧ Asked k .serviceDiscovery .ok s t :=
  ⟨_, takeReq_serves hv ht, asked_of_same hv rfl rfl⟩

/-- The outlet's limits as the vehicle's parameters give them. -/
def limitsOf (v i x : Nat) (two : Bool) (o : Outlet) : Outlet :=
  { o with veh := { o.veh with vMax := v, maxI := some i, maxDis := x, bpt := two } }

theorem chargeParameterDiscoveryReq_asks (e d v i w x : Nat) (b : Bool) : ∃ t, exec (.chargeParameterDiscoveryReq k e d v i w x b) s = .next t
    ∧ Asked k .chargeParameter .ok s t ∧ t.outlets[k].veh.vMax = v ∧ t.outlets[k].veh.maxI = some i
    ∧ (s.vlk.ports[k].schedule = none → s.vlk.ports[k].awaiting ≠ some 4 → t.vlk.ports[k].awaiting = some 4
        ∧ t.vlk.ports[k].timers.host = some (s.frame + pget s 0x200C 0)) := by
  have hrow : ∃ two item u, vlkContent k 0x04 item (modOut k (limitsOf v i x two) (asked k .chargeParameter .ok s)) = u
      ∧ exec (.chargeParameterDiscoveryReq k e d v i w x b) s =
        .next (if u.vlk.ports[k].schedule.isNone then awaitHost k 0x04 u else u) := by
    change ∃ two item u, _ ∧ execChargeParameterDiscoveryReq k e d v i w x b s = _
    unfold execChargeParameterDiscoveryReq
    extract_lets two
    rw [takeReq_serves hv ht]
    exact ⟨two, _, _, rfl, rfl⟩
  obtain ⟨two, item, u, hu, hrow⟩ := hrow
  have hvlk : u.vlk = (asked k .chargeParameter .ok s).vlk := hu ▸ vlkContent_vlk ..
  have hparams : u.params = s.params := hu ▸ vlkContent_params ..
  have hberyl : u.beryl = s.beryl := hu ▸ touches_vlkContent.same .beryl rfl
  have hframe : u.frame = s.frame := hu ▸ touches_vlkContent.same .frame rfl
  have hout : u.outlets[k] = limitsOf v i x two s.outlets[k] := by
    rw [← hu, vlkContent_outlets]
    exact modOut_self ..
  have hport : u.vlk.ports[k] = askedPort .chargeParameter .ok s.frame s.vlk.ports[k] := by
    rw [hvlk]
    exact asked_port ..
  have hasked : Asked k .chargeParameter .ok s u := asked_of_same hv hvlk hparams
  have hwait : (awaitHost k 0x04 u).outlets = u.outlets := touches_awaitHost.same .outlets rfl
  cases hs : s.vlk.ports[k].schedule with
  | none =>
    rw [if_pos (by rw [hport]; exact congrArg Option.isNone hs)] at hrow
    refine ⟨_, hrow, awaitHost_asked hasked, ?_, ?_, fun _ ha => ?_⟩
    · rw [hwait, hout]
      rfl
    · rw [hwait, hout]
      rfl
    · have hself := modV_self k (awaitingPort 0x04 (u.frame + pget u 0x200C 0)) u
      rw [awaitHost_eq, if_neg (by rw [hport]; exact ha)]
      refine ⟨congrArg VPort.awaiting hself, (congrArg (fun p : VPort => p.timers.host) hself).trans ?_⟩
      rw [hframe, pget_congr hparams hberyl]
      rfl
  | some sched =>
    rw [if_neg (by rw [hport]; exact Bool.eq_false_iff.mp (congrArg Option.isNone hs))] at hrow
    refine ⟨_, hrow, hasked, ?_, ?_, fun h => by cases h⟩
    · rw [hout]
      rfl
    · rw [hout]
      rfl

theorem cableCheckReq_asks (hd : isDc s k = true) (ho : s.outlets[k].st = .parameters) (hc : s.vlk.ports[k].ccAsked = false) :
    ∃ t, exec (.cableCheckReq k) s = .next t ∧ Asked k .cableCheck .ok s t ∧ t.vlk.ports[k].ccAsked = true := by
  have hasked : (asked k .cableCheck .ok s).vlk.ports[k].ccAsked = false := (congrArg VPort.ccAsked (asked_port ..)).trans hc
  have hrow : exec (.cableCheckReq k) s =
      .next (toCableCheck k (modV k (fun p => { p with ccAsked := true }) (asked k .cableCheck .ok s))) :=
    (if_neg (Classical.not_not.mpr hd)).trans ((takeReq_serves hv ht).trans (congrArg ans (if_pos ⟨Bool.eq_false_iff.mp hasked, ho⟩)))
  have hvlk (u : State) : (toCableCheck k u).vlk = u.vlk := touches_toCableCheck.same .vlk rfl
  have hparams (u : State) : (toCableCheck k u).params = u.params := touches_toCableCheck.same .params rfl
  have hport := (modV_self k (fun p => { p with ccAsked := true }) (asked k .cableCheck .ok s)).trans
    (congrArg (fun p : VPort => { p with ccAsked := true }) (asked_port ..))
  exact ⟨_, hrow, asked_of_port (g := fun p => { p with ccAsked := true }) hv (fun _ => ⟨rfl, rfl, rfl⟩) (by rw [hvlk]; exact hport)
    (hparams _), by rw [hvlk]; exact congrArg VPort.ccAsked hport⟩

theorem preChargeReq_asks (v : Nat) (hd : isDc s k = true) : ∃ t, exec (.preChargeReq k v) s = .next t ∧ Asked k .preCharge .ok s t
    ∧ t.outlets[k].veh.target = v ∧ t.outlets[k].veh.asked = true := by
  have hself := modOut_self k (fun o => { o with
    preRun := if o.veh.asked ∧ o.veh.target = v then o.preRun else 0
    veh := { o.veh with target := v, asked := true } }) (asked k .preCharge .ok s)
  exact ⟨_, (if_neg (Classical.not_not.mpr hd)).trans (takeReq_serves hv ht), asked_of_same hv rfl rfl, congrArg (fun o : Outlet => o.veh.target) hself,
    congrArg (fun o : Outlet => o.veh.asked) hself⟩

theorem powerDeliveryReqStart_dc (hd : isDc s k = true) : ∃ t, exec (.powerDeliveryReqStart k) s = .next t
    ∧ Asked k .powerStart .ok s t ∧ t.outlets[k].veh.start = true := by
  have hrow : exec (.powerDeliveryReqStart k) s =
      .next (modOut k (fun o => { o with veh := { o.veh with start := true } }) (asked k .powerStart .ok s)) := by
    change execPowerDeliveryReqStart k s = _
    unfold execPowerDeliveryReqStart
    rw [takeReq_serves hv ht]
    exact congrArg ans (if_pos hd)
  exact ⟨_, hrow, asked_of_same hv rfl rfl, congrArg (fun o : Outlet => o.veh.start) (modOut_self ..)⟩

theorem powerDeliveryReqStart_ac (hd : isDc s k = false) (ho : s.outlets[k].st = .parameters) (hp : s.outlets[k].pend = none) :
    ∃ t, exec (.powerDeliveryReqStart k) s = .next t ∧ Asked k .powerStart .ok s t
      ∧ t.outlets[k].pend = some { dest := .ready, frame := s.frame } := by
  have hrow : exec (.powerDeliveryReqStart k) s =
      .next (decided k { dest := .ready, frame := s.frame } (asked k .powerStart .ok s)) := by
    change execPowerDeliveryReqStart k s = _
    unfold execPowerDeliveryReqStart
    rw [takeReq_serves hv ht]
    refine congrArg ans ((if_neg (Bool.eq_false_iff.mp hd)).trans ((if_pos ho).trans ?_))
    exact pendTo_free (s := asked k .powerStart .ok s) hp
  exact ⟨_, hrow, asked_of_same hv rfl rfl, congrArg Outlet.pend (decided_same ..)⟩

theorem currentDemandReq_asks (v : Nat) (i : Int) (soc : Nat) (hd : isDc s k = true) : ∃ t, exec (.currentDemandReq k v i soc) s = .next t
    ∧ Asked k .currentDemand .ok s t ∧ t.outlets[k].veh.target = v ∧ t.outlets[k].veh.current = i ∧ t.vlk.ports[k].soc = soc := by
  have hself := modOut_self k (fun o => { o with veh := { o.veh with target := v, asked := true, current := i } }) (asked k .currentDemand .ok s)
  have hport := (modV_self k (fun p => { p with soc := soc }) (asked k .currentDemand .ok s)).trans
    (congrArg (fun p : VPort => { p with soc := soc }) (asked_port ..))
  exact ⟨_, (if_neg (Classical.not_not.mpr hd)).trans (takeReq_serves hv ht),
    asked_of_port (g := fun p => { p with soc := soc }) hv (fun _ => ⟨rfl, rfl, rfl⟩) hport rfl,
    congrArg (fun o : Outlet => o.veh.target) hself, congrArg (fun o : Outlet => o.veh.current) hself, congrArg VPort.soc hport⟩

omit ht in
theorem currentDemandReq_fails (v : Nat) (i : Int) (soc : Nat) (hd : isDc s k = false) : ∃ t, exec (.currentDemandReq k v i soc) s = .next t
    ∧ LinkDown k 8 s t ∧ t.outbox.take (s.outbox.length + 1) = s.outbox ++ [.vehicle k .currentDemand .failed []] := by
  obtain ⟨husable, hsession, hup, -, -⟩ := hv
  have hrow : exec (.currentDemandReq k v i soc) s = .next (linkFail k 8 (emit (.vehicle k .currentDemand .failed []) s)) :=
    (if_pos (Bool.eq_false_iff.mp hd)).trans (if_pos ⟨husable, hsession, Bool.eq_false_iff.mp hup⟩)
  have hne : (emit (.vehicle k .currentDemand .failed []) s).vlk.ports[k].st ≠ .off := by
    rw [show (emit (.vehicle k .currentDemand .failed []) s).vlk.ports[k].st = .session from hsession]
    decide
  exact ⟨_, hrow, (linkFail_down (s := emit (.vehicle k .currentDemand .failed []) s) 8 hup hne).of_evNext rfl, take_of_prefix (linkFail_outbox 8 (emit (.vehicle k .currentDemand .failed []) s))⟩

theorem chargingStatusReq_asks (i soc : Nat) (ha : isAc s k = true) : ∃ t, exec (.chargingStatusReq k (some i) soc) s = .next t
    ∧ Asked k .chargingStatus .ok s t ∧ t.outlets[k].veh.maxI = some i ∧ t.vlk.ports[k].soc = soc := by
  have hself := modOut_self k (fun o => { o with veh := { o.veh with maxI := some i } }) (asked k .chargingStatus .ok s)
  have hport := (modV_self k (fun p => { p with soc := soc }) (asked k .chargingStatus .ok s)).trans
    (congrArg (fun p : VPort => { p with soc := soc }) (asked_port ..))
  exact ⟨_, (if_neg (Classical.not_not.mpr ha)).trans (takeReq_serves hv ht),
    asked_of_port (g := fun p => { p with soc := soc }) hv (fun _ => ⟨rfl, rfl, rfl⟩) hport rfl,
    congrArg (fun o : Outlet => o.veh.maxI) hself, congrArg VPort.soc hport⟩

/-- A port asked to stop its session. -/
def stopPort (stop : Bool) (p : VPort) : VPort := { p with pauseReq := false, req := p.req.map fun r => { r with stop := stop } }

theorem powerDeliveryReqStop_stops (stop : Bool) (hd : isDc s k = true) (ho : s.outlets[k].st = .charging) (hp : s.outlets[k].pend = none) :
    ∃ t, exec (.powerDeliveryReqStop k false stop) s = .next t
      ∧ t.vlk.ports[k].req = some { kind := .powerStop, frame := s.frame, answer := .ok, stop := stop }
      ∧ t.outlets[k].pend = some { dest := .stopping, reason := some 0x03, frame := s.frame } := by
  have hrow : exec (.powerDeliveryReqStop k false stop) s = .next (stopSession k 0x03 0
      (vlkContent k 0x08 [boolByte stop, boolByte false] (modV k (stopPort stop) (asked k .powerStop .ok s)))) := by
    change execPowerDeliveryReqStop k false stop s = _
    unfold execPowerDeliveryReqStop
    rw [takeReq_serves hv ht]
    exact congrArg ans (if_neg fun h => Bool.false_ne_true h.2)
  generalize hu : vlkContent k 0x08 [boolByte stop, boolByte false] (modV k (stopPort stop) (asked k .powerStop .ok s)) = u at hrow
  have hout : u.outlets = s.outlets := hu ▸ vlkContent_outlets ..
  have hport : u.vlk.ports[k] = stopPort stop (askedPort .powerStop .ok s.frame s.vlk.ports[k]) := by
    rw [← hu]
    exact (vlkContent_port ..).trans (congrArg (stopPort stop) (asked_port ..))
  have hframe : u.frame = s.frame := hu ▸ touches_vlkContent.same .frame rfl
  have hdc : isDc u k = true := by
    have hty : outType u k = outType s k := pget_congr (hu ▸ vlkContent_params ..) (hu ▸ touches_vlkContent.same .beryl rfl) ..
    unfold isDc
    rw [hty]
    exact hd
  rw [stopSession_charging hdc (by rw [hout]; exact hp) (by rw [hout]; exact ho), hframe] at hrow
  exact ⟨_, hrow, congrArg VPort.req hport, congrArg Outlet.pend (decided_same ..)⟩

theorem weldingDetectionReq_asks (hd : isDc s k = true) : ∃ t, exec (.weldingDetectionReq k) s = .next t
    ∧ Asked k .weldingDetection .ok s t := ⟨_, (if_neg (Classical.not_not.mpr hd)).trans (takeReq_serves hv ht), asked_of_same hv rfl rfl⟩

theorem meteringReceiptReq_asks (rec : List Byte) (hp : s.vlk.ports[k].proto ≠ 1) (hpay : s.vlk.ports[k].payment = 1) :
    ∃ t, exec (.meteringReceiptReq k true rec) s = .next t ∧ Asked k .meteringReceipt .ok s t := by
  have hrow : exec (.meteringReceiptReq k true rec) s =
      .next (vlkContent k 0x06 (rec ++ [boolByte true]) (asked k .meteringReceipt .ok s)) :=
    (if_neg (not_or.mpr ⟨hp, Classical.not_not.mpr hpay⟩)).trans (takeReq_serves hv ht)
  exact ⟨_, hrow, asked_of_same hv (vlkContent_vlk ..) (vlkContent_params ..)⟩

/-- A port whose certificate response is yet to come. -/
def certPort (p : VPort) : VPort := { p with certResp := none, certPart := {} }

theorem certificateInstallationReq_asks (upd : Bool) (body : List Byte) (hp : s.vlk.ports[k].proto ≠ 1)
    (ha : s.vlk.ports[k].awaiting ≠ some 5) : ∃ t, exec (.certificateInstallationReq k upd body) s = .next t
      ∧ Asked k .certificate .ok s t ∧ t.vlk.ports[k].awaiting = some 5 ∧ t.vlk.ports[k].certResp = none := by
  have hrow : exec (.certificateInstallationReq k upd body) s = .next (awaitHost k 0x05
      (vlkContent k 0x05 (boolByte upd :: body) (modV k certPort (asked k .certificate .ok s)))) :=
    (if_neg hp).trans (takeReq_serves hv ht)
  generalize hu : vlkContent k 0x05 (boolByte upd :: body) (modV k certPort (asked k .certificate .ok s)) = u at hrow
  have hport : u.vlk.ports[k] = certPort (askedPort .certificate .ok s.frame s.vlk.ports[k]) := by
    rw [← hu]
    exact (vlkContent_port ..).trans (congrArg certPort (asked_port ..))
  have hasked : Asked k .certificate .ok s u :=
    asked_of_port (g := certPort) hv (fun _ => ⟨rfl, rfl, rfl⟩) hport (hu ▸ vlkContent_params ..)
  have hself := modV_self k (awaitingPort 0x05 (u.frame + pget u 0x200C 0)) u
  have heq : awaitHost k 0x05 u = modV k (awaitingPort 0x05 (u.frame + pget u 0x200C 0)) u :=
    (awaitHost_eq 0x05 u).trans (if_neg (by rw [hport]; exact ha))
  refine ⟨_, hrow, awaitHost_asked hasked, ?_, ?_⟩
  · rw [heq]
    exact congrArg VPort.awaiting hself
  · rw [heq]
    exact (congrArg VPort.certResp hself).trans (congrArg VPort.certResp hport)

end

/-! ### Responses, content of the host, status records (Table VLK-10, R253 to R255) -/

/-- A port whose response has left. -/
def respondedPort (r : PendReq) (due : Nat) (p : VPort) : VPort :=
  { p with req := none, lastReq := some r.kind, stopped := r.stop, timers := { p.timers with seq := if r.stop then none else some due } }

theorem responseHandoff_leaves {r : PendReq} {a : Answer} (hr : s.vlk.ports[k].req = some r) (he : expired r.handoff s.frame = true)
    (hd : s.vlk.ports[k].down = false) (ha : vlkAnswer s k r = some a) (hs : r.stop = false) :
    ∃ t, exec (.responseHandoff k) s = .next t ∧ t.outbox = s.outbox ++ [.vehicle k r.kind a (vlkFields s k r.kind)]
      ∧ t.vlk.ports[k].req = none ∧ t.vlk.ports[k].lastReq = some r.kind
      ∧ t.vlk.ports[k].timers.seq = some (s.frame + pget s 0x200B 0) ∧ t.outlets = s.outlets := by
  have hrow : exec (.responseHandoff k) s = .next (modV k (respondedPort r (s.frame + pget s 0x200B 0))
      (emit (.vehicle k r.kind a (vlkFields s k r.kind)) s)) := by
    change execResponseHandoff k s = _
    unfold execResponseHandoff
    rw [hr]
    refine (if_neg (not_or.mpr ⟨Classical.not_not.mpr he, Bool.eq_false_iff.mp hd⟩)).trans ?_
    rw [ha]
    exact if_neg fun h => Bool.false_ne_true (hs.symm.trans h.1)
  have hself := modV_self k (respondedPort r (s.frame + pget s 0x200B 0)) (emit (.vehicle k r.kind a (vlkFields s k r.kind)) s)
  refine ⟨_, hrow, rfl, congrArg VPort.req hself, congrArg VPort.lastReq hself, ?_, rfl⟩
  exact (congrArg (fun p : VPort => p.timers.seq) hself).trans (if_neg (Bool.eq_false_iff.mp hs))

theorem responseHandoff_waits {r : PendReq} (hr : s.vlk.ports[k].req = some r) (ha : vlkAnswer s k r = none) :
    exec (.responseHandoff k) s = .next s := by
  change execResponseHandoff k s = _
  unfold execResponseHandoff
  rw [hr]
  dsimp only
  rw [ha]
  exact ite_self _

/-- A port whose host content is replaced with the manual's default. -/
def replacedPort (n : Nat) (d : List Byte) (p : VPort) : VPort :=
  { p with awaiting := none, timers := { p.timers with host := none }
           schedule := if n = 0x04 then some d else p.schedule, certResp := if n = 0x05 then some (1, []) else p.certResp }

theorem vlkHostWait_replaces {n : Nat} (hn : s.vlk.ports[k].awaiting = some n) (he : expired s.vlk.ports[k].timers.host s.frame = true)
    (hd : s.vlk.ports[k].down = false) : ∃ t, exec (.vlkHostWait k) s = .next t ∧ t.vlk.ports[k].awaiting = none
      ∧ t.vlk.ports[k].timers.host = none
      ∧ t.vlk.ports[k].schedule = (if n = 4 then some (defaultSchedule s k) else s.vlk.ports[k].schedule)
      ∧ t.vlk.ports[k].certResp = (if n = 5 then some (1, []) else s.vlk.ports[k].certResp) := by
  have hrow : exec (.vlkHostWait k) s = .next (ev 0x66 k 0 n (modV k (replacedPort n (defaultSchedule s k)) s)) := by
    refine (if_pos ⟨he, Bool.eq_false_iff.mp hd⟩).trans ?_
    dsimp only
    rw [hn]
    rfl
  have hself := (congrArg (fun v : VlkSt => v.ports[k]) (ev_vlk 0x66 k 0 n (modV k (replacedPort n (defaultSchedule s k)) s))).trans
    (modV_self k (replacedPort n (defaultSchedule s k)) s)
  exact ⟨_, hrow, congrArg VPort.awaiting hself, congrArg (fun p : VPort => p.timers.host) hself, congrArg VPort.schedule hself,
    congrArg VPort.certResp hself⟩

/-- The item of a vehicle status record. -/
def statusItem (s : State) (k : Fin 8) : List Byte :=
  leBytes 1 s.vlk.ports[k].soc ++ leSat 4 s.outlets[k].veh.target ++ leInt 4 s.outlets[k].veh.current

theorem length_statusItem (s : State) (k : Fin 8) : (statusItem s k).length = 9 := by
  simp [statusItem, leSat, leInt, length_leBytes]

theorem chunks_one {fuel : Nat} {item : List Byte} (hne : item ≠ []) (hl : item.length ≤ 180) : chunks 180 (fuel + 1) item = [item] := by
  have hrest : item.drop 180 = [] := List.drop_eq_nil_of_le hl
  have hnone : chunks 180 fuel [] = [] := by cases fuel <;> rfl
  rw [chunks, if_neg (by simpa using hne), hrest, hnone, List.take_of_length_le hl]

/-- Content that the mask lets through and one packet holds is one packet of queue 1. -/
theorem vlkContent_one {type : Nat} {item : List Byte} (hm : pget s 0x200E 0 / 2 ^ (type - 1) % 2 = 1) (hne : item ≠ [])
    (hl : item.length ≤ 180) : vlkContent k type item s =
      pushData 1 type k (1 * 256 + 1) (Config.freeNat s.rnd % 2 ^ 32) item s.draw := by
  have hparts : chunks 180 46 (item.take 8192) = [item] := by
    rw [List.take_of_length_le (by omega)]
    exact chunks_one hne hl
  unfold vlkContent
  rw [if_pos hm, hparts]
  rfl

theorem vehicleStatusRecord_row (hst : s.vlk.ports[k].st = .session)
    (hl : s.vlk.ports[k].lastReq = some .currentDemand ∨ s.vlk.ports[k].lastReq = some .chargingStatus)
    (hf : s.vlk.ports[k].lastRec + pget s 0x200F 0 ≤ s.frame) : exec (.vehicleStatusRecord k) s =
      .next (vlkContent k 0x07 (statusItem s k) (modV k (fun p => { p with lastRec := s.frame }) s)) :=
  if_pos ⟨hst, by simpa only [Bool.or_eq_true, beq_iff_eq] using hl, hf⟩

theorem vehicleStatusRecord_enters (hst : s.vlk.ports[k].st = .session)
    (hl : s.vlk.ports[k].lastReq = some .currentDemand ∨ s.vlk.ports[k].lastReq = some .chargingStatus)
    (hf : s.vlk.ports[k].lastRec + pget s 0x200F 0 ≤ s.frame) : ∃ t, exec (.vehicleStatusRecord k) s = .next t
      ∧ t.vlk.ports[k].lastRec = s.frame
      ∧ (pget s 0x200E 0 / 64 % 2 = 1 → s.queues[1].recs.length ≤ 2040 → t.queues[1].recs.length = s.queues[1].recs.length + 2) := by
  refine ⟨_, vehicleStatusRecord_row hst hl hf, congrArg VPort.lastRec (vlkContent_port ..), fun hm hroom => ?_⟩
  have hitem := length_statusItem s k
  have hone := vlkContent_one (s := modV k (fun p => { p with lastRec := s.frame }) s) (k := k) (type := 7) (item := statusItem s k) hm
    (fun h => by rw [h] at hitem; cases hitem) (by omega)
  have hpacket := packetRecs_isPacket (id := 7) (dom := k) (payload := statusItem s k) s.frame (1 * 256 + 1)
    (Config.freeNat s.rnd % 2 ^ 32) s.queues[1].pseq s.queues[1].lostMark (by decide) (by omega) (by omega)
  have hlen : (packetRecs s.frame 7 k (1 * 256 + 1) (Config.freeNat s.rnd % 2 ^ 32) s.queues[1].pseq s.queues[1].lostMark
      (statusItem s k)).length = 2 := by
    rw [hpacket.length_eq, hitem]
  have hpush := pushData_queues_self 7 k (1 * 256 + 1) (Config.freeNat s.rnd % 2 ^ 32) (statusItem s k)
    (modV k (fun p => { p with lastRec := s.frame }) s).draw (q := 1) (by decide)
  have hfits : 4 * (s.queues[1].recs.length + (packetRecs s.frame 7 k (1 * 256 + 1) (Config.freeNat s.rnd % 2 ^ 32) s.queues[1].pseq
      s.queues[1].lostMark (statusItem s k)).length) ≤ queueWords 1 := by
    rw [hlen]
    change _ ≤ 8192
    omega
  rw [hone]
  refine (congrArg (fun q : Queue => q.recs.length) hpush).trans ?_
  refine (congrArg (fun q : Queue => q.recs.length) (Queue.push_of_fits hfits)).trans ?_
  exact List.length_append.trans (congrArg (_ + ·) hlen)

theorem vehicleStatusRecord_none (h1 : s.vlk.ports[k].lastReq ≠ some .currentDemand) (h2 : s.vlk.ports[k].lastReq ≠ some .chargingStatus) :
    exec (.vehicleStatusRecord k) s = .next s := by
  refine if_neg fun h => ?_
  obtain ⟨-, hloop, -⟩ := h
  simp only [Bool.or_eq_true, beq_iff_eq] at hloop
  exact hloop.elim h1 h2

/-- Settles O40: every request of Table VLK-9 by its row, the response, the host's content and the status record by theirs. -/
theorem requestsDriveTheSessionAndAreAnsweredInTime : Obligations.RequestsDriveTheSessionAndAreAnsweredInTime := by
  unfold Obligations.RequestsDriveTheSessionAndAreAnsweredInTime
  exact ⟨fun k s hv ht => ⟨sessionSetupReq_asks hv ht, authorizationReq_asks hv ht, paymentDetailsReq_asks hv ht,
      serviceDiscoveryReq_asks hv ht, chargeParameterDiscoveryReq_asks hv ht, cableCheckReq_asks hv ht, preChargeReq_asks hv ht,
      powerDeliveryReqStart_dc hv ht, powerDeliveryReqStart_ac hv ht, currentDemandReq_asks hv ht, currentDemandReq_fails hv,
      chargingStatusReq_asks hv ht, powerDeliveryReqStop_stops hv ht, weldingDetectionReq_asks hv ht, meteringReceiptReq_asks hv ht,
      certificateInstallationReq_asks hv ht⟩,
    fun k s => ⟨fun r a => responseHandoff_leaves, fun r => responseHandoff_waits, fun n => vlkHostWait_replaces,
      vehicleStatusRecord_enters, vehicleStatusRecord_none⟩⟩

end Sys2Proof.Machine

end

section
/-! PROOF. The commands of the vehicle link (R134, R254, R259, R260). -/

namespace Sys2Proof.Machine

open Host (Outcome)

variable {s t u : State} {k : Fin 8} {h : Hdr}

/-! ### Content in parts (R260) -/

/-- A sequence of parts with its first part stored. -/
def firstPart (s : State) (total part : Nat) (data : List Byte) : Parts := { total := total, last := s.frame, got := [(part, data)] }

theorem partsRules_first {total part : Nat} {data : List Byte} {put : Parts → State → State} {ok : List Byte → Bool} {bad : Nat}
    (h0 : 0 < part) (hp : part ≤ total) (ht : 1 < total) :
    partsRules {} total part data put ok bad s = .accept 0 none (put (firstPart s total part data)) := by
  have hcheck : partsCheck total part {} = none := by
    unfold partsCheck
    rw [if_neg (by omega)]
    rfl
  have hwhole : partsWhole (firstPart s total part data) = none := if_neg fun hw => absurd hw.2 (Nat.ne_of_lt ht)
  unfold partsRules
  rw [hcheck]
  change (match partsWhole (firstPart s total part data) with
    | some b => (_ : Verdict)
    | none => Verdict.accept 0 none (put (firstPart s total part data))) = _
  rw [hwhole]

theorem partLayout {data : List Byte} (hne : data ≠ []) (hl : data.length ≤ 1000) :
    (!data.isEmpty && decide (data.length ≤ 1000)) = true := by simp [hne, hl]

/-- The rules of a command that reads the link's ports and keys read nothing of the command's own link. -/
theorem scheduleRules_entered {outlet part total : Nat} {data : List Byte} :
    scheduleRules outlet part total data (entered h s) = scheduleRules outlet part total data s := by
  rw [entered_eq]
  rfl

theorem certRespRules_entered {outlet part total status : Nat} {data : List Byte} :
    certRespRules outlet part total status data (entered h s) = certRespRules outlet part total status data s := by
  rw [entered_eq]
  rfl

theorem certLoadRules_entered {slot part total : Nat} {data : List Byte} :
    certLoadRules slot part total data (entered h s) = certLoadRules slot part total data s := by
  rw [entered_eq]
  rfl

theorem vlkSchedule_stores {total part : Nat} {data : List Byte} (hf : fencedDomain s k = false) (hst : s.vlk.ports[k].st = .session)
    (hs : s.vlk.ports[k].stopped = false) (hd : s.vlk.ports[k].down = false) (h0 : 0 < part) (hp : part ≤ total)
    (he : s.vlk.ports[k].schedPart = {}) (ht : 1 < total) (hne : data ≠ []) (hl : data.length ≤ 1000) (hpass : Passes h 0x2001 true true s) :
    ∃ t, exec (.vlkSchedule h k part total data) s = .next t
      ∧ t.vlk.ports[k].schedPart = firstPart s total part data ∧ t.vlk.ports[k].schedule = s.vlk.ports[k].schedule
      ∧ t.due = s.due ++ [waitingCmd (.vlkSchedule h k part total data) h 0x2001 0 none s] := by
  have hrules : scheduleRules k part total data s =
      .accept 0 none (modV k (fun p => { p with schedPart := firstPart s total part data })) := by
    refine (dif_pos k.isLt).trans ((if_neg (Bool.eq_false_iff.mp hf)).trans ((if_neg ?_).trans ?_))
    · exact not_or.mpr ⟨Classical.not_not.mpr hst, not_or.mpr ⟨Bool.eq_false_iff.mp hs, Bool.eq_false_iff.mp hd⟩⟩
    · rw [show s.vlk.ports[(⟨k.val, k.isLt⟩ : Fin 8)].schedPart = {} from he]
      exact partsRules_first h0 hp ht
  have hrow : exec (.vlkSchedule h k part total data) s = .next (modV k (fun p => { p with schedPart := firstPart s total part data })
      (accepted (.vlkSchedule h k part total data) h 0x2001 0 none s)) := by
    change ans (hostCmd h 0x2001 _ (!data.isEmpty && decide (data.length ≤ 1000)) true [] _ s) = _
    rw [partLayout hne hl, hostCmd_passes hpass, scheduleRules_entered, hrules]
    rfl
  have hself := modV_self k (fun p => { p with schedPart := firstPart s total part data })
    (accepted (.vlkSchedule h k part total data) h 0x2001 0 none s)
  refine ⟨_, hrow, congrArg VPort.schedPart hself, (congrArg VPort.schedule hself).trans ?_, rfl⟩
  rw [accepted_eq]

theorem vlkCertResp_stores {total part : Nat} {data : List Byte} (hf : fencedDomain s k = false) (hst : s.vlk.ports[k].st = .session)
    (ha : s.vlk.ports[k].awaiting = some 5) (hd : s.vlk.ports[k].down = false) (h0 : 0 < part) (hp : part ≤ total)
    (he : s.vlk.ports[k].certPart = {}) (ht : 1 < total) (hne : data ≠ []) (hl : data.length ≤ 1000) (hpass : Passes h 0x2002 true true s) :
    ∃ t, exec (.vlkCertResp h k part total 0 data) s = .next t ∧ t.vlk.ports[k].certPart = firstPart s total part data := by
  have hrules : certRespRules k part total 0 data s =
      .accept 0 none (modV k (fun p => { p with certPart := firstPart s total part data })) := by
    refine (dif_pos k.isLt).trans ((if_neg (by decide)).trans ((if_neg (Bool.eq_false_iff.mp hf)).trans ((if_neg ?_).trans ?_)))
    · exact not_or.mpr ⟨Classical.not_not.mpr hst, not_or.mpr ⟨Classical.not_not.mpr ha, Bool.eq_false_iff.mp hd⟩⟩
    · rw [show s.vlk.ports[(⟨k.val, k.isLt⟩ : Fin 8)].certPart = {} from he]
      exact partsRules_first h0 hp ht
  have hrow : exec (.vlkCertResp h k part total 0 data) s = .next (modV k (fun p => { p with certPart := firstPart s total part data })
      (accepted (.vlkCertResp h k part total 0 data) h 0x2002 0 none s)) := by
    change ans (hostCmd h 0x2002 _ (!data.isEmpty && decide (data.length ≤ 1000)) true [] _ s) = _
    rw [partLayout hne hl, hostCmd_passes hpass, certRespRules_entered, hrules]
    rfl
  exact ⟨_, hrow, congrArg VPort.certPart (modV_self ..)⟩

theorem vlkSchedule_taken {b : List Byte} (hb : partsWhole u.vlk.ports[k].schedPart = some b) :
    (applySchedule k u).vlk.ports[k].schedule = some b ∧ (applySchedule k u).vlk.ports[k].schedPart = {} := by
  have heq : applySchedule k u = modV k (fun p => { p with
        schedule := some b, schedPart := {}
        awaiting := if p.awaiting = some 0x04 then none else p.awaiting
        timers := { p.timers with host := if p.awaiting = some 0x04 then none else p.timers.host } }) u := by
    refine (dif_pos k.isLt).trans ?_
    dsimp only
    rw [hb]
  have hself := modV_self k (fun p => { p with
        schedule := some b, schedPart := {}
        awaiting := if p.awaiting = some 0x04 then none else p.awaiting
        timers := { p.timers with host := if p.awaiting = some 0x04 then none else p.timers.host } }) u
  rw [heq]
  exact ⟨congrArg VPort.schedule hself, congrArg VPort.schedPart hself⟩

theorem partSequenceTimeout_breaks (hg : s.vlk.ports[k].schedPart.got ≠ []) : exec (.partSequenceTimeout (.schedule k)) s =
    .next (if s.frame ≤ s.vlk.ports[k].schedPart.last + 8000 then s else
      { s with vlk := { s.vlk with ports := s.vlk.ports.set k { s.vlk.ports[k] with schedPart := { broken := true } } } }) := by
  by_cases hf : s.frame ≤ s.vlk.ports[k].schedPart.last + 8000
  · rw [if_pos hf]
    exact if_pos (.inr hf)
  · rw [if_neg hf]
    exact if_neg (not_or.mpr ⟨fun hnil => hg (List.isEmpty_iff.mp hnil), hf⟩)

/-! ### Keys (R259) -/

theorem modKey_self (k : Fin 8) (f : KeySlot → KeySlot) (s : State) : (modKey k f s).vlk.keys[k] = f s.vlk.keys[k] := by
  rw [show modKey k f s = modVlk (fun v => { v with keys := upd v.keys k f }) s from dif_pos k.isLt]
  exact upd_self ..

theorem keyEvent_vlk (slot what : Nat) (s : State) : (keyEvent slot what s).vlk = s.vlk := (ev_vlk ..).trans rfl

theorem vlkKeygenX_begins {curve : Nat} (hc : curve ≤ 2) (hu : keyInUse s k = false) (hg : s.vlk.keygen = none)
    (hpass : Passes h 0x2080 true true s) : exec (.vlkKeygenX h k curve) s = .next { accepted (.vlkKeygenX h k curve) h 0x2080 0 none s with
      vlk := { s.vlk with keygen := some (k, s.frame) } } := by
  have hrules : keygenRules k curve s = .accept 0 none (modVlk fun v => { v with keygen := some (k, s.frame) }) :=
    (if_neg (Nat.not_le.mpr k.isLt)).trans ((if_neg (Nat.not_lt.mpr hc)).trans ((if_neg (Bool.eq_false_iff.mp hu)).trans
      (if_neg (by rw [hg]; decide))))
  have hentered : keygenRules k curve (entered h s) = keygenRules k curve s := by
    rw [entered_eq]
    rfl
  change ans (hostCmd ..) = _
  rw [hostCmd_passes hpass, hentered, hrules]
  dsimp only
  rw [accepted_eq]
  rfl

theorem applyKeygen_makes (curve : Nat) : (applyKeygen k curve u).vlk.keys[k].key ≠ none ∧ (applyKeygen k curve u).vlk.keys[k].curve = curve
    ∧ (applyKeygen k curve u).vlk.keys[k].chain = none ∧ (applyKeygen k curve u).vlk.keygen = none := by
  have hself := modKey_self k (fun _ => { curve := curve, key := some (Config.freeNat u.rnd) }) u.draw
  unfold applyKeygen
  extract_lets n
  rw [keyEvent_vlk]
  refine ⟨?_, congrArg KeySlot.curve hself, congrArg KeySlot.chain hself, rfl⟩
  exact fun hnone => Option.some_ne_none _ ((congrArg KeySlot.key hself).symm.trans hnone)

theorem vlkCertLoadX_stores {total part : Nat} {data : List Byte} (hu : keyInUse s k = false) (h0 : 0 < part) (hp : part ≤ total)
    (he : s.vlk.keys[k].parts = {}) (ht : 1 < total) (hne : data ≠ []) (hl : data.length ≤ 1000) (hpass : Passes h 0x2081 true true s) :
    ∃ t, exec (.vlkCertLoadX h k part total data) s = .next t ∧ t.vlk.keys[k].parts = firstPart s total part data
      ∧ t.vlk.keys[k].key = s.vlk.keys[k].key := by
  have hrules : certLoadRules k part total data s =
      .accept 0 none (modKey k fun x => { x with parts := firstPart s total part data }) := by
    unfold certLoadRules
    rw [vget?_fin]
    refine (if_neg (Bool.eq_false_iff.mp hu)).trans ?_
    rw [he]
    exact partsRules_first h0 hp ht
  have hrow : exec (.vlkCertLoadX h k part total data) s = .next (modKey k (fun x => { x with parts := firstPart s total part data })
      (accepted (.vlkCertLoadX h k part total data) h 0x2081 0 none s)) := by
    change ans (hostCmd h 0x2081 _ (!data.isEmpty && decide (data.length ≤ 1000)) true [] _ s) = _
    rw [partLayout hne hl, hostCmd_passes hpass, certLoadRules_entered, hrules]
    rfl
  have hself := modKey_self k (fun x => { x with parts := firstPart s total part data })
    (accepted (.vlkCertLoadX h k part total data) h 0x2081 0 none s)
  refine ⟨_, hrow, congrArg KeySlot.parts hself, (congrArg KeySlot.key hself).trans ?_⟩
  rw [accepted_eq]

theorem applyKeyClear_clears : (applyKeyClear k u).vlk.keys[k] = {} := by
  unfold applyKeyClear
  rw [keyEvent_vlk]
  exact modKey_self ..

theorem vlkKeyClearX_accepted (hu : keyInUse s k = false) (hpass : Passes h 0x2082 true true s) :
    exec (.vlkKeyClearX h k) s = .next (accepted (.vlkKeyClearX h k) h 0x2082 0 none s) := by
  have hentered : keyInUse (entered h s) k = false := by
    rw [entered_eq]
    exact hu
  exact congrArg ans (hostCmd_accepts hpass rfl rfl ((if_neg (Nat.not_le.mpr k.isLt)).trans (if_neg (Bool.eq_false_iff.mp hentered))))

/-! ### The loopback test (R134), counters -/

theorem vlkLoopbackX_begins (hf : fencedDomain s k = false) (hst : s.outlets[k].st = .unavailable ∨ s.outlets[k].st = .idle)
    (hl : s.vlk.loopTest = none) (hpass : Passes h 0x2083 true true s) :
    ∃ t, exec (.vlkLoopbackX h k) s = .next t ∧ t.vlk.loopTest = some (k, s.frame) ∧ t.vlk.ports = s.vlk.ports := by
  have hrules : ∃ now : State → State, loopbackRules k s = .accept 0 none now
      ∧ ∀ u : State, (now u).vlk = { u.vlk with loopTest := some (k, s.frame) } := by
    refine ⟨_, (dif_pos k.isLt).trans ((if_neg (Bool.eq_false_iff.mp hf)).trans (if_neg ?_)), fun _ => rfl⟩
    rw [not_or, hl]
    exact ⟨fun hn => hst.elim hn.1 hn.2, by decide⟩
  obtain ⟨now, hrules, hnow⟩ := hrules
  have hentered : loopbackRules k (entered h s) = loopbackRules k s := by
    rw [entered_eq]
    rfl
  have hrow : exec (.vlkLoopbackX h k) s = .next (now (accepted (.vlkLoopbackX h k) h 0x2083 0 none s)) := by
    change ans (hostCmd ..) = _
    rw [hostCmd_passes hpass, hentered, hrules]
    rfl
  refine ⟨_, hrow, ?_, ?_⟩
  · rw [hnow]
  · rw [hnow, accepted_eq]

theorem applyStatsClear_zero : (applyStatsClear k u).vlk.ports[k] =
    { u.vlk.ports[k] with decoded := 0, misses := 0, failed := 0, raUses := 0, raDrops := 0 } := by
  rw [show applyStatsClear k u = modV k (fun p => { p with decoded := 0, misses := 0, failed := 0, raUses := 0, raDrops := 0 }) u from
    dif_pos k.isLt]
  exact modV_self ..

/-- Settles O41: the first part of a sequence is stored under the numbers given, and what each command does at its edge. -/
theorem linkCommandsTakeEffect : Obligations.LinkCommandsTakeEffect := by
  unfold Obligations.LinkCommandsTakeEffect
  refine fun h k s hf => ⟨fun hp => congrArg ans (hostCmd_accepts hp rfl rfl (if_pos k.isLt)),
    fun total part data hst hs hd h0 hp he ht hne hl hpass => vlkSchedule_stores hf hst hs hd h0 hp he ht hne hl hpass,
    fun u part total data b hb => ?_,
    fun total part data hst ha hd h0 hp he ht hne hl hpass => vlkCertResp_stores hf hst ha hd h0 hp he ht hne hl hpass,
    fun hp => congrArg ans (hostCmd_accepts hp rfl rfl (if_pos k.isLt)), fun u => ?_, fun curve => vlkKeygenX_begins,
    fun curve u => ?_, fun total part data hu h0 hp he ht hne hl hpass => vlkCertLoadX_stores hu h0 hp he ht hne hl hpass,
    vlkKeyClearX_accepted, fun u => ?_, vlkLoopbackX_begins hf, fun q hq hg => ?_⟩
  · have hedge : atEdge (.vlkSchedule h k part total data) h 0x2001 0 none u = applySchedule k u := atEdge_vlkSchedule ..
    have htaken := vlkSchedule_taken hb
    rw [← hedge] at htaken
    exact htaken
  · exact (congrArg (fun t : State => t.vlk.ports[k]) (atEdge_vlkStatsClear ..)).trans applyStatsClear_zero
  · have hedge : atEdge (.vlkKeygenX h k curve) h 0x2080 0 none u = applyKeygen k curve u := atEdge_vlkKeygenX ..
    have hmade := applyKeygen_makes (k := k) (u := u) curve
    rw [← hedge] at hmade
    exact hmade
  · exact (congrArg (fun t : State => t.vlk.keys[k]) (atEdge_vlkKeyClearX ..)).trans applyKeyClear_clears
  · subst hq
    exact partSequenceTimeout_breaks hg

end Sys2Proof.Machine

end
